-- ==== Sys2Proof/Word.lean ====
section
/-! DEFINITION. The word types of the device. -/

namespace Sys2Proof

/-- A 64-bit value: a Morop general register (R85) or the value of a register of the device (R12). -/
abbrev Word := BitVec 64

end Sys2Proof
end

