-- ==== Sys2Proof/Syntax.lean ====
section
/-! DEFINITION. The commands the block takes: their operands and the one inductive of them. -/

namespace Sys2Proof

/-! Unit numbers, each bounded as the spec bounds it. -/

/-- Channel 0 to 255 (02_layout_table.md R51). -/
abbrev Chan := Fin 256
/-- Global thread number (R78). -/
abbrev Thr := Fin 256
/-- Channel sequencer (R77). -/
abbrev SeqId := Fin 64
/-- Management core (R130). -/
abbrev CoreId := Fin 4
/-- Morop general register number (R85). -/
abbrev Reg := Fin 32
/-- Codec engine (R284). -/
abbrev Eng := Fin 128
/-- Tray of eight engines. -/
abbrev TrayId := Fin 16
/-- Media lane, port and MAC (R194). -/
abbrev MPort := Fin 16
/-- Rendition of a channel (R152). -/
abbrev Rend := Fin 8
/-- Task entry of the dispatcher (R143). -/
abbrev TaskId := Fin 16384
/-- Ingest or egress flow record. -/
abbrev FlowId := Fin 16384
/-- Weneiren port (R568). -/
abbrev WlPort := Fin 3
/-- Host command ring (R552). -/
abbrev RingId := Fin 16
/-- DMA channel (R560). -/
abbrev DmaId := Fin 64
/-- Frame-memory stack and its controller instance (R519). -/
abbrev StackId := Fin 4
/-- Protection group (R605). -/
abbrev GroupId := Fin 64

/-- Who executes a Morop instruction: a sequencer thread or a management core (R78, R130). -/
inductive Agent where
  | thread (t : Thr)
  | core (k : CoreId)
  deriving DecidableEq, Repr

/-- What the code of a sequencer memory or of a core's cache finds in what is read: nothing, one bit in error, or more (R125, R134). -/
inductive Check where
  | clean
  | corrected
  | bad
  deriving DecidableEq, Repr

/-- The issue of one Morop instruction: who issues it, what the code finds in its word, and the raw time (R80, R125, R490). -/
structure Issue where
  agent : Agent
  code : Check
  now : Nat
  deriving DecidableEq, Repr

/-- The issue of an instruction that reads a task descriptor, with what the code finds in the descriptor's words (R125). -/
structure DescRead extends Issue where
  ecc : Check
  deriving DecidableEq, Repr

/-- A read of a sequencer's data word, with what the code finds in it (R125). -/
structure SeqRead where
  seq : SeqId
  ecc : Check
  deriving DecidableEq, Repr

/-- Who makes an access to the register region or to device memory: the host through BAR0 or BAR2, a recipe's thread, a
management core, or another unit named by its block's type ID (R47). -/
inductive Requester where
  | host
  | recipe (t : Thr)
  | mpc (k : CoreId)
  | unit (typeId : Nat)
  deriving DecidableEq, Repr


/-- What the code of R528 finds in a burst that is read: nothing, one symbol in error, or more, with the syndrome that
`MEM_UE_LOG` records. -/
inductive EccResult where
  | clean
  | correctable
  | uncorrectable (syndrome : BitVec 44)
  deriving DecidableEq, Repr

/-- A string of bytes. -/
abbrev Bytes := List (BitVec 8)

/-- A UDP packet as the ingest packet engine sees it: addresses as 16 bytes (an IPv4 address in the first four, R210), ports,
DSCP, the length of the IP header with its options or extension headers, and the UDP payload. -/
structure UdpPacket where
  ipv6 : Bool
  dst : Bytes
  src : Bytes
  dport : BitVec 16
  sport : BitVec 16
  dscp : BitVec 6
  ipHeader : Nat
  payload : Bytes
  deriving DecidableEq, Repr

/-- What a frame carries: a UDP packet, one of the other control protocols of R242 step 1 (IGMP, MLD, ARP, ICMPv6 neighbour
discovery, ICMP echo), or anything else. -/
inductive FrameBody where
  | udp (p : UdpPacket)
  | control (data : Bytes)
  | other
  deriving DecidableEq, Repr

/-- A frame at a MAC: its length in bytes with the FCS, whether the FCS is good, whether it is a PAUSE or priority-flow-control
frame (R197), its VLAN ID and its content. -/
structure EthFrame where
  len : Nat
  fcsOk : Bool
  pause : Bool
  vlan : Option (BitVec 12)
  body : FrameBody
  deriving DecidableEq, Repr

/-- The sequence parameters that a decoder reads (07_codec_engines.md R291, R292, R310): codec (VVC), profile as PROFILE codes it and other values for
those it does not name, tier, level as the bitstream codes it, chroma_format_idc, bit depth, picture size, CTU size, widths of the tile columns in
CTUs, CTU rows, and whether wavefronts are used. -/
structure SeqParams where
  vvc : Bool
  profile : Nat
  high : Bool
  level : Nat
  chroma : Nat
  depth : Nat
  width : Nat
  height : Nat
  ctu : Nat
  columns : List Nat
  rows : Nat
  wavefronts : Bool
  deriving DecidableEq, Repr

/-- What the first bytes of an access unit show a decoder (R402 to R404): an entry point (IRAP, recovery-point or GDR picture), an IRAP
picture, the parameters of its sequence, a RASL picture of the CRA picture at which decoding began. -/
structure AuHead where
  entry : Bool
  irap : Bool
  sps : SeqParams
  rasl : Bool
  deriving DecidableEq, Repr

/-- What decoding a part of an access unit finds (R402, R405): references missing, CTUs of slices with syntax errors and of slices that are missing,
whether the picture lies before its recovery count, the output buffers that stay marked as references, those among them that are long-term, and what
the engine writes of the picture, by offset in its output buffer (R405, R406). -/
structure DecResult where
  missingRefs : Nat
  ctuSyntax : Nat
  ctuMissing : Nat
  recovering : Bool
  keeps : List Nat
  long : List Nat
  recon : List (Nat × List (BitVec 8))
  deriving DecidableEq, Repr

/-- Where a motion search starts (R311): the proofing seed of a 64 by 64 region of the CTU, the zero vector, or the first merge candidate. -/
inductive MotionStart where
  | seed (q : Fin 4)
  | zero
  | merge (x y : Int)
  deriving DecidableEq, Repr

/-- How a prediction block came to its vector, in quarter samples: by a search around a candidate, with what it found around it, or as a merge or
temporal candidate (R311, R312, R329). -/
inductive MotionFound where
  | searched (c : MotionStart) (dx dy : Int)
  | merged (x y : Int)
  | temporal (x y : Int)
  deriving DecidableEq, Repr

/-- The motion of a prediction block of a CTU: place in the CTU and size in luma samples, place of its reference in the picture's list, and vector. -/
structure Motion where
  x : Nat
  y : Nat
  w : Nat
  h : Nat
  ref : Nat
  found : MotionFound
  deriving DecidableEq, Repr

/-- The work of an engine on a CTU: the addresses of its reference reads, the motion of its prediction blocks, and the bytes of reconstruction and
motion field that it writes, by offset in the picture's slot (R287, R311, R315). -/
structure CtuWork where
  reads : List Nat
  motion : List Motion
  recon : List (Nat × List (BitVec 8))
  deriving DecidableEq, Repr

/-- A request that a memory controller serves: stack, pseudo-channel and channel, rank and bank of its queue, and its place there (R524). -/
structure MemServed where
  stack : Fin 4
  pc : Fin 32
  rank : Fin 3
  bank : Fin 64
  place : Nat
  deriving DecidableEq, Repr

/-- The levels at an input pin at the two BCLK edges of a bit time (R423). -/
structure PinBit where
  rising : Bool := false
  falling : Bool := false
  deriving DecidableEq, Repr

/-- What a proofing pipeline reports of a picture of a PRF task: which of its blocks, in raster order, it has analysed (R282). -/
structure PrfResult where
  blocks : List Bool
  deriving DecidableEq, Repr

/-- What a unit reports with the end of a task (R120): nothing, or what a DEC or a PRF task found. -/
inductive TaskResult where
  | done
  | decoded (r : DecResult)
  | analysed (r : PrfResult)
  deriving DecidableEq, Repr

/-- What Tasting measures of a band (R334, R335): sums of squared differences, the sum of the SSIM of its counted 8 by 8 blocks in
2^-16, their number, and the smallest. -/
structure TasteBand where
  sseY : Nat
  sseCb : Nat
  sseCr : Nat
  ssimSum : Int
  ssimBlocks : Nat
  ssimMin : Int
  deriving DecidableEq, Repr

/-- What the assembly of a budget unit finds besides its CTUs: bits of every CTU that no engine committed (R373, R377), the CRC-64 of
each column's reconstruction (R339), and the Tasting of each band. -/
structure Assembly where
  fillBits : List Nat
  crcs : List (BitVec 64)
  taste : List TasteBand
  deriving DecidableEq, Repr

/-- The NAL units of a release unit, in bytes: those that are not coded slices, and the coded slices (11_egress.md R453). -/
structure UnitNals where
  heads : List Nat
  slices : List Nat
  deriving DecidableEq, Repr

/-- The header of a received flit (15_weneiren.md R570): SEQ, ACK_SEQ, NAK and the credits it returns. -/
structure FlitHdr where
  seq : BitVec 12
  ack : BitVec 12
  nak : Bool
  cvc : BitVec 3
  credits : BitVec 12
  deriving DecidableEq, Repr

/-- What a media unit holds: a coded unit with the sampling instant of its picture in 2^-32 ns and whether it ends the picture, or the payload
of one packet with its RTP timestamp. -/
inductive MediaBody where
  | video (inst : Nat) (last : Bool) (nals : UnitNals)
  | data (ts : BitVec 32) (payload : Bytes)
  deriving DecidableEq, Repr

/-- A media unit for an output stage (11_egress.md R484, 16_redundancy.md R622): its egress flow here, the claim and UNIT of its producer, its
release time in 2^-32 ns, and what it holds. -/
structure MediaUnit where
  flow : Fin 16384
  claim : BitVec 32
  unit : BitVec 3
  rel : Nat
  body : MediaBody
  deriving DecidableEq, Repr

/-- A sequenced flit that the egress or the firmware hands to a port (R571): MEDIA or MSG. -/
structure TxFlit where
  media : Bool
  data : Bytes
  deriving DecidableEq, Repr

/-- What a device other than this one bids in a Claim Bus cycle (16_redundancy.md R593, R597): its claim and UNIT. -/
structure Bid where
  claim : BitVec 32
  unit : BitVec 3
  deriving DecidableEq, Repr

/-- The port through which a command reaches the Paddock: the host mailbox, or its sideband bus with the command's argument and the block that
an authority command holds (19_paddock.md R693, R694). -/
inductive PdkPort where
  | mailbox
  | sideband (arg : BitVec 64) (block : Bytes)
  deriving DecidableEq, Repr

/-- What the Paddock measures of a programme under BS.1770-4 (R684): integrated loudness (none until a block has passed both gates), short-term
loudness and its largest value, loudness range and true peak, in hundredths. -/
structure Loudness where
  integrated : Option (BitVec 16)
  short : BitVec 16
  shortMax : BitVec 16
  lra : BitVec 16
  peak : BitVec 16
  deriving DecidableEq, Repr

/-- An uncorrectable error that the memory test of a boot meets (21_startup.md R723): the address, or the spare rank, and the syndrome. -/
structure TestError where
  addr : BitVec 48
  spare : Bool
  syndrome : BitVec 44
  deriving DecidableEq, Repr

/-- What a boot flow finds (R717): whether the root PLL locks, the contents of the SPI flash, and the memory test's uncorrectable errors. -/
structure BootIn where
  pll : Bool
  flash : Bytes
  errors : List TestError
  deriving DecidableEq, Repr

/-- What the outside brings to an access to the register region: the time at which it completes, the bytes that host memory answers to a DMA list that
it starts, and what the boot flow and the memory test find where it resets the core or starts a recovery. -/
structure AccessIn where
  now : Nat
  host : Bytes
  boot : BootIn
  errors : List TestError
  deriving DecidableEq, Repr

/-- The commands and events of the device: one constructor per row of spec/opcode_table.json, in the table's order. -/
inductive Instr where
  /-- REGISTER_WRITE (R6): A write to a register field that has no row of its own takes effect according to its access code. -/
  | registerWrite (q : Requester) (off : BitVec 26) (size : Fin 4) (v : Word) (x : AccessIn)
  /-- RC_REGISTER_READ (R8): A read of an RC register returns its value and clears it, keeping any event of the same cycle. -/
  | rcRegisterRead (q : Requester) (off : BitVec 26) (size : Fin 4) (now : Nat)
  /-- LOW_WORD_READ (R13): A read of the low word of a 64-bit register latches the high word for the read that follows. -/
  | lowWordRead (q : Requester) (off : BitVec 26) (now : Nat)
  /-- LOW_WORD_WRITE (R749): A write of the low word of a 64-bit register is held until the write of the high word. -/
  | lowWordWrite (q : Requester) (off : BitVec 26) (v : BitVec 32) (x : AccessIn)
  /-- SRW_WRITE (R65): A write to an SRW field enters the shadow copy and lands in the next snapshot. -/
  | srwWrite (q : Requester) (off : BitVec 26) (size : Fin 4) (v : Word) (x : AccessIn)
  /-- CTX_SHADOW_CTRL_WRITE (R70): A write of HOLD sets or clears hold; clearing it lands every held write in one snapshot. -/
  | ctxShadowCtrlWrite (q : Requester) (ch : Chan) (hold : Bool)
  /-- HANDOVER (R61): At T_frame(n) the channel increments CTX_COMMIT_SEQ, takes the snapshot and posts HANDOVER. -/
  | handover (ch : Chan) (now : Nat)
  /-- PROOFING_SLOT_START (R29): At T_capture(k) + 12 µs the owned proofing and scaler pipelines start on slice k. -/
  | proofingSlotStart (ch : Chan) (now : Nat)
  /-- PROOFING_SLOT_END (R258): At the end of the proofing slot the slice results and seeds are written, PROOF_DONE is posted and the engine slot begins. -/
  | proofingSlotEnd (ch : Chan) (blocks : List Bool) (late : List Nat) (now : Nat)
  /-- CODING_DEADLINE (R377): At the coding deadline uncommitted CTUs become late CTUs or the unit becomes a repeat, and assembly begins. -/
  | codingDeadline (ch : Chan) (r : Rend) (a : Assembly) (now : Nat)
  /-- SLICE_RELEASE (R26): At T_capture(k) + D a sub-frame band becomes eligible on its egress port and is removed from the CPB model. -/
  | sliceRelease (ch : Chan) (r : Rend) (n : UnitNals) (now : Nat)
  /-- PICTURE_RELEASE (R36): At T_capture(i) + D a frame-mode picture becomes eligible on its egress port. -/
  | pictureRelease (ch : Chan) (r : Rend) (n : UnitNals) (now : Nat)
  /-- LATE_RELEASE (R385): A unit staged after its release time is released at once, counted and reported to the Sieve. -/
  | lateRelease (ch : Chan) (r : Rend) (n : UnitNals) (now : Nat)
  /-- SKIP_UNIT_EMIT (R485): At a release time with no accepted unit, the gated output stage sends the skip unit from the template. -/
  | skipUnitEmit (f : FlowId) (n : Nat) (k : Nat) (nals : UnitNals) (now : Nat)
  /-- ADD (R110): Adds two registers. -/
  | add (x : Issue) (rd : Reg) (rs1 : Reg) (rs2 : Reg)
  /-- SUB (R110): Subtracts two registers. -/
  | sub (x : Issue) (rd : Reg) (rs1 : Reg) (rs2 : Reg)
  /-- AND (R110): Bitwise AND of two registers. -/
  | and (x : Issue) (rd : Reg) (rs1 : Reg) (rs2 : Reg)
  /-- OR (R110): Bitwise OR of two registers. -/
  | or (x : Issue) (rd : Reg) (rs1 : Reg) (rs2 : Reg)
  /-- XOR (R110): Bitwise XOR of two registers. -/
  | xor (x : Issue) (rd : Reg) (rs1 : Reg) (rs2 : Reg)
  /-- SHL (R110): Shifts left by a register amount. -/
  | shl (x : Issue) (rd : Reg) (rs1 : Reg) (rs2 : Reg)
  /-- SHR (R110): Shifts right with zero fill by a register amount. -/
  | shr (x : Issue) (rd : Reg) (rs1 : Reg) (rs2 : Reg)
  /-- SRA (R110): Shifts right arithmetically by a register amount. -/
  | sra (x : Issue) (rd : Reg) (rs1 : Reg) (rs2 : Reg)
  /-- SLT (R110): Sets rd to 1 on a signed less-than. -/
  | slt (x : Issue) (rd : Reg) (rs1 : Reg) (rs2 : Reg)
  /-- SLTU (R110): Sets rd to 1 on an unsigned less-than. -/
  | sltu (x : Issue) (rd : Reg) (rs1 : Reg) (rs2 : Reg)
  /-- MIN (R110): Signed minimum of two registers. -/
  | min (x : Issue) (rd : Reg) (rs1 : Reg) (rs2 : Reg)
  /-- MAX (R110): Signed maximum of two registers. -/
  | max (x : Issue) (rd : Reg) (rs1 : Reg) (rs2 : Reg)
  /-- MINU (R110): Unsigned minimum of two registers. -/
  | minu (x : Issue) (rd : Reg) (rs1 : Reg) (rs2 : Reg)
  /-- MAXU (R110): Unsigned maximum of two registers. -/
  | maxu (x : Issue) (rd : Reg) (rs1 : Reg) (rs2 : Reg)
  /-- ADDS (R110): Saturating signed addition. -/
  | adds (x : Issue) (rd : Reg) (rs1 : Reg) (rs2 : Reg)
  /-- SUBS (R110): Saturating signed subtraction. -/
  | subs (x : Issue) (rd : Reg) (rs1 : Reg) (rs2 : Reg)
  /-- MUL (R110): Low 64 bits of a product. -/
  | mul (x : Issue) (rd : Reg) (rs1 : Reg) (rs2 : Reg)
  /-- MULHU (R110): High 64 bits of an unsigned product. -/
  | mulhu (x : Issue) (rd : Reg) (rs1 : Reg) (rs2 : Reg)
  /-- MULQ (R110): Q16 fixed-point signed saturated multiply. -/
  | mulq (x : Issue) (rd : Reg) (rs1 : Reg) (rs2 : Reg)
  /-- DIVU (R110): Unsigned division over 20 cycles, all ones on a zero divisor. -/
  | divu (x : Issue) (rd : Reg) (rs1 : Reg) (rs2 : Reg)
  /-- REMU (R110): Unsigned remainder over 20 cycles, rs1 on a zero divisor. -/
  | remu (x : Issue) (rd : Reg) (rs1 : Reg) (rs2 : Reg)
  /-- CLZ (R110): Counts leading zeros. -/
  | clz (x : Issue) (rd : Reg) (rs1 : Reg) (rs2 : Reg)
  /-- POPC (R110): Counts set bits. -/
  | popc (x : Issue) (rd : Reg) (rs1 : Reg) (rs2 : Reg)
  /-- ADDI (R110): Adds a sign-extended immediate. -/
  | addi (x : Issue) (rd : Reg) (rs1 : Reg) (imm : BitVec 16)
  /-- ANDI (R110): ANDs a zero-extended immediate. -/
  | andi (x : Issue) (rd : Reg) (rs1 : Reg) (imm : BitVec 16)
  /-- ORI (R110): ORs a zero-extended immediate. -/
  | ori (x : Issue) (rd : Reg) (rs1 : Reg) (imm : BitVec 16)
  /-- XORI (R110): XORs a zero-extended immediate. -/
  | xori (x : Issue) (rd : Reg) (rs1 : Reg) (imm : BitVec 16)
  /-- SLTI (R110): Signed compare with a sign-extended immediate. -/
  | slti (x : Issue) (rd : Reg) (rs1 : Reg) (imm : BitVec 16)
  /-- SLTIU (R110): Unsigned compare with a sign-extended immediate. -/
  | sltiu (x : Issue) (rd : Reg) (rs1 : Reg) (imm : BitVec 16)
  /-- SHLI (R110): Shifts left by an immediate amount. -/
  | shli (x : Issue) (rd : Reg) (rs1 : Reg) (imm : BitVec 16)
  /-- SHRI (R110): Shifts right with zero fill by an immediate amount. -/
  | shri (x : Issue) (rd : Reg) (rs1 : Reg) (imm : BitVec 16)
  /-- SRAI (R110): Shifts right arithmetically by an immediate amount. -/
  | srai (x : Issue) (rd : Reg) (rs1 : Reg) (imm : BitVec 16)
  /-- INSI (R110): Inserts a 16-bit immediate into one lane of rd. -/
  | insi (x : Issue) (rd : Reg) (lane : BitVec 2) (imm : BitVec 16)
  /-- LB (R110): Loads a zero-extended byte. -/
  | lb (x : Issue) (rd : Reg) (rs1 : Reg) (imm : BitVec 16) (ecc : Check)
  /-- LH (R110): Loads a zero-extended half-word. -/
  | lh (x : Issue) (rd : Reg) (rs1 : Reg) (imm : BitVec 16) (ecc : Check)
  /-- LW (R110): Loads a zero-extended word. -/
  | lw (x : Issue) (rd : Reg) (rs1 : Reg) (imm : BitVec 16) (ecc : Check)
  /-- LWS (R110): Loads a sign-extended word. -/
  | lws (x : Issue) (rd : Reg) (rs1 : Reg) (imm : BitVec 16) (ecc : Check)
  /-- LD (R110): Loads a 64-bit value. -/
  | ld (x : Issue) (rd : Reg) (rs1 : Reg) (imm : BitVec 16) (ecc : Check)
  /-- LWF (R94): Far load of 32 bits through a far window; the thread blocks. -/
  | lwf (x : Issue) (rd : Reg) (rs1 : Reg) (imm : BitVec 16)
  /-- LDF (R94): Far load of 64 bits through a far window; the thread blocks. -/
  | ldf (x : Issue) (rd : Reg) (rs1 : Reg) (imm : BitVec 16)
  /-- SB (R110): Stores a byte. -/
  | sb (x : Issue) (rd : Reg) (rs1 : Reg) (imm : BitVec 16)
  /-- SH (R110): Stores a half-word. -/
  | sh (x : Issue) (rd : Reg) (rs1 : Reg) (imm : BitVec 16)
  /-- SW (R110): Stores a word. -/
  | sw (x : Issue) (rd : Reg) (rs1 : Reg) (imm : BitVec 16)
  /-- SD (R110): Stores a 64-bit value. -/
  | sd (x : Issue) (rd : Reg) (rs1 : Reg) (imm : BitVec 16)
  /-- SWF (R94): Far store of 32 bits; the thread blocks. -/
  | swf (x : Issue) (rd : Reg) (rs1 : Reg) (imm : BitVec 16)
  /-- SDF (R94): Far store of 64 bits; the thread blocks. -/
  | sdf (x : Issue) (rd : Reg) (rs1 : Reg) (imm : BitVec 16)
  /-- FAR_ACCESS_COMPLETE (R95): A far access completes and unblocks its thread, trapping with FER on an error response. -/
  | farAccessComplete (a : Agent) (ecc : EccResult) (y : AccessIn)
  /-- AADD (R110): Atomic fetch-and-add on a data-partition word. -/
  | aadd (x : Issue) (rd : Reg) (rs1 : Reg) (rs2 : Reg) (ecc : Check)
  /-- ASWP (R110): Atomic swap on a data-partition word. -/
  | aswp (x : Issue) (rd : Reg) (rs1 : Reg) (rs2 : Reg) (ecc : Check)
  /-- ACAS (R110): Atomic compare-and-swap on a data-partition word. -/
  | acas (x : Issue) (rd : Reg) (rs1 : Reg) (rs2 : Reg) (ecc : Check)
  /-- BEQ (R110): Branches if equal. -/
  | beq (x : Issue) (rs1 : Reg) (rs2 : Reg) (off : BitVec 16)
  /-- BNE (R110): Branches if not equal. -/
  | bne (x : Issue) (rs1 : Reg) (rs2 : Reg) (off : BitVec 16)
  /-- BLT (R110): Branches on a signed less-than. -/
  | blt (x : Issue) (rs1 : Reg) (rs2 : Reg) (off : BitVec 16)
  /-- BGE (R110): Branches on a signed greater-or-equal. -/
  | bge (x : Issue) (rs1 : Reg) (rs2 : Reg) (off : BitVec 16)
  /-- BLTU (R110): Branches on an unsigned less-than. -/
  | bltu (x : Issue) (rs1 : Reg) (rs2 : Reg) (off : BitVec 16)
  /-- BGEU (R110): Branches on an unsigned greater-or-equal. -/
  | bgeu (x : Issue) (rs1 : Reg) (rs2 : Reg) (off : BitVec 16)
  /-- JAL (R110): Jumps relative and links. -/
  | jal (x : Issue) (rd : Reg) (off : BitVec 21)
  /-- JALR (R110): Jumps to a register target and links. -/
  | jalr (x : Issue) (rd : Reg) (rs1 : Reg) (imm : BitVec 16)
  /-- ISSUE (R116): Submits a task descriptor to the dispatcher and returns a handle or a refusal status. -/
  | issue (x : DescRead) (rd : Reg) (rs1 : Reg) (imm : BitVec 16)
  /-- ISSUED (R119): Submits a task descriptor to the delay lists for release at a PTP time. -/
  | issued (x : DescRead) (rd : Reg) (rs1 : Reg) (rs2 : Reg)
  /-- ISSUE_UNBLOCK (R754): A task entry becomes available to a blocked ISSUE, which retests and accepts or refuses. -/
  | issueUnblock (a : Agent) (now : Nat)
  /-- CANCEL (R123): Cancels a task handle under the cancel rules. -/
  | cancel (x : Issue) (rd : Reg) (rs1 : Reg) (rs2 : Reg)
  /-- WAIT (R111): Waits for an event in a mask, optionally with a PTP deadline. -/
  | wait (x : Issue) (rd : Reg) (rs1 : Reg) (rs2 : Reg) (timed : Bool)
  /-- WAIT_RETURN (R113): A waiting thread returns on a pending masked event or its deadline tick. -/
  | waitReturn (a : Agent) (now : Nat)
  /-- SIG (R110): Posts a software event 48 to 63 to a global thread. -/
  | sig (x : Issue) (rd : Reg) (rs1 : Reg) (rs2 : Reg)
  /-- TIME (R110): Reads local PTP time. -/
  | time (x : Issue) (rd : Reg) (rs1 : Reg) (rs2 : Reg)
  /-- TRAW (R110): Reads the timebase raw counter. -/
  | traw (x : Issue) (rd : Reg) (rs1 : Reg) (rs2 : Reg)
  /-- TEPOCH (R110): Reads the current epoch number. -/
  | tepoch (x : Issue) (rd : Reg) (rs1 : Reg) (rs2 : Reg)
  /-- MFS (R87): Reads a special register. -/
  | mfs (x : Issue) (rd : Reg) (rs1 : Reg) (imm : BitVec 16)
  /-- MTS (R122): Writes a special register, including the completion-ring registers. -/
  | mts (x : Issue) (rd : Reg) (rs1 : Reg) (imm : BitVec 16)
  /-- FENCE (R110): Waits until every earlier store and far access of the thread has completed. -/
  | fence (x : Issue) (rd : Reg) (rs1 : Reg) (rs2 : Reg)
  /-- FENCE_COMPLETE (R110): The outstanding stores of a fenced thread complete and it continues. -/
  | fenceComplete (a : Agent) (now : Nat)
  /-- YIELD (R110): Gives up the issue slot for one cycle. -/
  | yield (x : Issue) (rd : Reg) (rs1 : Reg) (rs2 : Reg)
  /-- HALT (R110): Asks the thread to become IDLE after its earlier stores, or traps HLT. -/
  | halt (x : Issue) (rd : Reg) (rs1 : Reg) (rs2 : Reg)
  /-- HALT_COMPLETE (R79): A halting thread's stores complete, it becomes IDLE and its channel binding ends. -/
  | haltComplete (t : Thr) (now : Nat)
  /-- RETV (R110): Returns from a vector handler to EPC and sets VEN. -/
  | retv (x : Issue) (rd : Reg) (rs1 : Reg) (rs2 : Reg)
  /-- BKPT (R110): Traps with cause BKP. -/
  | bkpt (x : Issue) (rd : Reg) (rs1 : Reg) (rs2 : Reg)
  /-- TRAP (R110): Traps with cause SWT and the immediate as TVAL. -/
  | trap (x : Issue) (rd : Reg) (rs1 : Reg) (imm : BitVec 16)
  /-- UNDEFINED_INSTRUCTION (R108): An instruction with an undefined encoding or non-zero unused bits traps with ILL. -/
  | undefinedInstruction (x : Issue) (word : BitVec 32)
  /-- VECTOR_ENTRY (R102): A pending vectored event with VEN set saves EPC and jumps to its slot. -/
  | vectorEntry (t : Thr)
  /-- RDK (R131): A management core reads a control register. -/
  | rdk (x : Issue) (rd : Reg) (rs1 : Reg) (imm : BitVec 16)
  /-- WRK (R131): A management core writes a control register. -/
  | wrk (x : Issue) (rd : Reg) (rs1 : Reg) (imm : BitVec 16)
  /-- RETK (R133): A management core leaves its handler. -/
  | retk (x : Issue) (rd : Reg) (rs1 : Reg) (rs2 : Reg)
  /-- SLEEP (R131): A management core stops issue until an enabled line is pending. -/
  | sleep (x : Issue) (rd : Reg) (rs1 : Reg) (rs2 : Reg)
  /-- CORE_SLEEP_WAKE (R131): An enabled line becomes pending and a sleeping core resumes issue. -/
  | coreSleepWake (k : CoreId)
  /-- DCINV (R131): Drops one data-cache line without write-back. -/
  | dcinv (x : Issue) (rd : Reg) (rs1 : Reg) (rs2 : Reg)
  /-- DCWB (R131): Writes back and drops one data-cache line. -/
  | dcwb (x : Issue) (rd : Reg) (rs1 : Reg) (rs2 : Reg)
  /-- DCWBALL (R131): Writes back every dirty line and drops the data cache. -/
  | dcwball (x : Issue) (rd : Reg) (rs1 : Reg) (rs2 : Reg)
  /-- ICINV (R131): Drops the whole instruction cache. -/
  | icinv (x : Issue) (rd : Reg) (rs1 : Reg) (rs2 : Reg)
  /-- CORE_HANDLER_ENTRY (R133): A management core enters a handler on a pending enabled interrupt line. -/
  | coreHandlerEntry (k : CoreId)
  /-- CTX_DOORBELL (R98): A write posts a software event to the thread bound to the channel. -/
  | ctxDoorbell (ch : Chan) (ev : BitVec 6)
  /-- THREAD_START (R751): SEQ_TH_CTRL.START starts an IDLE thread at its START entry and clears its state. -/
  | threadStart (t : Thr)
  /-- THREAD_STOP (R751): SEQ_TH_CTRL.STOP puts the thread into IDLE at once. -/
  | threadStop (t : Thr)
  /-- THREAD_RESUME (R127): SEQ_TH_CTRL.RESUME resumes a TRAPPED thread at its resume entry or START. -/
  | threadResume (t : Thr)
  /-- STOP_TIMEOUT (R129): A thread that has not halted within STOP_LIMIT after STOP is forced to IDLE with cause STOPTO. -/
  | stopTimeout (t : Thr) (now : Nat)
  /-- SEQ_MEM_DATA_WRITE (R137): A host write of sequencer memory through SEQ_MEM_DATA, refused for instruction memory while threads run. -/
  | seqMemDataWrite (n : SeqId) (v : Word)
  /-- SEQ_MEM_DATA_READ (R135): A read of SEQ_MEM_DATA returns the addressed word and advances ADDR under AUTOINC. -/
  | seqMemDataRead (n : SeqRead)
  /-- SEQ_TASK_POST (R166): The dispatcher posts a READY SEQ task as an event bit to its thread. -/
  | seqTaskPost
  /-- MPC_TASK_DISPATCH (R169): An MPC task is delivered to a core with room, setting its event and raising line 0. -/
  | mpcTaskDispatch (now : Nat)
  /-- DIRECT_DISPATCH (R160): A task of a sub-frame channel starts on its owned engine when the engine is free. -/
  | directDispatch (e : Eng) (h : AuHead) (now : Nat)
  /-- TASK_DISPATCH (R163): The deficit round robin dispatches the oldest eligible fitting task of a group. -/
  | taskDispatch (h : AuHead) (now : Nat)
  /-- TASK_END (R120): A unit reports the end of a task and the dispatcher writes its completion record and posts TASK_DONE. -/
  | taskEnd (e : TaskId) (r : TaskResult) (reads : List Nat) (now : Nat)
  /-- HELD_RECORD_WRITE (R121): A completion record held for a full ring is written once the recipe frees a record. -/
  | heldRecordWrite (a : Agent)
  /-- DISPATCHER_TICK (R171): At each tick DELAYED tasks whose release time has passed are made READY. -/
  | dispatcherTick (now : Nat)
  /-- DSP_TICK_WRITE (R173): A write of the tick period is held and applied at the next tick. -/
  | dspTickWrite (v : BitVec 14)
  /-- DSP_CANCEL (R175): A host or core write cancels a task by handle and posts the result. -/
  | dspCancel (h : BitVec 32)
  /-- ADMIT (R180): OP ADMIT evaluates a cost declaration and records every charge or refuses. -/
  | admitChannel (ch : Chan)
  /-- RELEASE (R185): OP RELEASE starts returning a channel's admission charges. -/
  | release (ch : Chan)
  /-- RELEASE_COMPLETE (R185): When the channel's last task entry is FREE the charges return and RESULT RELEASED is written. -/
  | releaseComplete (ch : Chan)
  /-- MPC_AGE (R189): An MPC task READY longer than LIMIT_US raises the MPC_AGE notice once. -/
  | mpcAge (now : Nat)
  /-- ENTRY_ECC (R190): An uncorrectable error in a task entry ends its task with UNIT_ERROR and raises ENTRY_ECC. -/
  | entryEcc (e : TaskId) (now : Nat)
  /-- MAC_FRAME_RECEIVE (R196): A MAC receives a frame, time-stamps it and discards bad, short, long and PAUSE frames. -/
  | macFrameReceive (m : MPort) (f : EthFrame) (now : Nat)
  /-- INGEST_PACKET (R242): The ingest engine classifies, polices, merges and writes a packet, leaving by exactly one counted exit. -/
  | ingestPacket (full : Bool) (now : Nat)
  /-- POLICER_SWEEP (R223): The background sweep refills the buckets of every valid Flow Table entry. -/
  | policerSweep (now : Nat)
  /-- PATH_SILENT (R244): One path of a merge pair silent for 10 ms while the other delivers raises PATH_SILENT. -/
  | pathSilent (p : Fin 2048) (b : Bool) (now : Nat)
  /-- FLOW_TABLE_ECC (R244): An uncorrectable error in a Flow Table entry or flow record invalidates it and raises TABLE_ECC. -/
  | flowTableEcc (e : Fin 32768) (now : Nat)
  /-- ING_IND_SEL (R247): A write selects a flow and snapshots its counters into the window. -/
  | ingIndSel (w : Fin 4) (f : FlowId)
  /-- EYE_WINDOW (R199): A lane measures its eye margin over one window. -/
  | eyeWindow (l : MPort) (mv : Nat) (now : Nat)
  /-- FORCE_CTLE (R202): A write removes the decision-feedback equaliser from a lane. -/
  | forceCtle (l : MPort)
  /-- LANE_LOCK_LOSS (R203): A media lane loses lock, its port goes down and its Sieve source is raised. -/
  | laneLockLoss (l : MPort) (midFrame : Bool) (now : Nat)
  /-- PORT_UP (R205): A down port finishes retraining and comes up. -/
  | portUp (m : MPort) (now : Nat)
  /-- SCL_COEF_LOAD (R273): LOAD takes the custom coefficient set, valid only if every phase sums to 256. -/
  | sclCoefLoad
  /-- PROOFING_BUF_ECC (R282): An uncorrectable error in proofing memory marks the touched blocks and raises BUF_ECC. -/
  | proofingBufEcc (ch : Chan) (touched : List Nat) (now : Nat)
  /-- SCALER_BUF_ECC (R282): An uncorrectable error in scaler line memory ends the task or marks the band missing. -/
  | scalerBufEcc (p : Fin 8) (r : Rend) (now : Nat)
  /-- CTU_START (R375): Before each normal CTU the engine tests the deadline and may switch the column to crust mode. -/
  | ctuStart (e : Eng) (now : Nat)
  /-- CTU_COMPLETE (R368): Rate control tests a completed CTU against the window, commits it and updates the quantiser. -/
  | ctuComplete (e : Eng) (bits : Nat) (work : CtuWork) (now : Nat)
  /-- ENGINE_SRAM_ECC (R290): An uncorrectable engine-local SRAM error ends the task with UNIT_ERROR and raises ENGINE_FAULT. -/
  | engineSramEcc (e : Eng) (now : Nat)
  /-- ENGINE_TIMEOUT (R290): A task beyond four times its worst-case time ends with UNIT_ERROR and raises ENGINE_FAULT. -/
  | engineTimeout (e : Eng) (now : Nat)
  /-- REF_CACHE_ECC (R288): An uncorrectable reference-cache error invalidates and refetches the line and raises the tray source. -/
  | refCacheEcc (t : TrayId) (now : Nat)
  /-- PROOF_START (R342): An idle eligible engine starts the proof decode of a selected bitstream slice. -/
  | proofStart (e : Eng) (now : Nat)
  /-- PROOF_END (R344): A proof compares its CRC-64, counting a pass or arbitrating a mismatch. -/
  | proofEnd (e : Eng) (crc : Word) (reads : List Nat) (now : Nat)
  /-- PROOF_AGE_EXPIRY (R343): A selected slice not proofed within PROOF_AGE frames is dropped and counted. -/
  | proofAgeExpiry (now : Nat)
  /-- ENGINE_ISOLATE (R345): ENG_CTRL.ISOLATE isolates an engine as an S2 isolation would. -/
  | engineIsolate (e : Eng)
  /-- ENGINE_RESTORE (R346): ENG_CTRL.RESTORE returns an isolated engine with no unacknowledged record to service. -/
  | engineRestore (e : Eng)
  /-- TRAY_INVALIDATE (R348): TRAY_CTRL.INVALIDATE drops every reference-cache line. -/
  | trayInvalidate (t : TrayId)
  /-- AU_TIMEOUT (R394): An access unit with no packet for TIMEOUT_US closes by timeout. -/
  | auTimeout (ch : Chan) (now : Nat)
  /-- DECODE_OUTPUT_FRAME (R400): At T_frame(n) a decode channel shows, repeats or greys an output frame on its paths. -/
  | decodeOutputFrame (ch : Chan) (now : Nat)
  /-- DEC_HOST_ACK (R409): The host releases a decode output buffer by index. -/
  | decHostAck (ch : Chan) (ix : BitVec 6)
  /-- MEDIA_SAMPLE_PERIOD (R418): Each media sample period every reader reads frame R(t) and its valid bits are cleared. -/
  | mediaSamplePeriod (r96 : Bool) (now : Nat)
  /-- TDM_PIN_FRAME (R428): A TDM frame passes at the pins and the port FIFO inserts or drops whole frames as needed. -/
  | tdmPinFrame (p : Fin 8) (din : List PinBit) (now : Nat)
  /-- PORT_NO_CLOCK (R424): A port without an FS edge for two frame periods sets NO_CLOCK and raises PORT_CLOCK. -/
  | portNoClock (p : Fin 8) (now : Nat)
  /-- AUD_PORT_MASK_WRITE (R426): A write of a slot mask is held for the next frame boundary. -/
  | audPortMaskWrite (p : Fin 8) (tx : Bool) (m : BitVec 32)
  /-- VCXO_LOOP_RUN (R431): Once per ms the oscillator loop updates its duty from the reference FIFO fill. -/
  | vcxoLoopRun (sub : BitVec 8) (now : Nat)
  /-- AUD_START_ARM (R433): ARM claims a pulse generator for a common start of the selected ports. -/
  | audStartArm (set : BitVec 8) (pg : BitVec 3)
  /-- EGRESS_FRAME_START (R475): The port scheduler starts the next frame of the winning queue whose gate is open. -/
  | egressFrameStart (p : MPort) (now : Nat)
  /-- EGRESS_FRAME_DONE (R475): A frame finishes transmission and an SP0 frame's transmit time-stamp is delivered. -/
  | egressFrameDone (p : MPort) (now : Nat)
  /-- TS_DATAGRAM_RELEASE (R456): At its cadence time a TS datagram is filled by precedence and released. -/
  | tsDatagramRelease (k : Fin 2048) (now : Nat)
  /-- ANC_PACKET_RELEASE (R449): An ancillary egress packet is released at T_frame(n) + D. -/
  | ancPacketRelease (ch : Chan) (now : Nat)
  /-- VIDEO_PACKET_PACING (R467): A KIND 4 flow releases its next ST 2110-20 packet at its pacing time. -/
  | videoPacketPacing (f : FlowId) (per : Nat) (bytes : Nat) (now : Nat)
  /-- SCTE35_RESEND (R465): Every 1 s while a splice target lies ahead, the splice_info_section is sent again. -/
  | scte35Resend (ch : Chan) (now : Nat)
  /-- SRTP_LOAD (R471): LOAD takes the staged key and salt into the selected SRTP slot. -/
  | srtpLoad (k : Fin 512)
  /-- SRTP_SLOT_WRITE (R472): A write of SRTP_SLOT on an enabled flow switches its key at the next unit. -/
  | srtpSlotWrite (f : FlowId) (k : Fin 512)
  /-- GATE_CHANGE (R482): CHANGE computes a change time for the pending gate list and sets PENDING. -/
  | gateChange (p : MPort) (now : Nat)
  /-- GATE_LIST_ACTIVATE (R482): At the change time the pending gate list becomes operational at entry 0. -/
  | gateListActivate (p : MPort) (now : Nat)
  /-- GATE_ENTRY_ADVANCE (R480): A gate entry's interval or the cycle ends and the next entry's gates apply. -/
  | gateEntryAdvance (p : MPort) (now : Nat)
  /-- EGR_IND_SEL (R489): A write selects an egress flow and snapshots its counters. -/
  | egrIndSel (w : Fin 4) (f : FlowId)
  /-- TB_SNAP (R495): SNAP captures raw counter, local time and epoch of one cycle. -/
  | tbSnap (now : Nat)
  /-- NEW_EPOCH (R497): NEW_EPOCH increments the epoch, clears STEP_USED and posts EPOCH. -/
  | newEpoch (now : Nat)
  /-- TB_STEP (R496): A write steps local time once per epoch, or is refused and counted. -/
  | tbStep (d : Word) (now : Nat)
  /-- TIMEBASE_SAMPLE (R500): A committed sample is processed by the servo, which may step, jump or update the rate. -/
  | timebaseSample (m : Word) (r : Word) (now : Nat)
  /-- RATE_FOLD (R492): At least every 2^30 raw ns the accumulated correction is folded into the offset. -/
  | rateFold (now : Nat)
  /-- TB_RATE_WRITE (R501): With the servo off, a write of TB_RATE sets the rate under the limit. -/
  | tbRateWrite (v : Word) (now : Nat)
  /-- TB_GM_ID_WRITE (R504): A write of a new grandmaster identity counts a master change. -/
  | tbGmIdWrite (v : Word)
  /-- HOLDOVER_TIMEOUT (R502): No sample for HOLD_MS enters HOLDOVER and raises its source. -/
  | holdoverTimeout (now : Nat)
  /-- TIME_FLIT_SEND (R508): Every 1 ms a time flit is sent on each enabled Weneiren port. -/
  | timeFlitSend (p : WlPort) (now : Nat)
  /-- TIME_FLIT_RECEIVE (R509): A received time flit makes a sample and may make the follower open a new epoch. -/
  | timeFlitReceive (p : WlPort) (h : FlitHdr) (t : Word) (epoch : BitVec 32) (st : BitVec 3) (used : Bool) (now : Nat)
  /-- PPS_EDGE (R511): A rising edge on TB_PPS_IN is captured, counted and may make a sample. -/
  | ppsEdge (now : Nat)
  /-- PG_ENABLE (R513): ENABLE starts a pulse generator, refusing bad settings and missing late one-shots. -/
  | pgEnable (g : Fin 8) (now : Nat)
  /-- PULSE_DUE (R512): Local time reaches T_k and the generator's output rises and is offered to its user. -/
  | pulseDue (g : Fin 8) (now : Nat)
  /-- PULSE_END (R512): WIDTH ns after it rose the pulse output falls. -/
  | pulseEnd (g : Fin 8) (now : Nat)
  /-- MEMORY_READ (R526): A controller serves a read, correcting or handling uncorrectable errors. -/
  | memoryRead (q : Requester) (a : BitVec 48) (n : BitVec 12) (ecc : EccResult) (served : List MemServed) (now : Nat)
  /-- MEMORY_WRITE (R527): A controller serves a write, with read-merge-write for partial bursts. -/
  | memoryWrite (q : Requester) (a : BitVec 48) (data : Bytes) (now : Nat)
  /-- SCRUB_READ (R530): The scrub reads the next burst on its schedule and corrects what it finds. -/
  | scrubRead (k : StackId) (ecc : EccResult) (now : Nat)
  /-- MIGRATION_COPY_UNIT (R533): The copy engine finishes copying one 4 KB unit of a retiring rank to the spare. -/
  | migrationCopyUnit (now : Nat)
  /-- BANK_REFRESH (R538): A bank is refreshed on its own schedule. -/
  | bankRefresh (k : StackId) (now : Nat)
  /-- SELF_REFRESH_ENTRY (R539): After draining its queues a stack issues the self-refresh entry command. -/
  | selfRefreshEntry (k : StackId) (now : Nat)
  /-- SELF_REFRESH_RETRY (R540): After IDLE_US without requests the stack tries self-refresh entry again. -/
  | selfRefreshRetry (k : StackId) (now : Nat)
  /-- SELF_REFRESH_EXIT (R541): A request to a stack in self-refresh waits for exit and is then served. -/
  | selfRefreshExit (k : StackId) (now : Nat)
  /-- BAR2_ACCESS (R551): A host access through a BAR2 window reaches device memory or is refused. -/
  | bar2Access (win : Fin 8) (off : BitVec 31) (data : Option Bytes) (n : BitVec 13) (ecc : EccResult) (x : AccessIn)
  /-- MSIX_VECTOR_UNMASK (R548): Unmasking a pending vector sends its message. -/
  | msixVectorUnmask (v : Fin 512) (addr : BitVec 64) (data : BitVec 32) (mask : Bool)
  /-- HCR_DOORBELL (R558): A doorbell write sets a ring's submission tail or is discarded with DB_ERR. -/
  | hcrDoorbell (r : RingId) (v : BitVec 32)
  /-- COMMAND_FETCH (R557): The device fetches a command when the completion ring has room. -/
  | commandFetch (r : RingId) (bytes : Bytes)
  /-- NOP (R554): A NOP command completes with OK. -/
  | nop (r : RingId)
  /-- RECIPE_LOAD (R752): Loads and checks a recipe image into a sequencer thread. -/
  | recipeLoad (r : RingId)
  /-- CHANNEL_START (R43): Tests, binds, admits and starts a channel, or refuses it. -/
  | channelStart (r : RingId)
  /-- CHANNEL_STOP (R129): Stops a channel, posting STOP and ending its tasks, and releases its admission. -/
  | channelStop (r : RingId)
  /-- PTP_CONFIG (R554): Sets the firmware's PTP domain, transport and ports. -/
  | ptpConfig (r : RingId)
  /-- MCAST_JOIN (R554): Joins a multicast group on a MAC with an IGMPv3 or MLDv2 report. -/
  | mcastJoin (r : RingId)
  /-- MCAST_LEAVE (R554): Leaves a multicast group on a MAC. -/
  | mcastLeave (r : RingId)
  /-- DMA_GO (R560): GO reads and checks a channel's whole descriptor list and starts it or rejects it. -/
  | dmaGo (c : DmaId) (host : Bytes)
  /-- DMA_ABORT (R564): ABORT withdraws the rest of a channel's list. -/
  | dmaAbort (c : DmaId)
  /-- DMA_BURST_ISSUE (R562): An engine issues the next burst of the highest-priority channel with buffer space. -/
  | dmaBurstIssue (d2h : Bool)
  /-- DMA_BURST_COMPLETE (R563): A burst's last byte reaches its destination and its buffer space is freed. -/
  | dmaBurstComplete (c : DmaId) (data : Bytes)
  /-- DMA_HOST_ERROR (R561): A host access completes with error and the channel stops with HOST_ERR. -/
  | dmaHostError (c : DmaId)
  /-- MEM_WRITE_FLIT (R573): A received MEM_WRITE flit is applied whole inside a receive window or dropped. -/
  | memWriteFlit (p : WlPort) (h : FlitHdr) (addr : Word) (data : Bytes) (now : Nat)
  /-- MEDIA_FLIT (R571): A received MEDIA flit delivers media units to output stages. -/
  | mediaFlit (p : WlPort) (h : FlitHdr) (units : List MediaUnit) (now : Nat)
  /-- MSG_FLIT (R571): A received MSG flit delivers a message between management processor complexes. -/
  | msgFlit (p : WlPort) (h : FlitHdr) (data : Bytes) (now : Nat)
  /-- IDLE_FLIT (R571): A received IDLE flit carries acknowledgements and credits, or announces electrical idle. -/
  | idleFlit (p : WlPort) (h : FlitHdr) (entry : Bool) (now : Nat)
  /-- HEARTBEAT_FLIT (R610): A received HEARTBEAT flit resets the standby's heartbeat time. -/
  | heartbeatFlit (p : WlPort) (h : FlitHdr) (g : GroupId) (unit : BitVec 3) (claim : BitVec 32) (snap : Word) (img : Word) (now : Nat)
  /-- ECHO_REQ (R509): A received ECHO_REQ is answered with ECHO_RSP. -/
  | echoReq (p : WlPort) (h : FlitHdr) (now : Nat)
  /-- ECHO_RSP (R575): A received ECHO_RSP gives a round-trip measurement for LAT. -/
  | echoRsp (p : WlPort) (h : FlitHdr) (rt : Nat) (now : Nat)
  /-- LANE_MAP (R581): A received LANE_MAP flit moves the named lane's bytes to the spare from the named SEQ. -/
  | laneMap (p : WlPort) (h : FlitHdr) (lane : BitVec 4) (seq : BitVec 12) (now : Nat)
  /-- AUDIT (R583): A received AUDIT flit is checked against the credit equations, retraining on failure. -/
  | audit (p : WlPort) (h : FlitHdr) (received : List Nat) (returned : List Nat) (occupied : List Nat) (now : Nat)
  /-- UNKNOWN_FLIT_TYPE (R571): A flit of an undefined TYPE is discarded and counted in CRC_ERRORS. -/
  | unknownFlitType (p : WlPort)
  /-- FLIT_TRANSMIT (R583): A sequenced flit is sent when a credit for its VC is held. -/
  | flitTransmit (p : WlPort) (m : Option TxFlit) (now : Nat)
  /-- AUDIT_SEND (R583): Every 100 µs the receiver sends an AUDIT flit. -/
  | auditSend (p : WlPort) (now : Nat)
  /-- TRAINING_BLOCK_RECEIVE (R577): A training block arrives; an up port goes down and trains, a training port notes peer READY. -/
  | trainingBlockReceive (p : WlPort) (board : BitVec 2) (port : BitVec 2) (bufs : List Nat) (ready : Bool) (now : Nat)
  /-- RECEIVER_READY (R575): A port's receiver locks and deskews all lanes and sets READY, bringing the port up when the peer is ready. -/
  | receiverReady (p : WlPort) (reversed : Bool) (inverted : BitVec 17) (now : Nat)
  /-- TRAIN_TIMEOUT (R576): A port not up within TIMEOUT_US restarts training. -/
  | trainTimeout (p : WlPort) (now : Nat)
  /-- WL_LANE_LOCK_LOSS (R580): A Weneiren lane loses lock, triggering sparing, half width or port down. -/
  | wlLaneLockLoss (p : WlPort) (lanes : List Nat) (clock : Bool) (now : Nat)
  /-- WL_RETRAIN (R582): RETRAIN takes the port down and trains it at full width. -/
  | wlRetrain (p : WlPort) (now : Nat)
  /-- IDLE_ENTRY (R584): A port with nothing to send for ENTER_US enters electrical idle. -/
  | idleEntry (p : WlPort) (now : Nat)
  /-- IDLE_EXIT (R586): A flit becomes ready and an idle port resumes its clock and sends. -/
  | idleExit (p : WlPort) (now : Nat)
  /-- HEARTBEAT_CYCLE (R598): A complete heartbeat cycle on the Claim Bus is read and recorded. -/
  | heartbeatCycle (g : GroupId) (bids : List Bid) (now : Nat)
  /-- CHALLENGE_CYCLE (R598): A complete challenge cycle is arbitrated and the winner recorded. -/
  | challengeCycle (g : GroupId) (bids : List Bid) (ready : Nat) (now : Nat)
  /-- CLAIM_BUS_FAULT (R601): A fault condition on the Claim Bus sets FAULT and discards the cycle. -/
  | claimBusFault (kind : Fin 3) (inCycle : Bool) (now : Nat)
  /-- BUS_FAULT_CLEAR (R603): After 1 ms without a fault condition FAULT clears. -/
  | busFaultClear (now : Nat)
  /-- HEARTBEAT_MISS (R610): A standby counts a miss and makes a challenge pending when MISSES reaches H. -/
  | heartbeatMiss (g : GroupId) (now : Nat)
  /-- YIELD_GROUP (R611): YIELD stops an ACTIVE unit's heartbeats and challenge answers. -/
  | yieldGroup (g : GroupId)
  /-- STANDBY_TOKEN_RETURN (R608): A standby frame's token returns at T_frame(n + 1) + 12 µs. -/
  | standbyTokenReturn (ch : Chan) (now : Nat)
  /-- SIEVE_REPORT (R634): A source report is folded or recorded, escalated and acted on by severity. -/
  | sieveReport (source : Fin 768) (sus : BitVec 16) (detail : Word) (now : Nat)
  /-- SIEVE_ACK (R639): Writing a RECNO acknowledges a record. -/
  | sieveAck (recno : BitVec 32)
  /-- SIEVE_RING_HEAD_WRITE (R640): Writing HEAD frees acknowledged records. -/
  | sieveRingHeadWrite (head : BitVec 9)
  /-- SIEVE_RESTORE (R643): Writing a suspect returns an isolated unit to service. -/
  | sieveRestore (sus : BitVec 16)
  /-- SIEVE_INJECT (R649): A write makes an injected report on a source in the next cycle. -/
  | sieveInject (source : BitVec 10) (sus : BitVec 16)
  /-- SIEVE_LOCK (R630): LOCK freezes the Sieve configuration until the next core reset. -/
  | sieveLock
  /-- SENSOR_SAMPLE (R660): Each ms the Heath island samples its sensors and evaluates its rules. -/
  | sensorSample (values : List (BitVec 16)) (now : Nat)
  /-- HTH_PS_REQ (R654): REQ asks for a target power state, refused if channels, DMA or standby groups forbid it. -/
  | hthPsReq (target : BitVec 2) (now : Nat)
  /-- PS1_IDLE_ENTRY (R653): After PS1_IDLE_US with no running channel or task the device enters PS1. -/
  | ps1IdleEntry (since : Nat) (now : Nat)
  /-- PS2_ENTRY_COMPLETE (R655): Entry to PS2 completes, or is aborted by a wake before the gates open. -/
  | ps2EntryComplete (late : Bool) (now : Nat)
  /-- PS2_EXIT_COMPLETE (R655): Exit from PS2 to PS0 completes. -/
  | ps2ExitComplete (now : Nat)
  /-- WAKE_SCHEDULE (R658): HTH_AON_NS reaches HTH_WAKE_TIME and wakes the device. -/
  | wakeSchedule
  /-- LINK_ACTIVITY (R658): An activity detector finds a signal and wakes the device. -/
  | linkActivity (k : Fin 7)
  /-- WDOG_KICK (R664): A write restarts the management-core watchdog. -/
  | wdogKick (now : Nat)
  /-- WDOG_TIMEOUT (R664): A lapsed watchdog resets and restarts the management cores and raises WDOG. -/
  | wdogTimeout (now : Nat)
  /-- AON_ALIGN (R666): Each ms the island aligns HTH_AON_NS to the raw counter. -/
  | aonAlign (now : Nat)
  /-- OSC_TRIM_UPDATE (R665): Each second with REFCLK the island updates its oscillator trim. -/
  | oscTrimUpdate (ppb : BitVec 32)
  /-- REFCLK_LOST (R676): No REFCLK edge for 10 µs raises REFCLK_LOST. -/
  | refclkLost (now : Nat)
  /-- MARGIN_SAMPLE (R672): Each ms the monitor computes M and re-plans voltage and ceiling. -/
  | marginSample (slacks : List (BitVec 16)) (now : Nat)
  /-- EYE_SCAN (R670): Every 10 minutes the monitor scans each lane's eye and may step its peaking. -/
  | eyeScan (l : Fin 67) (mv : BitVec 8) (more : Bool) (now : Nat)
  /-- CE_TREND_HOUR (R671): Each hour correctable-error totals update and HBM_CE_TREND may be raised. -/
  | ceTrendHour (now : Nat)
  /-- SERVICE_ESTIMATE (R675): Once per day the monitor fits the margin trend and updates MONTHS. -/
  | serviceEstimate (now : Nat)
  /-- PICTURE_EVENT (R681): A picture event on the feed adds its period to its class's usage total. -/
  | pictureEvent (ch : Chan) (px : Nat)
  /-- FEED_TIME (R679): Each ms the feed carries local PTP time and programme samples to the Paddock. -/
  | feedTime (ms : Nat) (now : Nat)
  /-- USAGE_RECORD_CLOSE (R687): Every 60 s the Paddock closes and signs a USAGE record. -/
  | usageRecordClose (ms : Nat)
  /-- LOUDNESS_RECORD_CLOSE (R687): Every 60 s the Paddock closes a LOUDNESS record per enabled programme. -/
  | loudnessRecordClose (l : List Loudness) (ms : Nat)
  /-- PROGRAMME_ENABLE (R686): Setting ENABLE starts a loudness programme. -/
  | programmeEnable (k : Fin 16)
  /-- PROGRAMME_END (R686): Clearing ENABLE ends a programme and closes a PROGRAMME_END record. -/
  | programmeEnd (k : Fin 16) (l : Loudness) (ms : Nat)
  /-- READ_RECORD (R693): Returns a complete stored record by RECNO or NOT_FOUND. -/
  | readRecord (port : PdkPort) (ms : Nat)
  /-- READ_CERT (R694): Returns the Paddock's certificate. -/
  | readCert (port : PdkPort)
  /-- READ_STATUS (R694): Returns seal count, last RECNO and firmware version and digest. -/
  | readStatus (port : PdkPort)
  /-- EXPORTED (R689): Marks a record as exported so it may be overwritten. -/
  | exported
  /-- INSTALL_AUTHORITY (R690): An authority command installs a new authority key and closes a SEAL record. -/
  | installAuthority (port : PdkPort) (ms : Nat)
  /-- SET_CLASS_LIMITS (R690): An authority command sets the seven class limits. -/
  | setClassLimits (port : PdkPort) (ms : Nat)
  /-- CLEAR_TAMPER (R690): An authority command clears TAMPER_SEEN. -/
  | clearTamper (port : PdkPort) (ms : Nat)
  /-- LID_OPEN (R691): PDK_LID_N high for 10 ms closes a TAMPER record and sets TAMPER_SEEN. -/
  | lidOpen (ms : Nat)
  /-- PADDOCK_POWER_UP (R687): VDD_PDK comes up and the Paddock closes a POWER record. -/
  | paddockPowerUp (gap : Bool)
  /-- PDK_SILENT (R695): A Paddock command unanswered after 100 ms raises PDK_SILENT. -/
  | pdkSilent (now : Nat)
  /-- CONS_SNAP_GO (R698): GO freezes the selected counters at the next CLK_SLOW edge and writes the snapshot. -/
  | consSnapGo (scope : BitVec 8) (now : Nat)
  /-- SNAPSHOT_COMPLETE (R701): After a snapshot is written its equations are evaluated and failures raised. -/
  | snapshotComplete (now : Nat)
  /-- AUTO_SNAPSHOT (R702): Every AUTO_S seconds a full-scope snapshot is taken. -/
  | autoSnapshot (now : Nat)
  /-- PWR_GOOD_RISE (R717): PWR_GOOD rises and the core runs the boot flow. -/
  | pwrGoodRise (b : BootIn)
  /-- PWR_GOOD_FALL (R709): PWR_GOOD falls and the main die enters cold reset. -/
  | pwrGoodFall
  /-- SYS_RST (R711): SYS_RST_N low causes a warm reset and reruns the boot flow. -/
  | sysRst (perst : Bool) (b : BootIn) (now : Nat)
  /-- GCTL_RESET_CORE (R711): GCTL_RESET.CORE causes a warm reset. -/
  | gctlResetCore (b : BootIn) (now : Nat)
  /-- PERST (R712): PERST_N low resets the PCIe domain and aborts DMA. -/
  | perst
  /-- AON_POWER_UP (R666): VDD_AON comes up and the Heath island starts from zero. -/
  | aonPowerUp
  /-- RECOVERY_GO (R719): GO makes the boot ROM check a recovery image written by the host. -/
  | recoveryGo (len : BitVec 23) (errors : List TestError)
  /-- SVN_BURN (R720): SVN_BURN starts raising SVN_MIN to the running SVN. -/
  | svnBurn
  /-- SVN_BURN_DONE (R720): The SVN fuse burn completes and BURNING clears. -/
  | svnBurnDone
  /-- DEBUG_RESPONSE (R722): A signed response to the debug challenge unlocks debug and raises DEBUG_OPEN. -/
  | debugResponse (r : Bytes)
  /-- RECIPE_KEY_LOAD (R725): LOAD takes the written words as a recipe key if the point is on the curve. -/
  | recipeKeyLoad (k : Fin 16)
  /-- POLICY_LOCK (R726): LOCK discards later writes to SEC_POLICY and the recipe key slots. -/
  | policyLock
  /-- PERST_RELEASE (R712): PERST_N rises, the PCI Express link trains again, and the completion records of commands that were in progress are discarded and counted in CQ_LOST. -/
  | perstRelease (width : BitVec 4) (speed : BitVec 3)
  /-- WL_LANE_REGAINS_LOCK (R581): A failed Weneiren data lane finishes retraining on its own, regains lock and becomes the new spare. -/
  | wlLaneRegainsLock (p : WlPort) (l : Fin 17)
  /-- FLIT_CRC_FAIL (R581): A received Weneiren flit whose CRC fails is discarded and counted, and a sequenced one is NAKed so that the transmitter replays it. -/
  | flitCrcFail (p : WlPort) (sequenced : Bool) (now : Nat)
  deriving DecidableEq, Repr

end Sys2Proof
end

