-- ==== Sys2Proof/Decode.lean ====
section
/-! DEFINITION. Words of the Morop instructions in their five formats, the words that are no instruction (03_morop.md R107 to R110, R131), and the command that
a word of spec/opcode_table.json spells: the table gives no row any bits, so none. -/

namespace Sys2Proof

/-! ### Formats (R107) -/

/-- Format R: opcode, rd, rs1, rs2, func. -/
def encR (op : Nat) (rd rs1 rs2 : Reg) (func : Nat) : Nat := op * 2 ^ 26 + rd.val * 2 ^ 21 + rs1.val * 2 ^ 16 + rs2.val * 2 ^ 11 + func

/-- Format I: opcode, rd (in a store, the data register), rs1, imm16. -/
def encI (op : Nat) (rd rs1 : Reg) (imm : BitVec 16) : Nat := op * 2 ^ 26 + rd.val * 2 ^ 21 + rs1.val * 2 ^ 16 + imm.toNat

/-- Format B: opcode, rs1, rs2, off16. -/
def encB (op : Nat) (rs1 rs2 : Reg) (off : BitVec 16) : Nat := op * 2 ^ 26 + rs1.val * 2 ^ 21 + rs2.val * 2 ^ 16 + off.toNat

/-- Format J: opcode, rd, off21. -/
def encJ (op : Nat) (rd : Reg) (off : BitVec 21) : Nat := op * 2 ^ 26 + rd.val * 2 ^ 21 + off.toNat

/-- Format N: opcode, rd, lane, three zero bits, imm16. -/
def encN (op : Nat) (rd : Reg) (lane : BitVec 2) (imm : BitVec 16) : Nat := op * 2 ^ 26 + rd.val * 2 ^ 21 + lane.toNat * 2 ^ 19 + imm.toNat

/-! ### Undefined words (R108, R109) -/

/-- The func values of an opcode of format R. -/
def funcs (op : Nat) : List Nat :=
  match op with
  | 0x00 => (List.range 0x17).map (· + 1)
  | 0x1F => [1, 2, 3]
  | 0x29 | 0x2A | 0x2C => [0]
  | 0x2B => [0, 1]
  | 0x2D => [1, 2, 3]
  | 0x30 => [1, 2, 3, 4, 5]
  | 0x3E => [1, 2, 3, 4, 5, 6]
  | _ => []

/-- The opcodes of the formats I, B and J. -/
def otherOps : List Nat :=
  [0x01, 0x02, 0x03, 0x04, 0x05, 0x06, 0x08, 0x09, 0x0A, 0x10, 0x11, 0x12, 0x13, 0x14, 0x15, 0x16, 0x18, 0x19, 0x1A, 0x1C, 0x1D, 0x1E, 0x20, 0x21, 0x22,
   0x23, 0x24, 0x25, 0x26, 0x27, 0x28, 0x2E, 0x2F, 0x31, 0x38, 0x39]

/-- A word that is no instruction: an undefined opcode or func value, or a non-zero bit that format N leaves unused. -/
def undefinedWord (w : Nat) : Bool :=
  let op := w / 2 ^ 26
  if op = 0x0B then decide (w / 2 ^ 16 % 8 ≠ 0) else !otherOps.contains op && !(funcs op).contains (w % 2 ^ 11)

/-- Offset or immediate of 16 or 21 bits, with its sign. -/
def sext {n : Nat} (x : BitVec n) : Int := x.toInt

/-! ### The command table -/

/-- The command that a word spells by the table's bits: no row has any. -/
def decodeTableWord (_nbits _w : Nat) : Option Instr := none

end Sys2Proof
end

