-- ==== Sys2Proof/Machine/Crypto.lean ====
section
/-! DEFINITION. SHA-384, AES-256 in XTS mode and the verification of ECDSA signatures on curve P-384, the algorithms that 03_morop.md R141,
13_frame_memory.md R542, 19_paddock.md R687 and R690 and 21_startup.md R716, R718 and R725 name; what they compute is that of FIPS 180-4, FIPS 197,
IEEE 1619 and FIPS 186-5 (PRESUMED, logs 2 and 10). -/

namespace Sys2Proof.Machine

/-! ### SHA-384 -/

/-- The 80 round constants. -/
def shaK : List (BitVec 64) :=
  [0x428A2F98D728AE22, 0x7137449123EF65CD, 0xB5C0FBCFEC4D3B2F, 0xE9B5DBA58189DBBC, 0x3956C25BF348B538,
    0x59F111F1B605D019, 0x923F82A4AF194F9B, 0xAB1C5ED5DA6D8118, 0xD807AA98A3030242, 0x12835B0145706FBE,
    0x243185BE4EE4B28C, 0x550C7DC3D5FFB4E2, 0x72BE5D74F27B896F, 0x80DEB1FE3B1696B1, 0x9BDC06A725C71235,
    0xC19BF174CF692694, 0xE49B69C19EF14AD2, 0xEFBE4786384F25E3, 0x0FC19DC68B8CD5B5, 0x240CA1CC77AC9C65] ++
  [0x2DE92C6F592B0275, 0x4A7484AA6EA6E483, 0x5CB0A9DCBD41FBD4, 0x76F988DA831153B5, 0x983E5152EE66DFAB,
    0xA831C66D2DB43210, 0xB00327C898FB213F, 0xBF597FC7BEEF0EE4, 0xC6E00BF33DA88FC2, 0xD5A79147930AA725,
    0x06CA6351E003826F, 0x142929670A0E6E70, 0x27B70A8546D22FFC, 0x2E1B21385C26C926, 0x4D2C6DFC5AC42AED,
    0x53380D139D95B3DF, 0x650A73548BAF63DE, 0x766A0ABB3C77B2A8, 0x81C2C92E47EDAEE6, 0x92722C851482353B] ++
  [0xA2BFE8A14CF10364, 0xA81A664BBC423001, 0xC24B8B70D0F89791, 0xC76C51A30654BE30, 0xD192E819D6EF5218,
    0xD69906245565A910, 0xF40E35855771202A, 0x106AA07032BBD1B8, 0x19A4C116B8D2D0C8, 0x1E376C085141AB53,
    0x2748774CDF8EEB99, 0x34B0BCB5E19B48A8, 0x391C0CB3C5C95A63, 0x4ED8AA4AE3418ACB, 0x5B9CCA4F7763E373,
    0x682E6FF3D6B2B8A3, 0x748F82EE5DEFB2FC, 0x78A5636F43172F60, 0x84C87814A1F0AB72, 0x8CC702081A6439EC] ++
  [0x90BEFFFA23631E28, 0xA4506CEBDE82BDE9, 0xBEF9A3F7B2C67915, 0xC67178F2E372532B, 0xCA273ECEEA26619C,
    0xD186B8C721C0C207, 0xEADA7DD6CDE0EB1E, 0xF57D4F7FEE6ED178, 0x06F067AA72176FBA, 0x0A637DC5A2C898A6,
    0x113F9804BEF90DAE, 0x1B710B35131C471B, 0x28DB77F523047D84, 0x32CAAB7B40C72493, 0x3C9EBE0A15C9BEBC,
    0x431D67C49C100D4C, 0x4CC5D4BECB3E42B6, 0x597F299CFC657E2A, 0x5FCB6FAB3AD6FAEC, 0x6C44198C4A475817]

/-- The eight initial words. -/
def shaInit : List (BitVec 64) :=
  [0xCBBB9D5DC1059ED8, 0x629A292A367CD507, 0x9159015A3070DD17, 0x152FECD8F70E5939, 0x67332667FFC00B31,
    0x8EB44A8768581511, 0xDB0C2E0D64F98FA7, 0x47B5481DBEFA4FA4]

/-- The words of the message schedule, newest first: n more after those given. -/
def shaSchedule : Nat → List (BitVec 64) → List (BitVec 64)
  | 0, w => w
  | n + 1, w =>
    let g := fun i => w.getD i 0
    let s0 := (g 14).rotateRight 1 ^^^ (g 14).rotateRight 8 ^^^ g 14 >>> 7
    let s1 := (g 1).rotateRight 19 ^^^ (g 1).rotateRight 61 ^^^ g 1 >>> 6
    shaSchedule n ((g 15 + s0 + g 6 + s1) :: w)

/-- One round on the eight working words. -/
def shaRound (v : List (BitVec 64)) (kw : BitVec 64 × BitVec 64) : List (BitVec 64) :=
  let g := fun i => v.getD i 0
  let s1 := (g 4).rotateRight 14 ^^^ (g 4).rotateRight 18 ^^^ (g 4).rotateRight 41
  let t1 := g 7 + s1 + (g 4 &&& g 5 ^^^ ~~~(g 4) &&& g 6) + kw.1 + kw.2
  let s0 := (g 0).rotateRight 28 ^^^ (g 0).rotateRight 34 ^^^ (g 0).rotateRight 39
  let t2 := s0 + (g 0 &&& g 1 ^^^ g 0 &&& g 2 ^^^ g 1 &&& g 2)
  [t1 + t2, g 0, g 1, g 2, g 3 + t1, g 4, g 5, g 6]

/-- One block of 16 words. -/
def shaBlock (h : List (BitVec 64)) (block : List (BitVec 64)) : List (BitVec 64) :=
  let w := (shaSchedule 64 block.reverse).reverse
  List.zipWith (· + ·) h ((shaK.zip w).foldl shaRound h)

/-- The number of a list of bytes, big-endian. -/
def shaNat (l : List (BitVec 8)) : Nat := l.foldl (fun a b => 256 * a + b.toNat) 0

/-- The n 64-bit words of a list of bytes, big-endian. -/
def beWords : Nat → List (BitVec 8) → List (BitVec 64)
  | 0, _ => []
  | n + 1, l => BitVec.ofNat 64 (shaNat (l.take 8)) :: beWords n (l.drop 8)

/-- The n blocks of a padded message. -/
def shaBlocks : Nat → List (BitVec 8) → List (BitVec 64) → List (BitVec 64)
  | 0, _, h => h
  | n + 1, l, h => shaBlocks n (l.drop 128) (shaBlock h (beWords 16 l))

/-- The SHA-384 digest of a byte string, as a number. -/
def sha384 (l : List (BitVec 8)) : BitVec 384 :=
  let n := (l.length + 17 + 127) / 128
  let len := (List.range 16).map (fun i => BitVec.ofNat 8 (8 * l.length / 256 ^ (15 - i)))
  let m := l ++ 0x80 :: List.replicate (128 * n - l.length - 17) 0 ++ len
  BitVec.ofNat 384 (((shaBlocks n m shaInit).take 6).foldl (fun a w => 2 ^ 64 * a + w.toNat) 0)

/-! ### AES-256 and XTS -/

/-- The substitution box. -/
def aesBox : List Nat :=
  [0x63, 0x7C, 0x77, 0x7B, 0xF2, 0x6B, 0x6F, 0xC5, 0x30, 0x01, 0x67, 0x2B, 0xFE, 0xD7, 0xAB, 0x76,
    0xCA, 0x82, 0xC9, 0x7D, 0xFA, 0x59, 0x47, 0xF0, 0xAD, 0xD4, 0xA2, 0xAF, 0x9C, 0xA4, 0x72, 0xC0] ++
  [0xB7, 0xFD, 0x93, 0x26, 0x36, 0x3F, 0xF7, 0xCC, 0x34, 0xA5, 0xE5, 0xF1, 0x71, 0xD8, 0x31, 0x15,
    0x04, 0xC7, 0x23, 0xC3, 0x18, 0x96, 0x05, 0x9A, 0x07, 0x12, 0x80, 0xE2, 0xEB, 0x27, 0xB2, 0x75] ++
  [0x09, 0x83, 0x2C, 0x1A, 0x1B, 0x6E, 0x5A, 0xA0, 0x52, 0x3B, 0xD6, 0xB3, 0x29, 0xE3, 0x2F, 0x84,
    0x53, 0xD1, 0x00, 0xED, 0x20, 0xFC, 0xB1, 0x5B, 0x6A, 0xCB, 0xBE, 0x39, 0x4A, 0x4C, 0x58, 0xCF] ++
  [0xD0, 0xEF, 0xAA, 0xFB, 0x43, 0x4D, 0x33, 0x85, 0x45, 0xF9, 0x02, 0x7F, 0x50, 0x3C, 0x9F, 0xA8,
    0x51, 0xA3, 0x40, 0x8F, 0x92, 0x9D, 0x38, 0xF5, 0xBC, 0xB6, 0xDA, 0x21, 0x10, 0xFF, 0xF3, 0xD2] ++
  [0xCD, 0x0C, 0x13, 0xEC, 0x5F, 0x97, 0x44, 0x17, 0xC4, 0xA7, 0x7E, 0x3D, 0x64, 0x5D, 0x19, 0x73,
    0x60, 0x81, 0x4F, 0xDC, 0x22, 0x2A, 0x90, 0x88, 0x46, 0xEE, 0xB8, 0x14, 0xDE, 0x5E, 0x0B, 0xDB] ++
  [0xE0, 0x32, 0x3A, 0x0A, 0x49, 0x06, 0x24, 0x5C, 0xC2, 0xD3, 0xAC, 0x62, 0x91, 0x95, 0xE4, 0x79,
    0xE7, 0xC8, 0x37, 0x6D, 0x8D, 0xD5, 0x4E, 0xA9, 0x6C, 0x56, 0xF4, 0xEA, 0x65, 0x7A, 0xAE, 0x08] ++
  [0xBA, 0x78, 0x25, 0x2E, 0x1C, 0xA6, 0xB4, 0xC6, 0xE8, 0xDD, 0x74, 0x1F, 0x4B, 0xBD, 0x8B, 0x8A,
    0x70, 0x3E, 0xB5, 0x66, 0x48, 0x03, 0xF6, 0x0E, 0x61, 0x35, 0x57, 0xB9, 0x86, 0xC1, 0x1D, 0x9E] ++
  [0xE1, 0xF8, 0x98, 0x11, 0x69, 0xD9, 0x8E, 0x94, 0x9B, 0x1E, 0x87, 0xE9, 0xCE, 0x55, 0x28, 0xDF,
    0x8C, 0xA1, 0x89, 0x0D, 0xBF, 0xE6, 0x42, 0x68, 0x41, 0x99, 0x2D, 0x0F, 0xB0, 0x54, 0xBB, 0x16]

/-- A byte through the substitution box, and back. -/
def aesSub (b : Nat) : Nat := aesBox.getD b 0
def aesUnsub (b : Nat) : Nat := aesBox.findIdx (fun x => x = b)

/-- Twice a byte in the field of the cipher. -/
def aesTwice (b : Nat) : Nat := if b < 128 then 2 * b else (2 * b - 256) ^^^ 0x1B

/-- The product of a byte and a coefficient below 16. -/
def aesMul (c b : Nat) : Nat :=
  let on := fun (i x : Nat) => if c / 2 ^ i % 2 = 1 then x else 0
  let b2 := aesTwice b
  let b4 := aesTwice b2
  on 0 b ^^^ on 1 b2 ^^^ on 2 b4 ^^^ on 3 (aesTwice b4)

/-- The columns of a state mixed with a row of coefficients. -/
def aesMix (row : List Nat) (l : List Nat) : List Nat :=
  (List.range 16).map (fun i => (List.range 4).foldl (fun a j => a ^^^ aesMul (row.getD ((j + 4 - i % 4) % 4) 0) (l.getD (i / 4 * 4 + j) 0)) 0)

/-- The rows of a state rotated, row r by r columns to the left, or by r × k. -/
def aesShift (k : Nat) (l : List Nat) : List Nat := (List.range 16).map (fun i => l.getD (i % 4 + 4 * ((i / 4 + k * (i % 4)) % 4)) 0)

/-- The exclusive or of two lists of bytes. -/
def aesXor (a b : List Nat) : List Nat := List.zipWith (· ^^^ ·) a b

/-- The words of the key schedule, newest first: n more after those given, the next being word i. -/
def aesSchedule : Nat → Nat → List (List Nat) → List (List Nat)
  | 0, _, w => w
  | n + 1, i, w =>
    let t := w.getD 0 []
    let t := if i % 8 = 0 then aesXor ((t.drop 1 ++ t.take 1).map aesSub) [2 ^ (i / 8 - 1), 0, 0, 0] else if i % 8 = 4 then t.map aesSub else t
    aesSchedule n (i + 1) (aesXor (w.getD 7 []) t :: w)

/-- The fifteen round keys of a 256-bit key, given as bytes. -/
def aesKeys (key : List Nat) : List (List Nat) :=
  let w := (aesSchedule 52 8 ((List.range 8).map (fun i => (key.drop (4 * (7 - i))).take 4))).reverse
  (List.range 15).map (fun r => ((w.drop (4 * r)).take 4).flatten)

/-- A block of 16 bytes under round keys. -/
def aesEncrypt (k : List (List Nat)) (l : List Nat) : List Nat :=
  let l := (List.range 13).foldl (fun l r => aesXor (aesMix [2, 3, 1, 1] (aesShift 1 (l.map aesSub))) (k.getD (r + 1) [])) (aesXor l (k.getD 0 []))
  aesXor (aesShift 1 (l.map aesSub)) (k.getD 14 [])

/-- The inverse of a block's encryption. -/
def aesDecrypt (k : List (List Nat)) (l : List Nat) : List Nat :=
  let l := (List.range 13).foldl (fun l r => aesMix [14, 11, 13, 9] (aesXor ((aesShift 3 l).map aesUnsub) (k.getD (13 - r) [])))
    (aesXor l (k.getD 14 []))
  aesXor ((aesShift 3 l).map aesUnsub) (k.getD 0 [])

/-- The n low bytes of a number. -/
def aesBytes (n x : Nat) : List Nat := (List.range n).map (fun i => x / 256 ^ i % 256)

/-- A 32-byte data unit in XTS mode: `keys` is the data key and, above it, the tweak key; `crypt` the cipher or its inverse. -/
def xtsUnit (crypt : List (List Nat) → List Nat → List Nat) (keys unit : Nat) (l : List Nat) : List Nat :=
  let k := aesKeys (aesBytes 32 keys)
  let t := aesEncrypt (aesKeys (aesBytes 32 (keys / 2 ^ 256))) (aesBytes 16 unit)
  let n := t.reverse.foldl (fun a b => 256 * a + b) 0
  let u := aesBytes 16 (if n < 2 ^ 127 then 2 * n else (2 * n - 2 ^ 128) ^^^ 0x87)
  aesXor (crypt k (aesXor (l.take 16) t)) t ++ aesXor (crypt k (aesXor (l.drop 16) u)) u

/-- A burst's 32 bytes, written under key `was`, as they read under key `now`: each is 0 for none, or one more than its two keys (13_frame_memory.md R542,
R544). -/
def xtsRead (was now burst : Nat) (l : List Nat) : List Nat :=
  let c := if was = 0 then l else xtsUnit aesEncrypt (was - 1) burst l
  if now = 0 then c else xtsUnit aesDecrypt (now - 1) burst c

/-! ### Curve P-384 -/

/-- The prime of the field. -/
def p384 : Nat := 2 ^ 384 - 2 ^ 128 - 2 ^ 96 + 2 ^ 32 - 1
/-- The coefficient b of y² = x³ − 3x + b. -/
def b384 : Nat := 0xB3312FA7E23EE7E4988E056BE3F82D19181D9C6EFE8141120314088F5013875AC656398D8A2ED19D2A85C8EDD3EC2AEF
/-- The order of the base point. -/
def n384 : Nat := 0xFFFFFFFFFFFFFFFFFFFFFFFFFFFFFFFFFFFFFFFFFFFFFFFFC7634D81F4372DDF581A0DB248B0A77AECEC196ACCC52973
/-- The base point. -/
def gx384 : Nat := 0xAA87CA22BE8B05378EB1C71EF320AD746E1D3B628BA79B9859F741E082542A385502F25DBF55296C3A545E3872760AB7
def gy384 : Nat := 0x3617DE4A96262C6F5D9E98BF9292DC29F8F41DBD289A147CE9DA3113B5F0B8C00A60B1CE1D7E819D7A431D7C90EA0E5F

/-- Whether a point lies on the curve (21_startup.md R725). -/
def onCurve (x y : BitVec 384) : Bool :=
  decide (x.toNat < p384) && decide (y.toNat < p384) &&
  decide ((y.toNat * y.toNat + 3 * x.toNat) % p384 = (x.toNat * x.toNat * x.toNat + b384) % p384)

/-- b to the power of the low k bits of e, modulo m. -/
def powMod (m b : Nat) : (k e : Nat) → Nat
  | 0, _ => 1
  | k + 1, e => if e % 2 = 1 then b * powMod m (b * b % m) k (e / 2) % m else powMod m (b * b % m) k (e / 2)

/-- A point in Jacobian coordinates; z = 0 is the point at infinity. -/
structure CurvePoint where
  x : Nat
  y : Nat
  z : Nat
  deriving DecidableEq, Repr

/-- a minus b in the field. -/
def subP (a b : Nat) : Nat := (a + p384 - b % p384) % p384

/-- Twice a point. -/
def CurvePoint.double (a : CurvePoint) : CurvePoint :=
  let zz := a.z * a.z % p384
  let m := 3 * subP a.x zz * (a.x + zz) % p384
  let yy := a.y * a.y % p384
  let s := 4 * a.x * yy % p384
  let x := subP (m * m) (2 * s)
  ⟨x, subP (m * subP s x) (8 * yy * yy), 2 * a.y * a.z % p384⟩

/-- The sum of two points. -/
def CurvePoint.plus (a b : CurvePoint) : CurvePoint :=
  if a.z = 0 then b
  else if b.z = 0 then a
  else
    let za := a.z * a.z % p384
    let zb := b.z * b.z % p384
    let u := a.x * zb % p384
    let s := a.y * zb * b.z % p384
    let h := subP (b.x * za) u
    let r := subP (b.y * za * a.z) s
    if h = 0 then (if r = 0 then a.double else ⟨0, 1, 0⟩)
    else
      let hh := h * h % p384
      let x := subP (r * r) (h * hh + 2 * u * hh)
      ⟨x, subP (r * subP (u * hh) x) (s * h * hh), h * a.z * b.z % p384⟩

/-- The low k bits of e, times a point. -/
def CurvePoint.times (a : CurvePoint) : (k e : Nat) → CurvePoint
  | 0, _ => ⟨0, 1, 0⟩
  | k + 1, e => if e % 2 = 1 then a.plus (a.double.times k (e / 2)) else a.double.times k (e / 2)

/-- ECDSA P-384 verification of a signature r, s over a digest under the public key (x, y). -/
def ecdsaVerify (x y digest r s : BitVec 384) : Bool :=
  let w := powMod n384 s.toNat 384 (n384 - 2)
  let g := ((⟨gx384, gy384, 1⟩ : CurvePoint).times 384 (digest.toNat * w % n384)).plus
    ((⟨x.toNat, y.toNat, 1⟩ : CurvePoint).times 384 (r.toNat * w % n384))
  let zi := powMod p384 g.z 384 (p384 - 2)
  onCurve x y && decide (r.toNat ≠ 0) && decide (r.toNat < n384) && decide (s.toNat ≠ 0) && decide (s.toNat < n384) &&
  decide (g.z ≠ 0) && decide (g.x * zi * zi % p384 % n384 = r.toNat)

end Sys2Proof.Machine
end

