-- ==== Sys2Proof/Config.lean ====
section
/-! DEFINITION. What one implementation fixes and what the spec leaves open. Every constant here that stands for an open
value is opaque: nothing can evaluate it or prove a value of it. -/

namespace Sys2Proof.Config

/-- The n-th free value of a run: a value the spec does not state where the machine goes on (log 3). -/
opaque freeValue : Nat → BitVec 64

/-- FIRST_MSIX of the PCIe and DMA block (02_layout_table.md R56: the A1 value is not given; log 6). -/
opaque firstMsixPcie : Nat
/-- FIRST_MSIX of the Sieve block (R56, R644; log 6). -/
opaque firstMsixSieve : Nat
/-- BLOCK_VERSION of the block with a type ID (R56; log 6). -/
opaque blockVersion : Nat → BitVec 16

/-- The core to which a hardware notice of 04_dispatcher.md R148 goes (log 8). -/
opaque noticeCore : Nat → Fin 4
/-- The event bit that a hardware notice of R148 sets (log 8). -/
opaque noticeEvent : Nat → Fin 64

/-- Bytes of a data-cache line of a management core (03_morop.md R131 names lines and gives no size; log 9). -/
def lineBytes : Nat := 64

/-- An ECDSA P-384 signature by the device's own Paddock key over a digest (19_paddock.md R687; log 2). -/
opaque paddockSign : BitVec 384 → BitVec 768
/-- Whether firmware key slot k is fused, and its fused SHA-384 digest (R718; log 2). -/
opaque keyFused : Fin 4 → Bool
opaque fusedKeyDigest : Fin 4 → BitVec 384

/-- The stream buffer that takes a decode channel's ST 302M audio (09_decode.md R396 names none; log 22). -/
opaque st302Buffer : Fin 256 → Fin 512
/-- The sample frames, each a list of 24-bit samples, in an ST 302M PES payload (R396; SMPTE ST 302 is not in the spec; log 22). -/
opaque st302Frames : List (BitVec 8) → List (List Nat)

/-- The quarter-scale luma picture that proofing makes of a source picture's bytes, for the word of its configuration (06_proofing.md R253 names
no filter; log 25). -/
opaque quarterPicture : (cfg : Nat) → List (BitVec 8) → List (BitVec 8)
/-- The sample of plane 0 Y, 1 Cb or 2 Cr, column x and row y in a picture stored in pixel groups (05_ingest.md R229 gives their sizes and not their
inner order; log 25). -/
opaque packedSample : (cfg : Nat) → List (BitVec 8) → (plane x y : Nat) → Nat
/-- The DC prediction of a block of a quarter-scale picture, and whether a cost that is no whole number of units of 16 is rounded up (R253;
log 25). -/
opaque dcPrediction : (picture : List (BitVec 8)) → (width bx y : Nat) → Int
opaque costRoundsUp : Nat → Bool
/-- What the motion search reads outside the previous quarter-scale picture, and which of equally good displacements it takes (R254; log 25). -/
opaque outsideSample : (x y : Int) → BitVec 8
opaque searchPick : List (Int × Int) → Nat
/-- The scaler (R272, R276): the coefficients of the Lanczos sets by FILTER, band, number of taps, phase and tap, the band of a ratio, the six vertical
luma taps of a custom phase of eight, the phase of the first output sample in 1/64, and the rounding of a remainder (log 25). -/
opaque lanczosTap : (filter : Nat) → (band : Fin 8) → (count phase tap : Nat) → BitVec 10
opaque ratioBand : (inLen outLen : Nat) → Fin 8
opaque sixTaps : List Int → (tap : Nat) → Int
opaque scalePhase : (inLen outLen : Nat) → Int
opaque scaleRoundsUp : (shift remainder : Nat) → Bool
/-- The steps that the dither LFSR has made at the i-th sample, and the places of the two bits taken from it (R278; log 25). -/
opaque ditherSteps : (i : Nat) → Nat
opaque ditherTap : Fin 16 × Fin 16

/-- The splice_request_data operations in the user data words of an SCTE-104 ANC packet (11_egress.md R464; SCTE 104 is not in the spec;
log 30): splice_insert_type, splice_event_id, unique_program_id and pre_roll_time in ms. -/
opaque spliceRequests : List Nat → List (Nat × Nat × Nat × Nat)

/-- Limits of a level and tier for a codec and profile (07_codec_engines.md R293; the standards' tables are not in the spec; log 39): CODEC,
PROFILE, TIER and LEVEL, then 0 luma picture size, 1 luma samples a second, 2 tile columns, 3 tiles, 4 slices a picture, 5 bitrate in
kbit/s, 6 CPB size in bits. -/
opaque levelLimit : (codec profile tier level : Nat) → Fin 7 → Nat

/-- Bytes of a decoded picture of the largest size that a decode channel's declared level allows, for the word of its rendition 0's CTX_REND_CODEC
(09_decode.md R413; the level tables are not in the spec; log 39). -/
opaque declaredPictureBytes : (codec : Nat) → Nat

/-- Bytes of a rendition's skip template, and byte i of it, for the words of its CTX_REND_CODEC and CTX_REND_TILES (16_redundancy.md R612
does not lay a template out; log 38). -/
opaque skipTemplateSize : (codec tiles : Nat) → Nat
opaque skipTemplate : (codec tiles i : Nat) → BitVec 8

/-- K of a path-delay monitor in ps per mV as a fraction, numerator and denominator each one less than they are, from the fuses
(18_heath_ageing.md R669; log 42). -/
opaque pdmK : (monitor : Fin 512) → Nat × Nat
/-- A margin in mV as the whole number that MARGIN_MV shows (R669 states no rounding; log 42). -/
opaque wholeMargin : (num : Int) → (den : Nat) → Int
/-- M85, the margin at 0.85 V, from M and the VID code in force (R675 gives no formula; log 42). -/
opaque marginAt85 : (margin : Int) → (vid : Nat) → Int
/-- The firmware entry that the boot ROM verified, in its copy in the device-reserved region (R664, R718; log 43). -/
opaque firmwareEntry : Nat

/-- The Paddock's mask ROM, the bytes of its firmware version string and its certificate (19_paddock.md R680, R694; log 2). -/
opaque paddockRom : List (BitVec 8)
opaque paddockVersion : Fin 16 → BitVec 8
opaque paddockCert : List (BitVec 8)
/-- The device serial number that authority commands name, and the Cragal root key in the Paddock's mask ROM (R690; log 2). -/
opaque serial : BitVec 64
opaque cragalX : BitVec 384
opaque cragalY : BitVec 384

/-- Fused values (21_startup.md R728, 18_heath_ageing.md R677): SVN_MIN as fused, revoked key slots, RECIPE_SIGNED, and the lowest VID code. -/
opaque fusedSvnMin : BitVec 16
opaque fusedRevoked : BitVec 4
opaque fusedRecipeSigned : Bool
opaque fusedVmin : BitVec 6
/-- The challenge of SEC_DEBUG after the n-th boot, and whether a response to it is the signature that R722 asks for (log 2). -/
opaque debugChallenge : (boot : Nat) → (i : Nat) → BitVec 32
opaque debugVerify : (boot : Nat) → (response : List (BitVec 8)) → Bool

end Sys2Proof.Config
end

