-- ==== Sys2Proof/Machine/State.lean ====
section
/-! DEFINITION. The state of the device as plain data: the register file, the memories, the records that the chapters
of spec/ give each unit, and the queue of waiting commands. `State.reset` is the device just out of a cold reset. -/

namespace Sys2Proof.Machine

/-! ### The register map's own types (00_scope.md R6) -/

/-- A field of a register: the register's key (BAR0 offset), the field's lowest bit and its width (R4). -/
structure Field where
  key : Nat
  lo : Nat
  w : Nat
  deriving DecidableEq, Repr

/-- The access codes of R6. -/
inductive Acc where
  | ro | rw | rw1c | wo | rc | srw | sl
  deriving DecidableEq, Repr

/-- A field as the register map lists it. -/
structure RegField where
  lo : Nat
  w : Nat
  acc : Acc
  reset : Nat
  deriving DecidableEq, Repr

/-- A row of the register map: base key, repetitions (count, stride) from the widest stride to the narrowest,
bytes (4 or 8) and fields. -/
structure RegRow where
  base : Nat
  dims : List (Nat × Nat)
  bytes : Nat
  fields : List RegField
  deriving DecidableEq, Repr

/-! ### Sparse data in one canonical form -/

/-- A sparse map: keys strictly rising, no entry equal to what an unlisted key reads as. -/
abbrev Table (V : Type) := List (Nat × V)

/-- An SRW value that a hand-over copied into a snapshot (02_layout_table.md R64, R65). -/
structure Landed where
  key : Nat
  snap : Nat
  value : Word
  deriving DecidableEq, Repr

/-- Writes of a channel's shadow copy that are complete at the end of a CLK_SEQ cycle which no hand-over has yet passed, so that a hand-over of that
cycle, or of one before it, still finds what stood at the end of the cycle before (02_layout_table.md R65, R66, R69): oldest first, by register its key,
the cycle, and the value that was pending before (none: nothing was); of HOLD the cycle, its value before, and whether the write cleared it; and the
LANDED registers that the writes set, with the cycle. -/
structure ShadowLog where
  writes : List (Nat × Nat × Option Word) := []
  holds : List (Nat × Bool × Bool) := []
  fields : List (Nat × Nat) := []
  deriving DecidableEq, Repr

/-- Registers of the PCI Express configuration space that the spec states (02_layout_table.md R55, 14_host_dma.md R547): device and revision ID. -/
structure PciConfig where
  device : Nat := 0x1600
  revision : Nat := 0xA1
  deriving DecidableEq, Repr

/-! ### Morop threads and management cores (03_morop.md) -/

/-- Thread states of R82, in the order of their codes. -/
inductive ThState where
  | idle | runnable | waiting | blocked | trapped
  deriving DecidableEq, Repr

/-- A task descriptor of R149 as read from the issuer's memory: the fields, the payload as four 64-bit words,
and whether a reserved field or bit is non-zero. -/
structure Desc where
  cls : Nat := 0
  engine : Nat := 0
  group : Nat := 0
  cost : Nat := 0
  channel : Nat := 0
  event : Nat := 0
  payload : List Nat := []
  badReserved : Bool := false
  deriving DecidableEq, Repr

/-- What a far or uncached access does: a load, with or without sign extension, a store, or an atomic operation (R110, R130). -/
inductive MemOp where
  | load (signed : Bool)
  | store
  | add
  | swap
  | cas
  deriving DecidableEq, Repr

/-- What a BLOCKED agent waits for: nothing, a far access, or an access of a core to the register region (R94, R130), a line that a core's cache fetches
(R130), an ISSUE or ISSUED without an entry (R118; `at?` is ISSUED's release time, `tested` whether the tests of R754's issue cycle have been made), the
end of its stores (FENCE, R110), or a line (SLEEP, R131). -/
inductive Block where
  | none
  | far (op : MemOp) (bytes : Nat) (rd : Nat) (addr : Nat) (data : Word)
  | fill (instr : Bool) (line : Nat)
  | issue (rd : Nat) (d : Desc) (at? : Option Nat) (tested : Bool)
  | fence
  | sleep
  | halted
  deriving DecidableEq, Repr

/-- A WAIT in progress (R111, R112): mask, deadline and destination register. -/
structure WaitRec where
  mask : Word
  deadline : Option Int
  rd : Nat
  deriving DecidableEq, Repr

/-- A completion record of R120, as the dispatcher holds it. -/
structure CompRec where
  entry : Nat
  handle : Nat
  status : Nat
  cls : Nat
  cost : Nat
  deriving DecidableEq, Repr

/-- A Morop context: one of 256 sequencer threads or one of the four management cores (R85 to R87, R130). -/
structure Thread where
  st : ThState := .idle
  g : Table Word := []
  pc : Nat := 0
  chan : Nat := 0xFFFF
  ven : Bool := false
  cause : Nat := 0
  epend : Word := 0
  epc : Nat := 0
  tpc : Nat := 0
  tval : Word := 0
  cqBase : Nat := 0
  cqLen : Nat := 0
  cqHead : Nat := 0
  cqTail : Nat := 0
  cycles : Nat := 0
  instret : Nat := 0
  runcount : Nat := 0
  wait : Option WaitRec := none
  block : Block := .none
  /-- raw time at which the latest context-window store is complete (R91) -/
  storesUntil : Nat := 0
  /-- a HALT has been executed and the thread's stores are not yet complete -/
  halting : Bool := false
  /-- STOP has been posted for the running channel, with the raw time of R129's limit -/
  stopBy : Option Nat := none
  /-- completion records held for a full ring (R121), oldest first -/
  held : List CompRec := []
  /-- of an IDLE thread, the key of its data partition when it became IDLE, where its outstanding records go (R751) -/
  ringKey : Option Nat := none
  deriving DecidableEq, Repr

/-- A sequencer thread's place in the issue of its sequencer, in CLK_SEQ cycles: the cycle from which it may issue (R81, R103), the cycle until which it
holds the issue slot (R84), one more than the cycle in which it last issued (R80), the cycle until which a divide blocks it (R82, R110), and by general
register the cycle from which a result can be used (R83, R84). -/
structure IssueSlot where
  next : Nat := 0
  hold : Nat := 0
  last : Nat := 0
  div : Nat := 0
  ready : Table Nat := []
  deriving DecidableEq, Repr

/-- A line of a management core's data cache: its bytes and whether it is dirty (R131). -/
structure CacheLine where
  bytes : List (BitVec 8)
  dirty : Bool
  deriving DecidableEq, Repr

/-- What a management core has beside its Morop context: the control registers of R132, the handler bank,
its caches, and whether it is held in reset (R642, R664). -/
structure CoreX where
  held : Bool := false
  irqOn : Bool := false
  irqSaved : Bool := false
  inHandler : Bool := false
  resume : Nat := 0
  reason : Nat := 0
  detail : Word := 0
  table : Nat := 0
  lineEn : Nat := 0
  linePend : Nat := 0
  bank : Bool := false
  b29 : Word := 0
  b30 : Word := 0
  b31 : Word := 0
  resetRaw : Nat := 0
  dcache : Table CacheLine := []
  icache : Table (List (BitVec 8)) := []
  /-- MPC tasks and notices delivered and not yet taken by WAIT, oldest first: the event each posts, and whether it
  is a task of R169 -/
  delivered : List (Nat × Bool) := []
  deriving DecidableEq, Repr

/-! ### The dispatcher (04_dispatcher.md) -/

/-- Task entry states of R144. -/
inductive TaskSt where
  | free | delayed | ready | running | ended
  deriving DecidableEq, Repr

/-- A task entry (R143). `issuer` is the Morop context that issued it, `release` ISSUED's time, `order` its place among READY
tasks, `readyAt` and `startAt` raw times, `unit` the unit it was dispatched to. -/
structure TaskEntry where
  st : TaskSt := .free
  gen : Nat := 0
  d : Desc := {}
  ch : Option Nat := none
  issuer : Nat := 0
  release : Nat := 0
  order : Nat := 0
  /-- the CLK_SEQ cycle in which it became READY (R159, R172) -/
  readyCyc : Nat := 0
  readyAt : Nat := 0
  startAt : Nat := 0
  unit : Nat := 0
  aged : Bool := false
  direct : Bool := false
  /-- the access unit that a running DEC task works on (R310), or the source buffer of a running PRF task (R262) -/
  au : Nat := 0
  deriving DecidableEq, Repr

/-- What an admitted declaration charges (R179, R180): mode, and the sums of its records. -/
structure Adm where
  admitted : Bool := false
  /-- OP RELEASE has been accepted and the channel's last task entry is not yet FREE (R185) -/
  releasing : Bool := false
  subframe : Bool := false
  /-- per tray: engines owned (bit mask) and frame-mode PER_SECOND -/
  trays : List (Nat × Nat × Nat) := []
  /-- per resource 1 to 5: PER_SECOND -/
  perSecond : List (Nat × Nat) := []
  /-- PER_FRAME sums for engines, proofing, scaler -/
  frame : Nat × Nat × Nat := (0, 0, 0)
  deriving DecidableEq, Repr

/-! ### The timebase (12_timebase.md) -/

/-- The parts of the timebase that are not registers: the remainder A and anchor r_a of R491, the servo of R500 (integrator,
previous and last sample, good count), the raw time of the most recent step (R499) and of the most recent processed sample
(R502), and the forced step of a followed epoch (R510). -/
structure TbState where
  a : Nat := 0
  ra : Nat := 0
  i : Int := 0
  rPrev : Option Nat := none
  rLast : Option Nat := none
  good : Nat := 0
  stepRaw : Option Nat := none
  followStep : Bool := false
  /-- raw time at which a sample was last processed (R502) -/
  procRaw : Nat := 0
  /-- raw time of each Weneiren port's latest time flit (R508) -/
  flitLast : Table Nat := []
  deriving DecidableEq, Repr

/-- A running pulse generator (R512, R513): the next pulse's index and, while the output is high, the raw time and local
time at which it rose; `raw` marks a pulse that a step caught high (R514). -/
structure Pg where
  k : Nat := 0
  rose : Option (Nat × Int) := none
  stepped : Bool := false
  deriving DecidableEq, Repr

/-! ### The Sieve (17_sieve.md) -/

/-- A record of R631. -/
structure SieveRec where
  raw : Nat
  recno : Nat
  source : Nat
  cls : Nat
  sev : Nat
  prog : Nat
  escalated : Bool
  acked : Bool
  raised : Bool
  injected : Bool
  suspect : Nat
  count : Nat
  lastDelta : Nat
  detail : Word
  ackAt : Nat := 0
  deriving DecidableEq, Repr

/-! ### Media ports and ingest (05_ingest.md) -/

/-- A lane: consecutive windows below its eye floor (R200) and the times the health monitor keeps (18_heath_ageing.md). -/
structure LaneSt where
  low : Nat := 0
  deriving DecidableEq, Repr

/-- A media port, named by its MAC: whether an isolation holds it down (R642), and whether it went down so that a frame which still arrives was in
reception then (R206; log 122). -/
structure PortSt where
  held : Bool := false
  cut : Bool := false
  deriving DecidableEq, Repr

/-- A good frame on its way from a MAC to the ingest packet engine, with its receive time-stamp and the raw time of its hand-over (R207, R208). -/
structure RxFrame where
  mac : Nat
  stamp : Nat
  came : Nat
  frame : EthFrame
  deriving DecidableEq, Repr

/-- The control-path bucket of ING_CTL_RATE: packets spent and not yet refilled, the refill's remainder and time, and the time of
the latest CTL_DROP report (R242, R244). -/
structure CtlSt where
  used : Nat := 0
  frac : Nat := 0
  last : Nat := 0
  dropAt : Option Nat := none
  deriving DecidableEq, Repr

/-- A merge pair (R234): the highest sequence number, the marked ones, each path's latest delivery, and the raw time of its enable (R244). -/
structure PairSt where
  highest : Option Nat := none
  /-- marked sequence numbers with the paths that carried them: 1 A, 2 B, 3 both -/
  marks : List (Nat × Nat) := []
  since : Nat := 0
  lastA : Option Nat := none
  lastB : Option Nat := none
  /-- which path is known to be silent: PATH_B of it -/
  silent : Option Bool := none
  deriving DecidableEq, Repr

/-- A channel's token pool (R237, R239): free tokens, the one returned longest ago first. -/
structure PoolSt where
  free : List Nat := []
  deriving DecidableEq, Repr

/-- A frame of a video channel: its grid index and sampling instant (2^-32 ns), its token, whether it found no token, and for
every line that has pixel groups in memory the mask of those written (R229 to R239); the complexity of its blocks, its scene cuts by band
(R255, R256), and the ENC columns of its picture that are over (R306). -/
structure FrameSt where
  n : Nat
  inst : Int
  rtp : Nat
  token : Option Nat
  lines : Table Nat := []
  cplx : Table Nat := []
  cuts : List Nat := []
  finished : List Nat := []
  deriving DecidableEq, Repr

/-! ### Decoding (09_decode.md) -/

/-- What becomes of an access unit once its first DEC task starts: not yet begun, decoded into a buffer, skipped at a RASL picture,
before an entry point or for want of a buffer, or of a refused sequence (R402 to R404). -/
inductive AuFate where
  | waiting
  | decoded (buf : Nat)
  | rasl
  | skipped
  | noBuffer
  | refused
  deriving DecidableEq, Repr

/-- An access unit in a decode input ring (R394): its number, its timestamp in 90 kHz units, the local time of its first packet, the
raw time of its latest, its bytes, the local time at which it closed, whether it closed by timeout, whether it is an entry
point, and the parts that have ended. -/
structure Au where
  no : Nat
  ts : Nat
  arrival : Int
  lastPkt : Nat
  bytes : Nat
  closed : Option Int := none
  timeout : Bool := false
  /-- an entry point, as the NAL units that came show (R410) -/
  head : Bool := false
  entry : Bool := false
  fate : AuFate := .waiting
  ended : Nat := 0
  /-- a part of it ended without its engine's result (R324) -/
  lost : Bool := false
  /-- what its head shows of its tile columns, CTU rows, CTU size and wavefronts (R310) -/
  columns : List Nat := []
  rows : Nat := 0
  ctu : Nat := 64
  wavefronts : Bool := false
  /-- what its ended parts have found (R402, R405) -/
  missingRefs : Nat := 0
  ctuSyntax : Nat := 0
  ctuMissing : Nat := 0
  recovering : Bool := false
  keeps : List Nat := []
  long : List Nat := []
  deriving DecidableEq, Repr

/-- A decoded picture waiting for its frame, or shown last: its buffer, T_pres in 2^-32 ns, snapshot and whether it is concealed. -/
structure Pic where
  buf : Nat
  pres : Int
  snap : Nat
  concealed : Bool
  /-- the raw time at which its last DEC part ended (R400) -/
  endedAt : Nat := 0
  deriving DecidableEq, Repr

/-- An output buffer in use (R405): reference mark, shown or dropped, and the paths that have not yet released it. -/
structure OutBuf where
  ix : Nat
  ref : Bool := true
  /-- the mark is LONG_TERM (R316) -/
  long : Bool := false
  done : Bool := false
  host : Bool := false
  trans : Bool := false
  deriving DecidableEq, Repr

/-- A decode channel: ring write offset and bytes used, access units in the ring, numbers handed out, the number of the first
unit since the start, DEC tasks dispatched per part, decoded pictures, buffers, the picture shown last, whether decoding has found
an entry point, the anchor of arrival mode, the next output frame, and the channels of its ST 302M stream. -/
structure DecSt where
  wr : Nat := 0
  used : Nat := 0
  /-- the pictures of the sequence being decoded: width, height, bit depth, 4:2:0 (R292, R407) -/
  width : Nat := 0
  height : Nat := 0
  depth : Nat := 0
  c420 : Bool := false
  aus : List Au := []
  next : Nat := 0
  base : Nat := 0
  parts : Nat := 0
  tasks : Table Nat := []
  pics : List Pic := []
  bufs : List OutBuf := []
  shown : Option Pic := none
  decoding : Bool := false
  anchor : Option (Int × Nat) := none
  outN : Nat := 0
  audChans : Nat := 0
  audPts : Nat := 0
  /-- the last bytes of the video elementary stream of a transport stream -/
  tail : List (BitVec 8) := []
  audPes : List (BitVec 8) := []
  deriving DecidableEq, Repr

/-! ### Engines and encoding (07_codec_engines.md) -/

/-- A bitstream slice selected for proof (R340 to R344): channel, rendition, column, band, the picture's snapshot, the engine that
coded it and its CRC-64, its CTU count, the reference slots it holds, the raw time of its emission, the engine that
proofs it now, and the engine and result of a first proof that did not match. -/
structure Proof where
  ch : Nat
  rend : Nat
  column : Nat
  band : Nat
  snap : Nat
  coder : Nat
  crc : Word
  ctus : Nat
  slots : List Nat
  emitted : Nat
  startAt : Nat := 0
  runner : Option Nat := none
  first : Option (Nat × Word) := none
  deriving DecidableEq, Repr

/-- A coded motion vector in quarter samples, of the prediction block at (x, y) of w by h luma samples, into the picture of frame ref (R312). -/
structure MotionVec where
  x : Nat
  y : Nat
  w : Nat
  h : Nat
  ref : Nat
  mvx : Int
  mvy : Int
  deriving DecidableEq, Repr

/-- A tile column of a budget unit: its CTUs, those committed, whether it is in crust mode, whether a CTU is being coded, whether it is
coded as repeat CTUs or substituted, its crust CTUs, target, bits, complexities, quantiser and its statistics, engine and task. -/
structure ColSt where
  total : Nat := 0
  done : Nat := 0
  crust : Bool := false
  inflight : Bool := false
  rep : Bool := false
  sub : Bool := false
  crustN : Nat := 0
  target : Nat := 0
  bits : Nat := 0
  xDone : Nat := 0
  xAll : Nat := 0
  q : Int := 0
  qFirst : Int := 0
  qSum : Int := 0
  qN : Nat := 0
  engine : Option Nat := none
  task : Option Nat := none
  /-- the vectors of its committed prediction blocks (R311 to R313) -/
  motion : List MotionVec := []
  /-- a CTU of the refresh band was coded in crust mode or left uncoded (R327) -/
  held : Bool := false
  deriving DecidableEq, Repr

/-- A budget unit: a band of a rendition in sub-frame mode, a picture in frame mode (R355 to R378). `idx` is its place in release
order within the rendition's pictures, `src` the frame it is coded from. -/
structure UnitSt where
  ch : Nat
  rend : Nat
  idx : Nat
  src : Nat
  band : Nat
  snap : Nat
  intra : Bool := false
  idr : Bool := false
  irap : Bool := false
  cut : Bool := false
  window : Nat := 0
  committed : Nat := 0
  cols : List ColSt := []
  rep : Bool := false
  rolled : Bool := false
  rollbacks : Nat := 0
  timeTrig : Bool := false
  lateN : Nat := 0
  complete : Bool := false
  filler : Nat := 0
  overdue : Bool := false
  /-- a unit of a B picture; the coding deadline has passed and the assembly is staged; crust CTUs (R355, R378) -/
  b : Bool := false
  staged : Bool := false
  /-- the picture starts a refresh cycle, with its recovery count; the snapshot whose colour and HDR values its headers carry; and F for
  its buffering period (R295, R326, R364) -/
  recovery : Option Nat := none
  /-- sampling instant of the source frame, in 2^-32 ns (R454) -/
  inst : Int := 0
  vui : Nat := 0
  initF : Nat := 0
  crustN : Nat := 0
  deriving DecidableEq, Repr

/-- A picture of a rendition's plan (R301 to R304): decode index, source frame, type, references by source frame, whether a later
picture may reference it, its slot, the columns coded (mask), and whether it is over. -/
structure PlanPic where
  i : Nat
  n : Nat
  irap : Bool := false
  idr : Bool := false
  b : Bool := false
  refs : List Nat := []
  used : Bool := true
  slot : Option Nat := none
  cols : Nat := 0
  finished : Bool := false
  /-- coded as a repeat picture (R320, R321) -/
  rep : Bool := false
  /-- an IDR picture coded after it has begun (R318) -/
  past : Bool := false
  deriving DecidableEq, Repr

/-- A reference slot (R316): mark (0 UNUSED, 1 SHORT_TERM, 2 LONG_TERM), the frame it holds and its snapshot, and whether the picture
being coded writes it; the refresh cycle and the position in it of its picture (R325, R329). -/
structure RefSlot where
  mark : Nat := 0
  n : Nat := 0
  snap : Nat := 0
  cur : Bool := false
  pos : Nat := 0
  cycle : Nat := 0
  deriving DecidableEq, Repr

/-- A rendition of a running channel: the CPB model's fullness in 2^-16 bit and its latest removal (R357), units released, the quantiser
at the end of each column per slice type and the PSNR of that unit (R379), the proof accumulator (R340), the refresh position and
whether it is held (R325 to R330), the plan, ENC tasks per column, the next frame to plan and the frame of the last IRAP, slots,
and whether the start-up IDR is still due. -/
structure RendSt where
  f : Nat := 0
  lastRel : Option Int := none
  /-- what the bit counters leave of the fullness at the start (R384) -/
  cpb0 : Int := 0
  units : Nat := 0
  /-- units whose coding deadline has passed (R355) -/
  coded : Nat := 0
  qEnd : Table Nat := []
  psnr : Table Nat := []
  /-- Tasting of the picture in progress: sums over its bands and flags (R338) -/
  tacc : TasteBand := ⟨0, 0, 0, 0, 0, 65536⟩
  tflags : Nat := 0
  /-- every unit of the picture being released was a repeat (R697) -/
  allRep : Bool := true
  /-- the snapshot whose colour and HDR values are in force (R295) -/
  vui : Nat := 0
  /-- the snapshot of the latest picture whose messages have gone out (R463) -/
  seiAt : Nat := 0
  acc : Nat := 0
  pos : Nat := 0
  /-- refresh cycles begun (R325) -/
  cycle : Nat := 0
  hold : Bool := false
  plan : List PlanPic := []
  encNo : Table Nat := []
  planI : Nat := 0
  planN : Nat := 0
  lastIrap : Nat := 0
  needIdr : Bool := true
  slots : Table RefSlot := []
  deriving DecidableEq, Repr

/-- The proofing slot in progress, or next to begin, of a sub-frame channel: frame and band, whether it has begun, whether the slice is
a repeat, blocks hit by an uncorrectable error, and renditions whose input for the band is missing (R258 to R260, R282). -/
structure SlotRec where
  n : Nat := 0
  k : Nat := 0
  on : Bool := false
  rep : Bool := false
  ecc : List Nat := []
  sclBad : List Nat := []
  /-- a slice of this frame has been analysed -/
  seen : Bool := false
  deriving DecidableEq, Repr

/-! ### Audio (10_audio.md) -/

/-- A stream buffer: its latest read position, the valid bits (sample number to mask of channels), the last delivered value of
each channel, the V, U and C bits kept beside samples (R437), and for the audit the periods since enable and the valid samples
cleared unread (R417, R418, R420, R699). -/
structure SbSt where
  lastR : Option Int := none
  valid : Table Nat := []
  last : Table Nat := []
  vuc : Table Nat := []
  periods : Nat := 0
  /-- live channels summed over the periods since enable -/
  livePeriods : Nat := 0
  discarded : Nat := 0
  deriving DecidableEq, Repr

/-- A TDM port: N0 and the frames that have left the receive FIFO (R429), the FIFOs, whether the receive FIFO drains (R430), the
masks and maps in force and whether a write of each direction waits for a frame boundary (R426), the last frame of each
direction (R428), a start that waits for FS (R433), the raw time of the latest FS (R424), and the periods since start. -/
structure TdmSt where
  n0 : Nat := 0
  i : Nat := 0
  rx : List (List Nat) := []
  tx : List (List Nat) := []
  drains : Bool := false
  maskRx : Nat := 0
  maskTx : Nat := 0
  mapRx : List Nat := []
  mapTx : List Nat := []
  pendRx : Bool := false
  pendTx : Bool := false
  /-- the raw time of the first waiting mask write of each direction -/
  sinceRx : Nat := 0
  sinceTx : Nat := 0
  lastRx : List Nat := []
  lastTx : List Nat := []
  startAt : Option Nat := none
  lastFs : Nat := 0
  m : Nat := 0
  /-- what the frame counters summed to at the start: transmit and receive (20_conservation.md R696) -/
  tx0 : Int := 0
  rx0 : Int := 0
  deriving DecidableEq, Repr

/-- The oscillator loop (R431, R432). -/
structure LoopSt where
  acc : Int := 0
  good : Nat := 0
  limit : Nat := 0
  lastMs : Int := -1
  deriving DecidableEq, Repr
/-! ### Transport and egress (11_egress.md) -/

/-- A transport packet as the multiplexer fills it: PID, continuity counter, payload unit start, payload bytes, the PCR it carries and
whether it marks a discontinuity (R455 to R461), what begins in it (PTS and DTS of a PES, or the fields of a section), and the bytes of a MUX task's
block (R468). -/
structure TsPkt where
  pid : Nat
  cc : Nat := 0
  start : Bool := false
  payload : Nat := 0
  pcr : Option Nat := none
  disc : Bool := false
  info : List Nat := []
  data : List (BitVec 8) := []
  deriving DecidableEq, Repr

/-- What an egress frame carries: a NAL unit packet (0 single, 1 aggregation, 2 fragment), a TS datagram, audio samples from a number on,
ancillary data, pixel groups of an output frame, or a control packet. -/
inductive TxBody where
  | nal (kind bytes : Nat)
  | ts (pkts : List TsPkt)
  | audio (first : Nat) (samples : List (List Nat))
  | anc (data : List (BitVec 8))
  | pixels (frame index : Nat) (buf : Option Nat)
  | control (data : List (BitVec 8))
  deriving DecidableEq, Repr

/-- An egress frame: its flow, path (0 A, 1 B), RTP sequence number, timestamp and marker, bytes from destination address to FCS, SRTP
slot and packet index, body, whether it has been counted in GATE_DELAYED (R453, R454, R470, R483), and the CLK_FAB cycle of its release (R451). -/
structure TxFrame where
  flow : Nat
  path : Nat := 0
  seq : Nat := 0
  ts : Nat := 0
  marker : Bool := false
  len : Nat
  srtp : Option (Nat × Nat) := none
  body : TxBody
  late : Bool := false
  elig : Nat := 0
  deriving DecidableEq, Repr

/-- A queue of a port's weighted group: its frames, the tag of its head and its finish tag (R477). -/
structure WfqQ where
  frames : List TxFrame := []
  tag : Nat := 0
  finish : Nat := 0
  deriving DecidableEq, Repr

/-- A port's scheduler: its queues SP0 to SP3 and weighted queues, the virtual time, the frame in transmission with its queue and the raw
time of its end, and the operational gate list: its length, cycle, change time and current entry (R475 to R482). -/
structure TxPort where
  sp : Table (List TxFrame) := []
  wfq : Table WfqQ := []
  v : Nat := 0
  /-- v before its latest change, and the raw time of that (R478) -/
  vOld : Nat := 0
  vAt : Nat := 0
  cur : Option (Nat × TxFrame × Nat) := none
  operLen : Nat := 0
  operCycle : Nat := 0
  operAt : Option Int := none
  entry : Nat := 0
  deriving DecidableEq, Repr

/-- An egress flow: its next sequence number, audio samples gathered for a packet with the number of the first, the output frame that a
KIND 4 flow sends with its next packet and its packets per frame, the release time of the latest emitted unit, whether a unit has been accepted for the
packet in hand, and what a gated flow holds or repeats without one: the last sample of each channel, and the last picture (R454, R466, R467, R485). -/
structure FlowTx where
  seq : Nat := 0
  aud : List (List Nat) := []
  audN : Nat := 0
  vid : Option (Nat × Option Nat) := none
  vidI : Nat := 0
  vidPer : Nat := 1
  lastRel : Option Int := none
  got : Bool := false
  held : List Nat := []
  shown : Nat × Option Nat := (0, none)
  deriving DecidableEq, Repr

/-- Bytes that wait to enter a transport stream: how many, whether the next packet begins a PES or section, its PID, what begins in it,
the PTP time from which they are due, the MUX task they belong to, and the address of its bytes that are still to be placed (R468). -/
structure TsPart where
  left : Nat
  start : Bool := true
  pid : Nat
  sect : Bool := false
  info : List Nat := []
  due : Int := 0
  task : Option Nat := none
  src : Nat := 0
  deriving DecidableEq, Repr

/-- A transport stream (R455 to R461): T0 in raw units of 2^-32 ns, datagrams released, continuity counters, raw times of the latest PCR and
of the latest PAT and PMT, steps of the timebase seen, bytes that wait, and the audio samples of the current frame period. -/
structure StrSt where
  t0 : Option Nat := none
  j : Nat := 0
  cc : Table Nat := []
  pcrAt : Option Nat := none
  psiAt : Option Nat := none
  steps : Nat := 0
  scte : List TsPart := []
  mux : List TsPart := []
  audio : List TsPart := []
  video : List TsPart := []
  aud : List (List Nat) := []
  audN : Nat := 0
  deriving DecidableEq, Repr

/-- An SRTP slot's key and salt (R470, R471). -/
structure SrtpKey where
  key : Nat := 0
  salt : Nat := 0
  deriving DecidableEq, Repr

/-- A splice target's SCTE-35 section (R465): target snapshot, splice_event_id, unique_program_id, out of network, a cancel, and the raw
time of the latest sending. -/
structure Scte where
  snap : Nat
  id : Nat
  prog : Nat
  outNet : Bool
  sentAt : Nat
  deriving DecidableEq, Repr


/-! ### Flits (15_weneiren.md) -/

/-- What a flit carries (R571, R574, R581, R583, R609): IDLE (announcing electrical idle, or with NAK), MEM_WRITE, MEDIA, MSG, TIME, HEARTBEAT,
the echo pair, LANE_MAP and AUDIT. -/
inductive Flit where
  | idle (entry nak : Bool)
  | memWrite (addr : Nat) (data : List (BitVec 8))
  | media (data : List (BitVec 8))
  | msg (data : List (BitVec 8))
  | time (at' : Int) (epoch st : Nat) (used : Bool)
  | heartbeat (g unit claim snap img : Nat)
  | echoReq
  | echoRsp
  | laneMap (lane seq : Nat)
  | audit (ack : Nat) (received returned occupied : List Nat)
  deriving DecidableEq, Repr

/-! ### Outputs and MSI-X (14_host_dma.md) -/

/-- An MSI-X vector: message address and data, mask and pending bit (R548). -/
structure MsixVec where
  addr : Nat := 0
  data : Nat := 0
  masked : Bool := true
  pending : Bool := false
  deriving DecidableEq, Repr

/-- The coding tools that a parameter set of the device may enable (07_codec_engines.md R291). -/
inductive Tool where
  | deblocking
  | sao
  | amp
  | tmvp
  | signDataHiding
  | transformSkip
  | longTermReferences
  | alf
  | lmcs
  | implicitMts
  | gradualRefresh
  deriving DecidableEq, Repr

/-- A bitstream slice of a unit: its tile column, band and CTUs, and whether it is a rectangular slice, as in VVC, or an independent slice segment, as in
HEVC (R284). -/
structure SliceHead where
  column : Nat
  band : Nat
  ctus : Nat
  rectangular : Bool
  deriving DecidableEq, Repr

/-- The hypothetical decoder's parameters (R364): rate in kbit/s, size in bits, constant rate, and the initial removal delay of the buffering period
message in units of 1/90 000 s. -/
structure HrdParams where
  rate : Nat
  size : Nat
  cbr : Bool
  delay : Nat
  deriving DecidableEq, Repr

/-- A message that a picture's units carry for its ancillary data (R463): ATSC A/53 captions or AFD and bar data in a registered user data message, or a
time code. -/
inductive Sei where
  | captions (data : List Nat)
  | afd (data : List Nat)
  | timeCode (data : List Nat)
  deriving DecidableEq, Repr

/-- What the headers of a unit say (R284, R291 to R296, R326): picture type, whether parameter sets are written, the codec, profile, tier, level, CTU size,
bit depth and sampling, the tile column widths and whether uniform_spacing_flag signals them, the tools enabled, the colour description, the HDR and
recovery-point messages written, whether the picture is a GDR picture, the messages of R463, and the bitstream slices in order. -/
structure UnitHeads where
  irap : Bool
  idr : Bool
  sets : Bool
  vvc : Bool
  profile : Nat
  high : Bool
  level : Nat
  ctu : Nat
  depth : Nat
  c420 : Bool
  columns : List Nat
  uniform : Bool
  tools : List Tool
  colour : Nat
  mdcv : Option (List Nat)
  cll : Option Nat
  recovery : Option Nat
  gdr : Bool
  hrd : Option HrdParams
  sei : List Sei
  slices : List SliceHead
  deriving DecidableEq, Repr

/-- A bit time at an AP port: FS where the port drives it, DOUT (none: high impedance), and whether they are launched on the rising BCLK edge
(R423 to R425). -/
structure PinTime where
  fs : Option Bool
  dout : Option Bool
  launchRising : Bool
  deriving DecidableEq, Repr

/-- What leaves the device, or is shown to the outside by it (log 7). -/
inductive Output where
  /-- A release unit reaches the transport multiplexer: channel, rendition, place and band of the unit, and its headers (R285). -/
  | unit (ch rend idx band : Nat) (h : UnitHeads)
  /-- An MSI-X message of a vector (R548). -/
  | msix (vector addr data : Nat)
  /-- The device halts: CLB_DAT and CLB_CLK released, TDM and pulse outputs low (R645). -/
  | halt
  /-- A memory controller answers a request: the bytes read (empty for a write), or an error response (R526, R532, R536). -/
  | memResp (q : Requester) (addr : Nat) (data : Option (List (BitVec 8)))
  /-- A packet for the management processor complex, with its MAC and receive time-stamp (R208, R242). -/
  | toMpc (mac stamp : Nat) (frame : EthFrame)
  /-- The bit times of a frame at the pins of AP port, from the one in which FS begins it (R423 to R425). -/
  | tdm (port : Nat) (wave : List PinTime)
  /-- The mean of AUD_VCXO_PWM, in 1/65536 of VDD_IO18 (R432). -/
  | pwm (mean : Nat)
  /-- A decode channel's output frame starts on its ST 2110-20 path: egress flow, grid frame, buffer (none: mid-grey) (R406). -/
  | decFrame (flow n : Nat) (buf : Option Nat)
  /-- The last bit of a frame leaves port (R475), with its transmit time-stamp where it came from SP0 (R506). -/
  | txFrame (port queue : Nat) (f : TxFrame) (stamp : Option Nat)
  /-- A flit leaves a Weneiren port: its SEQ where it is sequenced, ACK_SEQ, and the credits it returns (R570). -/
  | flit (port : Nat) (seq : Option Nat) (ack cvc credits : Nat) (f : Flit)
  /-- This device's part in a Claim Bus cycle: in each of its 45 bit times CLB_CLK is driven low from 0 ns to 8 ns, and CLB_DAT from 2 ns to 16 ns where the
  bit is 1 (R592, R593). -/
  | claimBus (dat : List Bool)
  /-- A register read is answered: the register's key and its value (none: an error response, R12). -/
  | regRead (key : Nat) (value : Option Word)
  /-- The Paddock answers a command on its sideband bus: the result code and the bytes read (R694). -/
  | sideband (result : Nat) (data : List (BitVec 8))
  /-- A posted write to host memory (R553, R559). -/
  | hostWrite (addr : Nat) (data : List (BitVec 8))
  /-- The answer to a host read through a BAR2 window: its bytes, or Completer Abort (R551). -/
  | barRead (addr : Nat) (data : Option (List (BitVec 8)))
  /-- An IGMPv3 or MLDv2 report on a MAC: group, source, join or leave (R554). -/
  | mcastReport (mac : Nat) (ipv6 : Bool) (group source : Nat) (join : Bool)
  deriving DecidableEq, Repr

/-! ### Events in the dispatcher (R98, R148) -/

/-- An event that hardware posts to a thread, and its place in the order of READY. -/
structure SeqPost where
  thread : Nat
  event : Nat
  order : Nat
  deriving DecidableEq, Repr

/-! ### Channels (01_picture_journey.md, 02_layout_table.md) -/

/-- A frame of a channel's source that has been handed over: its index, its sampling instant in 2^-32 ns (R454), and the messages that its ancillary data
becomes (R463). -/
structure SrcFrame where
  n : Nat
  inst : Int
  sei : List Sei := []
  deriving DecidableEq, Repr

/-- What the model keeps of a channel beside its registers. -/
structure ChanSt where
  running : Bool := false
  stopping : Bool := false
  /-- the grid anchor A of R61, in units of 2^-32 ns, and the RTP timestamp of the frame that gave it -/
  anchor : Option Int := none
  anchorRtp : Nat := 0
  /-- hand-overs made since the start, and COMMIT_SEQ at the start: frame n is in snapshot base + n + 1 (R64) -/
  handed : Nat := 0
  /-- index of the first frame: a transcode channel joins its source's grid (R407) -/
  first : Nat := 0
  base : Nat := 0
  /-- engines isolated while the channel ran: they do not rejoin it until it is started again (R346) -/
  lost : List Nat := []
  /-- charged by resource to the window that the hand-over of the cycle in progress opens (R187) -/
  early : Table Nat := []
  /-- width and height of the source frame as its video flow gave them last (R35) -/
  size : Nat × Nat := (0, 0)
  /-- the latest frames handed over, newest first (R454, R463) -/
  past : List SrcFrame := []
  /-- RTP timestamp of the open frame, and its grid index; none where it was refused (R62, R232) -/
  openRtp : Option Nat := none
  openN : Option Nat := none
  slot : SlotRec := {}
  /-- a picture has been analysed since the start or the last history reset (R254) -/
  hist : Bool := false
  /-- the quarter-scale pictures that proofing searches: the last analysed one by region, the one before it, and the one being put together from the
  bands of a sub-frame picture; none where nothing was analysed (R254, R257, R260) -/
  quarter : List (Option (BitVec 8)) := []
  quarter2 : List (Option (BitVec 8)) := []
  quarterNew : List (Option (BitVec 8)) := []
  /-- the latest PRF record may declare a scene cut (R256, R261) -/
  prfCut : Bool := true
  /-- Tasting records written since the start (R338) -/
  taste : Nat := 0
  /-- pending splice targets: snapshot, splice_event_id (R331, R464) -/
  splices : List (Nat × Nat) := []
  /-- SCTE-35 sections of targets, and the next frame whose ancillary data is released (R449, R465) -/
  sctes : List Scte := []
  ancN : Nat := 0
  /-- frames of the source in frame memory, oldest first -/
  frames : List FrameSt := []
  /-- the thread that RECIPE_LOAD loaded for the channel, the address and length of the image's cost declaration, and the data that the image
  gives the data partition (R142, R617, R752) -/
  loaded : Option Nat := none
  decl : Nat := 0
  costLen : Nat := 0
  init : List (BitVec 8) := []
  /-- by rendition, the model's fullness in 2^-16 bit and the release time that a starter image gives a takeover (R620) -/
  image : List (Nat × Int) := []
  /-- pictures counted before the start (20_conservation.md R696) -/
  picBase : Nat := 0
  deriving DecidableEq, Repr

/-! ### Frame memory (13_frame_memory.md) -/

/-- A request to frame memory that waits for the exit from self-refresh (R541). -/
structure MemReq where
  q : Requester
  addr : Nat
  n : Nat
  /-- the bytes of a write; none for a read -/
  data : Option (List (BitVec 8))
  /-- what the code finds when a read is served -/
  ecc : EccResult := .clean
  /-- what the controller has served when the request comes (R524) -/
  served : List MemServed := []
  /-- raw time at which it began to wait (R541) -/
  since : Nat := 0
  deriving DecidableEq, Repr

/-- A request in a controller's queue: whether it is a write, and its row (R524, R525). -/
structure MemEntry where
  write : Bool
  row : Nat
  deriving DecidableEq, Repr

/-- The queue of a bank of a pseudo-channel's rank: its requests, oldest first, and how many of the oldest are to be served in order (R524, R525). -/
structure MemQueue where
  reqs : List MemEntry := []
  ahead : Nat := 0
  deriving DecidableEq, Repr

/-- What a memory controller keeps beside its registers: the next scrub burst (R530), the raw times of the correctable errors
of each rank within the last hour (CE_RATE, R545), and whether the stack is to be in self-refresh, with the raw time of its
latest request (R539, R540). -/
structure MemSt where
  scrub : Nat := 0
  ce0 : List Nat := []
  ce1 : List Nat := []
  ce2 : List Nat := []
  srWanted : Bool := false
  lastReq : Nat := 0
  /-- requests that wait for the exit from self-refresh, oldest first (R541) -/
  waiting : List MemReq := []
  /-- bank refreshes made (R538) -/
  refreshes : Nat := 0
  /-- the request queues, by pseudo-channel, rank and bank (R524) -/
  queues : Table MemQueue := []
  deriving DecidableEq, Repr

/-! ### Host attachment and DMA (14_host_dma.md) -/

/-- A host command as fetched (R552): OPCODE, TAG, CHANNEL, the 48 bytes of PARAMS, and whether a reserved byte of its head is not 0. -/
structure HostCmd where
  opcode : Nat
  tag : Nat
  channel : Nat
  params : List (BitVec 8)
  bad : Bool
  deriving DecidableEq, Repr

/-- A host command ring: the submission tail, the index of the next command to fetch, and the commands in progress, oldest first (R556 to R558). -/
structure HcrSt where
  tail : Nat := 0
  fetched : Nat := 0
  cmds : List HostCmd := []
  deriving DecidableEq, Repr

/-- A DMA descriptor (R559). -/
structure DmaDesc where
  host : Nat
  dev : Nat
  len : Nat
  swap : Nat
  irq : Bool
  deriving DecidableEq, Repr

/-- A burst in flight (R562 to R564): where it lies, its length, its SWAP, the bytes of the device that a D2H burst carries, whether it ends its
descriptor and whether that asks for the vector, whether it was in flight at an ABORT, and whether the device answered its read with an error response
(R532). -/
structure DmaBurst where
  host : Nat
  dev : Nat
  len : Nat
  swap : Nat
  data : List (BitVec 8) := []
  last : Bool := false
  irq : Bool := false
  late : Bool := false
  bad : Bool := false
  deriving DecidableEq, Repr

/-- A DMA channel: its accepted list, the descriptor and the byte at which the next burst begins, bursts in flight, oldest first, whether the list was
withdrawn or stopped by a host error, and the bytes of all accepted descriptors (R560 to R565). -/
structure DmaSt where
  descs : List DmaDesc := []
  ix : Nat := 0
  off : Nat := 0
  inflight : List DmaBurst := []
  aborted : Bool := false
  failed : Bool := false
  accepted : Nat := 0
  deriving DecidableEq, Repr

/-- What PTP_CONFIG has set (R554): domain, transport, delay-request interval and the MACs that carry PTP. -/
structure PtpCfg where
  domain : Nat := 0
  ipv6 : Bool := false
  logDelay : Int := 0
  macs : Nat := 0
  deriving DecidableEq, Repr

/-- A multicast group joined on a MAC (R554). -/
structure Mcast where
  mac : Nat
  ipv6 : Bool
  group : Nat
  source : Nat
  deriving DecidableEq, Repr

/-! ### Weneiren links (15_weneiren.md) -/

/-- What the model keeps of a Weneiren port. -/
structure WlSt where
  /-- isolated (R642) -/
  held : Bool := false
  /-- raw time at which training last began (R576), own receiver ready, peer READY seen (R575) -/
  trainAt : Nat := 0
  ready : Bool := false
  peerReady : Bool := false
  /-- the peer's buffer sizes for VC 1 to 3 from its training blocks, and the initial credits taken at bring-up (R578) -/
  peerBuf : List Nat := []
  init : List Nat := []
  /-- sequenced flits queued and not sent, and sent and not acknowledged with their SEQ, oldest first (R581) -/
  tx : List Flit := []
  sent : List (Nat × Flit) := []
  next : Nat := 0
  /-- SEQ of the next flit to apply (R573) -/
  rxNext : Nat := 0
  /-- credits held for VC 1 to 3, and credits owed to the peer (R583) -/
  credits : Table Nat := []
  owed : Table Nat := []
  /-- logical receive lanes that no working lane carries, and whether the spare works (R581, R582) -/
  failed : List Nat := []
  spareDead : Bool := false
  /-- the receiver runs at half width (R582) -/
  half : Bool := false
  /-- the peer receives this lane of ours on the spare from this SEQ (R581) -/
  txSpare : Option (Nat × Nat) := none
  /-- control flits that wait for the exit from electrical idle, and the raw time of the latest flit sent (R584, R585) -/
  ctl : List Flit := []
  lastTx : Nat := 0
  /-- the peer has announced electrical idle (R584) -/
  rxIdle : Bool := false
  /-- round trips of the echo flits since bring-up, in 1/16 ns, and whether LAT has been measured (R575) -/
  echoes : List Nat := []
  latOk : Bool := false
  /-- messages from the peer's management processor complex, oldest first (R571) -/
  inbox : List (List (BitVec 8)) := []
  deriving DecidableEq, Repr

/-! ### Protection groups and the Claim Bus (16_redundancy.md) -/

/-- What the model keeps of a protection group: the raw time of the latest heartbeat and the misses counted since (R610), the SNAP that the
latest HEARTBEAT flit carried and its raw time, pending cycles (R594, R609, R610), the raw time at which the challenge became pending (R618),
and the SEQ of the latest image built (R614). -/
structure GrpSt where
  th : Nat := 0
  k : Nat := 0
  snap : Nat := 0
  snapAt : Nat := 0
  hb : Bool := false
  challenge : Bool := false
  td : Nat := 0
  seq : Nat := 0
  deriving DecidableEq, Repr

/-! ### The Heath island and the health monitor (18_heath_ageing.md) -/

/-- What the Heath island keeps beside its registers. -/
structure HeathSt where
  /-- an entry to PS2 is in progress, on the way to PS3 (true) or not, and the wake that arrived during it (R654, R655) -/
  entry : Option Bool := none
  entryWake : Option Nat := none
  /-- an exit from PS2 is in progress (R655) -/
  exiting : Bool := false
  /-- raw time of the latest kick of the watchdog (R664) -/
  kickAt : Nat := 0
  /-- the 32-bit fraction of HTH_AON_NS (R665) -/
  aonFrac : Nat := 0
  /-- the HTH_WAKE_TIME that has been reached (R658) -/
  schedFired : Option Nat := some 0
  /-- the last five samples of each sensor, newest first (R661) -/
  samples : Table (List Nat) := []
  /-- a thermal trip refuses every wake (R657), and the next boot reports it (R676) -/
  tripHold : Bool := false
  tripReport : Bool := false
  /-- the level of WAKE_OUT (R656) -/
  wakeOut : Bool := true
  /-- supplies out of range in the latest sample, by sensor (R676) -/
  supplyBad : List Nat := []
  deriving DecidableEq, Repr

/-- What the health and ageing monitor keeps beside its registers: since when a condition of R672 holds (margin below target at 0.85 V,
margin above target plus hysteresis, margin high enough below 0.85 V), the raw time of the latest voltage step, by rank the count of
correctable errors at the latest hour, the running daily total and the completed ones (newest first), hours of the day, and the
daily values of R675, newest first. -/
structure HltSt where
  lowSince : Option Nat := none
  highSince : Option Nat := none
  okSince : Option Nat := none
  stepAt : Option Nat := none
  ceLast : Table Nat := []
  ceToday : Table Nat := []
  ceDays : Table (List Nat) := []
  hours : Nat := 0
  m85 : List Int := []
  deriving DecidableEq, Repr

/-! ### The Paddock (19_paddock.md) -/

/-- A stored record (R687 to R689): its number, TYPE, programme (0 where it has none), its 256 bytes, the ms of uptime at which it closed, and
whether it has been exported. -/
structure PdkRec where
  recno : Nat
  type : Nat
  prog : Nat
  bytes : List (BitVec 8)
  closedMs : Nat
  exported : Bool := false
  deriving DecidableEq, Repr

/-- A programme being measured (R684 to R686): the settings taken at its start, its start by the feed's PTP time and by uptime in ms, and whether its
buffer was found disabled since its latest record. -/
structure PdkProg where
  gating : Nat
  layout : Nat
  buffer : Nat
  firstCh : Nat
  startTime : Nat
  startMs : Nat
  gap : Bool := false
  deriving DecidableEq, Repr

/-- The Paddock: supply, uptime in ms, the latest feed (PTP time, its uptime, whether in holdover or free-running) and whether a gap was seen since
the latest record; the sealed parameters, seal counter and authority key (key ID, x and y); the usage totals in 2^-32 ns; programmes; the
two areas of the store, oldest first; and the mailbox command in progress with the raw time at which it was written. -/
structure PdkSt where
  vdd : Bool := false
  ms : Nat := 0
  feedTime : Nat := 0
  feedMs : Nat := 0
  noPtp : Bool := true
  gapSeen : Bool := false
  limits : List Nat := [623, 1245, 2490, 4980, 9960, 19910, 39820]
  sealCount : Nat := 0
  tamper : Bool := false
  authority : Option (Nat × Nat × Nat) := none
  totals : Table Nat := []
  progs : Table PdkProg := []
  usageN : Nat := 0
  loudN : Nat := 0
  recno : Nat := 0
  main : List PdkRec := []
  area : List PdkRec := []
  /-- a periodic record has been withheld since the latest stored record, and periodic records are being withheld (R689) -/
  withheld : Bool := false
  full : Bool := false
  cmdAt : Nat := 0
  deriving DecidableEq, Repr

/-! ### The Conservation audit (20_conservation.md) -/

/-- A snapshot being written: where, its SCOPE, the raw time of the freezing edge, its sections, and the quantities that failed (R698 to R701). -/
structure ConsSnap where
  addr : Nat
  scope : Nat
  raw : Nat
  body : List Nat
  failed : List Nat
  deriving DecidableEq, Repr

/-- What the audit keeps beside its registers: the raw time at which ENABLE was set, the time of tasks of no channel, since when engines are
isolated, the snapshot being written, and for automatic snapshots the raw time of the latest and whether one waits (R696 to R702). -/
structure ConsSt where
  at' : Nat := 0
  noCh : Nat := 0
  iso : Table Nat := []
  snap : Option ConsSnap := none
  autoAt : Nat := 0
  autoWaits : Bool := false
  deriving DecidableEq, Repr

/-! ### The whole machine -/

/-- Why a step stops with a fault. -/
inductive Fault where
  /-- A command whose operands name what the spec does not let a command name (`wellFormed` is false): raised by the
  meanings of commands that carry lists of bytes or records. Safe: nothing is claimed of such a command. -/
  | malformed
  deriving DecidableEq, Repr

/-- Why a step is refused. -/
inductive Refusal where
  /-- A command that has no meaning yet. Raised by an arm of `exec` only; safe. -/
  | notModelled (mnemonic : String)
  deriving DecidableEq, Repr

/-- The state of the device, and the queue of commands that wait. -/
structure State where
  /-- the commands that wait, first in, first out -/
  pending : List Instr := []
  /-- the raw counter of R490, in ns -/
  raw : Nat := 0
  /-- the register file: every architectural register, at its reset value while unlisted -/
  regs : Table Word := []
  /-- SRW values in snapshots, newest first (R64, R65) -/
  landed : List Landed := []
  /-- keys of SRW registers with a write that has not landed (R65, R70) -/
  srwPend : List Nat := []
  /-- what SRW writes of the latest cycle that had some changed, by channel (R66, R69) -/
  shadowNow : Table ShadowLog := []
  /-- the high words latched by reads of low words, by register (R13) -/
  rdLatch : Table Nat := []
  /-- raw times of the claims of shared resources, by the owner's enable register (R73) -/
  claimAt : Table Nat := []
  /-- by register whose value of the preceding clock cycle is used: the raw time of a cycle that wrote it, and its value before that cycle
  (R183, R551) -/
  before : Table (Nat × Word) := []
  /-- the PCI Express configuration space (R55, R547) -/
  pci : PciConfig := {}
  /-- the held write of a low word, by key (R749) -/
  wrHold : Table Nat := []
  /-- device memory: HBM, shared SRAM and the plain-memory parts of the register region (R45, R96) -/
  mem : Table (BitVec 8) := []
  /-- poisoned 32-byte bursts (R532) -/
  poison : List Nat := []
  /-- sequencer instruction and data memories (R92) -/
  seqMem : Table (BitVec 8) := []
  /-- 8-byte words of sequencer memory with an uncorrectable error (R125) -/
  seqBad : List Nat := []
  threads : Table Thread := []
  /-- the issue of the sequencer threads (R80 to R84) -/
  turns : Table IssueSlot := []
  cores : Table CoreX := []
  tasks : Table TaskEntry := []
  /-- places handed out among READY tasks (R159) -/
  readyCtr : Nat := 0
  /-- shared entries held by MPC tasks (R146) -/
  mpcHeld : Nat := 0
  /-- hardware events not yet posted (R148) -/
  hwSeq : List SeqPost := []
  /-- the group the deficit round robin visits, and whether this visit's quantum has been added (R163) -/
  drrGroup : Nat := 0
  drrOpen : Bool := false
  /-- a tick period accepted and not yet in force, and the local time of the latest tick (R171, R173) -/
  tickPend : Option Nat := none
  lastTick : Int := 0
  /-- the local time to which the latest step led: no tick before it falls any more (R174) -/
  tickFrom : Int := 0
  /-- the CLK_SEQ cycle in which the latest released task became READY, and how many have in it (R172) -/
  moved : Nat × Nat := (0, 0)
  /-- channels stopped while a command of DSP_ADM_CMD was in progress, whose OP RELEASE is still to be written (R184, R185) -/
  relWait : List Nat := []
  /-- units at work: task entry plus one, by unit code (R162) -/
  busy : Table Nat := []
  adm : Table Adm := []
  chans : Table ChanSt := []
  tb : TbState := {}
  pgs : Table Pg := []
  /-- key under which a 32-byte burst of frame memory was written, 0 for none (R542) -/
  encTags : Table Nat := []
  /-- key words of an encryption region written since it was last disabled (R543) -/
  encWords : Table Nat := []
  memSts : Table MemSt := []
  lanes : Table LaneSt := []
  ports : Table PortSt := []
  pairs : Table PairSt := []
  /-- good frames that the ingest packet engine has not yet examined, oldest first -/
  ingFifo : List RxFrame := []
  ctl : CtlSt := {}
  /-- Flow Table entries with an uncorrectable error, until word 0 is written again (R244) -/
  flowBad : List Nat := []
  pools : Table PoolSt := []
  decs : Table DecSt := []
  sbs : Table SbSt := []
  tdms : Table TdmSt := []
  vcxo : LoopSt := {}
  units : List UnitSt := []
  /-- loaded context of an engine: 1 + mode, channel, rendition and column, 0 for none (R322) -/
  engCtx : Table Nat := []
  rends : Table RendSt := []
  /-- owners of proofing and scaler pipelines, channel plus one (R251) -/
  prfOwn : Table Nat := []
  sclOwn : Table Nat := []
  /-- the custom coefficient set taken by LOAD (R273) -/
  coefs : List Nat := []
  /-- snapshot held by each rendition buffer, by rendition and buffer (R270, R308) -/
  sclHeld : Table Nat := []
  /-- slices selected for proof, oldest first (R340) -/
  proofs : List Proof := []
  /-- lines held by the reference cache of each tray, oldest first (R287) -/
  trayLines : Table (List Nat) := []
  egPorts : Table TxPort := []
  egFlows : Table FlowTx := []
  strs : Table StrSt := []
  srtps : Table SrtpKey := []
  /-- epoch of this unit in each protection group (R597) -/
  epochs : Table Nat := []
  wl : Table WlSt := []
  groups : Table GrpSt := []
  /-- raw time of the latest fault condition of the Claim Bus (R603) -/
  busFaultAt : Nat := 0
  /-- media units from peers that wait for their release time, oldest first (R484) -/
  staged : List MediaUnit := []
  /-- flow number to the MAC of its most recent packet, plus one (R755) -/
  flowPort : Table Nat := []
  recs : Table SieveRec := []
  recno : Nat := 0
  msixTable : Table MsixVec := []
  /-- what has left the device, newest first (log 7) -/
  out : List Output := []
  /-- how many free values have been taken (log 3) -/
  freeCtr : Nat := 0
  heath : HeathSt := {}
  hlt : HltSt := {}
  pdk : PdkSt := {}
  cons : ConsSt := {}
  hcrs : Table HcrSt := []
  dmas : Table DmaSt := []
  /-- the channel that an engine (0 H2D, 8 D2H) served last at a priority (R562), by engine plus priority -/
  dmaTurn : Table Nat := []
  ptp : PtpCfg := {}
  mcasts : List Mcast := []
  /-- commands that were in progress when PERST_N went low (R712) -/
  lostCmds : List HostCmd := []
  /-- the keys that LOAD took, x and y (R725) -/
  rcpKeys : Table (Nat × Nat) := []
  /-- SVN_MIN as burned by this device's firmware, beside the fused value (R720), boots so far, and a boot flow not yet run (R717) -/
  svnMin : Nat := 0
  boots : Nat := 0
  bootPending : Bool := true
  /-- the level of PWR_GOOD (R709) -/
  pwrGood : Bool := true
  deriving DecidableEq, Repr

/-- The device just out of a cold reset, before its boot flow has run: PWR_GOOD high, every register at its reset value,
every memory unlisted, nothing waiting (R710, R717). -/
def State.reset : State := {}

end Sys2Proof.Machine
end

