-- ==== Sys2Proof/Machine/RegMap.lean ====
section
/-! DEFINITION. The register map: every architectural register of spec/ with its address, its fields, their access
codes and their reset values. `K.X` is the key of register X (its BAR0 offset, 02_layout_table.md R51; the flow records
reached through the indirect windows of R247 and R489 have keys above BAR0), `R.X_F` is its field F. -/

namespace Sys2Proof.Machine

/-- GCTL_RESET (21_startup.md R728). -/
def K.GCTL_RESET : Nat := 0x10000
/-- GCTL_RESET_CAUSE.CAUSE [2:0] (21_startup.md R728). -/
def R.GCTL_RESET_CAUSE_CAUSE : Field := ⟨0x10004, 0, 3⟩
/-- GCTL_BOOT_STATUS (21_startup.md R728). -/
def K.GCTL_BOOT_STATUS : Nat := 0x10008
/-- GCTL_BOOT_STATUS.STAGE [2:0] (21_startup.md R728). -/
def R.GCTL_BOOT_STATUS_STAGE : Field := ⟨0x10008, 0, 3⟩
/-- GCTL_BOOT_STATUS.MEM_TESTED [3:3] (21_startup.md R728). -/
def R.GCTL_BOOT_STATUS_MEM_TESTED : Field := ⟨0x10008, 3, 1⟩
/-- GCTL_BOOT_STATUS.SLOT_B [4:4] (21_startup.md R728). -/
def R.GCTL_BOOT_STATUS_SLOT_B : Field := ⟨0x10008, 4, 1⟩
/-- GCTL_BOOT_STATUS.CQ_LOST [31:16] (21_startup.md R728). -/
def R.GCTL_BOOT_STATUS_CQ_LOST : Field := ⟨0x10008, 16, 16⟩
/-- GCTL_CONFLICT_LOG0.REFUSED_OFFSET [25:0] (02_layout_table.md R76). -/
def R.GCTL_CONFLICT_LOG0_REFUSED_OFFSET : Field := ⟨0x10100, 0, 26⟩
/-- GCTL_CONFLICT_LOG0.KIND [27:26] (02_layout_table.md R76). -/
def R.GCTL_CONFLICT_LOG0_KIND : Field := ⟨0x10100, 26, 2⟩
/-- GCTL_CONFLICT_LOG0.VALID [31:31] (02_layout_table.md R76). -/
def R.GCTL_CONFLICT_LOG0_VALID : Field := ⟨0x10100, 31, 1⟩
/-- GCTL_CONFLICT_LOG1.OWNER_OFFSET [25:0] (02_layout_table.md R76). -/
def R.GCTL_CONFLICT_LOG1_OWNER_OFFSET : Field := ⟨0x10104, 0, 26⟩
/-- GCTL_GPIO_EN (22_package.md R733). -/
def K.GCTL_GPIO_EN : Nat := 0x10200
/-- GCTL_GPIO_EN.EN [15:0] (22_package.md R733). -/
def R.GCTL_GPIO_EN_EN : Field := ⟨0x10200, 0, 16⟩
/-- GCTL_GPIO_OE.OE [15:0] (22_package.md R733). -/
def R.GCTL_GPIO_OE_OE : Field := ⟨0x10204, 0, 16⟩
/-- GCTL_GPIO_OUT.OUT [15:0] (22_package.md R733). -/
def R.GCTL_GPIO_OUT_OUT : Field := ⟨0x10208, 0, 16⟩
/-- GCTL_GPIO_IN (22_package.md R733). -/
def K.GCTL_GPIO_IN : Nat := 0x1020c
/-- GCTL_GPIO_STATE.STATE [31:0] (22_package.md R733). -/
def R.GCTL_GPIO_STATE_STATE : Field := ⟨0x10210, 0, 32⟩
/-- SIEVE_CTRL (17_sieve.md R650). -/
def K.SIEVE_CTRL : Nat := 0x20000
/-- SIEVE_CTRL.WINDOW_US [9:0] (17_sieve.md R650). -/
def R.SIEVE_CTRL_WINDOW_US : Field := ⟨0x20000, 0, 10⟩
/-- SIEVE_CTRL.LOCK [10:10] (17_sieve.md R650). -/
def R.SIEVE_CTRL_LOCK : Field := ⟨0x20000, 10, 1⟩
/-- SIEVE_CTRL.MPC_ROUTE [15:12] (17_sieve.md R650). -/
def R.SIEVE_CTRL_MPC_ROUTE : Field := ⟨0x20000, 12, 4⟩
/-- SIEVE_CTRL.HOST_ROUTE [19:16] (17_sieve.md R650). -/
def R.SIEVE_CTRL_HOST_ROUTE : Field := ⟨0x20000, 16, 4⟩
/-- SIEVE_STATUS.LEVEL [1:0] (17_sieve.md R650). -/
def R.SIEVE_STATUS_LEVEL : Field := ⟨0x20004, 0, 2⟩
/-- SIEVE_STATUS.HALTED [2:2] (17_sieve.md R650). -/
def R.SIEVE_STATUS_HALTED : Field := ⟨0x20004, 2, 1⟩
/-- SIEVE_STATUS.OVERFLOW [3:3] (17_sieve.md R650). -/
def R.SIEVE_STATUS_OVERFLOW : Field := ⟨0x20004, 3, 1⟩
/-- SIEVE_STATUS.ACK_MISS [4:4] (17_sieve.md R650). -/
def R.SIEVE_STATUS_ACK_MISS : Field := ⟨0x20004, 4, 1⟩
/-- SIEVE_STATUS.UNACKED [14:5] (17_sieve.md R650). -/
def R.SIEVE_STATUS_UNACKED : Field := ⟨0x20004, 5, 10⟩
/-- SIEVE_ACK (17_sieve.md R650). -/
def K.SIEVE_ACK : Nat := 0x20008
/-- SIEVE_ACK.RECNO [31:0] (17_sieve.md R650). -/
def R.SIEVE_ACK_RECNO : Field := ⟨0x20008, 0, 32⟩
/-- SIEVE_RESTORE (17_sieve.md R650). -/
def K.SIEVE_RESTORE : Nat := 0x2000c
/-- SIEVE_RESTORE.SUSPECT [15:0] (17_sieve.md R650). -/
def R.SIEVE_RESTORE_SUSPECT : Field := ⟨0x2000c, 0, 16⟩
/-- SIEVE_INJECT (17_sieve.md R650). -/
def K.SIEVE_INJECT : Nat := 0x20010
/-- SIEVE_INJECT.SOURCE [9:0] (17_sieve.md R650). -/
def R.SIEVE_INJECT_SOURCE : Field := ⟨0x20010, 0, 10⟩
/-- SIEVE_INJECT.SUSPECT [31:16] (17_sieve.md R650). -/
def R.SIEVE_INJECT_SUSPECT : Field := ⟨0x20010, 16, 16⟩
/-- SIEVE_RING_HEAD (17_sieve.md R650). -/
def K.SIEVE_RING_HEAD : Nat := 0x20018
/-- SIEVE_RING_HEAD.HEAD [8:0] (17_sieve.md R650). -/
def R.SIEVE_RING_HEAD_HEAD : Field := ⟨0x20018, 0, 9⟩
/-- SIEVE_RING_TAIL.TAIL [8:0] (17_sieve.md R650). -/
def R.SIEVE_RING_TAIL_TAIL : Field := ⟨0x2001c, 0, 9⟩
/-- SIEVE_CNT.COUNT [63:0] (17_sieve.md R631). -/
def R.SIEVE_CNT_COUNT (i : Nat) : Field := ⟨0x20020 + i * 8, 0, 64⟩
/-- SIEVE_CLASS_CFG (17_sieve.md R650). -/
def K.SIEVE_CLASS_CFG (i : Nat) : Nat := 0x20100 + i * 4
/-- SIEVE_CLASS_CFG.ESC_LIMIT [1:0] (17_sieve.md R650). -/
def R.SIEVE_CLASS_CFG_ESC_LIMIT (i : Nat) : Field := ⟨0x20100 + i * 4, 0, 2⟩
/-- SIEVE_CLASS_STATE.HIGHEST [1:0] (17_sieve.md R650). -/
def R.SIEVE_CLASS_STATE_HIGHEST (i : Nat) : Field := ⟨0x20200 + i * 4, 0, 2⟩
/-- SIEVE_CLASS_STATE.UNACKED [11:2] (17_sieve.md R650). -/
def R.SIEVE_CLASS_STATE_UNACKED (i : Nat) : Field := ⟨0x20200 + i * 4, 2, 10⟩
/-- SIEVE_SRC_CFG (17_sieve.md R650). -/
def K.SIEVE_SRC_CFG (i : Nat) : Nat := 0x21000 + i * 4
/-- SIEVE_SRC_CFG.SEV [1:0] (17_sieve.md R650). -/
def R.SIEVE_SRC_CFG_SEV (i : Nat) : Field := ⟨0x21000 + i * 4, 0, 2⟩
/-- SIEVE_SRC_CFG.CLASS [7:2] (17_sieve.md R650). -/
def R.SIEVE_SRC_CFG_CLASS (i : Nat) : Field := ⟨0x21000 + i * 4, 2, 6⟩
/-- SIEVE_SRC_COUNT.COUNT [31:0] (17_sieve.md R650). -/
def R.SIEVE_SRC_COUNT_COUNT (i : Nat) : Field := ⟨0x22000 + i * 4, 0, 32⟩
/-- SIEVE_RING (17_sieve.md R631). -/
def K.SIEVE_RING (i j : Nat) : Nat := 0x24000 + i * 0x20 + j * 8
/-- HTH_PS_CTRL (18_heath_ageing.md R677). -/
def K.HTH_PS_CTRL : Nat := 0x40000
/-- HTH_PS_CTRL.TARGET [1:0] (18_heath_ageing.md R677). -/
def R.HTH_PS_CTRL_TARGET : Field := ⟨0x40000, 0, 2⟩
/-- HTH_PS_CTRL.REQ [2:2] (18_heath_ageing.md R677). -/
def R.HTH_PS_CTRL_REQ : Field := ⟨0x40000, 2, 1⟩
/-- HTH_PS_CTRL.PS1_AUTO [3:3] (18_heath_ageing.md R677). -/
def R.HTH_PS_CTRL_PS1_AUTO : Field := ⟨0x40000, 3, 1⟩
/-- HTH_PS_CTRL.PS1_IDLE_US [31:16] (18_heath_ageing.md R677). -/
def R.HTH_PS_CTRL_PS1_IDLE_US : Field := ⟨0x40000, 16, 16⟩
/-- HTH_PS_STATUS.STATE [1:0] (18_heath_ageing.md R677). -/
def R.HTH_PS_STATUS_STATE : Field := ⟨0x40004, 0, 2⟩
/-- HTH_PS_STATUS.WAKE_CAUSE [4:2] (18_heath_ageing.md R677). -/
def R.HTH_PS_STATUS_WAKE_CAUSE : Field := ⟨0x40004, 2, 3⟩
/-- HTH_PS_STATUS.REFUSED [5:5] (18_heath_ageing.md R677). -/
def R.HTH_PS_STATUS_REFUSED : Field := ⟨0x40004, 5, 1⟩
/-- HTH_PS_STATUS.TRIPPED [6:6] (18_heath_ageing.md R677). -/
def R.HTH_PS_STATUS_TRIPPED : Field := ⟨0x40004, 6, 1⟩
/-- HTH_PS_STATUS.AON_LOST [7:7] (18_heath_ageing.md R677). -/
def R.HTH_PS_STATUS_AON_LOST : Field := ⟨0x40004, 7, 1⟩
/-- HTH_PS_STATUS.INGEST_HELD [8:8] (18_heath_ageing.md R677). -/
def R.HTH_PS_STATUS_INGEST_HELD : Field := ⟨0x40004, 8, 1⟩
/-- HTH_WAKE_EN.EN [5:0] (18_heath_ageing.md R677). -/
def R.HTH_WAKE_EN_EN : Field := ⟨0x40008, 0, 6⟩
/-- HTH_WAKE_TIME.TIME [63:0] (18_heath_ageing.md R677). -/
def R.HTH_WAKE_TIME_TIME : Field := ⟨0x40010, 0, 64⟩
/-- HTH_AON_NS.NS [63:0] (18_heath_ageing.md R677). -/
def R.HTH_AON_NS_NS : Field := ⟨0x40018, 0, 64⟩
/-- HTH_OSC_TRIM.PPB [31:0] (18_heath_ageing.md R677). -/
def R.HTH_OSC_TRIM_PPB : Field := ⟨0x40020, 0, 32⟩
/-- HTH_WDOG (18_heath_ageing.md R677). -/
def K.HTH_WDOG : Nat := 0x40024
/-- HTH_WDOG.TIMEOUT_MS [15:0] (18_heath_ageing.md R677). -/
def R.HTH_WDOG_TIMEOUT_MS : Field := ⟨0x40024, 0, 16⟩
/-- HTH_WDOG.EN [16:16] (18_heath_ageing.md R677). -/
def R.HTH_WDOG_EN : Field := ⟨0x40024, 16, 1⟩
/-- HTH_WDOG_KICK (18_heath_ageing.md R677). -/
def K.HTH_WDOG_KICK : Nat := 0x40028
/-- HTH_S3_STATUS.COUNT [15:0] (18_heath_ageing.md R677). -/
def R.HTH_S3_STATUS_COUNT : Field := ⟨0x4002c, 0, 16⟩
/-- HTH_S3_STATUS.VALID [16:16] (18_heath_ageing.md R677). -/
def R.HTH_S3_STATUS_VALID : Field := ⟨0x4002c, 16, 1⟩
/-- HTH_CNT_ENTRY_ABORTS.COUNT [63:0] (18_heath_ageing.md R677). -/
def R.HTH_CNT_ENTRY_ABORTS_COUNT : Field := ⟨0x40030, 0, 64⟩
/-- HTH_S3_RECORD.WORD [63:0] (18_heath_ageing.md R677). -/
def R.HTH_S3_RECORD_WORD (i : Nat) : Field := ⟨0x40040 + i * 8, 0, 64⟩
/-- HTH_SENSOR.VALUE [15:0] (18_heath_ageing.md R677). -/
def R.HTH_SENSOR_VALUE (i : Nat) : Field := ⟨0x40100 + i * 4, 0, 16⟩
/-- HTH_RULE.SENSOR [5:0] (18_heath_ageing.md R677). -/
def R.HTH_RULE_SENSOR (i : Nat) : Field := ⟨0x40200 + i * 8, 0, 6⟩
/-- HTH_RULE.MEDIAN [6:6] (18_heath_ageing.md R677). -/
def R.HTH_RULE_MEDIAN (i : Nat) : Field := ⟨0x40200 + i * 8, 6, 1⟩
/-- HTH_RULE.ABOVE [7:7] (18_heath_ageing.md R677). -/
def R.HTH_RULE_ABOVE (i : Nat) : Field := ⟨0x40200 + i * 8, 7, 1⟩
/-- HTH_RULE.HYST [15:8] (18_heath_ageing.md R677). -/
def R.HTH_RULE_HYST (i : Nat) : Field := ⟨0x40200 + i * 8, 8, 8⟩
/-- HTH_RULE.THRESH [31:16] (18_heath_ageing.md R677). -/
def R.HTH_RULE_THRESH (i : Nat) : Field := ⟨0x40200 + i * 8, 16, 16⟩
/-- HTH_RULE.ACTION [34:32] (18_heath_ageing.md R677). -/
def R.HTH_RULE_ACTION (i : Nat) : Field := ⟨0x40200 + i * 8, 32, 3⟩
/-- HTH_RULE.EN [35:35] (18_heath_ageing.md R677). -/
def R.HTH_RULE_EN (i : Nat) : Field := ⟨0x40200 + i * 8, 35, 1⟩
/-- HTH_RULE.FIRED [36:36] (18_heath_ageing.md R677). -/
def R.HTH_RULE_FIRED (i : Nat) : Field := ⟨0x40200 + i * 8, 36, 1⟩
/-- PDK_MB_CMD (19_paddock.md R695). -/
def K.PDK_MB_CMD : Nat := 0x50000
/-- PDK_MB_CMD.OP [7:0] (19_paddock.md R695). -/
def R.PDK_MB_CMD_OP : Field := ⟨0x50000, 0, 8⟩
/-- PDK_MB_CMD.ARG [63:32] (19_paddock.md R695). -/
def R.PDK_MB_CMD_ARG : Field := ⟨0x50000, 32, 32⟩
/-- PDK_MB_STATUS (19_paddock.md R695). -/
def K.PDK_MB_STATUS : Nat := 0x50008
/-- PDK_MB_STATUS.BUSY [0:0] (19_paddock.md R695). -/
def R.PDK_MB_STATUS_BUSY : Field := ⟨0x50008, 0, 1⟩
/-- PDK_MB_STATUS.RESULT [3:1] (19_paddock.md R695). -/
def R.PDK_MB_STATUS_RESULT : Field := ⟨0x50008, 1, 3⟩
/-- PDK_SEAL_COUNT (19_paddock.md R695). -/
def K.PDK_SEAL_COUNT : Nat := 0x5000c
/-- PDK_LAST_RECNO (19_paddock.md R695). -/
def K.PDK_LAST_RECNO : Nat := 0x50010
/-- PDK_CLASS_LIMIT (19_paddock.md R695). -/
def K.PDK_CLASS_LIMIT (i : Nat) : Nat := 0x50020 + i * 4
/-- PDK_FW_VERSION (19_paddock.md R695). -/
def K.PDK_FW_VERSION (i : Nat) : Nat := 0x50040 + i * 4
/-- PDK_FW_CHECKSUM (19_paddock.md R695). -/
def K.PDK_FW_CHECKSUM (i : Nat) : Nat := 0x50050 + i * 4
/-- PDK_PROG_CFG (19_paddock.md R695). -/
def K.PDK_PROG_CFG (i : Nat) : Nat := 0x50100 + i * 8
/-- PDK_PROG_CFG.ENABLE [0:0] (19_paddock.md R695). -/
def R.PDK_PROG_CFG_ENABLE (i : Nat) : Field := ⟨0x50100 + i * 8, 0, 1⟩
/-- PDK_PROG_CFG.GATING [1:1] (19_paddock.md R695). -/
def R.PDK_PROG_CFG_GATING (i : Nat) : Field := ⟨0x50100 + i * 8, 1, 1⟩
/-- PDK_PROG_CFG.LAYOUT [3:2] (19_paddock.md R695). -/
def R.PDK_PROG_CFG_LAYOUT (i : Nat) : Field := ⟨0x50100 + i * 8, 2, 2⟩
/-- PDK_PROG_CFG.BUFFER [12:4] (19_paddock.md R695). -/
def R.PDK_PROG_CFG_BUFFER (i : Nat) : Field := ⟨0x50100 + i * 8, 4, 9⟩
/-- PDK_PROG_CFG.FIRST_CH [18:13] (19_paddock.md R695). -/
def R.PDK_PROG_CFG_FIRST_CH (i : Nat) : Field := ⟨0x50100 + i * 8, 13, 6⟩
/-- TB_CTRL (12_timebase.md R518). -/
def K.TB_CTRL : Nat := 0x60000
/-- TB_CTRL.SERVO_EN [0:0] (12_timebase.md R518). -/
def R.TB_CTRL_SERVO_EN : Field := ⟨0x60000, 0, 1⟩
/-- TB_CTRL.SOURCE [3:1] (12_timebase.md R518). -/
def R.TB_CTRL_SOURCE : Field := ⟨0x60000, 1, 3⟩
/-- TB_CTRL.AUTO_STEP [4:4] (12_timebase.md R518). -/
def R.TB_CTRL_AUTO_STEP : Field := ⟨0x60000, 4, 1⟩
/-- TB_CTRL.NEW_EPOCH [5:5] (12_timebase.md R518). -/
def R.TB_CTRL_NEW_EPOCH : Field := ⟨0x60000, 5, 1⟩
/-- TB_CTRL.SNAP [6:6] (12_timebase.md R518). -/
def R.TB_CTRL_SNAP : Field := ⟨0x60000, 6, 1⟩
/-- TB_STATUS.STATE [2:0] (12_timebase.md R518). -/
def R.TB_STATUS_STATE : Field := ⟨0x60004, 0, 3⟩
/-- TB_STATUS.STEP_USED [3:3] (12_timebase.md R518). -/
def R.TB_STATUS_STEP_USED : Field := ⟨0x60004, 3, 1⟩
/-- TB_STATUS.UP_HOLDOVER [4:4] (12_timebase.md R518). -/
def R.TB_STATUS_UP_HOLDOVER : Field := ⟨0x60004, 4, 1⟩
/-- TB_STATUS.JUMP_SEEN [5:5] (12_timebase.md R518). -/
def R.TB_STATUS_JUMP_SEEN : Field := ⟨0x60004, 5, 1⟩
/-- TB_EPOCH.EPOCH [31:0] (12_timebase.md R518). -/
def R.TB_EPOCH_EPOCH : Field := ⟨0x60008, 0, 32⟩
/-- TB_RAW (12_timebase.md R518). -/
def K.TB_RAW : Nat := 0x60010
/-- TB_LOCAL (12_timebase.md R518). -/
def K.TB_LOCAL : Nat := 0x60018
/-- TB_OFFSET as one field (12_timebase.md R518). -/
def R.TB_OFFSET : Field := ⟨0x60020, 0, 64⟩
/-- TB_RATE (12_timebase.md R518). -/
def K.TB_RATE : Nat := 0x60028
/-- TB_STEP (12_timebase.md R518). -/
def K.TB_STEP : Nat := 0x60030
/-- TB_SAMPLE_MASTER (12_timebase.md R518). -/
def K.TB_SAMPLE_MASTER : Nat := 0x60038
/-- TB_SAMPLE_RAW (12_timebase.md R518). -/
def K.TB_SAMPLE_RAW : Nat := 0x60040
/-- TB_SERVO.KP_SHIFT [4:0] (12_timebase.md R518). -/
def R.TB_SERVO_KP_SHIFT : Field := ⟨0x60048, 0, 5⟩
/-- TB_SERVO.KI_SHIFT [9:5] (12_timebase.md R518). -/
def R.TB_SERVO_KI_SHIFT : Field := ⟨0x60048, 5, 5⟩
/-- TB_SERVO.LOCK_NS [31:16] (12_timebase.md R518). -/
def R.TB_SERVO_LOCK_NS : Field := ⟨0x60048, 16, 16⟩
/-- TB_THRESH (12_timebase.md R518). -/
def K.TB_THRESH : Nat := 0x60050
/-- TB_THRESH.BACK_THRESH_US [15:0] (12_timebase.md R518). -/
def R.TB_THRESH_BACK_THRESH_US : Field := ⟨0x60050, 0, 16⟩
/-- TB_THRESH.HOLD_MS [31:16] (12_timebase.md R518). -/
def R.TB_THRESH_HOLD_MS : Field := ⟨0x60050, 16, 16⟩
/-- TB_THRESH.STEP_MIN_NS [63:32] (12_timebase.md R518). -/
def R.TB_THRESH_STEP_MIN_NS : Field := ⟨0x60050, 32, 32⟩
/-- TB_GM_ID (12_timebase.md R518). -/
def K.TB_GM_ID : Nat := 0x60058
/-- TB_LAST_OFFSET.S [63:0] (12_timebase.md R518). -/
def R.TB_LAST_OFFSET_S : Field := ⟨0x60060, 0, 64⟩
/-- TB_RATE_NOW as one field (12_timebase.md R518). -/
def R.TB_RATE_NOW : Field := ⟨0x60068, 0, 64⟩
/-- TB_SNAP_RAW.RAW [63:0] (12_timebase.md R518). -/
def R.TB_SNAP_RAW_RAW : Field := ⟨0x60070, 0, 64⟩
/-- TB_SNAP_LOCAL.LOCAL [63:0] (12_timebase.md R518). -/
def R.TB_SNAP_LOCAL_LOCAL : Field := ⟨0x60078, 0, 64⟩
/-- TB_SNAP_EPOCH.EPOCH [63:0] (12_timebase.md R518). -/
def R.TB_SNAP_EPOCH_EPOCH : Field := ⟨0x60080, 0, 64⟩
/-- TB_TS_TRIM.RX_TRIM [15:0] (12_timebase.md R518). -/
def R.TB_TS_TRIM_RX_TRIM (i : Nat) : Field := ⟨0x60100 + i * 4, 0, 16⟩
/-- TB_TS_TRIM.TX_TRIM [31:16] (12_timebase.md R518). -/
def R.TB_TS_TRIM_TX_TRIM (i : Nat) : Field := ⟨0x60100 + i * 4, 16, 16⟩
/-- TB_WL_LAT.LAT [23:0] (12_timebase.md R518). -/
def R.TB_WL_LAT_LAT (i : Nat) : Field := ⟨0x60200 + i * 8, 0, 24⟩
/-- TB_WL_LAT.TRIM [47:32] (12_timebase.md R518). -/
def R.TB_WL_LAT_TRIM (i : Nat) : Field := ⟨0x60200 + i * 8, 32, 16⟩
/-- TB_FWD_CTRL.TX_EN [2:0] (12_timebase.md R518). -/
def R.TB_FWD_CTRL_TX_EN : Field := ⟨0x60240, 0, 3⟩
/-- TB_PPS_CAPT.TIME [63:0] (12_timebase.md R518). -/
def R.TB_PPS_CAPT_TIME : Field := ⟨0x60250, 0, 64⟩
/-- TB_PPS_CFG.OFFSET_NS [31:0] (12_timebase.md R518). -/
def R.TB_PPS_CFG_OFFSET_NS : Field := ⟨0x60258, 0, 32⟩
/-- TB_CNT.COUNT [63:0] (12_timebase.md R518). -/
def R.TB_CNT_COUNT (i : Nat) : Field := ⟨0x60300 + i * 8, 0, 64⟩
/-- TB_PG_CTRL (12_timebase.md R518). -/
def K.TB_PG_CTRL (i : Nat) : Nat := 0x61000 + i * 0x40
/-- TB_PG_CTRL.ENABLE [0:0] (12_timebase.md R518). -/
def R.TB_PG_CTRL_ENABLE (i : Nat) : Field := ⟨0x61000 + i * 0x40, 0, 1⟩
/-- TB_PG_CTRL.PERIODIC [1:1] (12_timebase.md R518). -/
def R.TB_PG_CTRL_PERIODIC (i : Nat) : Field := ⟨0x61000 + i * 0x40, 1, 1⟩
/-- TB_PG_CTRL.PIN_EN [2:2] (12_timebase.md R518). -/
def R.TB_PG_CTRL_PIN_EN (i : Nat) : Field := ⟨0x61000 + i * 0x40, 2, 1⟩
/-- TB_PG_CTRL.PIN [4:3] (12_timebase.md R518). -/
def R.TB_PG_CTRL_PIN (i : Nat) : Field := ⟨0x61000 + i * 0x40, 3, 2⟩
/-- TB_PG_STATUS (12_timebase.md R518). -/
def K.TB_PG_STATUS (i : Nat) : Nat := 0x61004 + i * 0x40
/-- TB_PG_STATUS.STATE [1:0] (12_timebase.md R518). -/
def R.TB_PG_STATUS_STATE (i : Nat) : Field := ⟨0x61004 + i * 0x40, 0, 2⟩
/-- TB_PG_STATUS.MISSED [2:2] (12_timebase.md R518). -/
def R.TB_PG_STATUS_MISSED (i : Nat) : Field := ⟨0x61004 + i * 0x40, 2, 1⟩
/-- TB_PG_STATUS.ERR [3:3] (12_timebase.md R518). -/
def R.TB_PG_STATUS_ERR (i : Nat) : Field := ⟨0x61004 + i * 0x40, 3, 1⟩
/-- TB_PG_STATUS.OUTPUT [4:4] (12_timebase.md R518). -/
def R.TB_PG_STATUS_OUTPUT (i : Nat) : Field := ⟨0x61004 + i * 0x40, 4, 1⟩
/-- TB_PG_START.NS [63:0] (12_timebase.md R518). -/
def R.TB_PG_START_NS (i : Nat) : Field := ⟨0x61008 + i * 0x40, 0, 64⟩
/-- TB_PG_START_FRAC.FRAC [31:0] (12_timebase.md R518). -/
def R.TB_PG_START_FRAC_FRAC (i : Nat) : Field := ⟨0x61010 + i * 0x40, 0, 32⟩
/-- TB_PG_PERIOD.NS [63:0] (12_timebase.md R518). -/
def R.TB_PG_PERIOD_NS (i : Nat) : Field := ⟨0x61018 + i * 0x40, 0, 64⟩
/-- TB_PG_PERIOD_FRAC.FRAC [31:0] (12_timebase.md R518). -/
def R.TB_PG_PERIOD_FRAC_FRAC (i : Nat) : Field := ⟨0x61020 + i * 0x40, 0, 32⟩
/-- TB_PG_WIDTH.NS [31:0] (12_timebase.md R518). -/
def R.TB_PG_WIDTH_NS (i : Nat) : Field := ⟨0x61024 + i * 0x40, 0, 32⟩
/-- TB_PG_PULSES.COUNT [63:0] (12_timebase.md R518). -/
def R.TB_PG_PULSES_COUNT (i : Nat) : Field := ⟨0x61028 + i * 0x40, 0, 64⟩
/-- TB_PG_RESYNC.COUNT [63:0] (12_timebase.md R518). -/
def R.TB_PG_RESYNC_COUNT (i : Nat) : Field := ⟨0x61030 + i * 0x40, 0, 64⟩
/-- PCI_LINK_STATUS.WIDTH [3:0] (14_host_dma.md R567). -/
def R.PCI_LINK_STATUS_WIDTH : Field := ⟨0x80000, 0, 4⟩
/-- PCI_LINK_STATUS.SPEED [6:4] (14_host_dma.md R567). -/
def R.PCI_LINK_STATUS_SPEED : Field := ⟨0x80000, 4, 3⟩
/-- PCI_LINK_STATUS.LINK_UP [7:7] (14_host_dma.md R567). -/
def R.PCI_LINK_STATUS_LINK_UP : Field := ⟨0x80000, 7, 1⟩
/-- PCI_WIN_BASE (14_host_dma.md R567). -/
def K.PCI_WIN_BASE (i : Nat) : Nat := 0x80100 + i * 8
/-- PCI_WIN_BASE.ENABLE [0:0] (14_host_dma.md R567). -/
def R.PCI_WIN_BASE_ENABLE (i : Nat) : Field := ⟨0x80100 + i * 8, 0, 1⟩
/-- PCI_WIN_BASE.BASE [47:31] (14_host_dma.md R567). -/
def R.PCI_WIN_BASE_BASE (i : Nat) : Field := ⟨0x80100 + i * 8, 31, 17⟩
/-- HCR_SQ_BASE (14_host_dma.md R567). -/
def K.HCR_SQ_BASE (i : Nat) : Nat := 0x81000 + i * 0x40
/-- HCR_CQ_BASE (14_host_dma.md R567). -/
def K.HCR_CQ_BASE (i : Nat) : Nat := 0x81008 + i * 0x40
/-- HCR_CFG (14_host_dma.md R567). -/
def K.HCR_CFG (i : Nat) : Nat := 0x81010 + i * 0x40
/-- HCR_CFG.SIZE [12:0] (14_host_dma.md R567). -/
def R.HCR_CFG_SIZE (i : Nat) : Field := ⟨0x81010 + i * 0x40, 0, 13⟩
/-- HCR_CFG.ENABLE [31:31] (14_host_dma.md R567). -/
def R.HCR_CFG_ENABLE (i : Nat) : Field := ⟨0x81010 + i * 0x40, 31, 1⟩
/-- HCR_SQ_HEAD.HEAD [15:0] (14_host_dma.md R567). -/
def R.HCR_SQ_HEAD_HEAD (i : Nat) : Field := ⟨0x81014 + i * 0x40, 0, 16⟩
/-- HCR_CQ_TAIL.TAIL [15:0] (14_host_dma.md R567). -/
def R.HCR_CQ_TAIL_TAIL (i : Nat) : Field := ⟨0x81018 + i * 0x40, 0, 16⟩
/-- HCR_CQ_HEAD (14_host_dma.md R567). -/
def K.HCR_CQ_HEAD (i : Nat) : Nat := 0x8101c + i * 0x40
/-- HCR_CQ_HEAD.HEAD [15:0] (14_host_dma.md R567). -/
def R.HCR_CQ_HEAD_HEAD (i : Nat) : Field := ⟨0x8101c + i * 0x40, 0, 16⟩
/-- HCR_STATUS (14_host_dma.md R567). -/
def K.HCR_STATUS (i : Nat) : Nat := 0x81020 + i * 0x40
/-- HCR_STATUS.DB_ERR [0:0] (14_host_dma.md R567). -/
def R.HCR_STATUS_DB_ERR (i : Nat) : Field := ⟨0x81020 + i * 0x40, 0, 1⟩
/-- HCR_STATUS.STALLED [1:1] (14_host_dma.md R567). -/
def R.HCR_STATUS_STALLED (i : Nat) : Field := ⟨0x81020 + i * 0x40, 1, 1⟩
/-- DMA_CTRL.ENABLE [0:0] (14_host_dma.md R567). -/
def R.DMA_CTRL_ENABLE : Field := ⟨0x82000, 0, 1⟩
/-- DMA_BUF_BASE (14_host_dma.md R567). -/
def K.DMA_BUF_BASE : Nat := 0x82008
/-- DMA_BUF_BASE.BASE [47:22] (14_host_dma.md R567). -/
def R.DMA_BUF_BASE_BASE : Field := ⟨0x82008, 22, 26⟩
/-- DMA_BUF_BASE.STATE [62:61] (14_host_dma.md R567). -/
def R.DMA_BUF_BASE_STATE : Field := ⟨0x82008, 61, 2⟩
/-- DMA_BUF_BASE.ENABLE [63:63] (14_host_dma.md R567). -/
def R.DMA_BUF_BASE_ENABLE : Field := ⟨0x82008, 63, 1⟩
/-- DMA_CH_LIST (14_host_dma.md R567). -/
def K.DMA_CH_LIST (i : Nat) : Nat := 0x84000 + i * 0x40
/-- DMA_CH_COUNT.COUNT [15:0] (14_host_dma.md R567). -/
def R.DMA_CH_COUNT_COUNT (i : Nat) : Field := ⟨0x84008 + i * 0x40, 0, 16⟩
/-- DMA_CH_CFG.D2H [0:0] (14_host_dma.md R567). -/
def R.DMA_CH_CFG_D2H (i : Nat) : Field := ⟨0x8400c + i * 0x40, 0, 1⟩
/-- DMA_CH_CFG.PRIO [3:1] (14_host_dma.md R567). -/
def R.DMA_CH_CFG_PRIO (i : Nat) : Field := ⟨0x8400c + i * 0x40, 1, 3⟩
/-- DMA_CH_CFG.BURST [5:4] (14_host_dma.md R567). -/
def R.DMA_CH_CFG_BURST (i : Nat) : Field := ⟨0x8400c + i * 0x40, 4, 2⟩
/-- DMA_CH_CFG.LIST_IN_DEV [6:6] (14_host_dma.md R567). -/
def R.DMA_CH_CFG_LIST_IN_DEV (i : Nat) : Field := ⟨0x8400c + i * 0x40, 6, 1⟩
/-- DMA_CH_CTRL (14_host_dma.md R567). -/
def K.DMA_CH_CTRL (i : Nat) : Nat := 0x84010 + i * 0x40
/-- DMA_CH_STATUS.BUSY [0:0] (14_host_dma.md R567). -/
def R.DMA_CH_STATUS_BUSY (i : Nat) : Field := ⟨0x84014 + i * 0x40, 0, 1⟩
/-- DMA_CH_STATUS.STATUS [3:1] (14_host_dma.md R567). -/
def R.DMA_CH_STATUS_STATUS (i : Nat) : Field := ⟨0x84014 + i * 0x40, 1, 3⟩
/-- DMA_CH_STATUS.INDEX [19:4] (14_host_dma.md R567). -/
def R.DMA_CH_STATUS_INDEX (i : Nat) : Field := ⟨0x84014 + i * 0x40, 4, 16⟩
/-- DMA_CH_CNT.BYTES [63:0] (14_host_dma.md R567). -/
def R.DMA_CH_CNT_BYTES (i j : Nat) : Field := ⟨0x84018 + i * 0x40 + j * 8, 0, 64⟩
/-- DSP_CTRL.ENABLE [0:0] (04_dispatcher.md R192). -/
def R.DSP_CTRL_ENABLE : Field := ⟨0x100000, 0, 1⟩
/-- DSP_STATUS.SHARED_FREE [14:0] (04_dispatcher.md R192). -/
def R.DSP_STATUS_SHARED_FREE : Field := ⟨0x100004, 0, 15⟩
/-- DSP_STATUS.DELAY_FREE [28:16] (04_dispatcher.md R192). -/
def R.DSP_STATUS_DELAY_FREE : Field := ⟨0x100004, 16, 13⟩
/-- DSP_TICK (04_dispatcher.md R192). -/
def K.DSP_TICK : Nat := 0x100008
/-- DSP_TICK.PERIOD_NS [13:0] (04_dispatcher.md R192). -/
def R.DSP_TICK_PERIOD_NS : Field := ⟨0x100008, 0, 14⟩
/-- DSP_CANCEL (04_dispatcher.md R192). -/
def K.DSP_CANCEL : Nat := 0x100010
/-- DSP_CANCEL_RESULT.RESULT [1:0] (04_dispatcher.md R192). -/
def R.DSP_CANCEL_RESULT_RESULT : Field := ⟨0x100014, 0, 2⟩
/-- DSP_CANCEL_RESULT.VALID [31:31] (04_dispatcher.md R192). -/
def R.DSP_CANCEL_RESULT_VALID : Field := ⟨0x100014, 31, 1⟩
/-- DSP_ADM_CMD (04_dispatcher.md R192). -/
def K.DSP_ADM_CMD : Nat := 0x100020
/-- DSP_ADM_CMD.CHANNEL [7:0] (04_dispatcher.md R192). -/
def R.DSP_ADM_CMD_CHANNEL : Field := ⟨0x100020, 0, 8⟩
/-- DSP_ADM_CMD.OP [9:8] (04_dispatcher.md R192). -/
def R.DSP_ADM_CMD_OP : Field := ⟨0x100020, 8, 2⟩
/-- DSP_ADM_CMD.BUSY [31:31] (04_dispatcher.md R192). -/
def R.DSP_ADM_CMD_BUSY : Field := ⟨0x100020, 31, 1⟩
/-- DSP_ADM_RESULT (04_dispatcher.md R192). -/
def K.DSP_ADM_RESULT : Nat := 0x100024
/-- DSP_ADM_RESULT.RESULT [1:0] (04_dispatcher.md R192). -/
def R.DSP_ADM_RESULT_RESULT : Field := ⟨0x100024, 0, 2⟩
/-- DSP_ADM_RESULT.RESOURCE [4:2] (04_dispatcher.md R192). -/
def R.DSP_ADM_RESULT_RESOURCE : Field := ⟨0x100024, 2, 3⟩
/-- DSP_ADM_RESULT.TRAY [8:5] (04_dispatcher.md R192). -/
def R.DSP_ADM_RESULT_TRAY : Field := ⟨0x100024, 5, 4⟩
/-- DSP_ADM_RESULT.CHANNEL [23:16] (04_dispatcher.md R192). -/
def R.DSP_ADM_RESULT_CHANNEL : Field := ⟨0x100024, 16, 8⟩
/-- DSP_ADM_RESULT.VALID [31:31] (04_dispatcher.md R192). -/
def R.DSP_ADM_RESULT_VALID : Field := ⟨0x100024, 31, 1⟩
/-- DSP_ADM_DECL.ADDRESS [47:0] (04_dispatcher.md R192). -/
def R.DSP_ADM_DECL_ADDRESS : Field := ⟨0x100028, 0, 48⟩
/-- DSP_ADM_CEIL.PERMILLE [9:0] (04_dispatcher.md R192). -/
def R.DSP_ADM_CEIL_PERMILLE : Field := ⟨0x100030, 0, 10⟩
/-- DSP_MPC_AGE.LIMIT_US [19:0] (04_dispatcher.md R192). -/
def R.DSP_MPC_AGE_LIMIT_US : Field := ⟨0x100034, 0, 20⟩
/-- DSP_ADM_USED_TRAY.CU [63:0] (04_dispatcher.md R192). -/
def R.DSP_ADM_USED_TRAY_CU (i : Nat) : Field := ⟨0x100100 + i * 8, 0, 64⟩
/-- DSP_ADM_CAP1.CAP [63:0] (04_dispatcher.md R181). -/
def R.DSP_ADM_CAP1_CAP : Field := ⟨0x100208, 0, 64⟩
/-- DSP_ADM_CAP2.CAP [63:0] (04_dispatcher.md R181). -/
def R.DSP_ADM_CAP2_CAP : Field := ⟨0x100210, 0, 64⟩
/-- DSP_ADM_CAP3.CAP [63:0] (04_dispatcher.md R181). -/
def R.DSP_ADM_CAP3_CAP : Field := ⟨0x100218, 0, 64⟩
/-- DSP_ADM_CAP4.CAP [63:0] (04_dispatcher.md R181). -/
def R.DSP_ADM_CAP4_CAP : Field := ⟨0x100220, 0, 64⟩
/-- DSP_ADM_CAP5.CAP [63:0] (04_dispatcher.md R181). -/
def R.DSP_ADM_CAP5_CAP : Field := ⟨0x100228, 0, 64⟩
/-- DSP_ADM_USED.USED [63:0] (04_dispatcher.md R192). -/
def R.DSP_ADM_USED_USED (i : Nat) : Field := ⟨0x100248 + i * 8, 0, 64⟩
/-- DSP_CNT_ISSUED.COUNT [63:0] (04_dispatcher.md R192). -/
def R.DSP_CNT_ISSUED_COUNT (i : Nat) : Field := ⟨0x100408 + i * 8, 0, 64⟩
/-- DSP_CNT_COMPLETED as one field (04_dispatcher.md R192). -/
def R.DSP_CNT_COMPLETED (i : Nat) : Field := ⟨0x100488 + i * 8, 0, 64⟩
/-- DSP_GROUP_WEIGHT (04_dispatcher.md R192). -/
def K.DSP_GROUP_WEIGHT (i : Nat) : Nat := 0x101000 + i * 4
/-- DSP_GROUP_WEIGHT.WEIGHT [7:0] (04_dispatcher.md R192). -/
def R.DSP_GROUP_WEIGHT_WEIGHT (i : Nat) : Field := ⟨0x101000 + i * 4, 0, 8⟩
/-- DSP_GROUP_DEFICIT.CU [31:0] (04_dispatcher.md R192). -/
def R.DSP_GROUP_DEFICIT_CU (i : Nat) : Field := ⟨0x101080 + i * 4, 0, 32⟩
/-- DSP_GROUP_READY.COUNT [31:0] (04_dispatcher.md R192). -/
def R.DSP_GROUP_READY_COUNT (i : Nat) : Field := ⟨0x101100 + i * 4, 0, 32⟩
/-- DSP_GROUP_READY as one field (04_dispatcher.md R192). -/
def R.DSP_GROUP_READY (i : Nat) : Field := ⟨0x101100 + i * 4, 0, 32⟩
/-- DSP_CH_CFG (04_dispatcher.md R192). -/
def K.DSP_CH_CFG (i : Nat) : Nat := 0x102000 + i * 0x40
/-- DSP_CH_CFG.CLASS_MASK [7:0] (04_dispatcher.md R192). -/
def R.DSP_CH_CFG_CLASS_MASK (i : Nat) : Field := ⟨0x102000 + i * 0x40, 0, 8⟩
/-- DSP_CH_CFG.SUBFRAME [8:8] (04_dispatcher.md R192). -/
def R.DSP_CH_CFG_SUBFRAME (i : Nat) : Field := ⟨0x102000 + i * 0x40, 8, 1⟩
/-- DSP_CH_CFG.GROUP_MASK [63:32] (04_dispatcher.md R192). -/
def R.DSP_CH_CFG_GROUP_MASK (i : Nat) : Field := ⟨0x102000 + i * 0x40, 32, 32⟩
/-- DSP_CH_REMAIN.CU [31:0] (04_dispatcher.md R192). -/
def R.DSP_CH_REMAIN_CU (i j : Nat) : Field := ⟨0x102008 + i * 0x40 + j * 4, 0, 32⟩
/-- DSP_CH_ENTRIES.COUNT [31:0] (04_dispatcher.md R192). -/
def R.DSP_CH_ENTRIES_COUNT (i : Nat) : Field := ⟨0x102014 + i * 0x40, 0, 32⟩
/-- DSP_CH_ENTRIES as one field (04_dispatcher.md R192). -/
def R.DSP_CH_ENTRIES (i : Nat) : Field := ⟨0x102014 + i * 0x40, 0, 32⟩
/-- DSP_CH_OVERRUN.COUNT [63:0] (04_dispatcher.md R192). -/
def R.DSP_CH_OVERRUN_COUNT (i : Nat) : Field := ⟨0x102018 + i * 0x40, 0, 64⟩
/-- DSP_MPC_PENDING (04_dispatcher.md R192). -/
def K.DSP_MPC_PENDING (i : Nat) : Nat := 0x108000 + i * 4
/-- DSP_MPC_PENDING.COUNT [31:0] (04_dispatcher.md R192). -/
def R.DSP_MPC_PENDING_COUNT (i : Nat) : Field := ⟨0x108000 + i * 4, 0, 32⟩
/-- SEQ_CTRL (03_morop.md R136). -/
def K.SEQ_CTRL (i : Nat) : Nat := 0x200000 + i * 0x4000
/-- SEQ_CTRL.ENABLE [0:0] (03_morop.md R136). -/
def R.SEQ_CTRL_ENABLE (i : Nat) : Field := ⟨0x200000 + i * 0x4000, 0, 1⟩
/-- SEQ_STATUS.MEM_ERR [12:12] (03_morop.md R136). -/
def R.SEQ_STATUS_MEM_ERR (i : Nat) : Field := ⟨0x200004 + i * 0x4000, 12, 1⟩
/-- SEQ_MEM_ADDR.ADDR [15:3] (03_morop.md R135). -/
def R.SEQ_MEM_ADDR_ADDR (i : Nat) : Field := ⟨0x200010 + i * 0x4000, 3, 13⟩
/-- SEQ_MEM_ADDR.AUTOINC [16:16] (03_morop.md R135). -/
def R.SEQ_MEM_ADDR_AUTOINC (i : Nat) : Field := ⟨0x200010 + i * 0x4000, 16, 1⟩
/-- SEQ_MEM_DATA (03_morop.md R136). -/
def K.SEQ_MEM_DATA (i : Nat) : Nat := 0x200018 + i * 0x4000
/-- SEQ_ECC_COUNT.COUNT [63:0] (03_morop.md R135). -/
def R.SEQ_ECC_COUNT_COUNT (i : Nat) : Field := ⟨0x200020 + i * 0x4000, 0, 64⟩
/-- SEQ_TH_CTRL (03_morop.md R137). -/
def K.SEQ_TH_CTRL (i j : Nat) : Nat := 0x201000 + i * 0x4000 + j * 0x100
/-- SEQ_TH_CTRL.PRIO [5:3] (03_morop.md R137). -/
def R.SEQ_TH_CTRL_PRIO (i j : Nat) : Field := ⟨0x201000 + i * 0x4000 + j * 0x100, 3, 3⟩
/-- SEQ_TH_CTRL.RUNLIM_EN [6:6] (03_morop.md R137). -/
def R.SEQ_TH_CTRL_RUNLIM_EN (i j : Nat) : Field := ⟨0x201000 + i * 0x4000 + j * 0x100, 6, 1⟩
/-- SEQ_TH_CTRL.STOP_LIMIT [23:8] (03_morop.md R137). -/
def R.SEQ_TH_CTRL_STOP_LIMIT (i j : Nat) : Field := ⟨0x201000 + i * 0x4000 + j * 0x100, 8, 16⟩
/-- SEQ_TH_IMAP (03_morop.md R751). -/
def K.SEQ_TH_IMAP (i j : Nat) : Nat := 0x201008 + i * 0x4000 + j * 0x100
/-- SEQ_TH_IMAP.BASE [15:0] (03_morop.md R751). -/
def R.SEQ_TH_IMAP_BASE (i j : Nat) : Field := ⟨0x201008 + i * 0x4000 + j * 0x100, 0, 16⟩
/-- SEQ_TH_IMAP.LEN [31:16] (03_morop.md R751). -/
def R.SEQ_TH_IMAP_LEN (i j : Nat) : Field := ⟨0x201008 + i * 0x4000 + j * 0x100, 16, 16⟩
/-- SEQ_TH_DMAP (03_morop.md R751). -/
def K.SEQ_TH_DMAP (i j : Nat) : Nat := 0x20100c + i * 0x4000 + j * 0x100
/-- SEQ_TH_DMAP.BASE [15:0] (03_morop.md R751). -/
def R.SEQ_TH_DMAP_BASE (i j : Nat) : Field := ⟨0x20100c + i * 0x4000 + j * 0x100, 0, 16⟩
/-- SEQ_TH_DMAP.LEN [31:16] (03_morop.md R751). -/
def R.SEQ_TH_DMAP_LEN (i j : Nat) : Field := ⟨0x20100c + i * 0x4000 + j * 0x100, 16, 16⟩
/-- SEQ_TH_RUNLIM.LIMIT [23:0] (03_morop.md R138). -/
def R.SEQ_TH_RUNLIM_LIMIT (i j : Nat) : Field := ⟨0x201028 + i * 0x4000 + j * 0x100, 0, 24⟩
/-- SEQ_TH_FWIN.BASE [31:0] (03_morop.md R138). -/
def R.SEQ_TH_FWIN_BASE (i j l : Nat) : Field := ⟨0x201030 + i * 0x4000 + j * 0x100 + l * 8, 0, 32⟩
/-- SEQ_TH_FWIN.SIZE [63:32] (03_morop.md R138). -/
def R.SEQ_TH_FWIN_SIZE (i j l : Nat) : Field := ⟨0x201030 + i * 0x4000 + j * 0x100 + l * 8, 32, 32⟩
/-- SEQ_TH_VEC (03_morop.md R138). -/
def K.SEQ_TH_VEC (i j l : Nat) : Nat := 0x201080 + i * 0x4000 + j * 0x100 + l * 4
/-- SEQ_TH_VEC.EVENT [5:0] (03_morop.md R138). -/
def R.SEQ_TH_VEC_EVENT (i j l : Nat) : Field := ⟨0x201080 + i * 0x4000 + j * 0x100 + l * 4, 0, 6⟩
/-- SEQ_TH_VEC.VECTORED [6:6] (03_morop.md R138). -/
def R.SEQ_TH_VEC_VECTORED (i j l : Nat) : Field := ⟨0x201080 + i * 0x4000 + j * 0x100 + l * 4, 6, 1⟩
/-- SEQ_TH_VEC.VALID [7:7] (03_morop.md R138). -/
def R.SEQ_TH_VEC_VALID (i j l : Nat) : Field := ⟨0x201080 + i * 0x4000 + j * 0x100 + l * 4, 7, 1⟩
/-- SEQ_TH_VEC.ADDR [22:8] (03_morop.md R138). -/
def R.SEQ_TH_VEC_ADDR (i j l : Nat) : Field := ⟨0x201080 + i * 0x4000 + j * 0x100 + l * 4, 8, 15⟩
/-- SEQ_TH_VEC.RESUME [23:23] (03_morop.md R138). -/
def R.SEQ_TH_VEC_RESUME (i j l : Nat) : Field := ⟨0x201080 + i * 0x4000 + j * 0x100 + l * 4, 23, 1⟩
/-- SEQ_TH_GREG (03_morop.md R135). -/
def K.SEQ_TH_GREG (i j l : Nat) : Nat := 0x202000 + i * 0x4000 + j * 0x100 + l * 8
/-- MEM_CTRL (13_frame_memory.md R546). -/
def K.MEM_CTRL : Nat := 0x300000
/-- MEM_CTRL.ENABLE [0:0] (13_frame_memory.md R546). -/
def R.MEM_CTRL_ENABLE : Field := ⟨0x300000, 0, 1⟩
/-- MEM_CTRL.MODE [1:1] (13_frame_memory.md R546). -/
def R.MEM_CTRL_MODE : Field := ⟨0x300000, 1, 1⟩
/-- MEM_INTLV (13_frame_memory.md R546). -/
def K.MEM_INTLV : Nat := 0x300004
/-- MEM_INTLV.GRAIN_LOG2 [4:0] (13_frame_memory.md R546). -/
def R.MEM_INTLV_GRAIN_LOG2 : Field := ⟨0x300004, 0, 5⟩
/-- MEM_MIG_STATUS.STATE [1:0] (13_frame_memory.md R546). -/
def R.MEM_MIG_STATUS_STATE : Field := ⟨0x300008, 0, 2⟩
/-- MEM_MIG_STATUS.PROGRESS [31:2] (13_frame_memory.md R546). -/
def R.MEM_MIG_STATUS_PROGRESS : Field := ⟨0x300008, 2, 30⟩
/-- MEM_REMAP (13_frame_memory.md R546). -/
def K.MEM_REMAP : Nat := 0x300010
/-- MEM_REMAP.STACK [1:0] (13_frame_memory.md R546). -/
def R.MEM_REMAP_STACK : Field := ⟨0x300010, 0, 2⟩
/-- MEM_REMAP.RANK [3:2] (13_frame_memory.md R546). -/
def R.MEM_REMAP_RANK : Field := ⟨0x300010, 2, 2⟩
/-- MEM_REMAP.STATE [5:4] (13_frame_memory.md R546). -/
def R.MEM_REMAP_STATE : Field := ⟨0x300010, 4, 2⟩
/-- MEM_REFRESH (13_frame_memory.md R546). -/
def K.MEM_REFRESH (i : Nat) : Nat := 0x300020 + i * 0x40000
/-- MEM_REFRESH.RATE [1:0] (13_frame_memory.md R546). -/
def R.MEM_REFRESH_RATE (i : Nat) : Field := ⟨0x300020 + i * 0x40000, 0, 2⟩
/-- MEM_REFRESH.HOT [2:2] (13_frame_memory.md R546). -/
def R.MEM_REFRESH_HOT (i : Nat) : Field := ⟨0x300020 + i * 0x40000, 2, 1⟩
/-- MEM_SR_CTRL.IDLE_US [15:0] (13_frame_memory.md R546). -/
def R.MEM_SR_CTRL_IDLE_US (i : Nat) : Field := ⟨0x300024 + i * 0x40000, 0, 16⟩
/-- MEM_SR_CTRL.IN_SR [16:16] (13_frame_memory.md R546). -/
def R.MEM_SR_CTRL_IN_SR (i : Nat) : Field := ⟨0x300024 + i * 0x40000, 16, 1⟩
/-- MEM_SCRUB (13_frame_memory.md R546). -/
def K.MEM_SCRUB (i : Nat) : Nat := 0x300028 + i * 0x40000
/-- MEM_SCRUB.HOURS [7:0] (13_frame_memory.md R546). -/
def R.MEM_SCRUB_HOURS (i : Nat) : Field := ⟨0x300028 + i * 0x40000, 0, 8⟩
/-- MEM_SCRUB.CE_LIMIT [31:16] (13_frame_memory.md R546). -/
def R.MEM_SCRUB_CE_LIMIT (i : Nat) : Field := ⟨0x300028 + i * 0x40000, 16, 16⟩
/-- MEM_UE_CTRL.HEAD [3:0] (13_frame_memory.md R546). -/
def R.MEM_UE_CTRL_HEAD (i : Nat) : Field := ⟨0x30002c + i * 0x40000, 0, 4⟩
/-- MEM_UE_CTRL.TAIL [7:4] (13_frame_memory.md R546). -/
def R.MEM_UE_CTRL_TAIL (i : Nat) : Field := ⟨0x30002c + i * 0x40000, 4, 4⟩
/-- MEM_UE_LOG.WORD [63:0] (13_frame_memory.md R546). -/
def R.MEM_UE_LOG_WORD (i j l : Nat) : Field := ⟨0x300100 + i * 0x40000 + j * 0x10 + l * 8, 0, 64⟩
/-- MEM_CNT_CE.COUNT [63:0] (13_frame_memory.md R546). -/
def R.MEM_CNT_CE_COUNT (i j : Nat) : Field := ⟨0x300400 + i * 0x40000 + j * 8, 0, 64⟩
/-- MEM_CNT_UE.COUNT [63:0] (13_frame_memory.md R546). -/
def R.MEM_CNT_UE_COUNT (i j : Nat) : Field := ⟨0x300418 + i * 0x40000 + j * 8, 0, 64⟩
/-- MEM_CNT.COUNT [63:0] (13_frame_memory.md R546). -/
def R.MEM_CNT_COUNT (i j : Nat) : Field := ⟨0x300430 + i * 0x40000 + j * 8, 0, 64⟩
/-- MEM_ENC_CFG (13_frame_memory.md R546). -/
def K.MEM_ENC_CFG (i : Nat) : Nat := 0x301000 + i * 0x80
/-- MEM_ENC_CFG.ENABLE [0:0] (13_frame_memory.md R546). -/
def R.MEM_ENC_CFG_ENABLE (i : Nat) : Field := ⟨0x301000 + i * 0x80, 0, 1⟩
/-- MEM_ENC_CFG.KEYED [1:1] (13_frame_memory.md R546). -/
def R.MEM_ENC_CFG_KEYED (i : Nat) : Field := ⟨0x301000 + i * 0x80, 1, 1⟩
/-- MEM_ENC_CFG.STATE [3:2] (13_frame_memory.md R546). -/
def R.MEM_ENC_CFG_STATE (i : Nat) : Field := ⟨0x301000 + i * 0x80, 2, 2⟩
/-- MEM_ENC_BASE as one field (13_frame_memory.md R546). -/
def R.MEM_ENC_BASE (i : Nat) : Field := ⟨0x301008 + i * 0x80, 0, 64⟩
/-- MEM_ENC_LIMIT as one field (13_frame_memory.md R546). -/
def R.MEM_ENC_LIMIT (i : Nat) : Field := ⟨0x301010 + i * 0x80, 0, 64⟩
/-- MEM_ENC_KEY (13_frame_memory.md R546). -/
def K.MEM_ENC_KEY (i j : Nat) : Nat := 0x301040 + i * 0x80 + j * 4
/-- MEM_ENC_KEY.KEY [31:0] (13_frame_memory.md R546). -/
def R.MEM_ENC_KEY_KEY (i j : Nat) : Field := ⟨0x301040 + i * 0x80 + j * 4, 0, 32⟩
/-- MP_QUAD_CFG (05_ingest.md R245). -/
def K.MP_QUAD_CFG (i : Nat) : Nat := 0x400000 + i * 4
/-- MP_QUAD_CFG.MODE [1:0] (05_ingest.md R245). -/
def R.MP_QUAD_CFG_MODE (i : Nat) : Field := ⟨0x400000 + i * 4, 0, 2⟩
/-- MP_LANE_EQ (05_ingest.md R245). -/
def K.MP_LANE_EQ (i : Nat) : Nat := 0x400100 + i * 0x10
/-- MP_LANE_EQ.CTLE_PEAK [4:0] (05_ingest.md R245). -/
def R.MP_LANE_EQ_CTLE_PEAK (i : Nat) : Field := ⟨0x400100 + i * 0x10, 0, 5⟩
/-- MP_LANE_EQ.EYE_FLOOR_MV [10:5] (05_ingest.md R245). -/
def R.MP_LANE_EQ_EYE_FLOOR_MV (i : Nat) : Field := ⟨0x400100 + i * 0x10, 5, 6⟩
/-- MP_LANE_EQ.AUTO_DFE [11:11] (05_ingest.md R245). -/
def R.MP_LANE_EQ_AUTO_DFE (i : Nat) : Field := ⟨0x400100 + i * 0x10, 11, 1⟩
/-- MP_LANE_EQ.FORCE_CTLE [12:12] (05_ingest.md R245). -/
def R.MP_LANE_EQ_FORCE_CTLE (i : Nat) : Field := ⟨0x400100 + i * 0x10, 12, 1⟩
/-- MP_LANE_STATUS.LOCK [0:0] (05_ingest.md R245). -/
def R.MP_LANE_STATUS_LOCK (i : Nat) : Field := ⟨0x400104 + i * 0x10, 0, 1⟩
/-- MP_LANE_STATUS.DFE_ACTIVE [1:1] (05_ingest.md R245). -/
def R.MP_LANE_STATUS_DFE_ACTIVE (i : Nat) : Field := ⟨0x400104 + i * 0x10, 1, 1⟩
/-- MP_LANE_STATUS.LOCK_LOST [2:2] (05_ingest.md R245). -/
def R.MP_LANE_STATUS_LOCK_LOST (i : Nat) : Field := ⟨0x400104 + i * 0x10, 2, 1⟩
/-- MP_LANE_STATUS.EYE_MV [15:8] (05_ingest.md R245). -/
def R.MP_LANE_STATUS_EYE_MV (i : Nat) : Field := ⟨0x400104 + i * 0x10, 8, 8⟩
/-- MAC_CTRL.ENABLE [0:0] (05_ingest.md R245). -/
def R.MAC_CTRL_ENABLE (i : Nat) : Field := ⟨0x401000 + i * 0x100, 0, 1⟩
/-- MAC_CTRL.VLAN_STRIP [1:1] (05_ingest.md R245). -/
def R.MAC_CTRL_VLAN_STRIP (i : Nat) : Field := ⟨0x401000 + i * 0x100, 1, 1⟩
/-- MAC_STATUS.LINK_UP [0:0] (05_ingest.md R245). -/
def R.MAC_STATUS_LINK_UP (i : Nat) : Field := ⟨0x401004 + i * 0x100, 0, 1⟩
/-- MAC_STATUS.LINK_DOWN_SEEN [1:1] (05_ingest.md R245). -/
def R.MAC_STATUS_LINK_DOWN_SEEN (i : Nat) : Field := ⟨0x401004 + i * 0x100, 1, 1⟩
/-- MAC_CNT.COUNT [63:0] (05_ingest.md R245). -/
def R.MAC_CNT_COUNT (i j : Nat) : Field := ⟨0x401040 + i * 0x100 + j * 8, 0, 64⟩
/-- ING_CTRL.ENABLE [0:0] (05_ingest.md R248). -/
def R.ING_CTRL_ENABLE : Field := ⟨0x600000, 0, 1⟩
/-- ING_LOOKUP_CTRL (05_ingest.md R248). -/
def K.ING_LOOKUP_CTRL : Nat := 0x600004
/-- ING_LOOKUP_CTRL.PROFILE_EN [7:0] (05_ingest.md R248). -/
def R.ING_LOOKUP_CTRL_PROFILE_EN : Field := ⟨0x600004, 0, 8⟩
/-- ING_CTL_RATE.RATE [15:0] (05_ingest.md R248). -/
def R.ING_CTL_RATE_RATE : Field := ⟨0x600008, 0, 16⟩
/-- ING_CTL_RATE.BURST [31:16] (05_ingest.md R248). -/
def R.ING_CTL_RATE_BURST : Field := ⟨0x600008, 16, 16⟩
/-- ING_DSCP_COLOUR.COLOUR [31:0] (05_ingest.md R246). -/
def R.ING_DSCP_COLOUR_COLOUR (i : Nat) : Field := ⟨0x600010 + i * 4, 0, 32⟩
/-- ING_IND_SEL (05_ingest.md R248). -/
def K.ING_IND_SEL (i : Nat) : Nat := 0x600100 + i * 4
/-- ING_IND_SEL.FLOW [13:0] (05_ingest.md R248). -/
def R.ING_IND_SEL_FLOW (i : Nat) : Field := ⟨0x600100 + i * 4, 0, 14⟩
/-- ING_WIN_CNT.SNAPSHOT [63:0] (05_ingest.md R247). -/
def R.ING_WIN_CNT_SNAPSHOT (i j : Nat) : Field := ⟨0x601080 + i * 0x100 + j * 8, 0, 64⟩
/-- ING_POOL_BASE (05_ingest.md R248). -/
def K.ING_POOL_BASE (i : Nat) : Nat := 0x610000 + i * 0x20
/-- ING_POOL_BASE.BASE [47:0] (05_ingest.md R248). -/
def R.ING_POOL_BASE_BASE (i : Nat) : Field := ⟨0x610000 + i * 0x20, 0, 48⟩
/-- ING_POOL_CFG (05_ingest.md R248). -/
def K.ING_POOL_CFG (i : Nat) : Nat := 0x610008 + i * 0x20
/-- ING_POOL_CFG.TOKEN_SIZE [17:0] (05_ingest.md R248). -/
def R.ING_POOL_CFG_TOKEN_SIZE (i : Nat) : Field := ⟨0x610008 + i * 0x20, 0, 18⟩
/-- ING_POOL_CFG.COUNT [23:18] (05_ingest.md R248). -/
def R.ING_POOL_CFG_COUNT (i : Nat) : Field := ⟨0x610008 + i * 0x20, 18, 6⟩
/-- ING_POOL_CFG.ENABLE [31:31] (05_ingest.md R248). -/
def R.ING_POOL_CFG_ENABLE (i : Nat) : Field := ⟨0x610008 + i * 0x20, 31, 1⟩
/-- ING_POOL_STATUS.FREE [5:0] (05_ingest.md R248). -/
def R.ING_POOL_STATUS_FREE (i : Nat) : Field := ⟨0x61000c + i * 0x20, 0, 6⟩
/-- ING_POOL_STATUS.HELD [13:8] (05_ingest.md R248). -/
def R.ING_POOL_STATUS_HELD (i : Nat) : Field := ⟨0x61000c + i * 0x20, 8, 6⟩
/-- ING_POOL_STATUS.STATE [15:14] (05_ingest.md R248). -/
def R.ING_POOL_STATUS_STATE (i : Nat) : Field := ⟨0x61000c + i * 0x20, 14, 2⟩
/-- ING_POOL_TAKEN.COUNT [63:0] (05_ingest.md R246). -/
def R.ING_POOL_TAKEN_COUNT (i : Nat) : Field := ⟨0x610010 + i * 0x20, 0, 64⟩
/-- ING_POOL_RETURNED.COUNT [63:0] (05_ingest.md R246). -/
def R.ING_POOL_RETURNED_COUNT (i : Nat) : Field := ⟨0x610018 + i * 0x20, 0, 64⟩
/-- ING_PAIR_CFG (05_ingest.md R248). -/
def K.ING_PAIR_CFG (i : Nat) : Nat := 0x620000 + i * 0x20
/-- ING_PAIR_CFG.WINDOW [12:0] (05_ingest.md R248). -/
def R.ING_PAIR_CFG_WINDOW (i : Nat) : Field := ⟨0x620000 + i * 0x20, 0, 13⟩
/-- ING_PAIR_CFG.ENABLE [31:31] (05_ingest.md R248). -/
def R.ING_PAIR_CFG_ENABLE (i : Nat) : Field := ⟨0x620000 + i * 0x20, 31, 1⟩
/-- ING_PAIR_ONLY_A.COUNT [63:0] (05_ingest.md R246). -/
def R.ING_PAIR_ONLY_A_COUNT (i : Nat) : Field := ⟨0x620008 + i * 0x20, 0, 64⟩
/-- ING_PAIR_ONLY_B.COUNT [63:0] (05_ingest.md R246). -/
def R.ING_PAIR_ONLY_B_COUNT (i : Nat) : Field := ⟨0x620010 + i * 0x20, 0, 64⟩
/-- ING_PAIR_RESETS.COUNT [63:0] (05_ingest.md R246). -/
def R.ING_PAIR_RESETS_COUNT (i : Nat) : Field := ⟨0x620018 + i * 0x20, 0, 64⟩
/-- FLOW_TABLE (05_ingest.md R214). -/
def K.FLOW_TABLE (i : Nat) : Nat := 0x700000 + i * 4
/-- FLOW_TABLE.WORD [31:0] (05_ingest.md R214). -/
def R.FLOW_TABLE_WORD (i : Nat) : Field := ⟨0x700000 + i * 4, 0, 32⟩
/-- PRF_CTRL.ENABLE [0:0] (06_proofing.md R283). -/
def R.PRF_CTRL_ENABLE : Field := ⟨0x800000, 0, 1⟩
/-- PRF_OWNED.OWNED [15:0] (06_proofing.md R283). -/
def R.PRF_OWNED_OWNED : Field := ⟨0x800004, 0, 16⟩
/-- PRF_CH_CFG (06_proofing.md R283). -/
def K.PRF_CH_CFG (i : Nat) : Nat := 0x801000 + i * 0x20
/-- PRF_CH_CFG.LOOKAHEAD [5:0] (06_proofing.md R283). -/
def R.PRF_CH_CFG_LOOKAHEAD (i : Nat) : Field := ⟨0x801000 + i * 0x20, 0, 6⟩
/-- PRF_CH_CFG.SC_THRESH [11:8] (06_proofing.md R283). -/
def R.PRF_CH_CFG_SC_THRESH (i : Nat) : Field := ⟨0x801000 + i * 0x20, 8, 4⟩
/-- PRF_CH_CFG.SC_EN [12:12] (06_proofing.md R283). -/
def R.PRF_CH_CFG_SC_EN (i : Nat) : Field := ⟨0x801000 + i * 0x20, 12, 1⟩
/-- PRF_CH_CFG.FLASH_EN [13:13] (06_proofing.md R283). -/
def R.PRF_CH_CFG_FLASH_EN (i : Nat) : Field := ⟨0x801000 + i * 0x20, 13, 1⟩
/-- PRF_CH_HIST_BASE (06_proofing.md R283). -/
def K.PRF_CH_HIST_BASE (i : Nat) : Nat := 0x801008 + i * 0x20
/-- PRF_CH_HIST_BASE.BASE [63:12] (06_proofing.md R283). -/
def R.PRF_CH_HIST_BASE_BASE (i : Nat) : Field := ⟨0x801008 + i * 0x20, 12, 52⟩
/-- PRF_CH_HIST (06_proofing.md R283). -/
def K.PRF_CH_HIST (i : Nat) : Nat := 0x801010 + i * 0x20
/-- PRF_CH_HIST.ENABLE [30:30] (06_proofing.md R283). -/
def R.PRF_CH_HIST_ENABLE (i : Nat) : Field := ⟨0x801010 + i * 0x20, 30, 1⟩
/-- PRF_CH_HIST.STATE [31:31] (06_proofing.md R283). -/
def R.PRF_CH_HIST_STATE (i : Nat) : Field := ⟨0x801010 + i * 0x20, 31, 1⟩
/-- PRF_CH_HIST_SIZE (06_proofing.md R283). -/
def K.PRF_CH_HIST_SIZE (i : Nat) : Nat := 0x801018 + i * 0x20
/-- PRF_CH_HIST_SIZE.UNITS [31:0] (06_proofing.md R283). -/
def R.PRF_CH_HIST_SIZE_UNITS (i : Nat) : Field := ⟨0x801018 + i * 0x20, 0, 32⟩
/-- SCL_CTRL.ENABLE [0:0] (06_proofing.md R283). -/
def R.SCL_CTRL_ENABLE : Field := ⟨0x880000, 0, 1⟩
/-- SCL_COEF_CTRL (06_proofing.md R283). -/
def K.SCL_COEF_CTRL : Nat := 0x880004
/-- SCL_COEF_CTRL.VALID [0:0] (06_proofing.md R283). -/
def R.SCL_COEF_CTRL_VALID : Field := ⟨0x880004, 0, 1⟩
/-- SCL_COEF.COEF [9:0] (06_proofing.md R283). -/
def R.SCL_COEF_COEF (i : Nat) : Field := ⟨0x881000 + i * 4, 0, 10⟩
/-- SCL_REND_CFG (06_proofing.md R283). -/
def K.SCL_REND_CFG (i : Nat) : Nat := 0x888000 + i * 0x20
/-- SCL_REND_CFG.WIDTH [12:0] (06_proofing.md R283). -/
def R.SCL_REND_CFG_WIDTH (i : Nat) : Field := ⟨0x888000 + i * 0x20, 0, 13⟩
/-- SCL_REND_CFG.HEIGHT [25:13] (06_proofing.md R283). -/
def R.SCL_REND_CFG_HEIGHT (i : Nat) : Field := ⟨0x888000 + i * 0x20, 13, 13⟩
/-- SCL_REND_CFG.DEPTH8 [27:27] (06_proofing.md R283). -/
def R.SCL_REND_CFG_DEPTH8 (i : Nat) : Field := ⟨0x888000 + i * 0x20, 27, 1⟩
/-- SCL_REND_BASE.BASE [63:0] (06_proofing.md R283). -/
def R.SCL_REND_BASE_BASE (i : Nat) : Field := ⟨0x888008 + i * 0x20, 0, 64⟩
/-- SCL_REND_BUF (06_proofing.md R283). -/
def K.SCL_REND_BUF (i : Nat) : Nat := 0x888010 + i * 0x20
/-- SCL_REND_BUF.SIZE [17:0] (06_proofing.md R283). -/
def R.SCL_REND_BUF_SIZE (i : Nat) : Field := ⟨0x888010 + i * 0x20, 0, 18⟩
/-- SCL_REND_BUF.COUNT [23:18] (06_proofing.md R283). -/
def R.SCL_REND_BUF_COUNT (i : Nat) : Field := ⟨0x888010 + i * 0x20, 18, 6⟩
/-- SCL_REND_BUF.STATE [30:29] (06_proofing.md R283). -/
def R.SCL_REND_BUF_STATE (i : Nat) : Field := ⟨0x888010 + i * 0x20, 29, 2⟩
/-- SCL_REND_BUF.ENABLE [31:31] (06_proofing.md R283). -/
def R.SCL_REND_BUF_ENABLE (i : Nat) : Field := ⟨0x888010 + i * 0x20, 31, 1⟩
/-- ENG_CTRL (07_codec_engines.md R345). -/
def K.ENG_CTRL (i : Nat) : Nat := 0x900000 + i * 0x2000
/-- ENG_CTRL.PROOF_HOST [0:0] (07_codec_engines.md R345). -/
def R.ENG_CTRL_PROOF_HOST (i : Nat) : Field := ⟨0x900000 + i * 0x2000, 0, 1⟩
/-- ENG_CTRL.ISOLATE [1:1] (07_codec_engines.md R345). -/
def R.ENG_CTRL_ISOLATE (i : Nat) : Field := ⟨0x900000 + i * 0x2000, 1, 1⟩
/-- ENG_CTRL.RESTORE [2:2] (07_codec_engines.md R345). -/
def R.ENG_CTRL_RESTORE (i : Nat) : Field := ⟨0x900000 + i * 0x2000, 2, 1⟩
/-- ENG_STATUS.STATE [2:0] (07_codec_engines.md R346). -/
def R.ENG_STATUS_STATE (i : Nat) : Field := ⟨0x900004 + i * 0x2000, 0, 3⟩
/-- ENG_STATUS.CTX_VALID [3:3] (07_codec_engines.md R346). -/
def R.ENG_STATUS_CTX_VALID (i : Nat) : Field := ⟨0x900004 + i * 0x2000, 3, 1⟩
/-- ENG_STATUS.OWNED [4:4] (07_codec_engines.md R346). -/
def R.ENG_STATUS_OWNED (i : Nat) : Field := ⟨0x900004 + i * 0x2000, 4, 1⟩
/-- ENG_STATUS.OWNER [23:16] (07_codec_engines.md R346). -/
def R.ENG_STATUS_OWNER (i : Nat) : Field := ⟨0x900004 + i * 0x2000, 16, 8⟩
/-- ENG_LAST_ERR.CODE [7:0] (07_codec_engines.md R346). -/
def R.ENG_LAST_ERR_CODE (i : Nat) : Field := ⟨0x900008 + i * 0x2000, 0, 8⟩
/-- ENG_LAST_ERR.VALID [31:31] (07_codec_engines.md R346). -/
def R.ENG_LAST_ERR_VALID (i : Nat) : Field := ⟨0x900008 + i * 0x2000, 31, 1⟩
/-- ENG_CUR.CHANNEL [7:0] (07_codec_engines.md R347). -/
def R.ENG_CUR_CHANNEL (i : Nat) : Field := ⟨0x900010 + i * 0x2000, 0, 8⟩
/-- ENG_CUR.RENDITION [10:8] (07_codec_engines.md R347). -/
def R.ENG_CUR_RENDITION (i : Nat) : Field := ⟨0x900010 + i * 0x2000, 8, 3⟩
/-- ENG_CUR.COLUMN [19:16] (07_codec_engines.md R347). -/
def R.ENG_CUR_COLUMN (i : Nat) : Field := ⟨0x900010 + i * 0x2000, 16, 4⟩
/-- ENG_CUR.SNAP [63:32] (07_codec_engines.md R347). -/
def R.ENG_CUR_SNAP (i : Nat) : Field := ⟨0x900010 + i * 0x2000, 32, 32⟩
/-- ENG_CNT.COUNT [63:0] (07_codec_engines.md R345). -/
def R.ENG_CNT_COUNT (i j : Nat) : Field := ⟨0x900100 + i * 0x2000 + j * 8, 0, 64⟩
/-- TRAY_CTRL (07_codec_engines.md R348). -/
def K.TRAY_CTRL (i : Nat) : Nat := 0xa00000 + i * 0x1000
/-- TRAY_CTRL.CACHE_EN [0:0] (07_codec_engines.md R348). -/
def R.TRAY_CTRL_CACHE_EN (i : Nat) : Field := ⟨0xa00000 + i * 0x1000, 0, 1⟩
/-- TRAY_CTRL.INVALIDATE [1:1] (07_codec_engines.md R348). -/
def R.TRAY_CTRL_INVALIDATE (i : Nat) : Field := ⟨0xa00000 + i * 0x1000, 1, 1⟩
/-- TRAY_STATUS.OWNED [7:0] (07_codec_engines.md R348). -/
def R.TRAY_STATUS_OWNED (i : Nat) : Field := ⟨0xa00004 + i * 0x1000, 0, 8⟩
/-- TRAY_STATUS.ISOLATED [15:8] (07_codec_engines.md R348). -/
def R.TRAY_STATUS_ISOLATED (i : Nat) : Field := ⟨0xa00004 + i * 0x1000, 8, 8⟩
/-- TRAY_STATUS.BUSY [23:16] (07_codec_engines.md R348). -/
def R.TRAY_STATUS_BUSY (i : Nat) : Field := ⟨0xa00004 + i * 0x1000, 16, 8⟩
/-- TRAY_CNT.COUNT [63:0] (07_codec_engines.md R348). -/
def R.TRAY_CNT_COUNT (i j : Nat) : Field := ⟨0xa00010 + i * 0x1000 + j * 8, 0, 64⟩
/-- RC_CTRL.ENABLE [0:0] (08_rate_and_delay.md R388). -/
def R.RC_CTRL_ENABLE : Field := ⟨0xb00000, 0, 1⟩
/-- RC_STATUS.LATE_CHANNEL [7:0] (08_rate_and_delay.md R388). -/
def R.RC_STATUS_LATE_CHANNEL : Field := ⟨0xb00008, 0, 8⟩
/-- RC_STATUS.VALID [31:31] (08_rate_and_delay.md R388). -/
def R.RC_STATUS_VALID : Field := ⟨0xb00008, 31, 1⟩
/-- RC_CNT_RELEASED.COUNT [63:0] (08_rate_and_delay.md R388). -/
def R.RC_CNT_RELEASED_COUNT : Field := ⟨0xb00010, 0, 64⟩
/-- RC_CNT_RELEASE_LATE.COUNT [63:0] (08_rate_and_delay.md R388). -/
def R.RC_CNT_RELEASE_LATE_COUNT : Field := ⟨0xb00018, 0, 64⟩
/-- AUD_CTRL (10_audio.md R442). -/
def K.AUD_CTRL : Nat := 0xc00000
/-- AUD_CTRL.ENABLE [0:0] (10_audio.md R442). -/
def R.AUD_CTRL_ENABLE : Field := ⟨0xc00000, 0, 1⟩
/-- AUD_START (10_audio.md R442). -/
def K.AUD_START : Nat := 0xc00010
/-- AUD_START.SET [7:0] (10_audio.md R442). -/
def R.AUD_START_SET : Field := ⟨0xc00010, 0, 8⟩
/-- AUD_START.PG [10:8] (10_audio.md R442). -/
def R.AUD_START_PG : Field := ⟨0xc00010, 8, 3⟩
/-- AUD_START.STATE [13:12] (10_audio.md R442). -/
def R.AUD_START_STATE : Field := ⟨0xc00010, 12, 2⟩
/-- AUD_START.ARM [31:31] (10_audio.md R442). -/
def R.AUD_START_ARM : Field := ⟨0xc00010, 31, 1⟩
/-- AUD_VCXO_CFG (10_audio.md R442). -/
def K.AUD_VCXO_CFG : Nat := 0xc00020
/-- AUD_VCXO_CFG.ENABLE [0:0] (10_audio.md R442). -/
def R.AUD_VCXO_CFG_ENABLE : Field := ⟨0xc00020, 0, 1⟩
/-- AUD_VCXO_CFG.POLARITY [1:1] (10_audio.md R442). -/
def R.AUD_VCXO_CFG_POLARITY : Field := ⟨0xc00020, 1, 1⟩
/-- AUD_VCXO_CFG.REF_PORT [4:2] (10_audio.md R442). -/
def R.AUD_VCXO_CFG_REF_PORT : Field := ⟨0xc00020, 2, 3⟩
/-- AUD_VCXO_CFG.REF_TX [5:5] (10_audio.md R442). -/
def R.AUD_VCXO_CFG_REF_TX : Field := ⟨0xc00020, 5, 1⟩
/-- AUD_VCXO_CFG.STATE [7:6] (10_audio.md R442). -/
def R.AUD_VCXO_CFG_STATE : Field := ⟨0xc00020, 6, 2⟩
/-- AUD_VCXO_CFG.LOCK_TOL [15:8] (10_audio.md R442). -/
def R.AUD_VCXO_CFG_LOCK_TOL : Field := ⟨0xc00020, 8, 8⟩
/-- AUD_VCXO_CFG.CENTRE [31:16] (10_audio.md R442). -/
def R.AUD_VCXO_CFG_CENTRE : Field := ⟨0xc00020, 16, 16⟩
/-- AUD_VCXO_GAIN.KP [15:0] (10_audio.md R442). -/
def R.AUD_VCXO_GAIN_KP : Field := ⟨0xc00028, 0, 16⟩
/-- AUD_VCXO_GAIN.KI [31:16] (10_audio.md R442). -/
def R.AUD_VCXO_GAIN_KI : Field := ⟨0xc00028, 16, 16⟩
/-- AUD_VCXO_GAIN.DUTY_MIN [47:32] (10_audio.md R442). -/
def R.AUD_VCXO_GAIN_DUTY_MIN : Field := ⟨0xc00028, 32, 16⟩
/-- AUD_VCXO_GAIN.DUTY_MAX [63:48] (10_audio.md R442). -/
def R.AUD_VCXO_GAIN_DUTY_MAX : Field := ⟨0xc00028, 48, 16⟩
/-- AUD_VCXO_STATUS.DUTY [15:0] (10_audio.md R442). -/
def R.AUD_VCXO_STATUS_DUTY : Field := ⟨0xc00030, 0, 16⟩
/-- AUD_VCXO_STATUS.LOCKED [16:16] (10_audio.md R442). -/
def R.AUD_VCXO_STATUS_LOCKED : Field := ⟨0xc00030, 16, 1⟩
/-- AUD_VCXO_STATUS.RANGE [17:17] (10_audio.md R442). -/
def R.AUD_VCXO_STATUS_RANGE : Field := ⟨0xc00030, 17, 1⟩
/-- AUD_VCXO_STATUS.LOCK_LOST [18:18] (10_audio.md R442). -/
def R.AUD_VCXO_STATUS_LOCK_LOST : Field := ⟨0xc00030, 18, 1⟩
/-- AUD_PORT_CFG (10_audio.md R442). -/
def K.AUD_PORT_CFG (i : Nat) : Nat := 0xc01000 + i * 0x100
/-- AUD_PORT_CFG.ENABLE [0:0] (10_audio.md R442). -/
def R.AUD_PORT_CFG_ENABLE (i : Nat) : Field := ⟨0xc01000 + i * 0x100, 0, 1⟩
/-- AUD_PORT_CFG.I2S [1:1] (10_audio.md R442). -/
def R.AUD_PORT_CFG_I2S (i : Nat) : Field := ⟨0xc01000 + i * 0x100, 1, 1⟩
/-- AUD_PORT_CFG.SLOTS [4:2] (10_audio.md R442). -/
def R.AUD_PORT_CFG_SLOTS (i : Nat) : Field := ⟨0xc01000 + i * 0x100, 2, 3⟩
/-- AUD_PORT_CFG.RATE96 [5:5] (10_audio.md R442). -/
def R.AUD_PORT_CFG_RATE96 (i : Nat) : Field := ⟨0xc01000 + i * 0x100, 5, 1⟩
/-- AUD_PORT_CFG.DELAY [6:6] (10_audio.md R442). -/
def R.AUD_PORT_CFG_DELAY (i : Nat) : Field := ⟨0xc01000 + i * 0x100, 6, 1⟩
/-- AUD_PORT_CFG.BCLK_INV [7:7] (10_audio.md R442). -/
def R.AUD_PORT_CFG_BCLK_INV (i : Nat) : Field := ⟨0xc01000 + i * 0x100, 7, 1⟩
/-- AUD_PORT_CFG.CLK_OUT [8:8] (10_audio.md R442). -/
def R.AUD_PORT_CFG_CLK_OUT (i : Nat) : Field := ⟨0xc01000 + i * 0x100, 8, 1⟩
/-- AUD_PORT_CFG.TX_HIZ [9:9] (10_audio.md R442). -/
def R.AUD_PORT_CFG_TX_HIZ (i : Nat) : Field := ⟨0xc01000 + i * 0x100, 9, 1⟩
/-- AUD_PORT_STATUS.RUNNING [0:0] (10_audio.md R443). -/
def R.AUD_PORT_STATUS_RUNNING (i : Nat) : Field := ⟨0xc01004 + i * 0x100, 0, 1⟩
/-- AUD_PORT_STATUS.NO_CLOCK [1:1] (10_audio.md R443). -/
def R.AUD_PORT_STATUS_NO_CLOCK (i : Nat) : Field := ⟨0xc01004 + i * 0x100, 1, 1⟩
/-- AUD_PORT_STATUS.FILL_TX [5:2] (10_audio.md R443). -/
def R.AUD_PORT_STATUS_FILL_TX (i : Nat) : Field := ⟨0xc01004 + i * 0x100, 2, 4⟩
/-- AUD_PORT_STATUS.FILL_RX [9:6] (10_audio.md R443). -/
def R.AUD_PORT_STATUS_FILL_RX (i : Nat) : Field := ⟨0xc01004 + i * 0x100, 6, 4⟩
/-- AUD_PORT_MASK (10_audio.md R442). -/
def K.AUD_PORT_MASK (i j : Nat) : Nat := 0xc01008 + i * 0x100 + j * 4
/-- AUD_PORT_MASK.MASK [31:0] (10_audio.md R442). -/
def R.AUD_PORT_MASK_MASK (i j : Nat) : Field := ⟨0xc01008 + i * 0x100 + j * 4, 0, 32⟩
/-- AUD_PORT_CNT.COUNT [63:0] (10_audio.md R442). -/
def R.AUD_PORT_CNT_COUNT (i j : Nat) : Field := ⟨0xc01040 + i * 0x100 + j * 8, 0, 64⟩
/-- AUD_SLOT_MAP.BUFFER [8:0] (10_audio.md R443). -/
def R.AUD_SLOT_MAP_BUFFER (i j l : Nat) : Field := ⟨0xc02000 + i * 0x100 + j * 0x80 + l * 4, 0, 9⟩
/-- AUD_SLOT_MAP.CHANNEL [14:9] (10_audio.md R443). -/
def R.AUD_SLOT_MAP_CHANNEL (i j l : Nat) : Field := ⟨0xc02000 + i * 0x100 + j * 0x80 + l * 4, 9, 6⟩
/-- AUD_SB_BASE (10_audio.md R442). -/
def K.AUD_SB_BASE (i : Nat) : Nat := 0xc40000 + i * 0x80
/-- AUD_SB_BASE as one field (10_audio.md R442). -/
def R.AUD_SB_BASE (i : Nat) : Field := ⟨0xc40000 + i * 0x80, 0, 64⟩
/-- AUD_SB_CFG (10_audio.md R443). -/
def K.AUD_SB_CFG (i : Nat) : Nat := 0xc40008 + i * 0x80
/-- AUD_SB_CFG.CHANNELS [6:0] (10_audio.md R443). -/
def R.AUD_SB_CFG_CHANNELS (i : Nat) : Field := ⟨0xc40008 + i * 0x80, 0, 7⟩
/-- AUD_SB_CFG.RATE96 [7:7] (10_audio.md R443). -/
def R.AUD_SB_CFG_RATE96 (i : Nat) : Field := ⟨0xc40008 + i * 0x80, 7, 1⟩
/-- AUD_SB_CFG.PACK [9:8] (10_audio.md R443). -/
def R.AUD_SB_CFG_PACK (i : Nat) : Field := ⟨0xc40008 + i * 0x80, 8, 2⟩
/-- AUD_SB_CFG.BIG_ENDIAN [10:10] (10_audio.md R443). -/
def R.AUD_SB_CFG_BIG_ENDIAN (i : Nat) : Field := ⟨0xc40008 + i * 0x80, 10, 1⟩
/-- AUD_SB_CFG.READ_LAT [27:12] (10_audio.md R443). -/
def R.AUD_SB_CFG_READ_LAT (i : Nat) : Field := ⟨0xc40008 + i * 0x80, 12, 16⟩
/-- AUD_SB_CFG.DEPTH [47:32] (10_audio.md R443). -/
def R.AUD_SB_CFG_DEPTH (i : Nat) : Field := ⟨0xc40008 + i * 0x80, 32, 16⟩
/-- AUD_SB_CFG.ENABLE [63:63] (10_audio.md R443). -/
def R.AUD_SB_CFG_ENABLE (i : Nat) : Field := ⟨0xc40008 + i * 0x80, 63, 1⟩
/-- AUD_SB_STATUS.STATE [1:0] (10_audio.md R444). -/
def R.AUD_SB_STATUS_STATE (i : Nat) : Field := ⟨0xc40010 + i * 0x80, 0, 2⟩
/-- AUD_SB_STATUS.ERR [2:2] (10_audio.md R444). -/
def R.AUD_SB_STATUS_ERR (i : Nat) : Field := ⟨0xc40010 + i * 0x80, 2, 1⟩
/-- AUD_SB_CNT.COUNT [63:0] (10_audio.md R442). -/
def R.AUD_SB_CNT_COUNT (i j : Nat) : Field := ⟨0xc40018 + i * 0x80 + j * 8, 0, 64⟩
/-- AUD_FLOW_MAP (10_audio.md R444). -/
def K.AUD_FLOW_MAP (i : Nat) : Nat := 0xc60000 + i * 4
/-- AUD_FLOW_MAP.FIRST_CH [5:0] (10_audio.md R444). -/
def R.AUD_FLOW_MAP_FIRST_CH (i : Nat) : Field := ⟨0xc60000 + i * 4, 0, 6⟩
/-- AUD_FLOW_MAP.CHANNELS [12:6] (10_audio.md R444). -/
def R.AUD_FLOW_MAP_CHANNELS (i : Nat) : Field := ⟨0xc60000 + i * 4, 6, 7⟩
/-- AUD_FLOW_MAP.L24 [13:13] (10_audio.md R444). -/
def R.AUD_FLOW_MAP_L24 (i : Nat) : Field := ⟨0xc60000 + i * 4, 13, 1⟩
/-- AUD_FLOW_MAP.RATE96 [14:14] (10_audio.md R444). -/
def R.AUD_FLOW_MAP_RATE96 (i : Nat) : Field := ⟨0xc60000 + i * 4, 14, 1⟩
/-- MUX_CTRL.ENABLE [0:0] (11_egress.md R488). -/
def R.MUX_CTRL_ENABLE : Field := ⟨0xc80000, 0, 1⟩
/-- MUX_SRTP_CFG (11_egress.md R488). -/
def K.MUX_SRTP_CFG (i : Nat) : Nat := 0xc81000 + i * 4
/-- MUX_SRTP_CFG.SUITE [1:0] (11_egress.md R488). -/
def R.MUX_SRTP_CFG_SUITE (i : Nat) : Field := ⟨0xc81000 + i * 4, 0, 2⟩
/-- MUX_SRTP_CFG.VALID [2:2] (11_egress.md R488). -/
def R.MUX_SRTP_CFG_VALID (i : Nat) : Field := ⟨0xc81000 + i * 4, 2, 1⟩
/-- MUX_SRTP_CFG.LOAD [3:3] (11_egress.md R488). -/
def R.MUX_SRTP_CFG_LOAD (i : Nat) : Field := ⟨0xc81000 + i * 4, 3, 1⟩
/-- MUX_SRTP_CFG.USERS [29:16] (11_egress.md R488). -/
def R.MUX_SRTP_CFG_USERS (i : Nat) : Field := ⟨0xc81000 + i * 4, 16, 14⟩
/-- MUX_SRTP_KEY.KEY [31:0] (11_egress.md R488). -/
def R.MUX_SRTP_KEY_KEY (i : Nat) : Field := ⟨0xc82010 + i * 4, 0, 32⟩
/-- MUX_SRTP_SALT.SALT [31:0] (11_egress.md R488). -/
def R.MUX_SRTP_SALT_SALT (i : Nat) : Field := ⟨0xc82030 + i * 4, 0, 32⟩
/-- MUX_STR_CFG (11_egress.md R488). -/
def K.MUX_STR_CFG (i : Nat) : Nat := 0xc90000 + i * 0x20
/-- MUX_STR_CFG.ENABLE [0:0] (11_egress.md R488). -/
def R.MUX_STR_CFG_ENABLE (i : Nat) : Field := ⟨0xc90000 + i * 0x20, 0, 1⟩
/-- MUX_STR_CFG.FORMAT [2:1] (11_egress.md R488). -/
def R.MUX_STR_CFG_FORMAT (i : Nat) : Field := ⟨0xc90000 + i * 0x20, 1, 2⟩
/-- MUX_STR_CFG.TS_PER_DGRAM [5:3] (11_egress.md R488). -/
def R.MUX_STR_CFG_TS_PER_DGRAM (i : Nat) : Field := ⟨0xc90000 + i * 0x20, 3, 3⟩
/-- MUX_STR_CFG.AUDIO_EN [6:6] (11_egress.md R488). -/
def R.MUX_STR_CFG_AUDIO_EN (i : Nat) : Field := ⟨0xc90000 + i * 0x20, 6, 1⟩
/-- MUX_STR_CFG.AUDIO_BUF [16:8] (11_egress.md R488). -/
def R.MUX_STR_CFG_AUDIO_BUF (i : Nat) : Field := ⟨0xc90000 + i * 0x20, 8, 9⟩
/-- MUX_STR_CFG.AUDIO_CH [22:17] (11_egress.md R488). -/
def R.MUX_STR_CFG_AUDIO_CH (i : Nat) : Field := ⟨0xc90000 + i * 0x20, 17, 6⟩
/-- MUX_STR_CFG.AUDIO_PAIRS [25:23] (11_egress.md R488). -/
def R.MUX_STR_CFG_AUDIO_PAIRS (i : Nat) : Field := ⟨0xc90000 + i * 0x20, 23, 3⟩
/-- MUX_STR_TS.PMT_PID [12:0] (11_egress.md R488). -/
def R.MUX_STR_TS_PMT_PID (i : Nat) : Field := ⟨0xc90008 + i * 0x20, 0, 13⟩
/-- MUX_STR_TS.VIDEO_PID [28:16] (11_egress.md R488). -/
def R.MUX_STR_TS_VIDEO_PID (i : Nat) : Field := ⟨0xc90008 + i * 0x20, 16, 13⟩
/-- MUX_STR_TS.AUDIO_PID [44:32] (11_egress.md R488). -/
def R.MUX_STR_TS_AUDIO_PID (i : Nat) : Field := ⟨0xc90008 + i * 0x20, 32, 13⟩
/-- MUX_STR_TS.SCTE35_PID [60:48] (11_egress.md R488). -/
def R.MUX_STR_TS_SCTE35_PID (i : Nat) : Field := ⟨0xc90008 + i * 0x20, 48, 13⟩
/-- MUX_STR_RATE (11_egress.md R488). -/
def K.MUX_STR_RATE (i : Nat) : Nat := 0xc90010 + i * 0x20
/-- MUX_STR_RATE.TS_RATE_KBPS [31:0] (11_egress.md R488). -/
def R.MUX_STR_RATE_TS_RATE_KBPS (i : Nat) : Field := ⟨0xc90010 + i * 0x20, 0, 32⟩
/-- MUX_STR_RATE.PCR_LAG_US [55:32] (11_egress.md R488). -/
def R.MUX_STR_RATE_PCR_LAG_US (i : Nat) : Field := ⟨0xc90010 + i * 0x20, 32, 24⟩
/-- MUX_STR_RATE.PCR_INTERVAL_MS [63:56] (11_egress.md R488). -/
def R.MUX_STR_RATE_PCR_INTERVAL_MS (i : Nat) : Field := ⟨0xc90010 + i * 0x20, 56, 8⟩
/-- MUX_STR_STATUS.STATE [1:0] (11_egress.md R488). -/
def R.MUX_STR_STATUS_STATE (i : Nat) : Field := ⟨0xc90018 + i * 0x20, 0, 2⟩
/-- MUX_STR_STATUS.RATE_ERR [2:2] (11_egress.md R488). -/
def R.MUX_STR_STATUS_RATE_ERR (i : Nat) : Field := ⟨0xc90018 + i * 0x20, 2, 1⟩
/-- MUX_STR_STATUS.LAG_ERR [3:3] (11_egress.md R488). -/
def R.MUX_STR_STATUS_LAG_ERR (i : Nat) : Field := ⟨0xc90018 + i * 0x20, 3, 1⟩
/-- MUX_ANC_BASE (11_egress.md R488). -/
def K.MUX_ANC_BASE (i : Nat) : Nat := 0xca0000 + i * 0x10
/-- MUX_ANC_BASE.BASE [62:11] (11_egress.md R488). -/
def R.MUX_ANC_BASE_BASE (i : Nat) : Field := ⟨0xca0000 + i * 0x10, 11, 52⟩
/-- MUX_ANC_BASE.ENABLE [63:63] (11_egress.md R488). -/
def R.MUX_ANC_BASE_ENABLE (i : Nat) : Field := ⟨0xca0000 + i * 0x10, 63, 1⟩
/-- MUX_CNT.COUNT [63:0] (11_egress.md R488). -/
def R.MUX_CNT_COUNT (i : Nat) : Field := ⟨0xcb0000 + i * 8, 0, 64⟩
/-- EGR_CTRL.ENABLE [0:0] (11_egress.md R489). -/
def R.EGR_CTRL_ENABLE : Field := ⟨0xd00000, 0, 1⟩
/-- EGR_IND_SEL (11_egress.md R489). -/
def K.EGR_IND_SEL (i : Nat) : Nat := 0xd00100 + i * 4
/-- EGR_IND_SEL.FLOW [13:0] (11_egress.md R489). -/
def R.EGR_IND_SEL_FLOW (i : Nat) : Field := ⟨0xd00100 + i * 4, 0, 14⟩
/-- EGR_WIN_CNT.SNAPSHOT [63:0] (11_egress.md R489). -/
def R.EGR_WIN_CNT_SNAPSHOT (i j : Nat) : Field := ⟨0xd01080 + i * 0x100 + j * 8, 0, 64⟩
/-- EGR_GATE_CTRL (11_egress.md R489). -/
def K.EGR_GATE_CTRL (i : Nat) : Nat := 0xd10000 + i * 0x1000
/-- EGR_GATE_CTRL.ENABLE [0:0] (11_egress.md R489). -/
def R.EGR_GATE_CTRL_ENABLE (i : Nat) : Field := ⟨0xd10000 + i * 0x1000, 0, 1⟩
/-- EGR_GATE_CTRL.LENGTH [9:1] (11_egress.md R489). -/
def R.EGR_GATE_CTRL_LENGTH (i : Nat) : Field := ⟨0xd10000 + i * 0x1000, 1, 9⟩
/-- EGR_GATE_CTRL.CHANGE [10:10] (11_egress.md R489). -/
def R.EGR_GATE_CTRL_CHANGE (i : Nat) : Field := ⟨0xd10000 + i * 0x1000, 10, 1⟩
/-- EGR_GATE_CTRL.PENDING [11:11] (11_egress.md R489). -/
def R.EGR_GATE_CTRL_PENDING (i : Nat) : Field := ⟨0xd10000 + i * 0x1000, 11, 1⟩
/-- EGR_GATE_CTRL.OPER_LIST [12:12] (11_egress.md R489). -/
def R.EGR_GATE_CTRL_OPER_LIST (i : Nat) : Field := ⟨0xd10000 + i * 0x1000, 12, 1⟩
/-- EGR_GATE_BASE.NS [63:0] (11_egress.md R489). -/
def R.EGR_GATE_BASE_NS (i : Nat) : Field := ⟨0xd10008 + i * 0x1000, 0, 64⟩
/-- EGR_GATE_CYCLE (11_egress.md R489). -/
def K.EGR_GATE_CYCLE (i : Nat) : Nat := 0xd10010 + i * 0x1000
/-- EGR_GATE_CYCLE.NS [31:0] (11_egress.md R489). -/
def R.EGR_GATE_CYCLE_NS (i : Nat) : Field := ⟨0xd10010 + i * 0x1000, 0, 32⟩
/-- EGR_GATE_CHANGE_TIME.NS [63:0] (11_egress.md R489). -/
def R.EGR_GATE_CHANGE_TIME_NS (i : Nat) : Field := ⟨0xd10018 + i * 0x1000, 0, 64⟩
/-- EGR_QFRAME (11_egress.md R489). -/
def K.EGR_QFRAME (i j : Nat) : Nat := 0xd10020 + i * 0x1000 + j * 4
/-- EGR_QFRAME.BYTES [13:0] (11_egress.md R489). -/
def R.EGR_QFRAME_BYTES (i j : Nat) : Field := ⟨0xd10020 + i * 0x1000 + j * 4, 0, 14⟩
/-- EGR_PORT_CNT.COUNT [63:0] (11_egress.md R489). -/
def R.EGR_PORT_CNT_COUNT (i j : Nat) : Field := ⟨0xd10040 + i * 0x1000 + j * 8, 0, 64⟩
/-- EGR_GATE_ENTRY (11_egress.md R489). -/
def K.EGR_GATE_ENTRY (i j l : Nat) : Nat := 0xd10800 + i * 0x1000 + j * 0x400 + l * 4
/-- EGR_GATE_ENTRY.GATES [4:0] (11_egress.md R489). -/
def R.EGR_GATE_ENTRY_GATES (i j l : Nat) : Field := ⟨0xd10800 + i * 0x1000 + j * 0x400 + l * 4, 0, 5⟩
/-- EGR_GATE_ENTRY.INTERVAL_NS [31:8] (11_egress.md R489). -/
def R.EGR_GATE_ENTRY_INTERVAL_NS (i j l : Nat) : Field := ⟨0xd10800 + i * 0x1000 + j * 0x400 + l * 4, 8, 24⟩
/-- EGR_WFQ_WEIGHT.WEIGHT [7:0] (11_egress.md R489). -/
def R.EGR_WFQ_WEIGHT_WEIGHT (i j : Nat) : Field := ⟨0xd40000 + i * 0x4000 + j * 4, 0, 8⟩
/-- WL_CTRL (15_weneiren.md R589). -/
def K.WL_CTRL (i : Nat) : Nat := 0xe00000 + i * 0x40000
/-- WL_CTRL.ENABLE [0:0] (15_weneiren.md R589). -/
def R.WL_CTRL_ENABLE (i : Nat) : Field := ⟨0xe00000 + i * 0x40000, 0, 1⟩
/-- WL_CTRL.BOARD_ID [2:1] (15_weneiren.md R589). -/
def R.WL_CTRL_BOARD_ID (i : Nat) : Field := ⟨0xe00000 + i * 0x40000, 1, 2⟩
/-- WL_CTRL.IDLE_EN [3:3] (15_weneiren.md R589). -/
def R.WL_CTRL_IDLE_EN (i : Nat) : Field := ⟨0xe00000 + i * 0x40000, 3, 1⟩
/-- WL_CTRL.RETRAIN [4:4] (15_weneiren.md R589). -/
def R.WL_CTRL_RETRAIN (i : Nat) : Field := ⟨0xe00000 + i * 0x40000, 4, 1⟩
/-- WL_CTRL.TIMEOUT_US [31:16] (15_weneiren.md R589). -/
def R.WL_CTRL_TIMEOUT_US (i : Nat) : Field := ⟨0xe00000 + i * 0x40000, 16, 16⟩
/-- WL_STATUS.STATE [2:0] (15_weneiren.md R589). -/
def R.WL_STATUS_STATE (i : Nat) : Field := ⟨0xe00004 + i * 0x40000, 0, 3⟩
/-- WL_STATUS.SPARE_IN_USE [3:3] (15_weneiren.md R589). -/
def R.WL_STATUS_SPARE_IN_USE (i : Nat) : Field := ⟨0xe00004 + i * 0x40000, 3, 1⟩
/-- WL_STATUS.HALF [4:4] (15_weneiren.md R589). -/
def R.WL_STATUS_HALF (i : Nat) : Field := ⟨0xe00004 + i * 0x40000, 4, 1⟩
/-- WL_STATUS.PEER_ID [6:5] (15_weneiren.md R589). -/
def R.WL_STATUS_PEER_ID (i : Nat) : Field := ⟨0xe00004 + i * 0x40000, 5, 2⟩
/-- WL_STATUS.PEER_PORT [8:7] (15_weneiren.md R589). -/
def R.WL_STATUS_PEER_PORT (i : Nat) : Field := ⟨0xe00004 + i * 0x40000, 7, 2⟩
/-- WL_STATUS.REVERSED [9:9] (15_weneiren.md R589). -/
def R.WL_STATUS_REVERSED (i : Nat) : Field := ⟨0xe00004 + i * 0x40000, 9, 1⟩
/-- WL_STATUS.LINK_DOWN_SEEN [10:10] (15_weneiren.md R589). -/
def R.WL_STATUS_LINK_DOWN_SEEN (i : Nat) : Field := ⟨0xe00004 + i * 0x40000, 10, 1⟩
/-- WL_VC_CFG (15_weneiren.md R589). -/
def K.WL_VC_CFG (i : Nat) : Nat := 0xe00008 + i * 0x40000
/-- WL_VC_CFG.MEM_FLITS [9:0] (15_weneiren.md R589). -/
def R.WL_VC_CFG_MEM_FLITS (i : Nat) : Field := ⟨0xe00008 + i * 0x40000, 0, 10⟩
/-- WL_VC_CFG.MEDIA_FLITS [19:10] (15_weneiren.md R589). -/
def R.WL_VC_CFG_MEDIA_FLITS (i : Nat) : Field := ⟨0xe00008 + i * 0x40000, 10, 10⟩
/-- WL_VC_CFG.MSG_FLITS [29:20] (15_weneiren.md R589). -/
def R.WL_VC_CFG_MSG_FLITS (i : Nat) : Field := ⟨0xe00008 + i * 0x40000, 20, 10⟩
/-- WL_IDLE.ENTER_US [15:0] (15_weneiren.md R589). -/
def R.WL_IDLE_ENTER_US (i : Nat) : Field := ⟨0xe0000c + i * 0x40000, 0, 16⟩
/-- WL_LANE_EQ (15_weneiren.md R589). -/
def K.WL_LANE_EQ (i j : Nat) : Nat := 0xe00100 + i * 0x40000 + j * 8
/-- WL_LANE_EQ.CTLE_PEAK [4:0] (15_weneiren.md R589). -/
def R.WL_LANE_EQ_CTLE_PEAK (i j : Nat) : Field := ⟨0xe00100 + i * 0x40000 + j * 8, 0, 5⟩
/-- WL_LANE_EQ.EYE_FLOOR_MV [10:5] (15_weneiren.md R589). -/
def R.WL_LANE_EQ_EYE_FLOOR_MV (i j : Nat) : Field := ⟨0xe00100 + i * 0x40000 + j * 8, 5, 6⟩
/-- WL_LANE_EQ.FORCE_CTLE [12:12] (15_weneiren.md R589). -/
def R.WL_LANE_EQ_FORCE_CTLE (i j : Nat) : Field := ⟨0xe00100 + i * 0x40000 + j * 8, 12, 1⟩
/-- WL_LANE_STATUS.LOCK [0:0] (15_weneiren.md R589). -/
def R.WL_LANE_STATUS_LOCK (i j : Nat) : Field := ⟨0xe00104 + i * 0x40000 + j * 8, 0, 1⟩
/-- WL_LANE_STATUS.DFE_ACTIVE [1:1] (15_weneiren.md R589). -/
def R.WL_LANE_STATUS_DFE_ACTIVE (i j : Nat) : Field := ⟨0xe00104 + i * 0x40000 + j * 8, 1, 1⟩
/-- WL_LANE_STATUS.LOCK_LOST [2:2] (15_weneiren.md R589). -/
def R.WL_LANE_STATUS_LOCK_LOST (i j : Nat) : Field := ⟨0xe00104 + i * 0x40000 + j * 8, 2, 1⟩
/-- WL_LANE_STATUS.IS_SPARE [3:3] (15_weneiren.md R589). -/
def R.WL_LANE_STATUS_IS_SPARE (i j : Nat) : Field := ⟨0xe00104 + i * 0x40000 + j * 8, 3, 1⟩
/-- WL_LANE_STATUS.LOGICAL [8:4] (15_weneiren.md R589). -/
def R.WL_LANE_STATUS_LOGICAL (i j : Nat) : Field := ⟨0xe00104 + i * 0x40000 + j * 8, 4, 5⟩
/-- WL_LANE_STATUS.INVERTED [9:9] (15_weneiren.md R589). -/
def R.WL_LANE_STATUS_INVERTED (i j : Nat) : Field := ⟨0xe00104 + i * 0x40000 + j * 8, 9, 1⟩
/-- WL_RX_WIN.BASE [31:0] (15_weneiren.md R589). -/
def R.WL_RX_WIN_BASE (i j : Nat) : Field := ⟨0xe00200 + i * 0x40000 + j * 8, 0, 32⟩
/-- WL_RX_WIN.SIZE [63:32] (15_weneiren.md R589). -/
def R.WL_RX_WIN_SIZE (i j : Nat) : Field := ⟨0xe00200 + i * 0x40000 + j * 8, 32, 32⟩
/-- WL_CNT.COUNT [63:0] (15_weneiren.md R589). -/
def R.WL_CNT_COUNT (i j : Nat) : Field := ⟨0xe00400 + i * 0x40000 + j * 8, 0, 64⟩
/-- WL_CREDIT.COUNT [63:0] (15_weneiren.md R589). -/
def R.WL_CREDIT_COUNT (i j l : Nat) : Field := ⟨0xe00500 + i * 0x40000 + j * 0x20 + l * 8, 0, 64⟩
/-- CLB_CTRL (16_redundancy.md R624). -/
def K.CLB_CTRL : Nat := 0xf00000
/-- CLB_CTRL.ENABLE [0:0] (16_redundancy.md R624). -/
def R.CLB_CTRL_ENABLE : Field := ⟨0xf00000, 0, 1⟩
/-- CLB_CTRL.UNIT_ID [3:1] (16_redundancy.md R624). -/
def R.CLB_CTRL_UNIT_ID : Field := ⟨0xf00000, 1, 3⟩
/-- CLB_STATUS.FAULT [0:0] (16_redundancy.md R624). -/
def R.CLB_STATUS_FAULT : Field := ⟨0xf00004, 0, 1⟩
/-- CLB_STATUS.FAULT_KIND [2:1] (16_redundancy.md R624). -/
def R.CLB_STATUS_FAULT_KIND : Field := ⟨0xf00004, 1, 2⟩
/-- CLB_STATUS.FAULT_SEEN [3:3] (16_redundancy.md R624). -/
def R.CLB_STATUS_FAULT_SEEN : Field := ⟨0xf00004, 3, 1⟩
/-- CLB_CNT.COUNT [63:0] (16_redundancy.md R624). -/
def R.CLB_CNT_COUNT (i : Nat) : Field := ⟨0xf00100 + i * 8, 0, 64⟩
/-- CLB_GRP_CFG (16_redundancy.md R624). -/
def K.CLB_GRP_CFG (i : Nat) : Nat := 0xf01000 + i * 0x100
/-- CLB_GRP_CFG.ENABLE [0:0] (16_redundancy.md R624). -/
def R.CLB_GRP_CFG_ENABLE (i : Nat) : Field := ⟨0xf01000 + i * 0x100, 0, 1⟩
/-- CLB_GRP_CFG.ROLE_INIT [1:1] (16_redundancy.md R624). -/
def R.CLB_GRP_CFG_ROLE_INIT (i : Nat) : Field := ⟨0xf01000 + i * 0x100, 1, 1⟩
/-- CLB_GRP_CFG.PRIO [8:2] (16_redundancy.md R624). -/
def R.CLB_GRP_CFG_PRIO (i : Nat) : Field := ⟨0xf01000 + i * 0x100, 2, 7⟩
/-- CLB_GRP_CFG.CHANNEL [17:10] (16_redundancy.md R624). -/
def R.CLB_GRP_CFG_CHANNEL (i : Nat) : Field := ⟨0xf01000 + i * 0x100, 10, 8⟩
/-- CLB_GRP_CFG.LINK [19:18] (16_redundancy.md R624). -/
def R.CLB_GRP_CFG_LINK (i : Nat) : Field := ⟨0xf01000 + i * 0x100, 18, 2⟩
/-- CLB_GRP_CFG.H [23:20] (16_redundancy.md R624). -/
def R.CLB_GRP_CFG_H (i : Nat) : Field := ⟨0xf01000 + i * 0x100, 20, 4⟩
/-- CLB_GRP_CFG.STATE [25:24] (16_redundancy.md R624). -/
def R.CLB_GRP_CFG_STATE (i : Nat) : Field := ⟨0xf01000 + i * 0x100, 24, 2⟩
/-- CLB_GRP_CFG.TMPL_LINKS [34:32] (16_redundancy.md R624). -/
def R.CLB_GRP_CFG_TMPL_LINKS (i : Nat) : Field := ⟨0xf01000 + i * 0x100, 32, 3⟩
/-- CLB_GRP_IMG_PEER.ADDR [63:0] (16_redundancy.md R624). -/
def R.CLB_GRP_IMG_PEER_ADDR (i : Nat) : Field := ⟨0xf01008 + i * 0x100, 0, 64⟩
/-- CLB_GRP_IMG_LOCAL.ADDR [63:0] (16_redundancy.md R624). -/
def R.CLB_GRP_IMG_LOCAL_ADDR (i : Nat) : Field := ⟨0xf01010 + i * 0x100, 0, 64⟩
/-- CLB_GRP_TMPL.ADDR [63:0] (16_redundancy.md R624). -/
def R.CLB_GRP_TMPL_ADDR (i : Nat) : Field := ⟨0xf01018 + i * 0x100, 0, 64⟩
/-- CLB_GRP_CTRL (16_redundancy.md R624). -/
def K.CLB_GRP_CTRL (i : Nat) : Nat := 0xf01020 + i * 0x100
/-- CLB_GRP_STATUS (16_redundancy.md R624). -/
def K.CLB_GRP_STATUS (i : Nat) : Nat := 0xf01024 + i * 0x100
/-- CLB_GRP_STATUS.ROLE [1:0] (16_redundancy.md R624). -/
def R.CLB_GRP_STATUS_ROLE (i : Nat) : Field := ⟨0xf01024 + i * 0x100, 0, 2⟩
/-- CLB_GRP_STATUS.MISSES [5:2] (16_redundancy.md R624). -/
def R.CLB_GRP_STATUS_MISSES (i : Nat) : Field := ⟨0xf01024 + i * 0x100, 2, 4⟩
/-- CLB_GRP_STATUS.YIELDING [6:6] (16_redundancy.md R624). -/
def R.CLB_GRP_STATUS_YIELDING (i : Nat) : Field := ⟨0xf01024 + i * 0x100, 6, 1⟩
/-- CLB_GRP_STATUS.IMG_NONE [7:7] (16_redundancy.md R624). -/
def R.CLB_GRP_STATUS_IMG_NONE (i : Nat) : Field := ⟨0xf01024 + i * 0x100, 7, 1⟩
/-- CLB_GRP_STATUS.PENDING [8:8] (16_redundancy.md R624). -/
def R.CLB_GRP_STATUS_PENDING (i : Nat) : Field := ⟨0xf01024 + i * 0x100, 8, 1⟩
/-- CLB_GRP_WIN.CLAIM [31:0] (16_redundancy.md R624). -/
def R.CLB_GRP_WIN_CLAIM (i : Nat) : Field := ⟨0xf01028 + i * 0x100, 0, 32⟩
/-- CLB_GRP_WIN.UNIT [34:32] (16_redundancy.md R624). -/
def R.CLB_GRP_WIN_UNIT (i : Nat) : Field := ⟨0xf01028 + i * 0x100, 32, 3⟩
/-- CLB_GRP_WIN.VALID [63:63] (16_redundancy.md R624). -/
def R.CLB_GRP_WIN_VALID (i : Nat) : Field := ⟨0xf01028 + i * 0x100, 63, 1⟩
/-- CLB_GRP_IMG_SEQ (16_redundancy.md R624). -/
def K.CLB_GRP_IMG_SEQ (i : Nat) : Nat := 0xf01030 + i * 0x100
/-- CLB_GRP_IMG_SEQ.SEQ [63:0] (16_redundancy.md R624). -/
def R.CLB_GRP_IMG_SEQ_SEQ (i : Nat) : Field := ⟨0xf01030 + i * 0x100, 0, 64⟩
/-- CLB_GRP_CNT.COUNT [63:0] (16_redundancy.md R624). -/
def R.CLB_GRP_CNT_COUNT (i j : Nat) : Field := ⟨0xf01040 + i * 0x100 + j * 8, 0, 64⟩
/-- HLT_CTRL (18_heath_ageing.md R677). -/
def K.HLT_CTRL : Nat := 0xf10000
/-- HLT_CTRL.ENABLE [0:0] (18_heath_ageing.md R677). -/
def R.HLT_CTRL_ENABLE : Field := ⟨0xf10000, 0, 1⟩
/-- HLT_CTRL.VID_EN [1:1] (18_heath_ageing.md R677). -/
def R.HLT_CTRL_VID_EN : Field := ⟨0xf10000, 1, 1⟩
/-- HLT_CTRL.AUTO_EQ [2:2] (18_heath_ageing.md R677). -/
def R.HLT_CTRL_AUTO_EQ : Field := ⟨0xf10000, 2, 1⟩
/-- HLT_CTRL.AUTO_REFRESH [3:3] (18_heath_ageing.md R677). -/
def R.HLT_CTRL_AUTO_REFRESH : Field := ⟨0xf10000, 3, 1⟩
/-- HLT_CTRL.AUTO_CEIL [4:4] (18_heath_ageing.md R677). -/
def R.HLT_CTRL_AUTO_CEIL : Field := ⟨0xf10000, 4, 1⟩
/-- HLT_CTRL.STATE [6:5] (18_heath_ageing.md R677). -/
def R.HLT_CTRL_STATE : Field := ⟨0xf10000, 5, 2⟩
/-- HLT_MARGIN_CFG.TARGET_MV [7:0] (18_heath_ageing.md R677). -/
def R.HLT_MARGIN_CFG_TARGET_MV : Field := ⟨0xf10004, 0, 8⟩
/-- HLT_MARGIN_CFG.HYST_MV [15:8] (18_heath_ageing.md R677). -/
def R.HLT_MARGIN_CFG_HYST_MV : Field := ⟨0xf10004, 8, 8⟩
/-- HLT_STATUS.MARGIN_MV [15:0] (18_heath_ageing.md R677). -/
def R.HLT_STATUS_MARGIN_MV : Field := ⟨0xf10008, 0, 16⟩
/-- HLT_STATUS.VID [21:16] (18_heath_ageing.md R677). -/
def R.HLT_STATUS_VID : Field := ⟨0xf10008, 16, 6⟩
/-- HLT_SERVICE.MONTHS [15:0] (18_heath_ageing.md R677). -/
def R.HLT_SERVICE_MONTHS : Field := ⟨0xf1000c, 0, 16⟩
/-- HLT_VMIN (18_heath_ageing.md R677). -/
def K.HLT_VMIN : Nat := 0xf10010
/-- HLT_PDM.SLACK [15:0] (18_heath_ageing.md R677). -/
def R.HLT_PDM_SLACK (i : Nat) : Field := ⟨0xf11000 + i * 4, 0, 16⟩
/-- HLT_EYE.MV [7:0] (18_heath_ageing.md R677). -/
def R.HLT_EYE_MV (i : Nat) : Field := ⟨0xf12000 + i * 4, 0, 8⟩
/-- SEC_STATUS.SOURCE [1:0] (21_startup.md R728). -/
def R.SEC_STATUS_SOURCE : Field := ⟨0xf20000, 0, 2⟩
/-- SEC_STATUS.KEY [3:2] (21_startup.md R728). -/
def R.SEC_STATUS_KEY : Field := ⟨0xf20000, 2, 2⟩
/-- SEC_STATUS.ERR [4:4] (21_startup.md R728). -/
def R.SEC_STATUS_ERR : Field := ⟨0xf20000, 4, 1⟩
/-- SEC_STATUS.DEBUG [5:5] (21_startup.md R728). -/
def R.SEC_STATUS_DEBUG : Field := ⟨0xf20000, 5, 1⟩
/-- SEC_STATUS.RUN_SVN [21:6] (21_startup.md R728). -/
def R.SEC_STATUS_RUN_SVN : Field := ⟨0xf20000, 6, 16⟩
/-- SEC_STATUS.BURNING [22:22] (21_startup.md R728). -/
def R.SEC_STATUS_BURNING : Field := ⟨0xf20000, 22, 1⟩
/-- SEC_POLICY (21_startup.md R728). -/
def K.SEC_POLICY : Nat := 0xf20004
/-- SEC_POLICY.RECIPE_SIGNED [0:0] (21_startup.md R728). -/
def R.SEC_POLICY_RECIPE_SIGNED : Field := ⟨0xf20004, 0, 1⟩
/-- SEC_POLICY.SVN_BURN [1:1] (21_startup.md R728). -/
def R.SEC_POLICY_SVN_BURN : Field := ⟨0xf20004, 1, 1⟩
/-- SEC_POLICY.LOCK [2:2] (21_startup.md R728). -/
def R.SEC_POLICY_LOCK : Field := ⟨0xf20004, 2, 1⟩
/-- SEC_RECOVERY (21_startup.md R728). -/
def K.SEC_RECOVERY : Nat := 0xf20008
/-- SEC_RECOVERY.LENGTH [22:0] (21_startup.md R728). -/
def R.SEC_RECOVERY_LENGTH : Field := ⟨0xf20008, 0, 23⟩
/-- SEC_RECOVERY.GO [31:31] (21_startup.md R728). -/
def R.SEC_RECOVERY_GO : Field := ⟨0xf20008, 31, 1⟩
/-- SEC_DEBUG (21_startup.md R728). -/
def K.SEC_DEBUG (i : Nat) : Nat := 0xf2000c + i * 4
/-- SEC_DEBUG.WORD [31:0] (21_startup.md R728). -/
def R.SEC_DEBUG_WORD (i : Nat) : Field := ⟨0xf2000c + i * 4, 0, 32⟩
/-- SEC_FUSE (21_startup.md R728). -/
def K.SEC_FUSE : Nat := 0xf20050
/-- SEC_RCP_KEY_CFG (21_startup.md R728). -/
def K.SEC_RCP_KEY_CFG (i : Nat) : Nat := 0xf21000 + i * 0x80
/-- SEC_RCP_KEY_CFG.VALID [0:0] (21_startup.md R728). -/
def R.SEC_RCP_KEY_CFG_VALID (i : Nat) : Field := ⟨0xf21000 + i * 0x80, 0, 1⟩
/-- SEC_RCP_KEY.WORD [31:0] (21_startup.md R728). -/
def R.SEC_RCP_KEY_WORD (i j : Nat) : Field := ⟨0xf21004 + i * 0x80 + j * 4, 0, 32⟩
/-- CONS_CTRL (20_conservation.md R706). -/
def K.CONS_CTRL : Nat := 0xf30000
/-- CONS_CTRL.ENABLE [0:0] (20_conservation.md R706). -/
def R.CONS_CTRL_ENABLE : Field := ⟨0xf30000, 0, 1⟩
/-- CONS_CTRL.AUTO_S [31:16] (20_conservation.md R706). -/
def R.CONS_CTRL_AUTO_S : Field := ⟨0xf30000, 16, 16⟩
/-- CONS_SNAP_CTRL (20_conservation.md R706). -/
def K.CONS_SNAP_CTRL : Nat := 0xf30008
/-- CONS_SNAP_CTRL.SCOPE [7:0] (20_conservation.md R706). -/
def R.CONS_SNAP_CTRL_SCOPE : Field := ⟨0xf30008, 0, 8⟩
/-- CONS_SNAP_CTRL.GO [31:31] (20_conservation.md R706). -/
def R.CONS_SNAP_CTRL_GO : Field := ⟨0xf30008, 31, 1⟩
/-- CONS_SNAP_STATUS.BUSY [0:0] (20_conservation.md R706). -/
def R.CONS_SNAP_STATUS_BUSY : Field := ⟨0xf3000c, 0, 1⟩
/-- CONS_SNAP_STATUS.STATE [2:1] (20_conservation.md R706). -/
def R.CONS_SNAP_STATUS_STATE : Field := ⟨0xf3000c, 1, 2⟩
/-- CONS_SNAP_STATUS.RESULT [10:3] (20_conservation.md R706). -/
def R.CONS_SNAP_STATUS_RESULT : Field := ⟨0xf3000c, 3, 8⟩
/-- CONS_SNAP_ADDR.ADDR [63:12] (20_conservation.md R706). -/
def R.CONS_SNAP_ADDR_ADDR : Field := ⟨0xf30010, 12, 52⟩
/-- CONS_SNAP_SIZE.BYTES [31:0] (20_conservation.md R706). -/
def R.CONS_SNAP_SIZE_BYTES : Field := ⟨0xf30018, 0, 32⟩
/-- CONS_SNAP_LEN (20_conservation.md R706). -/
def K.CONS_SNAP_LEN : Nat := 0xf3001c
/-- CONS_SNAP_SEQ.SEQ [63:0] (20_conservation.md R706). -/
def R.CONS_SNAP_SEQ_SEQ : Field := ⟨0xf30020, 0, 64⟩
/-- CONS_CNT_AUTO_DELAYED.COUNT [63:0] (20_conservation.md R706). -/
def R.CONS_CNT_AUTO_DELAYED_COUNT : Field := ⟨0xf30028, 0, 64⟩
/-- CONS_KEPT_HDR.WORD [63:0] (20_conservation.md R706). -/
def R.CONS_KEPT_HDR_WORD (i : Nat) : Field := ⟨0xf30040 + i * 8, 0, 64⟩
/-- CONS_ENG (20_conservation.md R706). -/
def K.CONS_ENG (i j : Nat) : Nat := 0xf31000 + i * 0x20 + j * 8
/-- CONS_ENG.NS [63:0] (20_conservation.md R706). -/
def R.CONS_ENG_NS (i j : Nat) : Field := ⟨0xf31000 + i * 0x20 + j * 8, 0, 64⟩
/-- CONS_CH (20_conservation.md R706). -/
def K.CONS_CH (i j : Nat) : Nat := 0xf32000 + i * 0x20 + j * 8
/-- CONS_CH.COUNT [63:0] (20_conservation.md R706). -/
def R.CONS_CH_COUNT (i j : Nat) : Field := ⟨0xf32000 + i * 0x20 + j * 8, 0, 64⟩
/-- CONS_SB (20_conservation.md R706). -/
def K.CONS_SB (i j : Nat) : Nat := 0xf34000 + i * 0x10 + j * 8
/-- CTX_COMMIT_SEQ.SEQ [63:0] (02_layout_table.md R68). -/
def R.CTX_COMMIT_SEQ_SEQ (i : Nat) : Field := ⟨0x1000000 + i * 0x30000, 0, 64⟩
/-- CTX_LANDED_HOST.SNAP [63:0] (02_layout_table.md R68). -/
def R.CTX_LANDED_HOST_SNAP (i : Nat) : Field := ⟨0x1000008 + i * 0x30000, 0, 64⟩
/-- CTX_LANDED_SEQ.SNAP [63:0] (02_layout_table.md R68). -/
def R.CTX_LANDED_SEQ_SNAP (i : Nat) : Field := ⟨0x1000010 + i * 0x30000, 0, 64⟩
/-- CTX_LANDED_MPC.SNAP [63:0] (02_layout_table.md R68). -/
def R.CTX_LANDED_MPC_SNAP (i : Nat) : Field := ⟨0x1000018 + i * 0x30000, 0, 64⟩
/-- CTX_SHADOW_CTRL (02_layout_table.md R68). -/
def K.CTX_SHADOW_CTRL (i : Nat) : Nat := 0x1000020 + i * 0x30000
/-- CTX_SHADOW_CTRL.HOLD [0:0] (02_layout_table.md R68). -/
def R.CTX_SHADOW_CTRL_HOLD (i : Nat) : Field := ⟨0x1000020 + i * 0x30000, 0, 1⟩
/-- CTX_SHADOW_CTRL.PENDING [1:1] (02_layout_table.md R68). -/
def R.CTX_SHADOW_CTRL_PENDING (i : Nat) : Field := ⟨0x1000020 + i * 0x30000, 1, 1⟩
/-- CTX_HANDOVER_TIME.TIME [63:0] (02_layout_table.md R68). -/
def R.CTX_HANDOVER_TIME_TIME (i : Nat) : Field := ⟨0x1000028 + i * 0x30000, 0, 64⟩
/-- CTX_BIND.THREAD [7:0] (03_morop.md R97). -/
def R.CTX_BIND_THREAD (i : Nat) : Field := ⟨0x1000100 + i * 0x30000, 0, 8⟩
/-- CTX_BIND.VALID [8:8] (03_morop.md R97). -/
def R.CTX_BIND_VALID (i : Nat) : Field := ⟨0x1000100 + i * 0x30000, 8, 1⟩
/-- CTX_DOORBELL (03_morop.md R97). -/
def K.CTX_DOORBELL (i : Nat) : Nat := 0x1000108 + i * 0x30000
/-- CTX_RECIPE_STATUS (03_morop.md R97). -/
def K.CTX_RECIPE_STATUS (i : Nat) : Nat := 0x1000110 + i * 0x30000
/-- CTX_RECIPE_STATUS.TRAP_COUNT [31:16] (03_morop.md R97). -/
def R.CTX_RECIPE_STATUS_TRAP_COUNT (i : Nat) : Field := ⟨0x1000110 + i * 0x30000, 16, 16⟩
/-- CTX_GOP (07_codec_engines.md R294). -/
def K.CTX_GOP (i : Nat) : Nat := 0x1001000 + i * 0x30000
/-- CTX_GOP.GOP_LEN [4:0] (07_codec_engines.md R294). -/
def R.CTX_GOP_GOP_LEN (i : Nat) : Field := ⟨0x1001000 + i * 0x30000, 0, 5⟩
/-- CTX_GOP.SC_IRAP [5:5] (07_codec_engines.md R294). -/
def R.CTX_GOP_SC_IRAP (i : Nat) : Field := ⟨0x1001000 + i * 0x30000, 5, 1⟩
/-- CTX_GOP.OPEN_GOP [6:6] (07_codec_engines.md R294). -/
def R.CTX_GOP_OPEN_GOP (i : Nat) : Field := ⟨0x1001000 + i * 0x30000, 6, 1⟩
/-- CTX_GOP.REFS2 [7:7] (07_codec_engines.md R294). -/
def R.CTX_GOP_REFS2 (i : Nat) : Field := ⟨0x1001000 + i * 0x30000, 7, 1⟩
/-- CTX_GOP.LTR_MARK [8:8] (07_codec_engines.md R294). -/
def R.CTX_GOP_LTR_MARK (i : Nat) : Field := ⟨0x1001000 + i * 0x30000, 8, 1⟩
/-- CTX_GOP.LTR_USE [9:9] (07_codec_engines.md R294). -/
def R.CTX_GOP_LTR_USE (i : Nat) : Field := ⟨0x1001000 + i * 0x30000, 9, 1⟩
/-- CTX_GOP.IRAP_PERIOD [31:16] (07_codec_engines.md R294). -/
def R.CTX_GOP_IRAP_PERIOD (i : Nat) : Field := ⟨0x1001000 + i * 0x30000, 16, 16⟩
/-- CTX_REFRESH (07_codec_engines.md R294). -/
def K.CTX_REFRESH (i : Nat) : Nat := 0x1001008 + i * 0x30000
/-- CTX_REFRESH.PERIOD [7:0] (07_codec_engines.md R294). -/
def R.CTX_REFRESH_PERIOD (i : Nat) : Field := ⟨0x1001008 + i * 0x30000, 0, 8⟩
/-- CTX_SPLICE.FORCE_IRAP [0:0] (07_codec_engines.md R294). -/
def R.CTX_SPLICE_FORCE_IRAP (i : Nat) : Field := ⟨0x1001010 + i * 0x30000, 0, 1⟩
/-- CTX_QUALITY (07_codec_engines.md R294). -/
def K.CTX_QUALITY (i : Nat) : Nat := 0x1001018 + i * 0x30000
/-- CTX_QUALITY.PROOF_PERMILLE [9:0] (07_codec_engines.md R294). -/
def R.CTX_QUALITY_PROOF_PERMILLE (i : Nat) : Field := ⟨0x1001018 + i * 0x30000, 0, 10⟩
/-- CTX_QUALITY.PROOF_AGE [20:16] (07_codec_engines.md R294). -/
def R.CTX_QUALITY_PROOF_AGE (i : Nat) : Field := ⟨0x1001018 + i * 0x30000, 16, 5⟩
/-- CTX_QUALITY.TASTE_SLICE [24:24] (07_codec_engines.md R294). -/
def R.CTX_QUALITY_TASTE_SLICE (i : Nat) : Field := ⟨0x1001018 + i * 0x30000, 24, 1⟩
/-- CTX_COLOUR (07_codec_engines.md R294). -/
def K.CTX_COLOUR (i : Nat) : Nat := 0x1001020 + i * 0x30000
/-- CTX_COLOUR.MDCV_EN [28:28] (07_codec_engines.md R294). -/
def R.CTX_COLOUR_MDCV_EN (i : Nat) : Field := ⟨0x1001020 + i * 0x30000, 28, 1⟩
/-- CTX_COLOUR.CLL_EN [29:29] (07_codec_engines.md R294). -/
def R.CTX_COLOUR_CLL_EN (i : Nat) : Field := ⟨0x1001020 + i * 0x30000, 29, 1⟩
/-- CTX_MDCV (07_codec_engines.md R294). -/
def K.CTX_MDCV (i j : Nat) : Nat := 0x1001028 + i * 0x30000 + j * 4
/-- CTX_CLL (07_codec_engines.md R294). -/
def K.CTX_CLL (i : Nat) : Nat := 0x1001040 + i * 0x30000
/-- CTX_REND_CODEC (07_codec_engines.md R295). -/
def K.CTX_REND_CODEC (i j : Nat) : Nat := 0x1001100 + i * 0x30000 + j * 0x40
/-- CTX_REND_CODEC.ENABLE [0:0] (07_codec_engines.md R295). -/
def R.CTX_REND_CODEC_ENABLE (i j : Nat) : Field := ⟨0x1001100 + i * 0x30000 + j * 0x40, 0, 1⟩
/-- CTX_REND_CODEC.CODEC [1:1] (07_codec_engines.md R295). -/
def R.CTX_REND_CODEC_CODEC (i j : Nat) : Field := ⟨0x1001100 + i * 0x30000 + j * 0x40, 1, 1⟩
/-- CTX_REND_CODEC.PROFILE [4:2] (07_codec_engines.md R295). -/
def R.CTX_REND_CODEC_PROFILE (i j : Nat) : Field := ⟨0x1001100 + i * 0x30000 + j * 0x40, 2, 3⟩
/-- CTX_REND_CODEC.TIER [5:5] (07_codec_engines.md R295). -/
def R.CTX_REND_CODEC_TIER (i j : Nat) : Field := ⟨0x1001100 + i * 0x30000 + j * 0x40, 5, 1⟩
/-- CTX_REND_CODEC.LEVEL [13:6] (07_codec_engines.md R295). -/
def R.CTX_REND_CODEC_LEVEL (i j : Nat) : Field := ⟨0x1001100 + i * 0x30000 + j * 0x40, 6, 8⟩
/-- CTX_REND_CODEC.CTU [15:14] (07_codec_engines.md R295). -/
def R.CTX_REND_CODEC_CTU (i j : Nat) : Field := ⟨0x1001100 + i * 0x30000 + j * 0x40, 14, 2⟩
/-- CTX_REND_CODEC.BAND_ROWS [23:16] (07_codec_engines.md R295). -/
def R.CTX_REND_CODEC_BAND_ROWS (i j : Nat) : Field := ⟨0x1001100 + i * 0x30000 + j * 0x40, 16, 8⟩
/-- CTX_REND_CODEC.FROM_SCALER [24:24] (07_codec_engines.md R295). -/
def R.CTX_REND_CODEC_FROM_SCALER (i j : Nat) : Field := ⟨0x1001100 + i * 0x30000 + j * 0x40, 24, 1⟩
/-- CTX_REND_CODEC.SAO [25:25] (07_codec_engines.md R295). -/
def R.CTX_REND_CODEC_SAO (i j : Nat) : Field := ⟨0x1001100 + i * 0x30000 + j * 0x40, 25, 1⟩
/-- CTX_REND_CODEC.ALF [26:26] (07_codec_engines.md R295). -/
def R.CTX_REND_CODEC_ALF (i j : Nat) : Field := ⟨0x1001100 + i * 0x30000 + j * 0x40, 26, 1⟩
/-- CTX_REND_CODEC.LMCS [27:27] (07_codec_engines.md R295). -/
def R.CTX_REND_CODEC_LMCS (i j : Nat) : Field := ⟨0x1001100 + i * 0x30000 + j * 0x40, 27, 1⟩
/-- CTX_REND_CODEC.AMP [28:28] (07_codec_engines.md R295). -/
def R.CTX_REND_CODEC_AMP (i j : Nat) : Field := ⟨0x1001100 + i * 0x30000 + j * 0x40, 28, 1⟩
/-- CTX_REND_CODEC.TMVP [29:29] (07_codec_engines.md R295). -/
def R.CTX_REND_CODEC_TMVP (i j : Nat) : Field := ⟨0x1001100 + i * 0x30000 + j * 0x40, 29, 1⟩
/-- CTX_REND_CODEC.WHOLE [30:30] (07_codec_engines.md R295). -/
def R.CTX_REND_CODEC_WHOLE (i j : Nat) : Field := ⟨0x1001100 + i * 0x30000 + j * 0x40, 30, 1⟩
/-- CTX_REND_TILES (07_codec_engines.md R295). -/
def K.CTX_REND_TILES (i j : Nat) : Nat := 0x1001108 + i * 0x30000 + j * 0x40
/-- CTX_REND_TILES.COLUMNS [4:0] (07_codec_engines.md R295). -/
def R.CTX_REND_TILES_COLUMNS (i j : Nat) : Field := ⟨0x1001108 + i * 0x30000 + j * 0x40, 0, 5⟩
/-- CTX_REND_TILES.UNIFORM [5:5] (07_codec_engines.md R295). -/
def R.CTX_REND_TILES_UNIFORM (i j : Nat) : Field := ⟨0x1001108 + i * 0x30000 + j * 0x40, 5, 1⟩
/-- CTX_REND_COLW.WIDTHS [63:0] (07_codec_engines.md R294). -/
def R.CTX_REND_COLW_WIDTHS (i j l : Nat) : Field := ⟨0x1001110 + i * 0x30000 + j * 0x40 + l * 8, 0, 64⟩
/-- CTX_REND_REF_BASE.BASE [63:12] (07_codec_engines.md R294). -/
def R.CTX_REND_REF_BASE_BASE (i j : Nat) : Field := ⟨0x1001120 + i * 0x30000 + j * 0x40, 12, 52⟩
/-- CTX_REND_REF.SLOTS [4:0] (07_codec_engines.md R295). -/
def R.CTX_REND_REF_SLOTS (i j : Nat) : Field := ⟨0x1001128 + i * 0x30000 + j * 0x40, 0, 5⟩
/-- CTX_REND_REF.SLOT_UNITS [25:8] (07_codec_engines.md R295). -/
def R.CTX_REND_REF_SLOT_UNITS (i j : Nat) : Field := ⟨0x1001128 + i * 0x30000 + j * 0x40, 8, 18⟩
/-- DEC_CFG.ENABLE [0:0] (09_decode.md R413). -/
def R.DEC_CFG_ENABLE (i : Nat) : Field := ⟨0x1001400 + i * 0x30000, 0, 1⟩
/-- DEC_CFG.CODEC [1:1] (09_decode.md R413). -/
def R.DEC_CFG_CODEC (i : Nat) : Field := ⟨0x1001400 + i * 0x30000, 1, 1⟩
/-- DEC_CFG.TRANSPORT [2:2] (09_decode.md R413). -/
def R.DEC_CFG_TRANSPORT (i : Nat) : Field := ⟨0x1001400 + i * 0x30000, 2, 1⟩
/-- DEC_CFG.TIMING [3:3] (09_decode.md R413). -/
def R.DEC_CFG_TIMING (i : Nat) : Field := ⟨0x1001400 + i * 0x30000, 3, 1⟩
/-- DEC_RING_BASE.BASE [63:12] (09_decode.md R413). -/
def R.DEC_RING_BASE_BASE (i : Nat) : Field := ⟨0x1001408 + i * 0x30000, 12, 52⟩
/-- DEC_RING_SIZE.UNITS [17:0] (09_decode.md R413). -/
def R.DEC_RING_SIZE_UNITS (i : Nat) : Field := ⟨0x1001410 + i * 0x30000, 0, 18⟩
/-- DEC_TS.VIDEO_PID [12:0] (09_decode.md R413). -/
def R.DEC_TS_VIDEO_PID (i : Nat) : Field := ⟨0x1001414 + i * 0x30000, 0, 13⟩
/-- DEC_TS.AUDIO_PID [28:16] (09_decode.md R413). -/
def R.DEC_TS_AUDIO_PID (i : Nat) : Field := ⟨0x1001414 + i * 0x30000, 16, 13⟩
/-- DEC_TS.AUDIO_EN [29:29] (09_decode.md R413). -/
def R.DEC_TS_AUDIO_EN (i : Nat) : Field := ⟨0x1001414 + i * 0x30000, 29, 1⟩
/-- DEC_AU.TIMEOUT_US [15:0] (09_decode.md R413). -/
def R.DEC_AU_TIMEOUT_US (i : Nat) : Field := ⟨0x1001418 + i * 0x30000, 0, 16⟩
/-- DEC_GRID_BASE.NS [63:0] (09_decode.md R413). -/
def R.DEC_GRID_BASE_NS (i : Nat) : Field := ⟨0x1001420 + i * 0x30000, 0, 64⟩
/-- DEC_OUT_BASE.BASE [63:12] (09_decode.md R413). -/
def R.DEC_OUT_BASE_BASE (i : Nat) : Field := ⟨0x1001428 + i * 0x30000, 12, 52⟩
/-- DEC_OUT_BUF (09_decode.md R413). -/
def K.DEC_OUT_BUF (i : Nat) : Nat := 0x1001430 + i * 0x30000
/-- DEC_OUT_BUF.SIZE [17:0] (09_decode.md R413). -/
def R.DEC_OUT_BUF_SIZE (i : Nat) : Field := ⟨0x1001430 + i * 0x30000, 0, 18⟩
/-- DEC_OUT_BUF.COUNT [23:18] (09_decode.md R413). -/
def R.DEC_OUT_BUF_COUNT (i : Nat) : Field := ⟨0x1001430 + i * 0x30000, 18, 6⟩
/-- DEC_OUT_BUF.STATE [30:29] (09_decode.md R413). -/
def R.DEC_OUT_BUF_STATE (i : Nat) : Field := ⟨0x1001430 + i * 0x30000, 29, 2⟩
/-- DEC_OUT_BUF.ENABLE [31:31] (09_decode.md R413). -/
def R.DEC_OUT_BUF_ENABLE (i : Nat) : Field := ⟨0x1001430 + i * 0x30000, 31, 1⟩
/-- DEC_OUT_CTRL.TO_EGRESS [0:0] (09_decode.md R413). -/
def R.DEC_OUT_CTRL_TO_EGRESS (i : Nat) : Field := ⟨0x1001434 + i * 0x30000, 0, 1⟩
/-- DEC_OUT_CTRL.TO_HOST [1:1] (09_decode.md R413). -/
def R.DEC_OUT_CTRL_TO_HOST (i : Nat) : Field := ⟨0x1001434 + i * 0x30000, 1, 1⟩
/-- DEC_OUT_CTRL.TO_TRANSCODE [2:2] (09_decode.md R413). -/
def R.DEC_OUT_CTRL_TO_TRANSCODE (i : Nat) : Field := ⟨0x1001434 + i * 0x30000, 2, 1⟩
/-- DEC_HOST_ACK (09_decode.md R413). -/
def K.DEC_HOST_ACK (i : Nat) : Nat := 0x1001438 + i * 0x30000
/-- DEC_OUT_FLOW.FLOW [13:0] (09_decode.md R413). -/
def R.DEC_OUT_FLOW_FLOW (i : Nat) : Field := ⟨0x100143c + i * 0x30000, 0, 14⟩
/-- CTX_DEC_SRC.SOURCE [7:0] (09_decode.md R413). -/
def R.CTX_DEC_SRC_SOURCE (i : Nat) : Field := ⟨0x1001440 + i * 0x30000, 0, 8⟩
/-- CTX_DEC_SRC.ENABLE [8:8] (09_decode.md R413). -/
def R.CTX_DEC_SRC_ENABLE (i : Nat) : Field := ⟨0x1001440 + i * 0x30000, 8, 1⟩
/-- RC_CH_PERIOD (08_rate_and_delay.md R386). -/
def K.RC_CH_PERIOD (i : Nat) : Nat := 0x1001800 + i * 0x30000
/-- RC_CH_TIMING.TOTAL_LINES [12:0] (08_rate_and_delay.md R386). -/
def R.RC_CH_TIMING_TOTAL_LINES (i : Nat) : Field := ⟨0x1001808 + i * 0x30000, 0, 13⟩
/-- RC_CH_DELAY (08_rate_and_delay.md R386). -/
def K.RC_CH_DELAY (i : Nat) : Nat := 0x100180c + i * 0x30000
/-- RC_CH_DELAY.D [24:0] (08_rate_and_delay.md R386). -/
def R.RC_CH_DELAY_D (i : Nat) : Field := ⟨0x100180c + i * 0x30000, 0, 25⟩
/-- RC_CH_FRAME.TAIL_US [15:0] (08_rate_and_delay.md R386). -/
def R.RC_CH_FRAME_TAIL_US (i : Nat) : Field := ⟨0x1001810 + i * 0x30000, 0, 16⟩
/-- RC_CH_FRAME.CODE_US [47:24] (08_rate_and_delay.md R386). -/
def R.RC_CH_FRAME_CODE_US (i : Nat) : Field := ⟨0x1001810 + i * 0x30000, 24, 24⟩
/-- RC_CH_SLOT.T_SLOT_NS [23:0] (08_rate_and_delay.md R386). -/
def R.RC_CH_SLOT_T_SLOT_NS (i : Nat) : Field := ⟨0x1001818 + i * 0x30000, 0, 24⟩
/-- RC_CH_SLOT.DMIN [56:32] (08_rate_and_delay.md R386). -/
def R.RC_CH_SLOT_DMIN (i : Nat) : Field := ⟨0x1001818 + i * 0x30000, 32, 25⟩
/-- RC_REND_RATE (08_rate_and_delay.md R387). -/
def K.RC_REND_RATE (i j : Nat) : Nat := 0x1002000 + i * 0x30000 + j * 0x400
/-- RC_REND_RATE.RATE_KBPS [31:0] (08_rate_and_delay.md R387). -/
def R.RC_REND_RATE_RATE_KBPS (i j : Nat) : Field := ⟨0x1002000 + i * 0x30000 + j * 0x400, 0, 32⟩
/-- RC_REND_RATE.VBR [32:32] (08_rate_and_delay.md R387). -/
def R.RC_REND_RATE_VBR (i j : Nat) : Field := ⟨0x1002000 + i * 0x30000 + j * 0x400, 32, 1⟩
/-- RC_REND_CPB (08_rate_and_delay.md R387). -/
def K.RC_REND_CPB (i j : Nat) : Nat := 0x1002008 + i * 0x30000 + j * 0x400
/-- RC_REND_CPB.SIZE [31:0] (08_rate_and_delay.md R387). -/
def R.RC_REND_CPB_SIZE (i j : Nat) : Field := ⟨0x1002008 + i * 0x30000 + j * 0x400, 0, 32⟩
/-- RC_REND_CPB.INIT [63:32] (08_rate_and_delay.md R387). -/
def R.RC_REND_CPB_INIT (i j : Nat) : Field := ⟨0x1002008 + i * 0x30000 + j * 0x400, 32, 32⟩
/-- RC_REND_MARK.LOW_MARK [31:0] (08_rate_and_delay.md R387). -/
def R.RC_REND_MARK_LOW_MARK (i j : Nat) : Field := ⟨0x1002010 + i * 0x30000 + j * 0x400, 0, 32⟩
/-- RC_REND_QP (08_rate_and_delay.md R387). -/
def K.RC_REND_QP (i j : Nat) : Nat := 0x1002014 + i * 0x30000 + j * 0x400
/-- RC_REND_QP.QP_MIN [5:0] (08_rate_and_delay.md R387). -/
def R.RC_REND_QP_QP_MIN (i j : Nat) : Field := ⟨0x1002014 + i * 0x30000 + j * 0x400, 0, 6⟩
/-- RC_REND_QP.QP_MAX [13:8] (08_rate_and_delay.md R387). -/
def R.RC_REND_QP_QP_MAX (i j : Nat) : Field := ⟨0x1002014 + i * 0x30000 + j * 0x400, 8, 6⟩
/-- RC_REND_QP.QP_INIT [21:16] (08_rate_and_delay.md R387). -/
def R.RC_REND_QP_QP_INIT (i j : Nat) : Field := ⟨0x1002014 + i * 0x30000 + j * 0x400, 16, 6⟩
/-- RC_REND_QP.SC_OFFSET [27:24] (08_rate_and_delay.md R387). -/
def R.RC_REND_QP_SC_OFFSET (i j : Nat) : Field := ⟨0x1002014 + i * 0x30000 + j * 0x400, 24, 4⟩
/-- RC_REND_RESERVE (08_rate_and_delay.md R387). -/
def K.RC_REND_RESERVE (i j : Nat) : Nat := 0x1002018 + i * 0x30000 + j * 0x400
/-- RC_REND_RESERVE.INTER [7:0] (08_rate_and_delay.md R387). -/
def R.RC_REND_RESERVE_INTER (i j : Nat) : Field := ⟨0x1002018 + i * 0x30000 + j * 0x400, 0, 8⟩
/-- RC_REND_RESERVE.INTRA [15:8] (08_rate_and_delay.md R387). -/
def R.RC_REND_RESERVE_INTRA (i j : Nat) : Field := ⟨0x1002018 + i * 0x30000 + j * 0x400, 8, 8⟩
/-- RC_REND_QUAL.FLOOR [15:0] (08_rate_and_delay.md R387). -/
def R.RC_REND_QUAL_FLOOR (i j : Nat) : Field := ⟨0x100201c + i * 0x30000 + j * 0x400, 0, 16⟩
/-- RC_REND_QUAL.CEIL [31:16] (08_rate_and_delay.md R387). -/
def R.RC_REND_QUAL_CEIL (i j : Nat) : Field := ⟨0x100201c + i * 0x30000 + j * 0x400, 16, 16⟩
/-- RC_REND_WIN.WIN_MAX [31:0] (08_rate_and_delay.md R387). -/
def R.RC_REND_WIN_WIN_MAX (i j : Nat) : Field := ⟨0x1002020 + i * 0x30000 + j * 0x400, 0, 32⟩
/-- PRF_SLICE as one field (06_proofing.md R258). -/
def R.PRF_SLICE (i : Nat) : Field := ⟨0x1004000 + i * 0x30000, 0, 64⟩
/-- PRF_SLICE_CPLX.CPLX [63:0] (06_proofing.md R258). -/
def R.PRF_SLICE_CPLX_CPLX (i : Nat) : Field := ⟨0x1004008 + i * 0x30000, 0, 64⟩
/-- PRF_SLICE_SNAP.SNAP [63:0] (06_proofing.md R258). -/
def R.PRF_SLICE_SNAP_SNAP (i : Nat) : Field := ⟨0x1004010 + i * 0x30000, 0, 64⟩
/-- PRF_COL_CPLX.CPLX [63:0] (06_proofing.md R258). -/
def R.PRF_COL_CPLX_CPLX (i j : Nat) : Field := ⟨0x1004040 + i * 0x30000 + j * 8, 0, 64⟩
/-- PRF_PIC_RING.WORD [63:0] (06_proofing.md R263). -/
def R.PRF_PIC_RING_WORD (i j l : Nat) : Field := ⟨0x1005000 + i * 0x30000 + j * 0x40 + l * 8, 0, 64⟩
/-- TASTE_RING.WORD [63:0] (07_codec_engines.md R338). -/
def R.TASTE_RING_WORD (i j l : Nat) : Field := ⟨0x1006000 + i * 0x30000 + j * 0x40 + l * 8, 0, 64⟩
/-- TASTE_SUMMARY.WORD [63:0] (07_codec_engines.md R338). -/
def R.TASTE_SUMMARY_WORD (i j l : Nat) : Field := ⟨0x1006800 + i * 0x30000 + j * 0x40 + l * 8, 0, 64⟩
/-- SPL_SNAP.SNAP [63:0] (07_codec_engines.md R331). -/
def R.SPL_SNAP_SNAP (i : Nat) : Field := ⟨0x1006a00 + i * 0x30000, 0, 64⟩
/-- SPL_STATE.PENDING [2:0] (07_codec_engines.md R331). -/
def R.SPL_STATE_PENDING (i : Nat) : Field := ⟨0x1006a08 + i * 0x30000, 0, 3⟩
/-- SPL_STATE.LAST_MISSED [3:3] (07_codec_engines.md R331). -/
def R.SPL_STATE_LAST_MISSED (i : Nat) : Field := ⟨0x1006a08 + i * 0x30000, 3, 1⟩
/-- SPL_DONE_SNAP.SNAP [63:0] (07_codec_engines.md R331). -/
def R.SPL_DONE_SNAP_SNAP (i : Nat) : Field := ⟨0x1006a10 + i * 0x30000, 0, 64⟩
/-- ENC_CNT.COUNT [63:0] (07_codec_engines.md R331). -/
def R.ENC_CNT_COUNT (i j : Nat) : Field := ⟨0x1006a80 + i * 0x30000 + j * 8, 0, 64⟩
/-- REF_SLOT as one field (07_codec_engines.md R316). -/
def R.REF_SLOT (i j l : Nat) : Field := ⟨0x1006c00 + i * 0x30000 + j * 0x80 + l * 8, 0, 64⟩
/-- RC_ST.COUNT [63:0] (08_rate_and_delay.md R384). -/
def R.RC_ST_COUNT (i j l : Nat) : Field := ⟨0x1007000 + i * 0x30000 + j * 0x80 + l * 8, 0, 64⟩
/-- DEC_ST_ERR.DETAIL [7:0] (09_decode.md R414). -/
def R.DEC_ST_ERR_DETAIL (i : Nat) : Field := ⟨0x1007800 + i * 0x30000, 0, 8⟩
/-- DEC_ST_ERR.FAULTS [31:16] (09_decode.md R414). -/
def R.DEC_ST_ERR_FAULTS (i : Nat) : Field := ⟨0x1007800 + i * 0x30000, 16, 16⟩
/-- DEC_ST_ERR_SNAP.SNAP [63:0] (09_decode.md R414). -/
def R.DEC_ST_ERR_SNAP_SNAP (i : Nat) : Field := ⟨0x1007808 + i * 0x30000, 0, 64⟩
/-- DEC_CNT.COUNT [63:0] (09_decode.md R414). -/
def R.DEC_CNT_COUNT (i j : Nat) : Field := ⟨0x1007810 + i * 0x30000 + j * 8, 0, 64⟩
/-- DEC_HOST_REC.WORD [63:0] (09_decode.md R409). -/
def R.DEC_HOST_REC_WORD (i j l : Nat) : Field := ⟨0x1007880 + i * 0x30000 + j * 0x10 + l * 8, 0, 64⟩
/-- DEC_CNT2.COUNT [63:0] (09_decode.md R414). -/
def R.DEC_CNT2_COUNT (i j : Nat) : Field := ⟨0x1007c80 + i * 0x30000 + j * 8, 0, 64⟩
/-- RC_HISTORY.WORD [63:0] (08_rate_and_delay.md R383). -/
def R.RC_HISTORY_WORD (i j l m : Nat) : Field := ⟨0x1010000 + i * 0x30000 + j * 0x4000 + l * 0x40 + m * 8, 0, 64⟩
/-- ING_FLOW_KEYCTL (05_ingest.md R248). -/
def K.ING_FLOW_KEYCTL (i : Nat) : Nat := 0x100000000 + i * 0x100
/-- ING_FLOW_KEYCTL.ENABLE [0:0] (05_ingest.md R248). -/
def R.ING_FLOW_KEYCTL_ENABLE (i : Nat) : Field := ⟨0x100000000 + i * 0x100, 0, 1⟩
/-- ING_FLOW_KEYCTL.IPV6 [1:1] (05_ingest.md R248). -/
def R.ING_FLOW_KEYCTL_IPV6 (i : Nat) : Field := ⟨0x100000000 + i * 0x100, 1, 1⟩
/-- ING_FLOW_KEYCTL.VLAN_MATCH [2:2] (05_ingest.md R248). -/
def R.ING_FLOW_KEYCTL_VLAN_MATCH (i : Nat) : Field := ⟨0x100000000 + i * 0x100, 2, 1⟩
/-- ING_FLOW_KEYCTL.SSRC_MATCH [3:3] (05_ingest.md R248). -/
def R.ING_FLOW_KEYCTL_SSRC_MATCH (i : Nat) : Field := ⟨0x100000000 + i * 0x100, 3, 1⟩
/-- ING_FLOW_KEYCTL.SRC_ANY [4:4] (05_ingest.md R248). -/
def R.ING_FLOW_KEYCTL_SRC_ANY (i : Nat) : Field := ⟨0x100000000 + i * 0x100, 4, 1⟩
/-- ING_FLOW_VLAN.VLAN [11:0] (05_ingest.md R248). -/
def R.ING_FLOW_VLAN_VLAN (i : Nat) : Field := ⟨0x100000004 + i * 0x100, 0, 12⟩
/-- ING_FLOW_SSRC.SSRC [31:0] (05_ingest.md R248). -/
def R.ING_FLOW_SSRC_SSRC (i : Nat) : Field := ⟨0x100000008 + i * 0x100, 0, 32⟩
/-- ING_FLOW_PORTS.DPORT [15:0] (05_ingest.md R248). -/
def R.ING_FLOW_PORTS_DPORT (i : Nat) : Field := ⟨0x10000000c + i * 0x100, 0, 16⟩
/-- ING_FLOW_PORTS.SPORT [31:16] (05_ingest.md R248). -/
def R.ING_FLOW_PORTS_SPORT (i : Nat) : Field := ⟨0x10000000c + i * 0x100, 16, 16⟩
/-- ING_FLOW_DST.WORD [31:0] (05_ingest.md R248). -/
def R.ING_FLOW_DST_WORD (i j : Nat) : Field := ⟨0x100000010 + i * 0x100 + j * 4, 0, 32⟩
/-- ING_FLOW_SRC.WORD [31:0] (05_ingest.md R248). -/
def R.ING_FLOW_SRC_WORD (i j : Nat) : Field := ⟨0x100000020 + i * 0x100 + j * 4, 0, 32⟩
/-- ING_FLOW_KIND (05_ingest.md R248). -/
def K.ING_FLOW_KIND (i : Nat) : Nat := 0x100000030 + i * 0x100
/-- ING_FLOW_KIND.KIND [3:0] (05_ingest.md R248). -/
def R.ING_FLOW_KIND_KIND (i : Nat) : Field := ⟨0x100000030 + i * 0x100, 0, 4⟩
/-- ING_FLOW_KIND.PT [10:4] (05_ingest.md R248). -/
def R.ING_FLOW_KIND_PT (i : Nat) : Field := ⟨0x100000030 + i * 0x100, 4, 7⟩
/-- ING_FLOW_KIND.BARE_UDP [11:11] (05_ingest.md R248). -/
def R.ING_FLOW_KIND_BARE_UDP (i : Nat) : Field := ⟨0x100000030 + i * 0x100, 11, 1⟩
/-- ING_FLOW_KIND.CHANNEL [19:12] (05_ingest.md R248). -/
def R.ING_FLOW_KIND_CHANNEL (i : Nat) : Field := ⟨0x100000030 + i * 0x100, 12, 8⟩
/-- ING_FLOW_KIND.DEST [31:20] (05_ingest.md R248). -/
def R.ING_FLOW_KIND_DEST (i : Nat) : Field := ⟨0x100000030 + i * 0x100, 20, 12⟩
/-- ING_FLOW_KIND.MAX_PKT [45:32] (05_ingest.md R248). -/
def R.ING_FLOW_KIND_MAX_PKT (i : Nat) : Field := ⟨0x100000030 + i * 0x100, 32, 14⟩
/-- ING_FLOW_VIDEO.WIDTH [12:0] (05_ingest.md R248). -/
def R.ING_FLOW_VIDEO_WIDTH (i : Nat) : Field := ⟨0x100000038 + i * 0x100, 0, 13⟩
/-- ING_FLOW_VIDEO.HEIGHT [25:13] (05_ingest.md R248). -/
def R.ING_FLOW_VIDEO_HEIGHT (i : Nat) : Field := ⟨0x100000038 + i * 0x100, 13, 13⟩
/-- ING_FLOW_VIDEO.SAMPLING [26:26] (05_ingest.md R248). -/
def R.ING_FLOW_VIDEO_SAMPLING (i : Nat) : Field := ⟨0x100000038 + i * 0x100, 26, 1⟩
/-- ING_FLOW_VIDEO.DEPTH10 [27:27] (05_ingest.md R248). -/
def R.ING_FLOW_VIDEO_DEPTH10 (i : Nat) : Field := ⟨0x100000038 + i * 0x100, 27, 1⟩
/-- ING_FLOW_VIDEO.INTERLACED [29:29] (05_ingest.md R248). -/
def R.ING_FLOW_VIDEO_INTERLACED (i : Nat) : Field := ⟨0x100000038 + i * 0x100, 29, 1⟩
/-- ING_FLOW_VIDEO.ROW_LINES [44:32] (05_ingest.md R248). -/
def R.ING_FLOW_VIDEO_ROW_LINES (i : Nat) : Field := ⟨0x100000038 + i * 0x100, 32, 13⟩
/-- ING_FLOW_MERGE.PAIR [10:0] (05_ingest.md R248). -/
def R.ING_FLOW_MERGE_PAIR (i : Nat) : Field := ⟨0x100000040 + i * 0x100, 0, 11⟩
/-- ING_FLOW_MERGE.IN_PAIR [11:11] (05_ingest.md R248). -/
def R.ING_FLOW_MERGE_IN_PAIR (i : Nat) : Field := ⟨0x100000040 + i * 0x100, 11, 1⟩
/-- ING_FLOW_MERGE.PATH_B [12:12] (05_ingest.md R248). -/
def R.ING_FLOW_MERGE_PATH_B (i : Nat) : Field := ⟨0x100000040 + i * 0x100, 12, 1⟩
/-- ING_FLOW_STATUS.STATE [1:0] (05_ingest.md R248). -/
def R.ING_FLOW_STATUS_STATE (i : Nat) : Field := ⟨0x100000044 + i * 0x100, 0, 2⟩
/-- ING_FLOW_LAST_TS.RAW [63:0] (05_ingest.md R248). -/
def R.ING_FLOW_LAST_TS_RAW (i : Nat) : Field := ⟨0x100000048 + i * 0x100, 0, 64⟩
/-- ING_FLOW_CNT.COUNT [63:0] (05_ingest.md R248). -/
def R.ING_FLOW_CNT_COUNT (i j : Nat) : Field := ⟨0x100000080 + i * 0x100 + j * 8, 0, 64⟩
/-- EGR_FLOW_CTRL (11_egress.md R489). -/
def K.EGR_FLOW_CTRL (i : Nat) : Nat := 0x200000000 + i * 0x100
/-- EGR_FLOW_CTRL.ENABLE [0:0] (11_egress.md R489). -/
def R.EGR_FLOW_CTRL_ENABLE (i : Nat) : Field := ⟨0x200000000 + i * 0x100, 0, 1⟩
/-- EGR_FLOW_CTRL.KIND [4:1] (11_egress.md R489). -/
def R.EGR_FLOW_CTRL_KIND (i : Nat) : Field := ⟨0x200000000 + i * 0x100, 1, 4⟩
/-- EGR_FLOW_CTRL.IPV6 [5:5] (11_egress.md R489). -/
def R.EGR_FLOW_CTRL_IPV6 (i : Nat) : Field := ⟨0x200000000 + i * 0x100, 5, 1⟩
/-- EGR_FLOW_CTRL.DUAL [6:6] (11_egress.md R489). -/
def R.EGR_FLOW_CTRL_DUAL (i : Nat) : Field := ⟨0x200000000 + i * 0x100, 6, 1⟩
/-- EGR_FLOW_CTRL.PORT [10:7] (11_egress.md R489). -/
def R.EGR_FLOW_CTRL_PORT (i : Nat) : Field := ⟨0x200000000 + i * 0x100, 7, 4⟩
/-- EGR_FLOW_CTRL.PORT_B [14:11] (11_egress.md R489). -/
def R.EGR_FLOW_CTRL_PORT_B (i : Nat) : Field := ⟨0x200000000 + i * 0x100, 11, 4⟩
/-- EGR_FLOW_CTRL.QUEUE [17:16] (11_egress.md R489). -/
def R.EGR_FLOW_CTRL_QUEUE (i : Nat) : Field := ⟨0x200000000 + i * 0x100, 16, 2⟩
/-- EGR_FLOW_CTRL.WFQ_QUEUE [29:18] (11_egress.md R489). -/
def R.EGR_FLOW_CTRL_WFQ_QUEUE (i : Nat) : Field := ⟨0x200000000 + i * 0x100, 18, 12⟩
/-- EGR_FLOW_CTRL.SRTP_EN [30:30] (11_egress.md R489). -/
def R.EGR_FLOW_CTRL_SRTP_EN (i : Nat) : Field := ⟨0x200000000 + i * 0x100, 30, 1⟩
/-- EGR_FLOW_CTRL.SRTP_SLOT [40:32] (11_egress.md R489). -/
def R.EGR_FLOW_CTRL_SRTP_SLOT (i : Nat) : Field := ⟨0x200000000 + i * 0x100, 32, 9⟩
/-- EGR_FLOW_CTRL.PGROUP [46:41] (11_egress.md R489). -/
def R.EGR_FLOW_CTRL_PGROUP (i : Nat) : Field := ⟨0x200000000 + i * 0x100, 41, 6⟩
/-- EGR_FLOW_CTRL.GATED [47:47] (11_egress.md R489). -/
def R.EGR_FLOW_CTRL_GATED (i : Nat) : Field := ⟨0x200000000 + i * 0x100, 47, 1⟩
/-- EGR_FLOW_CTRL.STATE [49:48] (11_egress.md R489). -/
def R.EGR_FLOW_CTRL_STATE (i : Nat) : Field := ⟨0x200000000 + i * 0x100, 48, 2⟩
/-- EGR_FLOW_CTRL.SOURCE [51:50] (11_egress.md R489). -/
def R.EGR_FLOW_CTRL_SOURCE (i : Nat) : Field := ⟨0x200000000 + i * 0x100, 50, 2⟩
/-- EGR_FLOW_SRC.STREAM [10:0] (11_egress.md R489). -/
def R.EGR_FLOW_SRC_STREAM (i : Nat) : Field := ⟨0x200000008 + i * 0x100, 0, 11⟩
/-- EGR_FLOW_SRC.AUD_BUF [24:16] (11_egress.md R489). -/
def R.EGR_FLOW_SRC_AUD_BUF (i : Nat) : Field := ⟨0x200000008 + i * 0x100, 16, 9⟩
/-- EGR_FLOW_SRC.PTIME125 [25:25] (11_egress.md R489). -/
def R.EGR_FLOW_SRC_PTIME125 (i : Nat) : Field := ⟨0x200000008 + i * 0x100, 25, 1⟩
/-- EGR_FLOW_SRC.MAX_PAYLOAD [45:32] (11_egress.md R489). -/
def R.EGR_FLOW_SRC_MAX_PAYLOAD (i : Nat) : Field := ⟨0x200000008 + i * 0x100, 32, 14⟩
/-- EGR_FLOW_RTP.SEQ_INIT [55:40] (11_egress.md R489). -/
def R.EGR_FLOW_RTP_SEQ_INIT (i : Nat) : Field := ⟨0x200000010 + i * 0x100, 40, 16⟩
/-- EGR_FLOW_L2.VLAN_EN [12:12] (11_egress.md R489). -/
def R.EGR_FLOW_L2_VLAN_EN (i : Nat) : Field := ⟨0x200000018 + i * 0x100, 12, 1⟩
/-- EGR_FLOW_CNT.COUNT [63:0] (11_egress.md R489). -/
def R.EGR_FLOW_CNT_COUNT (i j : Nat) : Field := ⟨0x200000080 + i * 0x100 + j * 8, 0, 64⟩
/-- EGR_FLOW_SRTP_IDX.INDEX [47:0] (11_egress.md R489). -/
def R.EGR_FLOW_SRTP_IDX_INDEX (i : Nat) : Field := ⟨0x2000000d0 + i * 0x100, 0, 48⟩
/-- Rows of the register map: gctl, part 0. -/
def rows_gctl0 : List RegRow :=
  [ ⟨0x10000, [], 4, [⟨0, 1, .wo, 0⟩]⟩,
    ⟨0x10004, [], 4, [⟨0, 3, .ro, 0⟩]⟩,
    ⟨0x10008, [], 4, [⟨0, 3, .ro, 0⟩, ⟨3, 1, .ro, 0⟩, ⟨4, 1, .ro, 0⟩, ⟨16, 16, .ro, 0⟩]⟩,
    ⟨0x10100, [], 4, [⟨0, 26, .ro, 0⟩, ⟨26, 2, .ro, 0⟩, ⟨31, 1, .rw1c, 0⟩]⟩,
    ⟨0x10104, [], 4, [⟨0, 26, .ro, 0⟩]⟩,
    ⟨0x10200, [], 4, [⟨0, 16, .rw, 0⟩]⟩,
    ⟨0x10204, [], 4, [⟨0, 16, .rw, 0⟩]⟩,
    ⟨0x10208, [], 4, [⟨0, 16, .rw, 0⟩]⟩,
    ⟨0x1020c, [], 4, [⟨0, 16, .ro, 0⟩]⟩,
    ⟨0x10210, [], 4, [⟨0, 32, .ro, 0⟩]⟩ ]
def rows_gctl : List RegRow := rows_gctl0
/-- Rows of the register map: sieve, part 0. -/
def rows_sieve0 : List RegRow :=
  [ ⟨0x20000, [], 4, [⟨0, 10, .rw, 0x64⟩, ⟨10, 1, .rw, 0⟩, ⟨12, 4, .rw, 0xf⟩, ⟨16, 4, .rw, 0xe⟩]⟩,
    ⟨0x20004, [], 4, [⟨0, 2, .ro, 0⟩, ⟨2, 1, .ro, 0⟩, ⟨3, 1, .rw1c, 0⟩, ⟨4, 1, .rw1c, 0⟩, ⟨5, 10, .ro, 0⟩]⟩,
    ⟨0x20008, [], 4, [⟨0, 32, .wo, 0⟩]⟩,
    ⟨0x2000c, [], 4, [⟨0, 16, .wo, 0⟩]⟩,
    ⟨0x20010, [], 4, [⟨0, 10, .wo, 0⟩, ⟨16, 16, .wo, 0⟩]⟩,
    ⟨0x20018, [], 4, [⟨0, 9, .rw, 0⟩]⟩,
    ⟨0x2001c, [], 4, [⟨0, 9, .ro, 0⟩]⟩,
    ⟨0x20020, [(5, 8)], 8, [⟨0, 64, .ro, 0⟩]⟩,
    ⟨0x20100, [(64, 4)], 4, [⟨0, 2, .rw, 2⟩]⟩,
    ⟨0x20200, [(64, 4)], 4, [⟨0, 2, .ro, 0⟩, ⟨2, 10, .ro, 0⟩]⟩,
    ⟨0x21000, [(768, 4)], 4, [⟨0, 2, .rw, 0⟩, ⟨2, 6, .rw, 0⟩]⟩,
    ⟨0x22000, [(768, 4)], 4, [⟨0, 32, .ro, 0⟩]⟩,
    ⟨0x24000, [(512, 0x20), (4, 8)], 8, [⟨0, 64, .ro, 0⟩]⟩ ]
def rows_sieve : List RegRow := rows_sieve0
/-- Rows of the register map: heath, part 0. -/
def rows_heath0 : List RegRow :=
  [ ⟨0x40000, [], 4, [⟨0, 2, .rw, 0⟩, ⟨2, 1, .wo, 0⟩, ⟨3, 1, .rw, 0⟩, ⟨16, 16, .rw, 0x64⟩]⟩,
    ⟨0x40004, [], 4, [⟨0, 2, .ro, 0⟩, ⟨2, 3, .ro, 0⟩, ⟨5, 1, .rw1c, 0⟩, ⟨6, 1, .rw1c, 0⟩, ⟨7, 1, .rw1c, 0⟩, ⟨8, 1, .ro, 0⟩]⟩,
    ⟨0x40008, [], 4, [⟨0, 6, .rw, 0xe⟩]⟩,
    ⟨0x40010, [], 8, [⟨0, 64, .rw, 0⟩]⟩,
    ⟨0x40018, [], 8, [⟨0, 64, .ro, 0⟩]⟩,
    ⟨0x40020, [], 4, [⟨0, 32, .ro, 0⟩]⟩,
    ⟨0x40024, [], 4, [⟨0, 16, .rw, 0x3e8⟩, ⟨16, 1, .rw, 0⟩]⟩,
    ⟨0x40028, [], 4, [⟨0, 32, .wo, 0⟩]⟩,
    ⟨0x4002c, [], 4, [⟨0, 16, .ro, 0⟩, ⟨16, 1, .rw1c, 0⟩]⟩,
    ⟨0x40030, [], 8, [⟨0, 64, .ro, 0⟩]⟩,
    ⟨0x40040, [(4, 8)], 8, [⟨0, 64, .ro, 0⟩]⟩,
    ⟨0x40100, [(64, 4)], 4, [⟨0, 16, .ro, 0⟩]⟩,
    ⟨0x40200, [(32, 8)], 8, [⟨0, 6, .rw, 0⟩, ⟨6, 1, .rw, 1⟩, ⟨7, 1, .rw, 1⟩, ⟨8, 8, .rw, 0⟩, ⟨16, 16, .rw, 0⟩, ⟨32, 3, .rw, 0⟩, ⟨35, 1, .rw, 0⟩, ⟨36, 1, .ro, 0⟩]⟩ ]
def rows_heath : List RegRow := rows_heath0
/-- Rows of the register map: pdk, part 0. -/
def rows_pdk0 : List RegRow :=
  [ ⟨0x50000, [], 8, [⟨0, 8, .rw, 0⟩, ⟨32, 32, .rw, 0⟩]⟩,
    ⟨0x50008, [], 4, [⟨0, 1, .ro, 0⟩, ⟨1, 3, .ro, 0⟩, ⟨4, 1, .ro, 0⟩, ⟨5, 1, .ro, 0⟩]⟩,
    ⟨0x5000c, [], 4, [⟨0, 32, .sl, 0⟩]⟩,
    ⟨0x50010, [], 8, [⟨0, 64, .ro, 0⟩]⟩,
    ⟨0x50020, [(7, 4)], 4, [⟨0, 32, .sl, 0⟩]⟩,
    ⟨0x50040, [(4, 4)], 4, [⟨0, 32, .sl, 0⟩]⟩,
    ⟨0x50050, [(12, 4)], 4, [⟨0, 32, .sl, 0⟩]⟩,
    ⟨0x50100, [(16, 8)], 8, [⟨0, 1, .rw, 0⟩, ⟨1, 1, .rw, 0⟩, ⟨2, 2, .rw, 1⟩, ⟨4, 9, .rw, 0⟩, ⟨13, 6, .rw, 0⟩]⟩ ]
def rows_pdk : List RegRow := rows_pdk0
/-- Rows of the register map: tb, part 0. -/
def rows_tb0 : List RegRow :=
  [ ⟨0x60000, [], 4, [⟨0, 1, .rw, 0⟩, ⟨1, 3, .rw, 0⟩, ⟨4, 1, .rw, 1⟩, ⟨5, 1, .wo, 0⟩, ⟨6, 1, .wo, 0⟩]⟩,
    ⟨0x60004, [], 4, [⟨0, 3, .ro, 0⟩, ⟨3, 1, .ro, 0⟩, ⟨4, 1, .ro, 0⟩, ⟨5, 1, .rw1c, 0⟩]⟩,
    ⟨0x60008, [], 4, [⟨0, 32, .ro, 0⟩]⟩,
    ⟨0x60010, [], 8, [⟨0, 64, .ro, 0⟩]⟩,
    ⟨0x60018, [], 8, [⟨0, 64, .ro, 0⟩]⟩,
    ⟨0x60020, [], 8, [⟨0, 64, .ro, 0⟩]⟩,
    ⟨0x60028, [], 8, [⟨0, 64, .rw, 0⟩]⟩,
    ⟨0x60030, [], 8, [⟨0, 64, .wo, 0⟩]⟩,
    ⟨0x60038, [], 8, [⟨0, 64, .wo, 0⟩]⟩,
    ⟨0x60040, [], 8, [⟨0, 64, .wo, 0⟩]⟩,
    ⟨0x60048, [], 4, [⟨0, 5, .rw, 2⟩, ⟨5, 5, .rw, 6⟩, ⟨16, 16, .rw, 0x64⟩]⟩,
    ⟨0x60050, [], 8, [⟨0, 16, .rw, 0x3e8⟩, ⟨16, 16, .rw, 0x3e8⟩, ⟨32, 32, .rw, 0x3e8⟩]⟩,
    ⟨0x60058, [], 8, [⟨0, 64, .rw, 0⟩]⟩,
    ⟨0x60060, [], 8, [⟨0, 64, .ro, 0⟩]⟩,
    ⟨0x60068, [], 8, [⟨0, 64, .ro, 0⟩]⟩,
    ⟨0x60070, [], 8, [⟨0, 64, .ro, 0⟩]⟩,
    ⟨0x60078, [], 8, [⟨0, 64, .ro, 0⟩]⟩,
    ⟨0x60080, [], 8, [⟨0, 64, .ro, 0⟩]⟩,
    ⟨0x60100, [(16, 4)], 4, [⟨0, 16, .rw, 0⟩, ⟨16, 16, .rw, 0⟩]⟩,
    ⟨0x60200, [(3, 8)], 8, [⟨0, 24, .ro, 0⟩, ⟨32, 16, .rw, 0⟩]⟩,
    ⟨0x60240, [], 4, [⟨0, 3, .rw, 0⟩]⟩,
    ⟨0x60250, [], 8, [⟨0, 64, .ro, 0⟩]⟩,
    ⟨0x60258, [], 4, [⟨0, 32, .rw, 0⟩]⟩,
    ⟨0x60300, [(10, 8)], 8, [⟨0, 64, .ro, 0⟩]⟩,
    ⟨0x61000, [(8, 0x40)], 4, [⟨0, 1, .rw, 0⟩, ⟨1, 1, .rw, 0⟩, ⟨2, 1, .rw, 0⟩, ⟨3, 2, .rw, 0⟩]⟩ ]
/-- Rows of the register map: tb, part 1. -/
def rows_tb1 : List RegRow :=
  [ ⟨0x61004, [(8, 0x40)], 4, [⟨0, 2, .ro, 0⟩, ⟨2, 1, .rw1c, 0⟩, ⟨3, 1, .ro, 0⟩, ⟨4, 1, .ro, 0⟩]⟩,
    ⟨0x61008, [(8, 0x40)], 8, [⟨0, 64, .rw, 0⟩]⟩,
    ⟨0x61010, [(8, 0x40)], 4, [⟨0, 32, .rw, 0⟩]⟩,
    ⟨0x61018, [(8, 0x40)], 8, [⟨0, 64, .rw, 0⟩]⟩,
    ⟨0x61020, [(8, 0x40)], 4, [⟨0, 32, .rw, 0⟩]⟩,
    ⟨0x61024, [(8, 0x40)], 4, [⟨0, 32, .rw, 0⟩]⟩,
    ⟨0x61028, [(8, 0x40)], 8, [⟨0, 64, .ro, 0⟩]⟩,
    ⟨0x61030, [(8, 0x40)], 8, [⟨0, 64, .ro, 0⟩]⟩ ]
def rows_tb : List RegRow := rows_tb0 ++ rows_tb1
/-- Rows of the register map: pcie, part 0. -/
def rows_pcie0 : List RegRow :=
  [ ⟨0x80000, [], 4, [⟨0, 4, .ro, 0⟩, ⟨4, 3, .ro, 0⟩, ⟨7, 1, .ro, 0⟩]⟩,
    ⟨0x80100, [(8, 8)], 8, [⟨0, 1, .rw, 0⟩, ⟨31, 17, .rw, 0⟩]⟩,
    ⟨0x81000, [(16, 0x40)], 8, [⟨6, 58, .rw, 0⟩]⟩,
    ⟨0x81008, [(16, 0x40)], 8, [⟨4, 60, .rw, 0⟩]⟩,
    ⟨0x81010, [(16, 0x40)], 4, [⟨0, 13, .rw, 0⟩, ⟨31, 1, .rw, 0⟩]⟩,
    ⟨0x81014, [(16, 0x40)], 4, [⟨0, 16, .ro, 0⟩]⟩,
    ⟨0x81018, [(16, 0x40)], 4, [⟨0, 16, .ro, 0⟩]⟩,
    ⟨0x8101c, [(16, 0x40)], 4, [⟨0, 16, .rw, 0⟩]⟩,
    ⟨0x81020, [(16, 0x40)], 4, [⟨0, 1, .rw1c, 0⟩, ⟨1, 1, .ro, 0⟩]⟩,
    ⟨0x82000, [], 4, [⟨0, 1, .rw, 0⟩]⟩,
    ⟨0x82008, [], 8, [⟨22, 26, .rw, 0x10000⟩, ⟨61, 2, .ro, 0⟩, ⟨63, 1, .rw, 0⟩]⟩,
    ⟨0x84000, [(64, 0x40)], 8, [⟨5, 59, .rw, 0⟩]⟩,
    ⟨0x84008, [(64, 0x40)], 4, [⟨0, 16, .rw, 0⟩]⟩,
    ⟨0x8400c, [(64, 0x40)], 4, [⟨0, 1, .rw, 0⟩, ⟨1, 3, .rw, 0⟩, ⟨4, 2, .rw, 3⟩, ⟨6, 1, .rw, 0⟩]⟩,
    ⟨0x84010, [(64, 0x40)], 4, [⟨0, 1, .wo, 0⟩, ⟨1, 1, .wo, 0⟩]⟩,
    ⟨0x84014, [(64, 0x40)], 4, [⟨0, 1, .ro, 0⟩, ⟨1, 3, .ro, 0⟩, ⟨4, 16, .ro, 0⟩]⟩,
    ⟨0x84018, [(64, 0x40), (3, 8)], 8, [⟨0, 64, .ro, 0⟩]⟩ ]
def rows_pcie : List RegRow := rows_pcie0
/-- Rows of the register map: dsp, part 0. -/
def rows_dsp0 : List RegRow :=
  [ ⟨0x100000, [], 4, [⟨0, 1, .rw, 0⟩]⟩,
    ⟨0x100004, [], 4, [⟨0, 15, .ro, 0x3000⟩, ⟨16, 13, .ro, 0x1000⟩]⟩,
    ⟨0x100008, [], 4, [⟨0, 14, .rw, 0x3e8⟩]⟩,
    ⟨0x100010, [], 4, [⟨0, 32, .wo, 0⟩]⟩,
    ⟨0x100014, [], 4, [⟨0, 2, .ro, 0⟩, ⟨31, 1, .rc, 0⟩]⟩,
    ⟨0x100020, [], 4, [⟨0, 8, .rw, 0⟩, ⟨8, 2, .wo, 0⟩, ⟨31, 1, .ro, 0⟩]⟩,
    ⟨0x100024, [], 4, [⟨0, 2, .ro, 0⟩, ⟨2, 3, .ro, 0⟩, ⟨5, 4, .ro, 0⟩, ⟨16, 8, .ro, 0⟩, ⟨31, 1, .rw1c, 0⟩]⟩,
    ⟨0x100028, [], 8, [⟨0, 48, .rw, 0⟩]⟩,
    ⟨0x100030, [], 4, [⟨0, 10, .ro, 0x3e8⟩]⟩,
    ⟨0x100034, [], 4, [⟨0, 20, .rw, 0x2710⟩]⟩,
    ⟨0x100100, [(16, 8)], 8, [⟨0, 64, .ro, 0⟩]⟩,
    ⟨0x100208, [], 8, [⟨0, 64, .ro, 0xf42400⟩]⟩,
    ⟨0x100210, [], 8, [⟨0, 64, .ro, 0x7a1200⟩]⟩,
    ⟨0x100218, [], 8, [⟨0, 64, .ro, 0x186a00⟩]⟩,
    ⟨0x100220, [], 8, [⟨0, 64, .ro, 0x186a00⟩]⟩,
    ⟨0x100228, [], 8, [⟨0, 64, .ro, 0x20000⟩]⟩,
    ⟨0x100248, [(5, 8)], 8, [⟨0, 64, .ro, 0⟩]⟩,
    ⟨0x100408, [(8, 8)], 8, [⟨0, 64, .ro, 0⟩]⟩,
    ⟨0x100488, [(8, 8)], 8, [⟨0, 64, .ro, 0⟩]⟩,
    ⟨0x101000, [(32, 4)], 4, [⟨0, 8, .rw, 1⟩]⟩,
    ⟨0x101080, [(32, 4)], 4, [⟨0, 32, .ro, 0⟩]⟩,
    ⟨0x101100, [(32, 4)], 4, [⟨0, 32, .ro, 0⟩]⟩,
    ⟨0x102000, [(256, 0x40)], 8, [⟨0, 8, .rw, 0⟩, ⟨8, 1, .ro, 0⟩, ⟨32, 32, .rw, 1⟩]⟩,
    ⟨0x102008, [(256, 0x40), (3, 4)], 4, [⟨0, 32, .ro, 0⟩]⟩,
    ⟨0x102014, [(256, 0x40)], 4, [⟨0, 32, .ro, 0⟩]⟩ ]
/-- Rows of the register map: dsp, part 1. -/
def rows_dsp1 : List RegRow :=
  [ ⟨0x102018, [(256, 0x40)], 8, [⟨0, 64, .rc, 0⟩]⟩,
    ⟨0x108000, [(4, 4)], 4, [⟨0, 32, .ro, 0⟩]⟩ ]
def rows_dsp : List RegRow := rows_dsp0 ++ rows_dsp1
/-- Rows of the register map: seq, part 0. -/
def rows_seq0 : List RegRow :=
  [ ⟨0x200000, [(64, 0x4000)], 4, [⟨0, 1, .rw, 0⟩]⟩,
    ⟨0x200004, [(64, 0x4000)], 4, [⟨0, 12, .ro, 0⟩, ⟨12, 1, .rw1c, 0⟩]⟩,
    ⟨0x200010, [(64, 0x4000)], 4, [⟨3, 13, .rw, 0⟩, ⟨16, 1, .rw, 0⟩]⟩,
    ⟨0x200018, [(64, 0x4000)], 8, [⟨0, 64, .rw, 0⟩]⟩,
    ⟨0x200020, [(64, 0x4000)], 8, [⟨0, 64, .rc, 0⟩]⟩,
    ⟨0x201000, [(64, 0x4000), (4, 0x100)], 4, [⟨0, 1, .wo, 0⟩, ⟨1, 1, .wo, 0⟩, ⟨2, 1, .wo, 0⟩, ⟨3, 3, .rw, 0⟩, ⟨6, 1, .rw, 1⟩, ⟨8, 16, .rw, 0x3e8⟩]⟩,
    ⟨0x201004, [(64, 0x4000), (4, 0x100)], 4, [⟨0, 3, .ro, 0⟩, ⟨8, 8, .ro, 0⟩, ⟨16, 1, .ro, 0⟩]⟩,
    ⟨0x201008, [(64, 0x4000), (4, 0x100)], 4, [⟨0, 16, .rw, 0⟩, ⟨16, 16, .rw, 0⟩]⟩,
    ⟨0x20100c, [(64, 0x4000), (4, 0x100)], 4, [⟨0, 16, .rw, 0⟩, ⟨16, 16, .rw, 0⟩]⟩,
    ⟨0x201010, [(64, 0x4000), (4, 0x100)], 4, [⟨0, 32, .ro, 0⟩]⟩,
    ⟨0x201018, [(64, 0x4000), (4, 0x100)], 4, [⟨0, 32, .ro, 0⟩]⟩,
    ⟨0x201020, [(64, 0x4000), (4, 0x100)], 8, [⟨0, 64, .ro, 0⟩]⟩,
    ⟨0x201028, [(64, 0x4000), (4, 0x100)], 4, [⟨0, 24, .rw, 0x10000⟩]⟩,
    ⟨0x201030, [(64, 0x4000), (4, 0x100), (4, 8)], 8, [⟨0, 32, .rw, 0⟩, ⟨32, 32, .rw, 0⟩]⟩,
    ⟨0x201050, [(64, 0x4000), (4, 0x100)], 8, [⟨0, 64, .ro, 0⟩]⟩,
    ⟨0x201080, [(64, 0x4000), (4, 0x100), (16, 4)], 4, [⟨0, 6, .rw, 0⟩, ⟨6, 1, .rw, 0⟩, ⟨7, 1, .rw, 0⟩, ⟨8, 15, .rw, 0⟩, ⟨23, 1, .rw, 0⟩]⟩,
    ⟨0x202000, [(64, 0x4000), (4, 0x100), (32, 8)], 8, [⟨0, 64, .ro, 0⟩]⟩ ]
def rows_seq : List RegRow := rows_seq0
/-- Rows of the register map: mem, part 0. -/
def rows_mem0 : List RegRow :=
  [ ⟨0x300000, [], 4, [⟨0, 1, .rw, 0⟩, ⟨1, 1, .rw, 0⟩]⟩,
    ⟨0x300004, [], 4, [⟨0, 5, .rw, 0xc⟩]⟩,
    ⟨0x300008, [], 4, [⟨0, 2, .ro, 0⟩, ⟨2, 30, .ro, 0⟩]⟩,
    ⟨0x300010, [], 4, [⟨0, 2, .ro, 0⟩, ⟨2, 2, .ro, 0⟩, ⟨4, 2, .ro, 0⟩]⟩,
    ⟨0x300020, [(4, 0x40000)], 4, [⟨0, 2, .rw, 0⟩, ⟨2, 1, .ro, 0⟩]⟩,
    ⟨0x300024, [(4, 0x40000)], 4, [⟨0, 16, .rw, 0x64⟩, ⟨16, 1, .ro, 0⟩]⟩,
    ⟨0x300028, [(4, 0x40000)], 4, [⟨0, 8, .rw, 0x18⟩, ⟨16, 16, .rw, 0x3e8⟩]⟩,
    ⟨0x30002c, [(4, 0x40000)], 4, [⟨0, 4, .rw, 0⟩, ⟨4, 4, .ro, 0⟩]⟩,
    ⟨0x300100, [(4, 0x40000), (16, 0x10), (2, 8)], 8, [⟨0, 64, .ro, 0⟩]⟩,
    ⟨0x300400, [(4, 0x40000), (3, 8)], 8, [⟨0, 64, .ro, 0⟩]⟩,
    ⟨0x300418, [(4, 0x40000), (3, 8)], 8, [⟨0, 64, .ro, 0⟩]⟩,
    ⟨0x300430, [(4, 0x40000), (6, 8)], 8, [⟨0, 64, .ro, 0⟩]⟩,
    ⟨0x301000, [(16, 0x80)], 4, [⟨0, 1, .rw, 0⟩, ⟨1, 1, .ro, 0⟩, ⟨2, 2, .ro, 0⟩]⟩,
    ⟨0x301008, [(16, 0x80)], 8, [⟨12, 52, .rw, 0⟩]⟩,
    ⟨0x301010, [(16, 0x80)], 8, [⟨0, 12, .ro, 0xfff⟩, ⟨12, 52, .rw, 0⟩]⟩,
    ⟨0x301040, [(16, 0x80), (16, 4)], 4, [⟨0, 32, .wo, 0⟩]⟩ ]
def rows_mem : List RegRow := rows_mem0
/-- Rows of the register map: media, part 0. -/
def rows_media0 : List RegRow :=
  [ ⟨0x400000, [(4, 4)], 4, [⟨0, 2, .rw, 0⟩]⟩,
    ⟨0x400100, [(16, 0x10)], 4, [⟨0, 5, .rw, 0xc⟩, ⟨5, 6, .rw, 0xc⟩, ⟨11, 1, .rw, 1⟩, ⟨12, 1, .wo, 0⟩]⟩,
    ⟨0x400104, [(16, 0x10)], 4, [⟨0, 1, .ro, 0⟩, ⟨1, 1, .ro, 0⟩, ⟨2, 1, .rw1c, 0⟩, ⟨8, 8, .ro, 0⟩]⟩,
    ⟨0x401000, [(16, 0x100)], 4, [⟨0, 1, .rw, 0⟩, ⟨1, 1, .rw, 0⟩]⟩,
    ⟨0x401004, [(16, 0x100)], 4, [⟨0, 1, .ro, 0⟩, ⟨1, 1, .rw1c, 0⟩]⟩,
    ⟨0x401040, [(16, 0x100), (8, 8)], 8, [⟨0, 64, .ro, 0⟩]⟩ ]
def rows_media : List RegRow := rows_media0
/-- Rows of the register map: ing, part 0. -/
def rows_ing0 : List RegRow :=
  [ ⟨0x600000, [], 4, [⟨0, 1, .rw, 0⟩]⟩,
    ⟨0x600004, [], 4, [⟨0, 8, .rw, 1⟩]⟩,
    ⟨0x600008, [], 4, [⟨0, 16, .rw, 0x7d0⟩, ⟨16, 16, .rw, 0x200⟩]⟩,
    ⟨0x600010, [(4, 4)], 4, [⟨0, 32, .rw, 0⟩]⟩,
    ⟨0x600100, [(4, 4)], 4, [⟨0, 14, .rw, 0⟩]⟩,
    ⟨0x601080, [(4, 0x100), (10, 8)], 8, [⟨0, 64, .ro, 0⟩]⟩,
    ⟨0x610000, [(256, 0x20)], 8, [⟨0, 48, .rw, 0⟩]⟩,
    ⟨0x610008, [(256, 0x20)], 4, [⟨0, 18, .rw, 0⟩, ⟨18, 6, .rw, 0⟩, ⟨31, 1, .rw, 0⟩]⟩,
    ⟨0x61000c, [(256, 0x20)], 4, [⟨0, 6, .ro, 0⟩, ⟨8, 6, .ro, 0⟩, ⟨14, 2, .ro, 0⟩]⟩,
    ⟨0x610010, [(256, 0x20)], 8, [⟨0, 64, .ro, 0⟩]⟩,
    ⟨0x610018, [(256, 0x20)], 8, [⟨0, 64, .ro, 0⟩]⟩,
    ⟨0x620000, [(2048, 0x20)], 4, [⟨0, 13, .rw, 0x400⟩, ⟨31, 1, .rw, 0⟩]⟩,
    ⟨0x620008, [(2048, 0x20)], 8, [⟨0, 64, .ro, 0⟩]⟩,
    ⟨0x620010, [(2048, 0x20)], 8, [⟨0, 64, .ro, 0⟩]⟩,
    ⟨0x620018, [(2048, 0x20)], 8, [⟨0, 64, .ro, 0⟩]⟩,
    ⟨0x700000, [(262144, 4)], 4, [⟨0, 32, .rw, 0⟩]⟩ ]
def rows_ing : List RegRow := rows_ing0
/-- Rows of the register map: prf, part 0. -/
def rows_prf0 : List RegRow :=
  [ ⟨0x800000, [], 4, [⟨0, 1, .rw, 0⟩]⟩,
    ⟨0x800004, [], 4, [⟨0, 16, .ro, 0⟩]⟩,
    ⟨0x801000, [(256, 0x20)], 4, [⟨0, 6, .srw, 0⟩, ⟨8, 4, .srw, 0xc⟩, ⟨12, 1, .srw, 1⟩, ⟨13, 1, .srw, 1⟩]⟩,
    ⟨0x801008, [(256, 0x20)], 8, [⟨12, 52, .rw, 0⟩]⟩,
    ⟨0x801010, [(256, 0x20)], 4, [⟨0, 18, .ro, 0⟩, ⟨30, 1, .rw, 0⟩, ⟨31, 1, .ro, 0⟩]⟩,
    ⟨0x801018, [(256, 0x20)], 4, [⟨0, 32, .rw, 0⟩]⟩,
    ⟨0x880000, [], 4, [⟨0, 1, .rw, 0⟩]⟩,
    ⟨0x880004, [], 4, [⟨0, 1, .ro, 0⟩, ⟨1, 1, .wo, 0⟩]⟩,
    ⟨0x881000, [(1024, 4)], 4, [⟨0, 10, .rw, 0⟩]⟩,
    ⟨0x888000, [(2048, 0x20)], 8, [⟨0, 13, .srw, 0⟩, ⟨13, 13, .srw, 0⟩, ⟨26, 1, .srw, 0⟩, ⟨27, 1, .srw, 0⟩, ⟨28, 1, .srw, 0⟩, ⟨29, 1, .srw, 0⟩, ⟨30, 2, .srw, 0⟩]⟩,
    ⟨0x888008, [(2048, 0x20)], 8, [⟨0, 64, .rw, 0⟩]⟩,
    ⟨0x888010, [(2048, 0x20)], 4, [⟨0, 18, .rw, 0⟩, ⟨18, 6, .rw, 0⟩, ⟨29, 2, .ro, 0⟩, ⟨31, 1, .rw, 0⟩]⟩ ]
def rows_prf : List RegRow := rows_prf0
/-- Rows of the register map: eng, part 0. -/
def rows_eng0 : List RegRow :=
  [ ⟨0x900000, [(128, 0x2000)], 4, [⟨0, 1, .rw, 1⟩, ⟨1, 1, .wo, 0⟩, ⟨2, 1, .wo, 0⟩]⟩,
    ⟨0x900004, [(128, 0x2000)], 4, [⟨0, 3, .ro, 0⟩, ⟨3, 1, .ro, 0⟩, ⟨4, 1, .ro, 0⟩, ⟨16, 8, .ro, 0⟩]⟩,
    ⟨0x900008, [(128, 0x2000)], 4, [⟨0, 8, .ro, 0⟩, ⟨31, 1, .rw1c, 0⟩]⟩,
    ⟨0x900010, [(128, 0x2000)], 8, [⟨0, 8, .ro, 0⟩, ⟨8, 3, .ro, 0⟩, ⟨16, 4, .ro, 0⟩, ⟨32, 32, .ro, 0⟩]⟩,
    ⟨0x900100, [(128, 0x2000), (10, 8)], 8, [⟨0, 64, .ro, 0⟩]⟩,
    ⟨0xa00000, [(16, 0x1000)], 4, [⟨0, 1, .rw, 1⟩, ⟨1, 1, .wo, 0⟩]⟩,
    ⟨0xa00004, [(16, 0x1000)], 4, [⟨0, 8, .ro, 0⟩, ⟨8, 8, .ro, 0⟩, ⟨16, 8, .ro, 0⟩]⟩,
    ⟨0xa00010, [(16, 0x1000), (3, 8)], 8, [⟨0, 64, .ro, 0⟩]⟩ ]
def rows_eng : List RegRow := rows_eng0
/-- Rows of the register map: rc, part 0. -/
def rows_rc0 : List RegRow :=
  [ ⟨0xb00000, [], 4, [⟨0, 1, .rw, 0⟩]⟩,
    ⟨0xb00004, [], 4, [⟨0, 16, .ro, 0x600⟩]⟩,
    ⟨0xb00008, [], 4, [⟨0, 8, .ro, 0⟩, ⟨31, 1, .rw1c, 0⟩]⟩,
    ⟨0xb00010, [], 8, [⟨0, 64, .ro, 0⟩]⟩,
    ⟨0xb00018, [], 8, [⟨0, 64, .ro, 0⟩]⟩ ]
def rows_rc : List RegRow := rows_rc0
/-- Rows of the register map: aud, part 0. -/
def rows_aud0 : List RegRow :=
  [ ⟨0xc00000, [], 4, [⟨0, 1, .rw, 0⟩]⟩,
    ⟨0xc00010, [], 4, [⟨0, 8, .rw, 0⟩, ⟨8, 3, .rw, 0⟩, ⟨12, 2, .ro, 0⟩, ⟨31, 1, .rw, 0⟩]⟩,
    ⟨0xc00020, [], 8, [⟨0, 1, .rw, 0⟩, ⟨1, 1, .rw, 0⟩, ⟨2, 3, .rw, 0⟩, ⟨5, 1, .rw, 1⟩, ⟨6, 2, .ro, 0⟩, ⟨8, 8, .rw, 0x20⟩, ⟨16, 16, .rw, 0x8000⟩]⟩,
    ⟨0xc00028, [], 8, [⟨0, 16, .rw, 0x1000⟩, ⟨16, 16, .rw, 0x10⟩, ⟨32, 16, .rw, 0⟩, ⟨48, 16, .rw, 0xffff⟩]⟩,
    ⟨0xc00030, [], 4, [⟨0, 16, .ro, 0x8000⟩, ⟨16, 1, .ro, 0⟩, ⟨17, 1, .rw1c, 0⟩, ⟨18, 1, .rw1c, 0⟩]⟩,
    ⟨0xc01000, [(8, 0x100)], 4, [⟨0, 1, .rw, 0⟩, ⟨1, 1, .rw, 0⟩, ⟨2, 3, .rw, 4⟩, ⟨5, 1, .rw, 0⟩, ⟨6, 1, .rw, 1⟩, ⟨7, 1, .rw, 0⟩, ⟨8, 1, .rw, 0⟩, ⟨9, 1, .rw, 0⟩]⟩,
    ⟨0xc01004, [(8, 0x100)], 4, [⟨0, 1, .ro, 0⟩, ⟨1, 1, .rw1c, 0⟩, ⟨2, 4, .ro, 0⟩, ⟨6, 4, .ro, 0⟩]⟩,
    ⟨0xc01008, [(8, 0x100), (2, 4)], 4, [⟨0, 32, .rw, 0⟩]⟩,
    ⟨0xc01040, [(8, 0x100), (6, 8)], 8, [⟨0, 64, .ro, 0⟩]⟩,
    ⟨0xc02000, [(8, 0x100), (2, 0x80), (32, 4)], 4, [⟨0, 9, .rw, 0⟩, ⟨9, 6, .rw, 0⟩]⟩,
    ⟨0xc40000, [(512, 0x80)], 8, [⟨2, 62, .rw, 0⟩]⟩,
    ⟨0xc40008, [(512, 0x80)], 8, [⟨0, 7, .rw, 0⟩, ⟨7, 1, .rw, 0⟩, ⟨8, 2, .rw, 0⟩, ⟨10, 1, .rw, 0⟩, ⟨12, 16, .rw, 0x30⟩, ⟨32, 16, .rw, 0x400⟩, ⟨63, 1, .rw, 0⟩]⟩,
    ⟨0xc40010, [(512, 0x80)], 4, [⟨0, 2, .ro, 0⟩, ⟨2, 1, .ro, 0⟩]⟩,
    ⟨0xc40018, [(512, 0x80), (6, 8)], 8, [⟨0, 64, .ro, 0⟩]⟩,
    ⟨0xc60000, [(16384, 4)], 4, [⟨0, 6, .rw, 0⟩, ⟨6, 7, .rw, 0⟩, ⟨13, 1, .rw, 1⟩, ⟨14, 1, .rw, 0⟩]⟩ ]
def rows_aud : List RegRow := rows_aud0
/-- Rows of the register map: mux, part 0. -/
def rows_mux0 : List RegRow :=
  [ ⟨0xc80000, [], 4, [⟨0, 1, .rw, 0⟩]⟩,
    ⟨0xc81000, [(512, 4)], 4, [⟨0, 2, .rw, 0⟩, ⟨2, 1, .ro, 0⟩, ⟨3, 1, .wo, 0⟩, ⟨16, 14, .ro, 0⟩]⟩,
    ⟨0xc82000, [], 4, [⟨0, 9, .rw, 0⟩]⟩,
    ⟨0xc82010, [(8, 4)], 4, [⟨0, 32, .wo, 0⟩]⟩,
    ⟨0xc82030, [(4, 4)], 4, [⟨0, 32, .wo, 0⟩]⟩,
    ⟨0xc90000, [(2048, 0x20)], 8, [⟨0, 1, .rw, 0⟩, ⟨1, 2, .rw, 0⟩, ⟨3, 3, .rw, 7⟩, ⟨6, 1, .rw, 0⟩, ⟨8, 9, .rw, 0⟩, ⟨17, 6, .rw, 0⟩, ⟨23, 3, .rw, 1⟩]⟩,
    ⟨0xc90008, [(2048, 0x20)], 8, [⟨0, 13, .rw, 0x1000⟩, ⟨16, 13, .rw, 0x100⟩, ⟨32, 13, .rw, 0x101⟩, ⟨48, 13, .rw, 0x102⟩]⟩,
    ⟨0xc90010, [(2048, 0x20)], 8, [⟨0, 32, .rw, 0⟩, ⟨32, 24, .rw, 0⟩, ⟨56, 8, .rw, 0x14⟩]⟩,
    ⟨0xc90018, [(2048, 0x20)], 4, [⟨0, 2, .ro, 0⟩, ⟨2, 1, .ro, 0⟩, ⟨3, 1, .ro, 0⟩]⟩,
    ⟨0xca0000, [(256, 0x10)], 8, [⟨11, 52, .rw, 0⟩, ⟨63, 1, .rw, 0⟩]⟩,
    ⟨0xcb0000, [(4, 8)], 8, [⟨0, 64, .ro, 0⟩]⟩ ]
def rows_mux : List RegRow := rows_mux0
/-- Rows of the register map: egr, part 0. -/
def rows_egr0 : List RegRow :=
  [ ⟨0xd00000, [], 4, [⟨0, 1, .rw, 0⟩]⟩,
    ⟨0xd00100, [(4, 4)], 4, [⟨0, 14, .rw, 0⟩]⟩,
    ⟨0xd01080, [(4, 0x100), (10, 8)], 8, [⟨0, 64, .ro, 0⟩]⟩,
    ⟨0xd10000, [(16, 0x1000)], 4, [⟨0, 1, .rw, 0⟩, ⟨1, 9, .rw, 0⟩, ⟨10, 1, .wo, 0⟩, ⟨11, 1, .ro, 0⟩, ⟨12, 1, .ro, 0⟩]⟩,
    ⟨0xd10008, [(16, 0x1000)], 8, [⟨0, 64, .rw, 0⟩]⟩,
    ⟨0xd10010, [(16, 0x1000)], 4, [⟨0, 32, .rw, 0⟩]⟩,
    ⟨0xd10018, [(16, 0x1000)], 8, [⟨0, 64, .ro, 0⟩]⟩,
    ⟨0xd10020, [(16, 0x1000), (5, 4)], 4, [⟨0, 14, .rw, 0x2400⟩]⟩,
    ⟨0xd10040, [(16, 0x1000), (6, 8)], 8, [⟨0, 64, .ro, 0⟩]⟩,
    ⟨0xd10800, [(16, 0x1000), (2, 0x400), (256, 4)], 4, [⟨0, 5, .rw, 0x1f⟩, ⟨8, 24, .rw, 0⟩]⟩,
    ⟨0xd40000, [(16, 0x4000), (4096, 4)], 4, [⟨0, 8, .rw, 1⟩]⟩ ]
def rows_egr : List RegRow := rows_egr0
/-- Rows of the register map: wl, part 0. -/
def rows_wl0 : List RegRow :=
  [ ⟨0xe00000, [(3, 0x40000)], 4, [⟨0, 1, .rw, 0⟩, ⟨1, 2, .rw, 0⟩, ⟨3, 1, .rw, 0⟩, ⟨4, 1, .wo, 0⟩, ⟨16, 16, .rw, 0x3e8⟩]⟩,
    ⟨0xe00004, [(3, 0x40000)], 4, [⟨0, 3, .ro, 0⟩, ⟨3, 1, .ro, 0⟩, ⟨4, 1, .ro, 0⟩, ⟨5, 2, .ro, 0⟩, ⟨7, 2, .ro, 0⟩, ⟨9, 1, .ro, 0⟩, ⟨10, 1, .rw1c, 0⟩]⟩,
    ⟨0xe00008, [(3, 0x40000)], 4, [⟨0, 10, .rw, 0xc0⟩, ⟨10, 10, .rw, 0x100⟩, ⟨20, 10, .rw, 0x40⟩]⟩,
    ⟨0xe0000c, [(3, 0x40000)], 4, [⟨0, 16, .rw, 0x32⟩]⟩,
    ⟨0xe00100, [(3, 0x40000), (17, 8)], 4, [⟨0, 5, .rw, 8⟩, ⟨5, 6, .rw, 0x14⟩, ⟨11, 1, .rw, 1⟩, ⟨12, 1, .wo, 0⟩]⟩,
    ⟨0xe00104, [(3, 0x40000), (17, 8)], 4, [⟨0, 1, .ro, 0⟩, ⟨1, 1, .ro, 0⟩, ⟨2, 1, .rw1c, 0⟩, ⟨3, 1, .ro, 0⟩, ⟨4, 5, .ro, 0⟩, ⟨9, 1, .ro, 0⟩, ⟨16, 8, .ro, 0⟩]⟩,
    ⟨0xe00200, [(3, 0x40000), (4, 8)], 8, [⟨0, 32, .rw, 0⟩, ⟨32, 32, .rw, 0⟩]⟩,
    ⟨0xe00400, [(3, 0x40000), (13, 8)], 8, [⟨0, 64, .ro, 0⟩]⟩,
    ⟨0xe00500, [(3, 0x40000), (3, 0x20), (4, 8)], 8, [⟨0, 64, .ro, 0⟩]⟩ ]
def rows_wl : List RegRow := rows_wl0
/-- Rows of the register map: clb, part 0. -/
def rows_clb0 : List RegRow :=
  [ ⟨0xf00000, [], 4, [⟨0, 1, .rw, 0⟩, ⟨1, 3, .rw, 0⟩]⟩,
    ⟨0xf00004, [], 4, [⟨0, 1, .ro, 0⟩, ⟨1, 2, .ro, 0⟩, ⟨3, 1, .rw1c, 0⟩, ⟨4, 1, .ro, 0⟩]⟩,
    ⟨0xf00100, [(4, 8)], 8, [⟨0, 64, .ro, 0⟩]⟩,
    ⟨0xf01000, [(64, 0x100)], 8, [⟨0, 1, .rw, 0⟩, ⟨1, 1, .rw, 0⟩, ⟨2, 7, .rw, 0⟩, ⟨10, 8, .rw, 0⟩, ⟨18, 2, .rw, 0⟩, ⟨20, 4, .rw, 2⟩, ⟨24, 2, .ro, 0⟩, ⟨32, 3, .rw, 0⟩]⟩,
    ⟨0xf01008, [(64, 0x100)], 8, [⟨0, 64, .rw, 0⟩]⟩,
    ⟨0xf01010, [(64, 0x100)], 8, [⟨0, 64, .rw, 0⟩]⟩,
    ⟨0xf01018, [(64, 0x100)], 8, [⟨0, 64, .rw, 0⟩]⟩,
    ⟨0xf01020, [(64, 0x100)], 4, [⟨0, 1, .wo, 0⟩]⟩,
    ⟨0xf01024, [(64, 0x100)], 4, [⟨0, 2, .ro, 0⟩, ⟨2, 4, .ro, 0⟩, ⟨6, 1, .ro, 0⟩, ⟨7, 1, .ro, 0⟩, ⟨8, 1, .ro, 0⟩, ⟨16, 16, .ro, 0⟩]⟩,
    ⟨0xf01028, [(64, 0x100)], 8, [⟨0, 32, .ro, 0⟩, ⟨32, 3, .ro, 0⟩, ⟨63, 1, .ro, 0⟩]⟩,
    ⟨0xf01030, [(64, 0x100)], 8, [⟨0, 64, .ro, 0⟩]⟩,
    ⟨0xf01040, [(64, 0x100), (9, 8)], 8, [⟨0, 64, .ro, 0⟩]⟩ ]
def rows_clb : List RegRow := rows_clb0
/-- Rows of the register map: hlt, part 0. -/
def rows_hlt0 : List RegRow :=
  [ ⟨0xf10000, [], 4, [⟨0, 1, .rw, 0⟩, ⟨1, 1, .rw, 0⟩, ⟨2, 1, .rw, 1⟩, ⟨3, 1, .rw, 1⟩, ⟨4, 1, .rw, 1⟩, ⟨5, 2, .ro, 0⟩]⟩,
    ⟨0xf10004, [], 4, [⟨0, 8, .rw, 0x19⟩, ⟨8, 8, .rw, 0xf⟩]⟩,
    ⟨0xf10008, [], 4, [⟨0, 16, .ro, 0⟩, ⟨16, 6, .ro, 0x14⟩]⟩,
    ⟨0xf1000c, [], 4, [⟨0, 16, .ro, 0xffff⟩]⟩,
    ⟨0xf10010, [], 4, [⟨0, 6, .ro, 0⟩]⟩,
    ⟨0xf11000, [(512, 4)], 4, [⟨0, 16, .ro, 0⟩]⟩,
    ⟨0xf12000, [(67, 4)], 4, [⟨0, 8, .ro, 0⟩]⟩ ]
def rows_hlt : List RegRow := rows_hlt0
/-- Rows of the register map: sec, part 0. -/
def rows_sec0 : List RegRow :=
  [ ⟨0xf20000, [], 4, [⟨0, 2, .ro, 0⟩, ⟨2, 2, .ro, 0⟩, ⟨4, 1, .rw1c, 0⟩, ⟨5, 1, .ro, 0⟩, ⟨6, 16, .ro, 0⟩, ⟨22, 1, .ro, 0⟩]⟩,
    ⟨0xf20004, [], 4, [⟨0, 1, .rw, 0⟩, ⟨1, 1, .wo, 0⟩, ⟨2, 1, .rw, 0⟩]⟩,
    ⟨0xf20008, [], 4, [⟨0, 23, .rw, 0⟩, ⟨31, 1, .wo, 0⟩]⟩,
    ⟨0xf2000c, [(16, 4)], 4, [⟨0, 32, .rw, 0⟩]⟩,
    ⟨0xf20050, [], 4, [⟨0, 16, .ro, 0⟩, ⟨16, 4, .ro, 0⟩, ⟨20, 1, .ro, 0⟩]⟩,
    ⟨0xf21000, [(16, 0x80)], 4, [⟨0, 1, .ro, 0⟩, ⟨1, 1, .wo, 0⟩]⟩,
    ⟨0xf21004, [(16, 0x80), (24, 4)], 4, [⟨0, 32, .wo, 0⟩]⟩ ]
def rows_sec : List RegRow := rows_sec0
/-- Rows of the register map: cons, part 0. -/
def rows_cons0 : List RegRow :=
  [ ⟨0xf30000, [], 4, [⟨0, 1, .rw, 0⟩, ⟨16, 16, .rw, 0⟩]⟩,
    ⟨0xf30008, [], 4, [⟨0, 8, .rw, 0xff⟩, ⟨31, 1, .wo, 0⟩]⟩,
    ⟨0xf3000c, [], 4, [⟨0, 1, .ro, 0⟩, ⟨1, 2, .ro, 0⟩, ⟨3, 8, .ro, 0⟩]⟩,
    ⟨0xf30010, [], 8, [⟨12, 52, .rw, 0⟩]⟩,
    ⟨0xf30018, [], 4, [⟨0, 32, .rw, 0⟩]⟩,
    ⟨0xf3001c, [], 4, [⟨0, 32, .ro, 0⟩]⟩,
    ⟨0xf30020, [], 8, [⟨0, 64, .ro, 0⟩]⟩,
    ⟨0xf30028, [], 8, [⟨0, 64, .ro, 0⟩]⟩,
    ⟨0xf30040, [(8, 8)], 8, [⟨0, 64, .ro, 0⟩]⟩,
    ⟨0xf31000, [(128, 0x20), (4, 8)], 8, [⟨0, 64, .ro, 0⟩]⟩,
    ⟨0xf32000, [(256, 0x20), (4, 8)], 8, [⟨0, 64, .ro, 0⟩]⟩,
    ⟨0xf34000, [(512, 0x10), (2, 8)], 8, [⟨0, 64, .ro, 0⟩]⟩ ]
def rows_cons : List RegRow := rows_cons0
/-- Rows of the register map: ctx, part 0. -/
def rows_ctx0 : List RegRow :=
  [ ⟨0x1000000, [(256, 0x30000)], 8, [⟨0, 64, .ro, 0⟩]⟩,
    ⟨0x1000008, [(256, 0x30000)], 8, [⟨0, 64, .ro, 0⟩]⟩,
    ⟨0x1000010, [(256, 0x30000)], 8, [⟨0, 64, .ro, 0⟩]⟩,
    ⟨0x1000018, [(256, 0x30000)], 8, [⟨0, 64, .ro, 0⟩]⟩,
    ⟨0x1000020, [(256, 0x30000)], 4, [⟨0, 1, .rw, 0⟩, ⟨1, 1, .ro, 0⟩]⟩,
    ⟨0x1000028, [(256, 0x30000)], 8, [⟨0, 64, .ro, 0⟩]⟩,
    ⟨0x1000100, [(256, 0x30000)], 4, [⟨0, 8, .ro, 0⟩, ⟨8, 1, .ro, 0⟩]⟩,
    ⟨0x1000108, [(256, 0x30000)], 4, [⟨0, 6, .wo, 0⟩]⟩,
    ⟨0x1000110, [(256, 0x30000)], 4, [⟨0, 3, .ro, 0⟩, ⟨3, 1, .ro, 0⟩, ⟨8, 8, .ro, 0⟩, ⟨16, 16, .ro, 0⟩]⟩,
    ⟨0x1001000, [(256, 0x30000)], 8, [⟨0, 5, .srw, 1⟩, ⟨5, 1, .srw, 1⟩, ⟨6, 1, .srw, 1⟩, ⟨7, 1, .srw, 1⟩, ⟨8, 1, .srw, 0⟩, ⟨9, 1, .srw, 0⟩, ⟨16, 16, .srw, 0⟩]⟩,
    ⟨0x1001008, [(256, 0x30000)], 4, [⟨0, 8, .srw, 0⟩]⟩,
    ⟨0x1001010, [(256, 0x30000)], 4, [⟨0, 1, .srw, 0⟩]⟩,
    ⟨0x1001018, [(256, 0x30000)], 4, [⟨0, 10, .srw, 0⟩, ⟨16, 5, .srw, 2⟩, ⟨24, 1, .srw, 1⟩]⟩,
    ⟨0x1001020, [(256, 0x30000)], 4, [⟨0, 8, .srw, 1⟩, ⟨8, 8, .srw, 1⟩, ⟨16, 8, .srw, 1⟩, ⟨24, 1, .srw, 0⟩, ⟨25, 3, .srw, 0⟩, ⟨28, 1, .srw, 0⟩, ⟨29, 1, .srw, 0⟩]⟩,
    ⟨0x1001028, [(256, 0x30000), (6, 4)], 4, [⟨0, 32, .srw, 0⟩]⟩,
    ⟨0x1001040, [(256, 0x30000)], 4, [⟨0, 16, .srw, 0⟩, ⟨16, 16, .srw, 0⟩]⟩,
    ⟨0x1001100, [(256, 0x30000), (8, 0x40)], 8, [⟨0, 1, .rw, 0⟩, ⟨1, 1, .rw, 0⟩, ⟨2, 3, .rw, 0⟩, ⟨5, 1, .rw, 0⟩, ⟨6, 8, .rw, 0⟩, ⟨14, 2, .rw, 1⟩, ⟨16, 8, .rw, 2⟩, ⟨24, 1, .rw, 0⟩, ⟨25, 1, .rw, 1⟩, ⟨26, 1, .rw, 1⟩, ⟨27, 1, .rw, 0⟩, ⟨28, 1, .rw, 1⟩, ⟨29, 1, .rw, 1⟩, ⟨30, 1, .rw, 0⟩]⟩,
    ⟨0x1001108, [(256, 0x30000), (8, 0x40)], 4, [⟨0, 5, .rw, 1⟩, ⟨5, 1, .rw, 1⟩]⟩,
    ⟨0x1001110, [(256, 0x30000), (8, 0x40), (2, 8)], 8, [⟨0, 64, .rw, 0⟩]⟩,
    ⟨0x1001120, [(256, 0x30000), (8, 0x40)], 8, [⟨12, 52, .rw, 0⟩]⟩,
    ⟨0x1001128, [(256, 0x30000), (8, 0x40)], 4, [⟨0, 5, .rw, 0⟩, ⟨8, 18, .rw, 0⟩]⟩,
    ⟨0x1001400, [(256, 0x30000)], 4, [⟨0, 1, .rw, 0⟩, ⟨1, 1, .rw, 0⟩, ⟨2, 1, .rw, 0⟩, ⟨3, 1, .rw, 0⟩]⟩,
    ⟨0x1001408, [(256, 0x30000)], 8, [⟨12, 52, .rw, 0⟩]⟩,
    ⟨0x1001410, [(256, 0x30000)], 4, [⟨0, 18, .rw, 0⟩]⟩,
    ⟨0x1001414, [(256, 0x30000)], 4, [⟨0, 13, .rw, 0x100⟩, ⟨16, 13, .rw, 0x101⟩, ⟨29, 1, .rw, 0⟩]⟩ ]
/-- Rows of the register map: ctx, part 1. -/
def rows_ctx1 : List RegRow :=
  [ ⟨0x1001418, [(256, 0x30000)], 4, [⟨0, 16, .rw, 0x7d0⟩]⟩,
    ⟨0x1001420, [(256, 0x30000)], 8, [⟨0, 64, .rw, 0⟩]⟩,
    ⟨0x1001428, [(256, 0x30000)], 8, [⟨12, 52, .rw, 0⟩]⟩,
    ⟨0x1001430, [(256, 0x30000)], 4, [⟨0, 18, .rw, 0⟩, ⟨18, 6, .rw, 0⟩, ⟨29, 2, .ro, 0⟩, ⟨31, 1, .rw, 0⟩]⟩,
    ⟨0x1001434, [(256, 0x30000)], 4, [⟨0, 1, .rw, 0⟩, ⟨1, 1, .rw, 0⟩, ⟨2, 1, .rw, 0⟩]⟩,
    ⟨0x1001438, [(256, 0x30000)], 4, [⟨0, 6, .wo, 0⟩]⟩,
    ⟨0x100143c, [(256, 0x30000)], 4, [⟨0, 14, .rw, 0⟩]⟩,
    ⟨0x1001440, [(256, 0x30000)], 4, [⟨0, 8, .rw, 0⟩, ⟨8, 1, .rw, 0⟩]⟩,
    ⟨0x1001800, [(256, 0x30000)], 8, [⟨0, 32, .rw, 0⟩, ⟨32, 32, .rw, 0⟩]⟩,
    ⟨0x1001808, [(256, 0x30000)], 4, [⟨0, 13, .rw, 0⟩]⟩,
    ⟨0x100180c, [(256, 0x30000)], 4, [⟨0, 25, .rw, 0x1388⟩]⟩,
    ⟨0x1001810, [(256, 0x30000)], 8, [⟨0, 16, .rw, 0x3e8⟩, ⟨24, 24, .rw, 0⟩]⟩,
    ⟨0x1001818, [(256, 0x30000)], 8, [⟨0, 24, .ro, 0⟩, ⟨32, 25, .ro, 0⟩]⟩,
    ⟨0x1002000, [(256, 0x30000), (8, 0x400)], 8, [⟨0, 32, .srw, 0⟩, ⟨32, 1, .srw, 0⟩]⟩,
    ⟨0x1002008, [(256, 0x30000), (8, 0x400)], 8, [⟨0, 32, .srw, 0⟩, ⟨32, 32, .srw, 0⟩]⟩,
    ⟨0x1002010, [(256, 0x30000), (8, 0x400)], 4, [⟨0, 32, .srw, 0⟩]⟩,
    ⟨0x1002014, [(256, 0x30000), (8, 0x400)], 4, [⟨0, 6, .srw, 0⟩, ⟨8, 6, .srw, 0x33⟩, ⟨16, 6, .srw, 0x20⟩, ⟨24, 4, .srw, 6⟩]⟩,
    ⟨0x1002018, [(256, 0x30000), (8, 0x400)], 4, [⟨0, 8, .srw, 0x20⟩, ⟨8, 8, .srw, 0x60⟩]⟩,
    ⟨0x100201c, [(256, 0x30000), (8, 0x400)], 4, [⟨0, 16, .srw, 0⟩, ⟨16, 16, .srw, 0⟩]⟩,
    ⟨0x1002020, [(256, 0x30000), (8, 0x400)], 4, [⟨0, 32, .srw, 0⟩]⟩,
    ⟨0x1004000, [(256, 0x30000)], 8, [⟨0, 16, .ro, 0⟩, ⟨16, 1, .ro, 0⟩, ⟨17, 1, .ro, 0⟩]⟩,
    ⟨0x1004008, [(256, 0x30000)], 8, [⟨0, 64, .ro, 0⟩]⟩,
    ⟨0x1004010, [(256, 0x30000)], 8, [⟨0, 64, .ro, 0⟩]⟩,
    ⟨0x1004040, [(256, 0x30000), (16, 8)], 8, [⟨0, 64, .ro, 0⟩]⟩,
    ⟨0x1005000, [(256, 0x30000), (64, 0x40), (8, 8)], 8, [⟨0, 64, .ro, 0⟩]⟩ ]
/-- Rows of the register map: ctx, part 2. -/
def rows_ctx2 : List RegRow :=
  [ ⟨0x1006000, [(256, 0x30000), (32, 0x40), (8, 8)], 8, [⟨0, 64, .ro, 0⟩]⟩,
    ⟨0x1006800, [(256, 0x30000), (8, 0x40), (8, 8)], 8, [⟨0, 64, .ro, 0⟩]⟩,
    ⟨0x1006a00, [(256, 0x30000)], 8, [⟨0, 64, .ro, 0⟩]⟩,
    ⟨0x1006a08, [(256, 0x30000)], 4, [⟨0, 3, .ro, 0⟩, ⟨3, 1, .ro, 0⟩]⟩,
    ⟨0x1006a10, [(256, 0x30000)], 8, [⟨0, 64, .ro, 0⟩]⟩,
    ⟨0x1006a80, [(256, 0x30000), (8, 8)], 8, [⟨0, 64, .ro, 0⟩]⟩,
    ⟨0x1006c00, [(256, 0x30000), (8, 0x80), (16, 8)], 8, [⟨0, 2, .ro, 0⟩, ⟨2, 1, .ro, 0⟩, ⟨3, 1, .ro, 0⟩, ⟨32, 32, .ro, 0⟩]⟩,
    ⟨0x1007000, [(256, 0x30000), (8, 0x80), (16, 8)], 8, [⟨0, 64, .ro, 0⟩]⟩,
    ⟨0x1007800, [(256, 0x30000)], 4, [⟨0, 8, .ro, 0⟩, ⟨16, 16, .ro, 0⟩]⟩,
    ⟨0x1007808, [(256, 0x30000)], 8, [⟨0, 64, .ro, 0⟩]⟩,
    ⟨0x1007810, [(256, 0x30000), (14, 8)], 8, [⟨0, 64, .ro, 0⟩]⟩,
    ⟨0x1007880, [(256, 0x30000), (64, 0x10), (2, 8)], 8, [⟨0, 64, .ro, 0⟩]⟩,
    ⟨0x1007c80, [(256, 0x30000), (2, 8)], 8, [⟨0, 64, .ro, 0⟩]⟩,
    ⟨0x1010000, [(256, 0x30000), (8, 0x4000), (256, 0x40), (8, 8)], 8, [⟨0, 64, .ro, 0⟩]⟩ ]
def rows_ctx : List RegRow := rows_ctx0 ++ rows_ctx1 ++ rows_ctx2
/-- Rows of the register map: ingFlow, part 0. -/
def rows_ingFlow0 : List RegRow :=
  [ ⟨0x100000000, [(16384, 0x100)], 4, [⟨0, 1, .rw, 0⟩, ⟨1, 1, .rw, 0⟩, ⟨2, 1, .rw, 0⟩, ⟨3, 1, .rw, 0⟩, ⟨4, 1, .rw, 0⟩]⟩,
    ⟨0x100000004, [(16384, 0x100)], 4, [⟨0, 12, .rw, 0⟩]⟩,
    ⟨0x100000008, [(16384, 0x100)], 4, [⟨0, 32, .rw, 0⟩]⟩,
    ⟨0x10000000c, [(16384, 0x100)], 4, [⟨0, 16, .rw, 0⟩, ⟨16, 16, .rw, 0⟩]⟩,
    ⟨0x100000010, [(16384, 0x100), (4, 4)], 4, [⟨0, 32, .rw, 0⟩]⟩,
    ⟨0x100000020, [(16384, 0x100), (4, 4)], 4, [⟨0, 32, .rw, 0⟩]⟩,
    ⟨0x100000030, [(16384, 0x100)], 8, [⟨0, 4, .rw, 0⟩, ⟨4, 7, .rw, 0⟩, ⟨11, 1, .rw, 0⟩, ⟨12, 8, .rw, 0⟩, ⟨20, 12, .rw, 0⟩, ⟨32, 14, .rw, 0x5dc⟩]⟩,
    ⟨0x100000038, [(16384, 0x100)], 8, [⟨0, 13, .rw, 0⟩, ⟨13, 13, .rw, 0⟩, ⟨26, 1, .rw, 0⟩, ⟨27, 1, .rw, 0⟩, ⟨28, 1, .rw, 0⟩, ⟨29, 1, .rw, 0⟩, ⟨32, 13, .rw, 0⟩]⟩,
    ⟨0x100000040, [(16384, 0x100)], 4, [⟨0, 11, .rw, 0⟩, ⟨11, 1, .rw, 0⟩, ⟨12, 1, .rw, 0⟩]⟩,
    ⟨0x100000044, [(16384, 0x100)], 4, [⟨0, 2, .ro, 0⟩]⟩,
    ⟨0x100000048, [(16384, 0x100)], 8, [⟨0, 64, .ro, 0⟩]⟩,
    ⟨0x100000080, [(16384, 0x100), (10, 8)], 8, [⟨0, 64, .ro, 0⟩]⟩ ]
def rows_ingFlow : List RegRow := rows_ingFlow0
/-- Rows of the register map: egrFlow, part 0. -/
def rows_egrFlow0 : List RegRow :=
  [ ⟨0x200000000, [(16384, 0x100)], 8, [⟨0, 1, .rw, 0⟩, ⟨1, 4, .rw, 0⟩, ⟨5, 1, .rw, 0⟩, ⟨6, 1, .rw, 0⟩, ⟨7, 4, .rw, 0⟩, ⟨11, 4, .rw, 0⟩, ⟨16, 2, .rw, 3⟩, ⟨18, 12, .rw, 0⟩, ⟨30, 1, .rw, 0⟩, ⟨32, 9, .rw, 0⟩, ⟨41, 6, .rw, 0⟩, ⟨47, 1, .rw, 0⟩, ⟨48, 2, .ro, 0⟩, ⟨50, 2, .rw, 0⟩]⟩,
    ⟨0x200000008, [(16384, 0x100)], 8, [⟨0, 11, .rw, 0⟩, ⟨16, 9, .rw, 0⟩, ⟨25, 1, .rw, 0⟩, ⟨32, 14, .rw, 0x578⟩]⟩,
    ⟨0x200000010, [(16384, 0x100)], 8, [⟨0, 32, .rw, 0⟩, ⟨32, 7, .rw, 0x60⟩, ⟨40, 16, .rw, 0⟩]⟩,
    ⟨0x200000018, [(16384, 0x100)], 4, [⟨0, 12, .rw, 0⟩, ⟨12, 1, .rw, 0⟩, ⟨13, 3, .rw, 0⟩, ⟨16, 6, .rw, 0⟩, ⟨24, 8, .rw, 0x40⟩]⟩,
    ⟨0x20000001c, [(16384, 0x100)], 4, [⟨0, 16, .rw, 0⟩, ⟨16, 16, .rw, 0⟩]⟩,
    ⟨0x200000020, [(16384, 0x100)], 4, [⟨0, 16, .rw, 0⟩, ⟨16, 16, .rw, 0⟩]⟩,
    ⟨0x200000028, [(16384, 0x100)], 8, [⟨0, 48, .rw, 0⟩]⟩,
    ⟨0x200000030, [(16384, 0x100)], 8, [⟨0, 48, .rw, 0⟩]⟩,
    ⟨0x200000040, [(16384, 0x100), (4, 4)], 4, [⟨0, 32, .rw, 0⟩]⟩,
    ⟨0x200000050, [(16384, 0x100), (4, 4)], 4, [⟨0, 32, .rw, 0⟩]⟩,
    ⟨0x200000060, [(16384, 0x100), (4, 4)], 4, [⟨0, 32, .rw, 0⟩]⟩,
    ⟨0x200000070, [(16384, 0x100), (4, 4)], 4, [⟨0, 32, .rw, 0⟩]⟩,
    ⟨0x200000080, [(16384, 0x100), (10, 8)], 8, [⟨0, 64, .ro, 0⟩]⟩,
    ⟨0x2000000d0, [(16384, 0x100)], 8, [⟨0, 48, .ro, 0⟩]⟩ ]
def rows_egrFlow : List RegRow := rows_egrFlow0
/-- The rows of the block that holds a key (block map of R51). -/
def rowsOf (k : Nat) : List RegRow :=
  if k < 0x20000 then rows_gctl else
  if k < 0x40000 then rows_sieve else
  if k < 0x50000 then rows_heath else
  if k < 0x60000 then rows_pdk else
  if k < 0x80000 then rows_tb else
  if k < 0x100000 then rows_pcie else
  if k < 0x200000 then rows_dsp else
  if k < 0x300000 then rows_seq else
  if k < 0x400000 then rows_mem else
  if k < 0x600000 then rows_media else
  if k < 0x800000 then rows_ing else
  if k < 0x900000 then rows_prf else
  if k < 0xb00000 then rows_eng else
  if k < 0xc00000 then rows_rc else
  if k < 0xc80000 then rows_aud else
  if k < 0xd00000 then rows_mux else
  if k < 0xe00000 then rows_egr else
  if k < 0xf00000 then rows_wl else
  if k < 0xf10000 then rows_clb else
  if k < 0xf20000 then rows_hlt else
  if k < 0xf30000 then rows_sec else
  if k < 0x1000000 then rows_cons else
  if k < 0x4000000 then rows_ctx else
  if k < 0x200000000 then rows_ingFlow else
  rows_egrFlow

/-- Whether offset `d` from a row's base falls in an instance of the register, walking its repetitions
(count, stride), and if so the offset of that instance from the row's base. -/
def inDims : List (Nat × Nat) → Nat → Nat → Option Nat
  | [], bytes, d => if d < bytes then some 0 else none
  | (n, st) :: t, bytes, d =>
    if d / st < n then (inDims t bytes (d % st)).map (d / st * st + ·) else none

/-- The row whose register covers key `k`, with the key of that register (its lowest byte). -/
def findRow : List RegRow → Nat → Option (RegRow × Nat)
  | [], _ => none
  | r :: t, k =>
    if r.base ≤ k then
      match inDims r.dims r.bytes (k - r.base) with
      | some d => some (r, r.base + d)
      | none => findRow t k
    else findRow t k

/-- The register that covers key `k` (none: an unoccupied offset, R11 and R50). -/
def regAt (k : Nat) : Option (RegRow × Nat) := findRow (rowsOf k) k

/-- The reset value that a register's fields give together. -/
def RegRow.resetValue (r : RegRow) : Nat :=
  r.fields.foldl (fun a f => a + f.reset * 2 ^ f.lo) 0

/-- Reset value of the register with key `k`, taken from the map. -/
def mapReset (k : Nat) : Nat :=
  match regAt k with
  | some (r, b) => if b = k then r.resetValue else 0
  | none => 0

end Sys2Proof.Machine
end

