-- ==== Sys2Proof/Machine/Ops.lean ====
section
/-! DEFINITION. The named operations over the state: sparse tables, registers and their fields, device and sequencer
memory, time, free values, events, and the dispatcher's task entries, on which every meaning is built. -/

namespace Sys2Proof.Machine

/-! ### Sparse tables in canonical form -/

/-- First value listed under a key. -/
def tfind {V : Type} : Table V → Nat → Option V
  | [], _ => none
  | (a, v) :: t, k => if a = k then some v else tfind t k

/-- Insert a key, keeping the keys rising. -/
def tput {V : Type} : Table V → Nat → V → Table V
  | [], k, v => [(k, v)]
  | (a, w) :: t, k, v =>
    if a = k then (k, v) :: t
    else if k < a then (k, v) :: (a, w) :: t
    else (a, w) :: tput t k v

/-- Remove a key. -/
def tdel {V : Type} : Table V → Nat → Table V
  | [], _ => []
  | (a, w) :: t, k => if a = k then tdel t k else (a, w) :: tdel t k

/-- Read a table whose unlisted key `k` reads as `d k`. -/
def tget {V : Type} (d : Nat → V) (t : Table V) (k : Nat) : V := (tfind t k).getD (d k)

/-- Write a table whose unlisted key `k` reads as `d k`: a value equal to that is not listed. -/
def tset {V : Type} [DecidableEq V] (d : Nat → V) (t : Table V) (k : Nat) (v : V) : Table V :=
  if v = d k then tdel t k else tput t k v

/-- The canonical form: keys strictly rising from `lo`, and no entry equal to what the key reads as when unlisted. -/
def twf {V : Type} [DecidableEq V] (d : Nat → V) : Nat → Table V → Bool
  | _, [] => true
  | lo, (a, v) :: t => decide (lo ≤ a) && decide (v ≠ d a) && twf d (a + 1) t

/-- Insert into a list kept in order. -/
def insertBy {α : Type} (le : α → α → Bool) (x : α) : List α → List α
  | [] => [x]
  | y :: t => if le x y then x :: y :: t else y :: insertBy le x t

/-- Order a list; equal elements keep their order. -/
def sortBy {α : Type} (le : α → α → Bool) (l : List α) : List α := l.foldr (insertBy le) []

/-! ### Bit fields -/

/-- Bits [lo+w-1:lo] of a word, as a number. -/
def bitsOf (v : Word) (lo w : Nat) : Nat := (v.toNat / 2 ^ lo) % 2 ^ w

/-- A word with bits [lo+w-1:lo] replaced by the low w bits of x. -/
def withBits (v : Word) (lo w x : Nat) : Word :=
  BitVec.ofNat 64 (v.toNat % 2 ^ lo + x % 2 ^ w * 2 ^ lo + v.toNat / 2 ^ (lo + w) * 2 ^ (lo + w))

/-- Bit i of a number. -/
def bitAt (x i : Nat) : Bool := x / 2 ^ i % 2 = 1

/-- A signed value held in the low w bits of x. -/
def signedOf (x w : Nat) : Int := if bitAt x (w - 1) then (x % 2 ^ w : Nat) - (2 ^ w : Nat) else (x % 2 ^ w : Nat)

/-- The low w bits of a signed value. -/
def ofSigned (x : Int) (w : Nat) : Nat := (x % (2 ^ w : Nat)).toNat

/-- Number of set bits among the low w bits. -/
def popCount (x w : Nat) : Nat := (List.range w).foldl (fun a i => a + x / 2 ^ i % 2) 0

/-- Ceiling division. -/
def ceilDiv (a b : Nat) : Nat := (a + b - 1) / b

/-! ### Clock cycles -/

/-- The CLK_SEQ cycle (750 MHz) and the CLK_FAB cycle (1.5 GHz) of a raw time (01_picture_journey.md R24). -/
def seqCycle (r : Nat) : Nat := r * 3 / 4
/-- The raw time at which a CLK_SEQ cycle begins. -/
def seqNs (c : Nat) : Nat := (4 * c + 2) / 3
def fabCycle (r : Nat) : Nat := r * 3 / 2

/-! ### Registers -/

/-- The severity that a source's chapter gives it after reset (R628); sources 448 to 767 never report (R625). -/
def srcSeverity (n : Nat) : Nat :=
  if n = 9 then 3                                                              -- SIEVE_PARITY (R626)
  else if 134 ≤ n ∧ n < 390 then 2                                             -- engines (R289)
  else if 94 ≤ n ∧ n < 110 then (if (n - 94) % 4 = 0 then 2 else if (n - 94) % 4 = 1 then 1 else 0)   -- memory (R545)
  else if 411 ≤ n ∧ n < 426 then (if (n - 411) % 5 = 0 ∨ (n - 411) % 5 = 4 then 0 else 1)   -- links (R588)
  else if n ∈ [10, 12, 13, 14, 18, 29, 129, 406, 409, 410, 432, 433, 447] then 1   -- R676, R517, R190, R244, R385, R472, R476, R695
  else if 24 ≤ n ∧ n < 28 then 1                                               -- CORE_ERR (R134)
  else if 30 ≤ n ∧ n < 94 then 1                                               -- TRAP (R124)
  else if 110 ≤ n ∧ n < 126 then 1                                             -- lanes (R203)
  else if 130 ≤ n ∧ n < 134 then 1                                             -- Proofing and Scaler (R282)
  else if 390 ≤ n ∧ n < 406 then 1                                             -- trays (R288)
  else if 426 ≤ n ∧ n < 431 then 1                                             -- Claim Bus (R623)
  else if 438 ≤ n ∧ n < 446 then 1                                             -- Conservation audit (R701)
  else 0

/-- The class that R625 gives a source after reset. -/
def srcClass (n : Nat) : Nat :=
  (([(0, 8), (1, 10), (2, 18), (3, 23), (4, 24), (5, 28), (6, 30), (7, 94), (8, 110), (9, 126), (10, 130), (11, 132),
    (12, 134), (13, 390), (14, 406), (15, 407), (16, 409), (17, 410), (18, 411), (19, 426), (20, 432), (21, 436),
    (22, 438), (23, 446), (24, 448)] : List (Nat × Nat)).find? (fun p => n < p.2)).elim 0 (·.1)

/-- The reset value of the register with key `k`: the map's, except the Sieve's per-source configuration (R628). -/
def resetOf (k : Nat) : Word :=
  if 0x21000 ≤ k ∧ k < 0x21C00 then BitVec.ofNat 64 (srcSeverity ((k - 0x21000) / 4) + 4 * srcClass ((k - 0x21000) / 4))
  else BitVec.ofNat 64 (mapReset k)

/-- The value a register holds (its one home): for an SRW register the pending value of R7. -/
def State.reg (s : State) (k : Nat) : Word := tget resetOf s.regs k

/-- Set the value a register holds. -/
def State.setReg (s : State) (k : Nat) (v : Word) : State := { s with regs := tset resetOf s.regs k v }

/-- The value of a field. -/
def State.get (s : State) (f : Field) : Nat := bitsOf (s.reg f.key) f.lo f.w

/-- Whether a one-bit field is 1. -/
def State.flag (s : State) (f : Field) : Bool := s.get f = 1

/-- Set a field. -/
def State.set (s : State) (f : Field) (x : Nat) : State := s.setReg f.key (withBits (s.reg f.key) f.lo f.w x)

/-- Set a one-bit field from a Boolean. -/
def State.setFlag (s : State) (f : Field) (b : Bool) : State := s.set f (if b then 1 else 0)

/-- The value that a register held at the end of the preceding cycle of a clock, `cyc` giving the cycle of a raw time (R183, R551). -/
def State.regBefore (s : State) (cyc : Nat → Nat) (k : Nat) : Word :=
  (tfind s.before k).elim (s.reg k) (fun p => if cyc p.1 = cyc s.raw then p.2 else s.reg k)

/-- A register whose value of the preceding cycle is used is about to change. -/
def State.markBefore (s : State) (cyc : Nat → Nat) (k : Nat) : State := { s with before := tput s.before k (s.raw, s.regBefore cyc k) }

/-- A register whose value of the preceding cycle is used takes a value. -/
def State.setTimed (s : State) (cyc : Nat → Nat) (k : Nat) (v : Word) : State := (s.markBefore cyc k).setReg k v

/-- The value that a field had at the end of the preceding cycle. -/
def State.getBefore (s : State) (cyc : Nat → Nat) (f : Field) : Nat := bitsOf (s.regBefore cyc f.key) f.lo f.w

/-- Add to a register or field that counts, modulo its width. -/
def State.add (s : State) (f : Field) (n : Nat) : State := s.set f (s.get f + n)

/-- Count one event in a register or field. -/
def State.inc (s : State) (f : Field) : State := s.add f 1

/-- Count down, not below zero. -/
def State.dec (s : State) (f : Field) : State := s.set f (s.get f - 1)

/-- Count one event in a counter that saturates at its width's largest value. -/
def State.incSat (s : State) (f : Field) : State := if s.get f + 1 < 2 ^ f.w then s.inc f else s

/-- The signed value of a field. -/
def State.getSigned (s : State) (f : Field) : Int := signedOf (s.get f) f.w

/-- Set a field to a signed value. -/
def State.setSigned (s : State) (f : Field) (x : Int) : State := s.set f (ofSigned x f.w)

/-- The newest landed value of a key in snapshot n: the landed list is newest first (R64, R65). -/
def landedAt : List Landed → Nat → Nat → Option Word
  | [], _, _ => none
  | l :: t, k, n => if l.key = k ∧ l.snap ≤ n then some l.value else landedAt t k n

/-- A register's value in snapshot n: what landed last at or before it, or its reset value (R64). -/
def State.regIn (s : State) (k n : Nat) : Word := (landedAt s.landed k n).getD (resetOf k)

/-- A field's value in snapshot n. -/
def State.getIn (s : State) (f : Field) (n : Nat) : Nat := bitsOf (s.regIn f.key n) f.lo f.w

/-! ### Keys of repeated registers -/

/-- The instance of a register with one index, of n instances, that has key k. -/
def idx1 (f : Nat → Nat) (n k : Nat) : Option Nat :=
  let st := f 1 - f 0
  let d := k - f 0
  if f 0 ≤ k ∧ d % st = 0 ∧ d / st < n then some (d / st) else none

/-- The instance of a register with two indices, of n by m instances, that has key k. -/
def idx2 (f : Nat → Nat → Nat) (n m k : Nat) : Option (Nat × Nat) :=
  let st := f 1 0 - f 0 0
  let d := k - f 0 0
  if f 0 0 ≤ k ∧ d / st < n then (idx1 (f (d / st)) m k).map (fun j => (d / st, j)) else none

/-! ### Free values -/

/-- The free value that the next open value takes (log 3). -/
def State.free (s : State) : Word := Config.freeValue s.freeCtr

/-- The state after a free value has been taken. -/
def State.took (s : State) : State := { s with freeCtr := s.freeCtr + 1 }

/-! ### Memory -/

/-- First device physical address of the register region (R45). -/
def regBase : Nat := 0x5000000000

/-- Whether a device physical address lies in one of the four regions of R45. -/
def mapped (a : Nat) : Bool :=
  decide (a < 0x2100000000) || (decide (0x4000000000 ≤ a) && decide (a < 0x4004000000)) ||
  (decide (regBase ≤ a) && decide (a < 0x5004000000))

/-- The region of R45 that holds an address: 1 media service, 2 device-reserved, 3 shared buffer SRAM, 4 registers, 0 none. -/
def regionOf (a : Nat) : Nat :=
  if a < 0x2000000000 then 1 else if a < 0x2100000000 then 2 else if 0x4000000000 ≤ a ∧ a < 0x4004000000 then 3
  else if regBase ≤ a ∧ a < 0x5004000000 then 4 else 0

/-- Whether n bytes from `a` all lie in frame memory, in the shared buffer SRAM or in the register region (R45). -/
def mappedRange (a n : Nat) : Bool :=
  n = 0 || decide (a + n ≤ 0x2100000000) || (decide (0x4000000000 ≤ a) && decide (a + n ≤ 0x4004000000)) ||
  (decide (regBase ≤ a) && decide (a + n ≤ 0x5004000000))

/-- Whether a device physical address lies in the register region. -/
def inRegs (a : Nat) : Bool := decide (regBase ≤ a) && decide (a < 0x5004000000)

/-- What memory that nothing has written reads as (log 5). -/
def memReset (_ : Nat) : BitVec 8 := 0

/-- One byte of device memory. -/
def State.byte (s : State) (a : Nat) : BitVec 8 := tget memReset s.mem a

/-- A write to frame memory drops the reference-cache line that it overlaps, in every tray (R287). -/
def dropLine (t : Table (List Nat)) (a : Nat) : Table (List Nat) :=
  t.filterMap (fun (p : Nat × List Nat) =>
    let l := p.2.filter (fun x => decide (x ≠ a / 256))
    if l = [] then none else some (p.1, l))

/-- Write one byte of device memory. -/
def State.setByte (s : State) (a : Nat) (v : BitVec 8) : State := { s with mem := tset memReset s.mem a v, trayLines := dropLine s.trayLines a }

/-- n bytes of device memory from `a`, little-endian (R5). -/
def State.rd (s : State) (a : Nat) : Nat → Nat
  | 0 => 0
  | n + 1 => (s.byte a).toNat + 256 * s.rd (a + 1) n

/-- Write n bytes of device memory from `a`, little-endian (R5). -/
def State.wr (s : State) (a : Nat) : Nat → Nat → State
  | 0, _ => s
  | n + 1, v => (s.setByte a (BitVec.ofNat 8 v)).wr (a + 1) n (v / 256)

/-- Bytes of device memory from `a`, as a list. -/
def State.bytes (s : State) (a : Nat) : Nat → List (BitVec 8)
  | 0 => []
  | n + 1 => s.byte a :: s.bytes (a + 1) n

/-- Store a list of bytes from `a`. -/
def State.setBytes (s : State) (a : Nat) : List (BitVec 8) → State
  | [] => s
  | b :: t => (s.setByte a b).setBytes (a + 1) t

/-- Little-endian number of a list of bytes (R5). -/
def leNat : List (BitVec 8) → Nat
  | [] => 0
  | b :: t => b.toNat + 256 * leNat t

/-- n bytes of a number, little-endian (R5). -/
def leBytes : Nat → Nat → List (BitVec 8)
  | 0, _ => []
  | n + 1, v => BitVec.ofNat 8 v :: leBytes n (v / 256)

/-- Key of a byte of a sequencer's memories, numbered as SEQ_MEM_ADDR numbers them: 0x0000 to 0x7FFF instructions,
0x8000 to 0xFFFF data (R135). -/
def seqKey (n a : Nat) : Nat := n * 0x10000 + a

/-- One byte of sequencer memory. -/
def State.seqByte (s : State) (k : Nat) : BitVec 8 := tget memReset s.seqMem k

/-- Write one byte of sequencer memory. -/
def State.setSeqByte (s : State) (k : Nat) (v : BitVec 8) : State := { s with seqMem := tset memReset s.seqMem k v }

/-- Store bytes from offset `off` of a 32 KB half (instructions 0, data 0x8000) of sequencer n's memories: bytes beyond the half go nowhere, and an
uncorrectable error leaves each word that is written whole (03_morop.md R125, R752). -/
def State.seqStore (s : State) (n half off : Nat) (l : List (BitVec 8)) : State :=
  let l := l.take (0x8000 - off)
  let k := seqKey n (half + off)
  let s := l.zipIdx.foldl (fun s (p : BitVec 8 × Nat) => s.setSeqByte (k + p.2) p.1) s
  { s with seqBad := s.seqBad.filter (fun w => decide (8 * w < k) || decide (k + l.length < 8 * w + 8)) }

/-- n bytes of sequencer memory, little-endian. -/
def State.seqRd (s : State) (k : Nat) : Nat → Nat
  | 0 => 0
  | n + 1 => (s.seqByte k).toNat + 256 * s.seqRd (k + 1) n

/-- Write n bytes of sequencer memory, little-endian. -/
def State.seqWr (s : State) (k : Nat) : Nat → Nat → State
  | 0, _ => s
  | n + 1, v => (s.setSeqByte k (BitVec.ofNat 8 v)).seqWr (k + 1) n (v / 256)

/-- Whether any of n bytes from `k` lies in an 8-byte word with an uncorrectable error (R125). -/
def State.seqBadAt (s : State) (k n : Nat) : Bool := s.seqBad.any (fun w => decide (k / 8 ≤ w) && decide (w ≤ (k + n - 1) / 8))

/-! ### Time (12_timebase.md) -/

/-- Time passes to raw value `now` (never backwards). -/
def State.advance (s : State) (now : Nat) : State := { s with raw := max s.raw now }

/-- Local PTP time at raw value r (R491). -/
def State.localAt (s : State) (r : Nat) : Int :=
  (r : Int) + s.getSigned R.TB_OFFSET + ((s.tb.a : Int) + s.getSigned R.TB_RATE_NOW * ((r : Int) - s.tb.ra)) / 2 ^ 40

/-- Local PTP time now. -/
def State.now (s : State) : Int := s.localAt s.raw

/-- CLK_SLOW cycles (375 MHz) of a raw time. -/
def slowCycles (r : Nat) : Nat := r * 375 / 1000

/-! ### What leaves the device -/

/-- Record an output, newest first (log 7). -/
def State.emit (s : State) (o : Output) : State := { s with out := o :: s.out }

/-- Raise MSI-X vector v: its message is sent, or its pending bit is set while it is masked (R548). -/
def State.msix (s : State) (v : Nat) : State :=
  let e := tget (fun _ => ({} : MsixVec)) s.msixTable v
  if v < 512 then
    if e.masked then { s with msixTable := tset (fun _ => {}) s.msixTable v { e with pending := true } }
    else s.emit (.msix v e.addr e.data)
  else s

/-! ### Morop contexts and management cores -/

/-- Index of an agent's context: threads 0 to 255, cores 256 to 259. -/
def agentIx : Agent → Nat
  | .thread t => t
  | .core k => 256 + k

/-- A Morop context. -/
def State.thr (s : State) (i : Nat) : Thread := tget (fun _ => {}) s.threads i

/-- A thread's place in the issue. -/
def State.turn (s : State) (t : Nat) : IssueSlot := tget (fun _ => {}) s.turns t

/-- Replace a thread's place in the issue. -/
def State.setTurn (s : State) (t : Nat) (p : IssueSlot) : State := { s with turns := tset (fun _ => {}) s.turns t p }

/-- Replace a Morop context. -/
def State.setThr (s : State) (i : Nat) (t : Thread) : State := { s with threads := tset (fun _ => {}) s.threads i t }

/-- The rest of a management core. -/
def State.core (s : State) (k : Nat) : CoreX := tget (fun _ => {}) s.cores k

/-- Replace the rest of a management core. -/
def State.setCore (s : State) (k : Nat) (c : CoreX) : State := { s with cores := tset (fun _ => {}) s.cores k c }

/-- Raise interrupt line l of core k (R132). -/
def State.raiseLine (s : State) (k l : Nat) : State :=
  let c := s.core k
  if bitAt c.linePend l then s else s.setCore k { c with linePend := c.linePend + 2 ^ l }

/-- Raise interrupt line l of the four management cores. -/
def State.raiseLines (s : State) (l : Nat) : State :=
  (((s.raiseLine 0 l).raiseLine 1 l).raiseLine 2 l).raiseLine 3 l

/-- Set event bit e of a Morop context (R98, R167). -/
def State.setEvent (s : State) (i e : Nat) : State :=
  let t := s.thr i
  s.setThr i { t with epend := t.epend ||| BitVec.ofNat 64 (2 ^ (e % 64)) }

/-- A hardware event for a thread becomes a READY SEQ task without an entry (R98, R148). -/
def State.postThread (s : State) (t e : Nat) : State :=
  { s with hwSeq := s.hwSeq ++ [⟨t, e, s.readyCtr⟩], readyCtr := s.readyCtr + 1 }

/-- The thread bound to a channel (CTX_BIND). -/
def State.boundThread (s : State) (ch : Nat) : Option Nat :=
  if s.flag (R.CTX_BIND_VALID ch) then some (s.get (R.CTX_BIND_THREAD ch)) else none

/-- A hardware event for the thread bound to a channel. -/
def State.postCh (s : State) (ch e : Nat) : State :=
  match s.boundThread ch with
  | some t => s.postThread t e
  | none => s

/-- A hardware notice to the management processor complex: an event bit of a core, and line 0 (R148). -/
def State.notice (s : State) (kind : Nat) : State :=
  let k := (Config.noticeCore kind).val
  let e := (Config.noticeEvent kind).val
  let s := s.setEvent (256 + k) e
  let c := s.core k
  (s.setCore k { c with delivered := c.delivered ++ [(e, false)] }).raiseLine k 0

/-! ### Channels -/

/-- What the model keeps of a channel. -/
def State.chan (s : State) (ch : Nat) : ChanSt := tget (fun _ => {}) s.chans ch

/-- Replace what the model keeps of a channel. -/
def State.setChan (s : State) (ch : Nat) (c : ChanSt) : State := { s with chans := tset (fun _ => {}) s.chans ch c }

/-- Whether a channel is running. -/
def State.running (s : State) (ch : Nat) : Bool := (s.chan ch).running

/-! ### Whether the main die works -/

/-- The main die is powered and out of cold reset, and the device is not in PS3 (R651, R709). -/
def State.up (s : State) : Bool := s.pwrGood && decide (s.get R.HTH_PS_STATUS_STATE ≠ 3)

/-- The device is halted by an S3 record (R645). -/
def State.halted (s : State) : Bool := s.flag R.SIEVE_STATUS_HALTED

/-- The units that a halt stops and that PS2 gates may work (R645, R651). -/
def State.live (s : State) : Bool := s.up && !s.halted && decide (s.get R.HTH_PS_STATUS_STATE ≠ 2)

/-- The ingest path may work: as `live`, and in PS2 while PS2 holds ingest (R652). -/
def State.ingestOn (s : State) : Bool := s.up && !s.halted &&
  (decide (s.get R.HTH_PS_STATUS_STATE ≠ 2) || s.flag R.HTH_PS_STATUS_INGEST_HELD)

/-- The outcome of a command that always completes. -/
abbrev Out := Host.Outcome State Fault Refusal

/-- A command's effect while the main die is powered; without power nothing happens (log 1). -/
def whenUp (s : State) (f : State → State) : Out := .next (if s.up then f s else s)

/-- A command's effect while the main die is powered and not halted (R645, log 1). -/
def whenLive (s : State) (f : State → State) : Out := .next (if s.live then f s else s)

/-- A command's effect while the ingest path is powered (R652, log 1). -/
def whenIngest (s : State) (f : State → State) : Out := .next (if s.ingestOn then f s else s)

/-- Write a general register of a context; g0 discards (R85). -/
def Thread.wg (t : Thread) (r : Nat) (v : Word) : Thread := if r = 0 then t else { t with g := tset (fun _ => 0) t.g r v }

/-- Read a general register of a context; g0 is never written, so it reads as zero (R85). -/
def Thread.rg (t : Thread) (r : Nat) : Word := if r = 0 then 0 else tget (fun _ => 0) t.g r

/-! ### Task entries (04_dispatcher.md) -/

/-- A task entry. -/
def State.task (s : State) (e : Nat) : TaskEntry := tget (fun _ => {}) s.tasks e

/-- Replace a task entry. -/
def State.setTask (s : State) (e : Nat) (t : TaskEntry) : State := { s with tasks := tset (fun _ => {}) s.tasks e t }

/-- The handle of an entry (R117). -/
def handleOf (e gen : Nat) : Nat := e + 16384 * gen

/-- The entry numbers that are not FREE, lowest first. -/
def State.liveTasks (s : State) : List Nat := (s.tasks.filter (fun p => decide (p.2.st ≠ .free))).map (·.1)

/-- An entry returns to FREE: its generation stays until it leaves FREE again (R147), and the free counts rise (R192). -/
def State.freeTask (s : State) (e : Nat) : State :=
  let t := s.task e
  let s := s.setTask e { ({} : TaskEntry) with gen := t.gen }
  let s := if e ≥ 4096 then s.inc R.DSP_STATUS_SHARED_FREE else s
  let s := if e ≥ 4096 ∧ t.d.cls = 8 then { s with mpcHeld := s.mpcHeld - 1 } else s
  match t.ch with
  | some c => s.dec (R.DSP_CH_ENTRIES c)
  | none => s

/-- A completion record enters a context's ring: a thread's in its data partition, or where that lay when the thread became IDLE (R751), in two whole
words (R125); a core's at CQBASE in device memory, in the clear and with no test
of the region (DESIGN CHOICE, log 118). -/
def State.ringWr (s : State) (i off : Nat) (r : CompRec) : State :=
  let t := s.thr i
  let v := r.handle + r.status * 2 ^ 32 + r.cls * 2 ^ 48 + r.cost * 2 ^ 64
  if i < 256 then
    let k := t.ringKey.getD (seqKey (i / 4) (0x8000 + s.get (R.SEQ_TH_DMAP_BASE (i / 4) (i % 4)))) + t.cqBase + off
    { s.seqWr k 16 v with seqBad := s.seqBad.filter (fun w => decide (w ≠ k / 8) && decide (w ≠ k / 8 + 1)) }
  else s.wr (t.cqBase + off) 16 v

/-- Whether a context's completion ring has a free record (R116, R121). -/
def Thread.ringRoom (t : Thread) : Bool := decide (t.cqLen ≠ 0) && decide ((t.cqTail + 1) % t.cqLen ≠ t.cqHead)

/-- Write one completion record into a ring with room, free its entry and post TASK_DONE (R98, R120). -/
def State.writeRec (s : State) (i : Nat) (r : CompRec) : State :=
  let t := s.thr i
  let s := s.ringWr i (16 * t.cqTail) r
  let s := s.setThr i { t with cqTail := (t.cqTail + 1) % t.cqLen }
  let s := s.freeTask r.entry
  if i < 256 then
    s.postThread i 5
  else (s.setEvent i 5).raiseLine (i - 256) 0

/-- TASK_ERR: a task of a context has ended with a status that is not 0 (R98). -/
def State.postErr (s : State) (i status : Nat) : State :=
  if status = 0 then s
  else if i < 256 then s.postThread i 6
  else (s.setEvent i 6).raiseLine (i - 256) 0

/-- A task ends with a status and a cost: its record is written, or held while the ring is full (R120, R121, R156);
a cost above the declared one is counted (R158). -/
def State.endTask (s : State) (e status cost : Nat) : State :=
  let t := s.task e
  let s := s.inc (R.DSP_CNT_COMPLETED (t.d.cls - 1))
  let s := match t.ch with
    | some c => if t.d.cost < cost ∧ (tget (fun _ => ({} : Adm)) s.adm c).subframe = false then s.inc (R.DSP_CH_OVERRUN_COUNT c) else s
    | none => s
  let s := (s.setTask e { t with st := .ended }).postErr t.issuer status
  let r : CompRec := ⟨e, handleOf e t.gen, status, t.d.cls, cost⟩
  let th := s.thr t.issuer
  if th.held = [] ∧ th.ringRoom then s.writeRec t.issuer r
  else s.setThr t.issuer { th with held := th.held ++ [r] }

/-- A DELAYED or READY entry leaves its list (R159, R170, R192). -/
def State.unlist (s : State) (e : Nat) : State :=
  let t := s.task e
  match t.st with
  | .delayed => s.inc R.DSP_STATUS_DELAY_FREE
  | .ready => if t.direct ∨ t.d.cls ≥ 7 then s else s.dec (R.DSP_GROUP_READY t.d.group)
  | _ => s

/-- A DELAYED or READY task ends without dispatch: cancelled or stopped (R175, R177). -/
def State.dropTask (s : State) (e status : Nat) : State := (s.unlist e).endTask e status 0

/-- End every DELAYED and READY task of a channel with STOPPED (R177). -/
def State.stopTasks (s : State) (ch : Nat) : State :=
  (s.liveTasks.filter (fun e => decide ((s.task e).ch = some ch) && ((s.task e).st = .delayed || (s.task e).st = .ready))).foldl
    (fun s e => s.dropTask e 2) s

/-! ### A thread reaching IDLE, a channel being stopped -/

/-- A thread reaches IDLE, by whatever means: its binding ends, its channel is no longer running, and the channel's waiting tasks end STOPPED
(R79, R177). -/
def State.toIdle (s : State) (t : Nat) : State :=
  let th := s.thr t
  let ring := seqKey (t / 4) (0x8000 + s.get (R.SEQ_TH_DMAP_BASE (t / 4) (t % 4)))
  let s := s.setThr t { th with st := .idle, wait := none, block := .none, halting := false, stopBy := none, chan := 0xFFFF, ringKey := some ring }
  if th.chan < 256 then
    let s := (s.setFlag (R.CTX_BIND_VALID th.chan) false).stopTasks th.chan
    let c := s.chan th.chan
    s.setChan th.chan { c with running := false, stopping := true }
  else s

/-- An ISSUE that blocks its context for a channel ends with ESTOP (R754, R178). -/
def State.endBlockedIssue (s : State) (ch : Nat) : State :=
  (s.threads.filter (fun p => match p.2.block with
    | .issue _ d _ _ => if p.1 < 256 then decide (p.2.chan = ch) else decide (d.channel = ch)
    | _ => false)).foldl (fun s p =>
      match p.2.block with
      | .issue rd _ _ _ =>
        s.setThr p.1 ({ p.2 with st := .runnable, block := .none, pc := p.2.pc + 4, instret := p.2.instret + 1 }.wg rd
          (BitVec.ofInt 64 (-5)))
      | _ => s) s

/-- A channel's admission begins to be returned: OP RELEASE (R185). -/
def State.beginRelease (s : State) (ch : Nat) : State :=
  let a := tget (fun _ => ({} : Adm)) s.adm ch
  if a.admitted then
    let s := { s with adm := tset (fun _ => {}) s.adm ch { a with releasing := true } }
    (s.set R.DSP_ADM_CMD_CHANNEL ch).setFlag R.DSP_ADM_CMD_BUSY true
  else s

/-- The management processor complex releases a channel's admission: at once, or once DSP_ADM_CMD is no longer BUSY (R184, R185). -/
def State.askRelease (s : State) (ch : Nat) : State :=
  if s.flag R.DSP_ADM_CMD_BUSY then { s with relWait := s.relWait ++ [ch] } else s.beginRelease ch

/-- STOP is posted to a running channel's thread, its blocked ISSUEs end, and its waiting tasks end STOPPED (R129, R177, R178). -/
def State.haltChannel (s : State) (ch : Nat) : State :=
  let c := s.chan ch
  if c.running ∧ !c.stopping then
    let s := s.setChan ch { c with stopping := true }
    let s := s.endBlockedIssue ch
    let s := match s.boundThread ch with
      | some t =>
        let th := s.thr t
        (s.setThr t { th with stopBy := some (s.raw + 1000 * s.get (R.SEQ_TH_CTRL_STOP_LIMIT (t / 4) (t % 4))) }).postThread t 1
      | none => s
    s.stopTasks ch
  else s

/-- A running channel is asked to stop, and its admission is to be returned (R129, R177, R178, R185). -/
def State.stopChannel (s : State) (ch : Nat) : State :=
  if s.running ch then (s.haltChannel ch).askRelease ch else s

end Sys2Proof.Machine
end

