-- ==== Sys2Proof/Machine/MemCore.lean ====
section
/-! DEFINITION. Frame memory's placement, its inline encryption and its poisoned bursts, and the accesses to device
memory that every unit makes (13_frame_memory.md, 02_layout_table.md R47). -/

namespace Sys2Proof.Machine

/-- Sparse bytes by address: device memory, or sequencer memory by key. -/
abbrev Memory := Table (BitVec 8)

/-- The canonical form of a memory: addresses strictly rising, no entry equal to what an unlisted address reads as. -/
def Memory.wf (m : Memory) : Bool := twf memReset 0 m

/-- Where a byte of frame memory lies (R521, R522). -/
structure Place where
  stack : Nat
  rank : Nat
  pc : Nat
  ch : Nat
  row : Nat
  bank : Nat
  column : Nat
  p : Nat
  deriving DecidableEq, Repr

/-- The zones of R521: base, logical rank and number of stacks. -/
def zoneOf (a : Nat) : Nat × Nat × Nat :=
  if a < 0xC00000000 then (0, 0, 4) else if a < 0x1800000000 then (0xC00000000, 1, 4) else (0x1800000000, 2, 3)

/-- The placement of address A with grain 2^gl (R522). -/
def place (gl a : Nat) : Place :=
  let (base, rank, n) := zoneOf a
  let g := 2 ^ gl
  let z := a - base
  let u := z / g
  let p := u / (32 * n) * g + z % g
  { stack := u / 32 % n, rank := rank, pc := u % 2, ch := u / 2 % 16, row := p / 65536, bank := p / 1024 % 64,
    column := p % 1024, p := p }

/-- The placement of an HBM address under the programmed grain. -/
def State.place (s : State) (a : Nat) : Place := Machine.place (s.get R.MEM_INTLV_GRAIN_LOG2) a

/-- Whether an address lies in frame memory (R45, R521). -/
def inHbm (a : Nat) : Bool := decide (a < 0x2100000000)

/-- The encryption key in force at an address, 0 for none: the key of the enabled region that covers it (R542). -/
def State.encKey (s : State) (a : Nat) : Nat :=
  ((List.range 16).find? (fun j => s.flag (R.MEM_ENC_CFG_ENABLE j) && decide (s.get (R.MEM_ENC_BASE j) / 4096 ≤ a / 4096) &&
      decide (a / 4096 ≤ s.get (R.MEM_ENC_LIMIT j) / 4096))).elim 0
    (fun j => (List.range 16).foldl (fun k i => k + s.get (R.MEM_ENC_KEY_KEY j i) * 2 ^ (32 * i)) 0 + 1)

/-- The key under which a 32-byte burst was written, 0 for none (log 10). -/
def State.encTag (s : State) (burst : Nat) : Nat := tget (fun _ => 0) s.encTags burst

/-- A byte of device memory as a requester reads it: through the key in force. A burst written under another key, or in
the clear, reads as what the cipher makes of it (R542, R544; log 10). -/
def State.dByte (s : State) (a : Nat) : BitVec 8 :=
  if inHbm a then
    let k := s.encKey a
    let t := s.encTag (a / 32)
    if k = t then s.byte a else BitVec.ofNat 8 ((xtsRead t k (a / 32) (aesBytes 32 (s.rd (a / 32 * 32) 32))).getD (a % 32) 0)
  else s.byte a

/-- n bytes of device memory as a requester reads them, little-endian (R5). -/
def State.dRd (s : State) (a : Nat) : Nat → Nat
  | 0 => 0
  | n + 1 => (s.dByte a).toNat + 256 * s.dRd (a + 1) n

/-- n bytes of device memory as a list. -/
def State.dBytes (s : State) (a : Nat) : Nat → List (BitVec 8)
  | 0 => []
  | n + 1 => s.dByte a :: s.dBytes (a + 1) n

/-- Bring a burst under the key in force: its bytes are read as they read, and written back (the read and merge of R527). -/
def State.rekey (s : State) (burst : Nat) : State :=
  let k := s.encKey (32 * burst)
  if inHbm (32 * burst) ∧ k ≠ s.encTag burst then
    let s' := s.setBytes (32 * burst) (s.dBytes (32 * burst) 32)
    { s' with encTags := tset (fun _ => 0) s.encTags burst k }
  else s

/-- Write one byte of device memory under the key in force. -/
def State.dSet (s : State) (a : Nat) (v : BitVec 8) : State := (s.rekey (a / 32)).setByte a v

/-- Store a list of bytes of device memory, removing the poison of every burst that it covers whole (R532). -/
def State.dStore (s : State) (a : Nat) (l : List (BitVec 8)) : State :=
  let rec go (s : State) (a : Nat) : List (BitVec 8) → State
    | [] => s
    | b :: t => go (s.dSet a b) (a + 1) t
  let s := go s a l
  { s with poison := s.poison.filter (fun b => !(decide (a ≤ 32 * b) && decide (32 * b + 32 ≤ a + l.length))) }

/-- Store a number of n bytes, little-endian. -/
def State.dWr (s : State) (a n v : Nat) : State := s.dStore a (leBytes n v)

/-- Whether n bytes from `a` can be read by a control-path requester: inside the regions of R45, frame memory enabled where it
is frame memory (R546), and no poisoned burst among them (R532). -/
def State.readable (s : State) (a n : Nat) : Bool :=
  mappedRange a n && (!(inHbm a) || s.flag R.MEM_CTRL_ENABLE) &&
  !(s.poison.any (fun b => decide (32 * b < a + n) && decide (a < 32 * b + 32)))

/-- Whether n bytes from `a` can be written. -/
def State.writable (s : State) (a n : Nat) : Bool := mappedRange a n && (!(inHbm a) || s.flag R.MEM_CTRL_ENABLE)

/-- Begin the retirement of a rank, if the spare is free (R533 step 1, R535). -/
def State.startRetire (s : State) (stack rank : Nat) : State :=
  if s.get R.MEM_MIG_STATUS_STATE = 0 then
    (((((s.set R.MEM_REMAP_STACK stack).set R.MEM_REMAP_RANK rank).set R.MEM_REMAP_STATE 1).set R.MEM_MIG_STATUS_STATE 1).set
      R.MEM_MIG_STATUS_PROGRESS 0)
  else s

/-- The memory controller's record of a stack. -/
def State.memSt (s : State) (k : Nat) : MemSt := tget (fun _ => {}) s.memSts k

/-- Replace a stack's record. -/
def State.setMemSt (s : State) (k : Nat) (m : MemSt) : State := { s with memSts := tset (fun _ => {}) s.memSts k m }

end Sys2Proof.Machine
end

