-- ==== Sys2Proof/Machine/Tokens.lean ====
section
/-! DEFINITION. Who holds a frame: buffer tokens, decode output buffers, and the end of the last task that reads a frame
(05_ingest.md R237 to R240, 09_decode.md R405, 07_codec_engines.md R306). -/

namespace Sys2Proof.Machine

/-! ### Token pools -/

/-- What the model keeps of a pool. -/
def State.pool (s : State) (ch : Nat) : PoolSt := tget (fun _ => {}) s.pools ch

/-- Replace a pool, showing its free tokens. -/
def State.setPool (s : State) (ch : Nat) (p : PoolSt) : State :=
  ({ s with pools := tset (fun _ => {}) s.pools ch p }).set (R.ING_POOL_STATUS_FREE ch) p.free.length

/-- Take the token that was returned longest ago (R239). -/
def State.takeToken (s : State) (ch : Nat) : Option (Nat × State) :=
  if s.flag (R.ING_POOL_CFG_ENABLE ch) then
    match (s.pool ch).free with
    | i :: t => some (i, ((s.setPool ch { free := t }).inc (R.ING_POOL_TAKEN_COUNT ch)).inc (R.ING_POOL_STATUS_HELD ch))
    | [] => none
  else none

/-- A token returns to its pool; while the pool is disabled, or where it holds no such token any more,
it is not made free (R237, R240). -/
def State.returnToken (s : State) (ch i : Nat) : State :=
  let s := (s.inc (R.ING_POOL_RETURNED_COUNT ch)).dec (R.ING_POOL_STATUS_HELD ch)
  if s.flag (R.ING_POOL_CFG_ENABLE ch) ∧ i < s.get (R.ING_POOL_CFG_COUNT ch) then s.setPool ch { free := (s.pool ch).free ++ [i] } else s

/-! ### Decode output buffers -/

/-- What the model keeps of a decode channel. -/
def State.decOf (s : State) (ch : Nat) : DecSt := tget (fun _ => {}) s.decs ch

/-- Replace what the model keeps of a decode channel. -/
def State.setDec (s : State) (ch : Nat) (d : DecSt) : State := { s with decs := tset (fun _ => {}) s.decs ch d }

/-- Drop buffers that nothing holds any more (R405). -/
def DecSt.sweep (d : DecSt) : DecSt :=
  { d with bufs := d.bufs.filter (fun b => b.ref || !b.done || b.host || b.trans || decide (d.shown.map (·.buf) = some b.ix)) }

/-- Change the record of an output buffer. -/
def DecSt.updBuf (d : DecSt) (ix : Nat) (f : OutBuf → OutBuf) : DecSt :=
  ({ d with bufs := d.bufs.map (fun b => if b.ix = ix then f b else b) } : DecSt).sweep

/-- DEC_PART and DEC_PARTS of a DEC payload (07_codec_engines.md R309). -/
def decPart (p : List Nat) : Nat × Nat := (p.getD 0 0 / 2 ^ 32 % 65536, p.getD 0 0 / 2 ^ 48 % 65536)

/-- Replace an access unit. -/
def DecSt.setAu (d : DecSt) (u : Au) : DecSt := { d with aus := d.aus.map (fun v => if v.no = u.no then u else v) }

/-- A part of an access unit ended without its engine's result: it counts as ended (R324, log 23). -/
def State.decPartLost (s : State) (ch no : Nat) : State :=
  let d := s.decOf ch
  s.setDec ch { d with aus := d.aus.map (fun (u : Au) => if u.no = no then { u with ended := u.ended + 1, lost := true } else u) }

/-! ### The end of a frame's use (R306) -/

/-- Enabled renditions of a channel. -/
def State.rendsOn (s : State) (ch : Nat) : List Nat := (List.range 8).filter (fun r => s.flag (R.CTX_REND_CODEC_ENABLE ch r))

/-- Tile columns of a rendition. -/
def State.columns (s : State) (ch r : Nat) : Nat := s.get (R.CTX_REND_TILES_COLUMNS ch r)

/-- Nothing reads a channel's frame n any more: its token returns to the pool, or, for a transcoded frame, the decode output
buffer is released (R240, R306, R405). -/
def State.frameDone (s : State) (ch n : Nat) : State :=
  let c := s.chan ch
  match c.frames.find? (fun f => decide (f.n = n)) with
  | none => s
  | some f =>
    let s := s.setChan ch { c with frames := c.frames.filter (fun f => decide (f.n ≠ n)) }
    match f.token with
    | none => s
    | some b =>
      if s.flag (R.CTX_DEC_SRC_ENABLE ch) then
        let d := s.get (R.CTX_DEC_SRC_SOURCE ch)
        s.setDec d ((s.decOf d).updBuf b (fun o => { o with trans := false }))
      else s.returnToken ch b

/-- An ENC task of a frame-mode picture is over in a column; the last one, over every enabled rendition and column, ends the use of
the frame (R306). -/
def State.columnOver (s : State) (ch n r col : Nat) : State :=
  let c := s.chan ch
  let s := s.setChan ch { c with frames := c.frames.map (fun (f : FrameSt) =>
    if f.n = n then { f with finished := if f.finished.contains (16 * r + col) then f.finished else (16 * r + col) :: f.finished } else f) }
  match (s.chan ch).frames.find? (fun f => decide (f.n = n)) with
  | none => s
  | some f =>
    if (s.rendsOn ch).all (fun r => (List.range (s.columns ch r)).all (fun k => f.finished.contains (16 * r + k))) then s.frameDone ch n else s

/-! ### The end of a stopped channel's frames (R307) -/

/-- Fields of a PRF and of an SCL payload that name what the task reads (06_proofing.md R261, R267): PRF_FRAME, SCL_IN and SCL_FRAME. -/
def prfFrame (p : List Nat) : Nat := p.getD 0 0
def sclIn (p : List Nat) : Nat := p.getD 0 0 % 256
def sclFrame (p : List Nat) : Nat := p.getD 1 0

/-- The frame of a snapshot. -/
def State.frameOfSnap (s : State) (ch snap : Nat) : Nat := snap - (s.chan ch).base - 1 + (s.chan ch).first

/-- Whether a channel's group role is STANDBY, which keeps its ingest running (16_redundancy.md R607, R608). -/
def State.standby (s : State) (ch : Nat) : Bool :=
  (List.range 64).any (fun g => s.flag (R.CLB_GRP_CFG_ENABLE g) && decide (s.get (R.CLB_GRP_CFG_CHANNEL g) = ch) &&
    decide (s.get (R.CLB_GRP_STATUS_ROLE g) = 2))

/-- Whether the running task of entry e reads frame n of channel ch: an ENC task codes it, a PRF task analyses it, an SCL task scales it. -/
def State.taskReads (s : State) (ch n e : Nat) : Bool :=
  let t := s.task e
  t.st = .running && decide (t.ch = some ch) && match t.d.cls with
    | 1 => s.units.any (fun u => decide (u.ch = ch) && decide (u.src = n) && u.cols.any (fun k => decide (k.task = some e)))
    | 3 => decide (s.frameOfSnap ch (prfFrame t.d.payload) = n)
    | 4 => decide (sclIn t.d.payload = 255) && decide (s.frameOfSnap ch (sclFrame t.d.payload) = n)
    | _ => false

/-- After a channel has stopped, a frame that no running task reads gives its token back, and once no task works for the channel its units are
dropped (R307). -/
def State.sweepStopped (s : State) (ch : Nat) : State :=
  if s.running ch then s
  else
    let busy := s.tasks.any (fun p => decide (p.2.ch = some ch) && p.2.st = .running && decide (p.2.d.cls ≤ 4))
    let s := if busy then s else { s with units := s.units.filter (fun u => decide (u.ch ≠ ch)) }
    if s.standby ch then s
    else (s.chan ch).frames.foldl (fun s f => if s.tasks.any (fun p => s.taskReads ch f.n p.1) then s else s.frameDone ch f.n) s

/-- A running task ends: its record is posted, and a stopped channel's frames that only it read are free (R120, R307). -/
def State.taskOver (s : State) (e status cost : Nat) : State :=
  let ch := (s.task e).ch
  let s := s.endTask e status cost
  ch.elim s (fun c => s.sweepStopped c)

end Sys2Proof.Machine
end

