-- ==== Sys2Proof/Machine/Sieve.lean ====
section
/-! DEFINITION. The Sieve: processing a report, isolating its suspect, halting the device, and the commands on its
registers (17_sieve.md). -/

namespace Sys2Proof.Machine

/-! ### Suspect units (R627, R642) -/

/-- A suspect unit of a kind and an index (R627). -/
def suspect (kind ix : Nat) : Nat := kind * 4096 + ix

def kNone : Nat := 0
def kBlock : Nat := 1
def kEngine : Nat := 2
def kTray : Nat := 3
def kThread : Nat := 4
def kLane : Nat := 5
def kWlPort : Nat := 6
def kRank : Nat := 7
def kChannel : Nat := 8
def kGroup : Nat := 9
def kCore : Nat := 10

/-- Whether a suspect can be isolated: its kind names a unit and its index lies in the kind's range (R642). -/
def isolable (sus : Nat) : Bool :=
  let ix := sus % 4096
  match sus / 4096 with
  | 2 => ix < 128
  | 3 => ix < 16
  | 4 => ix < 256
  | 5 => ix < 16
  | 6 => ix < 3
  | 7 => decide (ix < 16) && decide (ix % 4 < 3)
  | 8 => ix < 256
  | 9 => ix < 64
  | 10 => ix < 4
  | _ => false

/-- The MAC of the port that owns lane l in its quad's mode (R194). -/
def State.portOfLane (s : State) (l : Nat) : Option Nat :=
  match s.get (R.MP_QUAD_CFG_MODE (l / 4)) with
  | 1 => some (l / 4 * 4)
  | 2 => some (l / 2 * 2)
  | 3 => some l
  | _ => none

/-- The lanes of the port of MAC m in its quad's mode (R194); none where the mode does not use the MAC. -/
def State.lanesOf (s : State) (m : Nat) : List Nat := (List.range 16).filter (fun l => s.portOfLane l = some m)

/-- Egress flows with ENABLE at 1, from the register file. -/
def State.egrOn (s : State) : List Nat :=
  (s.regs.filter (fun p => decide (0x200000000 ≤ p.1) && decide (p.1 % 0x100 = 0) && bitAt p.2.toNat 0)).map
    (fun p => (p.1 - 0x200000000) / 0x100)

/-- Ingest flows with ENABLE at 1, from the register file. -/
def State.ingOn (s : State) : List Nat :=
  (s.regs.filter (fun p => decide (0x100000000 ≤ p.1) && decide (p.1 < 0x200000000) && decide (p.1 % 0x100 = 0) &&
    bitAt p.2.toNat 0)).map (fun p => (p.1 - 0x100000000) / 0x100)

/-- The channel an egress flow carries: STREAM div 8 for KIND 0 to 4 and 7 (R446). -/
def State.egrChannel (s : State) (f : Nat) : Option Nat :=
  let k := s.get (R.EGR_FLOW_CTRL_KIND f)
  if k ≤ 4 ∨ k = 7 then some (s.get (R.EGR_FLOW_SRC_STREAM f) / 8) else none

/-- Whether channel ch uses the suspect unit (R755). -/
def State.usesUnit (s : State) (sus ch : Nat) : Bool :=
  let ix := sus % 4096
  let a := tget (fun _ => ({} : Adm)) s.adm ch
  let ownsEng := fun e => s.flag (R.ENG_STATUS_OWNED e) && decide (s.get (R.ENG_STATUS_OWNER e) = ch)
  match sus / 4096 with
  | 2 => ownsEng ix || (a.admitted && !a.subframe && a.trays.any (fun t => t.1 = ix / 8))
  | 3 => (List.range 8).any (fun i => ownsEng (8 * ix + i)) || (a.admitted && !a.subframe && a.trays.any (fun t => t.1 = ix))
  | 4 => (s.thr ix).chan = ch
  | 5 =>
    match s.portOfLane ix with
    | none => false
    | some m =>
      s.egrOn.any (fun f => decide (s.egrChannel f = some ch) &&
        (decide (s.get (R.EGR_FLOW_CTRL_PORT f) = m) || (s.flag (R.EGR_FLOW_CTRL_DUAL f) && decide (s.get (R.EGR_FLOW_CTRL_PORT_B f) = m)))) ||
      s.ingOn.any (fun f => decide (s.get (R.ING_FLOW_KIND_CHANNEL f) = ch) && decide (tget (fun _ => 0) s.flowPort f = m + 1))
  | 6 =>
    (List.range 64).any (fun g => s.flag (R.CLB_GRP_CFG_ENABLE g) && decide (s.get (R.CLB_GRP_CFG_CHANNEL g) = ch) &&
      (decide (s.get (R.CLB_GRP_CFG_LINK g) = ix) || bitAt (s.get (R.CLB_GRP_CFG_TMPL_LINKS g)) ix)) ||
    s.egrOn.any (fun f => decide (s.egrChannel f = some ch) && decide (s.get (R.EGR_FLOW_CTRL_SOURCE f) = ix + 1))
  | 7 => true
  | 8 => ix = ch
  | 9 => s.get (R.CLB_GRP_CFG_CHANNEL ix) = ch
  | _ => false

/-! ### Isolation (R642) -/

/-- The cost of a task that ends now (R157). -/
def State.costNow (s : State) (e : Nat) : Nat := ceilDiv (ceilDiv ((s.raw - (s.task e).startAt) * 3) 4) 750

/-- A bit of a tray's BUSY is cleared (R348). -/
def State.trayIdle (s : State) (u : Nat) : State :=
  let b := s.get (R.TRAY_STATUS_BUSY (u / 8))
  s.set (R.TRAY_STATUS_BUSY (u / 8)) (if bitAt b (u % 8) then b - 2 ^ (u % 8) else b)

/-- A bit of a tray's BUSY is set. -/
def State.trayBusy (s : State) (u : Nat) : State :=
  let b := s.get (R.TRAY_STATUS_BUSY (u / 8))
  s.set (R.TRAY_STATUS_BUSY (u / 8)) (if bitAt b (u % 8) then b else b + 2 ^ (u % 8))

/-- Engine time since raw time `a`, of which the part since CONS_CTRL.ENABLE was set counts, is charged to an engine's counter i and to a
channel (20_conservation.md R696). -/
def State.chargeNs (s : State) (u i a : Nat) (ch : Option Nat) : State :=
  if s.flag R.CONS_CTRL_ENABLE then
    let dt := s.raw - max a s.cons.at'
    let s := s.add (R.CONS_ENG_NS u i) dt
    match ch with
    | some c => s.add (R.CONS_CH_COUNT c 3) dt
    | none => if i = 0 then { s with cons := { s.cons with noCh := s.cons.noCh + dt } } else s
  else s

/-- An engine that is not isolated goes back to IDLE. -/
def State.engIdle (s : State) (u : Nat) : State :=
  if s.get (R.ENG_STATUS_STATE u) = 5 then s.trayIdle u else (s.set (R.ENG_STATUS_STATE u) 0).trayIdle u

/-- A unit stops working for the task of entry e. -/
def State.freeUnit (s : State) (e : Nat) : State :=
  let t := s.task e
  let s1 : State := { s with busy := tset (fun _ => 0) s.busy t.unit 0 }
  if t.unit < 128 then
    ((s1.engIdle t.unit).add (R.ENG_CNT_COUNT t.unit 5) (s.costNow e)).chargeNs t.unit 0 t.startAt t.ch
  else s1

/-- The column that an ENC task was coding is substituted: its CTUs not yet coded become repeat CTUs (R324). -/
def State.substitute (s : State) (e : Nat) : State :=
  match s.units.find? (fun u => u.cols.any (fun k => decide (k.task = some e))) with
  | none => s
  | some v =>
    let s := { s with units := s.units.map (fun (u : UnitSt) =>
      { u with cols := u.cols.map (fun (k : ColSt) => if k.task = some e then { k with sub := true, inflight := false, engine := none, task := none } else k) }) }
    let s := s.inc (R.ENC_CNT_COUNT v.ch 3)
    if (tget (fun _ => ({} : Adm)) s.adm v.ch).subframe then s
    else s.columnOver v.ch v.src v.rend ((v.cols.zipIdx.find? (fun k => decide (k.1.task = some e))).elim 0 (·.2))

/-- The task on engine e ends before its work does, with a status: its column is substituted, or its part of an access unit is
lost (R290, R324). -/
def State.breakTask (s : State) (e status : Nat) : State :=
  let b := tget (fun _ => 0) s.busy e
  if b = 0 then s
  else
    let t := s.task (b - 1)
    let cost := s.costNow (b - 1)
    let s := s.freeUnit (b - 1)
    let s := if t.d.cls = 1 then s.substitute (b - 1)
      else match t.ch with
        | some c => if t.d.cls = 2 then s.decPartLost c t.au else s
        | none => s
    s.taskOver (b - 1) status cost

/-- An engine is taken out of service (R642 KIND 2, R324). -/
def State.isolateEngine (s : State) (e : Nat) : State :=
  let s := s.breakTask e 3
  let o := s.get (R.ENG_STATUS_OWNER e)
  let s := if s.flag (R.ENG_STATUS_OWNED e) ∧ s.running o then s.setChan o { s.chan o with lost := (e :: (s.chan o).lost).eraseDups } else s
  let s := { s with proofs := s.proofs.map (fun (p : Proof) => if p.runner = some e then { p with runner := none } else p) }
  let s := (s.set (R.ENG_STATUS_STATE e) 5).setFlag (R.ENG_STATUS_CTX_VALID e) false
  let s := { s with engCtx := tset (fun _ => 0) s.engCtx e 0 }
  let s := if (tfind s.cons.iso e).isSome then s else { s with cons := { s.cons with iso := tput s.cons.iso e s.raw } }
  let m := s.get (R.TRAY_STATUS_ISOLATED (e / 8))
  let s := s.trayIdle e
  if bitAt m (e % 8) then s else s.set (R.TRAY_STATUS_ISOLATED (e / 8)) (m + 2 ^ (e % 8))

/-- A media port goes down: its link is down, its lanes retrain from the programmed peaking (R204, R205). -/
def State.portDown (s : State) (m : Nat) : State :=
  let s := if s.flag (R.MAC_STATUS_LINK_UP m) then s.setFlag (R.MAC_STATUS_LINK_DOWN_SEEN m) true else s
  let s := s.setFlag (R.MAC_STATUS_LINK_UP m) false
  (s.lanesOf m).foldl (fun s l => (s.setFlag (R.MP_LANE_STATUS_DFE_ACTIVE l) false).setFlag (R.MP_LANE_STATUS_LOCK l) false) s

/-- This unit yields a group if it is ACTIVE in it: it sends no further heartbeat (R611). -/
def State.yieldGroup (s : State) (g : Nat) : State :=
  if s.get (R.CLB_GRP_STATUS_ROLE g) = 1 then
    let x := tget (fun _ => ({} : GrpSt)) s.groups g
    let s := { s with groups := tset (fun _ => {}) s.groups g { x with hb := false } }
    (s.setFlag (R.CLB_GRP_STATUS_YIELDING g) true).setFlag (R.CLB_GRP_STATUS_PENDING g) x.challenge
  else s

/-- WL_STATUS.STATE values of a port that is not up (R589). -/
def wlDown : Nat := 0
def wlTraining : Nat := 1

/-- State of a Weneiren port. -/
def State.wlState (s : State) (p : Nat) : Nat := s.get (R.WL_STATUS_STATE p)

/-- Count an event of a Weneiren port. -/
def State.wlCount (s : State) (p i n : Nat) : State := s.add (R.WL_CNT_COUNT p i) n

/-- What the model keeps of a Weneiren port. -/
def State.wlPort (s : State) (p : Nat) : WlSt := tget (fun _ => {}) s.wl p

/-- Replace what the model keeps of a Weneiren port. -/
def State.setWlPort (s : State) (p : Nat) (w : WlSt) : State := { s with wl := tset (fun _ => {}) s.wl p w }

/-- Training begins (R575). -/
def State.wlTrain (s : State) (p : Nat) : State :=
  let w := s.wlPort p
  let s := (List.range 17).foldl (fun s l => ((s.setFlag (R.WL_LANE_STATUS_LOCK p l) false).setFlag (R.WL_LANE_STATUS_IS_SPARE p l) false).set
    (R.WL_LANE_STATUS_LOGICAL p l) 0) s
  let s := ((s.set (R.WL_STATUS_STATE p) (if s.flag (R.WL_CTRL_ENABLE p) ∧ !w.held then wlTraining else wlDown)).setFlag
    (R.WL_STATUS_SPARE_IN_USE p) false).set (R.WL_STATUS_HALF p) 0
  let s := s.setWlPort p { held := w.held, trainAt := s.raw, inbox := w.inbox }
  if s.wlState p = wlTraining then s.wlCount p 6 1 else s

/-- A Weneiren port that is up loses its unacknowledged and queued flits as it goes down (R582). -/
def State.wlLose (s : State) (p : Nat) : State :=
  let w := s.wlPort p
  if wlTraining < s.wlState p then (s.wlCount p 4 (w.tx.length + w.sent.length)).setFlag (R.WL_STATUS_LINK_DOWN_SEEN p) true else s

/-- A Weneiren port is held down (R642 KIND 6). -/
def State.wlHold (s : State) (p : Nat) : State :=
  let s := s.wlLose p
  (s.setWlPort p { s.wlPort p with held := true }).wlTrain p

/-- Isolate a suspect that can be isolated (R642). -/
def State.isolate (s : State) (sus : Nat) : State :=
  let ix := sus % 4096
  match sus / 4096 with
  | 2 => s.isolateEngine ix
  | 3 => (List.range 8).foldl (fun s i => s.isolateEngine (8 * ix + i)) s
  | 4 =>
    let t := s.thr ix
    let s := s.setThr ix { t with st := .trapped, wait := none, block := .none }
    s
  | 5 =>
    match s.portOfLane ix with
    | some m => { s.portDown m with ports := tset (fun _ => {}) s.ports m { held := true, cut := s.flag (R.MAC_STATUS_LINK_UP m) } }
    | none => s
  | 6 => s.wlHold ix
  | 7 => s.startRetire (ix / 4) (ix % 4)
  | 8 => s.stopChannel ix
  | 9 => s.yieldGroup ix
  | 10 => s.setCore ix { s.core ix with held := true }
  | _ => s

/-- Post FAULT to the thread of every running channel that uses the suspect (R641, R755). -/
def State.postFault (s : State) (sus : Nat) : State :=
  (s.chans.filter (fun p => p.2.running && s.usesUnit sus p.1)).foldl (fun s p => s.postCh p.1 13) s

/-! ### Records -/

/-- A ring place. -/
def State.recAt (s : State) (i : Nat) : Option SieveRec := tfind s.recs i

/-- The record as the four 64-bit words of R631. -/
def SieveRec.words (r : SieveRec) : List Nat :=
  [r.raw,
   r.recno + r.source * 2 ^ 32 + r.cls * 2 ^ 48 +
     (r.sev + r.prog * 4 + (if r.escalated then 16 else 0) + (if r.acked then 32 else 0) + (if r.raised then 64 else 0) +
      (if r.injected then 128 else 0)) * 2 ^ 56,
   r.suspect + r.count * 2 ^ 16 + r.lastDelta * 2 ^ 32,
   r.detail.toNat]

/-- Whether a report processed now sees the record as acknowledged: it was so at the end of the preceding CLK_SLOW cycle (R638). -/
def State.seesAcked (s : State) (r : SieveRec) : Bool := r.acked && decide (slowCycles r.ackAt < slowCycles s.raw)

/-- Unacknowledged records. -/
def State.unacked (s : State) : List SieveRec := (s.recs.map (·.2)).filter (fun r => !r.acked)

/-- Highest severity of some records. -/
def maxSev (l : List SieveRec) : Nat := l.foldl (fun m r => max m r.sev) 0

/-- Bring the class state and the status register to what the records say (R637, R650). -/
def State.refreshClass (s : State) (c : Nat) : State :=
  let u := s.unacked
  let uc := u.filter (fun r => decide (r.cls = c))
  (((s.set (R.SIEVE_CLASS_STATE_HIGHEST c) (maxSev uc)).set (R.SIEVE_CLASS_STATE_UNACKED c) uc.length).set
    R.SIEVE_STATUS_LEVEL (maxSev u)).set R.SIEVE_STATUS_UNACKED u.length

/-- Signal a new or raised record of severity v (R644); a report of a device that was halted already raises no line (R646). -/
def State.signal (s : State) (was : Bool) (v : Nat) : State :=
  let s := if bitAt (s.get R.SIEVE_CTRL_MPC_ROUTE) v ∧ !was then s.raiseLines 2 else s
  if bitAt (s.get R.SIEVE_CTRL_HOST_ROUTE) v then s.msix (Config.firstMsixSieve + v) else s

/-- Halt the device (R645): HALTED, the copy for the Heath island (R648, R667), the wires released (R604). -/
def State.haltDevice (s : State) (r : SieveRec) : State :=
  let s := s.setFlag R.SIEVE_STATUS_HALTED true
  let s := s.incSat R.HTH_S3_STATUS_COUNT
  let s := if s.flag R.HTH_S3_STATUS_VALID then s
    else ((List.range 4).foldl (fun s i => s.set (R.HTH_S3_RECORD_WORD i) (r.words.getD i 0)) s).setFlag R.HTH_S3_STATUS_VALID true
  s.emit .halt

/-- The action of a record by its severity (R641, R642, R646). -/
def State.act (s : State) (r : SieveRec) : State :=
  if s.halted then s
  else match r.sev with
    | 2 => if isolable r.suspect then (s.isolate r.suspect).postFault r.suspect else s
    | 3 => s.haltDevice r
    | _ => s

/-- Whether a report may fold into a record (R635, R638). -/
def foldsInto (s : State) (cls sus : Nat) (inj : Bool) (r : SieveRec) : Bool :=
  decide (r.cls = cls) && decide (r.suspect = sus) && !s.seesAcked r && decide (r.injected = inj) &&
  decide (slowCycles s.raw - slowCycles r.raw ≤ s.get R.SIEVE_CTRL_WINDOW_US * 375)

/-- The newest record a report may fold into: its ring place and the record. -/
def State.foldTarget (s : State) (cls sus : Nat) (inj : Bool) : Option (Nat × SieveRec) :=
  s.recs.foldl (fun b p => if foldsInto s cls sus inj p.2 then
      match b with
      | some (_, q) => if q.recno < p.2.recno then some p else b
      | none => some p
    else b) none

/-- A report is counted, in all and by its source (R634, R650). -/
def State.countReport (s : State) (source : Nat) : State := (s.inc (R.SIEVE_CNT_COUNT 0)).incSat (R.SIEVE_SRC_COUNT_COUNT source)

/-- A report of severity sev folds into the record r at ring place i (R635, R638). -/
def State.foldIn (s : State) (sev cls i : Nat) (r : SieveRec) : State :=
  let d := min (slowCycles s.raw - slowCycles r.raw) 0xFFFFFFFF
  let up := decide (sev > r.sev)
  let r' := { r with count := min (r.count + 1) 0xFFFF, lastDelta := d,
                     sev := if up then sev else r.sev, raised := (r.raised || up) }
  let s := { s with recs := tput s.recs i r' }
  let s := (s.inc (R.SIEVE_CNT_COUNT 2)).refreshClass cls
  if up then (s.act r').signal s.halted r'.sev else s

/-- The severity of a new record: what its source is programmed for, or one above the highest of its class, up to the class's limit
(R637, R638). -/
def State.newSev (s : State) (sev cls : Nat) : Nat :=
  let u := (s.recs.map (·.2)).filter (fun r => !s.seesAcked r && decide (r.cls = cls))
  if u = [] then sev else max sev (min (max sev (maxSev u) + 1) (s.get (R.SIEVE_CLASS_CFG_ESC_LIMIT cls)))

/-- A record enters the ring. -/
def State.pushRec (s : State) (r : SieveRec) : State :=
  let tail := s.get R.SIEVE_RING_TAIL_TAIL
  let s := { s with recs := tput s.recs tail r, recno := s.recno + 1 }
  let s := (s.set R.SIEVE_RING_TAIL_TAIL (tail + 1)).inc (R.SIEVE_CNT_COUNT 1)
  (if r.escalated then s.inc (R.SIEVE_CNT_COUNT 3) else s).refreshClass r.cls

/-- A new record: it enters the ring, or is lost to a full one, and acts (R633, R636, R641). -/
def State.newRec (s : State) (r : SieveRec) : State :=
  let s := if (s.get R.SIEVE_RING_TAIL_TAIL + 512 - s.get R.SIEVE_RING_HEAD_HEAD) % 512 = 511 then s.inc (R.SIEVE_CNT_COUNT 4) else s.pushRec r
  (s.act r).signal s.halted r.sev

/-- The record that a report makes. -/
def State.recordOf (s : State) (source cls sev sus : Nat) (detail : Word) (inj : Bool) : SieveRec :=
  let v := s.newSev sev cls
  { raw := s.raw, recno := s.recno + 1, source := source, cls := cls, sev := v, prog := sev, escalated := decide (v > sev), acked := false,
    raised := false, injected := inj, suspect := sus, count := 1, lastDelta := 0, detail := detail }

/-- A counted report makes a record or folds into one. -/
def State.makeRec (s : State) (source sev cls sus : Nat) (detail : Word) (inj : Bool) : State :=
  (s.foldTarget cls sus inj).elim (s.newRec (s.recordOf source cls sev sus detail inj)) (fun p => s.foldIn sev cls p.1 p.2)

/-- Process one report, except the report that a full ring makes (R634 to R641), with its source's configuration as it stood at the end of the
preceding CLK_SLOW cycle (R628). -/
def State.reportOne (s : State) (source sus : Nat) (detail : Word) (inj : Bool) : State :=
  (s.countReport source).makeRec source (s.getBefore slowCycles (R.SIEVE_SRC_CFG_SEV source)) (s.getBefore slowCycles (R.SIEVE_SRC_CFG_CLASS source)) sus detail inj

/-- Process a report. A record lost to a full ring sets OVERFLOW and raises RING_FULL once per OVERFLOW (R633). -/
def State.report (s : State) (source sus : Nat) (detail : Word := 0) (inj : Bool := false) : State :=
  let lost := s.get (R.SIEVE_CNT_COUNT 4)
  let s := s.reportOne source sus detail inj
  if s.get (R.SIEVE_CNT_COUNT 4) ≠ lost ∧ s.flag R.SIEVE_STATUS_OVERFLOW = false then
    (s.setFlag R.SIEVE_STATUS_OVERFLOW true).reportOne 8 0 0 false
  else s

/-- An S0 notice that names no source: NOTICE, with the raising block as suspect (R626). -/
def State.blockNotice (s : State) (typeId : Nat) : State := s.report 0 (suspect kBlock typeId)

/-- The block that an address error names for a requester (R47). -/
def requesterBlock : Requester → Nat
  | .host => 0x0007
  | .recipe _ => 0x000A
  | .mpc _ => 0x0008
  | .unit t => t

/-- The address error of R47. -/
def State.addrError (s : State) (q : Requester) : State := s.blockNotice (requesterBlock q)

/-- A unit of block `t` stores bytes in device memory: a store outside the regions is discarded with R47's notice, and frame memory that is not
enabled takes none (13_frame_memory.md R546). -/
def State.unitStore (s : State) (t a : Nat) (l : List (BitVec 8)) : State :=
  if !mappedRange a l.length then s.addrError (.unit t) else if s.writable a l.length then s.dStore a l else s

/-! ### Commands -/

/-- Acknowledge a record by its number (R639). -/
def State.sieveAck (s : State) (recno : Nat) : State :=
  match s.recs.find? (fun p => decide (p.2.recno = recno) && !p.2.acked) with
  | some (i, r) => { s with recs := tput s.recs i { r with acked := true, ackAt := s.raw } }.refreshClass r.cls
  | none => s.setFlag R.SIEVE_STATUS_ACK_MISS true

/-- Free records up to HEAD (R640). -/
def State.sieveHead (s : State) (v : Nat) : State :=
  let h := s.get R.SIEVE_RING_HEAD_HEAD
  let n := (v % 512 + 512 - h) % 512
  let used := (s.get R.SIEVE_RING_TAIL_TAIL + 512 - h) % 512
  let freed := (List.range n).map (fun i => (h + i) % 512)
  if n ≤ used ∧ freed.all (fun i => (s.recAt i).elim false (·.acked)) then
    { s with recs := s.recs.filter (fun p => !(freed.contains p.1)) }.set R.SIEVE_RING_HEAD_HEAD v
  else s.setFlag R.SIEVE_STATUS_ACK_MISS true

/-- An engine is owned no longer. -/
def State.disown (s : State) (e : Nat) : State :=
  let m := s.get (R.TRAY_STATUS_OWNED (e / 8))
  ((s.set (R.TRAY_STATUS_OWNED (e / 8)) (if bitAt m (e % 8) then m - 2 ^ (e % 8) else m)).setFlag (R.ENG_STATUS_OWNED e) false).set (R.ENG_STATUS_OWNER e) 0

/-- The sub-frame channel that ran when an engine was isolated owns it no longer (R346). -/
def State.disownLost (s : State) (e : Nat) : State :=
  if s.flag (R.ENG_STATUS_OWNED e) && (s.chan (s.get (R.ENG_STATUS_OWNER e))).lost.contains e then s.disown e else s

/-- An isolated engine returns to service. The sub-frame channel that ran when it was isolated owns it no longer: it is there for later admissions and
for frame-mode dispatch (R346). -/
def State.restoreEngine (s : State) (e : Nat) : State :=
  if s.get (R.ENG_STATUS_STATE e) = 5 then
    let m := s.get (R.TRAY_STATUS_ISOLATED (e / 8))
    let s := (tfind s.cons.iso e).elim s (fun a => s.chargeNs e 3 a none)
    let s := { s with cons := { s.cons with iso := tdel s.cons.iso e } }
    ((s.set (R.ENG_STATUS_STATE e) 0).set (R.TRAY_STATUS_ISOLATED (e / 8)) (if bitAt m (e % 8) then m - 2 ^ (e % 8) else m)).disownLost e
  else s

/-- Whether an unacknowledged record names a suspect. -/
def State.named (s : State) (sus : Nat) : Bool := s.unacked.any (fun r => decide (r.suspect = sus))

/-- Return an isolated unit to service (R643). -/
def State.sieveRestore (s : State) (sus : Nat) : State :=
  let ix := sus % 4096
  let kind := sus / 4096
  let blocked := s.named sus || (decide (kind = 3) && (List.range 8).any (fun i => s.named (suspect kEngine (8 * ix + i))))
  if kind = 2 ∨ kind = 3 ∨ kind = 5 ∨ kind = 6 ∨ kind = 10 then
    if blocked then s.setFlag R.SIEVE_STATUS_ACK_MISS true
    else if !isolable sus then s
    else match kind with
      | 2 => s.restoreEngine ix
      | 3 => (List.range 8).foldl (fun s i => s.restoreEngine (8 * ix + i)) s
      | 5 =>
        match s.portOfLane ix with
        | some m => { s with ports := tset (fun _ => {}) s.ports m { tget (fun _ => ({} : PortSt)) s.ports m with held := false } }
        | none => s
      | 6 => if (s.wlPort ix).held then (s.setWlPort ix { s.wlPort ix with held := false }).wlTrain ix else s
      | 10 => s.setCore ix { s.core ix with held := false }
      | _ => s
  else s

/-- The raw time at which the CLK_SLOW cycle after the present one begins. -/
def State.nextSlow (s : State) : Nat := ceilDiv ((slowCycles s.raw + 1) * 1000) 375

/-- A write of SIEVE_INJECT: an injected report in the following CLK_SLOW cycle (R649). A source above 447 is none. -/
def State.sieveInject (s : State) (source sus : Nat) : State :=
  if source ≤ 447 then
    (((s.set R.SIEVE_INJECT_SOURCE source).set R.SIEVE_INJECT_SUSPECT sus).advance s.nextSlow).report source sus 0 true
  else s

/-- SIEVE_REPORT: a source reports (R634). A source that is not connected never reports (R625). -/
def execSieveReport (source : Fin 768) (sus : BitVec 16) (detail : Word) (now : Nat) (s : State) : Out :=
  whenUp s (fun s => if source.val ≤ 447 then (s.advance now).report source sus.toNat detail else s)

/-- SIEVE_ACK (R639). Accepted while halted (R646). -/
def execSieveAck (recno : BitVec 32) (s : State) : Out :=
  whenUp s (fun s => (s.set R.SIEVE_ACK_RECNO recno.toNat).sieveAck recno.toNat)

/-- SIEVE_RING_HEAD_WRITE (R640). Accepted while halted (R646). -/
def execSieveRingHeadWrite (head : BitVec 9) (s : State) : Out := whenUp s (fun s => s.sieveHead head.toNat)

/-- SIEVE_RESTORE (R643); discarded while halted (R646). -/
def execSieveRestore (sus : BitVec 16) (s : State) : Out :=
  whenUp s (fun s => if s.halted then s else (s.set R.SIEVE_RESTORE_SUSPECT sus.toNat).sieveRestore sus.toNat)

/-- SIEVE_INJECT (R649); discarded while halted (R646). -/
def execSieveInject (source : BitVec 10) (sus : BitVec 16) (s : State) : Out :=
  whenUp s (fun s => if s.halted then s else s.sieveInject source.toNat sus.toNat)

/-- SIEVE_LOCK: LOCK freezes the configuration until the next core reset (R630). -/
def execSieveLock (s : State) : Out := whenUp s (fun s => if s.halted then s else s.setFlag R.SIEVE_CTRL_LOCK true)

end Sys2Proof.Machine
end

