-- ==== Sys2Proof/Machine/Timebase.lean ====
section
/-! DEFINITION. The timebase: local PTP time, its one step per epoch, the servo, the pulse-per-second input and the pulse
generators (12_timebase.md). -/

namespace Sys2Proof.Machine

/-- A register write of software: it takes effect while the main die is powered and not halted (R646, R651). -/
def whenWr (s : State) (f : State → State) : Out := .next (if s.up && !s.halted then f s else s)

/-! ### Rate and offset -/

/-- The largest magnitude of the rate (R493). -/
def rateLimit : Int := 219902325

/-- A rate limited to 200 ppm (R493). -/
def clampRate (x : Int) : Int := max (-rateLimit) (min rateLimit x)

/-- Fold the accumulated correction into the offset at the present raw value (R492). -/
def State.fold (s : State) : State :=
  let x : Int := (s.tb.a : Int) + s.getSigned R.TB_RATE_NOW * ((s.raw : Int) - s.tb.ra)
  let s := s.setSigned R.TB_OFFSET (s.getSigned R.TB_OFFSET + x / 2 ^ 40)
  { s with tb := { s.tb with a := (x % 2 ^ 40).toNat, ra := s.raw } }

/-- Put a rate in force, limited, after a fold; a rate beyond the limit is counted and reported (R492, R493, R517). -/
def State.setRate (s : State) (x : Int) : State :=
  let s := s.fold.setSigned R.TB_RATE_NOW (clampRate x)
  if x ≠ clampRate x then (s.inc (R.TB_CNT_COUNT 6)).report 20 0 else s

/-- TB_STATUS.STATE values (R518). -/
def tbFree : Nat := 0
def tbAcquire : Nat := 1
def tbLocked : Nat := 2
def tbHoldover : Nat := 3
def tbJumped : Nat := 4

/-! ### Pulse generators -/

/-- What the model keeps of a pulse generator. -/
def State.pg (s : State) (g : Nat) : Pg := tget (fun _ => {}) s.pgs g

/-- Replace what the model keeps of a pulse generator. -/
def State.setPg (s : State) (g : Nat) (p : Pg) : State := { s with pgs := tset (fun _ => {}) s.pgs g p }

/-- START of a generator in units of 2^-32 ns (R512). -/
def State.pgStart (s : State) (g : Nat) : Nat := s.get (R.TB_PG_START_NS g) * 2 ^ 32 + s.get (R.TB_PG_START_FRAC_FRAC g)

/-- PERIOD of a generator in units of 2^-32 ns (R512). -/
def State.pgPeriod (s : State) (g : Nat) : Nat := s.get (R.TB_PG_PERIOD_NS g) * 2 ^ 32 + s.get (R.TB_PG_PERIOD_FRAC_FRAC g)

/-- The first k whose T_k lies at or after local time t (R513, R514). -/
def State.pgFirst (s : State) (g : Nat) (t : Int) : Nat :=
  let d := (t * 2 ^ 32 - s.pgStart g).toNat
  ceilDiv d (s.pgPeriod g)

/-- Enable a generator (R513). -/
def State.pgEnable (s : State) (g : Nat) : State :=
  if s.flag (R.TB_PG_CTRL_ENABLE g) then s
  else if s.flag (R.TB_PG_CTRL_PERIODIC g) then
    if s.pgPeriod g < 1000 * 2 ^ 32 ∨ s.pgPeriod g ≤ s.get (R.TB_PG_WIDTH_NS g) * 2 ^ 32 then s.setFlag (R.TB_PG_STATUS_ERR g) true
    else ((s.setFlag (R.TB_PG_STATUS_ERR g) false).setFlag (R.TB_PG_CTRL_ENABLE g) true).setPg g
      { s.pg g with k := s.pgFirst g (s.now + 1000) }
  else
    let s := s.setFlag (R.TB_PG_STATUS_ERR g) false
    if (s.pgStart g : Int) < (s.now + 1000) * 2 ^ 32 then (s.setFlag (R.TB_PG_STATUS_MISSED g) true).report 22 0
    else (s.setFlag (R.TB_PG_CTRL_ENABLE g) true).setPg g { s.pg g with k := 0 }

/-- Disable a generator: its pin is low from then on (R515). -/
def State.pgDisable (s : State) (g : Nat) : State :=
  ((s.setFlag (R.TB_PG_CTRL_ENABLE g) false).setFlag (R.TB_PG_STATUS_OUTPUT g) false).setPg g { s.pg g with rose := none, stepped := false }

/-- What a step of local time does to a generator (R514). -/
def State.pgStep (s : State) (g : Nat) : State :=
  let s := if (s.pg g).rose.isSome then s.setPg g { s.pg g with stepped := true } else s
  if s.flag (R.TB_PG_CTRL_ENABLE g) && s.flag (R.TB_PG_CTRL_PERIODIC g) then
    (s.setPg g { s.pg g with k := s.pgFirst g s.now }).inc (R.TB_PG_RESYNC_COUNT g)
  else s

/-! ### Epochs and steps -/

/-- Open an epoch: count it, clear STEP_USED, post EPOCH to every bound thread and raise line 4 (R497). A step of the same CLK_TIME cycle is the new
epoch's (R498). -/
def State.newEpoch (s : State) : State :=
  let s := (s.inc R.TB_EPOCH_EPOCH).setFlag R.TB_STATUS_STEP_USED (decide (s.tb.stepRaw = some s.raw))
  ((List.range 256).foldl (fun s c => s.postCh c 14) s).raiseLines 4

/-- Step local time by d ns, the epoch's one step (R496, R514). -/
def State.applyStep (s : State) (d : Int) : State :=
  let s := (s.setSigned R.TB_OFFSET (s.getSigned R.TB_OFFSET + d)).setFlag R.TB_STATUS_STEP_USED true
  let s := { s.inc (R.TB_CNT_COUNT 2) with tb := { s.tb with stepRaw := some s.raw } }
  let s := { s with tickFrom := s.now, lastTick := min s.lastTick (s.now - 1) }
  (List.range 8).foldl (fun s g => s.pgStep g) s

/-- A step asked by software: the epoch's second step is refused (R496); a step ends JUMPED (R503). -/
def State.softStep (s : State) (d : Int) : State :=
  if s.flag R.TB_STATUS_STEP_USED then (s.inc (R.TB_CNT_COUNT 3)).report 21 0
  else
    let s := s.applyStep d
    if s.get R.TB_STATUS_STATE = tbJumped then s.set R.TB_STATUS_STATE tbAcquire else s

/-! ### The servo -/

/-- The servo's proportional and integral part of a sample (R500). -/
def State.servoRun (s : State) (d : Int) (r rp : Nat) : State :=
  let dt : Int := (r : Int) - rp
  let e := min (max d (-(2 ^ 22))) (2 ^ 22)
  let i := clampRate (s.tb.i + Int.tdiv (e * 2 ^ 40) (dt * 2 ^ s.get R.TB_SERVO_KI_SHIFT))
  let good := if d.natAbs ≤ s.get R.TB_SERVO_LOCK_NS then s.tb.good + 1 else 0
  let s := { s with tb := { s.tb with i := i, good := good, rPrev := some r } }
  let s := s.setRate (i + Int.tdiv (e * 2 ^ 40) (dt * 2 ^ s.get R.TB_SERVO_KP_SHIFT))
  if s.get R.TB_STATUS_STATE = tbLocked ∧ d.natAbs > 4 * s.get R.TB_SERVO_LOCK_NS then s.set R.TB_STATUS_STATE tbAcquire
  else if s.get R.TB_STATUS_STATE ≠ tbLocked ∧ good ≥ 16 then s.set R.TB_STATUS_STATE tbLocked
  else s

/-- A sample of the selected source, newer than the last one processed (R500). -/
def State.servoSample (s : State) (m : Int) (r : Nat) : State :=
  let d := m - s.localAt r
  let follow := s.tb.followStep
  let s := { s with tb := { s.tb with rLast := some r, procRaw := s.raw, followStep := false } }
  let s := (s.inc (R.TB_CNT_COUNT 0)).setSigned R.TB_LAST_OFFSET_S d
  if s.flag R.TB_STATUS_STEP_USED = false ∧ (s.flag R.TB_CTRL_AUTO_STEP ∨ follow) ∧ d.natAbs > s.get R.TB_THRESH_STEP_MIN_NS then
    let s := s.applyStep d
    { s with tb := { s.tb with rPrev := none, good := 0 } }.set R.TB_STATUS_STATE tbAcquire
  else if d < -(1000 * s.get R.TB_THRESH_BACK_THRESH_US : Int) then
    let s := if s.get R.TB_STATUS_STATE = tbJumped then s
      else (((s.set R.TB_STATUS_STATE tbJumped).setFlag R.TB_STATUS_JUMP_SEEN true).inc (R.TB_CNT_COUNT 4)).report 18 0
    { s with tb := { s.tb with rPrev := none } }
  else match s.tb.rPrev with
    | none => { s with tb := { s.tb with rPrev := some r } }.set R.TB_STATUS_STATE tbAcquire
    | some rp => s.servoRun d r rp

/-- A committed sample (m, r) of a source (R499 to R501). -/
def State.sample (s : State) (source : Nat) (m : Int) (r : Nat) : State :=
  if !s.flag R.TB_CTRL_SERVO_EN then s
  else if s.tb.stepRaw.elim false (fun q => decide (r < q)) ∨ s.raw < r then s.inc (R.TB_CNT_COUNT 1)
  else if s.get R.TB_CTRL_SOURCE ≠ source then s
  else if s.tb.rLast.elim false (fun q => decide (r ≤ q)) then s.inc (R.TB_CNT_COUNT 1)
  else s.servoSample m r

/-- A write of TB_RATE: accepted while the servo is off (R501). -/
def State.writeRate (s : State) (v : Word) : State :=
  if s.flag R.TB_CTRL_SERVO_EN then s else (s.setReg K.TB_RATE v).setRate v.toInt

/-- A write of TB_GM_ID counts a change of master where the identity differs (R504). -/
def State.writeGmId (s : State) (v : Word) : State :=
  let s := if s.reg K.TB_GM_ID ≠ v then s.inc (R.TB_CNT_COUNT 7) else s
  s.setReg K.TB_GM_ID v

/-- Capture the three values of R495. -/
def State.tbSnap (s : State) : State :=
  ((s.set R.TB_SNAP_RAW_RAW s.raw).setSigned R.TB_SNAP_LOCAL_LOCAL s.now).set R.TB_SNAP_EPOCH_EPOCH (s.get R.TB_EPOCH_EPOCH)

/-! ### Time-stamp points (R505) -/

/-- Receive correction in sixteenths of a ns, by quad mode 1 (400G), 2 (200G), 3 (100G) (R505). -/
def rxCorrection (mode : Nat) : Int := if mode = 1 then -1552 else if mode = 2 then -1944 else -2688

/-- Transmit correction in sixteenths of a ns (R505). -/
def txCorrection (mode : Nat) : Int := if mode = 1 then 744 else if mode = 2 then 928 else 1192

/-- Time-stamp of a frame received at raw value r on MAC m, corrected and rounded to the nearest ns, ties upwards (R207, R505). -/
def State.rxStamp (s : State) (m r : Nat) : Nat :=
  (((r : Int) * 16 + rxCorrection (s.get (R.MP_QUAD_CFG_MODE (m / 4))) + s.getSigned (R.TB_TS_TRIM_RX_TRIM m) + 8) / 16).toNat

/-- Time-stamp of a frame sent at raw value r on MAC m (R505, R506). -/
def State.txStamp (s : State) (m r : Nat) : Nat :=
  (((r : Int) * 16 + txCorrection (s.get (R.MP_QUAD_CFG_MODE (m / 4))) + s.getSigned (R.TB_TS_TRIM_TX_TRIM m) + 8) / 16).toNat

/-! ### Commands -/

/-- TB_SNAP (R495). -/
def execTbSnap (now : Nat) (s : State) : Out := whenWr s (fun s => (s.advance now).tbSnap)

/-- NEW_EPOCH (R497, R498). -/
def execNewEpoch (now : Nat) (s : State) : Out := whenWr s (fun s => (s.advance now).newEpoch)

/-- TB_STEP (R496, R503, R514). -/
def execTbStep (d : Word) (now : Nat) (s : State) : Out :=
  whenWr s (fun s => ((s.advance now).setReg K.TB_STEP d).softStep d.toInt)

/-- TIMEBASE_SAMPLE: the MPC commits a PTP sample (R499, R500). -/
def execTimebaseSample (m r : Word) (now : Nat) (s : State) : Out :=
  whenWr s (fun s => (((s.advance now).setReg K.TB_SAMPLE_MASTER m).setReg K.TB_SAMPLE_RAW r).sample 0 m.toNat r.toNat)

/-- RATE_FOLD (R492). -/
def execRateFold (now : Nat) (s : State) : Out := whenUp s (fun s => (s.advance now).fold)

/-- TB_RATE_WRITE (R501, R493). -/
def execTbRateWrite (v : Word) (now : Nat) (s : State) : Out := whenWr s (fun s => (s.advance now).writeRate v)

/-- TB_GM_ID_WRITE (R504). -/
def execTbGmIdWrite (v : Word) (s : State) : Out := whenWr s (fun s => s.writeGmId v)

/-- HOLDOVER_TIMEOUT: no sample has been processed for HOLD_MS in ACQUIRE or LOCKED (R502). -/
def execHoldoverTimeout (now : Nat) (s : State) : Out :=
  whenUp s (fun s =>
    let s := s.advance now
    if (s.get R.TB_STATUS_STATE = tbAcquire ∨ s.get R.TB_STATUS_STATE = tbLocked) ∧
        s.tb.procRaw + s.get R.TB_THRESH_HOLD_MS * 1000000 ≤ s.raw then
      let s := { s with tb := { s.tb with rPrev := none } }
      ((s.set R.TB_STATUS_STATE tbHoldover).inc (R.TB_CNT_COUNT 5)).report 19 0
    else s)

/-- PPS_EDGE: a rising edge on TB_PPS_IN at raw value r (R511). -/
def execPpsEdge (now : Nat) (s : State) : Out :=
  whenUp s (fun s =>
    let s := s.advance now
    let l := s.now
    let s := (s.setSigned R.TB_PPS_CAPT_TIME l).inc (R.TB_CNT_COUNT 9)
    s.sample 4 ((l + 500000000) / 1000000000 * 1000000000 + s.getSigned R.TB_PPS_CFG_OFFSET_NS) s.raw)

/-- PG_ENABLE: a write of 1 to TB_PG_CTRL.ENABLE (R513). -/
def execPgEnable (g : Fin 8) (now : Nat) (s : State) : Out := whenWr s (fun s => (s.advance now).pgEnable g)

/-- PULSE_END: the output falls WIDTH ns of local time after it rose, or of raw time where a step came between (R512, R514);
a one-shot generator then clears ENABLE (R513). -/
def execPulseEnd (g : Fin 8) (now : Nat) (s : State) : Out :=
  whenUp s (fun s =>
    let s := s.advance now
    let p := s.pg g
    let w : Int := s.get (R.TB_PG_WIDTH_NS g)
    match p.rose with
    | none => s
    | some (r, l) =>
      if (p.stepped ∧ (r : Int) + w ≤ s.raw) ∨ (p.stepped = false ∧ l + w ≤ s.now) then
        let s := (s.setFlag (R.TB_PG_STATUS_OUTPUT g) false).setPg g { p with rose := none, stepped := false }
        if s.flag (R.TB_PG_CTRL_PERIODIC g) then s else s.setFlag (R.TB_PG_CTRL_ENABLE g) false
      else s)

end Sys2Proof.Machine
end

