-- ==== Sys2Proof/Machine/FrameMemory.lean ====
section
/-! DEFINITION. Requests to frame memory, scrubbing, uncorrectable errors, retirement, refresh and self-refresh
(13_frame_memory.md). -/

namespace Sys2Proof.Machine

/-- The 4 KB unit of a rank that holds a place, in ascending order of p (R533 step 2). -/
def Place.unit (p : Place) : Nat := p.p / 4096 * 32 + p.ch * 2 + p.pc

/-- Units of 4 KB in a rank of 12 GB. -/
def rankUnits : Nat := 3145728

/-- Bursts in a rank of 12 GB. -/
def rankBursts : Nat := 402653184

/-- The rank that serves a place: the spare for what has been moved to it (R533 steps 3 and 4). -/
def State.servedBy (s : State) (p : Place) : Nat × Nat :=
  let hit := decide (s.get R.MEM_REMAP_STACK = p.stack) && decide (s.get R.MEM_REMAP_RANK = p.rank)
  let st := s.get R.MEM_REMAP_STATE
  if hit && (st = 2 || (st = 1 && decide (p.unit < s.get R.MEM_MIG_STATUS_PROGRESS))) then (3, 2) else (p.stack, p.rank)

/-- The address of burst i of a stack's rank, walking its places in order of p: the inverse of R522. -/
def State.scrubAddr (s : State) (stack rank i : Nat) : Nat :=
  let g := 2 ^ s.get R.MEM_INTLV_GRAIN_LOG2
  let n := if rank = 2 then 3 else 4
  let p := i / 32 * 32
  let k := i % 32
  (if rank = 0 then 0 else if rank = 1 then 0xC00000000 else 0x1800000000) +
    (p / g * (32 * n) + stack * 32 + k) * g + p % g

/-- A correctable error of a rank: it is counted, and reported when the count within an hour first passes CE_LIMIT
(R529, R545). -/
def State.countCe (s : State) (stack rank : Nat) : State :=
  let s := s.inc (R.MEM_CNT_CE_COUNT stack rank)
  let m := s.memSt stack
  let old := (match rank with | 0 => m.ce0 | 1 => m.ce1 | _ => m.ce2).filter (fun t => decide (s.raw < t + 3600000000000))
  let new := s.raw :: old
  let s := s.setMemSt stack (match rank with
    | 0 => { m with ce0 := new } | 1 => { m with ce1 := new } | _ => { m with ce2 := new })
  let lim := s.get (R.MEM_SCRUB_CE_LIMIT stack)
  if lim ≠ 0 ∧ new.length > lim ∧ old.length ≤ lim then s.report (96 + 4 * stack) 0 else s

/-- An entry of MEM_UE_LOG, or the count of one lost (R536, R537, R546). -/
def State.logUe (s : State) (stack rank a : Nat) (p : Place) (syn : BitVec 44) : State :=
  let t := s.get (R.MEM_UE_CTRL_TAIL stack)
  if (t + 1) % 16 = s.get (R.MEM_UE_CTRL_HEAD stack) then s.inc (R.MEM_CNT_COUNT stack 4)
  else
    let v := a + (p.ch * 2 + p.pc) * 2 ^ 48 + rank * 2 ^ 53 + p.bank * 2 ^ 55 + p.row % 2 ^ 13 * 2 ^ 61 + p.column * 2 ^ 74 + syn.toNat * 2 ^ 84
    ((s.set (R.MEM_UE_LOG_WORD stack t 0) v).set (R.MEM_UE_LOG_WORD stack t 1) (v / 2 ^ 64)).set (R.MEM_UE_CTRL_TAIL stack) (t + 1)

/-- Whether an uncorrectable error is handled as in service: MODE SERVICE and the spare unused (R532, R535). -/
def State.ueInService (s : State) : Bool := s.flag R.MEM_CTRL_MODE && decide (s.get R.MEM_MIG_STATUS_STATE = 0)

/-- An uncorrectable error at an address served by a rank (R532, R535, R536). -/
def State.ue (s : State) (a stack rank : Nat) (syn : BitVec 44) : State :=
  let s := s.inc (R.MEM_CNT_UE_COUNT stack rank)
  if s.ueInService then
    let s := { s with poison := if s.poison.contains (a / 32) then s.poison else (a / 32) :: s.poison }
    (s.startRetire stack rank).report (94 + 4 * stack) (suspect kRank (4 * stack + rank))
  else (s.logUe stack rank a (s.place a) syn).report (95 + 4 * stack) 0

/-- Whether a requester is on the media path (R532): codec engines, proofing, the scaler, ingest, audio, the multiplexer. -/
def mediaPath : Requester → Bool
  | .unit t => [0x000D, 0x000F, 0x0010, 0x0011, 0x0013, 0x0014].contains t
  | _ => false

/-- The request queue of a bank of a stack's pseudo-channel and rank (R524). -/
def State.memQueue (s : State) (stack pc rank bank : Nat) : MemQueue := tget (fun _ => {}) (s.memSt stack).queues ((pc * 3 + rank) * 64 + bank)

/-- Replace a request queue. -/
def State.setMemQueue (s : State) (stack pc rank bank : Nat) (q : MemQueue) : State :=
  s.setMemSt stack { s.memSt stack with queues := tset (fun _ => {}) (s.memSt stack).queues ((pc * 3 + rank) * 64 + bank) q }

/-- A request leaves its queue: any of its requests, or in in-order mode the oldest (R524, R525). -/
def MemQueue.serve (q : MemQueue) (place : Nat) : MemQueue :=
  if q.ahead = 0 then { q with reqs := q.reqs.eraseIdx place }
  else if place = 0 then { reqs := q.reqs.drop 1, ahead := q.ahead - 1 }
  else q

/-- The controllers serve requests of their queues (R524). -/
def State.memServed (s : State) (l : List MemServed) : State :=
  l.foldl (fun s x => s.setMemQueue x.stack x.pc x.rank x.bank ((s.memQueue x.stack x.pc x.rank x.bank).serve x.place)) s

/-- A request for a burst enters its queue. A read of a row that a write ahead of it names puts the queue into in-order mode, which is counted (R524,
R525). -/
def State.memEnqueue (s : State) (write : Bool) (a : Nat) : State :=
  let p := s.place a
  let (stack, rank) := s.servedBy p
  let pc := p.ch * 2 + p.pc
  let q := s.memQueue stack pc rank p.bank
  let hit := !write && q.reqs.any (fun e => e.write && decide (e.row = p.row))
  let s := if hit ∧ q.ahead = 0 then s.inc (R.MEM_CNT_COUNT stack 0) else s
  s.setMemQueue stack pc rank p.bank { reqs := q.reqs ++ [⟨write, p.row⟩], ahead := if hit then q.reqs.length else q.ahead }

/-- A request is accepted: each burst that it touches enters its queue (R524, R527). -/
def State.memAccept (s : State) (write : Bool) (a n : Nat) : State :=
  (List.range ((a + n - 1) / 32 + 1 - a / 32)).foldl (fun s i => s.memEnqueue write (32 * (a / 32 + i))) s

/-- A read that the memory serves (R526, R529, R532, R536, and 02_layout_table.md R47 outside the regions): the state after it and the answer, none for an error response. -/
def State.memServe (s : State) (q : Requester) (a n : Nat) (ecc : EccResult) (served : List MemServed) : State × Option (List (BitVec 8)) :=
  if !mappedRange a n then (s.addrError q, none)
  else if !s.flag R.MEM_CTRL_ENABLE ∨ !(inHbm a && inHbm (a + n - 1)) then (s, none)
  else
    let p := s.place a
    let (stack, rank) := s.servedBy p
    let s := (s.memServed served).memAccept false a n
    let svc := s.ueInService
    let s := match ecc with
      | .clean => s
      | .correctable => s.countCe stack rank
      | .uncorrectable syn => s.ue a stack rank syn
    let data := s.dBytes a n
    let bad := s.poison.any (fun b => decide (32 * b < a + n) && decide (a < 32 * b + 32))
    let err := match ecc with | .uncorrectable _ => !svc | _ => false
    if err then (s, none)
    else if bad then (if mediaPath q then (s.inc (R.MEM_CNT_COUNT stack 3), some data) else (s, none))
    else (s, some data)

/-- A read whose answer goes to its requester. -/
def State.memRead (s : State) (q : Requester) (a n : Nat) (ecc : EccResult) (served : List MemServed) : State :=
  let (s, r) := s.memServe q a n ecc served
  s.emit (.memResp q a r)

/-- A write that the memory serves (R526, R527). -/
def State.memWrite (s : State) (q : Requester) (a : Nat) (data : List (BitVec 8)) : State :=
  if !mappedRange a data.length then (s.addrError q).emit (.memResp q a none)
  else if !s.flag R.MEM_CTRL_ENABLE ∨ !(inHbm a && inHbm (a + data.length - 1)) then s.emit (.memResp q a none)
  else ((s.memAccept true a data.length).dStore a data).emit (.memResp q a (some []))

/-- The device holds its stacks in self-refresh: PS2 without held ingest (R539). -/
def State.srRegime (s : State) : Bool := decide (s.get R.HTH_PS_STATUS_STATE = 2) && !s.flag R.HTH_PS_STATUS_INGEST_HELD

/-- A request reaches a stack: it aborts an entry not yet issued (R540), and its time is kept. -/
def State.touchStack (s : State) (k : Nat) : State :=
  let m := s.memSt k
  let s := s.setMemSt k { m with lastReq := s.raw, srWanted := false }
  if m.srWanted then s.inc (R.MEM_CNT_COUNT k 1) else s

/-- A stack makes a request wait while it is in self-refresh (R541). -/
def State.memRequest (s : State) (r : MemReq) (f : State → State) : State :=
  let k := (s.place r.addr).stack
  if s.flag (R.MEM_SR_CTRL_IN_SR k) then s.setMemSt k { s.memSt k with waiting := (s.memSt k).waiting ++ [{ r with since := s.raw }] }
  else f (s.touchStack k)

/-- A stack leaves self-refresh; the requests that wait are served and counted (R541). -/
def State.srExit (s : State) (k : Nat) : State :=
  let m := s.memSt k
  if s.flag (R.MEM_SR_CTRL_IN_SR k) then
    let s := (s.setMemSt k { m with waiting := [], lastReq := s.raw }).setFlag (R.MEM_SR_CTRL_IN_SR k) false
    m.waiting.foldl (fun s r =>
      let s := s.inc (R.MEM_CNT_COUNT k 2)
      match r.data with
      | some d => s.memWrite r.q r.addr d
      | none => s.memRead r.q r.addr r.n r.ecc r.served) s
  else s

/-! ### Commands -/

/-- MEMORY_READ (R524 to R526, R529, R532, R536, R541). `served`: the queued requests that the controllers have served before it, in the order in
which they served them; what the code finds is the operand `ecc`. -/
def execMemoryRead (q : Requester) (a : BitVec 48) (n : BitVec 12) (ecc : EccResult) (served : List MemServed) (now : Nat) (s : State) : Out :=
  whenUp s (fun s => (s.advance now).memRequest { q := q, addr := a.toNat, n := n.toNat, data := none, ecc := ecc, served := served } (fun s => s.memRead q a.toNat n.toNat ecc served))

/-- MEMORY_WRITE (R526, R527, R541). -/
def execMemoryWrite (q : Requester) (a : BitVec 48) (data : List (BitVec 8)) (now : Nat) (s : State) : Out :=
  whenUp s (fun s => (s.advance now).memRequest { q := q, addr := a.toNat, n := 0, data := some data } (fun s => s.memWrite q a.toNat data))

/-- SCRUB_READ: the next burst of a stack (R529, R530, R532, R536). The retired rank is out of service. -/
def execScrubRead (k : StackId) (ecc : EccResult) (now : Nat) (s : State) : Out :=
  whenUp s (fun s =>
    let s := s.advance now
    let m := s.memSt k
    let i := m.scrub % (3 * rankBursts)
    let rank := i / rankBursts
    let s := s.setMemSt k { m with scrub := (i + 1) % (3 * rankBursts) }
    let s := if i + 1 = 3 * rankBursts then s.inc (R.MEM_CNT_COUNT k 5) else s
    let spare := k.val = 3 ∧ rank = 2
    let used := s.get R.MEM_REMAP_STATE ≠ 0
    let retired := s.get R.MEM_REMAP_STATE = 2 ∧ s.get R.MEM_REMAP_STACK = k ∧ s.get R.MEM_REMAP_RANK = rank
    let a := if spare then s.scrubAddr (s.get R.MEM_REMAP_STACK) (s.get R.MEM_REMAP_RANK) (i % rankBursts)
      else s.scrubAddr k rank (i % rankBursts)
    if retired then s
    else match ecc with
      | .clean => s
      | .correctable => s.countCe k rank
      | .uncorrectable syn =>
        if spare ∧ used = false then
          let f := s.free
          s.took.ue (f.toNat % 2 ^ 48) k rank syn
        else s.ue a k rank syn)

/-- MIGRATION_COPY_UNIT: the copy engine finishes one 4 KB unit; after the last the rank is RETIRED (R533). -/
def execMigrationCopyUnit (now : Nat) (s : State) : Out :=
  whenUp s (fun s =>
    let s := s.advance now
    if s.get R.MEM_MIG_STATUS_STATE = 1 then
      let p := s.get R.MEM_MIG_STATUS_PROGRESS + 1
      let s := s.set R.MEM_MIG_STATUS_PROGRESS p
      if rankUnits ≤ p then
        ((s.set R.MEM_REMAP_STATE 2).set R.MEM_MIG_STATUS_STATE 2).report (97 + 4 * s.get R.MEM_REMAP_STACK) 0
      else s
    else s)

/-- BANK_REFRESH: one bank of a stack is refreshed; only requests to it wait (R538). -/
def execBankRefresh (k : StackId) (now : Nat) (s : State) : Out :=
  whenUp s (fun s =>
    let s := s.advance now
    s.setMemSt k { s.memSt k with refreshes := (s.memSt k).refreshes + 1 })

/-- SELF_REFRESH_ENTRY: the stack's queues are drained and the entry command is issued (R539). -/
def execSelfRefreshEntry (k : StackId) (now : Nat) (s : State) : Out :=
  whenUp s (fun s =>
    let s := s.advance now
    if (s.memSt k).srWanted ∧ s.srRegime then
      (s.setMemSt k { s.memSt k with srWanted := false, queues := [] }).setFlag (R.MEM_SR_CTRL_IN_SR k) true
    else s)

/-- SELF_REFRESH_RETRY: the stack has had no request for IDLE_US (R540). -/
def execSelfRefreshRetry (k : StackId) (now : Nat) (s : State) : Out :=
  whenUp s (fun s =>
    let s := s.advance now
    let m := s.memSt k
    if s.srRegime ∧ !s.flag (R.MEM_SR_CTRL_IN_SR k) ∧ m.lastReq + 1000 * s.get (R.MEM_SR_CTRL_IDLE_US k) ≤ s.raw then
      s.setMemSt k { m with srWanted := true }
    else s)

/-- SELF_REFRESH_EXIT: 480 ns or more after the first of them came, the waiting requests are served and counted (R541). -/
def execSelfRefreshExit (k : StackId) (now : Nat) (s : State) : Out :=
  whenUp s (fun s =>
    let s := s.advance now
    if (s.memSt k).waiting.head?.elim false (fun r => decide (r.since + 480 ≤ s.raw)) then s.srExit k else s)

end Sys2Proof.Machine
end

