-- ==== Sys2Proof/Machine/Grid.lean ====
section
/-! DEFINITION. The frame grid of a channel and the times that hang on it: T_frame, T_capture, T_slot, D and the coding
deadline (02_layout_table.md R61, 01_picture_journey.md R26 to R36, 08_rate_and_delay.md R349 to R355). -/

namespace Sys2Proof.Machine

/-- What a channel's admitted declaration charges. -/
def State.admOf (s : State) (ch : Nat) : Adm := tget (fun _ => {}) s.adm ch

/-- Whether a channel's admitted declaration is of sub-frame mode (R349). -/
def State.subframe (s : State) (ch : Nat) : Bool := (s.admOf ch).admitted && (s.admOf ch).subframe

/-- The frame period in units of 2^-32 ns (R349). -/
def State.period (s : State) (ch : Nat) : Nat := (s.reg (K.RC_CH_PERIOD ch)).toNat

/-- n lines of a channel's source, in units of 2^-32 ns: n × T_line (R349). -/
def State.linesTime (s : State) (ch n : Nat) : Nat := s.period ch * n / s.get (R.RC_CH_TIMING_TOTAL_LINES ch)

/-- T_frame(n) in units of 2^-32 ns: on the decode grid (R398), on the grid of a transcode channel's source (R407), or on the grid of
the video source's anchor (R61). -/
def State.tFrame (s : State) (ch n : Nat) : Int :=
  if s.flag (R.DEC_CFG_ENABLE ch) then (s.get (R.DEC_GRID_BASE_NS ch) * 2 ^ 32 + n * s.period ch : Nat)
  else if s.flag (R.CTX_DEC_SRC_ENABLE ch) then
    let d := s.get (R.CTX_DEC_SRC_SOURCE ch)
    (s.get (R.DEC_GRID_BASE_NS d) * 2 ^ 32 + n * s.period d : Nat)
  else (s.chan ch).anchor.getD 0 + ((n + 1) * s.period ch : Nat)

/-- The snapshot now in force on a channel. -/
def State.snapNow (s : State) (ch : Nat) : Nat := s.get (R.CTX_COMMIT_SEQ_SEQ ch)

/-- Whether a channel has a frame grid: the anchor of its video source is known, or it takes a decode grid (R61, R398, R407). Nothing hangs on the
grid before (R62). -/
def State.gridOn (s : State) (ch : Nat) : Bool :=
  (s.chan ch).anchor.isSome || s.flag (R.DEC_CFG_ENABLE ch) || s.flag (R.CTX_DEC_SRC_ENABLE ch)

/-- The video flow that feeds a channel: its lowest-numbered enabled flow of KIND 0 (R228). -/
def State.videoFlow (s : State) (ch : Nat) : Option Nat :=
  s.ingOn.find? (fun f => decide (s.get (R.ING_FLOW_KIND_KIND f) = 0) && decide (s.get (R.ING_FLOW_KIND_CHANNEL f) = ch))

/-- Width and height of the frames that a channel's video flow brings; (0, 0) without one. -/
def State.flowSize (s : State) (ch : Nat) : Nat × Nat :=
  (s.videoFlow ch).elim (0, 0) (fun f => (s.get (R.ING_FLOW_VIDEO_WIDTH f), s.get (R.ING_FLOW_VIDEO_HEIGHT f)))

/-- Width and height of the channel's source frame: of the pictures that its decode channel puts out (R407), of its video flow, or, while
it runs and no flow is enabled, as the flow gave them last (R35). -/
def State.srcSize (s : State) (ch : Nat) : Nat × Nat :=
  if s.flag (R.CTX_DEC_SRC_ENABLE ch) then let d := tget (fun _ => ({} : DecSt)) s.decs (s.get (R.CTX_DEC_SRC_SOURCE ch)); (d.width, d.height)
  else if s.running ch ∧ (s.videoFlow ch).isNone then (s.chan ch).size
  else s.flowSize ch

def State.srcWidth (s : State) (ch : Nat) : Nat := (s.srcSize ch).1
def State.srcHeight (s : State) (ch : Nat) : Nat := (s.srcSize ch).2

/-- CTU size of a rendition in luma samples (R292). -/
def State.ctuSize (s : State) (ch r : Nat) : Nat := 32 * 2 ^ s.get (R.CTX_REND_CODEC_CTU ch r)

/-- Lines of a full band of a rendition's picture: its CTU rows (R294). -/
def State.bandLines (s : State) (ch r : Nat) : Nat := s.get (R.CTX_REND_CODEC_BAND_ROWS ch r) * s.ctuSize ch r

/-- L_b, the source lines of a full band: of one band of rendition 0, whose picture the scaler may have made of another height (R27, R275,
R349). -/
def State.srcBand (s : State) (ch : Nat) : Nat :=
  if s.flag (R.CTX_REND_CODEC_FROM_SCALER ch 0) then
    s.bandLines ch 0 * s.srcHeight ch / s.getIn (R.SCL_REND_CFG_HEIGHT (8 * ch)) (s.snapNow ch)
  else s.bandLines ch 0

/-- T_capture(k) of band k of frame n in sub-frame mode (R27). -/
def State.tCapture (s : State) (ch n k : Nat) : Int := s.tFrame ch n + s.linesTime ch ((k + 1) * s.srcBand ch)

/-- A ns count in units of 2^-32 ns. -/
def ns (x : Nat) : Int := (x * 2 ^ 32 : Nat)

/-- Whether local time has reached a time in units of 2^-32 ns. -/
def State.reached (s : State) (t : Int) : Bool := decide (t ≤ s.now * 2 ^ 32)

/-- T_slot in ns: the band period rounded down to a multiple of 100 ns (R349). -/
def State.tSlot (s : State) (ch : Nat) : Nat := s.linesTime ch (s.srcBand ch) / 2 ^ 32 / 100 * 100

/-- D in ns (R28, R351). -/
def State.delayNs (s : State) (ch : Nat) : Nat := s.get (R.RC_CH_DELAY_D ch) * 100

/-- Bands of a frame of the channel in sub-frame mode. -/
def State.bandCount (s : State) (ch : Nat) : Nat := ceilDiv (s.srcHeight ch) (s.srcBand ch)

/-- T_capture of a whole frame in frame mode: the end of its last active line (R36), or T_frame for a transcoded one (R407). -/
def State.tCaptureFrame (s : State) (ch n : Nat) : Int :=
  if s.flag (R.CTX_DEC_SRC_ENABLE ch) then s.tFrame ch n else s.tFrame ch n + s.linesTime ch (s.srcHeight ch)

/-- The start of the proofing slot of band k of frame n (R29). -/
def State.slotStart (s : State) (ch n k : Nat) : Int := s.tCapture ch n k + ns 12000

/-- The coding deadline of a budget unit: band k of frame n, or in frame mode decode-order picture n (R355). -/
def State.deadline (s : State) (ch n k : Nat) : Int :=
  if s.subframe ch then s.slotStart ch n k + ns (2 * s.tSlot ch)
  else s.tCaptureFrame ch n + ns (s.delayNs ch) - ns (1000 * s.get (R.RC_CH_FRAME_TAIL_US ch))

/-- The release time of a budget unit (R26, R36). -/
def State.releaseTime (s : State) (ch n k : Nat) : Int :=
  if s.subframe ch then s.tCapture ch n k + ns (s.delayNs ch) else s.tCaptureFrame ch n + ns (s.delayNs ch)

/-- The snapshot of frame n (R64). -/
def State.snapOf (s : State) (ch n : Nat) : Nat := (s.chan ch).base + (n - (s.chan ch).first) + 1

/-- A frame of a channel's source in frame memory. -/
def State.frameSt (s : State) (ch n : Nat) : Option FrameSt := (s.chan ch).frames.find? (fun f => decide (f.n = n))

/-- The sampling instant that the grid gives frame n: a captured frame's lies a period before T_frame(n), a decoded one's at T_frame(n) (R61, R407,
log 124). -/
def State.gridInst (s : State) (ch n : Nat) : Int :=
  s.tFrame ch n - (if s.flag (R.CTX_DEC_SRC_ENABLE ch) then 0 else (s.period ch : Int))

/-- T_sample of a channel's frame n: its source frame's own instant, or the grid's where no frame was assigned to the grid point or the frame has not
been handed over (R454, R458). -/
def State.tSample (s : State) (ch n : Nat) : Int :=
  match (s.chan ch).past.find? (fun f => decide (f.n = n)) with
  | some f => f.inst
  | none => s.gridInst ch n

/-- The sampling instant, in units of 2^-32 ns, of a 90 kHz RTP timestamp: the one nearest local time (log 20). -/
def State.rtpInstant (s : State) (rtp : Nat) : Int :=
  let ticks : Int := s.now * 90000 / 1000000000
  let x : Int := (rtp : Int) + (ticks - rtp + 2 ^ 31) / 2 ^ 32 * 2 ^ 32
  x * 1000000000 * 2 ^ 32 / 90000

/-- The index m of the grid point nearest an instant, the later one on a tie: T_frame(m) (R62); negative before T_frame(0). -/
def State.gridIndex (s : State) (ch : Nat) (inst : Int) : Int :=
  let p : Int := s.period ch
  (2 * (inst - (s.chan ch).anchor.getD 0) + p) / (2 * p) - 1

end Sys2Proof.Machine
end

