-- ==== Sys2Proof/Machine/MediaPorts.lean ====
section
/-! DEFINITION. Media lanes, ports and MACs: equalisation, loss of lock, and the reception of frames
(05_ingest.md R194 to R209). -/

namespace Sys2Proof.Machine

/-- What the model keeps of a lane. -/
def State.lane (s : State) (l : Nat) : LaneSt := tget (fun _ => {}) s.lanes l

/-- Replace what the model keeps of a lane. -/
def State.setLane (s : State) (l : Nat) (x : LaneSt) : State := { s with lanes := tset (fun _ => {}) s.lanes l x }

/-- Whether a MAC is active in its quad's mode (R194). -/
def State.macActive (s : State) (m : Nat) : Bool := decide (s.lanesOf m ≠ [])

/-- Whether a port is held down by an isolation (R642). -/
def State.portHeld (s : State) (m : Nat) : Bool := (tget (fun _ => ({} : PortSt)) s.ports m).held

/-- One eye window of a lane that is powered: the margin is shown, and after 16 windows below the floor the lane adds decision
feedback (R199 to R201). -/
def State.eyeWindow (s : State) (l mv : Nat) : State :=
  if (s.portOfLane l).isNone then s
  else
    let s := s.set (R.MP_LANE_STATUS_EYE_MV l) (min mv 255)
    let low := if mv < s.get (R.MP_LANE_EQ_EYE_FLOOR_MV l) then (s.lane l).low + 1 else 0
    let s := s.setLane l { s.lane l with low := min low 16 }
    if s.flag (R.MP_LANE_EQ_AUTO_DFE l) ∧ 16 ≤ low ∧ s.flag (R.MP_LANE_STATUS_DFE_ACTIVE l) = false then
      (s.setFlag (R.MP_LANE_STATUS_DFE_ACTIVE l) true).blockNotice 0x000C
    else s

/-- EYE_WINDOW (R199 to R201): the measured margin in mV is the operand. -/
def execEyeWindow (l : MPort) (mv : Nat) (now : Nat) (s : State) : Out :=
  whenIngest s (fun s => (s.advance now).eyeWindow l mv)

/-- FORCE_CTLE (R202). -/
def execForceCtle (l : MPort) (s : State) : Out :=
  whenWr s (fun s => (s.setFlag (R.MP_LANE_STATUS_DFE_ACTIVE l) false).setLane l { s.lane l with low := 0 })

/-- LANE_LOCK_LOSS: the lane's port goes down; a frame in reception is lost (R203, R204, R206). -/
def execLaneLockLoss (l : MPort) (midFrame : Bool) (now : Nat) (s : State) : Out :=
  whenIngest s (fun s =>
    let s := s.advance now
    if s.flag (R.MP_LANE_STATUS_LOCK l) then
      let s := (s.setFlag (R.MP_LANE_STATUS_LOCK l) false).setFlag (R.MP_LANE_STATUS_LOCK_LOST l) true
      let s := match s.portOfLane l with
        | some m =>
          let s := if midFrame ∧ s.flag (R.MAC_STATUS_LINK_UP m) then s.inc (R.MAC_CNT_COUNT m 1) else s
          s.portDown m
        | none => s
      s.report (110 + l) 0
    else s)

/-- PORT_UP: every lane of a port that is down has retrained (R205). -/
def execPortUp (m : MPort) (now : Nat) (s : State) : Out :=
  whenIngest s (fun s =>
    let s := s.advance now
    if s.macActive m ∧ s.flag (R.MAC_STATUS_LINK_UP m) = false ∧ s.portHeld m = false then
      let s := (s.lanesOf m).foldl (fun s l =>
        ((s.setFlag (R.MP_LANE_STATUS_LOCK l) true).setFlag (R.MP_LANE_STATUS_DFE_ACTIVE l) false).setLane l { s.lane l with low := 0 }) s
      ({ s with ports := tset (fun _ => {}) s.ports m {} } : State).setFlag (R.MAC_STATUS_LINK_UP m) true
    else s)

/-- A MAC examines a frame: it goes on to the ingest packet engine with its time-stamp, or is counted and discarded (R196,
R197, R207). -/
def State.macReceive (s : State) (m : Nat) (f : EthFrame) : State :=
  if f.len < 64 then s.inc (R.MAC_CNT_COUNT m 2)
  else if 9216 < f.len then s.inc (R.MAC_CNT_COUNT m 3)
  else if !f.fcsOk then s.inc (R.MAC_CNT_COUNT m 1)
  else if f.pause then s.inc (R.MAC_CNT_COUNT m 4)
  else
    let s := s.inc (R.MAC_CNT_COUNT m 0)
    { s with ingFifo := s.ingFifo ++ [⟨m, s.rxStamp m s.raw, s.raw, f⟩] }

/-- A frame whose end comes after its port went down: it was in reception then, and is lost (R206; log 122). -/
def State.macCut (s : State) (m : Nat) : State :=
  let p := tget (fun _ => ({} : PortSt)) s.ports m
  if p.cut then ({ s with ports := tset (fun _ => {}) s.ports m { p with cut := false } } : State).inc (R.MAC_CNT_COUNT m 1) else s

/-- MAC_FRAME_RECEIVE (R196, R197, R206, R207): on a MAC that is active, enabled and up. -/
def execMacFrameReceive (m : MPort) (f : EthFrame) (now : Nat) (s : State) : Out :=
  whenIngest s (fun s =>
    let s := s.advance now
    if s.macActive m ∧ s.flag (R.MAC_CTRL_ENABLE m) then (if s.flag (R.MAC_STATUS_LINK_UP m) then s.macReceive m f else s.macCut m) else s)

end Sys2Proof.Machine
end

