-- ==== Sys2Proof/Machine/Claims.lean ====
section
/-! DEFINITION. Shared resources: balls, pulse generators and regions of the shared buffer SRAM, their owners and the refusal of
a second claim (02_layout_table.md R71 to R76, 22_package.md R732). An owner is named by the BAR0 offset of its enable register. -/

namespace Sys2Proof.Machine

/-- The type ID of the block that holds a BAR0 offset (block map of R51); context windows have none. -/
def blockOf (off : Nat) : Nat :=
  (([(0x10000, 1), (0x20000, 2), (0x40000, 3), (0x50000, 4), (0x60000, 5), (0x80000, 6), (0xC0000, 7), (0x100000, 8),
    (0x200000, 9), (0x300000, 0xA), (0x400000, 0xB), (0x600000, 0xC), (0x700000, 0xD), (0x800000, 0xE), (0x880000, 0xF),
    (0x900000, 0x10), (0xA00000, 0x11), (0xB00000, 0x1B), (0xC00000, 0x12), (0xC80000, 0x13), (0xD00000, 0x14),
    (0xE00000, 0x15), (0xF00000, 0x16), (0xF10000, 0x17), (0xF20000, 0x18), (0xF30000, 0x19), (0x1000000, 0x1A)] :
    List (Nat × Nat)).find? (fun p => off < p.1)).elim 0 (·.2)

/-- Kinds of GCTL_CONFLICT_LOG0.KIND (R76). -/
def claimPin : Nat := 0
def claimPg : Nat := 1
def claimRegion : Nat := 2

/-- A refused claim: the first since VALID was cleared is logged, and each raises an S0 notice of the refused register's block
(R72, R76, R626). -/
def State.refuse (s : State) (off kind owner : Nat) : State :=
  let s := if s.flag R.GCTL_CONFLICT_LOG0_VALID then s
    else ((((s.set R.GCTL_CONFLICT_LOG0_REFUSED_OFFSET off).set R.GCTL_CONFLICT_LOG0_KIND kind).setFlag
      R.GCTL_CONFLICT_LOG0_VALID true).set R.GCTL_CONFLICT_LOG1_OWNER_OFFSET owner)
  s.blockNotice (blockOf off)

/-- The owner of ball GPb (R732). -/
def State.ballOwner (s : State) (b : Nat) : Option Nat :=
  if bitAt (s.get R.GCTL_GPIO_EN_EN) b then some K.GCTL_GPIO_EN
  else if b < 6 ∧ s.flag R.HLT_CTRL_VID_EN then some K.HLT_CTRL
  else if b = 11 ∧ s.flag R.AUD_VCXO_CFG_ENABLE then some K.AUD_VCXO_CFG
  else ((List.range 8).find? (fun g => decide (b = 12 + s.get (R.TB_PG_CTRL_PIN g)) && s.flag (R.TB_PG_CTRL_PIN_EN g))).map
    (fun g => K.TB_PG_CTRL g)

/-- The owners of a ball, as `State.claim` takes them. -/
def State.ballOwners (s : State) (b : Nat) : List (Nat × Nat) := ((s.ballOwner b).map (fun o => (claimPin, o))).toList

/-- The user of pulse generator g (R515). -/
def State.pgOwner (s : State) (g : Nat) : Option Nat :=
  if s.flag (R.TB_PG_CTRL_PIN_EN g) then some (K.TB_PG_CTRL g)
  else if s.flag R.AUD_START_ARM ∧ s.get R.AUD_START_PG = g then some K.AUD_START
  else none

/-- The user of a generator, as `State.claim` takes it. -/
def State.pgOwners (s : State) (g : Nat) : List (Nat × Nat) := ((s.pgOwner g).map (fun o => (claimPg, o))).toList

/-- First address of the shared buffer SRAM (R45). -/
def sramBase : Nat := 0x4000000000

/-- Whether n bytes from `a` lie in the shared buffer SRAM. -/
def inSram (a n : Nat) : Bool := decide (sramBase ≤ a) && decide (a + n ≤ sramBase + 0x4000000)

/-- Bytes of a sample in a stream buffer (R416). -/
def State.sampleBytes (s : State) (b : Nat) : Nat := if s.get (R.AUD_SB_CFG_PACK b) = 0 then 3 else 4

/-- Region of stream buffer b: base and length (R444). -/
def State.sbRegion (s : State) (b : Nat) : Nat × Nat :=
  (s.get (R.AUD_SB_BASE b), s.get (R.AUD_SB_CFG_DEPTH b) * s.get (R.AUD_SB_CFG_CHANNELS b) * s.sampleBytes b)

/-- Region of a channel's ancillary ring (R462): 16 entries of 2 048 bytes. -/
def State.ancRegion (s : State) (ch : Nat) : Nat × Nat := (s.get (R.MUX_ANC_BASE_BASE ch) * 2048, 32768)

/-- The staging region, which the boot ROM claims until firmware releases it at step 8 of the boot flow (21_startup.md R717). DESIGN CHOICE (log 136):
its owner is named by GCTL_BOOT_STATUS. -/
def State.stagingClaim (s : State) : List (Nat × Nat × Nat) :=
  if s.get R.GCTL_BOOT_STATUS_STAGE = 2 then [] else [(0x4003C00000, 0x400000, K.GCTL_BOOT_STATUS)]

/-- The regions owned, with the enable register of each. -/
def State.regions (s : State) : List (Nat × Nat × Nat) :=
  ((List.range 512).filter (fun b => s.flag (R.AUD_SB_CFG_ENABLE b))).map
      (fun b => ((s.sbRegion b).1, (s.sbRegion b).2, K.AUD_SB_CFG b)) ++
    ((List.range 256).filter (fun c => s.flag (R.MUX_ANC_BASE_ENABLE c))).map
      (fun c => ((s.ancRegion c).1, (s.ancRegion c).2, K.MUX_ANC_BASE c)) ++
    (if s.flag R.DMA_BUF_BASE_ENABLE then [(s.get R.DMA_BUF_BASE_BASE * 0x400000, 0x400000, K.DMA_BUF_BASE)] else []) ++ s.stagingClaim

/-- The owners of the regions that share a byte with n bytes from `a` (R72), as `State.claim` takes them. -/
def State.regionOwners (s : State) (a n : Nat) : List (Nat × Nat) :=
  (s.regions.filter (fun r => decide (a < r.1 + r.2.1) && decide (r.1 < a + n))).map (fun r => (claimRegion, r.2.2))

/-- The enable at `off` has been granted: its raw time is kept for R73. -/
def State.claimed (s : State) (off : Nat) : State := { s with claimAt := tput s.claimAt off s.raw }

/-- Whether the enable at `off` takes precedence over the owner `o`: `o` was granted in this CLK_FAB cycle and has the higher offset (R73). -/
def State.outranks (s : State) (off o : Nat) : Bool :=
  decide (off < o) && (tfind s.claimAt o).any (fun t => decide (fabCycle t = fabCycle s.raw))

/-- A claim granted earlier in this CLK_FAB cycle gives way: the enable reads back 0 and its status reads CONFLICT (R72, R73). MUX_ANC_BASE has no
status field. -/
def State.revoke (s : State) (o : Nat) : State :=
  let put := fun (en st : Field) (x : Nat) => (s.setFlag en false).set st x
  if o = K.HLT_CTRL then put R.HLT_CTRL_VID_EN R.HLT_CTRL_STATE 2
  else if o = K.AUD_VCXO_CFG then put R.AUD_VCXO_CFG_ENABLE R.AUD_VCXO_CFG_STATE 2
  else if o = K.AUD_START then put R.AUD_START_ARM R.AUD_START_STATE 2
  else if o = K.DMA_BUF_BASE then put R.DMA_BUF_BASE_ENABLE R.DMA_BUF_BASE_STATE 2
  else match idx1 K.TB_PG_CTRL 8 o with
    | some g => put (R.TB_PG_CTRL_PIN_EN g) (R.TB_PG_STATUS_STATE g) 2
    | none => match idx1 K.AUD_SB_CFG 512 o with
      | some b => put (R.AUD_SB_CFG_ENABLE b) (R.AUD_SB_STATUS_STATE b) 2
      | none => match idx1 K.MUX_ANC_BASE 256 o with
        | some c => s.setFlag (R.MUX_ANC_BASE_ENABLE c) false
        | none => s

/-- An enable at `off` asks for resources whose owners, with the kind of each resource, are listed. It is refused by the first owner that it does not
outrank (`no` sets its status); else the owners that it outranks are refused in its place, and `yes` grants it (R71 to R73). -/
def State.claim (s : State) (off : Nat) (owners : List (Nat × Nat)) (no yes : State → State) : State :=
  match owners.find? (fun p => !s.outranks off p.2) with
  | some p => (no s).refuse off p.1 p.2
  | none => (yes (owners.foldl (fun s p => (s.revoke p.2).refuse p.2 p.1 off) s)).claimed off

end Sys2Proof.Machine
end

