-- ==== Sys2Proof/Machine/Audio.lean ====
section
/-! DEFINITION. Stream buffers, TDM ports, the oscillator-steering loop, the common start and AUD tasks (10_audio.md). -/

namespace Sys2Proof.Machine

/-! ### Media sample numbers and stream buffers -/

/-- Sample rate from a RATE96 bit. -/
def rateOf (r96 : Bool) : Nat := if r96 then 96000 else 48000

/-- N(t) (R415). -/
def sampleNo (r96 : Bool) (t : Int) : Int := t * rateOf r96 / 1000000000

/-- What the model keeps of a stream buffer. -/
def State.sb (s : State) (b : Nat) : SbSt := tget (fun _ => {}) s.sbs b

/-- Replace what the model keeps of a stream buffer. -/
def State.setSb (s : State) (b : Nat) (x : SbSt) : State := { s with sbs := tset (fun _ => {}) s.sbs b x }

/-- Whether a buffer is in use: enabled, with audio running (R442, R444). -/
def State.sbOn (s : State) (b : Nat) : Bool := s.flag R.AUD_CTRL_ENABLE && decide (b < 512) && s.flag (R.AUD_SB_CFG_ENABLE b)

/-- R(t) of a buffer now (R415). -/
def State.readPos (s : State) (b : Nat) : Int :=
  sampleNo (s.flag (R.AUD_SB_CFG_RATE96 b)) s.now - s.get (R.AUD_SB_CFG_READ_LAT b)

/-- Address of sample N of channel c (R416). -/
def State.sampleAddr (s : State) (b n c : Nat) : Nat :=
  (s.sbRegion b).1 + (n % s.get (R.AUD_SB_CFG_DEPTH b) * s.get (R.AUD_SB_CFG_CHANNELS b) + c) * s.sampleBytes b

/-- A 24-bit sample as a buffer stores it (R438). -/
def packSample (pack : Nat) (big : Bool) (v : Nat) : List (BitVec 8) :=
  let x := match pack with
    | 0 => leBytes 3 v
    | 1 => leBytes 4 (v * 256)
    | _ => leBytes 4 (if v ≥ 0x800000 then v + 0xFF000000 else v)
  if big then x.reverse else x

/-- The 24-bit sample in a buffer's bytes (R438). -/
def unpackSample (pack : Nat) (big : Bool) (l : List (BitVec 8)) : Nat :=
  let v := leNat (if big then l.reverse else l)
  (if pack = 1 then v / 256 else v) % 2 ^ 24

/-- The sample stored at a place, whatever its valid bit (R439). -/
def State.sampleAt (s : State) (b n c : Nat) : Nat :=
  unpackSample (s.get (R.AUD_SB_CFG_PACK b)) (s.flag (R.AUD_SB_CFG_BIG_ENDIAN b)) (s.bytes (s.sampleAddr b n c) (s.sampleBytes b))

/-- A writer's sample N of channel c: LATE, OVERRUN, COLLIDED or stored (R417). A port's inserted frame counts REPEATED and not
WRITTEN (R429). -/
def State.writeSample (s : State) (b : Nat) (n : Int) (c v : Nat) (inserted : Bool := false) : State :=
  if !s.sbOn b ∨ s.get (R.AUD_SB_CFG_CHANNELS b) ≤ c then s
  else
    let r := s.readPos b
    let x := s.sb b
    let m := tget (fun _ => 0) x.valid n.toNat
    if n < r ∨ n < 0 then s.inc (R.AUD_SB_CNT_COUNT b 1)
    else if r + s.get (R.AUD_SB_CFG_DEPTH b) ≤ n then s.inc (R.AUD_SB_CNT_COUNT b 2)
    else if bitAt m c then s.inc (R.AUD_SB_CNT_COUNT b 3)
    else
      let s := s.setBytes (s.sampleAddr b n.toNat c) (packSample (s.get (R.AUD_SB_CFG_PACK b)) (s.flag (R.AUD_SB_CFG_BIG_ENDIAN b)) v)
      let s := s.setSb b { x with valid := tset (fun _ => 0) x.valid n.toNat (m + 2 ^ c) }
      s.inc (R.AUD_SB_CNT_COUNT b (if inserted then 5 else 0))

/-- The V, U and C bits of a sample, kept beside it (R437). -/
def State.keepVuc (s : State) (b : Nat) (n : Int) (c v : Nat) : State :=
  let d := s.get (R.AUD_SB_CFG_DEPTH b)
  let x := s.sb b
  s.setSb b { x with vuc := tset (fun _ => 0) x.vuc (n.toNat % d * 64 + c) v }

/-- Slots of a port (R422, R442). -/
def State.slots (s : State) (p : Nat) : Nat := 2 * 2 ^ s.get (R.AUD_PORT_CFG_SLOTS p)

/-- What the model keeps of a TDM port. -/
def State.tdm (s : State) (p : Nat) : TdmSt := tget (fun _ => {}) s.tdms p

/-- Replace what the model keeps of a TDM port. -/
def State.setTdm (s : State) (p : Nat) (x : TdmSt) : State := { s with tdms := tset (fun _ => {}) s.tdms p x }

/-- The buffer and channel of a slot, or none where it is masked (R427). -/
def State.slotOf (s : State) (mask : Nat) (maps : List Nat) (i : Nat) : Option (Nat × Nat) :=
  let e := maps.getD i 0
  if bitAt mask i ∧ s.sbOn (e % 512) ∧ e / 512 % 64 < s.get (R.AUD_SB_CFG_CHANNELS (e % 512)) then some (e % 512, e / 512 % 64) else none

/-- Enabled audio ingest flows that write a buffer (R228, R436). -/
def State.audFlows (s : State) (b : Nat) : List Nat :=
  s.ingOn.filter (fun f => (decide (s.get (R.ING_FLOW_KIND_KIND f) = 1) || decide (s.get (R.ING_FLOW_KIND_KIND f) = 2)) &&
    decide (s.get (R.ING_FLOW_KIND_DEST f) = b))

/-- The channels of a buffer that are live: at least one enabled writer names them (R418). Writers are ingest flows, receive slots of
running ports, and the ST 302M path of a decode channel (R396). -/
def State.liveMask (s : State) (b : Nat) : Nat :=
  let flows := (s.audFlows b).flatMap (fun f => (List.range (s.get (R.AUD_FLOW_MAP_CHANNELS f))).map (· + s.get (R.AUD_FLOW_MAP_FIRST_CH f)))
  let ports := (List.range 8).flatMap (fun p =>
    if s.flag (R.AUD_PORT_STATUS_RUNNING p) then
      let x := s.tdm p
      (List.range (s.slots p)).filterMap (fun i => (s.slotOf x.maskRx x.mapRx i).bind (fun q => if q.1 = b then some q.2 else none))
    else [])
  let dec := (s.decs.filter (fun p => s.running p.1 && decide ((Config.st302Buffer (Fin.ofNat 256 p.1)).val = b) &&
    s.flag (R.DEC_TS_AUDIO_EN p.1))).flatMap (fun p => List.range p.2.audChans)
  (List.range (s.get (R.AUD_SB_CFG_CHANNELS b))).foldl (fun m c => if (flows ++ ports ++ dec).contains c then m + 2 ^ c else m) 0

/-- One media sample period of a buffer: every live channel of frame R is delivered or repeated, and its valid bits are cleared
(R418); samples passed over are discarded and counted (R420). -/
def State.sbPeriod (s : State) (b : Nat) : State :=
  let r := s.readPos b
  let x := s.sb b
  if x.lastR = some r then s
  else
    let live := s.liveMask b
    let old := x.valid.filter (fun p => decide ((p.1 : Int) < r))
    let lost := old.foldl (fun a p => a + popCount p.2 64) 0
    let m := if r < 0 then 0 else tget (fun _ => 0) x.valid r.toNat
    let chans := (List.range 64).filter (fun c => bitAt live c)
    let last := chans.foldl (fun t c => if bitAt m c then tset (fun _ => 0) t c (s.sampleAt b r.toNat c) else t) x.last
    let rep := (chans.filter (fun c => !bitAt m c)).length
    let s := s.setSb b { x with
      lastR := some r, last := last, valid := x.valid.filter (fun p => decide (r < (p.1 : Int))),
      periods := x.periods + 1, livePeriods := x.livePeriods + chans.length, discarded := x.discarded + lost }
    ((s.add (R.AUD_SB_CNT_COUNT b 1) lost).add (R.AUD_SB_CNT_COUNT b 4) chans.length).add (R.AUD_SB_CNT_COUNT b 5) rep

/-! ### TDM ports -/

/-- Show the fill of a port's FIFOs. -/
def State.showFill (s : State) (p : Nat) : State :=
  (s.set (R.AUD_PORT_STATUS_FILL_TX p) (s.tdm p).tx.length).set (R.AUD_PORT_STATUS_FILL_RX p) (s.tdm p).rx.length

/-- An insert or drop on the loop's reference FIFO leaves LOCKED (R432). `tx`: the FIFO's direction. -/
def State.refSlip (s : State) (p : Nat) (tx : Bool) : State :=
  if s.flag R.AUD_VCXO_CFG_ENABLE ∧ s.get R.AUD_VCXO_CFG_REF_PORT = p ∧ s.flag R.AUD_VCXO_CFG_REF_TX = tx ∧ s.flag R.AUD_VCXO_STATUS_LOCKED then
    let s := { s with vcxo := { s.vcxo with good := 0 } }
    ((s.setFlag R.AUD_VCXO_STATUS_LOCKED false).setFlag R.AUD_VCXO_STATUS_LOCK_LOST true).report 408 0
  else s

/-- The media side takes a receive frame and writes it at N0 + i (R428 to R430). -/
def State.portMediaRx (s : State) (p : Nat) : State :=
  let x := s.tdm p
  if !x.drains then s
  else
    let (frame, ins, rest) := match x.rx with
      | f :: t => (f, false, t)
      | [] => (x.lastRx, true, [])
    let s := if ins then (s.inc (R.AUD_PORT_CNT_COUNT p 2)).refSlip p false else s
    let s := (List.range (s.slots p)).foldl (fun s i =>
      match s.slotOf x.maskRx x.mapRx i with
      | some (b, c) => s.writeSample b (x.n0 + x.i : Nat) c (frame.getD i 0) ins
      | none => s) s
    s.setTdm p { s.tdm p with rx := rest, lastRx := frame, i := x.i + 1 }

/-- The media side delivers a transmit frame, built from the values the buffers deliver (R418, R428). -/
def State.portMediaTx (s : State) (p : Nat) : State :=
  let x := s.tdm p
  let frame := (List.range (s.slots p)).map (fun i =>
    match s.slotOf x.maskTx x.mapTx i with
    | some (b, c) => tget (fun _ => 0) (s.sb b).last c
    | none => 0)
  if x.tx.length ≥ 8 then ((s.setTdm p { x with tx := x.tx.drop 1 ++ [frame] }).inc (R.AUD_PORT_CNT_COUNT p 5)).refSlip p true
  else s.setTdm p { x with tx := x.tx ++ [frame] }

/-- Ports that run at a rate. -/
def State.portsAt (s : State) (r96 : Bool) : List Nat :=
  (List.range 8).filter (fun p => s.flag (R.AUD_PORT_STATUS_RUNNING p) && (s.flag (R.AUD_PORT_CFG_RATE96 p) == r96))

/-- One media sample period of a rate: receive frames are written, buffers deliver, transmit frames are built (R418, R419, R428). -/
def State.mediaPeriod (s : State) (r96 : Bool) : State :=
  if !s.flag R.AUD_CTRL_ENABLE then s
  else
    let ports := s.portsAt r96
    let s := ports.foldl (fun s p => s.portMediaRx p) s
    let s := ((List.range 512).filter (fun b => s.sbOn b && (s.flag (R.AUD_SB_CFG_RATE96 b) == r96))).foldl (fun s b => s.sbPeriod b) s
    ports.foldl (fun s p =>
      let s := s.portMediaTx p
      (s.setTdm p { s.tdm p with m := (s.tdm p).m + 1 }).showFill p) s

/-- A port starts with N0: 4 zero frames wait to be sent (R430, R433). -/
def State.portStart (s : State) (p n0 : Nat) : State :=
  let z := List.replicate (s.slots p) 0
  let x := s.tdm p
  let s := s.setTdm p { x with n0 := n0, i := 0, rx := [], tx := [z, z, z, z], drains := false, lastRx := z, lastTx := z,
                               startAt := none, lastFs := s.raw, m := 0,
                               tx0 := s.get (R.AUD_PORT_CNT_COUNT p 1) + s.get (R.AUD_PORT_CNT_COUNT p 5) - s.get (R.AUD_PORT_CNT_COUNT p 4),
                               rx0 := s.get (R.AUD_PORT_CNT_COUNT p 0) + s.get (R.AUD_PORT_CNT_COUNT p 2) - s.get (R.AUD_PORT_CNT_COUNT p 3) }
  ((s.setFlag (R.AUD_PORT_STATUS_RUNNING p) true).add (R.AUD_PORT_CNT_COUNT p 4) 4).showFill p

/-- The maps of a direction as the registers hold them (R426). -/
def State.mapsOf (s : State) (p d : Nat) : List Nat :=
  (List.range 32).map (fun i => s.get (R.AUD_SLOT_MAP_BUFFER p d i) + 512 * s.get (R.AUD_SLOT_MAP_CHANNEL p d i))

/-- Whether a waiting mask write of a direction (d = 1: transmit) applies now: it completed before this CLK_FAB cycle (R426). -/
def State.maskDue (s : State) (p d : Nat) : Bool :=
  let x := s.tdm p
  if d = 0 then x.pendRx && decide (fabCycle x.sinceRx < fabCycle s.raw) else x.pendTx && decide (fabCycle x.sinceTx < fabCycle s.raw)

/-- Whether a mask was written in this CLK_FAB cycle, after which it goes on waiting. -/
def State.maskFresh (s : State) (p d : Nat) : Bool :=
  (tfind s.before (R.AUD_PORT_MASK_MASK p d).key).elim false (fun w => decide (fabCycle w.1 = fabCycle s.raw))

/-- A frame boundary: waiting masks and maps apply, direction by direction (R426). -/
def State.frameBoundary (s : State) (p : Nat) : State :=
  let x := s.tdm p
  let mask := fun d => s.getBefore fabCycle (R.AUD_PORT_MASK_MASK p d)
  let x := if s.maskDue p 0 then { x with maskRx := mask 0, mapRx := s.mapsOf p 0, pendRx := s.maskFresh p 0, sinceRx := s.raw } else x
  let x := if s.maskDue p 1 then { x with maskTx := mask 1, mapTx := s.mapsOf p 1, pendTx := s.maskFresh p 1, sinceTx := s.raw } else x
  s.setTdm p x

/-- The bit time in which slot 0 begins, counted from the one in which FS begins the frame (R423). -/
def State.slotDelay (s : State) (p : Nat) : Nat := if s.flag (R.AUD_PORT_CFG_DELAY p) then 1 else 0

/-- The level of FS in a bit time of a frame: high in the one that begins it, or in I²S while slot 1 lasts (R423). -/
def State.fsLevel (s : State) (p i : Nat) : Bool :=
  if s.flag (R.AUD_PORT_CFG_I2S p) then decide (32 ≤ i) else decide (i = 0)

/-- The 24 bits of slot i among the levels on DIN, MSB first, each sampled at the device's edge (R422, R423). -/
def State.slotIn (s : State) (p : Nat) (din : List PinBit) (i : Nat) : Nat :=
  (List.range 24).foldl (fun v j =>
    let b := din.getD (32 * i + s.slotDelay p + j) {}
    2 * v + (if s.flag (R.AUD_PORT_CFG_BCLK_INV p) then b.falling else b.rising).toNat) 0

/-- The level that DOUT takes for bit k of a frame's slots: MSB first, 8 zeros after the sample, and in a masked slot high impedance or 0
(R422, R423, R425). -/
def State.slotOut (s : State) (p : Nat) (frame : List Nat) (k : Nat) : Option Bool :=
  let x := s.tdm p
  if (s.slotOf x.maskTx x.mapTx (k / 32)).isNone then (if s.flag (R.AUD_PORT_CFG_TX_HIZ p) then none else some false)
  else some (decide (k % 32 < 24) && (frame.getD (k / 32) 0).testBit (23 - k % 32))

/-- The bit times of a frame at the pins. `pad` is the last bit of the frame before it, which DELAY moves into this one. -/
def State.pinWave (s : State) (p : Nat) (pad : Option Bool) (frame : List Nat) : List PinTime :=
  (List.range (32 * s.slots p)).map (fun i =>
    { fs := if s.flag (R.AUD_PORT_CFG_CLK_OUT p) then some (s.fsLevel p i) else none,
      dout := if i < s.slotDelay p then pad else s.slotOut p frame (i - s.slotDelay p),
      launchRising := s.flag (R.AUD_PORT_CFG_BCLK_INV p) })

/-- A frame at the pins of a running port (R422 to R425, R428, R434). The pins were low before its first one. -/
def State.pinFrame (s : State) (p : Nat) (din : List PinBit) : State :=
  let x := s.tdm p
  let pad := if x.rx = [] ∧ !x.drains then some false else s.slotOut p [] (32 * s.slots p - 1)
  let s := s.frameBoundary p
  let x := s.tdm p
  let s := (s.inc (R.AUD_PORT_CNT_COUNT p 0)).inc (R.AUD_PORT_CNT_COUNT p 1)
  let full := decide (x.rx.length ≥ 8)
  let rx := if full then x.rx else x.rx ++ [(List.range (s.slots p)).map (s.slotIn p din)]
  let s := if full then (s.inc (R.AUD_PORT_CNT_COUNT p 3)).refSlip p false else s
  let (frame, tx, ins) := match x.tx with
    | f :: t => (f, t, false)
    | [] => (x.lastTx, [], true)
  let s := if ins then (s.inc (R.AUD_PORT_CNT_COUNT p 4)).refSlip p true else s
  let s := s.setTdm p { x with rx := rx, tx := tx, drains := (x.drains || decide (4 ≤ rx.length)), lastTx := frame, lastFs := s.raw }
  let s := s.emit (.tdm p (s.pinWave p pad frame))
  let s := s.showFill p
  if s.flag (R.AUD_PORT_CFG_ENABLE p) then s else s.setFlag (R.AUD_PORT_STATUS_RUNNING p) false

/-! ### Common start (R433) -/

/-- A write of AUD_START: with ARM at 1 it claims the generator. -/
def State.audArm (s : State) (set pg : Nat) (arm : Bool) : State :=
  if s.flag R.AUD_START_ARM ∧ arm then s
  else
    let s := if s.flag R.AUD_START_ARM then s.set (R.TB_PG_STATUS_STATE (s.get R.AUD_START_PG)) 0 else s
    let s := (s.set R.AUD_START_SET set).set R.AUD_START_PG pg
    if arm then
      s.claim K.AUD_START (s.pgOwners pg) (fun s => s.set R.AUD_START_STATE 2)
        (fun s => ((s.setFlag R.AUD_START_ARM true).set R.AUD_START_STATE 1).set (R.TB_PG_STATUS_STATE pg) 1)
    else (s.setFlag R.AUD_START_ARM false).set R.AUD_START_STATE 0

/-- The generator's pulse reaches the audio start: CLK_OUT ports begin, followers wait for FS (R433). -/
def State.audPulse (s : State) (g : Nat) : State :=
  if s.flag R.AUD_START_ARM ∧ s.get R.AUD_START_PG = g then
    let t := s.now
    let s := ((List.range 8).filter (fun p => bitAt (s.get R.AUD_START_SET) p && s.flag (R.AUD_PORT_CFG_ENABLE p) &&
        !s.flag (R.AUD_PORT_STATUS_RUNNING p) && s.flag R.AUD_CTRL_ENABLE)).foldl (fun s p =>
      let n0 := (sampleNo (s.flag (R.AUD_PORT_CFG_RATE96 p)) t).toNat
      if s.flag (R.AUD_PORT_CFG_CLK_OUT p) then s.portStart p n0 else s.setTdm p { s.tdm p with startAt := some n0 }) s
    ((s.setFlag R.AUD_START_ARM false).set R.AUD_START_STATE 0).set (R.TB_PG_STATUS_STATE g) 0
  else s

/-! ### The oscillator-steering loop (R431, R432) -/

/-- One run of the loop; `sub` is the part of a frame, in 1/256, that the FIFO holds beyond whole frames. -/
def State.vcxoRun (s : State) (sub : Nat) : State :=
  let p := s.get R.AUD_VCXO_CFG_REF_PORT
  let tx := s.flag R.AUD_VCXO_CFG_REF_TX
  let f : Int := ((if tx then (s.tdm p).tx.length else (s.tdm p).rx.length) * 256 + sub : Nat)
  let e : Int := if tx then f - 1024 else 1024 - f
  let acc := min (max (s.vcxo.acc + s.get R.AUD_VCXO_GAIN_KI * e) (-(2 ^ 31))) (2 ^ 31 - 1)
  let u : Int := s.get R.AUD_VCXO_CFG_CENTRE + Int.tdiv (s.get R.AUD_VCXO_GAIN_KP * e + acc) 65536
  let lo : Int := s.get R.AUD_VCXO_GAIN_DUTY_MIN
  let hi : Int := s.get R.AUD_VCXO_GAIN_DUTY_MAX
  let duty := min (max u lo) hi
  let good := if e.natAbs ≤ s.get R.AUD_VCXO_CFG_LOCK_TOL then s.vcxo.good + 1 else 0
  let limit := if duty = lo ∨ duty = hi then s.vcxo.limit + 1 else 0
  let s := { s with vcxo := { s.vcxo with acc := acc, good := min good 64, limit := min limit 1000 } }
  let s := s.setSigned R.AUD_VCXO_STATUS_DUTY duty
  let s := s.emit (.pwm (if s.flag R.AUD_VCXO_CFG_POLARITY then 65536 - duty.toNat else duty.toNat))
  let s := if s.flag R.AUD_VCXO_STATUS_LOCKED then
      if e.natAbs > 4 * s.get R.AUD_VCXO_CFG_LOCK_TOL then
        ((s.setFlag R.AUD_VCXO_STATUS_LOCKED false).setFlag R.AUD_VCXO_STATUS_LOCK_LOST true).report 408 0
      else s
    else if 64 ≤ good then s.setFlag R.AUD_VCXO_STATUS_LOCKED true else s
  if limit = 1000 then (s.setFlag R.AUD_VCXO_STATUS_RANGE true).report 408 0 1 else s

/-! ### AUD tasks (R439, R440) -/

/-- Fields of an AUD task's payload: SRC, DST, SRC_CH, DST_CH, CHANNELS, the reserved byte, FRAMES, the reserved word,
SAMPLE, ADDR. -/
structure AudTask where
  src : Nat
  dst : Nat
  srcCh : Nat
  dstCh : Nat
  channels : Nat
  frames : Nat
  sample : Nat
  addr : Nat
  reserved : Bool

/-- Read an AUD payload of four 64-bit words (R439). -/
def audTask (p : List Nat) : AudTask :=
  let w := p.getD 0 0
  let x := p.getD 1 0
  { src := w % 65536, dst := w / 2 ^ 16 % 65536, srcCh := w / 2 ^ 32 % 256, dstCh := w / 2 ^ 40 % 256,
    channels := w / 2 ^ 48 % 256, frames := x % 2 ^ 32, sample := p.getD 2 0, addr := p.getD 3 0,
    reserved := decide (w / 2 ^ 56 ≠ 0) || decide (x / 2 ^ 32 ≠ 0) || (decide (w / 2 ^ 16 % 65536 ≠ 0xFFFF) && decide (p.getD 3 0 ≠ 0)) }

/-- Whether ISSUE refuses an AUD task with EDESC (R440). -/
def State.audBad (s : State) (p : List Nat) : Bool :=
  let t := audTask p
  let ch := fun b => if b < 512 then s.get (R.AUD_SB_CFG_CHANNELS b) else 0
  t.reserved || decide (512 ≤ t.src) || decide (s.get (R.AUD_SB_CFG_DEPTH t.src) < t.frames) || decide (ch t.src < t.srcCh + t.channels) ||
  (decide (t.dst ≠ 0xFFFF) && (decide (512 ≤ t.dst) || decide (s.get (R.AUD_SB_CFG_DEPTH t.dst) < t.frames) ||
    decide (ch t.dst < t.dstCh + t.channels) || !(s.flag (R.AUD_SB_CFG_RATE96 t.src) == s.flag (R.AUD_SB_CFG_RATE96 t.dst))))

/-- The bytes that an AUD task copies to device memory: in SRC's packing (R439). -/
def State.audBytes (s : State) (t : AudTask) : List (BitVec 8) :=
  (List.range t.frames).flatMap (fun i => (List.range t.channels).flatMap (fun c =>
    packSample (s.get (R.AUD_SB_CFG_PACK t.src)) (s.flag (R.AUD_SB_CFG_BIG_ENDIAN t.src)) (s.sampleAt t.src (t.sample + i) (t.srcCh + c))))

/-- The copy that an AUD task makes (R439), and the status with which the task ends: bytes that would leave the region of R45 in which they start are
refused whole (00_scope.md R20), and bytes outside every region, or among the registers, are discarded with R47's notice. -/
def State.audCopy (s : State) (p : List Nat) : State × Nat :=
  let t := audTask p
  if t.dst = 0xFFFF then
    let l := s.audBytes t
    if regionOf t.addr = 0 ∨ inRegs t.addr then (s.addrError (.unit 0x0013), 0)
    else if regionOf (t.addr + l.length - 1) ≠ regionOf t.addr then (s, 4)
    else (s.unitStore 0x0013 t.addr l, 0)
  else
    ((List.range t.frames).foldl (fun s i =>
      (List.range t.channels).foldl (fun s c =>
        s.writeSample t.dst (t.sample + i : Nat) (t.dstCh + c) (s.sampleAt t.src (t.sample + i) (t.srcCh + c))) s) s, 0)

/-! ### Ingest flows (R435 to R437) -/

/-- A media sample number extended from 32 bits to the value nearest n (R416). -/
def extendNear (ts : Nat) (n : Int) : Int := ts + (n - ts + 2 ^ 31) / 2 ^ 32 * 2 ^ 32

/-- Bytes of a sample of an audio flow in its packets: AES3 subframes are 4 (R228, R436, R437). -/
def State.flowSample (s : State) (f : Nat) : Nat :=
  if s.get (R.ING_FLOW_KIND_KIND f) = 2 then 4 else if s.flag (R.AUD_FLOW_MAP_L24 f) then 3 else 2

/-- Whether an audio flow's range or rate does not fit its buffer (R436). -/
def State.audMisfit (s : State) (f : Nat) : Bool :=
  let b := s.get (R.ING_FLOW_KIND_DEST f)
  decide (512 ≤ b) || decide (s.get (R.AUD_SB_CFG_CHANNELS b) < s.get (R.AUD_FLOW_MAP_FIRST_CH f) + s.get (R.AUD_FLOW_MAP_CHANNELS f)) ||
  !(s.flag (R.AUD_SB_CFG_RATE96 b) == s.flag (R.AUD_FLOW_MAP_RATE96 f))

/-- An accepted packet of an audio flow is written into its buffer (R416, R436, R437). The V, U and C bits are bits 0, 1 and 2 of a
subframe's first byte (log 21). -/
def State.audPacket (s : State) (f ts : Nat) (data : List (BitVec 8)) : State :=
  let b := s.get (R.ING_FLOW_KIND_DEST f)
  let w := s.flowSample f
  let ch := s.get (R.AUD_FLOW_MAP_CHANNELS f)
  let n0 := extendNear ts (sampleNo (s.flag (R.AUD_FLOW_MAP_RATE96 f)) s.now)
  (List.range (data.length / (w * ch))).foldl (fun s i =>
    (List.range ch).foldl (fun s c =>
      let l := (data.drop ((i * ch + c) * w)).take w
      let be := leNat l.reverse
      let v := if w = 4 then be % 2 ^ 24 else if w = 3 then be else be * 256
      let c' := s.get (R.AUD_FLOW_MAP_FIRST_CH f) + c
      let s := s.writeSample b (n0 + i) c' v
      if w = 4 then s.keepVuc b (n0 + i) c' (be / 2 ^ 24 % 8) else s) s) s

/-! ### Commands -/

/-- TDM_PIN_FRAME: one frame passes at the pins of a port, with the levels received on DIN (R423, R428). The first FS after t_p starts a
waiting follower (R433). -/
def execTdmPinFrame (p : Fin 8) (din : List PinBit) (now : Nat) (s : State) : Out :=
  whenLive s (fun s =>
    let s := s.advance now
    let s := match (s.tdm p).startAt with
      | some n0 => if s.flag (R.AUD_PORT_CFG_ENABLE p) then s.portStart p n0 else s
      | none => s
    if s.flag (R.AUD_PORT_STATUS_RUNNING p) ∧ s.flag R.AUD_CTRL_ENABLE then s.pinFrame p din else s)

/-- PORT_NO_CLOCK: two frame periods without an FS edge at a follower port (R424, R441). -/
def execPortNoClock (p : Fin 8) (now : Nat) (s : State) : Out :=
  whenLive s (fun s =>
    let s := s.advance now
    if s.flag (R.AUD_PORT_STATUS_RUNNING p) ∧ s.flag (R.AUD_PORT_CFG_CLK_OUT p) = false ∧
        s.flag (R.AUD_PORT_STATUS_NO_CLOCK p) = false ∧
        (s.tdm p).lastFs * rateOf (s.flag (R.AUD_PORT_CFG_RATE96 p)) + 2000000000 ≤ s.raw * rateOf (s.flag (R.AUD_PORT_CFG_RATE96 p)) then
      (s.setFlag (R.AUD_PORT_STATUS_NO_CLOCK p) true).report 407 0 (BitVec.ofNat 64 p)
    else s)

/-- A write of a slot mask waits for the next frame boundary; on a port that does not run it waits for the first (R426). -/
def State.maskWrite (s : State) (p : Nat) (tx : Bool) (m : Nat) : State :=
  let f := R.AUD_PORT_MASK_MASK p (if tx then 1 else 0)
  let s := s.setTimed fabCycle f.key (withBits (s.reg f.key) f.lo f.w m)
  let x := s.tdm p
  s.setTdm p (if tx then { x with pendTx := true, sinceTx := if x.pendTx then min x.sinceTx s.raw else s.raw }
    else { x with pendRx := true, sinceRx := if x.pendRx then min x.sinceRx s.raw else s.raw })

/-- AUD_PORT_MASK_WRITE (R426). -/
def execAudPortMaskWrite (p : Fin 8) (tx : Bool) (m : BitVec 32) (s : State) : Out := whenWr s (fun s => s.maskWrite p tx m.toNat)

/-- VCXO_LOOP_RUN: once per ms of local time while the loop is enabled (R431, R432). -/
def execVcxoLoopRun (sub : BitVec 8) (now : Nat) (s : State) : Out :=
  whenLive s (fun s =>
    let s := s.advance now
    let ms := s.now / 1000000
    if s.flag R.AUD_VCXO_CFG_ENABLE ∧ ms ≠ s.vcxo.lastMs then { s with vcxo := { s.vcxo with lastMs := ms } }.vcxoRun sub.toNat else s)

/-- AUD_START_ARM (R433). -/
def execAudStartArm (set : BitVec 8) (pg : BitVec 3) (s : State) : Out := whenWr s (fun s => s.audArm set.toNat pg.toNat true)

/-- PULSE_DUE: local time has reached T_k. The output rises for WIDTH ns, the pulse is counted and offered to the generator's user,
and a one-shot of WIDTH 0 is over (R512, R513, R515). -/
def execPulseDue (g : Fin 8) (now : Nat) (s : State) : Out :=
  whenUp s (fun s =>
    let s := s.advance now
    let p := s.pg g
    let t : Int := (s.pgStart g + p.k * s.pgPeriod g : Nat)
    let finished := !s.flag (R.TB_PG_CTRL_PERIODIC g) && decide (0 < p.k)
    if s.flag (R.TB_PG_CTRL_ENABLE g) ∧ s.reached t ∧ !finished then
      let s := s.inc (R.TB_PG_PULSES_COUNT g)
      let zero := decide (s.get (R.TB_PG_WIDTH_NS g) = 0)
      let s := s.setPg g { p with k := p.k + 1, rose := if zero then none else some (s.raw, s.now), stepped := false }
      let s := if zero then s else s.setFlag (R.TB_PG_STATUS_OUTPUT g) true
      let s := s.audPulse g
      if zero ∧ s.flag (R.TB_PG_CTRL_PERIODIC g) = false then s.setFlag (R.TB_PG_CTRL_ENABLE g) false else s
    else s)

end Sys2Proof.Machine
end

