-- ==== Sys2Proof/Machine/Decoding.lean ====
section
/-! DEFINITION. Decode channels: input rings and access units, DEC tasks, stream faults, and the output frame grid
(09_decode.md). -/

namespace Sys2Proof.Machine

/-- Bytes of a channel's ring (R393). A ring that does not lie in the media-service region holds nothing, so that no datagram fits it (00_scope.md
R20). -/
def State.ringSize (s : State) (ch : Nat) : Nat :=
  let n := s.get (R.DEC_RING_SIZE_UNITS ch) * 4096
  if s.get (R.DEC_RING_BASE_BASE ch) * 4096 + n ≤ 0x2000000000 then n else 0

/-- A stream fault is written to DEC_ST_ERR (R402, R414). -/
def State.decFault (s : State) (ch detail : Nat) : State :=
  ((s.set (R.DEC_ST_ERR_DETAIL ch) detail).incSat (R.DEC_ST_ERR_FAULTS ch)).set (R.DEC_ST_ERR_SNAP_SNAP ch) (s.get (R.CTX_COMMIT_SEQ_SEQ ch))

/-! ### Entry points (R410) -/

/-- NAL unit type of a header. -/
def nalType (vvc : Bool) (l : List (BitVec 8)) : Nat := if vvc then (l.getD 1 0).toNat / 8 else (l.getD 0 0).toNat / 2 % 64

/-- Whether a NAL unit shows that its picture is an entry point: a slice of an IRAP picture, of VVC also of a GDR picture, or in HEVC a recovery point
message (H.265 and H.266 NAL unit types: PRESUMED, log 124). -/
def nalEntry (vvc : Bool) (l : List (BitVec 8)) : Bool :=
  let t := nalType vvc l
  if vvc then decide (7 ≤ t ∧ t ≤ 10) else decide (16 ≤ t ∧ t ≤ 21) || (decide (t = 39) && decide ((l.getD 2 0).toNat = 6))

/-- The NAL units of an aggregation packet's payload, each behind its 16-bit size. -/
def nalsOf : Nat → List (BitVec 8) → List (List (BitVec 8))
  | 0, _ => []
  | k + 1, l => if l.length < 2 then [] else
    let n := (l.getD 0 0).toNat * 256 + (l.getD 1 0).toNat
    (l.drop 2).take n :: nalsOf k (l.drop (n + 2))

/-- Whether an RTP payload shows an entry point: a single NAL unit, one of an aggregation packet, or the first fragment of one. -/
def rtpEntry (vvc : Bool) (l : List (BitVec 8)) : Bool :=
  let t := nalType vvc l
  if t = (if vvc then 28 else 48) then (nalsOf l.length (l.drop 2)).any (nalEntry vvc)
  else if t = (if vvc then 29 else 49) then
    let x := (l.getD 2 0).toNat
    let t := if vvc then x % 32 else x % 64
    bitAt x 7 && (if vvc then decide (7 ≤ t ∧ t ≤ 10) else decide (16 ≤ t ∧ t ≤ 21))
  else nalEntry vvc l

/-- Whether bytes of an elementary stream show an entry point: a NAL unit of one behind a start code. -/
def esEntry (vvc : Bool) : List (BitVec 8) → Bool
  | [] => false
  | b :: l => (b == 0 && l.take 2 == [0, 1] && nalEntry vvc (l.drop 2)) || esEntry vvc l

/-! ### Access units -/

/-- Whether a channel keeps its access units to decode them: running, or standing by in a protection group (R397, R410). -/
def State.keepsAus (s : State) (ch : Nat) : Bool :=
  s.running ch || (List.range 64).any (fun g => s.flag (R.CLB_GRP_CFG_ENABLE g) && decide (s.get (R.CLB_GRP_CFG_CHANNEL g) = ch))

/-- The open access unit closes (R394); where the channel never decodes it, its space is freed at once (R397). -/
def State.closeAu (s : State) (ch : Nat) (timeout : Bool) : State :=
  let d := s.decOf ch
  match d.aus.getLast? with
  | some u =>
    if u.closed.isSome then s
    else if s.keepsAus ch then s.setDec ch { d with aus := d.aus.dropLast ++ [{ u with closed := some s.now, timeout := timeout }] }
    else (s.setDec ch { d with aus := d.aus.dropLast, used := d.used - u.bytes }).inc (R.DEC_CNT_COUNT ch 3)
  | none => s

/-- Bytes of the stream enter the ring, in the open unit or in a new one of timestamp `ts` whose first packet has the local time-stamp `stamp` (R393,
R394); `head` where they show an entry point. -/
def State.auBytes (s : State) (ch ts : Nat) (stamp : Int) (data : List (BitVec 8)) (head newUnit : Bool) : State :=
  let s := if newUnit then s.closeAu ch false else s
  let d := s.decOf ch
  let new : Au := { no := d.next, ts := ts, arrival := stamp, lastPkt := s.raw, bytes := data.length, head := head }
  let size := s.ringSize ch
  let base := s.get (R.DEC_RING_BASE_BASE ch) * 4096
  let first := data.take (size - d.wr)
  let s := (s.unitStore 0x000D (base + d.wr) first).unitStore 0x000D base (data.drop (size - d.wr))
  let wr := (d.wr + data.length) % size
  match d.aus.getLast? with
  | some u =>
    if u.closed.isNone then
      s.setDec ch { d with wr := wr, used := d.used + data.length,
                           aus := d.aus.dropLast ++ [{ u with lastPkt := s.raw, bytes := u.bytes + data.length, head := u.head || head }] }
    else
      (s.setDec ch { d with wr := wr, used := d.used + data.length, next := d.next + 1, aus := d.aus ++ [new] }).inc (R.DEC_CNT_COUNT ch 0)
  | none => (s.setDec ch { d with wr := wr, used := d.used + data.length, next := d.next + 1, aus := [new] }).inc (R.DEC_CNT_COUNT ch 0)

/-- An RTP packet of KIND 5 or 6: a new timestamp begins the next unit, the marker bit completes it (R394). -/
def State.auRtp (s : State) (ch ts : Nat) (stamp : Int) (marker : Bool) (data : List (BitVec 8)) : State :=
  let fresh := match (s.decOf ch).aus.getLast? with
    | some u => u.closed.isSome || decide (u.ts ≠ ts)
    | none => true
  let s := s.auBytes ch ts stamp data (rtpEntry (s.flag (R.DEC_CFG_CODEC ch)) data) fresh
  if marker then s.closeAu ch false else s

/-- Payload of a transport packet of 188 bytes, after its header and adaptation field. -/
def tsPayload (p : List (BitVec 8)) : List (BitVec 8) :=
  let afc := (p.getD 3 0).toNat / 16 % 4
  if afc = 1 then p.drop 4 else if afc = 3 then p.drop (5 + (p.getD 4 0).toNat) else []

/-- PTS of a PES packet that begins with `p`, if it carries one. -/
def pesPts (p : List (BitVec 8)) : Option Nat :=
  let b := fun i => (p.getD i 0).toNat
  if b 0 = 0 ∧ b 1 = 0 ∧ b 2 = 1 ∧ bitAt (b 7) 7 then
    some (b 9 / 2 % 8 * 2 ^ 30 + (b 10 * 256 + b 11) / 2 * 2 ^ 15 + (b 12 * 256 + b 13) / 2)
  else none

/-- The elementary bytes of a PES packet that begins with `p`. -/
def pesData (p : List (BitVec 8)) : List (BitVec 8) := p.drop (9 + (p.getD 8 0).toNat)

/-- The ST 302M PES gathered so far goes to the stream buffer, from channel 0 on; its PTS gives the media sample number (R396,
R416). -/
def State.flush302 (s : State) (ch : Nat) : State :=
  let d := s.decOf ch
  if d.audPes = [] then s
  else
    let b := (Config.st302Buffer (Fin.ofNat 256 ch)).val
    let frames := Config.st302Frames d.audPes
    let ticks : Int := s.now * 90000 / 1000000000
    let x : Int := (d.audPts : Int) + (ticks - d.audPts) / 2 ^ 33 * 2 ^ 33
    let n0 := sampleNo (s.flag (R.AUD_SB_CFG_RATE96 b)) (x * 1000000000 / 90000)
    let s := s.setDec ch { d with audPes := [], audChans := (frames.head?.getD []).length }
    (frames.zipIdx).foldl (fun s f => (f.1.zipIdx).foldl (fun s v => s.writeSample b (n0 + f.2) v.2 v.1) s) s

/-- A transport packet of KIND 4 (R394, R396). -/
def State.auTs (s : State) (ch : Nat) (stamp : Int) (p : List (BitVec 8)) : State :=
  let pid := (p.getD 1 0).toNat % 32 * 256 + (p.getD 2 0).toNat
  let start := bitAt (p.getD 1 0).toNat 6
  let data := tsPayload p
  let vvc := s.flag (R.DEC_CFG_CODEC ch)
  if pid = s.get (R.DEC_TS_VIDEO_PID ch) then
    let d := s.decOf ch
    let es := if start then pesData data else d.tail ++ data
    let s := s.setDec ch { d with tail := es.drop (es.length - 5) }
    match (if start then pesPts data else none) with
    | some pts =>
      let fresh := match (s.decOf ch).aus.getLast? with
        | some u => u.closed.isSome || decide (u.ts ≠ pts)
        | none => true
      s.auBytes ch pts stamp p (esEntry vvc es) fresh
    | none => s.auBytes ch ((s.decOf ch).aus.getLast?.elim 0 (·.ts)) stamp p (esEntry vvc es) false
  else if s.flag (R.DEC_TS_AUDIO_EN ch) ∧ pid = s.get (R.DEC_TS_AUDIO_PID ch) then
    if start then
      let s := s.flush302 ch
      s.setDec ch { s.decOf ch with audPes := pesData data, audPts := (pesPts data).getD 0 }
    else s.setDec ch { s.decOf ch with audPes := (s.decOf ch).audPes ++ data }
  else s.inc (R.DEC_CNT2_COUNT ch 0)

/-- Cut a datagram into transport packets. -/
def tsPackets (l : List (BitVec 8)) : List (List (BitVec 8)) :=
  (List.range (l.length / 188)).map (fun i => (l.drop (188 * i)).take 188)

/-! ### Output buffers -/

/-- The lowest output buffer that is free (R402). -/
def State.freeBuf (s : State) (ch : Nat) : Option Nat :=
  if s.flag (R.DEC_OUT_BUF_ENABLE ch) then
    (List.range (s.get (R.DEC_OUT_BUF_COUNT ch))).find? (fun i => !((s.decOf ch).bufs.any (fun (b : OutBuf) => decide (b.ix = i))))
  else none

/-! ### DEC tasks (R390, R392, R395, R402 to R404) -/

/-- The access unit that the next DEC task of a part works on. -/
def State.decUnit (s : State) (ch part : Nat) : Option Au :=
  let d := s.decOf ch
  let j := d.base + tget (fun _ => 0) d.tasks part
  d.aus.find? (fun u => decide (u.no = j))

/-- Whether the next DEC task of a part is eligible: its access unit is closed (R395). -/
def State.decEligible (s : State) (ch part : Nat) : Bool := (s.decUnit ch part).elim false (fun u => u.closed.isSome)

/-- Whether the decoder refuses a sequence: outside R291 or R292, or beyond the level that the channel declares for its rendition 0 (R402; level codes,
log 127). -/
def State.sequenceBad (s : State) (ch : Nat) (p : SeqParams) : Bool :=
  let idc := if p.vvc then 105 else 186
  decide (p.vvc ≠ s.flag (R.DEC_CFG_CODEC ch)) ||
  !(if p.vvc then decide (p.profile = 1 ∨ p.profile = 3) && decide (p.ctu ∈ ([32, 64, 128] : List Nat))
    else decide (p.profile ≤ 2) && decide (p.ctu ∈ ([16, 32, 64] : List Nat))) ||
  decide (p.chroma ≠ 1 ∧ p.chroma ≠ 2) || decide (p.depth ≠ 8 ∧ p.depth ≠ 10) || decide (idc < p.level) ||
  decide (s.get (R.CTX_REND_CODEC_LEVEL ch 0) < p.level) || (p.high && !s.flag (R.CTX_REND_CODEC_TIER ch 0))

/-- The decoder reads the head of an access unit at its first part (R402 to R404). -/
def State.decBegin (s : State) (ch : Nat) (u : Au) (h : AuHead) : State :=
  let d := s.decOf ch
  let u := { u with columns := h.sps.columns, rows := h.sps.rows, ctu := h.sps.ctu, wavefronts := h.sps.wavefronts }
  let put := fun (s : State) (f : AuFate) => s.setDec ch ((s.decOf ch).setAu { u with fate := f, entry := h.irap })
  if s.sequenceBad ch h.sps then
    -- its ring space is freed at once (R397)
    let s := (s.inc (R.DEC_CNT_COUNT ch 2)).decFault ch 2
    s.setDec ch { (s.decOf ch).setAu { u with fate := .refused, entry := h.irap, bytes := 0 } with decoding := false, used := d.used - u.bytes }
  else if !d.decoding ∧ !h.entry then put (s.inc (R.DEC_CNT_COUNT ch 3)) .skipped
  else if h.rasl then put (((s.inc (R.DEC_CNT_COUNT ch 1)).inc (R.DEC_CNT_COUNT ch 9)).decFault ch 7) .rasl
  else match s.freeBuf ch with
    | none => put ((s.inc (R.DEC_CNT_COUNT ch 4)).decFault ch 5) .noBuffer
    | some b =>
      let s := put s (.decoded b)
      s.setDec ch { s.decOf ch with decoding := true, bufs := (s.decOf ch).bufs ++ [{ ix := b }],
                                    width := h.sps.width, height := h.sps.height, depth := h.sps.depth, c420 := decide (h.sps.chroma = 1) }

/-- CTUs that part `part` of a unit decodes (R310): whole tile columns where there are as many as parts, CTU rows in turn where one tile uses
wavefronts, else all of them in part 0 and none in another. -/
def Au.partCtus (u : Au) (part parts : Nat) : Option Nat :=
  let t := u.columns.length
  let width := fun (l : List Nat) => l.foldl (· + ·) 0
  if parts ≤ t then
    some (width ((u.columns.drop (part * t / parts)).take ((part + 1) * t / parts - part * t / parts)) * u.rows)
  else if t = 1 ∧ u.wavefronts then some (width u.columns * ((List.range u.rows).filter (fun r => decide (r % parts = part))).length)
  else if part = 0 then some (width u.columns * u.rows)
  else none

/-- A DEC task starts: it takes its place among the tasks of its part, and the first part reads the unit's head. -/
def State.decStart (s : State) (ch : Nat) (p : List Nat) (h : AuHead) : State :=
  let (part, parts) := decPart p
  match s.decUnit ch part with
  | none => s
  | some u =>
    let d := s.decOf ch
    let s := s.setDec ch { d with tasks := tset (fun _ => 0) d.tasks part (tget (fun _ => 0) d.tasks part + 1), parts := parts }
    if u.fate = .waiting then s.decBegin ch u h else s

/-- T_pres of a unit in units of 2^-32 ns (R399). `wrap` is 2^32 for RTP and 2^33 for a transport stream. -/
def State.presOf (s : State) (ch : Nat) (u : Au) : Int :=
  let wrap : Int := if s.flag (R.DEC_CFG_TRANSPORT ch) then 2 ^ 32 else 2 ^ 33
  if s.flag (R.DEC_CFG_TIMING ch) then
    match (s.decOf ch).anchor with
    | some (a, t0) =>
      let dt : Int := ((u.ts : Int) - t0 + wrap / 2) % wrap - wrap / 2
      a * 2 ^ 32 + dt * 1000000000 * 2 ^ 32 / 90000
    | none => u.arrival * 2 ^ 32
  else
    let ticks : Int := u.closed.getD 0 * 90000 / 1000000000
    let x : Int := (u.ts : Int) + (ticks - u.ts) / wrap * wrap
    x * 1000000000 * 2 ^ 32 / 90000

/-- Arrival mode anchors at the first decoded IRAP picture, and again where one has moved by more than half a frame (R399). -/
def State.reAnchor (s : State) (ch : Nat) (u : Au) : State :=
  if s.flag (R.DEC_CFG_TIMING ch) ∧ u.entry then
    match (s.decOf ch).anchor with
    | none => s.setDec ch { s.decOf ch with anchor := some (u.arrival, u.ts) }
    | some _ =>
      if 2 * (u.arrival * 2 ^ 32 - s.presOf ch u).natAbs > s.period ch then
        (s.setDec ch { s.decOf ch with anchor := some (u.arrival, u.ts) }).inc (R.DEC_CNT2_COUNT ch 1)
      else s
  else s

/-- Whether what was found in a unit conceals its picture (R402, R404). -/
def Au.concealed (u : Au) : Bool := decide (0 < u.missingRefs + u.ctuSyntax + u.ctuMissing) || u.recovering

/-- The faults that decoding a unit found (R402). -/
def State.decFaults (s : State) (ch : Nat) (u : Au) : State :=
  let s := if 0 < u.missingRefs then (s.add (R.DEC_CNT_COUNT ch 7) u.missingRefs).decFault ch 3 else s
  let s := if 0 < u.ctuSyntax then (s.add (R.DEC_CNT_COUNT ch 8) u.ctuSyntax).decFault ch 1 else s
  let s := if 0 < u.ctuMissing then (s.add (R.DEC_CNT_COUNT ch 8) u.ctuMissing).decFault ch 4 else s
  if u.concealed then s.inc (R.DEC_CNT_COUNT ch 6) else s

/-- A picture is complete: the buffers carry the marks that its reference picture set signals (R405); it waits for its frame, or is dropped if a later
one has been shown (R400). -/
def State.picDone (s : State) (ch buf : Nat) (u : Au) : State :=
  let s := (s.reAnchor ch u).inc (R.DEC_CNT_COUNT ch 1)
  let s := s.decFaults ch u
  let p : Pic := { buf := buf, pres := s.presOf ch u, snap := s.get (R.CTX_COMMIT_SEQ_SEQ ch), concealed := u.concealed, endedAt := s.raw }
  let d := s.decOf ch
  let d := { d with bufs := d.bufs.map (fun (b : OutBuf) =>
    { b with ref := decide (b.ix = buf) || u.keeps.contains b.ix, long := u.long.contains b.ix }) }
  if d.shown.elim false (fun q => decide (p.pres < q.pres)) then
    (s.setDec ch (d.updBuf buf (fun b => { b with done := true }))).inc (R.DEC_CNT_COUNT ch 9)
  else s.setDec ch ({ d with pics := d.pics ++ [p] }.sweep)

/-- A unit with what one more part has found: its missing references are counted once, its CTUs in each part. -/
def Au.found (u : Au) (r : DecResult) : Au :=
  { u with missingRefs := max u.missingRefs r.missingRefs, ctuSyntax := u.ctuSyntax + r.ctuSyntax, ctuMissing := u.ctuMissing + r.ctuMissing,
           recovering := u.recovering || r.recovering, keeps := (u.keeps ++ r.keeps).eraseDups, long := (u.long ++ r.long).eraseDups }

/-- An engine writes what it reconstructs into the picture's output buffer; nothing goes beyond it (R405, R406). -/
def State.writeOut (s : State) (ch b : Nat) (l : List (Nat × List (BitVec 8))) : State :=
  let size := s.get (R.DEC_OUT_BUF_SIZE ch) * 4096
  let base := s.get (R.DEC_OUT_BASE_BASE ch) * 4096 + b * size
  l.foldl (fun s x => if x.1 + x.2.length ≤ size then s.unitStore 0x0011 (base + x.1) x.2 else s) s

/-- A DEC task ends: with the last part of its unit the picture is complete and the ring space is freed (R397). A part with nothing to decode finds
nothing (R310). Answers whether the unit belongs to a refused sequence, whose tasks end UNIT_ERROR (R403), and the CTUs that the part decoded. -/
def State.decEnd (s : State) (ch : Nat) (p : List Nat) (no : Nat) (r : DecResult) : State × Bool × Nat :=
  match (s.decOf ch).aus.find? (fun u => decide (u.no = no)) with
  | none => (s, false, 0)
  | some u =>
    let bad := decide (u.fate = .refused)
    let n := match u.fate with
      | .decoded _ => u.partCtus (decPart p).1 (decPart p).2
      | _ => none
    let u := if n.isSome then u.found r else u
    let s := match n, u.fate with
      | some _, .decoded b => s.writeOut ch b r.recon
      | _, _ => s
    if u.ended + 1 < (decPart p).2 then (s.setDec ch ((s.decOf ch).setAu { u with ended := u.ended + 1 }), bad, n.getD 0)
    else
      let s := match u.fate with
        | .decoded b => s.picDone ch b u
        | _ => s
      let d := s.decOf ch
      (s.setDec ch { d with used := d.used - u.bytes, aus := d.aus.filter (fun v => decide (v.no ≠ no)) }, bad, n.getD 0)

/-- Units whose last part ended without its engine's result are complete, and their pictures concealed (R324, R402, log 23). -/
def State.sweepLost (s : State) (ch : Nat) : State :=
  ((s.decOf ch).aus.filter (fun u => u.lost && decide ((s.decOf ch).parts ≤ u.ended))).foldl (fun s u =>
    let d := s.decOf ch
    let u := { u with recovering := true, keeps := (d.bufs.filter (fun (b : OutBuf) => b.ref)).map (fun (b : OutBuf) => b.ix), long := (d.bufs.filter (fun (b : OutBuf) => b.long)).map (fun (b : OutBuf) => b.ix) }
    let s := match u.fate with
      | .decoded b => s.picDone ch b u
      | _ => s
    let d := s.decOf ch
    s.setDec ch { d with used := d.used - u.bytes, aus := d.aus.filter (fun v => decide (v.no ≠ u.no)) }) s

/-! ### The output frame grid (R398 to R409) -/

/-- The encode channel that takes a decode channel's frames (R407, R408). -/
def State.transcodeOf (s : State) (ch : Nat) : Option Nat :=
  (List.range 256).find? (fun c => s.flag (R.CTX_DEC_SRC_ENABLE c) && decide (s.get (R.CTX_DEC_SRC_SOURCE c) = ch) && s.running c)

/-- The paths receive output frame n: buffer (none: grey), whether it repeats, the picture (R406, R407, R409). -/
def State.decOutput (s : State) (ch n : Nat) (pic : Option Pic) (rep : Bool) : State :=
  let s := if s.flag (R.DEC_OUT_CTRL_TO_EGRESS ch) then
      let f := s.get (R.DEC_OUT_FLOW_FLOW ch)
      let x := tget (fun _ => ({} : FlowTx)) s.egFlows f
      ({ s with egFlows := tset (fun _ => {}) s.egFlows f { x with vid := some (n, pic.map (·.buf)), vidI := 0 } } : State).emit
        (.decFrame f n (pic.map (·.buf)))
    else s
  let s := if s.flag (R.DEC_OUT_CTRL_TO_HOST ch) then
      let fl := (if rep ∧ pic.isSome then 1 else 0) + (if pic.isNone then 2 else 0) + (if pic.elim false (·.concealed) then 4 else 0)
      let w := pic.elim 0 (·.buf) + fl * 65536
      (s.set (R.DEC_HOST_REC_WORD ch (n % 64) 0) (s.get (R.CTX_COMMIT_SEQ_SEQ ch))).set (R.DEC_HOST_REC_WORD ch (n % 64) 1) w
    else s
  match (if s.flag (R.DEC_OUT_CTRL_TO_TRANSCODE ch) then s.transcodeOf ch else none) with
  | some c =>
    let k := s.chan c
    match (if rep then none else pic) with
    | some p =>
      let s := s.setChan c { k with frames := k.frames ++ [{ n := n, inst := s.tFrame ch n, rtp := 0, token := some p.buf }] }
      s.setDec ch ((s.decOf ch).updBuf p.buf (fun b => { b with trans := true }))
    | none => s
  | none => s

/-- Whether a picture is ready for an output frame at local time t, in 2^-32 ns: its last part ended in a CLK_FAB cycle before that of t (R400). -/
def State.picReady (s : State) (t : Int) (p : Pic) : Bool := decide (fabCycle p.endedAt < fabCycle ((s.raw : Int) - (s.now - t / 2 ^ 32)).toNat)

/-- Output frame n (R400). A unit that is closed and not yet decoded competes with its T_pres and is not ready. -/
def State.outputFrame (s : State) (ch : Nat) : State :=
  let s := s.sweepLost ch
  let d := s.decOf ch
  let n := d.outN
  let t := s.tFrame ch n
  let dly := ns (s.delayNs ch)
  let q := d.pics.filter (fun p => decide (p.pres + dly ≤ t))
  let waiting := (d.aus.filter (fun u => u.closed.isSome && (match u.fate with | .waiting => true | .decoded _ => true | _ => false))).map
    (fun u => s.presOf ch u) ++ (q.filter (fun p => !s.picReady t p)).map (·.pres)
  let best := (q.filter (s.picReady t)).foldl (fun (b : Option Pic) p => match b with
    | some x => if x.pres < p.pres then some p else b
    | none => some p) none
  let late := waiting.any (fun w => decide (w + dly ≤ t) && best.elim true (fun p => decide (p.pres < w)))
  let s := s.inc (R.DEC_CNT_COUNT ch 10)
  match (if late then none else best) with
  | some p =>
    let dropped := q.filter (fun x => decide (x ≠ p))
    let host := s.flag (R.DEC_OUT_CTRL_TO_HOST ch)
    let d := { d with outN := n + 1, shown := some p, pics := d.pics.filter (fun x => !(q.contains x)) }
    let d := dropped.foldl (fun d x => d.updBuf x.buf (fun b => { b with done := true })) d
    let d := d.updBuf p.buf (fun b => { b with done := true, host := host })
    let s := ((s.setDec ch d).inc (R.DEC_CNT_COUNT ch 11)).add (R.DEC_CNT_COUNT ch 9) dropped.length
    s.decOutput ch n (some p) false
  | none =>
    let s := s.setDec ch { d with outN := n + 1 }
    let s := s.inc (R.DEC_CNT_COUNT ch (if d.shown.isSome then 12 else 13))
    s.decOutput ch n d.shown true

/-- The host releases an output buffer (R409). -/
def State.hostAck (s : State) (ch ix : Nat) : State := s.setDec ch ((s.decOf ch).updBuf ix (fun b => { b with host := false }))

/-! ### Commands -/

/-- AU_TIMEOUT (R394). -/
def execAuTimeout (ch : Chan) (now : Nat) (s : State) : Out :=
  whenLive s (fun s =>
    let s := s.advance now
    match (s.decOf ch).aus.getLast? with
    | some u =>
      if u.closed.isNone ∧ u.lastPkt + 1000 * s.get (R.DEC_AU_TIMEOUT_US ch) ≤ s.raw then
        (s.closeAu ch true).inc (R.DEC_CNT_COUNT ch 5)
      else s
    | none => s)

/-- DECODE_OUTPUT_FRAME: T_frame(n) of a running decode channel (R400). -/
def execDecodeOutputFrame (ch : Chan) (now : Nat) (s : State) : Out :=
  whenLive s (fun s =>
    let s := s.advance now
    if s.running ch ∧ s.flag (R.DEC_CFG_ENABLE ch) ∧ s.reached (s.tFrame ch (s.decOf ch).outN) then s.outputFrame ch else s)

/-- DEC_HOST_ACK (R409). -/
def execDecHostAck (ch : Chan) (ix : BitVec 6) (s : State) : Out := whenWr s (fun s => s.hostAck ch ix.toNat)

end Sys2Proof.Machine
end

