-- ==== Sys2Proof/Machine/Ingest.lean ====
section
/-! DEFINITION. The ingest packet engine: classification, policing, the ST 2022-7 merge, depacketisation, buffer tokens and the
exits of a packet (05_ingest.md R210 to R247). -/

namespace Sys2Proof.Machine

/-! ### CRCs and key blocks -/

/-- One bit of a reflected CRC. -/
def crcBit (poly c : Nat) : Nat := if c % 2 = 1 then (c / 2) ^^^ poly else c / 2

/-- One byte of a reflected CRC. -/
def crcByte (poly c b : Nat) : Nat := (List.range 8).foldl (fun c _ => crcBit poly c) (c ^^^ b)

/-- A 32-bit reflected CRC, initial value all ones, result complemented. -/
def crc32 (poly : Nat) (l : List (BitVec 8)) : Nat := (l.foldl (fun c b => crcByte poly c b.toNat) 0xFFFFFFFF) ^^^ 0xFFFFFFFF

/-- The CRC of R54. -/
def crcTag (l : List (BitVec 8)) : Nat := crc32 0xEDB88320 l

/-- CRC-32C of R213. -/
def crc32c (l : List (BitVec 8)) : Nat := crc32 0x82F63B78 l

/-- n bytes of a number in network order. -/
def beBytes (n v : Nat) : List (BitVec 8) := (leBytes n v).reverse

/-- Number in network order. -/
def beNat (l : List (BitVec 8)) : Nat := leNat l.reverse

/-- Exactly n bytes of a list, zeros after its end. -/
def padTo (n : Nat) (l : List (BitVec 8)) : List (BitVec 8) := (l ++ List.replicate n 0).take n

/-- The key block of R210. -/
def keyBlock (dst src : List (BitVec 8)) (dport sport vlan ssrc : Nat) (ipv6 : Bool) : List (BitVec 8) :=
  padTo 16 dst ++ padTo 16 src ++ beBytes 2 dport ++ beBytes 2 sport ++ leBytes 2 vlan ++ [0, 0] ++ beBytes 4 ssrc ++
    [if ipv6 then 6 else 4, 0, 0, 0]

/-- The key block of a packet under lookup profile p (R210, R211). -/
def pktKey (p : Nat) (vlan : Option (BitVec 12)) (u : UdpPacket) : List (BitVec 8) :=
  let any := bitAt p 2
  keyBlock u.dst (if any then [] else u.src) u.dport.toNat (if any then 0 else u.sport.toNat)
    (if bitAt p 0 then 0 else vlan.elim 0 (·.toNat)) (if bitAt p 1 then 0 else beNat ((padTo 12 u.payload).drop 8)) u.ipv6

/-- The key block built from a flow's record (R215). -/
def State.flowKey (s : State) (f : Nat) : List (BitVec 8) :=
  let any := s.flag (R.ING_FLOW_KEYCTL_SRC_ANY f)
  let dst := (List.range 4).flatMap (fun i => leBytes 4 (s.get (R.ING_FLOW_DST_WORD f i)))
  let src := (List.range 4).flatMap (fun i => leBytes 4 (s.get (R.ING_FLOW_SRC_WORD f i)))
  keyBlock dst (if any then [] else src) (s.get (R.ING_FLOW_PORTS_DPORT f)) (if any then 0 else s.get (R.ING_FLOW_PORTS_SPORT f))
    (if s.flag (R.ING_FLOW_KEYCTL_VLAN_MATCH f) then s.get (R.ING_FLOW_VLAN_VLAN f) else 0)
    (if s.flag (R.ING_FLOW_KEYCTL_SSRC_MATCH f) then s.get (R.ING_FLOW_SSRC_SSRC f) else 0) (s.flag (R.ING_FLOW_KEYCTL_IPV6 f))

/-! ### The Flow Table -/

/-- Bits of the fields in word i of a Flow Table entry: of a compact one, of a full one's first slot, and of its second (R217 to R220). -/
def ftWidth (full second : Bool) (i : Nat) : Nat :=
  (if second then [24, 24, 23, 23, 32, 0, 0, 0] else if full then [32, 32, 32, 32, 24, 24, 0, 0] else [32, 32, 24, 24, 24, 23, 32, 0]).getD i 0

/-- Word i of Flow Table entry e, its reserved bits 0 (R10, R214): 8 words an entry; CTRL's are [15:7] and [31:30]. -/
def State.ft (s : State) (e i : Nat) : Nat :=
  let raw := fun e i => s.get (R.FLOW_TABLE_WORD (8 * e + i))
  let second := decide (e % 2 = 1) && bitAt (raw (e - 1) 0) 0 && bitAt (raw (e - 1) 0) 1
  let v := raw e i % 2 ^ ftWidth (decide (e % 2 = 0) && bitAt (raw e 0) 1) second i
  if i = 0 ∧ !second then v % 128 + v / 2 ^ 16 % 2 ^ 14 * 2 ^ 16 else v

/-- Write word i of Flow Table entry e. -/
def State.setFt (s : State) (e i v : Nat) : State := s.set (R.FLOW_TABLE_WORD (8 * e + i)) v

/-- Whether slot e is no entry of its own: the second slot of a valid FULL entry, or a FULL entry where none can begin (R214, R220). -/
def State.noEntry (s : State) (e : Nat) : Bool :=
  decide (e % 2 = 1) && (bitAt (s.ft e 0) 1 || (bitAt (s.ft (e - 1) 0) 0 && bitAt (s.ft (e - 1) 0) 1))

/-- Whether entry e matches a probe of profile p with a tag and a key block (R215); an entry in error does not (R244). -/
def State.entryMatches (s : State) (e p tag : Nat) (key : List (BitVec 8)) : Bool :=
  let c := s.ft e 0
  let f := c / 2 ^ 16 % 16384
  bitAt c 0 && !(s.flowBad.contains e) && !(s.noEntry e) && decide (s.ft e 1 = tag) &&
  (bitAt c 2 == !bitAt p 0) && (bitAt c 3 == !bitAt p 1) && (bitAt c 4 == bitAt p 2) &&
  s.flag (R.ING_FLOW_KEYCTL_ENABLE f) && decide (s.flowKey f = key)

/-- The entry that a probe of profile p finds: slots of b1, then of b2 (R213, R215). -/
def State.probe (s : State) (p : Nat) (key : List (BitVec 8)) : Option Nat :=
  let h := crc32c key
  let b1 := h % 8192
  let b2 := if h / 8192 % 8192 = b1 then b1 ^^^ 1 else h / 8192 % 8192
  let tag := crcTag key
  ((List.range 4).map (fun i => 4 * b1 + i) ++ (List.range 4).map (fun i => 4 * b2 + i)).find? (fun e => s.entryMatches e p tag key)

/-- The entry of a packet: the first enabled profile that finds one (R211). -/
def State.lookup (s : State) (vlan : Option (BitVec 12)) (u : UdpPacket) : Option Nat :=
  ((List.range 8).filter (fun p => bitAt (s.get R.ING_LOOKUP_CTRL_PROFILE_EN) p)).findSome? (fun p => s.probe p (pktKey p vlan u))

/-! ### Policing -/

/-- Refill one bucket (R223): tokens, remainder. -/
def refill (t frac rate size e : Nat) : Nat × Nat :=
  let n := rate * e + frac
  let t' := min size (t + n / 8000000)
  (t', if t' = size then 0 else n % 8000000)

/-- Refill the buckets of an entry (R223). -/
def State.refillEntry (s : State) (e : Nat) : State :=
  let now := s.raw % 2 ^ 32
  if bitAt (s.ft e 0) 1 then
    let dt := (now + 2 ^ 32 - s.ft (e + 1) 4) % 2 ^ 32
    let (tc, fc) := refill (s.ft (e + 1) 0 % 2 ^ 24) (s.ft (e + 1) 2 % 2 ^ 23) (s.ft e 2) (s.ft e 4 % 2 ^ 24) dt
    let (tp, fp) := refill (s.ft (e + 1) 1 % 2 ^ 24) (s.ft (e + 1) 3 % 2 ^ 23) (s.ft e 3) (s.ft e 5 % 2 ^ 24) dt
    ((((s.setFt (e + 1) 0 tc).setFt (e + 1) 1 tp).setFt (e + 1) 2 fc).setFt (e + 1) 3 fp).setFt (e + 1) 4 now
  else
    let dt := (now + 2 ^ 32 - s.ft e 6) % 2 ^ 32
    let (t, f) := refill (s.ft e 4 % 2 ^ 24) (s.ft e 5 % 2 ^ 23) (s.ft e 2 % 2 ^ 24) (s.ft e 3 % 2 ^ 24) dt
    ((s.setFt e 4 t).setFt e 5 f).setFt e 6 now

/-- Colours of R224. -/
inductive Colour where
  | green | yellow | red
  deriving DecidableEq, Repr

/-- The pre-colour of a DSCP for an entry (R224). -/
def State.precolour (s : State) (e : Nat) (dscp : Nat) : Colour :=
  if bitAt (s.ft e 0) 5 then
    match s.get (R.ING_DSCP_COLOUR_COLOUR (dscp / 16)) / 4 ^ (dscp % 16) % 4 with
    | 0 => .green
    | 1 => .yellow
    | _ => .red
  else .green

/-- Mark a packet of b bytes after the refill (R225, R226). -/
def State.mark (s : State) (e dscp b : Nat) : State × Colour :=
  let pre := s.precolour e dscp
  if bitAt (s.ft e 0) 1 then
    let tc := s.ft (e + 1) 0
    let tp := s.ft (e + 1) 1
    if pre = .red ∨ tp < b then (s, .red)
    else if pre = .yellow ∨ tc < b then (s.setFt (e + 1) 1 (tp - b), .yellow)
    else ((s.setFt (e + 1) 1 (tp - b)).setFt (e + 1) 0 (tc - b), .green)
  else if pre ≠ .green ∨ s.ft e 4 < b then (s, .red)
  else (s.setFt e 4 (s.ft e 4 - b), .green)

/-- POLICER_SWEEP: every valid entry is refilled (R223); one in error counts as not valid (R244). -/
def State.sweep (s : State) : State :=
  ((s.regs.filter (fun p => decide (0x700000 ≤ p.1) && decide (p.1 < 0x800000) && decide (p.1 % 32 = 0) && bitAt p.2.toNat 0)).map
    (fun p => (p.1 - 0x700000) / 32)).foldl (fun s e => if s.noEntry e ∨ s.flowBad.contains e then s else s.refillEntry e) s

/-! ### RTP -/

/-- An RTP packet: marker, payload type, sequence number, timestamp, and payload after CSRCs, extension and padding. -/
structure Rtp where
  version : Nat
  marker : Bool
  pt : Nat
  seq : Nat
  ts : Nat
  data : List (BitVec 8)

/-- Read the RTP header (RFC 3550). -/
def rtpOf (l : List (BitVec 8)) : Option Rtp :=
  if l.length < 12 then none
  else
    let b := fun i => (l.getD i 0).toNat
    let h := 12 + 4 * (b 0 % 16)
    let h := if bitAt (b 0) 4 then h + 4 + 4 * (b (h + 2) * 256 + b (h + 3)) else h
    let pad := if bitAt (b 0) 5 then (l.getLast?.getD 0).toNat else 0
    if l.length < h + pad then none
    else some { version := b 0 / 64, marker := bitAt (b 1) 7, pt := b 1 % 128, seq := b 2 * 256 + b 3,
                ts := beNat ((l.drop 4).take 4), data := (l.drop h).take (l.length - h - pad) }

/-! ### Video -/

/-- A sample row data header of ST 2110-20: line, offset in pixels, and the bytes of its run. -/
structure Srd where
  line : Nat
  offset : Nat
  data : List (BitVec 8)

/-- Bytes and pixels of a pixel group of a flow (R229). -/
def State.pgroup (s : State) (f : Nat) : Nat × Nat :=
  match s.flag (R.ING_FLOW_VIDEO_SAMPLING f), s.flag (R.ING_FLOW_VIDEO_DEPTH10 f) with
  | false, true => (5, 2)
  | false, false => (4, 2)
  | true, true => (15, 4)
  | true, false => (6, 4)

/-- Bytes of a line of a flow (R229). -/
def State.lineBytes (s : State) (f : Nat) : Nat := s.get (R.ING_FLOW_VIDEO_WIDTH f) * (s.pgroup f).1 / (s.pgroup f).2

/-- Byte of a pixel's pixel group within its line (R229). -/
def State.pixelByte (s : State) (f x : Nat) : Nat := x * (s.pgroup f).1 / (s.pgroup f).2

/-- Read up to 3 headers: lengths, lines and offsets, and the bytes after them; none where a fourth would follow or the packet ends
within them. -/
def srdHeaders : Nat → List (BitVec 8) → Option (List (Nat × Nat × Nat) × List (BitVec 8))
  | 0, _ => none
  | k + 1, l =>
    if l.length < 6 then none
    else
      let len := beNat (l.take 2)
      let ln := beNat ((l.drop 2).take 2) % 2 ^ 15
      let of := beNat ((l.drop 4).take 2)
      if bitAt of 15 then (srdHeaders k (l.drop 6)).map (fun r => ((len, ln, of % 2 ^ 15) :: r.1, r.2))
      else some ([(len, ln, of % 2 ^ 15)], l.drop 6)

/-- Cut the bytes after the headers into their runs; none where they run past the end. -/
def srdRuns : List (Nat × Nat × Nat) → List (BitVec 8) → Option (List Srd)
  | [], _ => some []
  | (len, ln, of) :: t, l => if l.length < len then none else (srdRuns t (l.drop len)).map (⟨ln, of, l.take len⟩ :: ·)

/-- The runs of a video payload, after its 2-byte extended sequence number; none where R231 discards the packet,
one whose data would lie outside its channel's tokens included (R20). -/
def State.videoRuns (s : State) (f : Nat) (data : List (BitVec 8)) : Option (List Srd) :=
  let (pb, pp) := s.pgroup f
  let ch := s.get (R.ING_FLOW_KIND_CHANNEL f)
  if data.length < 2 then none
  else match srdHeaders 3 (data.drop 2) with
    | none => none
    | some (hs, rest) =>
      match srdRuns hs rest with
      | none => none
      | some runs =>
        if runs.all (fun r => decide (r.data.length % pb = 0) && decide (r.line < s.get (R.ING_FLOW_VIDEO_HEIGHT f)) &&
            decide (r.offset + r.data.length / pb * pp ≤ s.get (R.ING_FLOW_VIDEO_WIDTH f)) &&
            decide (r.line * s.lineBytes f + s.pixelByte f r.offset + r.data.length ≤ s.get (R.ING_POOL_CFG_TOKEN_SIZE ch) * 4096)) then some runs
        else none

/-- Address of the first byte of token i of channel ch (R237). -/
def State.tokenBase (s : State) (ch i : Nat) : Nat :=
  s.get (R.ING_POOL_BASE_BASE ch) + i * s.get (R.ING_POOL_CFG_TOKEN_SIZE ch) * 4096

/-- The mask of a complete line of a flow: one bit for each byte (R230). -/
def State.lineMask (s : State) (f : Nat) : Nat := 2 ^ s.lineBytes f - 1

/-- Whether a line of a frame is complete. -/
def State.lineDone (s : State) (f : Nat) (fr : FrameSt) (ln : Nat) : Bool := decide (tget (fun _ => 0) fr.lines ln = s.lineMask f)

/-- Whether the lines [lo, lo+n) of a frame that lie within the height are complete (R31, R230). -/
def State.linesDone (s : State) (f : Nat) (fr : FrameSt) (lo n : Nat) : Bool :=
  (List.range n).all (fun i => decide (s.get (R.ING_FLOW_VIDEO_HEIGHT f) ≤ lo + i) || s.lineDone f fr (lo + i))

/-- Replace a frame of a channel. -/
def State.setFrame (s : State) (ch : Nat) (fr : FrameSt) : State :=
  let c := s.chan ch
  s.setChan ch { c with frames := c.frames.map (fun g => if g.n = fr.n then fr else g) }

/-- Write one run of pixel groups into its frame's token (R229). -/
def State.writeRun (s : State) (f ch n : Nat) (r : Srd) : State :=
  match s.frameSt ch n with
  | none => s
  | some fr =>
    let a := s.tokenBase ch (fr.token.getD 0) + r.line * s.lineBytes f + s.pixelByte f r.offset
    let m := tget (fun _ => 0) fr.lines r.line
    let m := m ||| ((2 ^ r.data.length - 1) * 2 ^ s.pixelByte f r.offset)
    (s.unitStore 0x000D a r.data).setFrame ch { fr with lines := tset (fun _ => 0) fr.lines r.line m }

/-- Bands of ROW_LINES lines that the runs touch. -/
def State.rowBands (s : State) (f : Nat) (runs : List Srd) : List Nat :=
  let n := s.get (R.ING_FLOW_VIDEO_ROW_LINES f)
  if n = 0 then [] else (runs.map (fun r => r.line / n)).eraseDups

/-- Write an accepted video packet and post ROW for each band that it completes (R229, R230). -/
def State.writeVideo (s : State) (f ch n : Nat) (runs : List Srd) : State :=
  let k := s.get (R.ING_FLOW_VIDEO_ROW_LINES f)
  let done := fun (s : State) (b : Nat) => (s.frameSt ch n).elim false (fun fr => s.linesDone f fr (b * k) k)
  let open0 := (s.rowBands f runs).filter (fun b => !done s b)
  let s := runs.foldl (fun s r => s.writeRun f ch n r) s
  (open0.filter (fun b => done s b)).foldl (fun s _ => s.postCh ch 3) s

/-! ### Tokens (R237 to R241) -/

/-! ### The merge (R233 to R236) -/

/-- What the model keeps of a merge pair. -/
def State.pair (s : State) (p : Nat) : PairSt := tget (fun _ => {}) s.pairs p

/-- Replace a merge pair. -/
def State.setPair (s : State) (p : Nat) (x : PairSt) : State := { s with pairs := tset (fun _ => {}) s.pairs p x }

/-- A 16-bit sequence number extended by the wraps that the pair has seen: the number with these low bits that lies nearest to the highest seen, so that
both paths count one set of wraps (R234; DEDUCED, log 123). -/
def PairSt.extend (x : PairSt) (seq : Nat) : Nat :=
  match x.highest with
  | none => seq
  | some h =>
    let d := signedOf ((seq + 65536 - h % 65536) % 65536) 16
    (((h : Int) + d) % 2 ^ 32).toNat

/-- Outcomes of the merge. -/
inductive Merge where
  | accept | duplicate | stale
  deriving DecidableEq, Repr

/-- Numbers that leave the window: those that one path alone carried are counted (R206, R246). -/
def State.leaveWindow (s : State) (p : Nat) (gone : List (Nat × Nat)) : State :=
  (s.add (R.ING_PAIR_ONLY_A_COUNT p) (gone.filter (fun m => decide (m.2 = 1))).length).add (R.ING_PAIR_ONLY_B_COUNT p)
    (gone.filter (fun m => decide (m.2 = 2))).length

/-- A packet of path `b` with extended sequence number q reaches pair p (R234). -/
def State.mergePacket (s : State) (p : Nat) (b : Bool) (q : Nat) : State × Merge :=
  let x := s.pair p
  let x := if b then { x with lastB := some s.raw } else { x with lastA := some s.raw }
  let x := if x.silent = some b then { x with silent := none } else x
  let me := if b then 2 else 1
  let w := s.get (R.ING_PAIR_CFG_WINDOW p)
  match x.highest with
  | none => (s.setPair p { x with highest := some q, marks := [(q, me)] }, .accept)
  | some h =>
    let d := signedOf ((q + 2 ^ 32 - h) % 2 ^ 32) 32
    if 2 ^ 20 < d then
      (((s.leaveWindow p x.marks).inc (R.ING_PAIR_RESETS_COUNT p)).setPair p { x with highest := some q, marks := [(q, me)] }, .accept)
    else if 0 < d then
      let keep := x.marks.filter (fun m => decide ((q + 2 ^ 32 - m.1) % 2 ^ 32 < w))
      let gone := x.marks.filter (fun m => decide (w ≤ (q + 2 ^ 32 - m.1) % 2 ^ 32))
      ((s.leaveWindow p gone).setPair p { x with highest := some q, marks := (q, me) :: keep }, .accept)
    else if -d < w then
      if x.marks.any (fun m => decide (m.1 = q)) then
        (s.setPair p { x with marks := x.marks.map (fun m => if m.1 = q then (q, m.2 ||| me) else m) }, .duplicate)
      else (s.setPair p { x with marks := (q, me) :: x.marks }, .accept)
    else (s.setPair p x, .stale)

/-! ### Frames of a video channel (R61, R62, R232, R239) -/

/-- What becomes of the frame of an accepted video packet. -/
inductive FrameFate where
  | late
  | noToken
  | frame (n : Nat)

/-- A new RTP timestamp opens a frame: the anchor, a frame on a grid point, or one that is refused (R61, R62, R239).
A frame whose sampling instant lies nearer to a grid point before the first is refused as late (DESIGN CHOICE, log 112). -/
def State.openFrame (s : State) (ch ts : Nat) : State :=
  let c := s.chan ch
  let inst := s.rtpInstant ts
  match c.anchor with
  | none => s.setChan ch { c with anchor := some inst, anchorRtp := ts, openRtp := some ts, openN := none }
  | some _ =>
    let m := s.gridIndex ch inst
    if m < 0 ∨ c.frames.any (fun f => decide ((f.n : Int) = m)) ∨ c.openN.elim false (fun n => decide (m ≤ (n : Int))) then
      s.setChan ch { c with openRtp := some ts, openN := none }
    else
      let n := m.toNat
      match s.takeToken ch with
      | some (i, s) =>
        let c := s.chan ch
        s.setChan ch { c with openRtp := some ts, openN := some n, frames := c.frames ++ [{ n := n, inst := inst, rtp := ts, token := some i }] }
      | none =>
        let s := s.setChan ch { c with openRtp := some ts, openN := some n,
                                       frames := c.frames ++ [{ n := n, inst := inst, rtp := ts, token := none }] }
        s.report 126 (suspect kChannel ch)

/-- Whether a run of the open frame is late: the proofing slot of its slice has begun, or in frame mode T_capture + 12 µs has passed
(R32, R232). -/
def State.runLate (s : State) (ch n line : Nat) : Bool :=
  if s.subframe ch then s.reached (s.slotStart ch n (line / s.srcBand ch)) else s.reached (s.tCaptureFrame ch n + ns 12000)

/-- The frame of a video packet that the merge accepted. -/
def State.videoFate (s : State) (ch ts : Nat) (runs : List Srd) : State × FrameFate :=
  if !(s.running ch || s.standby ch) then (s, .late)
  else
    let c := s.chan ch
    let newer := c.openRtp.elim true (fun o => decide (0 < signedOf ((ts + 2 ^ 32 - o) % 2 ^ 32) 32))
    let s := if newer then s.openFrame ch ts else s
    let c := s.chan ch
    if c.openRtp ≠ some ts then (s, .late)
    else match c.openN with
      | none => (s, .late)
      | some n =>
        if runs.any (fun r => s.runLate ch n r.line) then (s, .late)
        else match s.frameSt ch n with
          | some fr => if fr.token.isSome then (s, .frame n) else (s, .noToken)
          | none => (s, .late)

/-! ### Ancillary packets -/

/-- Bits [off, off+w) of bytes in network order, the first bit being bit 7 of the first byte. -/
def bitsBE (l : List (BitVec 8)) (off w : Nat) : Nat :=
  beNat ((l.drop (off / 8)).take ((off % 8 + w + 7) / 8)) / 2 ^ ((8 - (off % 8 + w) % 8) % 8) % 2 ^ w

/-- The ANC packets of an RFC 8331 payload after its 8-byte header: DID, SDID and the data words of each; none where a data count runs
past the end (R231). -/
def ancPackets : Nat → List (BitVec 8) → Option (List (Nat × Nat × List Nat))
  | 0, _ => some []
  | k + 1, l =>
    if l.length * 8 < 62 then none
    else
      let dc := bitsBE l 54 8
      let bits := 62 + 10 * dc + 10
      let words := (bits + 31) / 32
      if l.length < 4 * words then none
      else (ancPackets k (l.drop (4 * words))).map ((bitsBE l 34 8, bitsBE l 44 8, (List.range dc).map (fun i => bitsBE l (62 + 10 * i + 2) 8)) :: ·)

/-- The ANC packets of a KIND 3 payload. -/
def ancOf (data : List (BitVec 8)) : Option (List (Nat × Nat × List Nat)) :=
  if data.length < 8 then none else ancPackets (data.getD 4 0).toNat (data.drop 8)

/-- Write a datagram's ANC packets into the ring entry of their frame; false where they do not fit or there is no ring (R462). -/
def State.writeAnc (s : State) (ch ts : Nat) (data : List (BitVec 8)) : State × Bool :=
  let body := data.drop 8
  let count := (data.getD 4 0).toNat
  if !s.flag (R.MUX_ANC_BASE_ENABLE ch) then (s, false)
  else
    let m := s.gridIndex ch (s.rtpInstant ts)
    let snap := s.snapOf ch m.toNat
    let a := (s.ancRegion ch).1 + 2048 * (snap % 16)
    let old := decide (s.rd a 8 = snap)
    let len := if old then s.rd (a + 8) 2 else 0
    let n := if old then s.rd (a + 10) 2 else 0
    if 2032 < len + body.length then (s, false)
    else
      let s := (((s.wr a 8 snap).wr (a + 8) 2 (len + body.length)).wr (a + 10) 2 (n + count)).wr (a + 12) 4 0
      (s.setBytes (a + 16 + len) body, true)

/-! ### Exits (R242) -/

/-- Count an exit of a flow. -/
def State.exit (s : State) (f i : Nat) : State := s.inc (R.ING_FLOW_CNT_COUNT f i)

/-- A frame as it is written, without its tag where MAC_CTRL.VLAN_STRIP is 1 (R245). -/
def State.stripped (s : State) (r : RxFrame) : EthFrame :=
  if s.flag (R.MAC_CTRL_VLAN_STRIP r.mac) ∧ r.frame.vlan.isSome then { r.frame with vlan := none, len := r.frame.len - 4 } else r.frame

/-- Step 1: a packet that no flow matches (R242). `full`: the management complex's queue is full. -/
def State.unmatched (s : State) (r : RxFrame) (full : Bool) : State :=
  let ctl := match r.frame.body with
    | .udp u => decide (u.dport = 319) || decide (u.dport = 320)
    | .control _ => true
    | .other => false
  if ctl then
    let n := s.get R.ING_CTL_RATE_RATE * (s.raw - s.ctl.last) + s.ctl.frac
    let used := s.ctl.used - n / 1000000
    let s := { s with ctl := { s.ctl with used := used, frac := if used = 0 then 0 else n % 1000000, last := s.raw } }
    if full ∨ s.get R.ING_CTL_RATE_BURST ≤ used then
      let s := s.inc (R.MAC_CNT_COUNT r.mac 7)
      if s.ctl.dropAt.elim true (fun t => decide (t + 1000000000 ≤ s.raw)) then
        { s with ctl := { s.ctl with dropAt := some s.raw } }.report 128 0
      else s
    else (({ s with ctl := { s.ctl with used := used + 1 } }).inc (R.MAC_CNT_COUNT r.mac 6)).emit (.toMpc r.mac r.stamp (s.stripped r))
  else s.inc (R.MAC_CNT_COUNT r.mac 5)

/-- A parsed payload, as R231 accepts it. -/
inductive Payload where
  | video (ts seq : Nat) (runs : List Srd)
  | audio (ts seq : Nat) (data : List (BitVec 8))
  | anc (ts seq : Nat) (data : List (BitVec 8))
  | ts (seq : Nat) (data : List (BitVec 8))
  | nal (ts seq : Nat) (marker : Bool) (data : List (BitVec 8))

/-- Whether a two-byte NAL unit header is valid (RFC 7798, RFC 9328): the forbidden bit and, of VVC, the reserved zero bit are 0, the layer is 0, and the
temporal ID plus 1 is not 0 (PRESUMED, log 124). -/
def nalHeader (vvc : Bool) (l : List (BitVec 8)) : Bool :=
  let a := (l.getD 0 0).toNat
  let b := (l.getD 1 0).toNat
  decide (2 ≤ l.length) && decide (a < 128) && decide (b % 8 ≠ 0) &&
  (if vvc then decide (a % 128 < 1) else decide (a % 2 = 0 ∧ b / 8 = 0))

/-- The units of an aggregation packet: 16-bit sizes, each before a NAL unit with a valid header, up to the end. -/
def nalUnits (vvc : Bool) : Nat → List (BitVec 8) → Bool
  | 0, _ => false
  | _ + 1, [] => true
  | k + 1, l =>
    let n := beNat (l.take 2)
    decide (2 ≤ n) && decide (n + 2 ≤ l.length) && nalHeader vvc (l.drop 2) && nalUnits vvc k (l.drop (n + 2))

/-- Whether the NAL unit headers of a payload are valid: of a single NAL unit, of every unit of an aggregation packet (type 48, of VVC 28), and the header
of a fragment (type 49, of VVC 29), which is not both first and last. -/
def nalOk (vvc : Bool) (data : List (BitVec 8)) : Bool :=
  let t := nalType vvc data
  nalHeader vvc data &&
  (if t = (if vvc then 28 else 48) then decide (2 < data.length) && nalUnits vvc data.length (data.drop 2)
   else if t = (if vvc then 29 else 49) then decide (3 ≤ data.length) && decide ((data.getD 2 0).toNat / 64 ≠ 3)
   else true)

/-- Whether a payload is 1 to 7 whole transport packets with their sync bytes (R228, R231). -/
def tsOk (l : List (BitVec 8)) : Bool :=
  decide (l.length % 188 = 0) && decide (l ≠ []) && decide (l.length ≤ 7 * 188) && (tsPackets l).all (fun p => p.getD 0 0 = 0x47)

/-- Read a packet's payload; none where R231 discards it. -/
def State.parse (s : State) (f : Nat) (u : UdpPacket) : Option Payload :=
  let kind := s.get (R.ING_FLOW_KIND_KIND f)
  if kind = 4 ∧ s.flag (R.ING_FLOW_KIND_BARE_UDP f) then
    if tsOk u.payload then some (.ts 0 u.payload) else none
  else match rtpOf u.payload with
    | none => none
    | some r =>
      if r.version ≠ 2 ∨ r.pt ≠ s.get (R.ING_FLOW_KIND_PT f) then none
      else match kind with
        | 0 => (s.videoRuns f r.data).map (fun runs => .video r.ts ((beNat (r.data.take 2) * 65536 + r.seq) % 2 ^ 32) runs)
        | 1 | 2 =>
          let unit := s.flowSample f * s.get (R.AUD_FLOW_MAP_CHANNELS f)
          if s.audMisfit f ∨ unit = 0 ∨ r.data.length % unit ≠ 0 then none else some (.audio r.ts r.seq r.data)
        | 3 => if (ancOf r.data).isSome then some (.anc r.ts r.seq r.data) else none
        | 4 => if tsOk r.data then some (.ts r.seq r.data) else none
        | k => if nalOk (decide (k = 6)) r.data then some (.nal r.ts r.seq r.marker r.data) else none

/-- The sequence number of a payload as carried, and whether it is already 32 bits. -/
def Payload.seq : Payload → Nat × Bool
  | .video _ q _ => (q, true)
  | .audio _ q _ => (q, false)
  | .anc _ q _ => (q, false)
  | .ts q _ => (q, false)
  | .nal _ q _ _ => (q, false)

/-- The local time of the receive time-stamp of a flow's latest packet (R208, R399). -/
def State.stampTime (s : State) (f : Nat) : Int := s.now - ((s.raw : Int) - s.get (R.ING_FLOW_LAST_TS_RAW f))

/-- Steps 6 to 8: late, no token, or written (R242). -/
def State.deliver (s : State) (f : Nat) (p : Payload) : State :=
  let ch := s.get (R.ING_FLOW_KIND_CHANNEL f)
  let d := s.get (R.ING_FLOW_KIND_DEST f)
  match p with
  | .video ts _ runs =>
    match s.videoFate ch ts runs with
    | (s, .late) => s.exit f 6
    | (s, .noToken) => s.exit f 7
    | (s, .frame n) => (s.writeVideo f ch n runs).exit f 8
  | .audio ts _ data => (s.audPacket f ts data).exit f 8
  | .anc ts _ data =>
    match s.writeAnc ch ts data with
    | (s, true) => s.exit f 8
    | (s, false) => s.exit f 7
  | .ts _ data =>
    let c := d % 256
    if s.ringSize c < (s.decOf c).used + data.length then s.exit f 7
    else ((tsPackets data).foldl (fun s q => s.auTs c (s.stampTime f) q) s).exit f 8
  | .nal ts _ marker data =>
    let c := d % 256
    if s.ringSize c < (s.decOf c).used + data.length then s.exit f 7 else (s.auRtp c ts (s.stampTime f) marker data).exit f 8

/-- Whether a flow's packets pass a merge: it is a path of an enabled pair (R233, R246). -/
def State.merges (s : State) (f : Nat) : Bool :=
  s.flag (R.ING_FLOW_MERGE_IN_PAIR f) && s.flag (R.ING_PAIR_CFG_ENABLE (s.get (R.ING_FLOW_MERGE_PAIR f)))

/-- Steps 5 to 8 for a well-formed packet of a flow (R242). -/
def State.mergeAndDeliver (s : State) (f : Nat) (p : Payload) : State :=
  if s.merges f then
    let pr := s.get (R.ING_FLOW_MERGE_PAIR f)
    let b := s.flag (R.ING_FLOW_MERGE_PATH_B f)
    let (q, wide) := p.seq
    match s.mergePacket pr b (if wide then q else (s.pair pr).extend q) with
    | (s, .duplicate) => s.exit f 4
    | (s, .stale) => s.exit f 5
    | (s, .accept) => s.deliver f p
  else s.deliver f p

/-- Steps 2 to 8 for a packet that matched entry e (R242). -/
def State.flowPacket (s : State) (e : Nat) (r : RxFrame) (u : UdpPacket) : State :=
  let f := s.ft e 0 / 2 ^ 16 % 16384
  let b := u.ipHeader + 8 + u.payload.length
  let s := (s.exit f 0).set (R.ING_FLOW_LAST_TS_RAW f) r.stamp
  let s := { s with flowPort := tset (fun _ => 0) s.flowPort f (r.mac + 1) }
  if s.get (R.ING_FLOW_KIND_MAX_PKT f) < b then s.exit f 1
  else
    let (s, col) := (s.refillEntry e).mark e u.dscp.toNat b
    if col = .red ∨ (col = .yellow ∧ bitAt (s.ft e 0) 6) then s.exit f 2
    else match s.parse f u with
      | none => s.exit f 3
      | some p =>
        let s := if col = .yellow then s.exit f 9 else s
        s.mergeAndDeliver f p

/-- One packet leaves ingest by the first exit that applies (R242). -/
def State.ingest (s : State) (r : RxFrame) (full : Bool) : State :=
  match r.frame.body with
  | .udp u =>
    match (if s.flag R.ING_CTRL_ENABLE then s.lookup r.frame.vlan u else none) with
    | some e => s.flowPacket e r u
    | none => s.unmatched r full
  | _ => s.unmatched r full

/-! ### Commands -/

/-- The pair, the path and the sequence number with which a frame reaches a merge. -/
def State.mergeKey (s : State) (r : RxFrame) : Option (Nat × Bool × Nat) :=
  match r.frame.body with
  | .udp u => (s.lookup r.frame.vlan u).bind (fun e =>
      let f := s.ft e 0 / 2 ^ 16 % 16384
      if s.merges f then (s.parse f u).map (fun p => (s.get (R.ING_FLOW_MERGE_PAIR f), s.flag (R.ING_FLOW_MERGE_PATH_B f), p.seq.1)) else none)
  | _ => none

/-- The frame that the engine examines next: the oldest, but that of path A where its copy on path B came in the same CLK_FAB cycle before it (R235). -/
def State.nextFrame (s : State) (r : RxFrame) (rest : List RxFrame) : RxFrame :=
  match s.mergeKey r with
  | some (p, true, q) => (rest.find? (fun x => decide (fabCycle x.came = fabCycle r.came) && decide (s.mergeKey x = some (p, false, q)))).getD r
  | _ => r

/-- INGEST_PACKET: the engine examines the oldest packet handed over by a MAC (R242). -/
def execIngestPacket (full : Bool) (now : Nat) (s : State) : Out :=
  whenIngest s (fun s =>
    let s := s.advance now
    match s.ingFifo with
    | r :: t =>
      let x := s.nextFrame r t
      { s with ingFifo := s.ingFifo.erase x }.ingest x full
    | [] => s)

/-- POLICER_SWEEP (R223). -/
def execPolicerSweep (now : Nat) (s : State) : Out := whenIngest s (fun s => (s.advance now).sweep)

/-- PATH_SILENT: one path of an enabled pair has delivered nothing for 10 ms while the other has (R244). -/
def execPathSilent (p : Fin 2048) (b : Bool) (now : Nat) (s : State) : Out :=
  whenIngest s (fun s =>
    let s := s.advance now
    let x := s.pair p
    let mine := (if b then x.lastB else x.lastA).getD x.since
    let other := if b then x.lastA else x.lastB
    if s.flag (R.ING_PAIR_CFG_ENABLE p) ∧ x.silent ≠ some b ∧ mine + 10000000 ≤ s.raw ∧ other.elim false (fun t => decide (mine < t)) then
      (s.setPair p { x with silent := some b }).report 127 0 (BitVec.ofNat 64 (p.val + if b then 2048 else 0))
    else s)

/-- FLOW_TABLE_ECC: an entry, or the flow record that it names, is in error (R244); an error in the second slot of a full entry counts
against the entry. -/
def execFlowTableEcc (e : Fin 32768) (now : Nat) (s : State) : Out :=
  whenIngest s (fun s =>
    let s := s.advance now
    let e0 := if e.val % 2 = 1 ∧ bitAt (s.ft (e.val - 1) 0) 0 ∧ bitAt (s.ft (e.val - 1) 0) 1 then e.val - 1 else e.val
    let s := { s with flowBad := if s.flowBad.contains e0 then s.flowBad else e0 :: s.flowBad }
    s.report 129 0 (BitVec.ofNat 64 e))

/-- A write of ING_IND_SEL: the window shows flow f, with a snapshot of its counters (R247). -/
def State.ingSelect (s : State) (w f : Nat) : State :=
  (List.range 10).foldl (fun s i => s.set (R.ING_WIN_CNT_SNAPSHOT w i) (s.get (R.ING_FLOW_CNT_COUNT f i))) (s.set (R.ING_IND_SEL_FLOW w) f)

/-- ING_IND_SEL (R247). -/
def execIngIndSel (w : Fin 4) (f : FlowId) (s : State) : Out := whenWr s (fun s => s.ingSelect w f)

end Sys2Proof.Machine
end

