-- ==== Sys2Proof/Machine/Picture.lean ====
section
/-! DEFINITION. Pictures in device memory as samples: source tokens, decode output buffers and rendition buffers, the quarter-scale picture
of proofing with its costs and its motion search, and the arithmetic of the scaler (06_proofing.md R253, R254, R270 to R279). -/

namespace Sys2Proof.Machine

/-! ### Configuration words (R283) -/

/-- Bytes per sample: one at 8 bits, two at 10 (R270). -/
def cfgBytes (cfg : Nat) : Nat := if bitAt cfg 27 then 1 else 2

/-- Bits per sample. -/
def cfgBits (cfg : Nat) : Nat := if bitAt cfg 27 then 8 else 10

/-- Width and height of a configuration. -/
def cfgWidth (cfg : Nat) : Nat := cfg % 8192
def cfgHeight (cfg : Nat) : Nat := cfg / 8192 % 8192

/-- Rows of a chroma plane. -/
def cfgChromaRows (cfg : Nat) : Nat := if bitAt cfg 26 then cfgHeight cfg / 2 else cfgHeight cfg

/-- Bytes of a rendition's picture (R270). -/
def cfgSize (cfg : Nat) : Nat := (cfgWidth cfg * cfgHeight cfg + 2 * (cfgWidth cfg / 2) * cfgChromaRows cfg) * cfgBytes cfg

/-- A configuration word. -/
def cfgWord (w h : Nat) (c420 eight : Bool) : Nat := w % 8192 + h % 8192 * 8192 + (if c420 then 2 ^ 26 else 0) + (if eight then 2 ^ 27 else 0)

/-- The configuration word that stands for a channel's source picture: its size, sampling and depth, as its flow or the sequence of its
decode channel gives them (R268, 09_decode.md R407). -/
def State.srcCfg (s : State) (ch : Nat) : Nat :=
  if s.flag (R.CTX_DEC_SRC_ENABLE ch) then
    let d := tget (fun _ => ({} : DecSt)) s.decs (s.get (R.CTX_DEC_SRC_SOURCE ch))
    cfgWord d.width d.height d.c420 (decide (d.depth = 8))
  else match s.videoFlow ch with
    | some f => cfgWord (s.srcWidth ch) (s.srcHeight ch) (s.flag (R.ING_FLOW_VIDEO_SAMPLING f)) (!s.flag (R.ING_FLOW_VIDEO_DEPTH10 f))
    | none => cfgWord (s.srcWidth ch) (s.srcHeight ch) false false

/-! ### Samples -/

/-- A picture's samples by plane (0 Y, 1 Cb, 2 Cr), column and row, with the word of its configuration. -/
structure Samples where
  cfg : Nat
  sample : Nat → Nat → Nat → Nat

/-- The picture stored at an address in the layout of R270. -/
def State.planar (s : State) (cfg base : Nat) : Samples :=
  { cfg := cfg, sample := fun plane x y =>
      let i := if plane = 0 then y * cfgWidth cfg + x
        else cfgWidth cfg * cfgHeight cfg + 2 * (y * (cfgWidth cfg / 2) + x) + (plane - 1)
      leNat (s.dBytes (base + i * cfgBytes cfg) (cfgBytes cfg)) }

/-- Address and bytes of the buffer that holds a channel's source picture: a token of its pool, or an output buffer of its decode channel
(R237, 09_decode.md R407). -/
def State.sourceBuf (s : State) (ch tok : Nat) : Nat × Nat :=
  if s.flag (R.CTX_DEC_SRC_ENABLE ch) then
    let d := s.get (R.CTX_DEC_SRC_SOURCE ch)
    let n := s.get (R.DEC_OUT_BUF_SIZE d) * 4096
    (s.get (R.DEC_OUT_BASE_BASE d) * 4096 + tok * n, n)
  else (s.tokenBase ch tok, s.get (R.ING_POOL_CFG_TOKEN_SIZE ch) * 4096)

/-- The samples of a source picture: pixel groups in a token, whose inner order no rule gives (log 25), the layout of R270 in an output
buffer (R406). -/
def State.source (s : State) (ch tok : Nat) : Samples :=
  let cfg := s.srcCfg ch
  let (a, n) := s.sourceBuf ch tok
  if s.flag (R.CTX_DEC_SRC_ENABLE ch) then s.planar cfg a
  else { cfg := cfg, sample := fun plane x y => Config.packedSample cfg (s.dBytes a n) plane x y }

/-! ### The quarter-scale picture (R253, R254) -/

/-- A 4-point Hadamard transform. -/
def had4 (a b c d : Int) : List Int := [a + b + c + d, a - b + c - d, a + b - c - d, a - b - c + d]

/-- The sum of the magnitudes of the 4 by 4 Hadamard transform of residuals. -/
def had16 (r : Nat → Nat → Int) : Nat :=
  let rows := (List.range 4).map (fun y => had4 (r 0 y) (r 1 y) (r 2 y) (r 3 y))
  let at' := fun (y x : Nat) => (rows.getD y []).getD x 0
  (List.range 4).foldl (fun a x => (had4 (at' 0 x) (at' 1 x) (at' 2 x) (at' 3 x)).foldl (fun a v => a + v.natAbs) a) 0

/-- The cost of the residuals of a block of 16 by 16: its sixteen transforms, in units of 16, saturating; a remainder counts as the hardware
rounds it, which no rule says (R253, log 25). -/
def blockCost (r : Nat → Nat → Int) : Nat :=
  (List.range 16).foldl (fun a i => a + had16 (fun x y => r (4 * (i % 4) + x) (4 * (i / 4) + y))) 0

/-- A sum of transforms in units of 16, saturating (R253). -/
def costUnits (n : Nat) : BitVec 16 := BitVec.ofNat 16 (min 0xFFFF (n / 16 + (if n % 16 ≠ 0 ∧ Config.costRoundsUp n then 1 else 0)))

/-- The quarter-scale luma picture of which rows from `top` up to `bottom` are analysed: only samples that exist count (R254). -/
structure Quarter where
  w : Nat
  top : Nat
  bottom : Nat
  data : List (BitVec 8)

/-- A sample. -/
def Quarter.get (q : Quarter) (x y : Nat) : Int := (q.data.getD (y * q.w + x) 0).toNat

/-- The residuals of block (bx, by) against a prediction; samples that do not exist have none. -/
def Quarter.residual (q : Quarter) (bx b : Nat) (pred : Nat → Nat → Int) (x y : Nat) : Int :=
  let px := 16 * bx + x
  let py := 16 * b + y
  if px < q.w ∧ q.top ≤ py ∧ py < q.bottom then q.get px py - pred px py else 0

/-- INTRA_COST: against the block's DC prediction, which no rule works out (R253, log 25). -/
def Quarter.intra (q : Quarter) (bx b : Nat) : BitVec 16 :=
  costUnits (blockCost (q.residual bx b (fun _ _ => Config.dcPrediction q.data q.w bx b)))

/-- A sample of the picture searched: outside it, and in regions never analysed, a free value (log 25). -/
def refSample (ref : List (Option (BitVec 8))) (w h : Nat) (x y : Int) : Int :=
  let v := if 0 ≤ x ∧ x < w ∧ 0 ≤ y ∧ y < h then ref.getD (y * w + x).toNat none else none
  ((v.getD (Config.outsideSample x y)).toNat : Int)

/-- The cost of a block against the block displaced by (dx, dy) in the picture searched. -/
def Quarter.displaced (q : Quarter) (ref : List (Option (BitVec 8))) (h bx b : Nat) (d : Int × Int) : Nat :=
  blockCost (q.residual bx b (fun x y => refSample ref q.w h (x + d.1) (y + d.2)))

/-- Every displacement of the search, in quarter-scale samples (R254). -/
def displacements : List (Int × Int) :=
  (List.range 128).flatMap (fun (j : Nat) => (List.range 256).map (fun (i : Nat) => ((i : Int) - 128, (j : Int) - 64)))

/-- The best displacement of a block, of the least cost, and that cost; which of equals the hardware takes no rule says (R254, log 25). -/
def Quarter.search (q : Quarter) (ref : List (Option (BitVec 8))) (h bx b : Nat) : (Int × Int) × Nat :=
  let l := displacements.map (fun d => (d, q.displaced ref h bx b d))
  let m := l.foldl (fun (m : Option Nat) x => some (m.elim x.2 (fun v => min v x.2))) none
  let best := (l.filter (fun x => decide (m = some x.2))).map (·.1)
  (best.getD (Config.searchPick best % best.length) (0, 0), m.getD 0)

/-- What proofing finds for a 16 by 16 block of the quarter-scale picture (R253): motion seed in full-scale pixels and costs. -/
structure SeedBlock where
  mvx : BitVec 16
  mvy : BitVec 16
  intra : BitVec 16
  inter : BitVec 16
  deriving DecidableEq, Repr

/-- The analysis of a block; with nothing to search against it has no motion, and INTER_COST is INTRA_COST (R254). -/
def Quarter.block (q : Quarter) (ref : Option (List (Option (BitVec 8)))) (h bx b : Nat) : SeedBlock :=
  match ref with
  | none => ⟨0, 0, q.intra bx b, q.intra bx b⟩
  | some r =>
    let m := q.search r h bx b
    ⟨BitVec.ofInt 16 (4 * m.1.1), BitVec.ofInt 16 (4 * m.1.2), q.intra bx b, costUnits m.2⟩

/-! ### Scaling (R272 to R279) -/

/-- A value divided by 2^k; a remainder counts as the hardware rounds it, which no rule says (log 25). -/
def roundShift (v : Int) (k : Nat) : Int := v / 2 ^ k + (if v % 2 ^ k ≠ 0 ∧ Config.scaleRoundsUp k (v % 2 ^ k).toNat then 1 else 0)

/-- The filters: luma across and down, and chroma (R272). -/
inductive Taps where
  | lumaAcross
  | lumaDown
  | chroma
  deriving DecidableEq, Repr

/-- Number of taps (R272). -/
def Taps.count : Taps → Nat
  | .lumaAcross => 8
  | .lumaDown => 6
  | .chroma => 4

/-- The coefficients of a phase: of FILTER 0 and 1 no rule gives them, bilinear weighs the two samples around the place, FILTER 3 takes the custom
set, whose luma has eight taps a phase, of which the six down are a free choice (R272, R273, R283, log 25). -/
def State.taps (s : State) (filter : Nat) (k : Taps) (inLen outLen phase : Nat) : List Int :=
  let custom := fun (set n : Nat) => (List.range n).map (fun t => signedOf (s.coefs.getD (512 * set + 8 * phase + t) 0) 10)
  if filter = 2 then (List.range k.count).map (fun t => if t + 1 = k.count / 2 then 256 - 4 * phase else if t = k.count / 2 then 4 * phase else 0)
  else if filter = 3 then
    match k with
    | .lumaAcross => custom 0 8
    | .lumaDown => (List.range 6).map (fun t => Config.sixTaps (custom 0 8) t)
    | .chroma => custom 1 4
  else
    let free := (List.range k.count).map (fun t => (Config.lanczosTap filter (Config.ratioBand inLen outLen) k.count phase t).toInt)
    -- every phase sums to 256
    free.set (k.count / 2) ((free.getD (k.count / 2) 0) + 256 - free.foldl (· + ·) 0)

/-- Filter samples around a place in 1/64 of a sample. -/
def tapSum (c : List Int) (place : Int) (f : Int → Int) : Int :=
  (List.range c.length).foldl (fun (a : Int) (t : Nat) => a + c.getD t 0 * f (place / 64 - ((c.length / 2 - 1 : Nat) : Int) + t)) 0

/-- Where output sample x of a line lies in the input's line, in 1/64 of a sample: the ratio's place, and the phase of the first sample,
which no rule gives (R272, log 25). -/
def samplePlace (inLen outLen x : Nat) : Int := if inLen = outLen then 64 * x else ((64 * x * inLen / outLen : Nat) : Int) + Config.scalePhase inLen outLen

/-- Where output chroma row y lies in the input's chroma rows: 4:2:0 chroma lies midway between luma rows (R276). -/
def chromaPlace (inCfg outCfg y : Nat) : Int :=
  let hi := cfgHeight inCfg
  let ho := cfgHeight outCfg
  if bitAt outCfg 26 then
    let luma : Int := (((4 * y + 1) * 32 * hi / ho : Nat) : Int) + (if hi = ho then 0 else Config.scalePhase hi ho)
    if bitAt inCfg 26 then (luma - 32) / 2 else luma
  else samplePlace hi ho y

/-- A sample of a picture with its columns clamped to the picture and its rows to [lo, hi) (R274). -/
def Samples.clamped (p : Samples) (lo hi plane : Nat) (x y : Int) : Int :=
  let w := if plane = 0 then cfgWidth p.cfg else cfgWidth p.cfg / 2
  p.sample plane (min (max x 0) ((w : Int) - 1)).toNat (min (max y lo) ((hi : Int) - 1)).toNat

/-- The vertical filter from 4:2:2 to 4:2:0 chroma (R276). -/
def half422 (p : Samples) (lo hi plane x y : Nat) : Int :=
  let f := fun (i : Nat) => p.clamped lo hi plane x (2 * (y : Int) - 1 + i)
  roundShift (-4 * f 0 + 36 * f 1 + 36 * f 2 - 4 * f 3) 6

/-- A sample of a picture scaled to another size, before depth reduction and clipping, from the input's luma rows [lo, hi): lines first, in 14 bits
between the stages (R272, R276, log 25). -/
def State.scaled (s : State) (p : Samples) (cfg lo hi plane x y : Nat) : Nat :=
  let wi := cfgWidth p.cfg
  let wo := cfgWidth cfg
  let sub := fun (n : Nat) => if plane ≠ 0 ∧ bitAt p.cfg 26 then n / 2 else n
  let lo := sub lo
  let hi := sub hi
  let v :=
    if wi = wo ∧ cfgHeight p.cfg = cfgHeight cfg then
      if plane ≠ 0 ∧ bitAt cfg 26 ∧ !bitAt p.cfg 26 then half422 p lo hi plane x y else p.sample plane x y
    else
      let filter := cfg / 2 ^ 30 % 4
      let px := samplePlace wi wo x
      let py := if plane = 0 then samplePlace (cfgHeight p.cfg) (cfgHeight cfg) y else chromaPlace p.cfg cfg y
      let across := s.taps filter (if plane = 0 then .lumaAcross else .chroma) wi wo (px % 64).toNat
      let down := s.taps filter (if plane = 0 then .lumaDown else .chroma) (cfgHeight p.cfg) (cfgHeight cfg) (py % 64).toNat
      let line := fun (row : Int) => roundShift (tapSum across px (fun i => p.clamped lo hi plane i row)) (cfgBits p.cfg - 6)
      roundShift (tapSum down py line) (22 - cfgBits p.cfg)
  v.toNat

/-- One step of the LFSR with polynomial x^16 + x^14 + x^13 + x^11 + 1 (R278). -/
def lfsrStep (x : Nat) : Nat :=
  let b := (x + x / 4 + x / 8 + x / 32) % 2
  x / 2 + b * 2 ^ 15

/-- The LFSR after n steps. -/
def lfsr (x : Nat) : Nat → Nat
  | 0 => x
  | n + 1 => lfsr (lfsrStep x) n

/-- The dither of the i-th sample: two bits of the LFSR; how far it has stepped and which bits they are no rule says (R278, log 25). -/
def ditherBits (seed i : Nat) : Nat :=
  let x := lfsr seed (Config.ditherSteps i)
  x / 2 ^ Config.ditherTap.1.val % 2 + 2 * (x / 2 ^ Config.ditherTap.2.val % 2)

/-- The LFSR seed of a rendition of a frame (R278). -/
def ditherSeed (snap r : Nat) : Nat :=
  let x := (snap % 65536) ^^^ (r * 0x1111)
  if x = 0 then 0xACE1 else x

/-- Reduction from 10 to 8 bits (R278). -/
def reduce8 (dither : Bool) (d v : Nat) : Nat := if dither then (v + d) / 4 else (v + 2) / 4

/-- The limits that results are clipped to (R279). -/
def clipRange (cfg : Nat) (chroma : Bool) : Nat × Nat :=
  if bitAt cfg 29 then (0, if bitAt cfg 27 then 255 else 1023)
  else if bitAt cfg 27 then (16, if chroma then 240 else 235)
  else (64, if chroma then 960 else 940)

/-- The i-th stored sample of a scaled picture, from the input's luma rows [lo, hi) (R270, R278, R279). -/
def State.outSample (s : State) (cfg seed : Nat) (p : Samples) (lo hi i : Nat) : Nat :=
  let w := cfgWidth cfg
  let luma := w * cfgHeight cfg
  let plane := if i < luma then 0 else 1 + (i - luma) % 2
  let x := if i < luma then i % w else (i - luma) / 2 % (w / 2)
  let y := if i < luma then i / w else (i - luma) / 2 / (w / 2)
  let v := s.scaled p cfg lo hi plane x y
  let v := if bitAt cfg 27 ∧ !bitAt p.cfg 27 then reduce8 (bitAt cfg 28) (ditherBits seed i) v else v
  let lim := clipRange cfg (plane ≠ 0)
  min (max v lim.1) lim.2

end Sys2Proof.Machine
end

