-- ==== Sys2Proof/Machine/Rendition.lean ====
section
/-! DEFINITION. Renditions: geometry, tile columns, the picture plan and the reference pool (07_codec_engines.md R284 to R330). -/

namespace Sys2Proof.Machine

/-! ### Geometry -/

/-- What the model keeps of a rendition. -/
def State.rend (s : State) (ch r : Nat) : RendSt := tget (fun _ => {}) s.rends (8 * ch + r)

/-- Replace what the model keeps of a rendition. -/
def State.setRend (s : State) (ch r : Nat) (x : RendSt) : State := { s with rends := tset (fun _ => {}) s.rends (8 * ch + r) x }

/-- Width and height of a rendition's picture in a snapshot: its scaler output, or its source (R270, R294). -/
def State.rendSize (s : State) (ch r snap : Nat) : Nat × Nat :=
  if s.flag (R.CTX_REND_CODEC_FROM_SCALER ch r) then
    (s.getIn (R.SCL_REND_CFG_WIDTH (8 * ch + r)) snap, s.getIn (R.SCL_REND_CFG_HEIGHT (8 * ch + r)) snap)
  else s.srcSize ch

/-- Picture width in whole and partial CTUs (R296). -/
def State.ctusWide (s : State) (ch r snap : Nat) : Nat := ceilDiv (s.rendSize ch r snap).1 (s.ctuSize ch r)

/-- Picture height in CTU rows. -/
def State.ctusHigh (s : State) (ch r snap : Nat) : Nat := ceilDiv (s.rendSize ch r snap).2 (s.ctuSize ch r)

/-- Width of column c in CTUs (R296). -/
def State.colWidth (s : State) (ch r snap c : Nat) : Nat :=
  if s.flag (R.CTX_REND_TILES_UNIFORM ch r) then
    (c + 1) * s.ctusWide ch r snap / s.columns ch r - c * s.ctusWide ch r snap / s.columns ch r
  else s.get (R.CTX_REND_COLW_WIDTHS ch r (c / 8)) / 2 ^ (8 * (c % 8)) % 256

/-- First CTU column of tile column c. -/
def State.colStart (s : State) (ch r snap c : Nat) : Nat := (List.range c).foldl (fun a i => a + s.colWidth ch r snap i) 0

/-- CTU rows of a band (R294); the whole picture with WHOLE. -/
def State.bandRows (s : State) (ch r snap : Nat) : Nat :=
  if s.flag (R.CTX_REND_CODEC_WHOLE ch r) then s.ctusHigh ch r snap else s.get (R.CTX_REND_CODEC_BAND_ROWS ch r)

/-- Bands of a rendition's picture. -/
def State.rendBands (s : State) (ch r snap : Nat) : Nat := ceilDiv (s.ctusHigh ch r snap) (s.bandRows ch r snap)

/-- CTU rows that a budget unit covers: those of its band, or all in frame mode. -/
def State.unitRows (s : State) (ch r snap band : Nat) : Nat :=
  if s.subframe ch then min (s.bandRows ch r snap) (s.ctusHigh ch r snap - band * s.bandRows ch r snap) else s.ctusHigh ch r snap

/-- First CTU row of a budget unit. -/
def State.unitTop (s : State) (ch r snap band : Nat) : Nat := if s.subframe ch then band * s.bandRows ch r snap else 0

/-- Blocks of 64 by 64 across a channel's source (R253). -/
def State.blocksWide (s : State) (ch : Nat) : Nat := ceilDiv (s.srcWidth ch) 64

/-- The complexity of the CTU at column x and row y of a rendition: that of the region that holds it, scaled by its area over 4 096
(R380). -/
def State.ctuCplx (s : State) (ch r snap : Nat) (fr : FrameSt) (x y : Nat) : Nat :=
  let sz := s.ctuSize ch r
  let (w, h) := s.rendSize ch r snap
  let bx := x * sz * s.srcWidth ch / w / 64
  let b := y * sz * s.srcHeight ch / h / 64
  tget (fun _ => 0) fr.cplx (b * s.blocksWide ch + bx) * (sz * sz) / 4096

/-- CTU column and row of the j-th CTU of a column in a unit: raster order within the column. -/
def State.ctuAt (s : State) (ch r snap band c j : Nat) : Nat × Nat :=
  let w := s.colWidth ch r snap c
  (s.colStart ch r snap c + j % w, s.unitTop ch r snap band + j / w)

/-! ### Reference slots (R315 to R321) -/

/-- Whether a proof still needs a slot (R341). -/
def State.proofHolds (s : State) (ch r ix : Nat) : Bool := s.proofs.any (fun p => decide (p.ch = ch) && decide (p.rend = r) && p.slots.contains ix)

/-- A slot. -/
def RendSt.slot (x : RendSt) (i : Nat) : RefSlot := tget (fun _ => {}) x.slots i

/-- Replace a slot. -/
def RendSt.setSlot (x : RendSt) (i : Nat) (v : RefSlot) : RendSt := { x with slots := tset (fun _ => {}) x.slots i v }

/-- Show the slots of a rendition in the status area. -/
def State.showSlots (s : State) (ch r : Nat) : State :=
  (List.range 16).foldl (fun s i =>
    let v := (s.rend ch r).slot i
    s.set (R.REF_SLOT ch r i) (v.mark + (if s.proofHolds ch r i then 4 else 0) + (if v.cur then 8 else 0) + v.snap % 2 ^ 32 * 2 ^ 32)) s

/-- The lowest-numbered free slot (R316, R317). -/
def State.freeSlot (s : State) (ch r : Nat) : Option Nat :=
  (List.range (s.get (R.CTX_REND_REF_SLOTS ch r))).find? (fun i =>
    let v := (s.rend ch r).slot i
    decide (v.mark = 0) && !v.cur && !(s.proofHolds ch r i))

/-- Drop the oldest pending proof that holds a slot of a rendition (R320). -/
def State.dropProof (s : State) (ch r : Nat) : Option State :=
  match s.proofs.find? (fun p => decide (p.ch = ch) && decide (p.rend = r) && decide (p.slots ≠ []) && p.runner.isNone) with
  | some p => some ({ s with proofs := s.proofs.erase p }.inc (R.ENC_CNT_COUNT ch 1))
  | none => none

/-- Find a slot, dropping proofs until one is free (R320). -/
def State.needSlot : Nat → State → Nat → Nat → Option Nat × State
  | 0, s, _, _ => (none, s)
  | k + 1, s, ch, r =>
    match s.freeSlot ch r with
    | some i => (some i, s)
    | none =>
      match s.dropProof ch r with
      | some s => s.needSlot k ch r
      | none => (none, s)

/-- Replace a planned picture. -/
def RendSt.setPic (x : RendSt) (p : PlanPic) : RendSt := { x with plan := x.plan.map (fun (q : PlanPic) => if q.i = p.i then p else q) }

/-- A picture starts: it takes a slot; where none can be had it is coded as a repeat picture, with an S1 notice through the engine's
ENGINE_FAULT source (R317, R318, R320). An IDR picture marks every other slot UNUSED: a slot that an earlier picture is still being coded into is so
marked when that picture ends. Answers whether it has a slot. -/
def State.pictureStart (s : State) (ch r : Nat) (p : PlanPic) (eng : Nat) : State × Bool :=
  let x := s.rend ch r
  let x := if p.idr then
      { x with slots := x.slots.map (fun (q : Nat × RefSlot) => (q.1, if q.2.cur then q.2 else { q.2 with mark := 0 })),
               plan := x.plan.map (fun (q : PlanPic) => if q.i < p.i then { q with past := true } else q) }
    else x
  let s := s.setRend ch r x
  match s.needSlot (s.proofs.length + 1) ch r with
  | (some i, s) =>
    let x := s.rend ch r
    let x := x.setSlot i { mark := 0, n := p.n, snap := s.snapOf ch p.n, cur := true, pos := x.pos, cycle := x.cycle }
    ((s.setRend ch r (x.setPic { p with slot := some i })).showSlots ch r, true)
  | (none, s) => ((s.showSlots ch r).report (134 + 2 * eng) 0, false)

/-- Slots that decoding a picture needs: its own references (R341). -/
def RendSt.refSlots (x : RendSt) (p : PlanPic) : List Nat :=
  (x.slots.filter (fun q => decide (q.2.mark ≠ 0) && p.refs.contains q.2.n)).map (·.1)

/-! ### The picture plan (R301 to R304, R314, R332) -/

/-- Decode order of display pictures lo to hi of a GOP, after its anchor: recursive bisection, the middle rounded down, the lower half
first (R302). -/
def bisect : Nat → Nat → Nat → List Nat
  | 0, _, _ => []
  | k + 1, lo, n => if n = 0 then [] else
    let mid := lo + (n - 1) / 2
    mid :: (bisect k lo (mid - lo) ++ bisect k (mid + 1) (lo + n - (mid + 1)))

/-- Decode order of n pictures from display picture a (R302). -/
def gopOrder (a n : Nat) : List Nat := if n = 0 then [] else (a + n - 1) :: bisect 16 a (n - 1)

/-- Whether the picture ring declares a scene cut for frame n (R263). -/
def State.ringCut (s : State) (ch n : Nat) : Bool :=
  bitAt (s.get (R.PRF_PIC_RING_WORD ch (s.snapOf ch n % 64) 1)) 2 && decide (s.get (R.PRF_PIC_RING_WORD ch (s.snapOf ch n % 64) 0) = s.snapOf ch n)

/-- A scene cut of a picture that the plan already holds as another picture, declared since: it takes effect at the next GOP (R303). -/
def State.lateCut (s : State) (ch r : Nat) : Bool :=
  let x := s.rend ch r
  x.plan.any (fun q => !q.irap && decide (x.lastIrap < q.n) && decide (s.getIn (R.CTX_GOP_SC_IRAP ch) (s.snapOf ch q.n) = 1) && s.ringCut ch q.n)

/-- Whether frame n is an IRAP picture, and whether an IDR, after an IRAP picture at `last`; `due` where an IDR is due in any case (R303, R318, R332):
forced, due at the start, on IRAP_PERIOD, or at a scene cut under SC_IRAP. With OPEN_GOP the last two are CRA pictures (R294); the pictures before an
IRAP picture form a GOP of their own (R303), so that none of them is coded after it (log 126). -/
def State.irapAfter (s : State) (ch n last : Nat) (due late : Bool) : Bool × Bool :=
  let snap := s.snapOf ch n
  let forced := s.getIn (R.CTX_SPLICE_FORCE_IRAP ch) snap = 1
  let per := s.getIn (R.CTX_GOP_IRAP_PERIOD ch) snap
  let timed := !s.subframe ch && decide (0 < per) && decide (last + per ≤ n)
  let cut := !s.subframe ch && decide (s.getIn (R.CTX_GOP_SC_IRAP ch) snap = 1) && (s.ringCut ch n || late)
  let closed := decide (s.getIn (R.CTX_GOP_OPEN_GOP ch) snap = 0)
  (forced || due || timed || cut, forced || due || ((timed || cut) && closed))

/-- Whether the next planned picture, frame n, is an IRAP picture, and whether an IDR. -/
def State.irapOf (s : State) (ch r n : Nat) : Bool × Bool :=
  let x := s.rend ch r
  s.irapAfter ch n x.lastIrap x.needIdr (s.lateCut ch r)

/-- The references of a low-delay P picture (R314): of the pictures planned before it that hold a slot, none from before an IDR picture. -/
def State.lowDelayRefs (s : State) (ch r n : Nat) : List Nat :=
  let snap := s.snapOf ch n
  let x := s.rend ch r
  let kept := x.plan.filter (fun q => decide (q.n < n) && q.used && !q.rep && !x.plan.any (fun d => d.idr && decide (d.n < n) && decide (q.i < d.i)))
  let recent := sortBy (fun a b => decide (b ≤ a)) (kept.map (·.n))
  let two := if s.getIn (R.CTX_GOP_REFS2 ch) snap = 1 then recent.take 2 else recent.take 1
  let lt := (x.slots.filter (fun q => decide (q.2.mark = 2))).map (fun q => q.2.n)
  if s.getIn (R.CTX_GOP_LTR_USE ch) snap = 1 ∧ lt ≠ [] then recent.take 1 ++ lt else two

/-- Add one picture to the plan. -/
def State.planPic (s : State) (ch r n : Nat) (b : Bool) (refs : List Nat) (used : Bool) : State :=
  let (irap, idr) := s.irapOf ch r n
  let x := s.rend ch r
  let p : PlanPic := { i := x.planI, n := n, irap := irap, idr := idr, b := b && !irap, refs := if irap then [] else refs, used := used }
  let x := { x with plan := x.plan ++ [p], planI := x.planI + 1, planN := max x.planN (n + 1) }
  s.setRend ch r (if irap then { x with lastIrap := n, needIdr := false } else x)

/-- The nearest planned frame before, and after, frame n among `known` (R314). -/
def nearest (known : List Nat) (n : Nat) : List Nat :=
  let before := known.foldl (fun (b : Option Nat) k => if k < n then some (max k (b.getD k)) else b) none
  let after := known.foldl (fun (b : Option Nat) k => if n < k then some (min k (b.getD k)) else b) none
  before.toList ++ after.toList

/-- The last planned picture before frame n that later pictures may reference: the anchor of its GOP. -/
def RendSt.anchorBefore (x : RendSt) (n : Nat) : Nat := ((x.plan.filter (fun q => decide (q.n < n) && q.used && !q.rep)).map (·.n)).foldl max 0

/-- The pictures of a GOP in decode order, each with its references: the nearest before and after it among those coded before it (R302, R314). -/
def gopRefs : List Nat → List Nat → List (Nat × List Nat)
  | [], _ => []
  | d :: rest, known => (d, nearest known d) :: gopRefs rest (known ++ [d])

/-- Plan the next GOP of a frame-mode rendition (R302, R303): up to GOP_LEN pictures from frame planN; a later IRAP picture among them
ends the GOP before it; an IRAP first picture is coded first. A picture is kept as a reference if it is the anchor or another of the GOP references it
(R317). -/
def State.planGop (s : State) (ch r : Nat) : State :=
  let x := s.rend ch r
  let a := x.planN
  let len := max 1 (s.getIn (R.CTX_GOP_GOP_LEN ch) (s.snapOf ch a))
  if len = 1 then s.planPic ch r a false (s.lowDelayRefs ch r a) true
  else
    let lead := (s.irapOf ch r a).1
    let last := if lead then a else x.lastIrap
    let n := ((List.range len).find? (fun i => decide (0 < i) && (s.irapAfter ch (a + i) last false false).1)).getD len
    let s := if lead then s.planPic ch r a false [] true else s
    let lo := if lead then a + 1 else a
    let m := if lead then n - 1 else n
    let l := gopRefs (gopOrder lo m) [(s.rend ch r).anchorBefore lo]
    let refd := l.flatMap (·.2)
    l.foldl (fun s d => s.planPic ch r d.1 (decide (d.1 ≠ lo + m - 1)) d.2 (decide (d.1 = lo + m - 1) || refd.contains d.1)) s

/-- Plan pictures until the one of decode index j is planned. -/
def State.planTo : Nat → State → Nat → Nat → Nat → State
  | 0, s, _, _, _ => s
  | k + 1, s, ch, r, j => if j < (s.rend ch r).planI then s else (s.planGop ch r).planTo k ch r j

/-- The planned picture of decode index j. -/
def RendSt.pic (x : RendSt) (j : Nat) : Option PlanPic := x.plan.find? (fun p => decide (p.i = j))

/-- Whether a planned picture has been coded in every column of its rendition. -/
def State.codedWhole (s : State) (ch r : Nat) (q : PlanPic) : Bool := q.finished || q.rep || decide (q.cols + 1 = 2 ^ s.columns ch r)

/-- Whether every reference of a picture has been coded in every column (R304). -/
def State.refsReady (s : State) (ch r : Nat) (p : PlanPic) : Bool :=
  p.refs.all (fun n => (s.rend ch r).plan.all (fun q => decide (q.n ≠ n) || s.codedWhole ch r q))

/-- An ENC task has coded column c of the picture of frame n. -/
def State.columnCoded (s : State) (ch r n c : Nat) : State :=
  let x := s.rend ch r
  s.setRend ch r { x with plan := x.plan.map (fun (q : PlanPic) => if q.n = n then { q with cols := q.cols ||| 2 ^ c } else q) }

/-- A picture is coded as a repeat picture: it takes no slot, and the plan uses that of its reference in its place (R321). -/
def State.repeatPic (s : State) (ch r : Nat) (q : PlanPic) : State :=
  let x := s.rend ch r
  s.setRend ch r { x with plan := x.plan.map (fun (v : PlanPic) =>
    if v.i = q.i then { v with rep := true, used := false }
    else if v.refs.contains q.n then { v with refs := ((v.refs.filter (fun n => decide (n ≠ q.n))) ++ q.refs.take 1).eraseDups } else v) }

/-- A picture ends: its slot is marked, LTR_MARK makes it the long-term picture, and SHORT_TERM pictures that no later picture of the
plan references become UNUSED (R317 to R319). Beyond the pictures planned, the plan of a low-delay rendition references the pictures that its next
picture takes, and that of a hierarchical one the anchor of its last GOP. -/
def State.pictureEnd (s : State) (ch r : Nat) (p : PlanPic) : State :=
  let snap := s.snapOf ch p.n
  let ltr := s.getIn (R.CTX_GOP_LTR_MARK ch) snap = 1
  let x := s.rend ch r
  let x := match p.slot with
    | some i =>
      let x := if ltr ∧ !p.past then
          { x with slots := x.slots.map (fun (q : Nat × RefSlot) => (q.1, if q.2.mark = 2 then { q.2 with mark := 0 } else q.2)) } else x
      x.setSlot i { x.slot i with cur := false, mark := if p.past then 0 else if ltr then 2 else if p.used then 1 else 0 }
    | none => x
  let x := x.setPic { p with finished := true }
  let s := s.setRend ch r x
  let ahead := (x.plan.filter (fun q => !q.finished)).flatMap (·.refs)
  let next := if s.getIn (R.CTX_GOP_GOP_LEN ch) snap ≤ 1 then s.lowDelayRefs ch r x.planN else [x.anchorBefore x.planN]
  let keep := fun (n : Nat) => ahead.contains n || next.contains n
  let x := { x with slots := x.slots.map (fun (q : Nat × RefSlot) => (q.1, if q.2.mark = 1 ∧ keep q.2.n = false then { q.2 with mark := 0 } else q.2)) }
  let x := { x with plan := x.plan.filter (fun (q : PlanPic) => !q.finished || decide (x.planI ≤ q.i + 32)) }
  (s.setRend ch r x).showSlots ch r

end Sys2Proof.Machine
end

