-- ==== Sys2Proof/Machine/RateControl.lean ====
section
/-! DEFINITION. Rate control: the coded-picture-buffer model, windows, the commit test, crust mode and the quantiser
(08_rate_and_delay.md R349 to R388). -/

namespace Sys2Proof.Machine

/-! ### The coded-picture-buffer model (R357 to R365) -/

/-- SIZE in force, in bits (R363). -/
def State.cpbSize (s : State) (ch r : Nat) : Nat := s.getIn (R.RC_REND_CPB_SIZE ch r) (s.snapNow ch)

/-- VBR in force. -/
def State.cpbVbr (s : State) (ch r : Nat) : Bool := s.getIn (R.RC_REND_RATE_VBR ch r) (s.snapNow ch) = 1

/-- Bits that arrive in a time of dt units of 2^-32 ns, in units of 2^-16 bit (R357). -/
def State.cpbRise (s : State) (ch r : Nat) (dt : Int) : Nat :=
  s.getIn (R.RC_REND_RATE_RATE_KBPS ch r) (s.snapNow ch) * dt.toNat / (1000000 * 65536)

/-- Fullness after a time (R357): in VBR mode it stops rising at SIZE. -/
def State.cpbFill (s : State) (ch r f : Nat) (dt : Int) : Nat :=
  let x := f + s.cpbRise ch r dt
  if s.cpbVbr ch r then max f (min x (s.cpbSize ch r * 65536)) else x

/-- Release time of a unit (R26, R36). -/
def State.unitRelease (s : State) (u : UnitSt) : Int := s.releaseTime u.ch u.idx u.band

/-- Release time of the unit after a unit. -/
def State.nextRelease (s : State) (u : UnitSt) : Int :=
  if s.subframe u.ch ∧ u.band + 1 < s.bandCount u.ch then s.releaseTime u.ch u.idx (u.band + 1) else s.releaseTime u.ch (u.idx + 1) 0

/-- Filler bits that a unit needs whose removal leaves fullness f (R358). -/
def State.fillerBits (s : State) (u : UnitSt) (f : Nat) : Nat :=
  if s.cpbVbr u.ch u.rend then 0
  else
    let x := f + s.cpbRise u.ch u.rend (s.nextRelease u - s.unitRelease u)
    let cap := s.cpbSize u.ch u.rend * 65536
    if x ≤ cap then 0 else 8 * max 3 (ceilDiv (x - cap) (8 * 65536))

/-- Unreleased units of a rendition, in release order. -/
def State.unitsOf (s : State) (ch r : Nat) : List UnitSt := s.units.filter (fun u => decide (u.ch = ch) && decide (u.rend = r))

/-- Fullness just before time t, charging each unreleased unit removed before t: at its bits and filler when it is complete, at its whole
window while it is still being coded (R361). -/
def State.cpbBefore (s : State) (ch r : Nat) (t : Int) : Nat :=
  let x := s.rend ch r
  let go := fun (a : Nat × Option Int) (u : UnitSt) =>
    let tu := s.unitRelease u
    let f := a.2.elim a.1 (fun l => s.cpbFill ch r a.1 (tu - l))
    let c := (if u.complete then u.committed else u.window) * 65536
    let fill := if u.complete then (if u.staged then u.filler else s.fillerBits u (f - c)) else 0
    (f - c - fill * 65536, some tu)
  let a := ((s.unitsOf ch r).filter (fun u => decide (s.unitRelease u < t))).foldl go (x.f, x.lastRel)
  a.2.elim a.1 (fun l => s.cpbFill ch r a.1 (t - l))

/-- The window of a unit released at time t (R359). -/
def State.windowAt (s : State) (ch r : Nat) (t : Int) : Nat :=
  let size := s.cpbSize ch r
  let w := min (s.cpbBefore ch r t / 65536) (if s.cpbVbr ch r then size else size - 32)
  let m := s.getIn (R.RC_REND_WIN_WIN_MAX ch r) (s.snapNow ch)
  if m = 0 then w else min w m

/-- A change of rate, mode or size lands at a hand-over: the model is brought to now with the values in force before it (R363). -/
def State.cpbAdvance (s : State) (ch r : Nat) : State :=
  let x := s.rend ch r
  let t := s.now * 2 ^ 32
  match x.lastRel with
  | none => s
  | some l =>
    if t ≤ l then s
    else
      let f := s.cpbFill ch r x.f (t - l)
      (s.setRend ch r { x with f := f, lastRel := some t }).add (R.RC_ST_COUNT ch r 13) (f / 65536 - x.f / 65536)

/-- F is set to SIZE where it exceeds the new SIZE (R363). -/
def State.cpbClip (s : State) (ch r : Nat) : State :=
  let x := s.rend ch r
  let size := s.cpbSize ch r
  if size * 65536 < x.f then
    (((s.setRend ch r { x with f := size * 65536 }).add (R.RC_ST_COUNT ch r 14) (x.f / 65536 - size)).inc (R.RC_ST_COUNT ch r 11)).set
      (R.RC_ST_COUNT ch r 0) size
  else s

/-! ### Budget units (R355 to R361, R366) -/

/-- Two records are of one unit. -/
def UnitSt.same (u v : UnitSt) : Bool := decide (u.ch = v.ch) && decide (u.rend = v.rend) && decide (u.idx = v.idx) && decide (u.band = v.band)

/-- Replace a unit. -/
def State.putUnit (s : State) (u : UnitSt) : State := { s with units := s.units.map (fun (v : UnitSt) => if v.same u then u else v) }

/-- Replace a column of a unit. -/
def UnitSt.setCol (u : UnitSt) (c : Nat) (k : ColSt) : UnitSt := { u with cols := u.cols.set c k }

/-- CTUs of a unit that are not committed. -/
def UnitSt.left (u : UnitSt) : Nat := u.cols.foldl (fun a k => a + (k.total - k.done)) 0

/-- The reserve per CTU of a unit: the value of its snapshot, by slice type (R367). -/
def State.reserve (s : State) (u : UnitSt) : Nat :=
  if u.irap then s.getIn (R.RC_REND_RESERVE_INTRA u.ch u.rend) u.snap else s.getIn (R.RC_REND_RESERVE_INTER u.ch u.rend) u.snap

/-- Most bits of a crust CTU of a unit (R374). -/
def UnitSt.crustCap (u : UnitSt) : Nat := if u.irap then 96 else 32

/-- Bitstream slices of a unit: one per column and band (R284). -/
def State.slicesOf (s : State) (u : UnitSt) : Nat :=
  u.cols.length * (if s.subframe u.ch then 1 else s.rendBands u.ch u.rend u.snap)

/-- A budget unit begins: its window is fixed and its fixed overhead is charged; the overhead is a free value within the bound of R366
(log 24). -/
def State.openUnit (s : State) (u : UnitSt) : State :=
  let cols := (List.range (s.columns u.ch u.rend)).map (fun c =>
    let total := s.colWidth u.ch u.rend u.snap c * s.unitRows u.ch u.rend u.snap u.band
    let all := match s.frameSt u.ch u.src with
      | some fr => (List.range total).foldl (fun a j =>
          let p := s.ctuAt u.ch u.rend u.snap u.band c j
          a + s.ctuCplx u.ch u.rend u.snap fr p.1 p.2) 0
      | none => 0
    ({ total := total, xAll := all } : ColSt))
  let u := { u with cols := cols, inst := s.tSample u.ch u.src, window := s.windowAt u.ch u.rend (s.unitRelease u),
                    initF := s.cpbBefore u.ch u.rend (s.unitRelease u) / 65536 }
  let bound := 512 * s.slicesOf u + (if u.band = 0 then 2048 else 0)
  let u := { u with committed := s.free.toNat % (bound + 1) }
  { s.took with units := s.units ++ [u] }

/-! ### The quantiser (R379 to R381) -/

/-- Slice type of a unit as a key: 0 P, 1 B, 2 I. -/
def UnitSt.kind (u : UnitSt) : Nat := if u.irap then 2 else if u.b then 1 else 0

/-- Limits of the quantiser of a unit, in its snapshot (R305). -/
def State.qpLimits (s : State) (u : UnitSt) : Int × Int :=
  (s.getIn (R.RC_REND_QP_QP_MIN u.ch u.rend) u.snap, s.getIn (R.RC_REND_QP_QP_MAX u.ch u.rend) u.snap)

/-- Clamp a quantiser. -/
def State.clampQ (s : State) (u : UnitSt) (q : Int) : Int := min (max q (s.qpLimits u).1) (s.qpLimits u).2

/-- The quantiser at which a column starts, with the values of its unit's snapshot (R305, R379). -/
def State.startQ (s : State) (u : UnitSt) (c : Nat) : Int :=
  let x := s.rend u.ch u.rend
  let n := u.snap
  let q := match tfind x.qEnd (16 * u.kind + c) with
    | none => (s.getIn (R.RC_REND_QP_QP_INIT u.ch u.rend) n : Int)
    | some q =>
      let p := tget (fun _ => 0) x.psnr u.kind
      let floor := s.getIn (R.RC_REND_QUAL_FLOOR u.ch u.rend) n
      let ceil := s.getIn (R.RC_REND_QUAL_CEIL u.ch u.rend) n
      (q : Int) - (if p < floor then 1 else 0) + (if ceil ≠ 0 ∧ ceil < p then 1 else 0) +
        (if u.cut then (s.getIn (R.RC_REND_QP_SC_OFFSET u.ch u.rend) n : Int) else 0)
  s.clampQ u q

/-- The quantiser after a committed CTU (R380), every comparison multiplied by x_all. -/
def nextQ (t sbits done all q : Int) : Int :=
  let err := sbits * all - t * done
  if err * 8 > t * all then q + 2
  else if err * 32 > t * all then q + 1
  else if err * 8 < -(t * all) then q - 2
  else if err * 32 < -(t * all) then q - 1
  else q

/-! ### CTUs (R368 to R376) -/

/-- T_ctu of an encoded CTU in ns (R39), and T_crust (R374), for a CTU size. -/
def tCtu (size : Nat) : Nat := 7680 * size * size / 4096
def tCrust (size : Nat) : Nat := 512 * size * size / 4096

/-- The unit and column that the ENC task on engine e works on. -/
def State.engineWork (s : State) (e : Nat) : Option (UnitSt × Nat × ColSt) :=
  let b := tget (fun _ => 0) s.busy e
  if b = 0 then none
  else
    match s.units.find? (fun u => u.cols.any (fun k => decide (k.task = some (b - 1)))) with
    | none => none
    | some u => (u.cols.zipIdx.find? (fun k => decide (k.1.task = some (b - 1)))).map (fun k => (u, k.2, k.1))

/-- A column, which is a slice (R284), enters crust mode, for the budget or for the time (R370, R371, R375, R376): the channel's thread receives CRUST
(R98). -/
def State.toCrust (s : State) (u : UnitSt) (c : Nat) (k : ColSt) (budget : Bool) : State :=
  let s := (s.inc (R.RC_ST_COUNT u.ch u.rend (if budget then 7 else 6))).postCh u.ch 10
  s.putUnit ({ u with timeTrig := u.timeTrig || !budget }.setCol c { k with crust := true })

/-- An engine starts the next CTU of its column: in crust mode where the budget or the deadline asks for it (R371, R375). -/
def State.ctuStart (s : State) (e : Nat) : State :=
  match s.engineWork e with
  | none => s
  | some (u, c, k) =>
    if u.staged ∨ k.inflight ∨ k.total ≤ k.done then s
    else
      let size := s.ctuSize u.ch u.rend
      let late := decide (s.now * 2 ^ 32 + ns (tCtu size + (k.total - k.done - 1) * tCrust size) > s.deadline u.ch u.idx u.band)
      if k.crust ∨ k.rep then s.putUnit (u.setCol c { k with inflight := true })
      else if u.rolled then s.toCrust u c { k with inflight := true } true
      else if late then s.toCrust u c { k with inflight := true } false
      else s.putUnit (u.setCol c { k with inflight := true })

/-- Whether CTU column x of a unit lies in its refresh band (R325). -/
def State.inRefresh (s : State) (u : UnitSt) (x : Nat) : Bool :=
  let p := s.getIn (R.CTX_REFRESH_PERIOD u.ch) u.snap
  let w := ceilDiv (s.ctusWide u.ch u.rend u.snap) p
  let i := (s.rend u.ch u.rend).pos
  decide (p ≠ 0) && decide (i * w ≤ x) && decide (x < (i + 1) * w)

/-- A CTU of a column is committed with its bits (R368, R380). -/
def State.commitCtu (s : State) (u : UnitSt) (c : Nat) (k : ColSt) (b : Nat) : State :=
  let p := s.ctuAt u.ch u.rend u.snap u.band c k.done
  let x : Nat := match s.frameSt u.ch u.src with
    | some fr => s.ctuCplx u.ch u.rend u.snap fr p.1 p.2
    | none => 0
  let crust := k.crust && !k.rep
  let bits := k.bits + b
  let q := if k.xAll = 0 then nextQ k.target bits (k.done + 1) k.total k.q else nextQ k.target bits (k.xDone + x) k.xAll k.q
  let k' := { k with
    done := k.done + 1, inflight := false, bits := bits, xDone := k.xDone + x, q := s.clampQ u q, qSum := k.qSum + k.q, qN := k.qN + 1,
    qFirst := if k.qN = 0 then k.q else k.qFirst, crustN := k.crustN + (if crust then 1 else 0),
    held := k.held || ((k.crust || k.rep) && s.inRefresh u p.1) }
  let u := { u with committed := u.committed + b, crustN := u.crustN + (if crust then 1 else 0) }.setCol c k'
  s.putUnit { u with complete := decide (u.left = 0) }

/-- A CTU fails the test: its engine codes it and the rest of its column in crust mode (R370). -/
def State.rollBack (s : State) (u : UnitSt) (c : Nat) (k : ColSt) : State :=
  let s := s.inc (R.RC_ST_COUNT u.ch u.rend 8)
  s.toCrust { u with rolled := true, rollbacks := u.rollbacks + 1 } c { k with inflight := false } true

/-- An engine completes a CTU of b bits (R368). -/
def State.ctuComplete (s : State) (e b : Nat) : State :=
  match s.engineWork e with
  | none => s
  | some (u, c, k) =>
    if u.staged ∨ !k.inflight then s
    else
      let s := s.inc (R.ENG_CNT_COUNT e 2)
      if k.rep then s.commitCtu u c k (min b 32)
      else if k.crust then s.commitCtu u c k (min b u.crustCap)
      else if (b : Int) ≤ (u.window : Int) - u.committed - (u.left - 1) * s.reserve u then s.commitCtu u c k b
      else s.rollBack u c k

/-- An engine reads a reference at an address: a line of its tray's cache serves it, or is filled, and of 8 192 lines one gives way (R287; the victim is
free, log 49). With CACHE_EN at 0 the read goes to frame memory (R348). -/
def State.trayRead (s : State) (t a : Nat) : State :=
  if s.flag (R.TRAY_CTRL_CACHE_EN t) then
    let l := tget (fun _ => []) s.trayLines t
    if l.contains (a / 256) then s.inc (R.TRAY_CNT_COUNT t 0)
    else
      let s := s.inc (R.TRAY_CNT_COUNT t 1)
      let put := fun (s : State) (l : List Nat) => { s with trayLines := tset (fun _ => []) s.trayLines t (l ++ [a / 256]) }
      if l.length < 8192 then put s l else (put s (l.eraseIdx (s.free.toNat % 8192))).took
  else s

/-- The reference reads of an engine, in order. -/
def State.trayReads (s : State) (e : Nat) (reads : List Nat) : State := reads.foldl (fun s a => s.trayRead (e / 8) a) s

/-- Every line of a tray's reference cache is dropped (R348). -/
def State.dropTray (s : State) (t : Nat) : State := { s with trayLines := tset (fun _ => []) s.trayLines t [] }

/-! ### Removal from the model (R357, R362, R384) -/

/-- A unit is removed at its release: the model's fullness, its counters and the history record (R357, R362, R383, R384). -/
def State.removeUnit (s : State) (u : UnitSt) : State :=
  let t := s.unitRelease u
  let x := s.rend u.ch u.rend
  let before := x.lastRel.elim x.f (fun l => s.cpbFill u.ch u.rend x.f (t - l))
  let after := before - (u.committed + u.filler) * 65536
  let low := s.getIn (R.RC_REND_MARK_LOW_MARK u.ch u.rend) (s.snapNow u.ch)
  let isLow := decide (low ≠ 0) && decide (after < low * 65536)
  let st := fun i => R.RC_ST_COUNT u.ch u.rend i
  let s := s.setRend u.ch u.rend { x with f := after, lastRel := some t, units := x.units + 1 }
  let s := (((s.add (st 13) (before / 65536 - x.f / 65536)).add (st 2) u.committed).add (st 3) u.filler).inc (st 1)
  let s := s.set (st 0) (after / 65536)
  let s := if isLow then (s.inc (st 10)).postCh u.ch 11 else s
  let h := fun j => R.RC_HISTORY_WORD u.ch u.rend (x.units % 256) j
  let crust := decide (0 < u.crustN)
  let flags := (if crust ∧ u.rolled then 1 else 0) + (if crust ∧ u.timeTrig then 2 else 0) + (if u.rep then 4 else 0) +
    (if u.lateN ≠ 0 then 8 else 0) + (if u.cut then 16 else 0) + (if u.irap then 32 else 0) + (if isLow then 64 else 0)
  let qs := u.cols.foldl (fun (a : Int × Nat) k => (a.1 + k.qSum, a.2 + k.qN)) (0, 0)
  let mean := if qs.2 = 0 then 0 else (qs.1 * 256 / qs.2).toNat
  let first := (u.cols.head?.elim 0 (·.qFirst)).toNat
  let last := (u.cols.getLast?.elim 0 (·.q)).toNat
  let target := u.cols.foldl (fun a k => a + k.target) 0 + u.cols.foldl (fun a k => a + k.total) 0 * s.reserve u
  let s := s.set (h 0) u.snap
  let s := s.set (h 1) ((if s.subframe u.ch then u.band else 0xFFFF) % 65536 + flags * 2 ^ 16 + first % 256 * 2 ^ 32 + last % 256 * 2 ^ 40 +
    mean % 65536 * 2 ^ 48)
  let s := s.set (h 2) (u.window % 2 ^ 32 + target % 2 ^ 32 * 2 ^ 32)
  let s := s.set (h 3) (u.committed % 2 ^ 32 + u.filler % 2 ^ 32 * 2 ^ 32)
  let s := s.set (h 4) (before / 65536 % 2 ^ 32 + after / 65536 % 2 ^ 32 * 2 ^ 32)
  let s := s.set (h 5) (u.crustN % 65536 + u.lateN % 65536 * 2 ^ 16 + u.rollbacks % 65536 * 2 ^ 32)
  (s.setSigned (h 6) s.now).set (h 7) 0

/-- GAP_BITS of a rendition: what arrives in the part of a frame period that no band's slot covers (R365). -/
def State.setGapBits (s : State) (ch r : Nat) : State :=
  s.set (R.RC_ST_COUNT ch r 12)
    (if s.subframe ch then s.cpbRise ch r ((s.period ch : Int) - ns (s.bandCount ch * s.tSlot ch)) / 65536 else 0)

/-- The fullness at which a rendition's model starts: INIT (R357), or after a takeover with a starter image what R620 gives, `k` bits of skip
units having been sent between the image's last unit and the first real release at time t. -/
def State.cpbInit (s : State) (ch r : Nat) (k : Nat) (t : Int) : Nat :=
  match (s.chan ch).image[r]? with
  | some (f, l) => f + s.cpbRise ch r (t - l) - k * 65536
  | none => s.getIn (R.RC_REND_CPB_INIT ch r) (s.snapNow ch) * 65536

/-- The models of a channel start (R357, R620). `k` gives the skip bits of a rendition, `t` the first release time. -/
def State.cpbStart (s : State) (ch : Nat) (k : Nat → Nat) (t : Int) : State :=
  (s.rendsOn ch).foldl (fun s r =>
    let f := s.cpbInit ch r (k r) t
    let size := s.cpbSize ch r * 65536
    let s := if (s.chan ch).image ≠ [] ∧ size < f then s.add (R.RC_ST_COUNT ch r 14) (f / 65536 - size / 65536) else s
    let f := if (s.chan ch).image ≠ [] then min size f else f
    let c : Nat → Int := fun i => s.get (R.RC_ST_COUNT ch r i)
    let s := s.setRend ch r { s.rend ch r with f := f, lastRel := none, cpb0 := (f / 65536 : Nat) + c 2 + c 3 + c 14 - c 13 }
    (s.set (R.RC_ST_COUNT ch r 0) (f / 65536)).setGapBits ch r) s

end Sys2Proof.Machine
end

