-- ==== Sys2Proof/Machine/Proofing.lean ====
section
/-! DEFINITION. Proofing and the scaler: slots of sub-frame channels, PRF and SCL tasks, the picture ring, scene cuts and conversions
(06_proofing.md). -/

namespace Sys2Proof.Machine

/-! ### Blocks (R253 to R256) -/

/-- A block that was not analysed (R282). -/
def blankBlock : SeedBlock := ⟨0, 0, 0xFFFF, 0xFFFF⟩

/-- Source lines of band k that hold picture. -/
def State.bandLen (s : State) (ch k : Nat) : Nat := min (s.srcBand ch) (s.srcHeight ch - k * s.srcBand ch)

/-- Width and height of the quarter-scale picture. -/
def State.quarterSize (s : State) (ch : Nat) : Nat × Nat := (ceilDiv (s.srcWidth ch) 4, ceilDiv (s.srcHeight ch) 4)

/-- The quarter-scale luma picture of the source picture in a buffer (R253). -/
def State.quarterOf (s : State) (ch tok : Nat) : List (BitVec 8) :=
  let (w, h) := s.quarterSize ch
  let (a, n) := s.sourceBuf ch tok
  padTo (w * h) (Config.quarterPicture (s.srcCfg ch) (s.dBytes a n))

/-- The whole quarter-scale picture, or the rows of it that band k of a sub-frame channel covers. -/
def State.quarterRows (s : State) (ch tok : Nat) (band : Option Nat) : Quarter :=
  let (w, h) := s.quarterSize ch
  match band with
  | none => { w := w, top := 0, bottom := h, data := s.quarterOf ch tok }
  | some k =>
    { w := w, top := k * s.srcBand ch / 4, bottom := ceilDiv (k * s.srcBand ch + s.bandLen ch k) 4, data := s.quarterOf ch tok }

/-- What proofing writes for n blocks from block row `lo` on: a block that was not analysed, or that an uncorrectable error touched, is blank
(R282); of a first picture, or after a history reset, there is nothing to search (R254). -/
def State.analyse (s : State) (ch : Nat) (q : Quarter) (ref : Option (List (Option (BitVec 8)))) (lo n : Nat) (done : List Bool)
    (bad : List Nat) : List SeedBlock :=
  (List.range n).map (fun i =>
    if done.getD i false ∧ !bad.contains i then q.block ref (s.quarterSize ch).2 (i % s.blocksWide ch) (lo + i / s.blocksWide ch) else blankBlock)

/-- Whether some block was not analysed. -/
def someUndone (l : List Bool) (n : Nat) : Bool := (List.range n).any (fun i => !l.getD i false)

/-- Complexity of a block (R255). -/
def blockCplx (b : SeedBlock) : Nat := min b.intra.toNat b.inter.toNat

/-- The 8-byte seed entry of a block (R253). -/
def blockEntry (b : SeedBlock) : Nat := b.mvx.toNat + b.mvy.toNat * 2 ^ 16 + b.intra.toNat * 2 ^ 32 + b.inter.toNat * 2 ^ 48

/-- Whether blocks make a scene-cut candidate (R256). -/
def candidate (inter intra thresh : Nat) : Bool := decide (inter * 16 > thresh * intra)

/-- Sums of INTRA_COST and INTER_COST. -/
def sumIntra (l : List SeedBlock) : Nat := l.foldl (fun a b => a + b.intra.toNat) 0
def sumInter (l : List SeedBlock) : Nat := l.foldl (fun a b => a + b.inter.toNat) 0
def sumCplx (l : List SeedBlock) : Nat := l.foldl (fun a b => a + blockCplx b) 0

/-! ### History (R265, R266) -/

/-- Rows of blocks of a channel's source. -/
def State.blocksHigh (s : State) (ch : Nat) : Nat := ceilDiv (s.srcHeight ch) 64

/-- Bytes of the quarter-scale picture, in whole units (R265). -/
def State.quarterUnits (s : State) (ch : Nat) : Nat := ceilDiv (ceilDiv (s.srcWidth ch) 4 * ceilDiv (s.srcHeight ch) 4) 4096

/-- SLOT_UNITS for the source size (R265). -/
def State.histSlotUnits (s : State) (ch : Nat) : Nat := s.quarterUnits ch + ceilDiv (8 * s.blocksWide ch * s.blocksHigh ch) 4096

/-- Address of the history slot of a snapshot: of LOOKAHEAD + 2, LOOKAHEAD being 0 for a sub-frame channel (R265, log 26). -/
def State.histSlot (s : State) (ch snap : Nat) : Nat :=
  s.get (R.PRF_CH_HIST_BASE_BASE ch) * 4096 + snap % ((if s.subframe ch then 0 else s.getIn (R.PRF_CH_CFG_LOOKAHEAD ch) snap) + 2) * s.histSlotUnits ch * 4096

/-- Address of the seed map of a snapshot. -/
def State.seedMap (s : State) (ch snap : Nat) : Nat := s.histSlot ch snap + s.quarterUnits ch * 4096

/-- Write seed entries from block `first` on, if the history is in use. -/
def State.writeSeeds (s : State) (ch snap first : Nat) (l : List SeedBlock) : State :=
  if s.flag (R.PRF_CH_HIST_ENABLE ch) then s.unitStore 0x000F (s.seedMap ch snap + 8 * first) (l.flatMap (fun b => leBytes 8 (blockEntry b))) else s

/-- Write the analysed rows of a quarter-scale picture, if the history is in use. -/
def State.writeQuarter (s : State) (ch snap : Nat) (q : Quarter) : State :=
  if s.flag (R.PRF_CH_HIST_ENABLE ch) then
    s.unitStore 0x000F (s.histSlot ch snap + q.top * q.w) ((q.data.drop (q.top * q.w)).take ((q.bottom - q.top) * q.w))
  else s

/-- Keep the complexities of a frame's blocks from block `first` on, and its cut bands. -/
def State.keepCplx (s : State) (ch n first : Nat) (l : List SeedBlock) (cut : Option Nat) : State :=
  match s.frameSt ch n with
  | none => s
  | some fr =>
    s.setFrame ch { fr with
      cplx := l.zipIdx.foldl (fun (t : Table Nat) b => tset (fun _ => 0) t (first + b.2) (blockCplx b.1)) fr.cplx, cuts := fr.cuts ++ cut.toList }

/-! ### The proofing slot of a sub-frame channel (R29, R31, R258 to R260, R274) -/

/-- Whether every line of band k of frame n is in frame memory (R31). -/
def State.bandIn (s : State) (ch n k : Nat) : Bool :=
  match s.frameSt ch n with
  | none => false
  | some fr =>
    fr.token.isSome && (s.flag (R.CTX_DEC_SRC_ENABLE ch) ||
      (s.videoFlow ch).elim false (fun f => s.linesDone f fr (k * s.srcBand ch) (s.bandLen ch k)))

/-- PROOFING_SLOT_START: the slot of the next band begins; the band is a repeat slice if a line of it is missing (R29, R31). -/
def execProofingSlotStart (ch : Chan) (now : Nat) (s : State) : Out :=
  whenLive s (fun s =>
    let s := s.advance now
    let c := s.chan ch
    if c.running ∧ s.gridOn ch ∧ s.subframe ch ∧ !c.slot.on ∧ s.reached (s.slotStart ch c.slot.n c.slot.k) then
      let rep := !(s.flag R.PRF_CTRL_ENABLE) || !(s.bandIn ch c.slot.n c.slot.k)
      s.setChan ch { c with slot := { c.slot with on := true, rep := rep, ecc := [], sclBad := [] } }
    else s)

/-- The tile column of rendition 0 that holds the left edge of block column bx (R258). -/
def State.blockColumn (s : State) (ch snap bx : Nat) : Nat :=
  let x := bx * 64 * (s.rendSize ch 0 snap).1 / s.srcWidth ch / s.ctuSize ch 0
  ((List.range (s.columns ch 0)).find? (fun c => decide (x < s.colStart ch 0 snap (c + 1)))).getD 0

/-- The slice results of R258 and R260. -/
def State.writeSlice (s : State) (ch k snap : Nat) (l : List SeedBlock) (rep cut : Bool) : State :=
  let s := s.set (R.PRF_SLICE ch) (k % 65536 + (if rep then 65536 else 0) + (if cut then 131072 else 0))
  let s := (s.set (R.PRF_SLICE_CPLX_CPLX ch) (sumCplx l)).set (R.PRF_SLICE_SNAP_SNAP ch) snap
  let w := s.blocksWide ch
  (List.range 16).foldl (fun s c =>
    s.set (R.PRF_COL_CPLX_CPLX ch c)
      (l.zipIdx.foldl (fun a b => if s.blockColumn ch snap (b.2 % w) = c then a + (blockCplx b.1) else a) 0)) s

/-- Whether a rendition's input for a band is missing: with the slice itself, or where its scaler has not built it (R274, R282, R308). -/
def State.inputMissing (s : State) (ch r : Nat) (sl : SlotRec) (late : List Nat) : Bool :=
  sl.rep || (s.flag (R.CTX_REND_CODEC_FROM_SCALER ch r) &&
    (late.contains r || sl.sclBad.contains r || !(s.flag R.SCL_CTRL_ENABLE) || !(s.flag (R.SCL_REND_BUF_ENABLE (8 * ch + r)))))

/-- The engine slot of a band begins: its budget unit opens in every enabled rendition, and with band 0 its picture is planned (R300,
R360). -/
def State.openBand (s : State) (ch : Nat) (sl : SlotRec) (late : List Nat) (cut : Bool) : State :=
  (s.rendsOn ch).foldl (fun s r =>
    let s := if sl.k = 0 then s.planPic ch r sl.n false (s.lowDelayRefs ch r sl.n) true else s
    let p := (s.rend ch r).plan.find? (fun p => decide (p.n = sl.n))
    let snap := s.snapOf ch sl.n
    let x := s.rend ch r
    let cyc := decide (s.getIn (R.CTX_REFRESH_PERIOD ch) snap ≠ 0) && decide (x.pos = 0)
    let vui := if sl.k = 0 ∧ (p.elim false (·.irap) || cyc) then snap else x.vui
    let s := s.setRend ch r { x with vui := vui }
    s.openUnit { ch := ch, rend := r, idx := sl.n, src := sl.n, band := sl.k, snap := snap, irap := p.elim false (·.irap),
                 idr := p.elim false (·.idr), cut := cut, rep := s.inputMissing ch r sl late, vui := vui,
                 recovery := if cyc ∧ sl.k = 0 then some (s.getIn (R.CTX_REFRESH_PERIOD ch) snap - 1) else none }) s

/-- A rendition's configuration in a snapshot, as one word. -/
def State.sclCfg (s : State) (ch r snap : Nat) : Nat := (s.regIn (K.SCL_REND_CFG (8 * ch + r)) snap).toNat

/-- The buffer of a rendition that takes the picture of a snapshot (R270). -/
def State.rendBuf (s : State) (ch r snap : Nat) : Nat × Nat :=
  let n := s.get (R.SCL_REND_BUF_COUNT (8 * ch + r))
  (snap % n, s.get (R.SCL_REND_BASE_BASE (8 * ch + r)) + snap % n * s.get (R.SCL_REND_BUF_SIZE (8 * ch + r)) * 4096)

/-- The picture that a channel's search reads: none before the first analysed picture (R254). -/
def State.searched (s : State) (ch : Nat) : Option (List (Option (BitVec 8))) := if (s.chan ch).hist then some (s.chan ch).quarter else none

/-- The quarter-scale picture that the next one is searched against: its analysed rows, and elsewhere the last picture of which the region was
analysed (R260). -/
def Quarter.over (q : Quarter) (old : List (Option (BitVec 8))) : List (Option (BitVec 8)) :=
  (List.range q.data.length).map (fun i => if q.top * q.w ≤ i ∧ i < q.bottom * q.w then q.data[i]? else old.getD i none)

/-- The scalers of a sub-frame channel build a rendition of a band: its rows, from the lines of the slice alone (R274). -/
def State.sclBand (s : State) (ch k snap tok r : Nat) : State :=
  let oc := s.sclCfg ch r snap
  let p := s.source ch tok
  let lo := k * s.srcBand ch
  let hi := lo + s.bandLen ch k
  let row := fun (n y : Nat) => y * n / s.srcHeight ch
  let bytes := fun (first n : Nat) => (List.range n).flatMap (fun i => leBytes (cfgBytes oc) (s.outSample oc (ditherSeed snap r) p lo hi (first + i)))
  let base := (s.rendBuf ch r snap).2
  let w := cfgWidth oc
  let luma := row (cfgHeight oc) lo * w
  let chroma := w * cfgHeight oc + row (cfgChromaRows oc) lo * (w / 2) * 2
  let lines := bytes luma (row (cfgHeight oc) hi * w - luma)
  let colour := bytes chroma (w * cfgHeight oc + row (cfgChromaRows oc) hi * (w / 2) * 2 - chroma)
  (s.unitStore 0x0010 (base + luma * cfgBytes oc) lines).unitStore 0x0010 (base + chroma * cfgBytes oc) colour

/-- Every enabled rendition of a band that the scalers completed is built (R274, R282). -/
def State.sclBands (s : State) (ch : Nat) (sl : SlotRec) (tok : Nat) (late : List Nat) : State :=
  ((List.range 8).filter (fun r => s.flag (R.SCL_REND_BUF_ENABLE (8 * ch + r)) && s.flag R.SCL_CTRL_ENABLE && !late.contains r &&
    !sl.sclBad.contains r)).foldl (fun s r => s.sclBand ch sl.k (s.snapOf ch sl.n) tok r) s

/-- The proofing slot of a band ends (R258, R260, R274, R282). `done` says which of its blocks the pipeline has analysed. -/
def State.slotEnd (s : State) (ch : Nat) (done : List Bool) (late : List Nat) : State :=
  let c := s.chan ch
  let sl := c.slot
  let snap := s.snapOf ch sl.n
  let lo := sl.k * s.srcBand ch / 64
  let first := lo * s.blocksWide ch
  let n := (ceilDiv (sl.k * s.srcBand ch + s.bandLen ch sl.k) 64 - lo) * s.blocksWide ch
  let tok := if sl.rep then none else (s.frameSt ch sl.n).bind (·.token)
  let q := s.quarterRows ch (tok.getD 0) (some sl.k)
  let l := if sl.rep then [] else s.analyse ch q (s.searched ch) lo n done sl.ecc
  let undone := !sl.rep && someUndone done n
  let cut := !sl.rep && !undone && decide (sl.ecc = []) && decide (s.getIn (R.PRF_CH_CFG_SC_EN ch) snap = 1) &&
    candidate (sumInter l) (sumIntra l) (s.getIn (R.PRF_CH_CFG_SC_THRESH ch) snap)
  let s := s.writeSlice ch sl.k snap l sl.rep cut
  let s := match tok with
    | none => s
    | some t => (((s.writeSeeds ch snap first l).writeQuarter ch snap q).sclBands ch sl t late).keepCplx ch sl.n first l (if cut then some sl.k else none)
  let s := if undone then s.report 130 (suspect kChannel ch) else s
  let s := if late ≠ [] then s.report 132 (suspect kChannel ch) else s
  let s := s.postCh ch 4
  let s := if cut then s.postCh ch 9 else s
  let s := s.openBand ch sl late cut
  let last := decide (s.bandCount ch ≤ sl.k + 1)
  let seen := sl.seen || !sl.rep
  let c := s.chan ch
  let new := if sl.k = 0 then c.quarter else c.quarterNew
  let new := if tok.isSome then q.over new else new
  s.setChan ch { c with slot := if last then { n := sl.n + 1 } else { n := sl.n, k := sl.k + 1, seen := seen }, hist := c.hist || (last && seen),
                        quarter := if last then new else c.quarter, quarterNew := if last then [] else new }

/-- PROOFING_SLOT_END (R258). -/
def execProofingSlotEnd (ch : Chan) (blocks : List Bool) (late : List Nat) (now : Nat) (s : State) : Out :=
  whenLive s (fun s =>
    let s := s.advance now
    let c := s.chan ch
    if c.running ∧ s.gridOn ch ∧ c.slot.on ∧ s.reached (s.slotStart ch c.slot.n c.slot.k + ns (s.tSlot ch)) then s.slotEnd ch blocks late else s)

/-! ### PRF tasks (R257, R261 to R264) -/

/-- A word of a picture-ring record. -/
def State.ring (s : State) (ch snap i : Nat) : Nat := s.get (R.PRF_PIC_RING_WORD ch (snap % 64) i)

/-- Write a word of a picture-ring record. -/
def State.setRing (s : State) (ch snap i v : Nat) : State := s.set (R.PRF_PIC_RING_WORD ch (snap % 64) i) v

/-- Write the record of a snapshot: FLAGS, CPLX, INTRA, INTER and the seed map's address. -/
def State.ringRecord (s : State) (ch snap flags cplx intra inter : Nat) : State :=
  ((((((s.setRing ch snap 0 snap).setRing ch snap 1 flags).setRing ch snap 2 cplx).setRing ch snap 3 intra).setRing ch snap 4 inter).setRing
    ch snap 5 0).setRing ch snap 6 (s.seedMap ch snap)

/-- Whether a candidate may be declared a flash: LOOKAHEAD of 1 or more and FLASH_EN at 1 (R257). -/
def State.mayFlash (s : State) (ch snap : Nat) : Bool :=
  decide (1 ≤ s.getIn (R.PRF_CH_CFG_LOOKAHEAD ch) snap) && decide (s.getIn (R.PRF_CH_CFG_FLASH_EN ch) snap = 1)

/-- The candidate before a picture is decided, where it may be a flash: a flash if this picture, searched against the one before it, is not a
candidate, else a scene cut (R257). -/
def State.decideFlash (s : State) (ch snap : Nat) (stillCut : Bool) : State :=
  let f := s.ring ch (snap - 1) 1
  if s.ring ch (snap - 1) 0 = snap - 1 ∧ bitAt f 1 ∧ !bitAt f 2 ∧ !bitAt f 3 ∧ !bitAt f 4 ∧ s.mayFlash ch (snap - 1) then
    s.setRing ch (snap - 1) 1 (f + (if !stillCut then 8 else if (s.chan ch).prfCut then 4 else 0))
  else s

/-- The record of frame n − LOOKAHEAD becomes final (R263). -/
def State.finalise (s : State) (ch snap la : Nat) : State :=
  let m := snap - la
  if la ≤ snap ∧ s.ring ch m 0 = m ∧ m ≠ 0 then
    let sum := (List.range (la + 1)).foldl (fun a i => a + s.ring ch (m + i) 2) 0
    let s := (s.setRing ch m 5 sum).setRing ch m 1 (s.ring ch m 1 ||| 16)
    if bitAt (s.ring ch m 1) 2 then (s.postCh ch 4).postCh ch 9 else s.postCh ch 4
  else s.postCh ch 4

/-- No token holds the frame of a PRF task: the record of a repeat (R262). -/
def State.prfRepeat (s : State) (ch snap : Nat) : State :=
  ((s.ringRecord ch snap 1 0 0 0).decideFlash ch snap false).finalise ch snap (s.getIn (R.PRF_CH_CFG_LOOKAHEAD ch) snap)

/-- The picture in a buffer is analysed (R254 to R257, R263). `done` says which of its blocks the pipeline has analysed. The search of R257 against the
picture before the previous one makes the same costs. -/
def State.prfRecord (s : State) (ch snap tok flags : Nat) (done : List Bool) : State :=
  let c := s.chan ch
  let n := s.frameOfSnap ch snap
  let total := s.blocksWide ch * s.blocksHigh ch
  let q := s.quarterRows ch tok none
  let l := s.analyse ch q (if bitAt flags 0 then none else s.searched ch) 0 total done c.slot.ecc
  let back := s.analyse ch q (some c.quarter2) 0 total done c.slot.ecc
  let thresh := s.getIn (R.PRF_CH_CFG_SC_THRESH ch) snap
  let on := decide (s.getIn (R.PRF_CH_CFG_SC_EN ch) snap = 1) && !bitAt flags 1
  let cand := candidate (sumInter l) (sumIntra l) thresh
  let fl := (if cand then 2 else 0) + (if cand ∧ on ∧ !s.mayFlash ch snap then 4 else 0)
  let s := s.ringRecord ch snap fl (sumCplx l) (sumIntra l) (sumInter l)
  let s := ((s.writeSeeds ch snap 0 l).writeQuarter ch snap q).keepCplx ch n 0 l none
  let s := s.decideFlash ch snap (candidate (sumInter back) (sumIntra l) thresh)
  let s := s.setChan ch { s.chan ch with hist := true, prfCut := on, slot := { (s.chan ch).slot with ecc := [] },
                                         quarter := q.data.map some, quarter2 := c.quarter }
  s.finalise ch snap (s.getIn (R.PRF_CH_CFG_LOOKAHEAD ch) snap)

/-- PRF_FLAGS of a PRF payload (R261). -/
def prfFlags (p : List Nat) : Nat := p.getD 1 0 % 2 ^ 32

/-! ### The scaler (R267 to R280) -/

/-- SCL_OUT of an SCL payload (R267). -/
def sclOut (p : List Nat) : Nat := p.getD 0 0 / 256 % 256

/-- Whether a rendition's buffers hold the picture of a snapshot (R308). -/
def State.rendHolds (s : State) (ch r snap : Nat) : Bool :=
  decide (tget (fun _ => 0) s.sclHeld ((8 * ch + r) * 64 + (s.rendBuf ch r snap).1) = snap + 1)

/-- ISSUE finds fault with an SCL descriptor (R268). -/
def State.sclBad (s : State) (ch : Nat) (p : List Nat) : Bool :=
  let i := sclIn p
  let o := sclOut p
  let snap := sclFrame p
  let oc := s.sclCfg ch o snap
  let ic := if i = 255 then s.srcCfg ch else s.sclCfg ch i snap
  decide (i = o) || decide (7 < o) || decide (7 < i ∧ i ≠ 255) || !(s.flag (R.SCL_REND_BUF_ENABLE (8 * ch + o))) ||
  (decide (i ≠ 255) && !(s.flag (R.SCL_REND_BUF_ENABLE (8 * ch + i)))) || (bitAt ic 27 && !bitAt oc 27) || (bitAt ic 26 && !bitAt oc 26) ||
  decide (cfgWidth oc * 8 < cfgWidth ic) || decide (cfgWidth ic * 2 < cfgWidth oc) || decide (cfgHeight oc * 8 < cfgHeight ic) ||
  decide (cfgHeight ic * 2 < cfgHeight oc)

/-- Whether an SCL task ends UNIT_ERROR at once: the scaler is off, or it wants the custom set and none is valid (R273, log 25). -/
def State.sclFails (s : State) (ch : Nat) (p : List Nat) : Bool :=
  !(s.flag R.SCL_CTRL_ENABLE) || (decide (s.sclCfg ch (sclOut p) (sclFrame p) / 2 ^ 30 % 4 = 3) && !(s.flag R.SCL_COEF_CTRL_VALID))

/-- An SCL task ends: the rendition's picture is in its buffer (R269, R270). Where the input picture does not exist nothing is built
(log 25). -/
def State.sclBuild (s : State) (ch : Nat) (p : List Nat) : State :=
  let i := sclIn p
  let o := sclOut p
  let snap := sclFrame p
  let oc := s.sclCfg ch o snap
  let src := if i = 255 then ((s.frameSt ch (s.frameOfSnap ch snap)).bind (·.token)).map (fun t => s.source ch t)
    else some (s.planar (s.sclCfg ch i snap) (s.rendBuf ch i snap).2)
  match src with
  | none => s
  | some p =>
    let n := cfgSize oc / cfgBytes oc
    let bytes := (List.range n).flatMap (fun k => leBytes (cfgBytes oc) (s.outSample oc (ditherSeed snap o) p 0 (cfgHeight p.cfg) k))
    let s := s.unitStore 0x0010 (s.rendBuf ch o snap).2 bytes
    { s with sclHeld := tset (fun _ => 0) s.sclHeld ((8 * ch + o) * 64 + (s.rendBuf ch o snap).1) (snap + 1) }

/-- SCL_COEF_LOAD: the custom set is taken if every phase sums to 256 (R273). -/
def State.coefLoad (s : State) : State :=
  let l := (List.range 1024).map (fun i => s.get (R.SCL_COEF_COEF i))
  let sum := fun (set phase taps : Nat) => (List.range taps).foldl (fun (a : Int) t => a + signedOf (l.getD (512 * set + 8 * phase + t) 0) 10) 0
  if (List.range 64).all (fun ph => decide (sum 0 ph 8 = 256) && decide (sum 1 ph 4 = 256)) then
    { s.setFlag R.SCL_COEF_CTRL_VALID true with coefs := l }
  else s.setFlag R.SCL_COEF_CTRL_VALID false

/-- SCL_COEF_LOAD. -/
def execSclCoefLoad (s : State) : Out := whenWr s State.coefLoad

/-- PROOFING_BUF_ECC: the blocks that an uncorrectable error in a pipeline's memory touches (R282). -/
def execProofingBufEcc (ch : Chan) (touched : List Nat) (now : Nat) (s : State) : Out :=
  whenLive s (fun s =>
    let s := s.advance now
    let c := s.chan ch
    (s.setChan ch { c with slot := { c.slot with ecc := c.slot.ecc ++ touched } }).report 131 (suspect kBlock 0x0F))

/-- SCALER_BUF_ECC: an uncorrectable error in a scaler pipeline's line memory ends its SCL task, or spoils the band of a rendition of the
sub-frame channel that owns it (R282). -/
def execScalerBufEcc (p : Fin 8) (r : Rend) (now : Nat) (s : State) : Out :=
  whenLive s (fun s =>
    let s := s.advance now
    let b := tget (fun _ => 0) s.busy (2000 + p)
    let o := tget (fun _ => 0) s.sclOwn p
    let s := if b ≠ 0 then
        let cost := s.costNow (b - 1)
        (s.freeUnit (b - 1)).taskOver (b - 1) 4 cost
      else if o ≠ 0 then
        let c := s.chan (o - 1)
        s.setChan (o - 1) { c with slot := { c.slot with sclBad := r :: c.slot.sclBad } }
      else s
    s.report 133 (suspect kBlock 0x10))

end Sys2Proof.Machine
end

