-- ==== Sys2Proof/Machine/Motion.lean ====
section
/-! DEFINITION. CTUs on an engine: the motion vectors that its search may find, the clean area of an intra-refresh cycle, reference reads and
the writes of the reconstruction (07_codec_engines.md R287, R311 to R315, R329). -/

namespace Sys2Proof.Machine

/-! ### Candidates (R311) -/

/-- A CTU of a unit: the column of its grid and its row. -/
structure CtuPlace where
  x : Nat
  y : Nat

/-- The proofing seed of a region of a CTU, in quarter samples: that of the 64 by 64 region of the source that holds the corner of the CTU's q-th
64 by 64 quarter; only a CTU of 128 has more than one, and a frame without a seed map has none (R253, R311, log 128). -/
def State.seedVector (s : State) (u : UnitSt) (p : CtuPlace) (q : Nat) : Option (Int × Int) :=
  let sz := s.ctuSize u.ch u.rend
  let (w, h) := s.rendSize u.ch u.rend u.snap
  if !s.flag (R.PRF_CH_HIST_ENABLE u.ch) ∨ (q ≠ 0 ∧ sz < 128) ∨ w = 0 ∨ h = 0 then none
  else
    let bx := (p.x * sz + 64 * (q % 2)) * s.srcWidth u.ch / w / 64
    let b := (p.y * sz + 64 * (q / 2)) * s.srcHeight u.ch / h / 64
    let e := s.dRd (s.seedMap u.ch u.snap + 8 * (b * s.blocksWide u.ch + bx)) 8
    some (4 * signedOf e 16, 4 * signedOf (e / 2 ^ 16) 16)

/-- The vector of a candidate. -/
def State.startVector (s : State) (u : UnitSt) (p : CtuPlace) : MotionStart → Option (Int × Int)
  | .seed q => s.seedVector u p q.val
  | .zero => some (0, 0)
  | .merge x y => some (x, y)

/-- A value held within bounds. -/
def bounded (lo hi x : Int) : Int := max lo (min x hi)

/-! ### The clean area (R325, R329) -/

/-- CTU columns of a refresh band. -/
def State.refreshWidth (s : State) (u : UnitSt) : Nat :=
  ceilDiv (s.ctusWide u.ch u.rend u.snap) (s.getIn (R.CTX_REFRESH_PERIOD u.ch) u.snap)

/-- Whether a CTU lies left of the refresh band of a cycle in progress. -/
def State.inClean (s : State) (u : UnitSt) (p : CtuPlace) : Bool :=
  decide (s.getIn (R.CTX_REFRESH_PERIOD u.ch) u.snap ≠ 0) && decide (p.x < (s.rend u.ch u.rend).pos * s.refreshWidth u)

/-- Luma samples of the clean area of a reference picture, counted from its left edge, with the 8 at its right edge that no block may use: the part left
of the refresh band that the reference, of the same cycle, has itself refreshed (R329, log 129). -/
def State.cleanEdge (s : State) (u : UnitSt) (ref : Nat) : Int :=
  let x := s.rend u.ch u.rend
  match x.slots.find? (fun q => decide (q.2.n = ref) && (decide (q.2.mark ≠ 0) || q.2.cur)) with
  | some q => if q.2.cycle = x.cycle then ((min x.pos (q.2.pos + 1) * s.refreshWidth u * s.ctuSize u.ch u.rend : Nat) : Int) - 8 else -8
  | none => -8

/-! ### Vectors (R312, R313, R329) -/

/-- The vector that a prediction block is coded with, if it may have it: a search finds no vector further than 32 samples across and 16 down from its
candidate; in the clean area the search is held within the clean area of the reference, and a merge or temporal candidate that would leave it is not
used; a temporal candidate needs TMVP (R311 to R313, R329). -/
def State.vectorOf (s : State) (u : UnitSt) (p : CtuPlace) (ref : Nat) (m : Motion) : Option (Int × Int) :=
  let right : Int := ((p.x * s.ctuSize u.ch u.rend + m.x + m.w : Nat) : Int)
  let most := 4 * (s.cleanEdge u ref - right)
  let stays := fun (x : Int) => !s.inClean u p || decide (x ≤ most)
  match m.found with
  | .searched c dx dy =>
    (s.startVector u p c).bind (fun v =>
      let x := v.1 + bounded (-128) 128 dx
      let x := if s.inClean u p then min x most else x
      if v.1 - 128 ≤ x then some (x, v.2 + bounded (-64) 64 dy) else none)
  | .merged x y => if stays x then some (x, y) else none
  | .temporal x y => if stays x ∧ s.flag (R.CTX_REND_CODEC_TMVP u.ch u.rend) then some (x, y) else none

/-- References of a unit's picture, by frame. -/
def State.unitRefs (s : State) (u : UnitSt) : List Nat :=
  ((s.rend u.ch u.rend).plan.find? (fun q => decide (q.n = u.src))).elim [] (·.refs)

/-- The vectors of a CTU: none in an intra picture or in the refresh band (R325). -/
def State.ctuVectors (s : State) (u : UnitSt) (p : CtuPlace) (l : List Motion) : List MotionVec :=
  if u.irap ∨ s.inRefresh u p.x then []
  else
    let sz := s.ctuSize u.ch u.rend
    l.filterMap (fun m =>
      if sz < m.x + m.w ∨ sz < m.y + m.h then none
      else (s.unitRefs u)[m.ref]?.bind (fun ref => (s.vectorOf u p ref m).map (fun v =>
        { x := p.x * sz + m.x, y := p.y * sz + m.y, w := m.w, h := m.h, ref := ref, mvx := v.1, mvy := v.2 })))

/-! ### Reconstruction (R287, R315) -/

/-- An engine writes what it reconstructs into the slot of its picture; nothing goes beyond the slot. -/
def State.writeRecon (s : State) (u : UnitSt) (l : List (Nat × List (BitVec 8))) : State :=
  match ((s.rend u.ch u.rend).plan.find? (fun q => decide (q.n = u.src))).bind (·.slot) with
  | none => s
  | some i =>
    let size := s.get (R.CTX_REND_REF_SLOT_UNITS u.ch u.rend) * 4096
    let base := s.get (R.CTX_REND_REF_BASE_BASE u.ch u.rend) * 4096 + i * size
    l.foldl (fun s x => if x.1 + x.2.length ≤ size then s.unitStore 0x0011 (base + x.1) x.2 else s) s

/-! ### Commands -/

/-- CTU_START (R375). -/
def execCtuStart (e : Eng) (now : Nat) (s : State) : Out := whenLive s (fun s => (s.advance now).ctuStart e)

/-- A committed CTU, but in crust mode or as a repeat, adds its vectors to its column. -/
def State.keepVectors (s : State) (u : UnitSt) (c : Nat) (k : ColSt) (v : List MotionVec) : State :=
  { s with units := s.units.map (fun (x : UnitSt) =>
    if x.same u then match x.cols[c]? with
      | some y => if y.done = k.done + 1 ∧ !y.crust ∧ !y.rep then x.setCol c { y with motion := y.motion ++ v } else x
      | none => x
    else x) }

/-- The engine's work on a CTU that it completes: its reference reads, what it writes, and its bits (R287, R368). -/
def State.ctuWork (s : State) (e bits : Nat) (w : CtuWork) : State :=
  match s.engineWork e with
  | none => s
  | some (u, c, k) =>
    let p := s.ctuAt u.ch u.rend u.snap u.band c k.done
    let v := s.ctuVectors u ⟨p.1, p.2⟩ w.motion
    let s := s.trayReads e w.reads
    let s := if k.inflight ∧ !u.staged ∧ !k.rep then s.writeRecon u w.recon else s
    (s.ctuComplete e bits).keepVectors u c k v

/-- CTU_COMPLETE (R368). -/
def execCtuComplete (e : Eng) (bits : Nat) (work : CtuWork) (now : Nat) (s : State) : Out :=
  whenLive s (fun s => (s.advance now).ctuWork e bits work)

end Sys2Proof.Machine
end

