-- ==== Sys2Proof/Machine/Encoding.lean ====
section
/-! DEFINITION. Encoding: ENC tasks, the coding deadline, Tasting, splice targets, intra refresh, and the bitstream proof
(07_codec_engines.md R300 to R347). -/

namespace Sys2Proof.Machine

/-! ### Engines -/

/-- The cause of an engine's UNIT_ERROR (R345, R347). -/
def State.engError (s : State) (e code : Nat) : State := (s.set (R.ENG_LAST_ERR_CODE e) code).setFlag (R.ENG_LAST_ERR_VALID e) true

/-- An engine loads a context, if it is not the one it holds (R322): mode (0 encode, 1 decode), channel, rendition, column, snapshot. -/
def State.loadCtx (s : State) (e mode ch r col snap : Nat) : State :=
  let x := 1 + mode * 65536 + ch * 256 + r * 32 + col
  let s := if tget (fun _ => 0) s.engCtx e = x then s else { s with engCtx := tset (fun _ => 0) s.engCtx e x }.inc (R.ENG_CNT_COUNT e 4)
  let s := s.setFlag (R.ENG_STATUS_CTX_VALID e) true
  let s := (s.set (R.ENG_CUR_CHANNEL e) ch).set (R.ENG_CUR_RENDITION e) r
  (s.set (R.ENG_CUR_COLUMN e) col).set (R.ENG_CUR_SNAP e) snap

/-- A task entry starts on an engine: state 1 ENCODE or 2 DECODE. -/
def State.onEngine (s : State) (e t st : Nat) : State :=
  let s := { s with busy := tset (fun _ => 0) s.busy e (t + 1) }
  (s.set (R.ENG_STATUS_STATE e) st).trayBusy e

/-- A task starts and ends in one step, coding nothing. -/
def State.endAtOnce (s : State) (t status : Nat) : State := s.taskOver t status 0

/-! ### Splice targets (R331 to R333) -/

/-- Show the pending targets (R331). -/
def State.showSplices (s : State) (ch : Nat) : State :=
  let l := (s.chan ch).splices
  (s.set (R.SPL_SNAP_SNAP ch) (l.foldl (fun m p => if m = 0 then p.1 else min m p.1) 0)).set (R.SPL_STATE_PENDING ch) l.length

/-- A new target: at most four are pending (R331, R464). -/
def State.addSplice (s : State) (ch snap id : Nat) : State :=
  let c := s.chan ch
  if 4 ≤ c.splices.length then s.inc (R.ENC_CNT_COUNT ch 6)
  else (s.setChan ch { c with splices := c.splices ++ [(snap, id)] }).showSplices ch

/-- The target of a snapshot is removed. -/
def State.dropSplice (s : State) (ch snap : Nat) : State :=
  let c := s.chan ch
  (s.setChan ch { c with splices := c.splices.filter (fun p => decide (p.1 ≠ snap)) }).showSplices ch

/-- Targets up to a snapshot whose FORCE_IRAP is 0 are missed (R333). -/
def State.missSplices (s : State) (ch upTo : Nat) : State :=
  ((s.chan ch).splices.filter (fun p => decide (p.1 ≤ upTo) && decide (s.getIn (R.CTX_SPLICE_FORCE_IRAP ch) p.1 = 0))).foldl (fun s p =>
    (((s.dropSplice ch p.1).setFlag (R.SPL_STATE_LAST_MISSED ch) true).inc (R.ENC_CNT_COUNT ch 5)).postCh ch 12) s

/-- A picture has been coded: IRAP_CODED, and the splice of its snapshot is done (R333). -/
def State.pictureCoded (s : State) (ch snap : Nat) (irap : Bool) : State :=
  let s := if irap then s.inc (R.ENC_CNT_COUNT ch 7) else s
  if s.getIn (R.CTX_SPLICE_FORCE_IRAP ch) snap = 1 ∧ s.get (R.SPL_SNAP_SNAP ch) = snap then
    ((s.dropSplice ch snap).set (R.SPL_DONE_SNAP_SNAP ch) snap).setFlag (R.SPL_STATE_LAST_MISSED ch) false
  else s

/-! ### ENC tasks (R300 to R308, R347, R356) -/

/-- Fields of an ENC payload (04_dispatcher.md R152). -/
def encRend (p : List Nat) : Nat := p.getD 0 0 % 2 ^ 32
def encColumn (p : List Nat) : Nat := p.getD 0 0 / 2 ^ 32
def encSlice (p : List Nat) : Nat := p.getD 1 0 % 2 ^ 32
def encTarget (p : List Nat) : Nat := p.getD 2 0

/-- The cause of an ENC task that codes nothing whatever the time (R347). -/
def State.encFault (s : State) (ch : Nat) (p : List Nat) : Option Nat :=
  let r := encRend p
  if 7 < r ∨ !s.flag (R.CTX_REND_CODEC_ENABLE ch r) then some 4
  else if s.columns ch r ≤ encColumn p then some 3
  else if (if s.subframe ch then decide (s.rendBands ch r (s.snapNow ch) ≤ encSlice p) else decide (encSlice p ≠ 0)) then some 2
  else none

/-- The decode-order index of the next ENC task of a rendition's column (R301). -/
def State.encIndex (s : State) (ch : Nat) (p : List Nat) : Nat := tget (fun _ => 0) (s.rend ch (encRend p)).encNo (encColumn p)

/-- Plan as far as the next ENC task of a column needs; targets within the plan without FORCE_IRAP are missed (R302, R333). -/
def State.encPlan (s : State) (ch : Nat) (p : List Nat) : State :=
  let r := encRend p
  let s := s.planTo 64 ch r (s.encIndex ch p)
  if s.subframe ch then s else s.missSplices ch (s.snapOf ch ((s.rend ch r).planN - 1))

/-- Whether a frame-mode ENC task is eligible: every reference picture of its picture is coded (R304). -/
def State.encEligible (s : State) (ch : Nat) (p : List Nat) : Bool :=
  (s.encFault ch p).isSome || s.subframe ch ||
    (let s := s.encPlan ch p
     ((s.rend ch (encRend p)).pic (s.encIndex ch p)).elim true (fun q => s.refsReady ch (encRend p) q))

/-- The unit a frame-mode ENC task works on, opened by the picture's first task (R361). -/
def State.frameUnit (s : State) (ch r j : Nat) : State :=
  match s.units.find? (fun u => decide (u.ch = ch) && decide (u.rend = r) && decide (u.idx = j)) with
  | some _ => s
  | none =>
    match (s.rend ch r).pic j with
    | none => s
    | some q =>
      let snap := s.snapOf ch q.n
      let x := s.rend ch r
      let per := s.getIn (R.CTX_REFRESH_PERIOD ch) snap
      let cyc := decide (per ≠ 0) && decide (x.pos = 0)
      let vui := if q.irap || cyc then snap else x.vui
      let s := s.setRend ch r { x with vui := vui }
      s.openUnit { ch := ch, rend := r, idx := j, src := q.n, band := 0, snap := snap, irap := q.irap, idr := q.idr, b := q.b,
                   cut := s.ringCut ch q.n, vui := vui, recovery := if cyc then some (per - 1) else none }

/-- The budget unit of an ENC task: in sub-frame mode that of its band in the most recent frame whose proofing slot has ended (R300), in
frame mode that of its picture. -/
def State.encUnit (s : State) (ch : Nat) (p : List Nat) (j : Nat) : Option UnitSt :=
  let l := s.units.filter (fun u => decide (u.ch = ch) && decide (u.rend = encRend p) &&
    (if s.subframe ch then decide (u.band = encSlice p) else decide (u.idx = j)))
  l.getLast?

/-- Whether a frame-mode rendition's input for a frame is missing (R308). -/
def State.frameMissing (s : State) (ch r n snap : Nat) : Bool :=
  if s.flag (R.CTX_REND_CODEC_FROM_SCALER ch r) then !(s.rendHolds ch r snap) else ((s.frameSt ch n).bind (·.token)).isNone

/-- The picture of a unit takes its reference slot at its first coding task; without one it becomes a repeat picture, and the plan uses
its reference in its place (R317, R320, R321). -/
def State.takeSlot (s : State) (u : UnitSt) (e : Nat) : State :=
  match (s.rend u.ch u.rend).plan.find? (fun q => decide (q.n = u.src)) with
  | none => s
  | some q =>
    if q.slot.isSome ∨ q.rep then s
    else
      let (s, ok) := s.pictureStart u.ch u.rend q e
      if ok then s
      else
        let s := s.repeatPic u.ch u.rend q
        { s with units := s.units.map (fun (v : UnitSt) => if v.ch = u.ch ∧ v.rend = u.rend ∧ v.src = u.src then { v with rep := true } else v) }

/-- The picture of a unit is coded as a repeat picture, its input being missing (R308, R321). -/
def State.repeatOf (s : State) (u : UnitSt) : State :=
  match (s.rend u.ch u.rend).plan.find? (fun q => decide (q.n = u.src)) with
  | none => s
  | some q => if q.slot.isSome ∨ q.rep then s else s.repeatPic u.ch u.rend q

/-- An ENC task codes its column: its target and starting quantiser (R379), or repeat CTUs where its input is missing (R308). -/
def State.encBegin (s : State) (u : UnitSt) (c e t : Nat) (p : List Nat) (missing : Bool) : State :=
  let s := if missing then s.repeatOf u else if u.rep then s else s.takeSlot u e
  match s.units.find? (fun v => v.same u) with
  | none => s
  | some u =>
    match u.cols[c]? with
    | none => s
    | some k =>
      let q := s.startQ u c
      let s := s.putUnit (u.setCol c { k with target := encTarget p, engine := some e, task := some t, rep := u.rep || missing, q := q, qFirst := q })
      (s.onEngine e t 1).loadCtx e 0 u.ch u.rend c u.snap

/-- Whether an engine is isolated for a channel: it is, or was while the channel ran (R324, R346). -/
def State.engLost (s : State) (ch e : Nat) : Bool := decide (s.get (R.ENG_STATUS_STATE e) = 5) || (s.chan ch).lost.contains e

/-- An ENC task is dispatched to engine e (R300, R301, R324, R347, R356). -/
def State.encStart (s : State) (e t : Nat) : State :=
  let d := (s.task t).d
  let p := d.payload
  match (s.task t).ch with
  | none => s.endAtOnce t 4
  | some ch =>
    let s := s.inc (R.ENG_CNT_COUNT e 0)
    match s.encFault ch p with
    | some code => (s.engError e code).endAtOnce t 4
    | none =>
      let r := encRend p
      let c := encColumn p
      let j := s.encIndex ch p
      let s := if s.subframe ch then s
        else
          let s := s.encPlan ch p
          let x := s.rend ch r
          (s.setRend ch r { x with encNo := tset (fun _ => 0) x.encNo c (j + 1) }).frameUnit ch r j
      match s.encUnit ch p j with
      | none => (s.engError e 1).endAtOnce t 4
      | some u =>
        if u.staged ∨ s.reached (s.deadline ch u.idx u.band) then
          let s := (s.engError e 1).endAtOnce t 4
          if s.subframe ch then s else s.columnOver ch u.src r c
        else if s.engLost ch e then
          let s := (s.putUnit (u.setCol c { (u.cols[c]?).getD {} with sub := true })).inc (R.ENC_CNT_COUNT ch 3)
          let s := s.endAtOnce t 3
          if s.subframe ch then s else s.columnOver ch u.src r c
        else if (u.cols[c]?).elim true (fun k => k.sub || k.task.isSome || k.engine.isSome) then s.endAtOnce t 0
        else s.encBegin u c e t p (!s.subframe ch && s.frameMissing ch r u.src u.snap)

/-- Whether the ENC task of entry t has nothing left to code. -/
def State.encFinished (s : State) (t : Nat) : Bool :=
  (s.units.find? (fun u => u.cols.any (fun k => decide (k.task = some t)))).elim true (fun u =>
    u.staged || u.cols.any (fun k => decide (k.task = some t) && decide (k.total ≤ k.done) && !k.inflight))

/-- An ENC task ends on its engine; in frame mode its column of the picture is over (R306). -/
def State.encEnd (s : State) (t : Nat) : State :=
  let cost := s.costNow t
  let p := (s.task t).d.payload
  let u := s.units.find? (fun u => u.cols.any (fun k => decide (k.task = some t)))
  let src := match u with
    | some u => some (u.ch, u.src)
    | none => (s.task t).ch.bind (fun ch => ((s.rend ch (encRend p)).plan.find? (fun q => decide (s.snapOf ch q.n % 2 ^ 32 =
        s.get (R.ENG_CUR_SNAP (s.task t).unit)))).map (fun q => (ch, q.n)))
  let s := { s with units := s.units.map (fun (u : UnitSt) =>
    { u with cols := u.cols.map (fun (k : ColSt) => if k.task = some t then { k with task := none } else k) }) }
  let s := (s.freeUnit t).taskOver t 0 cost
  match src with
  | some (ch, n) => if s.subframe ch then s else (s.columnCoded ch (encRend p) n (encColumn p)).columnOver ch n (encRend p) (encColumn p)
  | none => s

/-! ### Tasting (R334 to R338) -/

/-- PSNR in Q8.8 dB: the largest k with 10^(k/2560) at most n × m² / sse, at most 100.0 dB (R334, R337, log 27). -/
def psnr (n m sse : Nat) : Nat :=
  if sse = 0 then 0x6400
  else
    let ok := fun (k : Nat) => decide (10 ^ k * sse ^ 2560 ≤ (n * m * m) ^ 2560)
    (List.range 15).foldl (fun a i => if a + 2 ^ (14 - i) ≤ 0x6400 ∧ ok (a + 2 ^ (14 - i)) then a + 2 ^ (14 - i) else a) 0

/-- Bit depth of a rendition: 8 for Main, else 10 (R291). -/
def State.rendDepth (s : State) (ch r snap : Nat) : Nat :=
  if s.flag (R.CTX_REND_CODEC_FROM_SCALER ch r) then (if s.getIn (R.SCL_REND_CFG_DEPTH8 (8 * ch + r)) snap = 1 then 8 else 10)
  else if s.get (R.CTX_REND_CODEC_PROFILE ch r) = 0 then 8 else 10

/-- Whether a rendition is 4:2:0: profiles Main and Main 10 (R291). -/
def State.rend420 (s : State) (ch r : Nat) : Bool := decide (s.get (R.CTX_REND_CODEC_PROFILE ch r) ≤ 1)

/-- The words of a Tasting record (R338): n samples of luma, a quarter or half of them of each chroma component. -/
def State.tasteWords (s : State) (ch r snap band flags n : Nat) (t : TasteBand) : List Nat :=
  let m := 2 ^ s.rendDepth ch r snap - 1
  let nc := if s.rend420 ch r then n / 4 else n / 2
  let clip := fun (x : Int) => (min (max x 0) 0xFFFF).toNat
  let mean := if t.ssimBlocks = 0 then 0 else clip (t.ssimSum / t.ssimBlocks)
  [snap, band % 65536 + r * 2 ^ 16 + flags * 2 ^ 24, t.sseY, t.sseCb, t.sseCr,
   psnr n m t.sseY + psnr nc m t.sseCb * 2 ^ 16 + psnr nc m t.sseCr * 2 ^ 32 + mean * 2 ^ 48, clip t.ssimMin, 0]

/-- The sum of two measurements. -/
def addTaste (a b : TasteBand) : TasteBand :=
  ⟨a.sseY + b.sseY, a.sseCb + b.sseCb, a.sseCr + b.sseCr, a.ssimSum + b.ssimSum, a.ssimBlocks + b.ssimBlocks, min a.ssimMin b.ssimMin⟩

/-- Luma samples of a band of a rendition: coded samples only (R335). -/
def State.bandSamples (s : State) (ch r snap band : Nat) : Nat :=
  let h := (s.rendSize ch r snap).2
  let l := s.bandRows ch r snap * s.ctuSize ch r
  (s.rendSize ch r snap).1 * min l (h - band * l)

/-- A band's record goes to the ring, and into the picture's sums (R338). -/
def State.tasteBand (s : State) (u : UnitSt) (band flags : Nat) (t : TasteBand) : State :=
  let c := s.chan u.ch
  let s := if s.getIn (R.CTX_QUALITY_TASTE_SLICE u.ch) u.snap = 1 then
      let w := s.tasteWords u.ch u.rend u.snap band flags (s.bandSamples u.ch u.rend u.snap band) t
      (w.zipIdx.foldl (fun s x => s.set (R.TASTE_RING_WORD u.ch (c.taste % 32) x.2) x.1) s).setChan u.ch { c with taste := c.taste + 1 }
    else s
  let x := s.rend u.ch u.rend
  s.setRend u.ch u.rend { x with tacc := addTaste x.tacc t, tflags := x.tflags ||| flags }

/-- The picture summary of a rendition (R338). -/
def State.tasteSummary (s : State) (u : UnitSt) : State :=
  let x := s.rend u.ch u.rend
  let sz := s.rendSize u.ch u.rend u.snap
  let w := s.tasteWords u.ch u.rend u.snap 0xFFFF x.tflags (sz.1 * sz.2) x.tacc
  (w.zipIdx.foldl (fun s x => s.set (R.TASTE_SUMMARY_WORD u.ch u.rend x.2) x.1) s).setRend u.ch u.rend
    { x with tacc := ⟨0, 0, 0, 0, 0, 65536⟩, tflags := 0 }

/-- The Tasting of a unit: its band, or every band of its picture; the PSNR_Y that the quantiser's next start reads (R338, R379). -/
def State.tasteUnit (s : State) (u : UnitSt) (l : List TasteBand) : State :=
  let zero : TasteBand := ⟨0, 0, 0, 0, 0, 65536⟩
  let flags := (if u.rep then 1 else 0) + (if 0 < u.crustN then 2 else 0) + (if u.cols.any (·.sub) then 4 else 0) + (if u.irap then 8 else 0)
  let n := if s.subframe u.ch then 1 else s.rendBands u.ch u.rend u.snap
  let m := 2 ^ s.rendDepth u.ch u.rend u.snap - 1
  let tot := (List.range n).foldl (fun a i => addTaste a (l.getD i zero)) zero
  let samples := (List.range n).foldl (fun a i => a + s.bandSamples u.ch u.rend u.snap (u.band + i)) 0
  let s := (List.range n).foldl (fun s i => s.tasteBand u (u.band + i) flags (l.getD i zero)) s
  let x := s.rend u.ch u.rend
  s.setRend u.ch u.rend { x with psnr := tput x.psnr u.kind (psnr samples m tot.sseY) }

/-! ### Selecting slices for proof (R340, R341) -/

/-- One bitstream slice, in emission order: its engine coded it, and the accumulator decides (R340). -/
def State.selectSlice (s : State) (u : UnitSt) (c band ctus : Nat) (crc : Word) : State :=
  match (u.cols[c]?).bind (·.engine) with
  | none => s
  | some e =>
    let x := s.rend u.ch u.rend
    let a := x.acc + s.getIn (R.CTX_QUALITY_PROOF_PERMILLE u.ch) u.snap
    if a < 1000 then s.setRend u.ch u.rend { x with acc := a }
    else
      let slots := ((x.plan.find? (fun q => decide (q.n = u.src))).map (fun q => x.refSlots q)).getD []
      let s := s.setRend u.ch u.rend { x with acc := a - 1000 }
      { s with proofs := s.proofs ++ [{ ch := u.ch, rend := u.rend, column := c, band := band, snap := u.snap, coder := e, crc := crc,
                                        ctus := ctus, slots := slots, emitted := s.raw }] }

/-- CTUs of the bitstream slice of a unit's column and band (R284). -/
def State.sliceCtus (s : State) (u : UnitSt) (c band : Nat) : Nat :=
  let rows := s.bandRows u.ch u.rend u.snap
  s.colWidth u.ch u.rend u.snap c * min rows (s.ctusHigh u.ch u.rend u.snap - band * rows)

/-- The bitstream slices of a unit; repeat bands, repeat columns and substituted columns are never selected (R340). -/
def State.selectUnit (s : State) (u : UnitSt) (crcs : List Word) : State :=
  if u.rep then s
  else
    let bands := if s.subframe u.ch then 1 else s.rendBands u.ch u.rend u.snap
    ((List.range bands).flatMap (fun b => (List.range u.cols.length).map (fun c => (b, c)))).foldl (fun s p =>
      match u.cols[p.2]? with
      | none => s
      | some k =>
        if k.sub ∨ k.rep then s
        else s.selectSlice u p.2 (u.band + p.1) (s.sliceCtus u p.2 (u.band + p.1)) (crcs.getD (p.1 * u.cols.length + p.2) 0)) s

/-! ### The coding deadline (R355, R377, R378) -/

/-- Emit every CTU that no engine has committed: late CTUs, or the CTUs of a repeat or of a substituted column (R324, R374, R377). -/
def State.fillUnit (s : State) (u : UnitSt) (fill : List Nat) : UnitSt :=
  let none' := u.cols.all (fun k => decide (k.done = 0))
  let rep := u.rep || (none' && decide (u.left ≠ 0)) || u.cols.all (·.rep)
  let caps := u.cols.flatMap (fun k => List.replicate (k.total - k.done) (if rep ∨ k.sub ∨ k.rep then 32 else u.crustCap))
  let bits := (caps.zipIdx.map (fun x => min (fill.getD x.2 x.1) x.1)).sum
  let late := if rep then 0 else u.cols.foldl (fun a k => if k.sub ∨ k.rep then a else a + (k.total - k.done)) 0
  let cols := u.cols.zipIdx.map (fun (k : ColSt × Nat) => { k.1 with
    held := k.1.held || rep || k.1.sub && decide (k.1.done < k.1.total) ||
      (List.range (k.1.total - k.1.done)).any (fun j => s.inRefresh u (s.ctuAt u.ch u.rend u.snap u.band k.2 (k.1.done + j)).1) })
  { u with committed := u.committed + bits, lateN := late, rep := rep, cols := cols, complete := true }

/-- The refresh position after a picture (R327, R328, R330). -/
def State.advanceRefresh (s : State) (u : UnitSt) : State :=
  let x := s.rend u.ch u.rend
  let p := s.getIn (R.CTX_REFRESH_PERIOD u.ch) u.snap
  if u.irap then s.setRend u.ch u.rend { x with pos := 0, hold := false, cycle := x.cycle + 1 }
  else if p = 0 then s.setRend u.ch u.rend { x with hold := false }
  else if x.hold then (s.setRend u.ch u.rend { x with hold := false }).inc (R.ENC_CNT_COUNT u.ch 4)
  else s.setRend u.ch u.rend { x with pos := (x.pos + 1) % p, hold := false, cycle := if x.pos + 1 = p then x.cycle + 1 else x.cycle }

/-- The last unit of a rendition's picture is assembled: its slot, its refresh position, its splice (R317, R327, R333). An IRAP picture that
became a repeat leaves the IDR due (log 28). -/
def State.closePicture (s : State) (u : UnitSt) : State :=
  let s := s.advanceRefresh u
  let s := match (s.rend u.ch u.rend).plan.find? (fun q => decide (q.n = u.src)) with
    | some q => (if q.slot.isNone ∧ !q.rep then s.repeatPic u.ch u.rend q else s).pictureEnd u.ch u.rend (if q.slot.isNone then { q with rep := true, used := false } else q)
    | none => s
  let s := if u.rep then
      (if u.irap then s.setRend u.ch u.rend { s.rend u.ch u.rend with needIdr := true } else s)
    else s.pictureCoded u.ch u.snap u.irap
  s

/-- Whether a unit is the last of its picture. -/
def State.lastOfPicture (s : State) (u : UnitSt) : Bool := !s.subframe u.ch || decide (s.bandCount u.ch ≤ u.band + 1)

/-- Whether the last unit of a unit's picture is assembled in every enabled rendition (R306, R338). -/
def State.allAssembled (s : State) (u : UnitSt) : Bool :=
  (s.rendsOn u.ch).all (fun r => s.units.any (fun v => decide (v.ch = u.ch) && decide (v.rend = r) && decide (v.src = u.src) && v.staged && s.lastOfPicture v))

/-- Counters and events of an assembled unit (R377, R378). No register table names a counter of repeated slices, so that the count of R31 and R697 is
the REPEAT flags of PRF_SLICE, the history and Tasting (DESIGN CHOICE, log 110). -/
def State.countUnit (s : State) (u : UnitSt) : State :=
  let st := fun i => R.RC_ST_COUNT u.ch u.rend i
  let s := s.add (st 9) u.lateN
  let s := if 0 < u.crustN then (s.inc (st 4)).add (st 5) u.crustN else s
  if u.rep then s.postCh u.ch 12 else s

/-- A unit is assembled at its coding deadline. -/
def State.assemble (s : State) (u : UnitSt) (a : Assembly) : State :=
  let u := s.fillUnit u a.fillBits
  let f := s.cpbBefore u.ch u.rend (s.unitRelease u) - u.committed * 65536
  let u := { u with filler := s.fillerBits u f, staged := true }
  let x := s.rend u.ch u.rend
  let q := u.cols.zipIdx.foldl (fun (t : Table Nat) k => if k.1.qN = 0 then t else tput t (16 * u.kind + k.2) k.1.q.toNat) x.qEnd
  let s := (s.setRend u.ch u.rend { x with qEnd := q, coded := x.coded + 1, hold := x.hold || u.cols.any (·.held) }).putUnit u
  let s := ((s.countUnit u).tasteUnit u a.taste).selectUnit u a.crcs
  let s := if s.lastOfPicture u then s.closePicture u else s
  let s := s.showSlots u.ch u.rend
  -- the frame is done with when every rendition's last unit is assembled (R306), and then its Tasting is complete (R338)
  let last := s.lastOfPicture u && s.allAssembled u
  let s := if last then ((s.rendsOn u.ch).foldl (fun s r => s.tasteSummary { u with rend := r }) s).postCh u.ch 7 else s
  if s.subframe u.ch then (if last then s.frameDone u.ch u.src else s)
  else u.cols.zipIdx.foldl (fun s k => if k.1.task.isSome then s else s.columnOver u.ch u.src u.rend k.2) s

/-- The next unit of a rendition to meet its coding deadline; in frame mode it is opened if no task has begun it (R377). -/
def State.dueUnit (s : State) (ch r : Nat) : State × Option UnitSt :=
  if s.subframe ch then (s, (s.unitsOf ch r).find? (fun u => !u.staged))
  else
    let i := (s.rend ch r).coded
    let s := (s.planTo 64 ch r i).frameUnit ch r i
    (s, (s.unitsOf ch r).find? (fun u => decide (u.idx = i)))

/-- CODING_DEADLINE (R377). -/
def execCodingDeadline (ch : Chan) (r : Rend) (a : Assembly) (now : Nat) (s : State) : Out :=
  whenLive s (fun s =>
    let s := s.advance now
    if !s.running ch ∨ !s.gridOn ch ∨ !s.flag (R.CTX_REND_CODEC_ENABLE ch r) then s
    else if !s.subframe ch ∧ !s.reached (s.deadline ch (s.rend ch r).coded 0) then s
    else
      let (s1, u) := s.dueUnit ch r
      match u with
      | none => s
      | some u => if u.staged ∨ !s1.reached (s1.deadline ch u.idx u.band) then s else s1.assemble u a)

/-! ### Errors in engines and trays (R288, R290, R345, R348) -/

/-- Two records are of one proof. -/
def Proof.same (p q : Proof) : Bool :=
  decide (p.ch = q.ch) && decide (p.rend = q.rend) && decide (p.column = q.column) && decide (p.band = q.band) && decide (p.snap = q.snap)

/-- The worst-case time in ns of decoding n CTUs, with the context switch (R39, R41, R342). -/
def decodeNs (size n : Nat) : Nat := n * (2560 * size * size / 4096) + 2000

/-- When the task or the proof on an engine began, and its worst-case time in ns: none where it runs neither (R39, R290, R341). -/
def State.worstNs (s : State) (e : Nat) : Option (Nat × Nat) :=
  let b := tget (fun _ => 0) s.busy e
  if b = 0 then
    (s.proofs.find? (fun p => decide (p.runner = some e))).map (fun p => (p.startAt, decodeNs (s.ctuSize p.ch p.rend) p.ctus))
  else
    let t := s.task (b - 1)
    let ch := t.ch.getD 0
    if t.d.cls = 1 then
      some (t.startAt, (s.engineWork e).elim 2000 (fun w => w.2.2.total * tCtu (s.ctuSize w.1.ch w.1.rend) + 2000))
    else
      let (part, parts) := decPart t.d.payload
      some (t.startAt, ((s.decOf ch).aus.find? (fun u => decide (u.no = t.au))).elim 2000 (fun u => decodeNs u.ctu ((u.partCtus part parts).getD 0)))

/-- The proof on an engine ends UNIT_ERROR, with no result: the slice waits for another engine until its age drops it (R290, R341, R343, log 130). -/
def State.proofBreak (s : State) (e code : Nat) : State :=
  match s.proofs.find? (fun p => decide (p.runner = some e)) with
  | none => s
  | some p =>
    let s := ((s.engError e code).engIdle e).chargeNs e 1 p.startAt none
    { s with proofs := s.proofs.map (fun (q : Proof) => if q.same p then { q with runner := none } else q) }

/-- ENGINE_SRAM_ECC: the task or the proof on the engine ends UNIT_ERROR (R290). -/
def execEngineSramEcc (e : Eng) (now : Nat) (s : State) : Out :=
  whenLive s (fun s =>
    let s := s.advance now
    let s := if tget (fun _ => 0) s.busy e = 0 then s.proofBreak e 5 else (s.engError e 5).breakTask e 4
    s.report (134 + 2 * e) (suspect kEngine e))

/-- ENGINE_TIMEOUT: a task or a proof beyond four times its worst-case time ends UNIT_ERROR (R290). -/
def execEngineTimeout (e : Eng) (now : Nat) (s : State) : Out :=
  whenLive s (fun s =>
    let s := s.advance now
    match s.worstNs e with
    | none => s
    | some (a, n) =>
      if s.raw ≤ a + 4 * n then s
      else ((if tget (fun _ => 0) s.busy e = 0 then s.proofBreak e 6 else (s.engError e 6).breakTask e 4).report (134 + 2 * e) (suspect kEngine e)))

/-- REF_CACHE_ECC: the line is refetched and the read goes on (R288). -/
def execRefCacheEcc (t : TrayId) (now : Nat) (s : State) : Out :=
  whenLive s (fun s => ((s.advance now).inc (R.TRAY_CNT_COUNT t 2)).report (390 + t) (suspect kTray t))

/-- ENGINE_ISOLATE: a write of ENG_CTRL.ISOLATE (R345). -/
def execEngineIsolate (e : Eng) (s : State) : Out := whenWr s (fun s => (s.isolateEngine e).postFault (suspect kEngine e))

/-- ENGINE_RESTORE: a write of ENG_CTRL.RESTORE; ignored while an unacknowledged record names the engine (R345, R346). -/
def execEngineRestore (e : Eng) (s : State) : Out :=
  whenWr s (fun s => if s.named (suspect kEngine e) then s else s.restoreEngine e)

/-- TRAY_INVALIDATE (R348). -/
def execTrayInvalidate (t : TrayId) (s : State) : Out := whenWr s (fun s => s.dropTray t)

/-! ### Proofs (R342 to R344) -/

/-- Whether engine e may run a proof (R342): not its coder, nor the engine of its first proof. -/
def State.mayProof (s : State) (e : Nat) (p : Proof) : Bool :=
  decide (p.coder ≠ e) && decide (p.first.map (·.1) ≠ some e) && p.runner.isNone &&
  (if s.flag (R.ENG_STATUS_OWNED e) then
    decide (s.get (R.ENG_STATUS_OWNER e) = p.ch) &&
      (let c := s.chan p.ch
       let t := s.now * 2 ^ 32 + ns (decodeNs (s.ctuSize p.ch p.rend) p.ctus)
       decide (t ≤ s.slotStart p.ch c.slot.n c.slot.k + ns (s.tSlot p.ch)))
   else true)

/-- Whether an engine is idle. -/
def State.engFree (s : State) (e : Nat) : Bool :=
  decide (tget (fun _ => 0) s.busy e = 0) && decide (s.get (R.ENG_STATUS_STATE e) = 0)

/-- An engine starts the oldest proof it may run. -/
def State.proofStart (s : State) (e : Nat) : State :=
  match s.proofs.find? (fun p => s.mayProof e p) with
  | none => s
  | some p =>
    let s := { s with proofs := s.proofs.map (fun (q : Proof) => if q.same p then { q with runner := some e, startAt := s.raw } else q) }
    let s := ((s.set (R.ENG_STATUS_STATE e) 3).trayBusy e).loadCtx e 1 p.ch p.rend p.column p.snap
    let s := s.inc (R.ENG_CNT_COUNT e 6)
    if p.first.isSome then s.inc (R.ENG_CNT_COUNT e 8) else s

/-- A proof leaves the list; its slots lose OUTPUT_PENDING (R341). -/
def State.dropRecord (s : State) (p : Proof) : State :=
  ({ s with proofs := s.proofs.filter (fun q => !q.same p) }).showSlots p.ch p.rend

/-- An engine is the suspect of a mismatch (R344). -/
def State.blameEngine (s : State) (e : Nat) : State := (s.inc (R.ENG_CNT_COUNT e 7)).report (135 + 2 * e) (suspect kEngine e)

/-- A proof ends with a CRC (R344). -/
def State.proofEnd (s : State) (e : Nat) (crc : Word) : State :=
  match s.proofs.find? (fun p => decide (p.runner = some e)) with
  | none => s
  | some p =>
    let s := (s.engIdle e).chargeNs e 1 p.startAt none
    match p.first with
    | none =>
      if crc = p.crc then (s.dropRecord p).inc (R.ENC_CNT_COUNT p.ch 0)
      else { s with proofs := s.proofs.map (fun (q : Proof) => if q.same p then { q with runner := none, first := some (e, crc) } else q) }.inc
        (R.ENC_CNT_COUNT p.ch 2)
    | some (e1, c1) =>
      let s := s.dropRecord p
      if crc = p.crc then s.blameEngine e1
      else if crc = c1 then s.blameEngine p.coder
      else (s.blameEngine e1).blameEngine p.coder

/-- PROOF_END (R344). -/
def execProofEnd (e : Eng) (crc : Word) (reads : List Nat) (now : Nat) (s : State) : Out :=
  whenLive s (fun s =>
    let s := s.advance now
    if s.proofs.any (fun p => decide (p.runner = some e.val)) then (s.trayReads e reads).proofEnd e crc else s)

/-- The oldest proof that has waited longer than PROOF_AGE frame periods is dropped; an undecided mismatch falls on the coder (R343,
R344). -/
def State.proofAge (s : State) : State :=
  match s.proofs.find? (fun p => p.runner.isNone &&
    decide ((p.emitted : Int) * 2 ^ 32 + s.getIn (R.CTX_QUALITY_PROOF_AGE p.ch) p.snap * s.period p.ch ≤ s.raw * 2 ^ 32)) with
  | none => s
  | some p =>
    let s := s.dropRecord p
    if p.first.isSome then s.blameEngine p.coder else s.inc (R.ENC_CNT_COUNT p.ch 1)

/-- PROOF_AGE_EXPIRY (R343). -/
def execProofAgeExpiry (now : Nat) (s : State) : Out := whenLive s (fun s => (s.advance now).proofAge)

end Sys2Proof.Machine
end

