-- ==== Sys2Proof/Machine/Egress.lean ====
section
/-! DEFINITION. The egress scheduler: flows, claim gating, queues, weighted fair queueing, time gates and the port itself
(11_egress.md R445 to R454, R470 to R489). -/

namespace Sys2Proof.Machine

/-! ### Flows and frames -/

/-- What the model keeps of an egress flow. -/
def State.flowTx (s : State) (f : Nat) : FlowTx := tget (fun _ => {}) s.egFlows f

/-- Replace what the model keeps of an egress flow. -/
def State.setFlowTx (s : State) (f : Nat) (x : FlowTx) : State := { s with egFlows := tset (fun _ => {}) s.egFlows f x }

/-- A port's scheduler. -/
def State.txPort (s : State) (p : Nat) : TxPort := tget (fun _ => {}) s.egPorts p

/-- Replace a port's scheduler. -/
def State.setTxPort (s : State) (p : Nat) (x : TxPort) : State := { s with egPorts := tset (fun _ => {}) s.egPorts p x }

/-- The KIND of a flow. -/
def State.egKind (s : State) (f : Nat) : Nat := s.get (R.EGR_FLOW_CTRL_KIND f)

/-- Queues: 0 to 3 for SP0 to SP3, 4 for the weighted group. The queue of a flow (QUEUE of R489). -/
def State.egQueue (s : State) (f : Nat) : Nat := s.get (R.EGR_FLOW_CTRL_QUEUE f) + 1

/-- Whether a KIND may use a queue (R446). -/
def queueAllowed (kind q : Nat) : Bool :=
  match kind with
  | 0 | 1 | 4 => q = 1 || q = 4
  | 2 | 3 => q = 4
  | 5 | 6 => q = 2
  | 7 => q = 3 || q = 4
  | 8 => q = 3
  | _ => false

/-- Whether a stream is enabled with the FORMAT that a KIND needs (R446). -/
def State.streamFits (s : State) (kind st : Nat) : Bool :=
  s.flag (R.MUX_STR_CFG_ENABLE st) &&
    decide (s.get (R.MUX_STR_CFG_FORMAT st) = (if kind ≤ 1 then 0 else if kind = 2 then 1 else 2))

/-- Whether an egress enable is refused with STATE ERROR (R446). -/
def State.egRefused (s : State) (f : Nat) : Bool :=
  let k := s.egKind f
  let m := s.get (R.EGR_FLOW_SRC_MAX_PAYLOAD f)
  !queueAllowed k (s.egQueue f) || (decide (k ≤ 3) && !s.streamFits k (s.get (R.EGR_FLOW_SRC_STREAM f))) || decide (m < 256) ||
    decide (8960 < m) || (s.flag (R.EGR_FLOW_CTRL_DUAL f) && decide (s.get (R.EGR_FLOW_CTRL_PORT f) = s.get (R.EGR_FLOW_CTRL_PORT_B f))) ||
    (s.flag (R.EGR_FLOW_CTRL_SRTP_EN f) && !(s.flag (R.MUX_SRTP_CFG_VALID (s.get (R.EGR_FLOW_CTRL_SRTP_SLOT f)))))

/-- A flow's enable takes effect or is refused (R445, R446, R454, R488). -/
def State.egEnable (s : State) (f : Nat) : State :=
  if s.flag (R.ING_FLOW_KEYCTL_ENABLE f) then (s.setFlag (R.EGR_FLOW_CTRL_ENABLE f) false).set (R.EGR_FLOW_CTRL_STATE f) 3
  else if s.egRefused f then (s.setFlag (R.EGR_FLOW_CTRL_ENABLE f) false).set (R.EGR_FLOW_CTRL_STATE f) 2
  else
    let s := (s.setFlag (R.EGR_FLOW_CTRL_ENABLE f) true).set (R.EGR_FLOW_CTRL_STATE f) 1
    let s := s.setFlowTx f { seq := s.get (R.EGR_FLOW_RTP_SEQ_INIT f) }
    if s.flag (R.EGR_FLOW_CTRL_SRTP_EN f) then s.inc (R.MUX_SRTP_CFG_USERS (s.get (R.EGR_FLOW_CTRL_SRTP_SLOT f))) else s

/-- A flow is disabled. -/
def State.egDisable (s : State) (f : Nat) : State :=
  let s := if s.flag (R.EGR_FLOW_CTRL_ENABLE f) ∧ s.flag (R.EGR_FLOW_CTRL_SRTP_EN f) then
      s.dec (R.MUX_SRTP_CFG_USERS (s.get (R.EGR_FLOW_CTRL_SRTP_SLOT f))) else s
  (s.setFlag (R.EGR_FLOW_CTRL_ENABLE f) false).set (R.EGR_FLOW_CTRL_STATE f) 0

/-- Bytes of a frame from destination address to FCS, for a payload (R454, R470). -/
def State.frameLen (s : State) (f payload : Nat) : Nat :=
  18 + (if s.flag (R.EGR_FLOW_L2_VLAN_EN f) then 4 else 0) + (if s.flag (R.EGR_FLOW_CTRL_IPV6 f) then 40 else 20) + 8 +
    (if s.egKind f = 3 then 0 else 12) + payload + (if s.flag (R.EGR_FLOW_CTRL_SRTP_EN f) then 10 else 0)

/-! ### Queues (R474, R476, R477) -/

/-- Byte limit of a queue (R476). -/
def queueLimit (q : Nat) : Nat := if q = 0 then 16384 else if q = 1 then 4194304 else if q = 2 then 1048576 else 262144

/-- The frames of a strict-priority queue. -/
def TxPort.spq (x : TxPort) (q : Nat) : List TxFrame := tget (fun _ => []) x.sp q

/-- Replace a strict-priority queue. -/
def TxPort.setSpq (x : TxPort) (q : Nat) (l : List TxFrame) : TxPort := { x with sp := tset (fun _ => []) x.sp q l }

/-- A weighted queue. -/
def TxPort.wq (x : TxPort) (w : Nat) : WfqQ := tget (fun _ => {}) x.wfq w

/-- Replace a weighted queue. -/
def TxPort.setWq (x : TxPort) (w : Nat) (q : WfqQ) : TxPort := { x with wfq := tset (fun _ => {}) x.wfq w q }

/-- Bytes in a list of frames. -/
def bytesIn (l : List TxFrame) : Nat := l.foldl (fun a f => a + f.len) 0

/-- The finish tag of a frame that starts at virtual time t (R477). -/
def finishTag (t len weight : Nat) : Nat := t + ceilDiv (65536 * (len + 20)) weight

/-- The virtual time of a port at the end of the preceding CLK_FAB cycle (R478). -/
def State.vBefore (s : State) (p : Nat) : Nat := if fabCycle (s.txPort p).vAt = fabCycle s.raw then (s.txPort p).vOld else (s.txPort p).v

/-- The finish tag of a frame of weighted queue w that starts at virtual time t, by the weight of the preceding CLK_FAB cycle (R478). -/
def State.tagOf (s : State) (p w t len : Nat) : Nat := finishTag t len (s.getBefore fabCycle (R.EGR_WFQ_WEIGHT_WEIGHT p w))

/-- A frame joins a strict-priority queue: at its end, or in ascending flow order among SP1 units eligible in its CLK_FAB cycle (R451). -/
def joinQueue (q : Nat) (f : TxFrame) (l : List TxFrame) : List TxFrame :=
  let later := fun (x : TxFrame) => decide (q = 1) && decide (x.elig = f.elig) && decide (f.flow < x.flow)
  l.takeWhile (fun x => !later x) ++ f :: l.dropWhile (fun x => !later x)

/-- A frame joins its queue (R477). -/
def State.enqueue (s : State) (p q w : Nat) (f : TxFrame) : State :=
  let x := s.txPort p
  if q < 4 then s.setTxPort p (x.setSpq q (joinQueue q f (x.spq q)))
  else
    let k := x.wq w
    let k := if k.frames = [] then
        let t := s.tagOf p w (s.vBefore p) f.len
        { frames := [f], tag := t, finish := t }
      else { k with frames := k.frames ++ [f] }
    s.setTxPort p (x.setWq w k)

/-- Whether a frame fits its queue (R476). -/
def State.queueRoom (s : State) (p q w : Nat) (l : List TxFrame) : Bool :=
  let x := s.txPort p
  let held := if q < 4 then x.spq q else (x.wq w).frames
  l.all (fun f => decide (f.len ≤ s.get (R.EGR_QFRAME_BYTES p q))) && decide (bytesIn held + bytesIn l ≤ queueLimit q)

/-- Frames for one path of a flow: lost to a port that is down, discarded, or queued, each counted (R474, R476). An SP1 unit is taken
whole or not at all. -/
def State.offer (s : State) (f path : Nat) (l : List TxFrame) : State :=
  let p := s.get (if path = 0 then R.EGR_FLOW_CTRL_PORT f else R.EGR_FLOW_CTRL_PORT_B f)
  let q := s.egQueue f
  let w := s.get (R.EGR_FLOW_CTRL_WFQ_QUEUE f)
  let l := l.map (fun (x : TxFrame) => { x with path := path, elig := fabCycle s.raw })
  if !s.flag (R.MAC_STATUS_LINK_UP p) then s.add (R.EGR_FLOW_CNT_COUNT f (4 + path)) l.length
  else if q = 1 then
    if s.queueRoom p q w l then (l.foldl (fun s x => s.enqueue p q w x) s).add (R.EGR_FLOW_CNT_COUNT f (2 + path)) l.length
    else (s.add (R.EGR_FLOW_CNT_COUNT f (6 + path)) l.length).report 410 kNone
  else l.foldl (fun s x =>
    if s.queueRoom p q w [x] then (s.enqueue p q w x).inc (R.EGR_FLOW_CNT_COUNT f (2 + path))
    else s.inc (R.EGR_FLOW_CNT_COUNT f (6 + path))) s

/-- Number packets and protect them (R454, R470, R472). `m` of them may still be sent before the packet index runs out. -/
def State.numberFrames (s : State) (f : Nat) (l : List TxFrame) : State × List TxFrame :=
  let x := s.flowTx f
  let srtp := s.flag (R.EGR_FLOW_CTRL_SRTP_EN f)
  let slot := s.get (R.EGR_FLOW_CTRL_SRTP_SLOT f)
  let i := s.get (R.EGR_FLOW_SRTP_IDX_INDEX f)
  let l := l.zipIdx.map (fun (y : TxFrame × Nat) =>
    { y.1 with seq := (x.seq + y.2) % 65536, srtp := if srtp then some (slot, i + y.2) else none })
  let s := s.setFlowTx f { x with seq := (x.seq + l.length) % 65536 }
  (if srtp then s.set (R.EGR_FLOW_SRTP_IDX_INDEX f) (i + l.length) else s, l)

/-- The packets of a unit of a flow go to its paths (R470, R472, R473, R487). -/
def State.sendUnit (s : State) (f : Nat) (l : List TxFrame) : State :=
  let room := if s.flag (R.EGR_FLOW_CTRL_SRTP_EN f) then 2 ^ 48 - 1 - s.get (R.EGR_FLOW_SRTP_IDX_INDEX f) else l.length
  let lost := l.length - room
  let (s, l) := s.numberFrames f (l.take room)
  let s := s.add (R.EGR_FLOW_CNT_COUNT f 1) (l.length + lost)
  let dual := s.flag (R.EGR_FLOW_CTRL_DUAL f)
  let s := s.offer f 0 l
  let s := if dual then s.offer f 1 l else s
  if lost = 0 then s
  else
    let s := s.add (R.EGR_FLOW_CNT_COUNT f 6) lost
    (if dual then s.add (R.EGR_FLOW_CNT_COUNT f 7) lost else s).report 409 kNone

/-! ### Claim gating (R484, R486, R622) -/

/-- This unit's claim number in a group (16_redundancy.md R597). -/
def State.ownClaim (s : State) (g : Nat) : Nat :=
  tget (fun _ => 0) s.epochs g * 256 + (if s.get (R.CLB_GRP_STATUS_ROLE g) = 1 then 128 else 0) + s.get (R.CLB_GRP_CFG_PRIO g)

/-- Whether a unit's claim counts as the group's winning claim, by the claim state of the preceding CLK_FAB cycle (R484, R622). -/
def State.claimWins (s : State) (g claim unit : Nat) : Bool :=
  let win := s.getBefore fabCycle (R.CLB_GRP_WIN_CLAIM g)
  decide (s.getBefore fabCycle (R.CLB_GRP_WIN_VALID g) = 1) &&
    (decide (win = claim) || (decide (s.getBefore fabCycle (R.CLB_GRP_WIN_UNIT g) = unit) && decide (claim / 256 < win / 256)))

/-- Bytes of an audio flow's sample: AM824, L24 or L16. -/
def State.wireSample (s : State) (f : Nat) : Nat := if s.egKind f = 6 then 4 else if s.flag (R.AUD_FLOW_MAP_L24 f) then 3 else 2

/-- The last sample of each channel in the last packet of a unit (R485). -/
def State.lastSample (s : State) (f : Nat) (l : List TxFrame) : Option (List Nat) :=
  match l.getLast?.map (fun (x : TxFrame) => x.body) with
  | some (TxBody.audio _ v) => v.getLast?
  | some (TxBody.control b) =>
    let w := s.wireSample f
    let n := s.get (R.AUD_FLOW_MAP_CHANNELS f)
    if s.egKind f = 5 ∨ s.egKind f = 6 then
      some ((List.range n).map (fun c => (leNat ((b.drop (b.length - n * w + c * w)).take w).reverse * (if w = 2 then 256 else 1)) % 2 ^ 24))
    else none
  | _ => none

/-- A unit of frames is presented to a flow at its release time: eligible, or held back for its claim (R484, R487). -/
def State.present (s : State) (f claim unit : Nat) (rel : Option Int) (l : List TxFrame) : State :=
  let s := s.inc (R.EGR_FLOW_CNT_COUNT f 0)
  if s.flag (R.EGR_FLOW_CTRL_GATED f) ∧ !s.claimWins (s.get (R.EGR_FLOW_CTRL_PGROUP f)) claim unit then s.inc (R.EGR_FLOW_CNT_COUNT f 8)
  else
    let x := s.flowTx f
    (s.setFlowTx f { x with lastRel := if rel.isSome then rel else x.lastRel, got := true, held := (s.lastSample f l).getD x.held }).sendUnit f l

/-- A unit made on this device is presented to a flow whose units come from here (R484). -/
def State.presentLocal (s : State) (f : Nat) (rel : Option Int) (l : List TxFrame) : State :=
  if s.get (R.EGR_FLOW_CTRL_SOURCE f) = 0 then
    s.present f (s.ownClaim (s.get (R.EGR_FLOW_CTRL_PGROUP f))) (s.get R.CLB_CTRL_UNIT_ID) rel l
  else s

/-! ### RTP video (R453, R454) -/

/-- A time in 2^-32 ns as a 90 kHz count (R454). -/
def ticks90 (t : Int) : Int := t * 90000 / (1000000000 * 2 ^ 32)

/-- Groups of small NAL units that fit an aggregation packet of at most m bytes: 2 bytes of header, and 2 bytes of size before each
(R453). -/
def groupHeads (m : Nat) : List Nat → List Nat → List (List Nat)
  | acc, [] => if acc = [] then [] else [acc.reverse]
  | acc, n :: t =>
    if acc = [] ∨ 2 + (acc.foldl (fun a x => a + x + 2) 0) + n + 2 ≤ m then groupHeads m (n :: acc) t
    else acc.reverse :: groupHeads m [n] t

/-- Payload sizes of one NAL unit: a single packet, or fragments of at most m bytes behind 3 bytes of headers each (R453). -/
def nalPackets (m n : Nat) : List (Nat × Nat) :=
  if n ≤ m then [(0, n)]
  else (List.range (ceilDiv (n - 2) (m - 3))).map (fun i => (2, 3 + min (m - 3) (n - 2 - i * (m - 3))))

/-- Payloads of a release unit: kind and bytes of each packet (R453). -/
def unitPackets (m : Nat) (u : UnitNals) : List (Nat × Nat) :=
  (groupHeads m [] u.heads).flatMap (fun g => match g with
    | [n] => nalPackets m n
    | g => [(1, 2 + g.foldl (fun a x => a + x + 2) 0)]) ++ u.slices.flatMap (nalPackets m)

/-- The frames of a release unit of a video flow; the marker is set on the last packet of an access unit (R453, R454). -/
def State.videoFrames (s : State) (f : Nat) (inst : Int) (last : Bool) (n : UnitNals) : List TxFrame :=
  let l := unitPackets (s.get (R.EGR_FLOW_SRC_MAX_PAYLOAD f)) n
  l.zipIdx.map (fun (y : (Nat × Nat) × Nat) =>
    { flow := f, ts := (ticks90 inst % 2 ^ 32).toNat, marker := last && decide (y.2 + 1 = l.length), len := s.frameLen f y.1.2,
      body := .nal y.1.1 y.1.2 })

/-- Enabled flows of a KIND range that name a stream. -/
def State.flowsOf (s : State) (lo hi st : Nat) : List Nat :=
  s.egrOn.filter (fun f => decide (lo ≤ s.egKind f) && decide (s.egKind f ≤ hi) && decide (s.get (R.EGR_FLOW_SRC_STREAM f) = st))

/-! ### Units from peers (R484, 16_redundancy.md R622) -/

/-- The frames of a media unit. -/
def State.mediaFrames (s : State) (u : MediaUnit) : List TxFrame :=
  match u.body with
  | .video inst last n => s.videoFrames u.flow inst last n
  | .data ts l => [{ flow := u.flow, ts := ts.toNat, len := s.frameLen u.flow l.length, body := .control l }]

/-- Interval of a stream's datagrams in 2^-32 ns (R456). -/
def State.dgramTime (s : State) (i : Nat) : Nat :=
  s.get (R.MUX_STR_CFG_TS_PER_DGRAM i) * 1504 * 1000000 * 2 ^ 32 / s.get (R.MUX_STR_RATE_TS_RATE_KBPS i)

/-- Whether no accepted unit is staged for release time t of a gated coded-video flow: none of that time has been emitted or, of a transport stream, no
datagram since two of its intervals before (R485, log 34). -/
def State.skipDue (s : State) (f : Nat) (t : Int) : Bool :=
  let gap : Int := if s.egKind f ≤ 1 then 1 else (2 * s.dgramTime (s.get (R.EGR_FLOW_SRC_STREAM f)) : Nat)
  (s.flowTx f).lastRel.elim true (fun l => decide (l + gap ≤ t))

/-- A staged unit is presented at its release time; one that comes after its time has been served is discarded (R485, log 34). -/
def State.presentStaged (s : State) (u : MediaUnit) : State :=
  if !s.flag (R.EGR_FLOW_CTRL_ENABLE u.flow) then s
  else match u.body with
    | .video _ _ _ =>
      if (s.flowTx u.flow).lastRel.elim true (fun l => decide (l < (u.rel : Int))) then
        s.present u.flow u.claim.toNat u.unit.toNat (some (u.rel : Int)) (s.mediaFrames u)
      else s
    | .data _ _ => s.present u.flow u.claim.toNat u.unit.toNat (if s.egKind u.flow = 2 ∨ s.egKind u.flow = 3 then some (u.rel : Int) else none) (s.mediaFrames u)

/-- Every staged unit of some flows whose release time has come is presented, oldest first (R484). -/
def State.releaseStaged (s : State) (ok : Nat → Bool) : State :=
  let due := fun (u : MediaUnit) => ok u.flow && s.reached u.rel
  (s.staged.filter due).foldl (fun s u => s.presentStaged u) { s with staged := s.staged.filter (fun u => !due u) }

/-! ### Time gates (R479 to R483) -/

/-- Rate of a port in Gbit/s: 100 for each of its lanes (05_ingest.md R194). -/
def State.portRate (s : State) (p : Nat) : Nat := 100 * (s.lanesOf p).length

/-- Time on the wire of a frame, in ns, rounded up. -/
def State.wireNs (s : State) (p len : Nat) : Nat := if s.portRate p = 0 then 0 else ceilDiv ((len + 20) * 8) (s.portRate p)

/-- The first `len` entries of gate list l of a port as (interval, gates), stretched or cut to a cycle (R480). -/
def State.listSegs (s : State) (p l len cycle : Nat) : List (Nat × Nat) :=
  let e := (List.range len).map (fun i => (s.get (R.EGR_GATE_ENTRY_INTERVAL_NS p l i), s.get (R.EGR_GATE_ENTRY_GATES p l i)))
  let e := e.filter (fun q => decide (q.1 ≠ 0))
  let cut := e.foldl (fun (a : List (Nat × Nat) × Nat) q =>
    if cycle ≤ a.2 then a else (a.1 ++ [(min q.1 (cycle - a.2), q.2)], a.2 + q.1)) ([], 0)
  if cut.2 < cycle then
    match cut.1.getLast? with
    | some q => cut.1.dropLast ++ [(q.1 + (cycle - cut.2), q.2)]
    | none => [(cycle, (e.getLast?.map (·.2)).getD 31)]
  else cut.1

/-- The operational list of a port in its cycle. -/
def State.gateSegs (s : State) (p : Nat) : List (Nat × Nat) :=
  s.listSegs p (s.get (R.EGR_GATE_CTRL_OPER_LIST p)) (s.txPort p).operLen (s.txPort p).operCycle

/-- Whether gates are in use on a port: enabled, and a list is operational (R479, R482). -/
def State.gatesOn (s : State) (p : Nat) : Bool :=
  s.flag (R.EGR_GATE_CTRL_ENABLE p) && (s.txPort p).operAt.isSome && decide (0 < (s.txPort p).operCycle)

/-- The segment in force at an offset of the cycle: its index and gates. -/
def segAt : List (Nat × Nat) → Nat → Nat → Nat × Nat
  | [], i, _ => (i, 31)
  | (d, g) :: t, i, o => if o < d then (i, g) else segAt t (i + 1) (o - d)

/-- Offset of local time t in the operational cycle. -/
def State.gateOffset (s : State) (p : Nat) (t : Int) : Nat :=
  ((t - (s.txPort p).operAt.getD 0) % ((s.txPort p).operCycle : Int)).toNat

/-- Whether queue q's gate is open at local time t (R479). -/
def State.gateOpen (s : State) (p q : Nat) (t : Int) : Bool :=
  !s.gatesOn p || bitAt (segAt (s.gateSegs p) 0 (s.gateOffset p t)).2 q

/-- Offsets in two cycles at which a queue's gate closes. -/
def closings (q : Nat) : List (Nat × Nat) → Nat → List Nat
  | (d, g) :: (d', g') :: t, o => (if bitAt g q ∧ !bitAt g' q then [o + d] else []) ++ closings q ((d', g') :: t) (o + d)
  | _, _ => []

/-- Whether local time t lies in the guard band of queue q: its gate closes within G ns, by the operational list up to a pending change time, or by the
pending list from there (R481). -/
def State.inGuard (s : State) (p q : Nat) (t : Int) : Bool :=
  let g : Int := s.wireNs p (s.get (R.EGR_QFRAME_BYTES p q))
  let o := s.gateOffset p t
  let segs := s.gateSegs p
  let pend := s.flag (R.EGR_GATE_CTRL_PENDING p)
  let change := (s.get (R.EGR_GATE_CHANGE_TIME_NS p) : Int)
  let next := s.listSegs p (1 - s.get (R.EGR_GATE_CTRL_OPER_LIST p)) (s.get (R.EGR_GATE_CTRL_LENGTH p)) (s.get (R.EGR_GATE_CYCLE_NS p))
  let soon := fun (c : Int) => decide (t < c) && decide (c ≤ t + g)
  s.flag (R.EGR_GATE_CTRL_ENABLE p) &&
    ((s.gatesOn p && (closings q (segs ++ segs) 0).any (fun c => soon (t + (c - o : Int)) && (!pend || decide (t + (c - o : Int) < change)))) ||
     (pend && ((soon change && !bitAt ((next.head?.map (·.2)).getD 31) q) || (closings q (next ++ next) 0).any (fun c => soon (change + c)))))

/-- Whether queue q may start a frame now, as far as its gate goes. -/
def State.gateOk (s : State) (p q : Nat) : Bool := s.gateOpen p q s.now && !s.inGuard p q s.now

/-- GATE_CHANGE: the change time of the pending list (R482). -/
def State.gateChange (s : State) (p : Nat) : State :=
  if s.flag (R.EGR_GATE_CTRL_PENDING p) ∨ s.get (R.EGR_GATE_CTRL_LENGTH p) = 0 then s
  else
    let base : Int := s.get (R.EGR_GATE_BASE_NS p)
    let cyc : Int := s.get (R.EGR_GATE_CYCLE_NS p)
    let t := s.now + 2000
    let n := if cyc = 0 then 0 else max 0 (-((base - t) / cyc))
    (s.set (R.EGR_GATE_CHANGE_TIME_NS p) (base + n * cyc).toNat).setFlag (R.EGR_GATE_CTRL_PENDING p) true

/-- GATE_LIST_ACTIVATE: at the change time the pending list becomes operational at entry 0 (R482). -/
def State.gateActivate (s : State) (p : Nat) : State :=
  if s.flag (R.EGR_GATE_CTRL_PENDING p) ∧ (s.get (R.EGR_GATE_CHANGE_TIME_NS p) : Int) ≤ s.now then
    let x := s.txPort p
    let s := s.setTxPort p { x with operLen := s.get (R.EGR_GATE_CTRL_LENGTH p), operCycle := s.get (R.EGR_GATE_CYCLE_NS p),
                                    operAt := some (s.get (R.EGR_GATE_CHANGE_TIME_NS p) : Int), entry := 0 }
    (s.set (R.EGR_GATE_CTRL_OPER_LIST p) (1 - s.get (R.EGR_GATE_CTRL_OPER_LIST p))).setFlag (R.EGR_GATE_CTRL_PENDING p) false
  else s

/-- GATE_ENTRY_ADVANCE: the entry in force by local time (R480). -/
def State.gateAdvance (s : State) (p : Nat) : State :=
  if s.gatesOn p then
    s.setTxPort p { s.txPort p with entry := (segAt (s.gateSegs p) 0 (s.gateOffset p s.now)).1 }
  else s

/-! ### The port (R450, R475, R477, R478, R483) -/

/-- Heads of the weighted queues: queue, tag, frame. -/
def TxPort.heads (x : TxPort) : List (Nat × Nat × TxFrame) :=
  x.wfq.filterMap (fun q => q.2.frames.head?.map (fun f => (q.1, q.2.tag, f)))

/-- The head with the smallest tag, the lowest queue on a tie (R477). -/
def TxPort.bestHead (x : TxPort) : Option (Nat × Nat × TxFrame) :=
  x.heads.foldl (fun b h => match b with
    | none => some h
    | some c => if h.2.1 < c.2.1 ∨ (h.2.1 = c.2.1 ∧ h.1 < c.1) then some h else b) none

/-- The frame that queue q offers. -/
def TxPort.offered (x : TxPort) (q : Nat) : Option TxFrame :=
  if q < 4 then (x.spq q).head? else x.bestHead.map (·.2.2)

/-- Earliest release time of an SP1 unit that is still to come on a port (R450). -/
def State.nextSp1 (s : State) (p : Nat) : Option Int :=
  let on := s.egrOn.filter (fun f => decide (s.egQueue f = 1) &&
    (decide (s.get (R.EGR_FLOW_CTRL_PORT f) = p) || (s.flag (R.EGR_FLOW_CTRL_DUAL f) && decide (s.get (R.EGR_FLOW_CTRL_PORT_B f) = p))))
  let own := s.units.filterMap (fun u =>
    if on.any (fun f => decide (s.egKind f ≤ 1) && decide (s.get (R.EGR_FLOW_CTRL_SOURCE f) = 0) &&
      decide (s.get (R.EGR_FLOW_SRC_STREAM f) = 8 * u.ch + u.rend)) then some (s.unitRelease u) else none)
  let video := on.filterMap (fun f => match (s.flowTx f).vid with
    | some (n, _) =>
      let ch := s.get (R.EGR_FLOW_SRC_STREAM f) / 8
      if s.egKind f = 4 then some (s.tFrame ch n + ((s.flowTx f).vidI * s.period ch / (s.flowTx f).vidPer : Nat)) else none
    | none => none)
  let times := own ++ video ++ s.staged.filterMap (fun u => if on.any (fun f => decide (f = u.flow.val)) then some (u.rel : Int) else none)
  times.foldl (fun b t => match b with
    | none => some t
    | some c => some (min c t)) none

/-- Whether R450 keeps queue q from starting a frame of a length. -/
def State.heldForSp1 (s : State) (p q len : Nat) : Bool :=
  decide (2 ≤ q) &&
    ((decide ((s.txPort p).spq 1 ≠ []) && s.gateOk p 1) ||
      (s.nextSp1 p).elim false (fun t => s.gateOpen p 1 (t / 2 ^ 32) && decide (t < (s.now + s.wireNs p len) * 2 ^ 32)))

/-- Count a waiting head once in GATE_DELAYED (R483). -/
def State.markLate (s : State) (p q : Nat) : State :=
  let x := s.txPort p
  match (if q < 4 then (x.spq q).head? else x.bestHead.map (·.2.2)) with
  | none => s
  | some f =>
    if f.late ∨ s.gateOk p q then s
    else
      let s := s.inc (R.EGR_PORT_CNT_COUNT p 5)
      if q < 4 then s.setTxPort p (x.setSpq q ({ f with late := true } :: (x.spq q).tail))
      else match x.bestHead with
        | some (w, _, _) => s.setTxPort p (x.setWq w { x.wq w with frames := { f with late := true } :: (x.wq w).frames.tail })
        | none => s

/-- A frame leaves its queue (R477). -/
def State.dequeue (s : State) (p q : Nat) : State :=
  let x := s.txPort p
  if q < 4 then s.setTxPort p (x.setSpq q (x.spq q).tail)
  else match x.bestHead with
    | none => s
    | some (w, tag, _) =>
      let k := x.wq w
      let k := match k.frames.tail with
        | [] => { k with frames := [] }
        | f :: t =>
          let fin := s.tagOf p w k.finish f.len
          { frames := f :: t, tag := fin, finish := fin }
      s.setTxPort p ({ x with v := tag, vOld := s.vBefore p, vAt := s.raw }.setWq w k)

/-- The port starts the next frame: highest priority first, gates and guard bands heeded (R475). -/
def State.frameStart (s : State) (p : Nat) : State :=
  if s.flag R.EGR_CTRL_ENABLE ∧ s.flag (R.MAC_STATUS_LINK_UP p) ∧ (s.txPort p).cur.isNone then
    let s := (List.range 5).foldl (fun s q => s.markLate p q) s
    let ok := fun (q : Nat) => (s.txPort p).offered q |>.elim false (fun f => s.gateOk p q && !s.heldForSp1 p q f.len)
    match (List.range 5).find? ok with
    | none => s
    | some q =>
      match (s.txPort p).offered q with
      | none => s
      | some f =>
        let s := (s.dequeue p q).inc (R.EGR_PORT_CNT_COUNT p q)
        s.setTxPort p { s.txPort p with cur := some (q, f, s.raw + s.wireNs p f.len) }
  else s

/-- The frame in transmission ends; one from SP0 is time-stamped (R506). -/
def State.frameDoneTx (s : State) (p : Nat) : State :=
  match (s.txPort p).cur with
  | some (q, f, e) =>
    if e ≤ s.raw then
      let st := if q = 0 then some (s.txStamp p (e - s.wireNs p f.len)) else none
      (s.setTxPort p { s.txPort p with cur := none }).emit (.txFrame p q f st)
    else s
  | none => s

/-! ### Commands -/

/-- EGRESS_FRAME_START (R475). -/
def execEgressFrameStart (p : MPort) (now : Nat) (s : State) : Out := whenLive s (fun s => (s.advance now).frameStart p)

/-- EGRESS_FRAME_DONE (R475, R505, R506). -/
def execEgressFrameDone (p : MPort) (now : Nat) (s : State) : Out := whenLive s (fun s => (s.advance now).frameDoneTx p)

/-- GATE_CHANGE: a write of CHANGE (R482). -/
def execGateChange (p : MPort) (now : Nat) (s : State) : Out := whenWr s (fun s => (s.advance now).gateChange p)

/-- GATE_LIST_ACTIVATE (R482). -/
def execGateListActivate (p : MPort) (now : Nat) (s : State) : Out := whenLive s (fun s => (s.advance now).gateActivate p)

/-- GATE_ENTRY_ADVANCE (R480). -/
def execGateEntryAdvance (p : MPort) (now : Nat) (s : State) : Out := whenLive s (fun s => (s.advance now).gateAdvance p)

/-- An indirect window selects a flow and takes a snapshot of its counters (R489). -/
def State.egrSelect (s : State) (w f : Nat) : State :=
  (List.range 10).foldl (fun s i => s.set (R.EGR_WIN_CNT_SNAPSHOT w i) (s.get (R.EGR_FLOW_CNT_COUNT f i))) (s.set (R.EGR_IND_SEL_FLOW w) f)

/-- EGR_IND_SEL (R489). -/
def execEgrIndSel (w : Fin 4) (f : FlowId) (s : State) : Out := whenWr s (fun s => s.egrSelect w f)

/-- SRTP_LOAD: LOAD of a slot takes the staged key and salt; a 128-bit key uses words 0 to 3 (R471). -/
def State.srtpLoad (s : State) (k : Nat) : State :=
  let suite := s.get (R.MUX_SRTP_CFG_SUITE k)
  if s.get (R.MUX_SRTP_CFG_USERS k) ≠ 0 ∨ suite = 0 ∨ suite = 3 then s
  else
    let words := fun (n : Nat) (f : Nat → Field) => (List.range n).foldl (fun a i => a + s.get (f i) * 2 ^ (32 * i)) 0
    let key : SrtpKey := { key := words (if suite = 1 then 4 else 8) R.MUX_SRTP_KEY_KEY, salt := words 4 R.MUX_SRTP_SALT_SALT % 2 ^ 112 }
    { s with srtps := tset (fun _ => {}) s.srtps k key }.setFlag (R.MUX_SRTP_CFG_VALID k) true

/-- SRTP_LOAD. -/
def execSrtpLoad (k : Fin 512) (s : State) : Out := whenWr s (fun s => s.srtpLoad k)

/-- SRTP_SLOT_WRITE: a new slot for a flow; on an enabled flow it must be VALID, and it takes effect with the next unit (R447, R472). -/
def State.srtpSlot (s : State) (f k : Nat) : State :=
  let on := s.flag (R.EGR_FLOW_CTRL_ENABLE f)
  if on ∧ !s.flag (R.MUX_SRTP_CFG_VALID k) then s
  else
    let s := if on ∧ s.flag (R.EGR_FLOW_CTRL_SRTP_EN f) then
        (s.dec (R.MUX_SRTP_CFG_USERS (s.get (R.EGR_FLOW_CTRL_SRTP_SLOT f)))).inc (R.MUX_SRTP_CFG_USERS k) else s
    s.set (R.EGR_FLOW_CTRL_SRTP_SLOT f) k

/-- SRTP_SLOT_WRITE. -/
def execSrtpSlotWrite (f : FlowId) (k : Fin 512) (s : State) : Out := whenWr s (fun s => s.srtpSlot f k)

end Sys2Proof.Machine
end

