-- ==== Sys2Proof/Machine/Heads.lean ====
section
/-! DEFINITION. What the headers of a coded unit say: parameter sets, tools, messages and slices (07_codec_engines.md R284, R285, R291 to R296,
R319, R326, 08_rate_and_delay.md R364). -/

namespace Sys2Proof.Machine

/-- Tools that the parameter sets of a rendition enable: those of R291 that CTX_REND_CODEC selects, and those it does not name. -/
def State.tools (s : State) (ch r snap : Nat) : List Tool :=
  let on := fun (b : Bool) (t : Tool) => if b then [t] else []
  let f := fun (x : Field) (t : Tool) => on (s.flag x) t
  [Tool.deblocking] ++ f (R.CTX_REND_CODEC_SAO ch r) .sao ++ f (R.CTX_REND_CODEC_TMVP ch r) .tmvp ++
  (if s.flag (R.CTX_REND_CODEC_CODEC ch r) then
    f (R.CTX_REND_CODEC_ALF ch r) .alf ++ f (R.CTX_REND_CODEC_LMCS ch r) .lmcs ++ [.implicitMts] ++
      on (s.subframe ch && decide (s.getIn (R.CTX_REFRESH_PERIOD ch) snap ≠ 0)) .gradualRefresh
  else f (R.CTX_REND_CODEC_AMP ch r) .amp ++ [.signDataHiding, .transformSkip]) ++
  on (decide (s.getIn (R.CTX_GOP_LTR_MARK ch) snap = 1)) .longTermReferences

/-- The bitstream slices of a unit: of each band one per tile column, in tile-column order (R284, R285). -/
def State.sliceHeads (s : State) (u : UnitSt) : List SliceHead :=
  let bands := if s.subframe u.ch then 1 else s.rendBands u.ch u.rend u.snap
  (List.range bands).flatMap (fun b => (List.range u.cols.length).map (fun c =>
    { column := c, band := u.band + b, ctus := s.sliceCtus u c (u.band + b), rectangular := s.flag (R.CTX_REND_CODEC_CODEC u.ch u.rend) }))

/-- The rate and buffer of a rendition as its parameter sets give them, with the time that the model's fullness before the unit takes to arrive (R364,
log 124). -/
def State.hrdOf (s : State) (u : UnitSt) : HrdParams :=
  let rate := s.getIn (R.RC_REND_RATE_RATE_KBPS u.ch u.rend) (s.snapNow u.ch)
  { rate := rate, size := s.cpbSize u.ch u.rend, cbr := !s.cpbVbr u.ch u.rend, delay := u.initF * 90 / rate }

/-- The messages of R463 that a unit carries: those of its picture, in the picture's first unit that is released after the hand-over at which they were
taken; a time code only in HEVC (log 133). -/
def State.seiOf (s : State) (u : UnitSt) : List Sei :=
  let l := (((s.chan u.ch).past.find? (fun f => decide (f.n = u.src))).map (·.sei)).getD []
  if (s.rend u.ch u.rend).seiAt = u.snap then []
  else if s.flag (R.CTX_REND_CODEC_CODEC u.ch u.rend) then l.filter (fun m => match m with
    | .timeCode _ => false
    | .captions _ => true
    | .afd _ => true)
  else l

/-- The headers of a unit. Parameter sets and the HDR messages stand with every IRAP picture and every start of a refresh cycle, with the values of the
snapshot that took effect there (R295); a cycle start carries a recovery point of p − 1 pictures, as a message in HEVC and as a GDR picture in VVC
(R326). -/
def State.heads (s : State) (u : UnitSt) : UnitHeads :=
  let ch := u.ch
  let r := u.rend
  let vvc := s.flag (R.CTX_REND_CODEC_CODEC ch r)
  let first := decide (u.band = 0) && (u.irap || u.recovery.isSome)
  { irap := u.irap, idr := u.idr, sets := first, vvc := vvc, profile := s.get (R.CTX_REND_CODEC_PROFILE ch r),
    high := s.flag (R.CTX_REND_CODEC_TIER ch r), level := s.get (R.CTX_REND_CODEC_LEVEL ch r), ctu := s.ctuSize ch r,
    depth := s.rendDepth ch r u.snap, c420 := s.rend420 ch r, columns := (List.range (s.columns ch r)).map (s.colWidth ch r u.snap),
    uniform := s.flag (R.CTX_REND_TILES_UNIFORM ch r) && !vvc, tools := s.tools ch r u.snap, colour := (s.regIn (K.CTX_COLOUR ch) u.vui).toNat,
    mdcv := if first ∧ s.getIn (R.CTX_COLOUR_MDCV_EN ch) u.vui = 1 then some ((List.range 6).map (fun i => (s.regIn (K.CTX_MDCV ch i) u.vui).toNat)) else none,
    cll := if first ∧ s.getIn (R.CTX_COLOUR_CLL_EN ch) u.vui = 1 then some (s.regIn (K.CTX_CLL ch) u.vui).toNat else none,
    hrd := if first then some (s.hrdOf u) else none,
    recovery := if vvc then none else u.recovery, gdr := vvc && u.recovery.isSome, sei := s.seiOf u, slices := s.sliceHeads u }

/-- The sizes of a unit's NAL units: of coded slices there is one for each bitstream slice, in its order (R285). -/
def State.unitNals (s : State) (u : UnitSt) (n : UnitNals) : UnitNals :=
  { n with slices := (List.range (s.sliceHeads u).length).map (fun i => n.slices.getD i 0) }

end Sys2Proof.Machine
end

