-- ==== Sys2Proof/Machine/Transport.lean ====
section
/-! DEFINITION. The transport multiplexer: release units, transport streams, MUX tasks, ancillary data, splice conversion, audio and
uncompressed video on egress (11_egress.md R455 to R469, R484, R485, and 08_rate_and_delay.md R385). -/

namespace Sys2Proof.Machine

/-! ### Streams -/

/-- What the model keeps of a stream. -/
def State.str (s : State) (i : Nat) : StrSt := tget (fun _ => {}) s.strs i

/-- Replace what the model keeps of a stream. -/
def State.setStr (s : State) (i : Nat) (x : StrSt) : State := { s with strs := tset (fun _ => {}) s.strs i x }

/-- Whether a stream builds (R488). -/
def State.strOn (s : State) (i : Nat) : Bool := s.flag R.MUX_CTRL_ENABLE && s.flag (R.MUX_STR_CFG_ENABLE i)

/-- Whether a stream is an enabled transport stream. -/
def State.tsOn (s : State) (i : Nat) : Bool :=
  s.strOn i && (decide (s.get (R.MUX_STR_CFG_FORMAT i) = 1) || decide (s.get (R.MUX_STR_CFG_FORMAT i) = 2))

/-- The transport streams of a channel. -/
def State.tsOf (s : State) (ch : Nat) : List Nat := ((List.range 8).map (fun r => 8 * ch + r)).filter (fun i => s.tsOn i)

/-- GOP_LEN of a channel in a snapshot. -/
def State.gopLen (s : State) (ch snap : Nat) : Nat := s.getIn (R.CTX_GOP_GOP_LEN ch) snap

/-- PTS of a sampling instant (R458). -/
def ptsOf (inst : Int) : Nat := (ticks90 inst % 2 ^ 33).toNat

/-- The video bytes of a release unit become available to its stream; the first unit of an access unit begins a PES with PTS and, with
GOP_LEN above 1, DTS (R456, R458). -/
def State.streamVideo (s : State) (u : UnitSt) (n : UnitNals) : State :=
  let i := 8 * u.ch + u.rend
  if !s.tsOn i then s
  else
    let bytes := n.heads.foldl (· + ·) 0 + n.slices.foldl (· + ·) 0
    let g := s.gopLen u.ch u.snap
    let dts := ptsOf (s.tSample u.ch u.idx - (g - 1 : Nat) * s.period u.ch)
    let part : TsPart :=
      if u.band = 0 then
        { left := bytes + (if 1 < g then 19 else 14), pid := s.get (R.MUX_STR_TS_VIDEO_PID i),
          info := if 1 < g then [ptsOf u.inst, dts] else [ptsOf u.inst] }
      else { left := bytes, start := false, pid := s.get (R.MUX_STR_TS_VIDEO_PID i) }
    s.setStr i { s.str i with video := (s.str i).video ++ [part] }

/-! ### Release of coded units (R26, R36, R385, R448) -/

/-- A picture's last unit has left rendition 0: it is counted as original or repeat (20_conservation.md R696, R697). -/
def State.countPicture (s : State) (u : UnitSt) : State :=
  let x := s.rend u.ch u.rend
  let rep := x.allRep && u.rep
  if s.lastOfPicture u then
    let s := s.setRend u.ch u.rend { x with allRep := true }
    if u.rend = 0 then (s.inc (R.CONS_CH_COUNT u.ch (if rep then 1 else 0))).dec (R.CONS_CH_COUNT u.ch 2) else s
  else s.setRend u.ch u.rend { x with allRep := rep }

/-- A staged unit is released: it leaves the buffer model, and its packets and bytes go to its flows and its stream. -/
def State.releaseUnit (s : State) (u : UnitSt) (n : UnitNals) : State :=
  let s := { s with units := s.units.filter (fun v => !v.same u) }
  let s := (s.removeUnit u).inc R.RC_CNT_RELEASED_COUNT
  let h := s.heads u
  let s := (s.countPicture u).emit (.unit u.ch u.rend u.idx u.band h)
  let s := if h.sei = [] then s else s.setRend u.ch u.rend { s.rend u.ch u.rend with seiAt := u.snap }
  let n := s.unitNals u n
  let i := 8 * u.ch + u.rend
  let s := if s.strOn i then
      (s.flowsOf 0 1 i).foldl (fun s f => s.presentLocal f (some (s.unitRelease u)) (s.videoFrames f u.inst (s.lastOfPicture u) n)) s
    else s
  s.streamVideo u n

/-- The release time of a rendition's next unit comes: the unit is released, or is overdue if it is not staged (R26, R36, R385). -/
def State.releaseNext (s : State) (ch r : Nat) (n : UnitNals) : State :=
  match (s.unitsOf ch r).head? with
  | none => s
  | some u =>
    if u.overdue ∨ !s.reached (s.unitRelease u) then s
    else if u.staged then s.releaseUnit u n
    else s.putUnit { u with overdue := true }

/-- SLICE_RELEASE (R26). -/
def execSliceRelease (ch : Chan) (r : Rend) (n : UnitNals) (now : Nat) (s : State) : Out :=
  whenLive s (fun s =>
    let s := (s.advance now).releaseStaged (fun f => decide (s.get (R.EGR_FLOW_SRC_STREAM f) = 8 * ch + r))
    if s.subframe ch then s.releaseNext ch r n else s)

/-- PICTURE_RELEASE (R36). -/
def execPictureRelease (ch : Chan) (r : Rend) (n : UnitNals) (now : Nat) (s : State) : Out :=
  whenLive s (fun s =>
    let s := (s.advance now).releaseStaged (fun f => decide (s.get (R.EGR_FLOW_SRC_STREAM f) = 8 * ch + r))
    if s.subframe ch then s else s.releaseNext ch r n)

/-- LATE_RELEASE: a unit that was not staged at its release time is released as soon as it is (R385). -/
def State.lateRelease (s : State) (ch r : Nat) (n : UnitNals) : State :=
  match (s.unitsOf ch r).head? with
  | none => s
  | some u =>
    if u.overdue ∧ u.staged then
      let s := (s.releaseUnit u n).inc R.RC_CNT_RELEASE_LATE_COUNT
      let s := if s.flag R.RC_STATUS_VALID then s else (s.set R.RC_STATUS_LATE_CHANNEL ch).setFlag R.RC_STATUS_VALID true
      s.report 406 kNone (BitVec.ofNat 64 ch)
    else s

/-- LATE_RELEASE. -/
def execLateRelease (ch : Chan) (r : Rend) (n : UnitNals) (now : Nat) (s : State) : Out :=
  whenLive s (fun s => (s.advance now).lateRelease ch r n)

/-! ### MUX tasks (R468, R469) -/

/-- Fields of a MUX payload (R468). -/
def muxStream (p : List Nat) : Nat := p.getD 0 0 % 65536
def muxKind (p : List Nat) : Nat := p.getD 0 0 / 2 ^ 16 % 256
def muxPid (p : List Nat) : Nat := p.getD 0 0 / 2 ^ 32 % 65536
def muxLength (p : List Nat) : Nat := p.getD 1 0 % 2 ^ 32
def muxAddr (p : List Nat) : Nat := p.getD 2 0
def muxAt (p : List Nat) : Nat := p.getD 3 0

/-- Whether ISSUE refuses a MUX task with EDESC (R469). -/
def State.muxBad (s : State) (ch : Nat) (p : List Nat) : Bool :=
  let i := muxStream p
  let pid := muxPid p
  decide (i / 8 ≠ ch) || !(decide (s.get (R.MUX_STR_CFG_FORMAT i) = 1) || decide (s.get (R.MUX_STR_CFG_FORMAT i) = 2)) ||
    decide (pid = s.get (R.MUX_STR_TS_PMT_PID i)) || decide (pid = s.get (R.MUX_STR_TS_VIDEO_PID i)) ||
    decide (pid = s.get (R.MUX_STR_TS_AUDIO_PID i)) || decide (pid = s.get (R.MUX_STR_TS_SCTE35_PID i)) ||
    (decide (muxKind p ≠ 1) && decide (muxKind p ≠ 2)) || decide ((if muxKind p = 1 then 65536 else 4096) < muxLength p) ||
    !mappedRange (muxAddr p) (muxLength p) || decide (pid < 0x20) || decide (0x1FFE < pid) ||
    decide (p.getD 0 0 / 2 ^ 24 % 256 ≠ 0) || decide (p.getD 0 0 / 2 ^ 48 ≠ 0) || decide (p.getD 1 0 / 2 ^ 32 ≠ 0)

/-- A MUX task starts: its block waits for its stream, and is read only while it is placed (R468, R469). -/
def State.muxStart (s : State) (t : Nat) : State :=
  let p := (s.task t).d.payload
  let i := muxStream p
  let part : TsPart := { left := muxLength p, pid := muxPid p, sect := decide (muxKind p = 2), due := muxAt p, task := some t, src := muxAddr p }
  s.setStr i { s.str i with mux := (s.str i).mux ++ [part] }

/-! ### Datagrams (R456 to R461) -/

/-- The cadence time of datagram j on the raw counter, in 2^-32 ns (R456). -/
def State.cadence (s : State) (i : Nat) (x : StrSt) : Nat :=
  x.t0.getD 0 + x.j * s.get (R.MUX_STR_CFG_TS_PER_DGRAM i) * 1504 * 1000000 * 2 ^ 32 / s.get (R.MUX_STR_RATE_TS_RATE_KBPS i)

/-- The next continuity counter of a PID. -/
def StrSt.cont (x : StrSt) (pid : Nat) : Nat × StrSt :=
  let c := tget (fun _ => 0) x.cc pid
  (c, { x with cc := tset (fun _ => 0) x.cc pid ((c + 1) % 16) })

/-- Take up to m bytes from the head of a list of parts: bytes taken, the part they came from, the rest, and the MUX task that is now
placed whole. -/
def takePart (m : Nat) : List TsPart → Option (Nat × TsPart × List TsPart × Option Nat)
  | [] => none
  | p :: t =>
    let k := min p.left (if p.start ∧ p.sect then m - 1 else m)
    if p.left ≤ k then some (k, p, t, p.task) else some (k, p, { p with left := p.left - k, start := false } :: t, none)

/-- A packet of a part. -/
def StrSt.packet (x : StrSt) (p : TsPart) (k : Nat) : TsPkt × StrSt :=
  let (c, x) := x.cont p.pid
  ({ pid := p.pid, cc := c, start := p.start, payload := k, info := if p.start then p.info else [] }, x)

/-- The fields of PAT and PMT (R455): transport_stream_id, program_number and PMT_PID; program_number, PCR PID and the type and PID of each elementary
stream. A PID for audio or SCTE-35 stands in PMT where the stream carries it. -/
def State.psiInfo (s : State) (i : Nat) : List Nat × List Nat :=
  let video := s.get (R.MUX_STR_TS_VIDEO_PID i)
  let scte := s.get (R.MUX_STR_TS_SCTE35_PID i)
  ([i, 1, s.get (R.MUX_STR_TS_PMT_PID i)],
   [1, video, if s.flag (R.CTX_REND_CODEC_CODEC (i / 8) (i % 8)) then 0x33 else 0x24, video] ++
     (if s.flag (R.MUX_STR_CFG_AUDIO_EN i) then [0x06, s.get (R.MUX_STR_TS_AUDIO_PID i)] else []) ++ (if scte ≠ 0 then [0x86, scte] else []))

/-- What one datagram's filling works with: the stream, the bytes of memory that MUX blocks come from, whether PCR is due and its value and
discontinuity, whether PAT and PMT are due and their fields, the packets so far, and the MUX tasks placed whole. -/
structure Fill where
  x : StrSt
  rd : Nat → Nat → List (BitVec 8) := fun _ _ => []
  tables : List Nat × List Nat := ([], [])
  pcr : Option Nat
  disc : Bool
  psi : Nat
  now : Int
  pids : Nat × Nat
  pkts : List TsPkt := []
  placed : List Nat := []
  scteSent : Nat := 0

/-- One packet of a datagram, by the precedence of R456. -/
def Fill.step (f : Fill) : Fill :=
  let put := fun (p : TsPkt) (x : StrSt) => { f with x := x, pkts := f.pkts ++ [p] }
  match f.pcr with
  | some v =>
    match takePart 176 f.x.video with
    | some (k, p, t, _) =>
      let (q, x) := { f.x with video := t }.packet p k
      { put { q with pcr := some v, disc := f.disc } x with pcr := none }
    | none => { put { pid := f.pids.1, cc := tget (fun _ => 0) f.x.cc f.pids.1, pcr := some v, disc := f.disc } f.x with pcr := none }
  | none =>
    if f.psi = 2 then
      let (q, x) := f.x.packet { left := 0, pid := 0, sect := true, info := f.tables.1 } 184
      { put q x with psi := 1 }
    else if f.psi = 1 then
      let (q, x) := f.x.packet { left := 0, pid := f.pids.2, sect := true, info := f.tables.2 } 184
      { put q x with psi := 0 }
    else match takePart 184 f.x.scte with
      | some (k, p, t, _) =>
        let (q, x) := { f.x with scte := t }.packet p k
        { put q x with scteSent := f.scteSent + 1 }
      | none =>
        match (f.x.mux.find? (fun p => decide (p.due ≤ f.now))) with
        | some p =>
          let k := min p.left (if p.start ∧ p.sect then 183 else 184)
          let (q, x) := f.x.packet p k
          let q := { q with data := f.rd p.src k }
          if p.left ≤ k then
            { put q { x with mux := x.mux.erase p } with placed := f.placed ++ p.task.toList }
          else put q { x with mux := x.mux.map (fun y => if y = p then { p with left := p.left - k, start := false, src := p.src + k } else y) }
        | none =>
          match takePart 184 f.x.audio with
          | some (k, p, t, _) =>
            let (q, x) := { f.x with audio := t }.packet p k
            put q x
          | none =>
            match takePart 184 f.x.video with
            | some (k, p, t, _) =>
              let (q, x) := { f.x with video := t }.packet p k
              put q x
            | none => put { pid := 0x1FFF } f.x

/-- Fill n packets. -/
def Fill.run : Nat → Fill → Fill
  | 0, f => f
  | n + 1, f => (f.step).run n

/-- The next datagram of a stream is filled and released (R456, R457, R461). -/
def State.tsDatagram (s : State) (i : Nat) : State :=
  let x := s.str i
  let raw := s.cadence i x
  let n := s.get (R.MUX_STR_CFG_TS_PER_DGRAM i)
  let next := s.cadence i { x with j := x.j + 1 }
  let steps := s.get (R.TB_CNT_COUNT 2)
  let disc := decide (x.steps ≠ steps)
  let due := disc || x.pcrAt.elim true (fun a => decide (a + s.get (R.MUX_STR_RATE_PCR_INTERVAL_MS i) * 1000000 * 2 ^ 32 ≤ raw))
  let tdg := s.localAt (raw / 2 ^ 32)
  let v := (tdg - s.get (R.MUX_STR_RATE_PCR_LAG_US i) * 1000) * 27 / 1000
  let pcr := ((v / 300 % 2 ^ 33) * 300 + v % 300).toNat
  let psi := x.psiAt.elim true (fun a => decide (a + 100000000 * 2 ^ 32 < next))
  let f : Fill := { x := x, rd := s.bytes, tables := s.psiInfo i, pcr := if due then some pcr else none, disc := disc, psi := if psi then 2 else 0, now := s.now,
                    pids := (s.get (R.MUX_STR_TS_VIDEO_PID i), s.get (R.MUX_STR_TS_PMT_PID i)) }
  let f := f.run n
  let x := { f.x with j := x.j + 1, steps := steps, pcrAt := if due then some raw else x.pcrAt, psiAt := if psi then some raw else x.psiAt }
  let s := s.setStr i x
  let s := if due then s.inc (R.MUX_CNT_COUNT 3) else s
  let s := s.add (R.MUX_CNT_COUNT 1) f.scteSent
  let s := f.placed.foldl (fun s t => (s.endTask t 0 (s.costNow t))) s
  (s.flowsOf 2 3 i).foldl (fun s g =>
    s.presentLocal g (some (tdg * 2 ^ 32)) [{ flow := g, ts := (ticks90 (tdg * 2 ^ 32) % 2 ^ 32).toNat, len := s.frameLen g (188 * n), body := .ts f.pkts }]) s

/-- TS_DATAGRAM_RELEASE (R456). -/
def execTsDatagramRelease (i : Fin 2048) (now : Nat) (s : State) : Out :=
  whenLive s (fun s =>
    let s := (s.advance now).releaseStaged (fun f => decide (2 ≤ s.egKind f) && decide (s.egKind f ≤ 3) && decide (s.get (R.EGR_FLOW_SRC_STREAM f) = i))
    let x := s.str i
    if s.tsOn i ∧ x.t0.isSome ∧ s.get (R.MUX_STR_RATE_TS_RATE_KBPS i) ≠ 0 ∧ s.cadence i x ≤ s.raw * 2 ^ 32 then s.tsDatagram i else s)

/-! ### Skip units (R485) -/

/-- Split a list into pieces of n. -/
def chunks (n : Nat) (l : List TsPkt) : List (List TsPkt) :=
  (List.range (ceilDiv l.length n)).map (fun i => (l.drop (i * n)).take n)

/-- The skip unit of band or picture k of frame n as datagrams of a transport-stream flow, in whole packets of its video PID that carry its PTS and take
the continuity counters that the missing unit would have taken (R458, R485). -/
def State.skipDatagrams (s : State) (f n k : Nat) (nals : UnitNals) : State × List TxFrame :=
  let i := s.get (R.EGR_FLOW_SRC_STREAM f)
  let x := s.str i
  let per := s.get (R.MUX_STR_CFG_TS_PER_DGRAM i)
  let bytes := nals.heads.foldl (· + ·) 0 + nals.slices.foldl (· + ·) 0
  let part : TsPart := if k = 0 then { left := bytes + 14, pid := s.get (R.MUX_STR_TS_VIDEO_PID i), info := [ptsOf (s.tSample (i / 8) n)] }
    else { left := bytes, start := false, pid := s.get (R.MUX_STR_TS_VIDEO_PID i) }
  let g := ({ x := { x with scte := [], mux := [], audio := [], video := [part] }, pcr := none, disc := false, psi := 0, now := s.now, pids := (0, 0) } :
    Fill).run (ceilDiv (ceilDiv part.left 184) per * per)
  (s.setStr i { x with cc := g.x.cc },
   (chunks per g.pkts).map (fun d => { flow := f, ts := (ticks90 (s.now * 2 ^ 32) % 2 ^ 32).toNat, len := s.frameLen f (188 * d.length), body := .ts d }))

/-- SKIP_UNIT_EMIT: at a release time of a gated coded-video flow for which no accepted unit was emitted, the skip unit of band or picture goes out in its
place (R485). Band k of frame n, or picture n. -/
def execSkipUnitEmit (f : FlowId) (n k : Nat) (nals : UnitNals) (now : Nat) (s : State) : Out :=
  whenLive s (fun s =>
    let s := (s.advance now).releaseStaged (fun g => decide (g = f.val))
    let ch := s.get (R.EGR_FLOW_SRC_STREAM f) / 8
    let t := s.releaseTime ch n k
    if s.flag (R.EGR_FLOW_CTRL_ENABLE f) ∧ s.flag (R.EGR_FLOW_CTRL_GATED f) ∧ s.egKind f ≤ 3 ∧ s.reached t ∧ s.skipDue f t then
      let last := !s.subframe ch || decide (s.bandCount ch ≤ k + 1)
      let s := (s.setFlowTx f { s.flowTx f with lastRel := some t }).inc (R.EGR_FLOW_CNT_COUNT f 9)
      if s.egKind f ≤ 1 then s.sendUnit f (s.videoFrames f (s.tSample ch n) last nals)
      else
        let (s, l) := s.skipDatagrams f n k nals
        s.sendUnit f l
    else s)

/-! ### Splices and ancillary data (R462 to R465) -/

/-- T_sample of a snapshot's frame. -/
def State.sampleInst (s : State) (ch snap : Nat) : Int := s.tSample ch (s.frameOfSnap ch snap)

/-- A target's section joins every transport stream of the channel with a SCTE35_PID (R465). -/
def State.scteSend (s : State) (ch : Nat) (t : Scte) (cancel : Bool) : State :=
  ((s.tsOf ch).filter (fun i => decide (s.get (R.MUX_STR_TS_SCTE35_PID i) ≠ 0))).foldl (fun s i =>
    let part : TsPart := { left := if cancel then 25 else 35, pid := s.get (R.MUX_STR_TS_SCTE35_PID i), sect := true,
                           info := if cancel then [t.id, 1] else [t.id, 0, t.prog, if t.outNet then 1 else 0, ptsOf (s.sampleInst ch t.snap)] }
    s.setStr i { s.str i with scte := (s.str i).scte ++ [part] }) s

/-- The target snapshot of a request (R464): the first t with T_frame(t) at or after T_frame(s) + pre-roll, and at least C + 2. -/
def State.spliceTarget (s : State) (ch snap preMs : Nat) (immediate : Bool) : Nat :=
  let c := s.snapNow ch + 2
  if immediate ∨ s.period ch = 0 then c else max c (snap + ceilDiv (preMs * 1000000 * 2 ^ 32) (s.period ch))

/-- One splice request (R464): each that is received posts SPLICE (R98). -/
def State.spliceOne (s : State) (ch snap : Nat) (q : Nat × Nat × Nat × Nat) : State :=
  let (ty, id, prog, pre) := q
  let s := (s.inc (R.MUX_CNT_COUNT 0)).postCh ch 8
  if ty = 5 then
    match (s.chan ch).splices.find? (fun p => decide (p.2 = id)) with
    | none => s
    | some p =>
      let c := s.chan ch
      let s := s.setChan ch { c with splices := c.splices.erase p, sctes := c.sctes.filter (fun t => decide (t.id ≠ id)) }
      (((s.showSplices ch).inc (R.MUX_CNT_COUNT 2))).scteSend ch ⟨p.1, id, prog, false, s.raw⟩ true
  else if ty = 0 ∨ 5 < ty then s
  else
    let t := s.spliceTarget ch snap pre (ty = 2 || ty = 4)
    if 4 ≤ (s.chan ch).splices.length then s.addSplice ch t id
    else
      let s := s.addSplice ch t id
      let r : Scte := ⟨t, id, prog, ty ≤ 2, s.raw⟩
      (s.setChan ch { s.chan ch with sctes := (s.chan ch).sctes ++ [r] }).scteSend ch r false

/-- Address of a channel's ancillary entry for a snapshot (R462). -/
def State.ancEntry (s : State) (ch snap : Nat) : Nat := s.get (R.MUX_ANC_BASE_BASE ch) * 2048 + snap % 16 * 2048

/-- The ANC data of entry `snap`, if the ring holds it (R462). -/
def State.ancData (s : State) (ch snap : Nat) : Option (List (BitVec 8)) :=
  let a := s.ancEntry ch snap
  if s.flag (R.MUX_ANC_BASE_ENABLE ch) ∧ s.rd a 8 = snap then some (s.bytes (a + 16) (s.rd (a + 8) 2)) else none

/-- The ANC packets of an entry whose DID and SDID are those of SCTE-104 become splice targets (R463, R464). -/
def State.spliceConvert (s : State) (ch snap : Nat) : State :=
  match s.ancData ch snap with
  | none => s
  | some d =>
    (((ancPackets 64 d).getD []).filter (fun p => decide (p.1 % 256 = 0x41) && decide (p.2.1 % 256 = 0x07))).foldl (fun s p =>
      (Config.spliceRequests p.2.2).foldl (fun s q => s.spliceOne ch snap q) s) s

/-- SCTE35_RESEND: sections are sent again every second while the target picture's release time lies in the future (R465). -/
def State.scteResend (s : State) (ch : Nat) : State :=
  let c := s.chan ch
  match c.sctes.find? (fun t => decide (t.sentAt + 1000000000 ≤ s.raw)) with
  | none => s
  | some t =>
    if s.releaseTime ch (s.frameOfSnap ch t.snap) 0 ≤ s.now * 2 ^ 32 then s.setChan ch { c with sctes := c.sctes.erase t }
    else (s.setChan ch { c with sctes := c.sctes.map (fun u => if u = t then { t with sentAt := s.raw } else u) }).scteSend ch t false

/-- SCTE35_RESEND. -/
def execScte35Resend (ch : Chan) (now : Nat) (s : State) : Out := whenLive s (fun s => (s.advance now).scteResend ch)

/-- ANC_PACKET_RELEASE: at T_frame(n) + D the ANC packets of frame n leave on the channel's KIND 7 flows (R449, R463). -/
def State.ancRelease (s : State) (ch : Nat) : State :=
  let c := s.chan ch
  let snap := s.snapOf ch c.ancN
  let s := s.setChan ch { c with ancN := c.ancN + 1 }
  match s.ancData ch snap with
  | none => s
  | some d =>
    (s.egrOn.filter (fun f => decide (s.egKind f = 7) && decide (s.get (R.EGR_FLOW_SRC_STREAM f) / 8 = ch))).foldl (fun s f =>
      s.presentLocal f none [{ flow := f, ts := (ticks90 (s.sampleInst ch snap) % 2 ^ 32).toNat, marker := true,
                               len := s.frameLen f (8 + d.length), body := .anc d }]) s

/-- ANC_PACKET_RELEASE. -/
def execAncPacketRelease (ch : Chan) (now : Nat) (s : State) : Out :=
  whenLive s (fun s =>
    let s := (s.advance now).releaseStaged (fun f => decide (s.egKind f = 7) && decide (s.get (R.EGR_FLOW_SRC_STREAM f) / 8 = ch))
    let c := s.chan ch
    if c.running ∧ s.flag R.MUX_CTRL_ENABLE ∧ s.reached (s.tFrame ch c.ancN + ns (s.delayNs ch)) ∧ c.ancN < c.handed + c.first then s.ancRelease ch else s)

/-! ### Audio and uncompressed video (R459, R466, R467) -/

/-- The values that a buffer's channels deliver in the current period. -/
def State.delivered (s : State) (b lo n : Nat) : List Nat := (List.range n).map (fun c => tget (fun _ => 0) (s.sb b).last (lo + c))

/-- An audio flow takes the sample of this period; its packet leaves with its last sample (R449, R466). A gated flow without an accepted unit sends each
channel's last sample in its place (R485). -/
def State.audioFlow (s : State) (f : Nat) : State :=
  let b := s.get (R.EGR_FLOW_SRC_AUD_BUF f)
  let n := s.readPos b
  let k : Nat := (if s.flag (R.EGR_FLOW_SRC_PTIME125 f) then 6 else 48) * (if s.flag (R.AUD_SB_CFG_RATE96 b) then 2 else 1)
  let v := s.delivered b (s.get (R.AUD_FLOW_MAP_FIRST_CH f)) (s.get (R.AUD_FLOW_MAP_CHANNELS f))
  let x := s.flowTx f
  let x := if n % (k : Int) = 0 then { x with aud := [v], audN := n.toNat } else if x.aud = [] then x else { x with aud := x.aud ++ [v] }
  if x.aud.length = k then
    let frame : TxFrame := { flow := f, ts := x.audN % 2 ^ 32, body := .audio x.audN x.aud,
                             len := s.frameLen f (k * s.get (R.AUD_FLOW_MAP_CHANNELS f) * s.wireSample f) }
    let s := (s.setFlowTx f { x with aud := [] }).presentLocal f none [frame]
    let y := s.flowTx f
    let s := s.setFlowTx f { y with got := false }
    if s.flag (R.EGR_FLOW_CTRL_GATED f) ∧ !y.got then
      let held := (List.range (s.get (R.AUD_FLOW_MAP_CHANNELS f))).map (fun c => y.held.getD c 0)
      s.sendUnit f [{ frame with body := .audio x.audN (List.replicate k held) }]
    else s
  else s.setFlowTx f x

/-- The frame period that media sample r of a stream's channel falls in: the last n with N(T_frame(n)) ≤ r (R415, R459). -/
def State.sampleFrame (s : State) (i : Nat) (r : Int) : Int :=
  let fs : Int := rateOf (s.flag (R.AUD_SB_CFG_RATE96 (s.get (R.MUX_STR_CFG_AUDIO_BUF i))))
  ((r + 1) * (1000000000 * 2 ^ 32) - s.tFrame (i / 8) 0 * fs - 1) / (s.period (i / 8) * fs)

/-- The samples gathered for a frame period become an ST 302M PES (R459). -/
def State.audioPes (s : State) (i : Nat) : State :=
  let x := s.str i
  let fs := rateOf (s.flag (R.AUD_SB_CFG_RATE96 (s.get (R.MUX_STR_CFG_AUDIO_BUF i))))
  let part : TsPart := { left := 14 + 4 + x.aud.length * s.get (R.MUX_STR_CFG_AUDIO_PAIRS i) * 7, pid := s.get (R.MUX_STR_TS_AUDIO_PID i),
                         info := [x.audN * 90000 / fs % 2 ^ 33] }
  s.setStr i { x with audio := x.audio ++ [part], aud := [] }

/-- A transport stream's ST 302M takes the sample of this period. A PES begins with the first sample of a frame period and ends with its last one; what
a jump of the sample number cuts off is not sent (R459, log 133). -/
def State.audioStream (s : State) (i : Nat) : State :=
  let b := s.get (R.MUX_STR_CFG_AUDIO_BUF i)
  let r := s.readPos b
  let x := s.str i
  let v := s.delivered b (s.get (R.MUX_STR_CFG_AUDIO_CH i)) (2 * s.get (R.MUX_STR_CFG_AUDIO_PAIRS i))
  let n := s.sampleFrame i r
  let kept := if x.aud ≠ [] ∧ r = x.audN + x.aud.length then x.aud else []
  if !s.gridOn (i / 8) ∨ n < 0 ∨ r < 0 ∨ (kept = [] ∧ s.sampleFrame i (r - 1) = n) then s.setStr i { x with aud := [] }
  else
    let s := s.setStr i { x with aud := kept ++ [v], audN := if kept = [] then r.toNat else x.audN }
    if s.sampleFrame i (r + 1) = n then s else s.audioPes i

/-- MEDIA_SAMPLE_PERIOD: one period of the 48 kHz or of the 96 kHz buffers and ports (R418, R428, R449, R459, R466). -/
def execMediaSamplePeriod (r96 : Bool) (now : Nat) (s : State) : Out :=
  whenLive s (fun s =>
    let s := ((s.advance now).mediaPeriod r96).releaseStaged (fun f => decide (s.egKind f = 5) || decide (s.egKind f = 6))
    let s := (s.egrOn.filter (fun f => (decide (s.egKind f = 5) || decide (s.egKind f = 6)) &&
      (s.flag (R.AUD_SB_CFG_RATE96 (s.get (R.EGR_FLOW_SRC_AUD_BUF f))) == r96) && s.sbOn (s.get (R.EGR_FLOW_SRC_AUD_BUF f)))).foldl
        (fun s f => s.audioFlow f) s
    ((List.range 2048).filter (fun i => s.tsOn i && s.flag (R.MUX_STR_CFG_AUDIO_EN i) &&
      (s.flag (R.AUD_SB_CFG_RATE96 (s.get (R.MUX_STR_CFG_AUDIO_BUF i))) == r96))).foldl (fun s i => s.audioStream i) s)

/-- The messages that an ANC packet becomes (R463). -/
def ancSei (p : Nat × Nat × List Nat) : List Sei :=
  match p.1 % 256, p.2.1 % 256 with
  | 0x61, 0x01 => [.captions p.2.2]
  | 0x41, 0x05 => [.afd p.2.2]
  | 0x60, 0x60 => [.timeCode p.2.2]
  | _, _ => []

/-- A frame that is handed over is kept with its sampling instant (R454). -/
def State.keepFrame (s : State) (ch n : Nat) : State :=
  let c := s.chan ch
  let f : SrcFrame := { n := n, inst := (s.frameSt ch n).elim (s.gridInst ch n) (·.inst) }
  s.setChan ch { c with past := f :: c.past.take 511 }

/-- The captions, AFD and time code of a snapshot's entry become messages of its picture (R463). -/
def State.keepSei (s : State) (ch snap : Nat) : State :=
  let c := s.chan ch
  let l := ((s.ancData ch snap).bind (ancPackets 64)).getD []
  s.setChan ch { c with past := c.past.map (fun f => if f.n = s.frameOfSnap ch snap then { f with sei := l.flatMap ancSei } else f) }

/-- What the multiplexer does at a hand-over of a channel: T0 of its streams, and the ancillary entry of the snapshot before (R456, R463). -/
def State.muxHandover (s : State) (ch snap : Nat) : State :=
  let s := s.keepFrame ch (s.frameOfSnap ch snap)
  let s := (s.tsOf ch).foldl (fun s i =>
    let x := s.str i
    if x.t0.isNone then s.setStr i { x with t0 := some (s.raw * 2 ^ 32), steps := s.get (R.TB_CNT_COUNT 2) } else s) s
  if s.flag R.MUX_CTRL_ENABLE ∧ 0 < snap then (s.keepSei ch (snap - 1)).spliceConvert ch (snap - 1) else s

/-- VIDEO_PACKET_PACING: the next packet of the output frame that a KIND 4 flow sends, of `per` packets in all (R467). A gated flow without an accepted
unit sends that packet of its last picture again (R485). -/
def execVideoPacketPacing (f : FlowId) (per bytes now : Nat) (s : State) : Out :=
  whenLive s (fun s =>
    let s := s.advance now
    let ch := s.get (R.EGR_FLOW_SRC_STREAM f) / 8
    match (s.flowTx f).vid with
    | none => s
    | some (n, buf) =>
      let i := (s.flowTx f).vidI
      if s.flag (R.EGR_FLOW_CTRL_ENABLE f) ∧ s.egKind f = 4 ∧ i < per ∧ bytes ≤ s.get (R.EGR_FLOW_SRC_MAX_PAYLOAD f) ∧
          s.reached (s.tFrame ch n + (i * s.period ch / per : Nat)) then
        let last := decide (i + 1 = per)
        let s := s.setFlowTx f { s.flowTx f with vidI := i + 1, vidPer := per, vid := if last then none else some (n, buf), got := false }
        let frame : TxFrame := { flow := f, ts := (ticks90 (s.tFrame ch n) % 2 ^ 32).toNat, marker := last, len := s.frameLen f (8 + bytes), body := .pixels n i buf }
        let s := (s.releaseStaged (fun g => decide (g = f.val))).presentLocal f none [frame]
        let x := s.flowTx f
        if x.got then s.setFlowTx f { x with shown := (n, buf) }
        else if s.flag (R.EGR_FLOW_CTRL_GATED f) then s.sendUnit f [{ frame with body := .pixels x.shown.1 i x.shown.2 }]
        else s
      else s)

end Sys2Proof.Machine
end

