-- ==== Sys2Proof/Machine/Dispatcher.lean ====
section
/-! DEFINITION. The dispatcher: issue, the ready lists and the deficit round robin, dispatch, the end of tasks, the delay lists and the
tick, cancelling, and admission (04_dispatcher.md). -/

namespace Sys2Proof.Machine

/-! ### Descriptors (R149 to R153) -/

/-- A descriptor from its eight 64-bit words (R149). -/
def descOf (w : List Nat) : Desc :=
  let g := fun i => w.getD i 0
  { cls := g 0 % 256, engine := g 0 / 2 ^ 32, group := g 1 % 256, cost := g 1 / 2 ^ 32, channel := g 2 % 2 ^ 32, event := g 2 / 2 ^ 32,
    payload := [g 4, g 5, g 6, g 7],
    badReserved := decide (g 0 / 256 % 2 ^ 24 ≠ 0) || decide (g 1 / 256 % 2 ^ 24 ≠ 0) || decide (g 3 ≠ 0) }

/-- ENGINE or CHANNEL naming none or any. -/
def anyUnit : Nat := 0xFFFFFFFF

/-- The channel an issued task belongs to: a thread's bound channel, or the descriptor's for a core (R149). -/
def State.issueCh (s : State) (i : Nat) (d : Desc) : Option Nat :=
  if i < 256 then (if (s.thr i).chan < 256 then some (s.thr i).chan else none)
  else if d.channel < 256 then some d.channel else none

/-- Whether an engine is owned by a sub-frame channel. -/
def State.ownsEngine (s : State) (ch e : Nat) : Bool := s.flag (R.ENG_STATUS_OWNED e) && decide (s.get (R.ENG_STATUS_OWNER e) = ch)

/-- A task that is dispatched directly: ENC or DEC on an engine that its sub-frame channel owns (R160). -/
def State.isDirect (s : State) (ch : Option Nat) (d : Desc) : Bool :=
  (decide (d.cls = 1) || decide (d.cls = 2)) && ch.elim false (fun c => s.subframe c && decide (d.engine < 128) && s.ownsEngine c d.engine)

/-- Whether ENGINE and EVENT are values of R151 for the class. -/
def State.unitOk (s : State) (ch : Option Nat) (d : Desc) : Bool :=
  (if d.cls = 7 ∨ d.cls = 8 then true else decide (d.event = 0)) &&
  match d.cls with
  | 1 | 2 => if ch.elim false s.subframe then s.isDirect ch d else decide (d.engine < 128) || decide (d.engine = anyUnit)
  | 3 => decide (d.engine < 16) || decide (d.engine = anyUnit)
  | 4 => decide (d.engine < 8) || decide (d.engine = anyUnit)
  | 5 => decide (d.engine = anyUnit)
  | 6 => decide (d.engine < 8) || decide (d.engine = anyUnit)
  | 7 => decide (d.engine < 256) && decide (48 ≤ d.event) && decide (d.event ≤ 63)
  | _ => (decide (d.engine < 4) || decide (d.engine = anyUnit)) && decide (d.event ≤ 63)

/-- DEC descriptors that R392 refuses, or with a DEC_PARTS beyond R309. -/
def State.decBad (s : State) (ch : Nat) (p : List Nat) : Bool :=
  let (part, parts) := decPart p
  decide (p.getD 0 0 % 2 ^ 32 ≠ ch) || decide (p.getD 1 0 % 2 ^ 32 ≠ ch) || decide (parts ≤ part) || decide (16 < parts) ||
  s.tasks.any (fun q => decide (q.2.ch = some ch) && decide (q.2.d.cls = 2) && (q.2.st = .ready || q.2.st = .running) &&
    decide ((s.decOf ch).parts ≠ 0) && decide ((decPart q.2.d.payload).2 ≠ parts))

/-- Whether a reserved byte of a payload is not 0 (R152, R261, R267, R309, R440, R469). -/
def payloadReserved (d : Desc) : Bool :=
  let g := fun i => d.payload.getD i 0
  match d.cls with
  | 1 => decide (g 1 / 2 ^ 32 ≠ 0) || decide (g 3 ≠ 0)
  | 2 => decide (g 1 / 2 ^ 32 ≠ 0) || decide (g 2 ≠ 0) || decide (g 3 ≠ 0)
  | 3 => decide (g 1 / 4 ≠ 0) || decide (g 2 ≠ 0) || decide (g 3 ≠ 0)
  | 4 => decide (g 0 / 2 ^ 16 ≠ 0) || decide (g 2 ≠ 0) || decide (g 3 ≠ 0)
  | 5 => decide (g 0 / 2 ^ 24 % 256 ≠ 0) || decide (g 0 / 2 ^ 48 ≠ 0) || decide (g 1 / 2 ^ 32 ≠ 0)
  | 6 => (audTask d.payload).reserved
  | _ => d.payload.any (fun x => decide (x ≠ 0))

/-- Faults of a payload that the chapter of its class gives: R268, R392, R440 and R469. A task of a class that works on a channel needs one: a thread
bound to none receives ECLASS (R149), a core without one EDESC (log 31). -/
def State.payloadBad (s : State) (i : Nat) (ch : Option Nat) (d : Desc) : Bool :=
  payloadReserved d ||
  match d.cls, ch with
  | 2, some c => s.decBad c d.payload
  | 4, some c => s.sclBad c d.payload
  | 5, some c => s.muxBad c d.payload
  | 6, _ => s.audBad d.payload
  | c, none => decide (c < 6) && decide (256 ≤ i)
  | _, _ => false

/-- EDESC (R153). -/
def State.descBad (s : State) (i : Nat) (d : Desc) : Bool :=
  let ch := s.issueCh i d
  d.badReserved || decide (d.cls = 0) || decide (8 < d.cls) || !s.unitOk ch d || decide (31 < d.group) ||
  ch.elim false (fun c => !bitAt (s.get (R.DSP_CH_CFG_GROUP_MASK c)) d.group) ||
  (decide (256 ≤ i) && decide (256 ≤ d.channel) && decide (d.channel ≠ anyUnit)) ||
  (decide (d.cost = 0) && (decide (d.cls = 1) || decide (d.cls = 2)) && ch.elim false (fun c => !s.subframe c)) || s.payloadBad i ch d

/-- ECLASS: the class is not permitted, or a thread is bound to no channel (R116, R154). -/
def State.classBad (s : State) (i : Nat) (d : Desc) : Bool :=
  match s.issueCh i d with
  | none => decide (i < 256)
  | some c => !bitAt (s.get (R.DSP_CH_CFG_CLASS_MASK c)) (d.cls - 1)

/-! ### Issue (R116, R118, R119, R143 to R147, R186, R754) -/

/-- The lowest FREE entry among n from e. -/
def State.firstFree (s : State) : Nat → Nat → Option Nat
  | 0, _ => none
  | n + 1, e => if (s.task e).st = .free then some e else s.firstFree n (e + 1)

/-- The entry a task would take (R145, R146). -/
def State.freeEntry (s : State) (ch : Option Nat) (cls : Nat) : Option Nat :=
  let shared := if cls = 8 ∧ 1024 ≤ s.mpcHeld then none else s.firstFree 12288 4096
  match ch with
  | none => shared
  | some c => if 1024 ≤ s.get (R.DSP_CH_ENTRIES_COUNT c) then none else (s.firstFree 16 (16 * c)).orElse (fun _ => shared)

/-- The budget a class charges (R150): 0 engines, 1 proofing, 2 scaler. -/
def budgetOf (cls : Nat) : Option Nat :=
  match cls with
  | 1 | 2 => some 0
  | 3 => some 1
  | 4 => some 2
  | _ => none

/-- Whether a task is charged to its channel's window (R155, R186). -/
def State.charged (s : State) (ch : Option Nat) (d : Desc) : Option (Nat × Nat) :=
  match ch, budgetOf d.cls with
  | some c, some b => if s.isDirect ch d then none else some (c, b)
  | _, _ => none

/-- Whether the next hand-over of a channel falls in the CLK_SEQ cycle in progress and has yet to be made: a task issued now is tested against, and charged
to, the window that it opens (R187). -/
def State.handoverNow (s : State) (ch : Nat) : Bool :=
  let c := s.chan ch
  c.running && s.gridOn ch &&
  decide (s.tFrame ch (c.first + c.handed) < (s.now + ((seqNs (seqCycle s.raw + 1) : Int) - s.raw)) * 2 ^ 32)

/-- What a task may still be charged: the rest of the window in force, or of the one that a hand-over of this cycle opens. -/
def State.remain (s : State) (ch b : Nat) : Nat :=
  let f := (s.admOf ch).frame
  if s.handoverNow ch then (if b = 0 then f.1 else if b = 1 then f.2.1 else f.2.2) - tget (fun _ => 0) (s.chan ch).early b
  else s.get (R.DSP_CH_REMAIN_CU ch b)

/-- A cost is charged. -/
def State.charge (s : State) (ch b cost : Nat) : State :=
  let c := s.chan ch
  if s.handoverNow ch then s.setChan ch { c with early := tset (fun _ => 0) c.early b (tget (fun _ => 0) c.early b + cost) }
  else s.set (R.DSP_CH_REMAIN_CU ch b) (s.get (R.DSP_CH_REMAIN_CU ch b) - cost)

/-- A task becomes READY in a CLK_SEQ cycle (R159). -/
def State.makeReady (s : State) (e cyc : Nat) : State :=
  let t := s.task e
  let s := s.setTask e { t with st := .ready, order := s.readyCtr, readyCyc := cyc, readyAt := s.raw }
  let s := { s with readyCtr := s.readyCtr + 1 }
  let s := if t.d.cls ≤ 4 ∧ s.get R.HTH_PS_STATUS_STATE = 1 then s.set R.HTH_PS_STATUS_STATE 0 else s
  if t.direct ∨ t.d.cls ≥ 7 then s else s.inc (R.DSP_GROUP_READY_COUNT t.d.group)

/-- Accept a task into a FREE entry (R143, R144, R147). -/
def State.accept (s : State) (i e : Nat) (d : Desc) (ch : Option Nat) (at' : Option Nat) : State :=
  let t : TaskEntry := { gen := ((s.task e).gen + 1) % 2 ^ 17, d := d, ch := ch, issuer := i, direct := s.isDirect ch d,
                         st := .delayed, release := at'.getD 0 }
  let s := match s.charged ch d with
    | some (c, b) => s.charge c b d.cost
    | none => s
  let s := (s.setTask e t).inc (R.DSP_CNT_ISSUED_COUNT (d.cls - 1))
  let s := if e ≥ 4096 then s.dec R.DSP_STATUS_SHARED_FREE else s
  let s := if e ≥ 4096 ∧ d.cls = 8 then { s with mpcHeld := s.mpcHeld + 1 } else s
  let s := match ch with
    | some c => s.inc (R.DSP_CH_ENTRIES_COUNT c)
    | none => s
  match at' with
  | some _ => s.dec R.DSP_STATUS_DELAY_FREE
  | none => s.makeReady e (seqCycle s.raw)

/-- ESTOP, EFULL and EDELAY, in this order (R754). -/
def State.issueLate (s : State) (i : Nat) (d : Desc) (at' : Option Nat) : Option Int :=
  let th := s.thr i
  if (s.issueCh i d).elim false (fun c => (s.chan c).stopping) then some (-5)
  else if th.held ≠ [] ∨ !th.ringRoom then some (-2)
  else if at'.isSome ∧ s.get R.DSP_STATUS_DELAY_FREE = 0 then some (-6)
  else none

/-- What ISSUE answers: the value for rd, or nothing while it blocks, with whether the issue cycle's tests have been made. -/
inductive IssueAns where
  | done (rd : Word)
  | blocked (tested : Bool)
  deriving DecidableEq, Repr

/-- ISSUE and ISSUED by a context (R116, R754); `tested` for a blocked one. While DSP_CTRL.ENABLE is 0 it blocks before
any of the issue-cycle tests (DESIGN CHOICE, log 109). -/
def State.issue (s : State) (i : Nat) (d : Desc) (at' : Option Nat) (tested : Bool) : State × IssueAns :=
  if !s.flag R.DSP_CTRL_ENABLE then (s, .blocked tested)
  else if !tested ∧ s.descBad i d then (s, .done (BitVec.ofInt 64 (-1)))
  else if !tested ∧ s.classBad i d then (s, .done (BitVec.ofInt 64 (-4)))
  else if tested ∧ s.freeEntry (s.issueCh i d) d.cls = none then (s, .blocked true)
  else match s.issueLate i d at' with
    | some c => (s, .done (BitVec.ofInt 64 c))
    | none =>
      let ch := s.issueCh i d
      match s.freeEntry ch d.cls with
      | none => (s, .blocked true)
      | some e =>
        if (s.charged ch d).elim false (fun p => decide (s.remain p.1 p.2 < d.cost)) then (s, .done (BitVec.ofInt 64 (-3)))
        else
          let s := s.accept i e d ch at'
          (s, .done (BitVec.ofNat 64 (handleOf e (s.task e).gen)))

/-! ### Which unit a task may use (R160 to R162) -/

/-- Whether a named engine can take a task now: idle, or isolated, in which case the task ends ISOLATED (R156). -/
def State.engTakes (s : State) (e : Nat) : Bool :=
  decide (tget (fun _ => 0) s.busy e = 0) && (decide (s.get (R.ENG_STATUS_STATE e) = 0) || decide (s.get (R.ENG_STATUS_STATE e) = 5))

/-- The lowest-numbered free engine of a channel's declared trays that no sub-frame channel owns (R151). -/
def State.anyEngine (s : State) (ch : Nat) : Option Nat :=
  ((s.admOf ch).trays.flatMap (fun t => (List.range 8).map (fun i => 8 * t.1 + i))).foldl (fun (b : Option Nat) e =>
    if s.engFree e ∧ !s.flag (R.ENG_STATUS_OWNED e) ∧ b.elim true (fun x => decide (e < x)) then some e else b) none

/-- The lowest free pipeline of n, by unit code, or the one a task names; owned ones take no such task (R251). -/
def State.pipe (s : State) (base n : Nat) (own : Table Nat) (eng : Nat) : Option Nat :=
  let ok := fun p => decide (tget (fun _ => 0) s.busy (base + p) = 0) && decide (tget (fun _ => 0) own p = 0)
  if eng = anyUnit then (List.range n).find? ok else if ok eng then some eng else none

/-- Whether a channel declares the tray of an engine: it uses no other (R298). -/
def State.trayDeclared (s : State) (ch e : Nat) : Bool := (s.admOf ch).trays.any (fun t => decide (t.1 = e / 8))

/-- The unit that a READY task would be dispatched to now, by unit code; none where it is not eligible (R162, R304, R395). -/
def State.unitFor (s : State) (e : Nat) : Option Nat :=
  let t := s.task e
  let ch := t.ch.getD 0
  let eng := if t.d.engine = anyUnit then s.anyEngine ch
    else if s.engTakes t.d.engine ∧ (t.direct ∨ (!s.flag (R.ENG_STATUS_OWNED t.d.engine) ∧ s.trayDeclared ch t.d.engine)) then some t.d.engine else none
  match t.d.cls with
  | 1 => if s.encEligible ch t.d.payload then eng else none
  | 2 => if s.decEligible ch (decPart t.d.payload).1 then eng else none
  | 3 => (s.pipe 1000 16 s.prfOwn t.d.engine).map (fun p => 1000 + p)
  | 4 => (s.pipe 2000 8 s.sclOwn t.d.engine).map (fun p => 2000 + p)
  | 5 => some 3000
  | 6 => (s.pipe 4000 8 [] t.d.engine).map (fun p => 4000 + p)
  | _ => none

/-- READY entries that satisfy a condition, oldest first; of those made READY in one CLK_SEQ cycle the lower entry number first (R159). -/
def State.readyBy (s : State) (f : TaskEntry → Bool) : List Nat :=
  let l := s.tasks.filter (fun p => p.2.st = .ready && f p.2)
  (sortBy (fun a b => decide (a.2.readyCyc < b.2.readyCyc) || (decide (a.2.readyCyc = b.2.readyCyc) && decide (a.1 ≤ b.1))) l).map (·.1)

/-! ### Dispatch (R160 to R163) -/

/-- A pipeline or port takes a task. -/
def State.onUnit (s : State) (u e : Nat) : State := { s with busy := tset (fun _ => 0) s.busy u (e + 1) }

/-- A DEC task starts on engine u (R390, R395); on an isolated engine it ends ISOLATED. -/
def State.startDec (s : State) (u e : Nat) (h : AuHead) : State :=
  let t := s.task e
  let ch := t.ch.getD 0
  let (part, _) := decPart t.d.payload
  let no := ((s.decUnit ch part).map (·.no)).getD 0
  let s := (s.decStart ch t.d.payload h).setTask e { t with au := no }
  let s := s.inc (R.ENG_CNT_COUNT u 1)
  if s.engLost ch u then (s.decPartLost ch no).endAtOnce e 3
  else (s.onEngine u e 2).loadCtx u 1 ch 0 part (s.get (R.CTX_COMMIT_SEQ_SEQ ch))

/-- A PRF task starts: with proofing off, or while another PRF task of its channel runs, it ends UNIT_ERROR (R264, log 32); with no token for its
frame it ends DONE and records a repeat (R262). -/
def State.startPrf (s : State) (u e : Nat) : State :=
  let other := s.tasks.any (fun p => decide (p.1 ≠ e) && decide (p.2.ch = (s.task e).ch) && decide (p.2.d.cls = 3) && p.2.st = .running)
  let t := s.task e
  let ch := t.ch.getD 0
  let snap := prfFrame t.d.payload
  if other ∨ !s.flag R.PRF_CTRL_ENABLE then s.endAtOnce e 4
  else match (s.frameSt ch (s.frameOfSnap ch snap)).bind (·.token) with
    | none => (s.prfRepeat ch snap).endAtOnce e 0
    | some tok => (s.setTask e { t with au := tok }).onUnit u e

/-- An SCL task starts (R273). -/
def State.startScl (s : State) (u e : Nat) : State :=
  let t := s.task e
  if s.sclFails (t.ch.getD 0) t.d.payload then s.endAtOnce e 4 else s.onUnit u e

/-- An AUD or MUX task that moves nothing ends at once (R17, R440). -/
def State.startMove (s : State) (u e : Nat) : State :=
  let t := s.task e
  if t.d.cls = 5 then (if muxLength t.d.payload = 0 then s.endAtOnce e 0 else s.muxStart e)
  else if (audTask t.d.payload).frames = 0 ∨ (audTask t.d.payload).channels = 0 then s.endAtOnce e 0 else s.onUnit u e

/-- Dispatch entry e to unit u: it is RUNNING from now (R144). -/
def State.dispatch (s : State) (u e : Nat) (h : AuHead) : State :=
  let s := s.unlist e
  let s := s.setTask e { s.task e with st := .running, startAt := s.raw, unit := u }
  match (s.task e).d.cls with
  | 1 => s.encStart u e
  | 2 => s.startDec u e h
  | 3 => s.startPrf u e
  | 4 => s.startScl u e
  | _ => s.startMove u e

/-- READY tasks of a group for the deficit round robin, oldest first. -/
def State.groupReady (s : State) (g : Nat) : List Nat := s.readyBy (fun t => !t.direct && decide (t.d.cls < 7) && decide (t.d.group = g))

/-- Whether two tasks name the same target unit (R162): a number of 0xFFFFFFFF names none. -/
def sameTarget (a b : Desc) : Bool :=
  decide (a.engine ≠ anyUnit) && decide (a.engine = b.engine) && (decide (a.cls = b.cls) || (decide (a.cls ≤ 2) && decide (b.cls ≤ 2)))

/-- The oldest eligible task among those READY, `before` being the older ones that are not: a task does not pass an older one with its own target unit
(R162). -/
def State.eligible (s : State) (before : List Desc) : List Nat → Option (Nat × Nat)
  | [] => none
  | e :: t =>
    let d := (s.task e).d
    match (if before.any (sameTarget d) then none else s.unitFor e) with
    | some u => some (e, u)
    | none => s.eligible (d :: before) t

/-- One visit of the deficit round robin to its present group (R163): the task it dispatches, if any. A visit that goes on after a dispatch ends with
the deficit that is left. -/
def State.drrVisit (s : State) (h : AuHead) : State × Bool :=
  let g := s.drrGroup
  let next := fun (s : State) => { s with drrGroup := (g + 1) % 32, drrOpen := false }
  let l := s.groupReady g
  if l = [] then (next (if s.drrOpen then s else s.set (R.DSP_GROUP_DEFICIT_CU g) 0), false)
  else match s.eligible [] l with
    | none => (next s, false)
    | some (e, u) =>
      let q := s.get (R.DSP_GROUP_DEFICIT_CU g) + (if s.drrOpen then 0 else 64 * s.get (R.DSP_GROUP_WEIGHT_WEIGHT g))
      let c := (s.task e).d.cost
      if c > q then (next (s.set (R.DSP_GROUP_DEFICIT_CU g) q), false)
      else ({ s.set (R.DSP_GROUP_DEFICIT_CU g) (q - c) with drrOpen := true }.dispatch u e h, true)

/-- Visit up to n groups, until one task is dispatched (R161, R163, log 33). -/
def State.drrScan (s : State) (h : AuHead) : Nat → State
  | 0 => s
  | n + 1 =>
    let (s, done) := s.drrVisit h
    if done then s else s.drrScan h n

/-- TASK_DISPATCH: the round robin goes on until it has dispatched one task or has visited every group (R161, R163). -/
def execTaskDispatch (h : AuHead) (now : Nat) (s : State) : Out :=
  whenLive s (fun s => if s.flag R.DSP_CTRL_ENABLE then (s.advance now).drrScan h 33 else s)

/-- DIRECT_DISPATCH: the oldest READY task of an owned engine that is free (R160). -/
def execDirectDispatch (e : Eng) (h : AuHead) (now : Nat) (s : State) : Out :=
  whenLive s (fun s =>
    let s := s.advance now
    if !s.flag R.DSP_CTRL_ENABLE then s
    else match (s.readyBy (fun t => t.direct && decide (t.d.engine = e.val))).head? with
      | none => s
      | some t =>
        match s.unitFor t with
        | some u => s.dispatch u t h
        | none => s)

/-- Whether an ENC or DEC task is eligible for engine e (R342). -/
def State.codingWaits (s : State) (e : Nat) : Bool :=
  (s.readyBy (fun t => decide (t.d.cls ≤ 2))).any (fun t =>
    let d := (s.task t).d
    let ch := ((s.task t).ch).getD 0
    (if d.engine = anyUnit then (s.admOf ch).trays.any (fun y => decide (y.1 = e / 8)) && !s.flag (R.ENG_STATUS_OWNED e)
     else decide (d.engine = e)) &&
    (if d.cls = 1 then s.encEligible ch d.payload else s.decEligible ch (decPart d.payload).1))

/-- PROOF_START: an idle engine, with nothing to code, starts the oldest proof it may run (R342). -/
def execProofStart (e : Eng) (now : Nat) (s : State) : Out :=
  whenLive s (fun s =>
    let s := s.advance now
    if s.engFree e ∧ s.flag (R.ENG_CTRL_PROOF_HOST e) ∧ !s.codingWaits e then s.proofStart e else s)

/-! ### Events (R166 to R169) -/

/-- An event reaches a thread: an IDLE thread discards it (R99, R167). -/
def State.wake (s : State) (t e : Nat) : State := if (s.thr t).st = .idle then s else s.setEvent t e

/-- PRIO of a thread. -/
def State.prio (s : State) (t : Nat) : Nat := s.get (R.SEQ_TH_CTRL_PRIO (t / 4) (t % 4))

/-- Whether a waiting event (thread, order) is posted before another: priority, then thread number, then age (R166). -/
def State.postsFirst (s : State) (a b : Nat × Nat) : Bool :=
  decide (s.prio b.1 < s.prio a.1) || (decide (s.prio a.1 = s.prio b.1) && (decide (a.1 < b.1) || (decide (a.1 = b.1) && decide (a.2 ≤ b.2))))

/-- SEQ_TASK_POST: post the first of the waiting hardware events and, while the dispatcher runs, READY SEQ tasks (R148, R166, R167). -/
def execSeqTaskPost (s : State) : Out :=
  whenLive s (fun s =>
    let hw := s.hwSeq.map (fun p => ((p.thread, p.order), p.event, (none : Option Nat)))
    let sw := if s.flag R.DSP_CTRL_ENABLE then (s.readyBy (fun t => decide (t.d.cls = 7))).map (fun e =>
        let t := s.task e
        ((t.d.engine, t.order), t.d.event, some e)) else []
    let best := (hw ++ sw).foldl (fun (b : Option ((Nat × Nat) × Nat × Option Nat)) x =>
      match b with
      | some y => if s.postsFirst y.1 x.1 then b else some x
      | none => some x) none
    match best with
    | none => s
    | some ((t, o), ev, none) => ({ s with hwSeq := s.hwSeq.filter (fun p => decide (p.order ≠ o)) }).wake t ev
    | some ((t, _), ev, some e) => (s.unlist e).wake t ev |>.endTask e 0 0)

/-- MPC tasks delivered to core k and not taken. -/
def State.mpcCount (s : State) (k : Nat) : Nat := ((s.core k).delivered.filter (·.2)).length

/-- The core that a READY MPC task goes to now (R151, R169). -/
def State.mpcCore (s : State) (d : Desc) : Option Nat :=
  let k := if d.engine = anyUnit then (List.range 4).foldl (fun b k => if s.mpcCount k < s.mpcCount b then k else b) 0 else d.engine
  if s.mpcCount k < 64 then some k else none

/-- MPC_TASK_DISPATCH: the oldest MPC task whose core has room (R169). -/
def execMpcTaskDispatch (now : Nat) (s : State) : Out :=
  whenLive s (fun s =>
    let s := s.advance now
    if !s.flag R.DSP_CTRL_ENABLE then s
    else match (s.readyBy (fun t => decide (t.d.cls = 8))).find? (fun e => (s.mpcCore (s.task e).d).isSome) with
      | none => s
      | some e =>
        let d := (s.task e).d
        let k := (s.mpcCore d).getD 0
        let c := s.core k
        let s := (s.setCore k { c with delivered := c.delivered ++ [(d.event, true)] }).setEvent (256 + k) d.event
        let s := (s.raiseLine k 0).set (R.DSP_MPC_PENDING_COUNT k) (s.mpcCount k + 1)
        (s.unlist e).endTask e 0 0)

/-! ### The end of a task (R120, R121, R156, R157) -/

/-- The unit of a running task reports its end. -/
def State.taskEnd (s : State) (e : Nat) (r : TaskResult) : State :=
  let t := s.task e
  let ch := t.ch.getD 0
  let cost := s.costNow e
  match t.d.cls, r with
  | 1, .done => if s.encFinished e then s.encEnd e else s
  | 2, .decoded d =>
    let (s, bad, n) := s.decEnd ch t.d.payload t.au d
    let s := s.add (R.ENG_CNT_COUNT t.unit 3) n
    let s := if bad then s.engError t.unit 7 else s
    (s.freeUnit e).taskOver e (if bad then 4 else 0) cost
  | 3, .analysed p => ((s.prfRecord ch (prfFrame t.d.payload) t.au (prfFlags t.d.payload) p.blocks).freeUnit e).taskOver e 0 cost
  | 4, .done => ((s.sclBuild ch t.d.payload).freeUnit e).taskOver e 0 cost
  | 6, .done =>
    let (s, status) := s.audCopy t.d.payload
    (s.freeUnit e).taskOver e status cost
  | _, _ => s

/-- TASK_END. A MUX task ends when its block has been placed (11_egress.md R468), so it is no report of this kind. The reference reads are those that
a DEC task has made. -/
def execTaskEnd (e : TaskId) (r : TaskResult) (reads : List Nat) (now : Nat) (s : State) : Out :=
  whenLive s (fun s => if (s.task e).st = .running then
    let s := s.advance now
    let s := if (s.task e).d.cls = 2 then s.trayReads (s.task e).unit reads else s
    s.taskEnd e r
  else s)

/-- HELD_RECORD_WRITE (R121). -/
def execHeldRecordWrite (a : Agent) (s : State) : Out :=
  whenLive s (fun s =>
    let i := agentIx a
    let t := s.thr i
    match t.held with
    | [] => s
    | r :: rest => if t.ringRoom then (s.setThr i { t with held := rest }).writeRec i r else s)

/-! ### Delay lists and the tick (R170 to R174) -/

/-- DELAYED entries released by a tick at local time t, in delay-list order (R170, R171). -/
def State.dueDelayed (s : State) (t : Int) : List Nat :=
  let l := s.tasks.filter (fun p => p.2.st = .delayed && decide ((p.2.release : Int) ≤ t))
  (sortBy (fun a b => decide (a.2.release < b.2.release) || (decide (a.2.release = b.2.release) && decide (a.1 ≤ b.1))) l).map (·.1)

/-- The time of the latest whole multiple of the tick period. -/
def State.tickTime (s : State) : Int := s.now / s.get R.DSP_TICK_PERIOD_NS * s.get R.DSP_TICK_PERIOD_NS

/-- A task leaves the delay lists for READY: 16 in each CLK_SEQ cycle, after those still moving (R172). -/
def State.moveReady (s : State) (e : Nat) : State :=
  let m := s.moved
  let m := if m.1 < seqCycle s.raw then (seqCycle s.raw, 1) else if m.2 < 16 then (m.1, m.2 + 1) else (m.1 + 1, 1)
  ({ s with moved := m } : State).makeReady e m.1

/-- A tick (R171, R173, R174): at a whole multiple of the period that local time reaches, again after a backward step, and not at one that a forward
step has passed over. -/
def State.tick (s : State) : State :=
  let t := s.tickTime
  if t = s.lastTick ∨ t < s.tickFrom then s
  else
    let s := (s.dueDelayed t).foldl (fun s e => (s.inc R.DSP_STATUS_DELAY_FREE).moveReady e) s
    let s := { s with lastTick := t }
    match s.tickPend with
    | some p => { s.set R.DSP_TICK_PERIOD_NS p with tickPend := none }
    | none => s

/-- DISPATCHER_TICK. -/
def execDispatcherTick (now : Nat) (s : State) : Out := whenLive s (fun s => (s.advance now).tick)

/-- A write of the tick period (R173). -/
def State.writeTick (s : State) (v : Nat) : State := if 250 ≤ v ∧ v ≤ 10000 then { s with tickPend := some v } else s

/-- DSP_TICK_WRITE. -/
def execDspTickWrite (v : BitVec 14) (s : State) : Out := whenWr s (fun s => s.writeTick v.toNat)

/-! ### Cancelling (R175, R176) -/

/-- A cancelled task's cost returns to its window, up to the whole budget (R176). -/
def State.refund (s : State) (e : Nat) : State :=
  let t := s.task e
  match s.charged t.ch t.d with
  | some (c, b) =>
    let a := (s.admOf c).frame
    let full := if b = 0 then a.1 else if b = 1 then a.2.1 else a.2.2
    s.set (R.DSP_CH_REMAIN_CU c b) (min full (s.get (R.DSP_CH_REMAIN_CU c b) + t.d.cost))
  | none => s

/-- A running task is withdrawn from its unit. -/
def State.withdraw (s : State) (e : Nat) : State :=
  let t := s.task e
  let s := s.freeUnit e
  match t.d.cls with
  | 1 => s.substitute e
  | 2 => s.decPartLost (t.ch.getD 0) t.au
  | 5 => { s with strs := s.strs.map (fun p => (p.1, { p.2 with mux := p.2.mux.map (fun (q : TsPart) =>
           if q.task = some e then { q with task := none } else q) })) }
  | _ => s

/-- A task whose dispatch falls in this CLK_SEQ cycle has not been dispatched after all: its unit is as it was without it (R165, R175). What the unit
has read or planned meanwhile stays. -/
def State.undispatch (s : State) (e : Nat) : State :=
  let t := s.task e
  let ch := t.ch.getD 0
  let s : State := { s with busy := tset (fun _ => 0) s.busy t.unit 0 }
  let s := if t.unit < 128 then (s.engIdle t.unit).dec (R.ENG_CNT_COUNT t.unit (t.d.cls - 1)) else s
  match t.d.cls with
  | 1 =>
    let s : State := { s with units := s.units.map (fun (u : UnitSt) =>
      { u with cols := u.cols.map (fun (k : ColSt) => if k.task = some e then { k with task := none, engine := none, inflight := false } else k) }) }
    let x := s.rend ch (encRend t.d.payload)
    let c := encColumn t.d.payload
    if s.subframe ch then s
    else s.setRend ch (encRend t.d.payload) { x with encNo := tset (fun _ => 0) x.encNo c (tget (fun _ => 0) x.encNo c - 1) }
  | 2 =>
    let d := s.decOf ch
    let part := (decPart t.d.payload).1
    s.setDec ch { d with tasks := tset (fun _ => 0) d.tasks part (tget (fun _ => 0) d.tasks part - 1) }
  | 5 => { s with strs := s.strs.map (fun p => (p.1, { p.2 with mux := p.2.mux.filter (fun (q : TsPart) => decide (q.task ≠ some e)) })) }
  | _ => s

/-- Cancel by handle: 0 dispatched or ended, 1 cancelled, 2 unknown; a cancel wins over a dispatch of its own CLK_SEQ cycle (R147, R165, R175). -/
def State.cancel (s : State) (h : Nat) : State × Nat :=
  let e := h % 16384
  let t := s.task e
  if 2 ^ 31 ≤ h ∨ t.st = .free ∨ t.gen ≠ h / 16384 then (s, 2)
  else if t.st = .delayed ∨ t.st = .ready then ((s.refund e).dropTask e 1, 1)
  else if t.st = .running ∧ t.d.cls < 7 ∧ seqCycle t.startAt = seqCycle s.raw then (((s.refund e).undispatch e).taskOver e 1 0, 1)
  else (s, 0)

/-- A write of DSP_CANCEL (R175). -/
def State.dspCancel (s : State) (h : Nat) : State :=
  let (s, r) := s.cancel h
  (s.set R.DSP_CANCEL_RESULT_RESULT r).setFlag R.DSP_CANCEL_RESULT_VALID true

/-- DSP_CANCEL. -/
def execDspCancel (h : BitVec 32) (s : State) : Out := whenWr s (fun s => s.dspCancel h.toNat)

/-! ### Admission (R179 to R187) -/

/-- A record of a declaration (R179). -/
structure DeclRec where
  res : Nat
  tray : Nat
  engines : Nat
  frame : Nat
  second : Nat
  reserved : Nat
  deriving DecidableEq, Repr

/-- A declaration (R179): mode, slot time and records; none where its format is violated (R181). -/
structure Decl where
  sub : Bool
  slot : Nat
  recs : List DeclRec
  deriving DecidableEq, Repr

/-- The record at address a. -/
def State.declRec (s : State) (a : Nat) : DeclRec :=
  ⟨s.dRd a 1, s.dRd (a + 1) 1, s.dRd (a + 2) 1, s.dRd (a + 4) 4, s.dRd (a + 8) 8, s.dRd (a + 3) 1⟩

/-- Whether a record keeps the format (R179, R181). -/
def DeclRec.ok (r : DeclRec) (sub : Bool) : Bool :=
  decide (r.res ≤ 5) && decide (r.reserved = 0) && decide (r.tray < 16) &&
  (decide (r.res = 0) || (decide (r.tray = 0) && decide (r.engines = 0))) && (decide (r.res ≤ 2) || decide (r.frame = 0)) &&
  (sub || decide (r.engines = 0))

/-- Read and check the declaration at a (R179 to R181). -/
def State.decl (s : State) (a : Nat) : Option Decl :=
  if !s.readable a 16 then none
  else
    let n := s.dRd (a + 2) 2
    let sub := decide (s.dRd (a + 4) 1 = 1)
    let recs := (List.range n).map (fun i => s.declRec (a + 16 + 16 * i))
    if s.dRd a 2 = 0x100 ∧ 1 ≤ n ∧ n ≤ 32 ∧ s.dRd (a + 4) 1 ≤ 1 ∧ s.dRd (a + 5) 3 = 0 ∧ s.dRd (a + 12) 4 = 0 ∧
        (sub ∨ s.dRd (a + 8) 4 = 0) ∧ s.readable (a + 16) (16 * n) ∧ recs.all (fun r => r.ok sub) ∧
        (!sub ∨ recs.any (fun r => decide (r.res = 0))) then some ⟨sub, s.dRd (a + 8) 4, recs⟩
    else none

/-- Trays that a declaration's engine records name, in ascending order: engines owned and frame-mode PER_SECOND. -/
def Decl.trays (d : Decl) : List (Nat × Nat × Nat) :=
  ((List.range 16).filter (fun t => d.recs.any (fun r => decide (r.res = 0) && decide (r.tray = t)))).map (fun t =>
    let l := d.recs.filter (fun r => decide (r.res = 0) && decide (r.tray = t))
    (t, l.foldl (fun m r => m ||| r.engines) 0, if d.sub then 0 else l.foldl (fun a r => a + r.second) 0))

/-- PER_SECOND of a resource, summed. -/
def Decl.perSecond (d : Decl) (r : Nat) : Nat := (d.recs.filter (fun x => decide (x.res = r))).foldl (fun a x => a + x.second) 0

/-- PER_FRAME of a resource, summed. -/
def Decl.perFrame (d : Decl) (r : Nat) : Nat := (d.recs.filter (fun x => decide (x.res = r))).foldl (fun a x => a + x.frame) 0

/-- DSP_ADM_CAP of resource r (R192). -/
def State.cap (s : State) (r : Nat) : Nat :=
  match r with
  | 1 => s.get R.DSP_ADM_CAP1_CAP
  | 2 => s.get R.DSP_ADM_CAP2_CAP
  | 3 => s.get R.DSP_ADM_CAP3_CAP
  | 4 => s.get R.DSP_ADM_CAP4_CAP
  | _ => s.get R.DSP_ADM_CAP5_CAP

/-- Capacity of resource r under the ceiling of the preceding cycle (R182, R183). -/
def State.ceiled (s : State) (r : Nat) : Nat := if r ≤ 2 then s.cap r * s.getBefore seqCycle R.DSP_ADM_CEIL_PERMILLE / 1000 else s.cap r

/-- Frame-mode capacity of tray t with further engines `add` owned, under the ceiling of the preceding cycle (R182, R183). -/
def State.trayCap (s : State) (t add : Nat) : Nat :=
  let out := s.get (R.TRAY_STATUS_OWNED t) ||| s.get (R.TRAY_STATUS_ISOLATED t) ||| add
  (8 - popCount out 8) * 1000000 * s.getBefore seqCycle R.DSP_ADM_CEIL_PERMILLE / 1000

/-- Why a declaration is refused: RESOURCE and TRAY of the first failure in the order of R181. -/
def State.refusal (s : State) (ch : Nat) (d : Decl) : Option (Nat × Nat) :=
  match d.trays.find? (fun t => decide (t.2.1 &&& (s.get (R.TRAY_STATUS_OWNED t.1) ||| s.get (R.TRAY_STATUS_ISOLATED t.1)) ≠ 0)) with
  | some t => some (0, t.1)
  | none =>
    if d.sub ∧ s.tSlot ch < d.slot + 2000 then some (7, 0)
    else match d.trays.find? (fun t => decide (s.trayCap t.1 t.2.1 < s.get (R.DSP_ADM_USED_TRAY_CU t.1) + t.2.2)) with
      | some t => some (0, t.1)
      | none =>
        match [1, 2, 3, 4, 5].find? (fun r => d.recs.any (fun x => decide (x.res = r)) &&
            decide (s.ceiled r < s.get (R.DSP_ADM_USED_USED (r - 1)) + d.perSecond r)) with
        | some r => some (r, 0)
        | none => none

/-- Write DSP_ADM_RESULT (R184). -/
def State.admResult (s : State) (ch res resource tray : Nat) : State :=
  ((((s.set R.DSP_ADM_RESULT_RESULT res).set R.DSP_ADM_RESULT_RESOURCE resource).set R.DSP_ADM_RESULT_TRAY tray).set
    R.DSP_ADM_RESULT_CHANNEL ch).setFlag R.DSP_ADM_RESULT_VALID true

/-- The remaining budgets are set to the window's whole budget, less what tasks issued in the hand-over's cycle were charged (R186, R187). -/
def State.openWindow (s : State) (ch : Nat) : State :=
  let f := (s.admOf ch).frame
  let early := tget (fun _ => 0) (s.chan ch).early
  let s := s.setChan ch { s.chan ch with early := [] }
  ((s.set (R.DSP_CH_REMAIN_CU ch 0) (f.1 - early 0)).set (R.DSP_CH_REMAIN_CU ch 1) (f.2.1 - early 1)).set (R.DSP_CH_REMAIN_CU ch 2) (f.2.2 - early 2)

/-- D_min in units of 100 ns, rounded up (R352, R353). -/
def State.dMin (s : State) (ch : Nat) : Nat :=
  if s.subframe ch then ceilDiv (2 * s.tSlot ch + 30000) 100
  else
    let p := (s.get (R.CTX_GOP_GOP_LEN ch) - 1 + s.get (R.PRF_CH_CFG_LOOKAHEAD ch) + 1) * s.period ch
    ceilDiv (p + (12000 + 1000 * (s.get (R.RC_CH_FRAME_CODE_US ch) + s.get (R.RC_CH_FRAME_TAIL_US ch))) * 2 ^ 32) (100 * 2 ^ 32)

/-- Engines of a tray become owned by a channel. -/
def State.ownTray (s : State) (ch t m : Nat) : State :=
  let s := s.set (R.TRAY_STATUS_OWNED t) (s.get (R.TRAY_STATUS_OWNED t) ||| m)
  (List.range 8).foldl (fun s i =>
    if bitAt m i then (s.setFlag (R.ENG_STATUS_OWNED (8 * t + i)) true).set (R.ENG_STATUS_OWNER (8 * t + i)) ch else s) s

/-- Record every charge of a declaration (R180), and show T_slot and D_min (R349). -/
def State.admitDecl (s : State) (ch : Nat) (d : Decl) : State :=
  let a : Adm := { admitted := true, subframe := d.sub, trays := d.trays,
                   perSecond := [1, 2, 3, 4, 5].map (fun r => (r, d.perSecond r)), frame := (d.perFrame 0, d.perFrame 1, d.perFrame 2) }
  let s := { s with adm := tset (fun _ => {}) s.adm ch a }
  let s := d.trays.foldl (fun s t => (s.add (R.DSP_ADM_USED_TRAY_CU t.1) t.2.2).ownTray ch t.1 t.2.1) s
  let s := a.perSecond.foldl (fun s r => s.add (R.DSP_ADM_USED_USED (r.1 - 1)) r.2) s
  let s := (s.setFlag (R.DSP_CH_CFG_SUBFRAME ch) d.sub).openWindow ch
  ((s.set (R.RC_CH_SLOT_T_SLOT_NS ch) (if d.sub then s.tSlot ch else 0)).set (R.RC_CH_SLOT_DMIN ch) (s.dMin ch)).admResult ch 0 0 0

/-- Whether the read of a declaration at `a` leaves the regions of R45. -/
def State.declStrays (s : State) (a : Nat) : Bool :=
  !mappedRange a 16 || (s.readable a 16 && decide (s.dRd a 2 = 0x100 ∧ 1 ≤ s.dRd (a + 2) 2 ∧ s.dRd (a + 2) 2 ≤ 32) &&
    !mappedRange (a + 16) (16 * s.dRd (a + 2) 2))

/-- OP ADMIT for a channel (R180, R181). A declaration outside the regions of R45 raises the Dispatcher's notice (R47). -/
def State.admitCh (s : State) (ch : Nat) : State :=
  let a := s.get R.DSP_ADM_DECL_ADDRESS
  match s.decl a with
  | none => (if s.declStrays a then s.addrError (.unit 0x0009) else s).admResult ch 1 7 0
  | some d =>
    if (s.admOf ch).admitted then s.admResult ch 1 7 0
    else match s.refusal ch d with
      | some (r, t) => s.admResult ch 1 r t
      | none => s.admitDecl ch d

/-- Pipelines that a channel owns return (R251). -/
def State.freePipes (s : State) (ch : Nat) : State :=
  let s := { s with prfOwn := s.prfOwn.filter (fun p => decide (p.2 ≠ ch + 1)), sclOwn := s.sclOwn.filter (fun p => decide (p.2 ≠ ch + 1)) }
  s.set R.PRF_OWNED_OWNED (s.prfOwn.foldl (fun m p => m + 2 ^ p.1) 0)

/-- The engines of a tray that a channel owns are owned no longer; one that it lost may be another's by now (R346). -/
def State.disownTray (s : State) (ch t m : Nat) : State :=
  (List.range 8).foldl (fun s i => if bitAt m i ∧ s.ownsEngine ch (8 * t + i) then s.disown (8 * t + i) else s) s

/-- Return every charge of a channel and write RELEASED; the next channel that was stopped meanwhile is then released (R184, R185, R349). -/
def State.returnAdm (s : State) (ch : Nat) : State :=
  let a := s.admOf ch
  let s := { s with adm := tset (fun _ => {}) s.adm ch {} }
  let s := a.trays.foldl (fun s t =>
    (s.set (R.DSP_ADM_USED_TRAY_CU t.1) (s.get (R.DSP_ADM_USED_TRAY_CU t.1) - t.2.2)).disownTray ch t.1 t.2.1) s
  let s := a.perSecond.foldl (fun s r => s.set (R.DSP_ADM_USED_USED (r.1 - 1)) (s.get (R.DSP_ADM_USED_USED (r.1 - 1)) - r.2)) s
  let s := (((s.setFlag (R.DSP_CH_CFG_SUBFRAME ch) false).openWindow ch).freePipes ch)
  let s := (s.set (R.RC_CH_SLOT_T_SLOT_NS ch) 0).set (R.RC_CH_SLOT_DMIN ch) 0
  let s := (s.setFlag R.DSP_ADM_CMD_BUSY false).admResult ch 2 0 0
  match s.relWait with
  | [] => s
  | c :: rest => ({ s with relWait := rest } : State).beginRelease c

/-- A write of DSP_ADM_CMD (R180, R184, R185). -/
def State.admCmd (s : State) (ch op : Nat) : State :=
  if s.flag R.DSP_ADM_CMD_BUSY then s
  else
    let s := s.set R.DSP_ADM_CMD_CHANNEL ch
    match op with
    | 1 => s.admitCh ch
    | 2 => if (s.admOf ch).admitted then s.beginRelease ch else s.admResult ch 2 0 0
    | _ => s

/-- ADMIT. -/
def execAdmit (ch : Chan) (s : State) : Out := whenWr s (fun s => s.admCmd ch 1)

/-- RELEASE. -/
def execRelease (ch : Chan) (s : State) : Out := whenWr s (fun s => s.admCmd ch 2)

/-- RELEASE_COMPLETE: the channel's last entry is FREE (R185). -/
def execReleaseComplete (ch : Chan) (s : State) : Out :=
  whenUp s (fun s => if (s.admOf ch).releasing ∧ s.get (R.DSP_CH_ENTRIES_COUNT ch) = 0 then s.returnAdm ch else s)

/-! ### Sieve sources (R189, R190) -/

/-- MPC_AGE: the oldest READY MPC task that has waited longer than LIMIT_US, once for each (R189). -/
def execMpcAge (now : Nat) (s : State) : Out :=
  whenLive s (fun s =>
    let s := s.advance now
    let lim := s.get R.DSP_MPC_AGE_LIMIT_US
    match (s.readyBy (fun t => decide (t.d.cls = 8) && !t.aged && decide (lim ≠ 0) && decide (t.readyAt + 1000 * lim < s.raw))).head? with
    | none => s
    | some e =>
      let t := s.task e
      (s.setTask e { t with aged := true }).report 28 0 (BitVec.ofNat 64 (handleOf e t.gen)))

/-- An uncorrectable error in a task entry (R190). -/
def State.entryEcc (s : State) (e : Nat) : State :=
  let t := s.task e
  let sus := match t.st, t.ch with
    | .free, _ => 0
    | _, some c => suspect kChannel c
    | _, none => 0
  let s := match t.st with
    | .free => s
    | .delayed | .ready => s.dropTask e 4
    | .running => (s.withdraw e).taskOver e 4 0
    | .ended =>
      let th := s.thr t.issuer
      s.setThr t.issuer { th with held := th.held.map (fun (r : CompRec) => if r.entry = e then { r with status := 4, cost := 0 } else r) }
  s.report 29 sus (BitVec.ofNat 64 e)

/-- ENTRY_ECC. -/
def execEntryEcc (e : TaskId) (now : Nat) (s : State) : Out := whenLive s (fun s => (s.advance now).entryEcc e)

end Sys2Proof.Machine
end

