-- ==== Sys2Proof/Machine/Weneiren.lean ====
section
/-! DEFINITION. Weneiren links: bring-up, flits in both directions, credits and their audit, sparing, electrical idle, and the time that
flits carry (15_weneiren.md, 12_timebase.md R508 to R510). -/

namespace Sys2Proof.Machine

/-- WL_STATUS.STATE values of a port that is up (R589). -/
def wlFull : Nat := 2
def wlHalf : Nat := 3
def wlIdle : Nat := 4

/-- The port is up and its lanes run. -/
def State.wlRuns (s : State) (p : Nat) : Bool := decide (s.wlState p = wlFull) || decide (s.wlState p = wlHalf)

/-- The port is up, in electrical idle or not. -/
def State.wlUp (s : State) (p : Nat) : Bool := s.wlRuns p || decide (s.wlState p = wlIdle)

/-- A Sieve report of a port (R588). -/
def State.wlReport (s : State) (p i : Nat) : State := s.report (411 + 5 * p + i) (suspect kWlPort p)

/-! ### Sending (R570 to R572, R583) -/

/-- Virtual channel of a flit (R571). -/
def Flit.vc : Flit → Nat
  | .memWrite _ _ => 1
  | .media _ => 2
  | .msg _ => 3
  | _ => 0

/-- The credits that a header returns: those owed on the lowest VC that owes any (log 35). -/
def WlSt.owes (w : WlSt) : Nat × Nat :=
  match ([1, 2, 3] : List Nat).find? (fun v => decide (tget (fun _ => 0) w.owed v ≠ 0)) with
  | some v => (v, min (tget (fun _ => 0) w.owed v) 4095)
  | none => (0, 0)

/-- A flit leaves the port, with ACK_SEQ and credits in its header. -/
def State.sendFlit (s : State) (p : Nat) (seq : Option Nat) (f : Flit) : State :=
  let w := s.wlPort p
  let (v, n) := w.owes
  let s := if v = 0 then s else s.add (R.WL_CREDIT_COUNT p (v - 1) 3) n
  let w := { w with owed := if v = 0 then w.owed else tset (fun _ => 0) w.owed v (tget (fun _ => 0) w.owed v - n), lastTx := s.raw }
  ((s.setWlPort p w).wlCount p 0 1).emit (.flit p seq ((w.rxNext + 4095) % 4096) v n f)

/-- A control flit is sent at the next flit boundary (R572); in electrical idle it waits for the exit (R585). -/
def State.sendControl (s : State) (p : Nat) (f : Flit) : State :=
  if s.wlRuns p then s.sendFlit p none f
  else if s.wlState p = wlIdle then (s.setWlPort p { s.wlPort p with ctl := (s.wlPort p).ctl ++ [f] }).wlCount p 12 1
  else s

/-- A sequenced flit is queued on a port that is up; on a port that is down it is lost (R582, R585). -/
def State.queueFlit (s : State) (p : Nat) (f : Flit) : State :=
  if s.wlUp p then
    let s := if s.wlState p = wlIdle then s.wlCount p 12 1 else s
    s.setWlPort p { s.wlPort p with tx := (s.wlPort p).tx ++ [f] }
  else s.wlCount p 4 1

/-- Whether a port may send a queued flit: its VC has a credit, and the replay buffer of 1 024 flits has room (R581, R583). -/
def WlSt.maySend (w : WlSt) (f : Flit) : Bool := decide (tget (fun _ => 0) w.credits f.vc ≠ 0) && decide (w.sent.length < 1024)

/-- Send the oldest queued flit whose VC has a credit (R583). -/
def State.transmit (s : State) (p : Nat) : State :=
  let w := s.wlPort p
  match w.tx.find? w.maySend with
  | none => s.sendFlit p none (.idle false false)
  | some f =>
      let v := f.vc
      let s := s.setWlPort p { w with tx := w.tx.erase f, sent := w.sent ++ [(w.next, f)], next := (w.next + 1) % 4096,
                                      credits := tset (fun _ => 0) w.credits v (tget (fun _ => 0) w.credits v - 1) }
      (s.inc (R.WL_CREDIT_COUNT p (v - 1) 0)).sendFlit p (some w.next) f

/-- FLIT_TRANSMIT: one flit boundary of a running port (R572, R583). `m` is a MEDIA or MSG flit that the egress or the firmware hands
over now. With nothing that may go, an IDLE flit carries acknowledgements and credits (R571). -/
def execFlitTransmit (p : WlPort) (m : Option TxFlit) (now : Nat) (s : State) : Out :=
  whenLive s (fun s =>
    let s := s.advance now
    let s := match m with
      | some f => s.queueFlit p (if f.media then .media f.data else .msg f.data)
      | none => s
    if s.wlRuns p then s.transmit p else s)

/-! ### Training (R575 to R578, R581, R582) -/

/-- A port that is up goes down: its unacknowledged and queued flits are lost, and it trains again (R577, R582). -/
def State.wlFall (s : State) (p : Nat) : State :=
  if s.wlUp p then
    ((s.wlLose p).wlTrain p).wlReport p 2
  else s.wlTrain p

/-- The port comes up (R575, R578): the peer's buffers give the initial credits, SEQ restarts at 0, and 16 echo flits measure LAT. -/
def State.wlRise (s : State) (p : Nat) : State :=
  let w := s.wlPort p
  let cr : Table Nat := [1, 2, 3].foldl (fun (t : Table Nat) v => tset (fun _ => 0) t v (w.peerBuf.getD (v - 1) 0)) []
  let s := s.setWlPort p { w with init := w.peerBuf, credits := cr, owed := [], next := 0, rxNext := 0, tx := [], sent := [], echoes := [],
                                  latOk := false, lastTx := s.raw }
  let s := (List.range 12).foldl (fun s i => s.set (R.WL_CREDIT_COUNT p (i / 4) (i % 4)) 0) s
  (List.range 16).foldl (fun s _ => s.sendControl p .echoReq) (s.set (R.WL_STATUS_STATE p) wlFull)

/-- A training port whose receiver is ready and that has seen READY comes up (R575). -/
def State.wlTryRise (s : State) (p : Nat) : State :=
  let w := s.wlPort p
  if s.wlState p = wlTraining ∧ w.ready ∧ w.peerReady then s.wlRise p else s

/-- TRAINING_BLOCK_RECEIVE (R575, R577): a block of the peer, with its BOARD_ID, port, buffer sizes and READY. -/
def execTrainingBlockReceive (p : WlPort) (board port : BitVec 2) (bufs : List Nat) (ready : Bool) (now : Nat) (s : State) : Out :=
  whenLive s (fun s =>
    let s := s.advance now
    let s := if s.wlUp p then s.wlFall p else s
    if s.wlState p = wlTraining then
      let w := s.wlPort p
      let s := (s.set (R.WL_STATUS_PEER_ID p) board.toNat).set (R.WL_STATUS_PEER_PORT p) port.toNat
      (s.setWlPort p { w with peerBuf := bufs, peerReady := w.peerReady || ready }).wlTryRise p
    else s)

/-- RECEIVER_READY: the receiver has locked and deskewed all 17 lanes; lane 16 is the spare (R569, R575, R589). -/
def execReceiverReady (p : WlPort) (reversed : Bool) (inverted : BitVec 17) (now : Nat) (s : State) : Out :=
  whenLive s (fun s =>
    let s := s.advance now
    if s.wlState p = wlTraining then
      let s := (List.range 17).foldl (fun s l =>
        (((s.setFlag (R.WL_LANE_STATUS_LOCK p l) true).setFlag (R.WL_LANE_STATUS_IS_SPARE p l) (l = 16)).set (R.WL_LANE_STATUS_LOGICAL p l) l).setFlag
          (R.WL_LANE_STATUS_INVERTED p l) (bitAt inverted.toNat l)) s
      let s := s.setFlag (R.WL_STATUS_REVERSED p) reversed
      (s.setWlPort p { s.wlPort p with ready := true }).wlTryRise p
    else s)

/-- TRAIN_TIMEOUT (R576). -/
def execTrainTimeout (p : WlPort) (now : Nat) (s : State) : Out :=
  whenLive s (fun s =>
    let s := s.advance now
    if s.wlState p = wlTraining ∧ (s.wlPort p).trainAt + 1000 * s.get (R.WL_CTRL_TIMEOUT_US p) ≤ s.raw then (s.wlTrain p).wlCount p 7 1
    else s)

/-- WL_RETRAIN: a write of RETRAIN (R582). -/
def execWlRetrain (p : WlPort) (now : Nat) (s : State) : Out :=
  whenWr s (fun s => if s.flag (R.WL_CTRL_ENABLE p) then (s.advance now).wlFall p else s)

/-- The physical lane that is the spare now. -/
def State.spareLane (s : State) (p : Nat) : Option Nat := (List.range 17).find? (fun l => s.flag (R.WL_LANE_STATUS_IS_SPARE p l))

/-- Half width, on the half that the spare can make whole, or down (R582). LAT grows by 3.25 ns. A port already at half width stays on its half while
that is whole. -/
def State.goHalf (s : State) (p : Nat) : State :=
  let w := s.wlPort p
  let fixed := if w.spareDead then 0 else 1
  let n := fun (lo : Nat) => (w.failed.filter (fun l => decide (lo ≤ l) && decide (l < lo + 8))).length
  let up := fun (s : State) (h : Nat) =>
    let old := w.half && decide (s.get (R.WL_STATUS_HALF p) = h)
    let spare := s.flag (R.WL_STATUS_SPARE_IN_USE p)
    let s := (s.set (R.WL_STATUS_STATE p) (if s.wlState p = wlIdle then wlIdle else wlHalf)).set (R.WL_STATUS_HALF p) h
    let s := s.setFlag (R.WL_STATUS_SPARE_IN_USE p) (n (8 * h) ≠ 0)
    if old then (if n (8 * h) ≠ 0 ∧ !spare then (s.wlCount p 5 1).wlReport p 0 else s)
    else
      let s := s.setWlPort p { w with half := true, echoes := [], latOk := false }
      let s := if w.half then s else s.add (R.TB_WL_LAT_LAT p) 52
      (List.range 16).foldl (fun s _ => s.sendControl p .echoReq) (s.wlReport p 1)
  if n 0 ≤ fixed then up s 0 else if n 8 ≤ fixed then up s 1 else s.wlFall p

/-- One data lane loses lock (R581, R582). -/
def State.laneFails (s : State) (p l : Nat) : State :=
  if !s.wlUp p ∨ !s.flag (R.WL_LANE_STATUS_LOCK p l) then s
  else
    let s := (s.setFlag (R.WL_LANE_STATUS_LOCK p l) false).setFlag (R.WL_LANE_STATUS_LOCK_LOST p l) true
    let w := s.wlPort p
    let inUse := s.flag (R.WL_STATUS_SPARE_IN_USE p)
    if s.spareLane p = some l ∧ !inUse then s.setWlPort p { w with spareDead := true }
    else
      let x := s.get (R.WL_LANE_STATUS_LOGICAL p l)
      let s := s.setWlPort p { w with failed := if w.failed.contains x then w.failed else w.failed ++ [x],
                                      spareDead := w.spareDead || decide (s.spareLane p = some l) }
      if !inUse ∧ !w.spareDead ∧ w.failed = [] then
        match s.spareLane p with
        | some sp =>
          let s := (s.setFlag (R.WL_STATUS_SPARE_IN_USE p) true).set (R.WL_LANE_STATUS_LOGICAL p sp) x
          ((s.sendControl p (.laneMap x (s.wlPort p).rxNext)).wlCount p 5 1).wlReport p 0
        | none => s.goHalf p
      else s.goHalf p

/-- WL_LANE_LOCK_LOSS: lanes that lose lock in one cycle, in ascending order, or the clock lane; a clock that stops in announced idle is no
failure (R580 to R582, R584). -/
def execWlLaneLockLoss (p : WlPort) (lanes : List Nat) (clock : Bool) (now : Nat) (s : State) : Out :=
  whenLive s (fun s =>
    let s := s.advance now
    if clock then (if s.wlUp p ∧ !(s.wlPort p).rxIdle then s.wlFall p else s)
    else ((List.range 17).filter (fun l => lanes.contains l)).foldl (fun s l => s.laneFails p l) s)

/-- WL_LANE_REGAINS_LOCK: a failed data lane becomes the new spare; the old spare keeps the lane it carries (R581). -/
def execWlLaneRegainsLock (p : WlPort) (l : Fin 17) (s : State) : Out :=
  whenLive s (fun s =>
    if !s.wlUp p ∨ s.flag (R.WL_LANE_STATUS_LOCK p l) then s
    else
      let w := s.wlPort p
      let s := s.setFlag (R.WL_LANE_STATUS_LOCK p l) true
      if w.half then s
      else
        let s := (List.range 17).foldl (fun s i => s.setFlag (R.WL_LANE_STATUS_IS_SPARE p i) (i = l.val)) s
        let s := (s.set (R.WL_LANE_STATUS_LOGICAL p l) 16).setFlag (R.WL_STATUS_SPARE_IN_USE p) false
        s.setWlPort p { w with failed := [], spareDead := false })

/-! ### Receiving (R571 to R573, R581, R583) -/

/-- Whether sequence number a precedes or equals b in the 12-bit circle. -/
def seqLe (a b : Nat) : Bool := decide ((b + 4096 - a) % 4096 < 2048)

/-- The header of a good flit: what it acknowledges and the credits it returns; NAK replays every flit after ACK_SEQ (R570, R581, R583). -/
def State.takeHeader (s : State) (p : Nat) (h : FlitHdr) : State :=
  let w := s.wlPort p
  let sent := w.sent.filter (fun x => !seqLe x.1 h.ack.toNat)
  let v := h.cvc.toNat
  let ok := decide (1 ≤ v) && decide (v ≤ 3)
  let cr := if ok then tset (fun _ => 0) w.credits v (tget (fun _ => 0) w.credits v + h.credits.toNat) else w.credits
  let s := if ok then s.add (R.WL_CREDIT_COUNT p (v - 1) 1) h.credits.toNat else s
  let s := (s.setWlPort p { w with sent := sent, credits := cr, rxIdle := false }).wlCount p 1 1
  if h.nak then (sent.foldl (fun s x => s.sendFlit p (some x.1) x.2) s).wlCount p 3 sent.length else s

/-- A good sequenced flit: applied in SEQ order, its credit owed to the peer; one out of order is discarded, and comes again by replay (R573,
R581). -/
def State.takeSeq (s : State) (p v : Nat) (h : FlitHdr) (apply : State → State) : State :=
  let s := s.takeHeader p h
  let w := s.wlPort p
  if h.seq.toNat ≠ w.rxNext then s
  else
    let s := s.setWlPort p { w with rxNext := (w.rxNext + 1) % 4096, owed := tset (fun _ => 0) w.owed v (tget (fun _ => 0) w.owed v + 1) }
    apply (s.inc (R.WL_CREDIT_COUNT p (v - 1) 2))

/-- A flit's effect on a port that is up, while the device is powered and not halted; in PS2 it is served too (R541). -/
def State.onFlit (s : State) (p now : Nat) (f : State → State) : Out :=
  .next (if s.up ∧ !s.halted then (let s := s.advance now; if s.wlUp p then f s else s) else s)

/-- Whether a receive window lies inside the HBM regions or the shared SRAM (R589). -/
def windowOk (base size : Nat) : Bool :=
  decide (size ≠ 0) && (decide (base + size ≤ 0x2100000000) || inSram base size)

/-- Whether a byte address lies inside one of a port's receive windows (R573). -/
def State.inRxWindow (s : State) (p a : Nat) : Bool :=
  (List.range 4).any (fun w =>
    let base := s.get (R.WL_RX_WIN_BASE p w) * 65536
    let size := s.get (R.WL_RX_WIN_SIZE p w) * 65536
    windowOk base size && decide (base ≤ a) && decide (a < base + size))

/-- Apply a MEM_WRITE, or drop it (R541, R573). -/
def State.applyWrite (s : State) (p a : Nat) (data : List (BitVec 8)) : State :=
  if (List.range data.length).all (fun i => s.inRxWindow p (a + i)) then
    if inHbm a then s.memRequest { q := .unit 0x0016, addr := a, n := 0, data := some data } (fun s => s.unitStore 0x0016 a data)
    else s.unitStore 0x0016 a data
  else (s.wlCount p 8 1).wlReport p 4

/-- MEM_WRITE_FLIT (R573). -/
def execMemWriteFlit (p : WlPort) (h : FlitHdr) (addr : Word) (data : List (BitVec 8)) (now : Nat) (s : State) : Out :=
  if data.length ≤ 236 then s.onFlit p now (fun s => s.takeSeq p 1 h (fun s => s.applyWrite p addr.toNat data)) else .fault .malformed

/-- A media unit reaches the output stage of its flow, if that flow takes its units from the port (R484). -/
def State.stageUnit (s : State) (p : Nat) (u : MediaUnit) : State :=
  if s.get (R.EGR_FLOW_CTRL_SOURCE u.flow) = p + 1 then
    ({ s with staged := s.staged ++ [u] } : State).releaseStaged (fun f => decide (f = u.flow.val))
  else s

/-- MEDIA_FLIT (R571). -/
def execMediaFlit (p : WlPort) (h : FlitHdr) (units : List MediaUnit) (now : Nat) (s : State) : Out :=
  s.onFlit p now (fun s => s.takeSeq p 2 h (fun s => units.foldl (fun s u => s.stageUnit p u) s))

/-- MSG_FLIT: a message for the management processor complex (R571). -/
def execMsgFlit (p : WlPort) (h : FlitHdr) (data : List (BitVec 8)) (now : Nat) (s : State) : Out :=
  if data.length ≤ 244 then
    s.onFlit p now (fun s => s.takeSeq p 3 h (fun s => s.setWlPort p { s.wlPort p with inbox := (s.wlPort p).inbox ++ [data] }))
  else .fault .malformed

/-- IDLE_FLIT: acknowledgements and credits, or the peer's entry into electrical idle (R571, R584). -/
def execIdleFlit (p : WlPort) (h : FlitHdr) (entry : Bool) (now : Nat) (s : State) : Out :=
  s.onFlit p now (fun s =>
    let s := s.takeHeader p h
    s.setWlPort p { s.wlPort p with rxIdle := entry })

/-- What the model keeps of a protection group. -/
def State.grp (s : State) (g : Nat) : GrpSt := tget (fun _ => {}) s.groups g

/-- Replace what the model keeps of a protection group. -/
def State.setGrp (s : State) (g : Nat) (x : GrpSt) : State := { s with groups := tset (fun _ => {}) s.groups g x }

/-- A heartbeat of a group reaches a STANDBY unit (R610). -/
def State.heartbeat (s : State) (g : Nat) : State :=
  if s.flag (R.CLB_GRP_CFG_ENABLE g) ∧ s.get (R.CLB_GRP_STATUS_ROLE g) = 2 then
    (((s.setGrp g { s.grp g with th := s.raw, k := 0 }).set (R.CLB_GRP_STATUS_MISSES g) 0).inc (R.CLB_GRP_CNT_COUNT g 1))
  else s

/-- HEARTBEAT_FLIT (R609, R610). -/
def execHeartbeatFlit (p : WlPort) (h : FlitHdr) (g : GroupId) (_unit : BitVec 3) (claim : BitVec 32) (snap _img : Word) (now : Nat)
    (s : State) : Out :=
  s.onFlit p now (fun s =>
    let s := (s.takeHeader p h).heartbeat g
    if s.flag (R.CLB_GRP_CFG_ENABLE g) ∧ s.get (R.CLB_GRP_STATUS_ROLE g) = 2 then
      { s.setGrp g { s.grp g with snap := snap.toNat, snapAt := s.raw } with epochs := tset (fun _ => 0) s.epochs g (claim.toNat / 256) }
    else s)

/-- ECHO_REQ is answered with ECHO_RSP (R575, 12_timebase.md R509). -/
def execEchoReq (p : WlPort) (h : FlitHdr) (now : Nat) (s : State) : Out :=
  s.onFlit p now (fun s => (s.takeHeader p h).sendControl p .echoRsp)

/-- The median of the round trips, of an even number the mean of the middle two (log 36). -/
def median (l : List Nat) : Nat :=
  let m := sortBy (fun a b => decide (a ≤ b)) l
  (m.getD ((m.length - 1) / 2) 0 + m.getD (m.length / 2) 0) / 2

/-- ECHO_RSP: a round trip in 1/16 ns; the sixteenth sets LAT to half the median (R575, R509). -/
def execEchoRsp (p : WlPort) (h : FlitHdr) (rt now : Nat) (s : State) : Out :=
  s.onFlit p now (fun s =>
    let s := s.takeHeader p h
    let w := s.wlPort p
    let l := w.echoes ++ [rt]
    if l.length < 16 then s.setWlPort p { w with echoes := l }
    else if w.latOk then s
    else (s.setWlPort p { w with echoes := l, latOk := true }).set (R.TB_WL_LAT_LAT p) (median l / 2))

/-- LANE_MAP: from the named SEQ the lane's bytes go out on the spare (R581). -/
def execLaneMap (p : WlPort) (h : FlitHdr) (lane : BitVec 4) (seq : BitVec 12) (now : Nat) (s : State) : Out :=
  s.onFlit p now (fun s =>
    let s := s.takeHeader p h
    s.setWlPort p { s.wlPort p with txSpare := some (lane.toNat, seq.toNat) })

/-- Whether an AUDIT flit's values agree with this transmitter's (R583). -/
def State.auditOk (s : State) (p : Nat) (received : List Nat) : Bool :=
  let w := s.wlPort p
  ([1, 2, 3] : List Nat).all (fun v =>
    let sent := s.get (R.WL_CREDIT_COUNT p (v - 1) 0)
    let waiting := (w.sent.filter (fun x => decide (x.2.vc = v))).length
    decide (sent - waiting = received.getD (v - 1) 0) &&
    decide (w.init.getD (v - 1) 0 + s.get (R.WL_CREDIT_COUNT p (v - 1) 1) = tget (fun _ => 0) w.credits v + sent))

/-- AUDIT: RECEIVED, RETURNED and OCCUPIED for VC 1 to 3; a failed check trains the port again (R583). -/
def execAudit (p : WlPort) (h : FlitHdr) (received _returned _occupied : List Nat) (now : Nat) (s : State) : Out :=
  s.onFlit p now (fun s =>
    let s := s.takeHeader p h
    if s.auditOk p received then s else (s.wlReport p 3).wlFall p)

/-- UNKNOWN_FLIT_TYPE (R571). -/
def execUnknownFlitType (p : WlPort) (s : State) : Out := s.onFlit p s.raw (fun s => s.wlCount p 2 1)

/-- FLIT_CRC_FAIL: counted, and a sequenced flit is NAKed (R572, R581). -/
def execFlitCrcFail (p : WlPort) (sequenced : Bool) (now : Nat) (s : State) : Out :=
  s.onFlit p now (fun s =>
    let s := s.wlCount p 2 1
    if sequenced then s.sendControl p (.idle false true) else s)

/-- AUDIT_SEND (R583): RETURNED takes in the credits that this flit's own header returns. A flit is applied as it arrives, so OCCUPIED is the
credits not yet returned. -/
def execAuditSend (p : WlPort) (now : Nat) (s : State) : Out :=
  whenLive s (fun s =>
    let s := s.advance now
    let w := s.wlPort p
    let mine := fun v => if v = w.owes.1 then w.owes.2 else 0
    let c := fun (i : Nat) (f : Nat → Nat) => ([1, 2, 3] : List Nat).map (fun v => s.get (R.WL_CREDIT_COUNT p (v - 1) i) + f v)
    if s.wlRuns p then
      s.sendControl p (.audit ((w.rxNext + 4095) % 4096) (c 2 (fun _ => 0)) (c 3 mine)
        (([1, 2, 3] : List Nat).map (fun v => tget (fun _ => 0) w.owed v - mine v)))
    else s)

/-! ### Electrical idle (R584 to R586) -/

/-- IDLE_ENTRY: nothing to send for ENTER_US, or PS2; a flit that is ready aborts the entry (R584, R585). -/
def execIdleEntry (p : WlPort) (now : Nat) (s : State) : Out :=
  .next (if s.up ∧ !s.halted then
    let s := s.advance now
    let w := s.wlPort p
    if s.wlRuns p ∧ (s.get R.HTH_PS_STATUS_STATE = 2 ∨
        (s.flag (R.WL_CTRL_IDLE_EN p) ∧ w.lastTx + 1000 * s.get (R.WL_IDLE_ENTER_US p) ≤ s.raw)) then
      if w.tx ≠ [] then s.wlCount p 11 1
      else ((s.sendFlit p none (.idle true false)).set (R.WL_STATUS_STATE p) wlIdle).wlCount p 10 1
    else s
  else s)

/-- IDLE_EXIT: a flit that is ready brings the port back, and control flits that waited go out first; a TIME flit is stamped as it leaves (R572,
R574, R585, R586). -/
def execIdleExit (p : WlPort) (now : Nat) (s : State) : Out :=
  whenLive s (fun s =>
    let s := s.advance now
    let w := s.wlPort p
    if s.wlState p = wlIdle ∧ (w.tx ≠ [] ∨ w.ctl ≠ []) then
      let s := (s.set (R.WL_STATUS_STATE p) (if w.half then wlHalf else wlFull)).setWlPort p { w with ctl := [] }
      w.ctl.foldl (fun s f => match f with
        | .time _ e st u => s.sendControl p (.time s.now e st u)
        | f => s.sendControl p f) s
    else s)

/-! ### Forwarded time (12_timebase.md R508 to R510) -/

/-- TIME_FLIT_SEND (R508, R574). -/
def execTimeFlitSend (p : WlPort) (now : Nat) (s : State) : Out :=
  whenLive s (fun s =>
    let s := s.advance now
    if bitAt (s.get R.TB_FWD_CTRL_TX_EN) p ∧ (tfind s.tb.flitLast p).elim true (fun t => decide (t + 1000000 ≤ s.raw)) then
      let s := { s with tb := { s.tb with flitLast := tput s.tb.flitLast p s.raw } }
      s.sendControl p (.time s.now (s.get R.TB_EPOCH_EPOCH) (s.get R.TB_STATUS_STATE) (s.flag R.TB_STATUS_STEP_USED))
    else s)

/-- A time flit makes a sample on the device that follows the port (R509, R510). -/
def State.followTime (s : State) (p : Nat) (t : Int) (epoch st : Nat) : State :=
  if s.get R.TB_CTRL_SOURCE ≠ 1 + p then s
  else
    let s := if epoch ≠ s.get R.TB_EPOCH_EPOCH then
        let s := s.newEpoch.inc (R.TB_CNT_COUNT 8)
        { s with tb := { s.tb with followStep := true } }
      else s
    let s := s.setFlag R.TB_STATUS_UP_HOLDOVER (st = tbHoldover ∨ st = tbJumped)
    s.sample (1 + p) (t + ((s.get (R.TB_WL_LAT_LAT p) : Int) + s.getSigned (R.TB_WL_LAT_TRIM p) + 8) / 16) s.raw

/-- TIME_FLIT_RECEIVE: before LAT has been measured the flit is dropped and counted (R575, R509, log 37). -/
def execTimeFlitReceive (p : WlPort) (h : FlitHdr) (t : Word) (epoch : BitVec 32) (st : BitVec 3) (_used : Bool) (now : Nat) (s : State) : Out :=
  s.onFlit p now (fun s =>
    let s := s.takeHeader p h
    if (s.wlPort p).latOk then s.followTime p t.toNat epoch.toNat st.toNat else s.wlCount p 9 1)

end Sys2Proof.Machine
end

