-- ==== Sys2Proof/Machine/Threads.lean ====
section
/-! DEFINITION. Traps of sequencer threads and management cores, and how a thread starts, stops and resumes (03_morop.md R79, R124 to R134,
R138, R751). -/

namespace Sys2Proof.Machine

/-! ### Trap causes (R124) -/

def cILL : Nat := 0x01
def cFET : Nat := 0x02
def cMAL : Nat := 0x03
def cBND : Nat := 0x04
def cFPM : Nat := 0x05
def cFER : Nat := 0x06
def cRLM : Nat := 0x07
def cWDD : Nat := 0x08
def cSWT : Nat := 0x09
def cBKP : Nat := 0x0A
def cHLT : Nat := 0x0B
def cECC : Nat := 0x0C
def cMAP : Nat := 0x0D
def cSTOPTO : Nat := 0x0E

/-- DETAIL of a trap's record: the cause in [7:0] and the low bits of TVAL in [63:8] (17_sieve.md R631). -/
def trapDetail (cause : Nat) (tval : Word) : Word := BitVec.ofNat 64 (cause + tval.toNat * 256)

/-- Record a trap: the sequencer's Sieve source, the notice to the management processor complex with line 3, and the channel's TRAP_COUNT
(R96, R124, R132). -/
def State.noteTrap (s : State) (t cause : Nat) (tval : Word) : State :=
  let ch := (s.thr t).chan
  let s := if ch < 256 then s.incSat (R.CTX_RECIPE_STATUS_TRAP_COUNT ch) else s
  let s := s.report (30 + t / 4) (suspect kThread t) (trapDetail cause tval)
  (s.notice 0).raiseLines 3

/-- A sequencer thread traps: the instruction has no effect, TPC, cause and TVAL are set, and the thread is TRAPPED (R124). -/
def State.trapThread (s : State) (t cause : Nat) (tval : Word) : State :=
  let th := s.thr t
  (s.setThr t { th with st := .trapped, tpc := th.pc, cause := cause, tval := tval, wait := none, block := .none, halting := false }).noteTrap
    t cause tval

/-- Exchange g29 to g31 with the handler bank (R133). -/
def State.swapBank (s : State) (k : Nat) : State :=
  let c := s.core k
  let t := s.thr (256 + k)
  (s.setCore k { c with b29 := t.rg 29, b30 := t.rg 30, b31 := t.rg 31, bank := !c.bank }).setThr (256 + k)
    (((t.wg 29 c.b29).wg 30 c.b30).wg 31 c.b31)

/-- A management core enters its handler at a slot with K_REASON and K_DETAIL (R133). -/
def State.enterHandler (s : State) (k slot reason : Nat) (detail : Word) : State :=
  let c := s.core k
  let pc := (s.thr (256 + k)).pc
  let s := s.setCore k { c with resume := pc, reason := reason, detail := detail, irqSaved := c.irqOn, irqOn := false, inHandler := true }
  let s := s.swapBank k
  s.setThr (256 + k) { s.thr (256 + k) with pc := c.table + 16 * slot, st := .runnable, wait := none, block := .none }

/-- Report a core's error: K_REASON and K_RESUME (R134). -/
def State.coreErr (s : State) (k : Nat) : State :=
  let c := s.core k
  s.report (24 + k) (suspect kCore k) (BitVec.ofNat 64 (c.reason % 1024 + c.resume % 2 ^ 48 * 2 ^ 16))

/-- A management core traps; within a handler it enters slot 15 and raises CORE_ERR (R133, R134). -/
def State.trapCore (s : State) (k cause : Nat) (tval : Word) : State :=
  let c := s.core k
  let t := s.thr (256 + k)
  if c.inHandler then
    let s := s.setCore k { c with resume := t.pc, reason := cause + 512, detail := tval }
    (s.setThr (256 + k) { t with pc := c.table + 16 * 15, st := .runnable, wait := none, block := .none }).coreErr k
  else s.enterHandler k cause cause tval

/-- A Morop context traps. -/
def State.trap (s : State) (i cause : Nat) (tval : Word) : State :=
  if i < 256 then s.trapThread i cause tval else s.trapCore (i - 256) cause tval

/-! ### Entries (R101, R127, R138) -/

/-- The entry slot of an event with a RESUME flag, if its address lies in the instruction partition. -/
def State.entrySlot (s : State) (t ev : Nat) (resume : Bool) : Option Nat :=
  (List.range 16).find? (fun v => s.flag (R.SEQ_TH_VEC_VALID (t / 4) (t % 4) v) && decide (s.get (R.SEQ_TH_VEC_EVENT (t / 4) (t % 4) v) = ev) &&
    (s.flag (R.SEQ_TH_VEC_RESUME (t / 4) (t % 4) v) == resume) &&
    decide (s.get (R.SEQ_TH_VEC_ADDR (t / 4) (t % 4) v) < s.get (R.SEQ_TH_IMAP_LEN (t / 4) (t % 4))))

/-- Address of an entry slot. -/
def State.slotAddr (s : State) (t v : Nat) : Nat := s.get (R.SEQ_TH_VEC_ADDR (t / 4) (t % 4) v)

/-- Whether a thread's partitions and START entry are such as START needs (R138). -/
def State.mapOk (s : State) (t : Nat) : Bool :=
  decide (s.get (R.SEQ_TH_IMAP_BASE (t / 4) (t % 4)) + s.get (R.SEQ_TH_IMAP_LEN (t / 4) (t % 4)) ≤ 32768) &&
  decide (s.get (R.SEQ_TH_DMAP_BASE (t / 4) (t % 4)) + s.get (R.SEQ_TH_DMAP_LEN (t / 4) (t % 4)) ≤ 32768) &&
  decide (s.get (R.SEQ_TH_IMAP_LEN (t / 4) (t % 4)) ≠ 0) && (s.entrySlot t 0 false).isSome

/-! ### Start, stop, resume (R127, R129, R751) -/

/-- Whether a task issued by a context still holds a task entry. -/
def State.hasTasks (s : State) (i : Nat) : Bool := s.tasks.any (fun p => decide (p.2.issuer = i) && !(p.2.st = .free))

/-- START acts: the thread runs from its START entry with cleared state (R751). -/
def State.startNow (s : State) (t : Nat) : State :=
  let th := s.thr t
  let a := (s.entrySlot t 0 false).elim 0 (fun v => s.slotAddr t v)
  s.setThr t { th with st := .runnable, g := [], pc := a, ven := true, epend := 0, cycles := 0, instret := 0, runcount := 0, cqBase := 0, cqLen := 0,
                       cqHead := 0, cqTail := 0, wait := none, block := .none, halting := false, stopBy := none, storesUntil := 0,
                       ringKey := none }

/-- A write of START (R138, R751). -/
def State.startThread (s : State) (t : Nat) : State :=
  if (s.thr t).st ≠ .idle ∨ !s.flag (R.SEQ_CTRL_ENABLE (t / 4)) ∨ s.hasTasks t then s
  else if s.mapOk t then s.startNow t
  else
    let th := s.thr t
    (s.setThr t { th with st := .trapped, cause := cMAP, tval := 0, ringKey := none }).noteTrap t cMAP 0

/-- A channel's thread is bound to it (R79). -/
def State.bindThread (s : State) (ch t : Nat) : State :=
  let s := (s.set (R.CTX_BIND_THREAD ch) t).setFlag (R.CTX_BIND_VALID ch) true
  s.setThr t { s.thr t with chan := ch }

/-- A standby channel that waits for a takeover: admitted, not running and not being released (R599, R607). -/
def State.waits (s : State) (ch : Nat) : Bool :=
  s.standby ch && (s.admOf ch).admitted && !(s.admOf ch).releasing && !s.running ch && !s.relWait.contains ch

/-- A thread reaches IDLE: its binding ends, and its channel, if it had one, stops (R79, R177, R307). A demoted unit's channel stays admitted under the
standby rules and counts as stopping until it is next started (R178, R599). -/
def State.idle (s : State) (t : Nat) : State :=
  let ch := (s.thr t).chan
  let s := s.toIdle t
  if ch < 256 then (s.set (R.CONS_CH_COUNT ch 2) 0).sweepStopped ch else s

/-- A thread is stopped by software: it enters IDLE at once, and its channel is no longer running (R79, R751). -/
def State.stopThread (s : State) (t : Nat) : State :=
  if (s.thr t).st = .idle then s else s.idle t

/-- A TRAPPED thread resumes at its resume entry, or at START (R127). -/
def State.resumeThread (s : State) (t : Nat) : State :=
  let th := s.thr t
  if th.st = .trapped then
    let v := (s.entrySlot t 0 true).orElse (fun _ => s.entrySlot t 0 false)
    s.setThr t { th with st := .runnable, pc := v.elim 0 (fun v => s.slotAddr t v), ven := true, runcount := 0 }
  else s

/-- A write of SEQ_TH_CTRL's START, STOP and RESUME (R751). -/
def State.threadCtrl (s : State) (t : Nat) (start stop resume : Bool) : State :=
  if stop then s.stopThread t
  else if resume ∧ (s.thr t).st = .trapped then s.resumeThread t
  else if start then s.startThread t
  else s

/-- THREAD_START. -/
def execThreadStart (t : Thr) (s : State) : Out := whenWr s (fun s => s.threadCtrl t true false false)

/-- THREAD_STOP. -/
def execThreadStop (t : Thr) (s : State) : Out := whenWr s (fun s => s.threadCtrl t false true false)

/-- THREAD_RESUME. -/
def execThreadResume (t : Thr) (s : State) : Out := whenWr s (fun s => s.threadCtrl t false false true)

/-- STOP_TIMEOUT: a thread that has not executed HALT within STOP_LIMIT is forced to IDLE with cause STOPTO (R129). -/
def execStopTimeout (t : Thr) (now : Nat) (s : State) : Out :=
  whenLive s (fun s =>
    let s := s.advance now
    let th := s.thr t
    match th.stopBy with
    | none => s
    | some b =>
      if b ≤ s.raw ∧ !th.halting ∧ th.st ≠ .idle then
        let s := (s.setThr t { th with cause := cSTOPTO, tval := 0 }).noteTrap t cSTOPTO 0
        s.idle t
      else s)

/-- CTX_DOORBELL: events 48 to 63 go to the bound thread (R96, R98). -/
def State.doorbell (s : State) (ch ev : Nat) : State := if 48 ≤ ev ∧ ev ≤ 63 then s.postCh ch ev else s

/-- CTX_DOORBELL. -/
def execCtxDoorbell (ch : Chan) (ev : BitVec 6) (s : State) : Out := whenWr s (fun s => s.doorbell ch ev.toNat)

/-! ### Sequencer memory through SEQ_MEM_DATA (R125, R135, R137) -/

/-- The byte address in SEQ_MEM_ADDR; its bits [2:0] read 0. -/
def State.seqAddr (s : State) (n : Nat) : Nat := 8 * s.get (R.SEQ_MEM_ADDR_ADDR n)

/-- ADDR advances by 8 within the addressed memory under AUTOINC. -/
def State.seqAdvance (s : State) (n : Nat) : State :=
  if s.flag (R.SEQ_MEM_ADDR_AUTOINC n) then
    let i := s.get (R.SEQ_MEM_ADDR_ADDR n)
    s.set (R.SEQ_MEM_ADDR_ADDR n) (i / 0x1000 * 0x1000 + (i + 1) % 0x1000)
  else s

/-- What SEQ_MEM_DATA reads: the 8 bytes at ADDR, or a free value where they hold an uncorrectable error, for which no rule gives one (log 121). -/
def State.seqData (s : State) (n : Nat) : Nat :=
  let k := seqKey n (s.seqAddr n)
  if s.seqBadAt k 8 then s.free.toNat else s.seqRd k 8

/-- SEQ_MEM_DATA has been read: what the check of the word found stays, a free value is used up, and ADDR advances (R125). -/
def State.seqDataDone (s : State) (n : Nat) (ecc : Check) : State :=
  let s := if ecc = .corrected then s.inc (R.SEQ_ECC_COUNT_COUNT n) else s
  let s := if s.seqBadAt (seqKey n (s.seqAddr n)) 8 then s.took else s
  s.seqAdvance n

/-- An uncorrectable error is found in the word at ADDR: it stays there (R125). -/
def State.seqDataCheck (s : State) (n : Nat) (ecc : Check) : State :=
  let w := seqKey n (s.seqAddr n) / 8
  if ecc = .bad ∧ !s.seqBad.contains w then { s with seqBad := w :: s.seqBad } else s

/-- A write of SEQ_MEM_DATA: all 8 bytes with a new check code, or a refusal of instruction memory while a thread is not IDLE. -/
def State.seqDataWrite (s : State) (n v : Nat) : State :=
  let a := s.seqAddr n
  let busy := (List.range 4).any (fun i => (s.thr (4 * n + i)).st ≠ .idle)
  let s := if a < 0x8000 ∧ busy then s.setFlag (R.SEQ_STATUS_MEM_ERR n) true
    else { s.seqWr (seqKey n a) 8 v with seqBad := s.seqBad.filter (fun w => decide (w ≠ seqKey n a / 8)) }
  s.seqAdvance n

/-- SEQ_MEM_DATA_WRITE. -/
def execSeqMemDataWrite (n : SeqId) (v : Word) (s : State) : Out := whenWr s (fun s => s.seqDataWrite n v.toNat)

/-- SEQ_MEM_DATA_READ: the value stays in the data port for the reader (log 7). -/
def execSeqMemDataRead (r : SeqRead) (s : State) : Out :=
  whenWr s (fun s =>
    let n := r.seq
    let s := s.seqDataCheck n r.ecc
    (s.emit (.regRead (K.SEQ_MEM_DATA n) (some (BitVec.ofNat 64 (s.seqData n))))).seqDataDone n r.ecc)

end Sys2Proof.Machine
end

