-- ==== Sys2Proof/Machine/Channel.lean ====
section
/-! DEFINITION. Shadowed writes, the hand-over, starter images, and how a channel starts (02_layout_table.md R60 to R70, R750,
07_codec_engines.md R293, 08_rate_and_delay.md R354, 16_redundancy.md R607 to R620). -/

namespace Sys2Proof.Machine

/-! ### Shadowed writes (R60, R65 to R70, R750) -/

/-- The channel in whose hand-over domain an SRW register lies (R60). -/
def srwChan (k : Nat) : Nat :=
  if k < 0x880000 then (k - 0x801000) / 32 else if k < 0x1000000 then (k - 0x888000) / 256 else (k - 0x1000000) / 0x30000

/-- LANDED register of a writer: host, recipe or management processor complex (R68). -/
def landedField (q : Requester) (ch : Nat) : Field :=
  match q with
  | .host => R.CTX_LANDED_HOST_SNAP ch
  | .recipe _ => R.CTX_LANDED_SEQ_SNAP ch
  | _ => R.CTX_LANDED_MPC_SNAP ch

/-- What CTX_LANDED_* reads while a write is held. -/
def allOnes : Nat := 0xFFFFFFFFFFFFFFFF

/-- The writes of a channel's shadow copy that are not complete before the present CLK_SEQ cycle (R65, R66, R69). -/
def State.shadowLog (s : State) (ch : Nat) : ShadowLog :=
  let c := seqCycle s.raw
  let l := tget (fun _ => {}) s.shadowNow ch
  { writes := l.writes.filter (fun p => decide (c ≤ p.2.1)), holds := l.holds.filter (fun p => decide (c ≤ p.1)),
    fields := l.fields.filter (fun p => decide (c ≤ p.2)) }

/-- Keep the writes of a channel's shadow copy. -/
def State.setShadow (s : State) (ch : Nat) (l : ShadowLog) : State := { s with shadowNow := tset (fun _ => {}) s.shadowNow ch l }

/-- The value that was pending of a register at the end of the cycle before the oldest write in the log; none where the log holds no write of it. -/
def ShadowLog.prior (l : ShadowLog) (k : Nat) : Option (Option Word) := (l.writes.find? (fun p => decide (p.1 = k))).map (·.2.2)

/-- HOLD at the end of the preceding cycle, where it reads `h` now. -/
def ShadowLog.hold (l : ShadowLog) (h : Bool) : Bool := l.holds.head?.elim h (·.2.1)

/-- Whether a write in the log cleared HOLD. -/
def ShadowLog.cleared (l : ShadowLog) : Bool := l.holds.any (·.2.2)

/-- Whether a write in the log set a LANDED register. -/
def ShadowLog.late (l : ShadowLog) (f : Field) : Bool := l.fields.any (fun p => decide (p.1 = f.key))

/-- A write completes in the shadow copy of a register (R65, R67). -/
def State.srwWrite (s : State) (q : Requester) (k : Nat) (v : Word) : State :=
  let ch := srwChan k
  let c := seqCycle s.raw
  let l := s.shadowLog ch
  let old := if s.srwPend.contains k then some (s.reg k) else none
  let s := s.setShadow ch { l with writes := l.writes ++ [(k, c, old)], fields := l.fields ++ [((landedField q ch).key, c)] }
  let s := s.setReg k v
  let s := { s with srwPend := if s.srwPend.contains k then s.srwPend else k :: s.srwPend }
  let s := s.setFlag (R.CTX_SHADOW_CTRL_PENDING ch) true
  s.set (landedField q ch) (if s.flag (R.CTX_SHADOW_CTRL_HOLD ch) then allOnes else s.snapNow ch + 1)

/-- The three LANDED fields of a channel. -/
def landedFields (ch : Nat) : List Field := [R.CTX_LANDED_HOST_SNAP ch, R.CTX_LANDED_SEQ_SNAP ch, R.CTX_LANDED_MPC_SNAP ch]

/-- A write of HOLD; clearing it counts as a shadowed write, and every held write lands with it (R69, R70). -/
def State.writeHold (s : State) (q : Requester) (ch : Nat) (hold : Bool) : State :=
  let c := seqCycle s.raw
  let l := s.shadowLog ch
  let old := s.flag (R.CTX_SHADOW_CTRL_HOLD ch)
  if hold then (s.setShadow ch { l with holds := l.holds ++ [(c, old, false)] }).setFlag (R.CTX_SHADOW_CTRL_HOLD ch) true
  else if old then
    let n := s.snapNow ch + 1
    let held := (landedFields ch).filter (fun f => decide (s.get f = allOnes))
    let s := s.setShadow ch { l with holds := l.holds ++ [(c, true, true)],
                                     fields := l.fields ++ (landedField q ch :: held).map (fun (f : Field) => (f.key, c)) }
    let s := held.foldl (fun s f => s.set f n) s
    ((s.set (landedField q ch) n).setFlag (R.CTX_SHADOW_CTRL_HOLD ch) false).setFlag (R.CTX_SHADOW_CTRL_PENDING ch) true
  else s

/-- CTX_SHADOW_CTRL_WRITE. -/
def execCtxShadowCtrlWrite (q : Requester) (ch : Chan) (hold : Bool) (s : State) : Out := whenWr s (fun s => s.writeHold q ch hold)

/-- Every pending value of a channel enters snapshot n. -/
def State.landPending (s : State) (ch n : Nat) : State :=
  let ks := s.srwPend.filter (fun k => decide (srwChan k = ch))
  { s with landed := ks.map (fun k => ⟨k, n, s.reg k⟩) ++ s.landed, srwPend := s.srwPend.filter (fun k => decide (srwChan k ≠ ch)) }

/-- The values of a channel that were pending at the end of the preceding cycle enter snapshot n; a register written since stays pending (R65, R66). -/
def State.landBefore (s : State) (ch n : Nat) (l : ShadowLog) : State :=
  let ks := s.srwPend.filter (fun k => decide (srwChan k = ch))
  let old := ks.filterMap (fun k => match l.prior k with
    | some v => v.map (Landed.mk k n)
    | none => some ⟨k, n, s.reg k⟩)
  let s := { s with landed := old ++ s.landed,
                    srwPend := s.srwPend.filter (fun k => decide (srwChan k ≠ ch) || (l.prior k).isSome) }
  s.setFlag (R.CTX_SHADOW_CTRL_PENDING ch) (l.cleared || ks.any (fun k => (l.prior k).isSome))

/-- Landing at the hand-over that opens snapshot n. HOLD is as it stood at the end of the preceding cycle, and a write that completes in the hand-over's
own cycle or after it lands in the snapshot after; with HOLD the pending writes are held from here on (R66, R69, R750). -/
def State.landAt (s : State) (ch n : Nat) : State :=
  let l := s.shadowLog ch
  let s := (landedFields ch).foldl (fun s f => if l.late f ∧ s.get f = n then s.set f (n + 1) else s) s
  if l.hold (s.flag (R.CTX_SHADOW_CTRL_HOLD ch)) then
    (landedFields ch).foldl (fun s f => if !l.late f ∧ s.get f = n ∧ s.flag (R.CTX_SHADOW_CTRL_PENDING ch) then
      s.set f (if s.flag (R.CTX_SHADOW_CTRL_HOLD ch) then allOnes else n + 1) else s) s
  else s.landBefore ch n l

/-! ### Starter images (16_redundancy.md R612 to R616) -/

/-- The word of an 8-byte aligned offset of a register area as snapshot n uses it. -/
def State.wordIn (s : State) (k n : Nat) : Nat :=
  match regAt k with
  | some (row, b) =>
    let v := if row.fields.any (fun f => f.acc = .srw) then s.regIn b n else s.reg b
    v.toNat / 2 ^ (8 * (k - b)) % 2 ^ 32
  | none => 0

/-- n bytes of a channel's window from an offset, as snapshot `snap` uses them. -/
def State.windowBytes (s : State) (ch off n snap : Nat) : List (BitVec 8) :=
  (List.range (n / 4)).flatMap (fun i => leBytes 4 (s.wordIn (0x1000000 + 0x30000 * ch + off + 4 * i) snap))

/-- Section 3 of a decode channel's image (09_decode.md R410; layout: log 38): the grid's start, the output frame number, the anchor of arrival mode, and
the ring number of the latest entry point. -/
def State.decodeSection (s : State) (ch : Nat) : List (BitVec 8) :=
  let d := s.decOf ch
  let a := d.anchor.getD (0, 0)
  padTo 4096 (leBytes 8 (s.get (R.DEC_GRID_BASE_NS ch)) ++ leBytes 8 d.outN ++ leBytes 1 (if d.anchor.isSome then 1 else 0) ++ leBytes 16 a.1.toNat ++
    leBytes 8 a.2 ++ leBytes 8 (((d.aus.filter (fun u => u.head)).getLast?).elim 0 (fun (u : Au) => u.no)))

/-- Section 3 (R612; layout: log 38): by rendition F, latest release, refresh position, plan position, and q_end of every column. -/
def State.codingSection (s : State) (ch : Nat) : List (BitVec 8) :=
  if s.flag (R.DEC_CFG_ENABLE ch) then s.decodeSection ch
  else (List.range 8).flatMap (fun r =>
    let x := s.rend ch r
    padTo 512 (leBytes 8 x.f ++ leBytes 16 (x.lastRel.getD 0).toNat ++ leBytes 8 x.pos ++ leBytes 8 x.planI ++
      (List.range 3).flatMap (fun k => (List.range 16).flatMap (fun c => leBytes 1 ((tfind x.qEnd (16 * k + c)).getD 255)))))

/-- Egress flows of a channel, at most 32. -/
def State.channelFlows (s : State) (ch : Nat) : List Nat :=
  (s.egrOn.filter (fun f => decide (s.get (R.EGR_FLOW_SRC_STREAM f) / 8 = ch))).take 32

/-- Section 4 (R612; layout: log 38): by flow its number, RTP sequence number, SRTP index, cadence index and continuity counters. -/
def State.transportSection (s : State) (ch : Nat) : List (BitVec 8) :=
  padTo 2048 ((s.channelFlows ch).flatMap (fun f =>
    let x := s.str (s.get (R.EGR_FLOW_SRC_STREAM f))
    padTo 64 (leBytes 2 f ++ leBytes 2 (s.flowTx f).seq ++ leBytes 6 (s.get (R.EGR_FLOW_SRTP_IDX_INDEX f)) ++ leBytes 8 x.j ++
      x.cc.flatMap (fun p => leBytes 2 p.1 ++ leBytes 1 p.2))))

/-- Section 5: the skip templates. -/
def State.templates (s : State) (ch : Nat) : List (BitVec 8) :=
  (List.range 8).flatMap (fun r =>
    let a := (s.reg (K.CTX_REND_CODEC ch r)).toNat
    let b := (s.reg (K.CTX_REND_TILES ch r)).toNat
    (List.range 1024).map (fun i => Config.skipTemplate a b i))

/-- The data partition of a thread. -/
def State.dataBytes (s : State) (t : Nat) : List (BitVec 8) :=
  (List.range (s.get (R.SEQ_TH_DMAP_LEN (t / 4) (t % 4)))).map (fun i =>
    s.seqByte (seqKey (t / 4) (0x8000 + s.get (R.SEQ_TH_DMAP_BASE (t / 4) (t % 4)) + i)))

/-- The starter image of a group's channel for a snapshot (R612, R613). -/
def State.starterImage (s : State) (g ch seq snap : Nat) : List (BitVec 8) :=
  let data := (s.boundThread ch).elim [] s.dataBytes
  let len := 0x6840 + data.length + 16
  let head := leBytes 4 0x49535A41 ++ leBytes 2 0x0100 ++ leBytes 1 g ++ leBytes 1 ch ++ leBytes 8 seq ++ leBytes 8 snap ++
    leBytes 4 (s.ownClaim g) ++ leBytes 4 len ++ leBytes 4 data.length ++ leBytes 28 0
  let body := head ++ s.windowBytes ch 0x1000 0x1000 snap ++ s.windowBytes ch 0x2000 0x2000 snap ++ s.codingSection ch ++
    s.transportSection ch ++ s.templates ch ++ data
  body ++ leBytes 8 seq ++ leBytes 4 (crcTag body) ++ leBytes 4 0

/-- Send bytes to a peer's memory as MEM_WRITE flits (15_weneiren.md R573). -/
def State.sendBytes (s : State) (p a : Nat) (l : List (BitVec 8)) : State :=
  (List.range (ceilDiv l.length 236)).foldl (fun s i => s.queueFlit p (.memWrite (a + 236 * i) ((l.drop (236 * i)).take 236))) s

/-- Whether flits of a group's previous image are not yet acknowledged (R615). -/
def State.imageInFlight (s : State) (g : Nat) : Bool :=
  let w := s.wlPort (s.get (R.CLB_GRP_CFG_LINK g))
  let a := s.get (R.CLB_GRP_IMG_PEER_ADDR g)
  (w.tx ++ w.sent.map (·.2)).any (fun f => match f with
    | .memWrite b _ => decide (a ≤ b) && decide (b < a + 0x20000)
    | _ => false)

/-- Build and send the image of a snapshot, or skip it (R614, R615). -/
def State.mirror (s : State) (g ch snap : Nat) : State :=
  if s.imageInFlight g then (s.inc (R.CLB_GRP_CNT_COUNT g 7)).report 431 (suspect kGroup g)
  else
    let seq := (s.grp g).seq + 1
    let s := ((s.setGrp g { s.grp g with seq := seq }).set (R.CLB_GRP_IMG_SEQ_SEQ g) seq).inc (R.CLB_GRP_CNT_COUNT g 6)
    let s := s.sendBytes (s.get (R.CLB_GRP_CFG_LINK g)) (s.get (R.CLB_GRP_IMG_PEER_ADDR g) + seq % 2 * 0x10000) (s.starterImage g ch seq snap)
    ((List.range 3).filter (fun p => bitAt (s.get (R.CLB_GRP_CFG_TMPL_LINKS g)) p)).foldl (fun s p =>
      s.sendBytes p (s.get (R.CLB_GRP_TMPL_ADDR g)) (s.templates ch)) s

/-- Show whether a cycle of a group is pending. -/
def State.showPending (s : State) (g : Nat) : State :=
  s.setFlag (R.CLB_GRP_STATUS_PENDING g) ((s.grp g).hb || (s.grp g).challenge)

/-- What an ACTIVE unit does for a group at a hand-over of its channel: heartbeats, unless it yields, and the image (R609, R611, R614). -/
def State.groupHandover (s : State) (ch snap g : Nat) : State :=
  let s := if s.flag (R.CLB_GRP_STATUS_YIELDING g) then s
    else
      let s := (s.setGrp g { s.grp g with hb := true }).showPending g
      let s := s.sendControl (s.get (R.CLB_GRP_CFG_LINK g))
        (.heartbeat g (s.get R.CLB_CTRL_UNIT_ID) (s.ownClaim g) snap (s.grp g).seq)
      s.inc (R.CLB_GRP_CNT_COUNT g 0)
  s.mirror g ch snap

/-- Groups in which this unit is ACTIVE for a channel. -/
def State.activeGroups (s : State) (ch : Nat) : List Nat :=
  (List.range 64).filter (fun g => s.flag (R.CLB_GRP_CFG_ENABLE g) && decide (s.get (R.CLB_GRP_CFG_CHANNEL g) = ch) &&
    decide (s.get (R.CLB_GRP_STATUS_ROLE g) = 1))

/-! ### The hand-over (R61 to R64) -/

/-- Whether a channel codes pictures. -/
def State.encodes (s : State) (ch : Nat) : Bool := !s.flag (R.DEC_CFG_ENABLE ch)

/-- Releases of skip units strictly between two times, for a channel whose frame n is a release grid's start (R620). -/
def State.skipsBetween (s : State) (ch : Nat) (a b : Int) : Nat :=
  let p : Int := s.period ch
  let bands := if s.subframe ch then s.bandCount ch else 1
  (List.range bands).foldl (fun n k => n + ((b - s.releaseTime ch 0 k - 1) / p - (a - s.releaseTime ch 0 k) / p).toNat) 0

/-- The models start at the first hand-over, when their values have landed (R67, R357, R620). -/
def State.modelsStart (s : State) (ch : Nat) : State :=
  let t := s.releaseTime ch (s.chan ch).first 0
  s.cpbStart ch (fun r =>
    let l := ((s.chan ch).image.getD r (0, 0)).2
    8 * Config.skipTemplateSize (s.reg (K.CTX_REND_CODEC ch r)).toNat (s.reg (K.CTX_REND_TILES ch r)).toNat * s.skipsBetween ch l t) t

/-- The models at a hand-over: brought to now before the values land, clipped after (R363, R365). -/
def State.handoverModels (s : State) (ch n : Nat) : State :=
  let first := decide ((s.chan ch).handed = 0)
  let s := if first then s else (s.rendsOn ch).foldl (fun s r => s.cpbAdvance ch r) s
  let s := (s.set (R.CTX_COMMIT_SEQ_SEQ ch) n).landAt ch n
  if first then s.modelsStart ch else (s.rendsOn ch).foldl (fun s r => (s.cpbClip ch r).setGapBits ch r) s

/-- One hand-over of a running channel. -/
def State.handover (s : State) (ch : Nat) : State :=
  let n := s.snapNow ch + 1
  let s := (s.handoverModels ch n).setSigned (R.CTX_HANDOVER_TIME_TIME ch) s.now
  let s := s.setChan ch { s.chan ch with handed := (s.chan ch).handed + 1 }
  let s := (s.postCh ch 2).openWindow ch
  let s := if s.encodes ch then s.inc (R.CONS_CH_COUNT ch 2) else s
  let s := if s.subframe ch then s.missSplices ch n else s
  let s := s.muxHandover ch n
  (s.activeGroups ch).foldl (fun s g => s.groupHandover ch n g) s

/-- HANDOVER: at T_frame(n) of a running channel (R61, R63, R64). -/
def execHandover (ch : Chan) (now : Nat) (s : State) : Out :=
  whenLive s (fun s =>
    let s := s.advance now
    let c := s.chan ch
    if c.running ∧ s.gridOn ch ∧ s.reached (s.tFrame ch (c.first + c.handed)) then s.handover ch
    else s)

/-! ### Tests of a start (R293, R298, R315, R349, R354, R365, R408, R460, R613) -/

/-- The state in which a start's parameters are judged: as if admitted in a mode, and every pending value landed. -/
def State.trial (s : State) (ch : Nat) (sub : Bool) : State :=
  let s := s.landPending ch (s.snapNow ch + 1)
  let s := s.set (R.CTX_COMMIT_SEQ_SEQ ch) (s.snapNow ch + 1)
  { s with adm := tset (fun _ => {}) s.adm ch { s.admOf ch with admitted := true, subframe := sub } }

/-- Bytes of a packed reference picture with its motion field (R315). -/
def slotBytes (w h depth : Nat) (c420 : Bool) : Nat :=
  let n := if c420 then w * h * 3 / 2 else 2 * w * h
  (if depth = 8 then n else ceilDiv (n * 5) 4) + ceilDiv w 16 * ceilDiv h 16 * 16

/-- Whether an enabled rendition breaks a rule of the coding chapter; `n` is the snapshot judged (R291, R293 to R297, R315). -/
def State.rendBad (s : State) (ch r n : Nat) : Bool :=
  let vvc := s.flag (R.CTX_REND_CODEC_CODEC ch r)
  let prof := s.get (R.CTX_REND_CODEC_PROFILE ch r)
  let ctu := s.get (R.CTX_REND_CODEC_CTU ch r)
  let cols := s.columns ch r
  let (w, h) := s.rendSize ch r n
  let uniform := s.flag (R.CTX_REND_TILES_UNIFORM ch r)
  let width := fun c => s.get (R.CTX_REND_COLW_WIDTHS ch r (c / 8)) / 2 ^ (8 * (c % 8)) % 256
  !(if vvc then decide (prof = 1 ∨ prof = 3) && decide (ctu = 1 ∨ ctu = 2) else decide (prof ≤ 2) && decide (ctu ≤ 1)) ||
  decide (cols = 0) || decide (16 < cols) ||
  (!s.flag (R.CTX_REND_CODEC_WHOLE ch r) && decide (s.get (R.CTX_REND_CODEC_BAND_ROWS ch r) = 0)) ||
  (s.flag (R.CTX_REND_CODEC_WHOLE ch r) && s.subframe ch) ||
  (!uniform && (decide (s.colStart ch r n cols ≠ s.ctusWide ch r n) ||
    (List.range 16).any (fun c => decide (cols ≤ c) && decide (width c ≠ 0)))) ||
  (!vvc && (List.range (cols - 1)).any (fun c => decide (s.colWidth ch r n c * s.ctuSize ch r < 256))) ||
  decide (s.get (R.CTX_REND_REF_SLOTS ch r) = 0) || decide (16 < s.get (R.CTX_REND_REF_SLOTS ch r)) ||
  decide (s.get (R.CTX_REND_REF_SLOT_UNITS ch r) * 4096 < slotBytes w h (s.rendDepth ch r n) (s.rend420 ch r))

/-- A limit of a rendition's level and tier (R293). -/
def State.limit (s : State) (ch r : Nat) (i : Fin 7) : Nat :=
  Config.levelLimit (s.get (R.CTX_REND_CODEC_CODEC ch r)) (s.get (R.CTX_REND_CODEC_PROFILE ch r)) (s.get (R.CTX_REND_CODEC_TIER ch r))
    (s.get (R.CTX_REND_CODEC_LEVEL ch r)) i

/-- Whether an enabled rendition exceeds a limit of its level and tier (R293). -/
def State.overLimit (s : State) (ch r n : Nat) : Bool :=
  let (w, h) := s.rendSize ch r n
  decide (s.limit ch r 0 < w * h) || decide (s.limit ch r 1 * s.period ch < w * h * (1000000000 * 2 ^ 32)) ||
  decide (s.limit ch r 2 < s.columns ch r) || decide (s.limit ch r 3 < s.columns ch r) ||
  decide (s.limit ch r 4 < s.columns ch r * s.rendBands ch r n) || decide (s.limit ch r 5 < s.getIn (R.RC_REND_RATE_RATE_KBPS ch r) n) ||
  decide (s.limit ch r 6 < s.getIn (R.RC_REND_CPB_SIZE ch r) n)

/-- Bits of a rate over a time in 2^-32 ns, rounded down. -/
def rateBits (kbps dt : Nat) : Nat := kbps * dt / (1000000 * 2 ^ 32)

/-- The buffer conditions of an enabled rendition (R365). -/
def State.bufferBad (s : State) (ch r n : Nat) : Bool :=
  let p := s.period ch
  let band := s.linesTime ch (s.srcBand ch)
  let gap := p - (s.bandCount ch - 1) * band
  let long := if s.subframe ch then (if s.bandCount ch ≤ 1 then p else max band gap) else p
  let short := if s.subframe ch then (if s.bandCount ch ≤ 1 then p else min band gap) else p
  let rate := s.getIn (R.RC_REND_RATE_RATE_KBPS ch r) n
  let size := s.getIn (R.RC_REND_CPB_SIZE ch r) n
  let slices := s.columns ch r * (if s.subframe ch then 1 else s.rendBands ch r n)
  let ctus := s.ctusWide ch r n * s.unitRows ch r n 0
  decide (size < s.getIn (R.RC_REND_CPB_INIT ch r) n) ||
  (decide (s.getIn (R.RC_REND_RATE_VBR ch r) n = 0) &&
    (decide (size < ceilDiv (rate * long) (1000000 * 2 ^ 32) + 64) ||
     decide (min (rateBits rate short) (size - 32) < 2048 + 512 * slices + ctus * s.getIn (R.RC_REND_RESERVE_INTRA ch r) n)))

/-- An enabled rendition exceeds its level or breaks a rule of the coding chapter, in a channel of any kind; a channel has at most 16 columns (R293,
R298). -/
def State.rendsBad (s : State) (ch n : Nat) : Bool :=
  (s.rendsOn ch).any (fun r => s.rendBad ch r n || s.overLimit ch r n) ||
  (s.subframe ch && decide (16 < (s.rendsOn ch).foldl (fun a r => a + s.columns ch r) 0))

/-- A rate-control or coding-configuration error of an encode channel (R293, R298, R349, R354). -/
def State.codingBad (s : State) (ch n : Nat) (trays : Nat) : Bool :=
  let sub := s.subframe ch
  s.rendsBad ch n || !s.flag (R.CTX_REND_CODEC_ENABLE ch 0) || (s.rendsOn ch).any (fun r => s.bufferBad ch r n) ||
  (sub && (decide (s.getIn (R.CTX_GOP_GOP_LEN ch) n ≠ 1) || decide (2 < trays) ||
    decide (s.get (R.RC_CH_TIMING_TOTAL_LINES ch) < s.bandCount ch * s.srcBand ch))) ||
  (!sub && decide (s.get (R.RC_CH_FRAME_CODE_US ch) * 1000 * 2 ^ 32 < s.period ch)) ||
  decide (s.get (R.RC_CH_DELAY_D ch) < s.dMin ch) || (!s.flag (R.CTX_DEC_SRC_ENABLE ch) && (s.videoFlow ch).isNone)

/-- A start of a transcode channel that R408 refuses. -/
def State.transcodeBad (s : State) (ch : Nat) : Bool :=
  let d := s.get (R.CTX_DEC_SRC_SOURCE ch)
  s.flag (R.CTX_DEC_SRC_ENABLE ch) && s.encodes ch &&
  (!s.running d || !s.flag (R.DEC_CFG_ENABLE d) || !s.flag (R.DEC_OUT_CTRL_TO_TRANSCODE d) || decide (s.period d ≠ s.period ch) ||
    (s.transcodeOf d).isSome)

/-- RATE_ERR and LAG_ERR of a stream (R460). -/
def State.tsErrs (s : State) (ch i n : Nat) : Bool × Bool :=
  let r := i % 8
  let rate := s.getIn (R.RC_REND_RATE_RATE_KBPS ch r) n
  let lag := (s.delayNs ch * 2 ^ 32 + (s.getIn (R.CTX_GOP_GOP_LEN ch) n - 1) * s.period ch : Nat)
  (decide (s.get (R.MUX_STR_RATE_TS_RATE_KBPS i) * 184 < (rate + 2700 * s.get (R.MUX_STR_CFG_AUDIO_PAIRS i) + 200) * 188),
   decide (s.get (R.MUX_STR_RATE_PCR_LAG_US i) * 1000 * 2 ^ 32 <
     lag + (if rate = 0 then 0 else ceilDiv (1000 * s.getIn (R.RC_REND_CPB_SIZE ch r) n) rate) * 1000 * 2 ^ 32))

/-- Show the errors of a channel's transport streams; whether there is one (R460). -/
def State.tsCheck (s : State) (ch n : Nat) (t : State) : State × Bool :=
  (s.tsOf ch).foldl (fun (q : State × Bool) i =>
    let e := t.tsErrs ch i n
    ((q.1.setFlag (R.MUX_STR_STATUS_RATE_ERR i) e.1).setFlag (R.MUX_STR_STATUS_LAG_ERR i) e.2, q.2 || e.1 || e.2)) (s, false)

/-- A protected channel whose image would not fit (R613). -/
def State.imageBad (s : State) (ch t : Nat) : Bool :=
  (List.range 64).any (fun g => s.flag (R.CLB_GRP_CFG_ENABLE g) && decide (s.get (R.CLB_GRP_CFG_CHANNEL g) = ch)) &&
  (decide (32768 < s.get (R.SEQ_TH_DMAP_LEN (t / 4) (t % 4))) ||
   (s.rendsOn ch).any (fun r => decide (1024 < Config.skipTemplateSize (s.reg (K.CTX_REND_CODEC ch r)).toNat (s.reg (K.CTX_REND_TILES ch r)).toNat)))

/-! ### Starting (R43, R251, R404, R607, R618) -/

/-- First index of a grid of base b and period p (2^-32 ns) that is not in the past. -/
def State.gridNext (s : State) (b p : Nat) : Nat := ((s.now * 2 ^ 32 - b + p - 1) / p).toNat

/-- Index of a channel's first frame: of a decode or transcode channel the next one of its grid (R61, R398, R407). -/
def State.firstFrame (s : State) (ch : Nat) : Nat :=
  let d := if s.flag (R.DEC_CFG_ENABLE ch) then ch else s.get (R.CTX_DEC_SRC_SOURCE ch)
  if s.flag (R.DEC_CFG_ENABLE ch) ∨ s.flag (R.CTX_DEC_SRC_ENABLE ch) then s.gridNext (s.get (R.DEC_GRID_BASE_NS d) * 2 ^ 32) (s.period d) else 0

/-- Take the n lowest-numbered of `m` pipelines that no channel owns (R251). -/
def bindPipes (own : Table Nat) (ch m n : Nat) : Table Nat :=
  (((List.range m).filter (fun p => decide (tget (fun _ => 0) own p = 0))).take n).foldl (fun t p => tset (fun _ => 0) t p (ch + 1)) own

/-- A sub-frame channel binds whole pipelines (R251). -/
def State.bindChannelPipes (s : State) (ch : Nat) : State :=
  if s.subframe ch then
    let n := fun r => (tget (fun _ => 0) (s.admOf ch).perSecond r) / 1000000
    let s := { s with prfOwn := bindPipes s.prfOwn ch 16 (n 1), sclOwn := bindPipes s.sclOwn ch 8 (n 2) }
    s.set R.PRF_OWNED_OWNED (s.prfOwn.foldl (fun m p => m + 2 ^ p.1) 0)
  else s

/-- Coding begins at frame `first`: plans, models, slots and proofs of the renditions start anew. -/
def State.rendsBegin (s : State) (ch first : Nat) : State :=
  let s := { s with units := s.units.filter (fun u => decide (u.ch ≠ ch)), proofs := s.proofs.filter (fun p => decide (p.ch ≠ ch)) }
  (List.range 8).foldl (fun s r =>
    let x : RendSt := { planI := first, planN := first, coded := first, lastIrap := first,
                        encNo := (List.range 16).foldl (fun t c => tset (fun _ => 0) t c first) [] }
    (s.setRend ch r x).showSlots ch r) s

/-- A decode channel begins at output frame `first` with the units that its ring holds, on a takeover from the latest entry point among them (R397,
R404, R411). Decoded pictures that an earlier run left waiting are dropped, and units that it had begun, or that lie before the entry point, are skipped;
each is counted (00_scope.md R22, R401, R414). -/
def State.decBegins (s : State) (ch first : Nat) (takeover : Bool) : State :=
  let d := s.decOf ch
  let from' := if takeover then ((d.aus.filter (fun u => u.head)).getLast?).elim 0 (fun (u : Au) => u.no) else 0
  let old := (d.aus.filter (fun u => decide (u.fate = .waiting) && decide (u.no < from'))).length
  let begun := d.aus.filter (fun u => decide (u.fate ≠ .waiting) || decide (u.no < from'))
  let lost := begun.filter (fun u => match u.fate with | .decoded _ => true | _ => false)
  let s := (s.add (R.DEC_CNT_COUNT ch 9) d.pics.length).add (R.DEC_CNT_COUNT ch 3) (lost.length + old)
  let aus := d.aus.filter (fun u => decide (u.fate = .waiting) && decide (from' ≤ u.no))
  s.setDec ch { d with base := (aus.head?.elim d.next (·.no)), parts := 0, tasks := [], pics := [], bufs := [], shown := none,
                       decoding := false, anchor := none, outN := first, aus := aus, used := d.used - begun.foldl (fun n u => n + u.bytes) 0 }

/-- A channel begins to run at frame `first`; a takeover keeps the grid and the frames that its standby has (R608, R618). -/
def State.chanBegin (s : State) (ch first : Nat) (takeover : Bool) : State :=
  let old := (s.chan ch).frames.filter (fun f => !takeover || decide (f.n < first))
  let s := old.foldl (fun s f => s.frameDone ch f.n) s
  let c := s.chan ch
  let fresh : ChanSt := { running := true, first := first, base := s.snapNow ch, slot := { n := first }, ancN := first, size := s.flowSize ch,
                          loaded := c.loaded, decl := c.decl, costLen := c.costLen, init := c.init,
                          picBase := s.get (R.CONS_CH_COUNT ch 0) + s.get (R.CONS_CH_COUNT ch 1) }
  let s := s.setChan ch (if takeover then
      { fresh with anchor := c.anchor, anchorRtp := c.anchorRtp, openRtp := c.openRtp, openN := c.openN, frames := c.frames, image := c.image }
    else fresh)
  let s := ((s.showSplices ch).set (R.CTX_RECIPE_STATUS_TRAP_COUNT ch) 0).rendsBegin ch first
  if s.flag (R.DEC_CFG_ENABLE ch) then s.decBegins ch first takeover else s

/-- Answers of a start: a status of R555 and RESULT. -/
abbrev CmdAns := Nat × Nat

/-- STATUS values of R555. -/
def stOK : Nat := 0
def stBAD_OPCODE : Nat := 1
def stBAD_PARAM : Nat := 2
def stIMAGE_REJECTED : Nat := 3
def stADMIT_REFUSED : Nat := 4
def stCONFIG_ERROR : Nat := 5
def stSTATE : Nat := 6
def stLENGTH : Nat := 7

/-- A start refused for the state of the channel, its thread or a unit (R138, R154, R388, R408, R555, R724,
R751, R752). -/
def State.startState (s : State) (ch : Nat) : Option CmdAns :=
  let c := s.chan ch
  match c.loaded with
  | none => some (stSTATE, 0)
  | some t =>
    if !s.mapOk t then some (stSTATE, 0x0D)
    else if s.running ch ∨ (s.boundThread ch).isSome ∨ s.waits ch ∨ s.get (R.DSP_CH_CFG_CLASS_MASK ch) = 0 ∨ !s.flag R.RC_CTRL_ENABLE ∨
        (s.thr t).st ≠ .idle ∨ (s.thr t).chan < 256 ∨ s.hasTasks t ∨ !s.flag (R.SEQ_CTRL_ENABLE (t / 4)) ∨ s.transcodeBad ch ∨
        s.get R.GCTL_BOOT_STATUS_STAGE = 4 then some (stSTATE, 0)
    else none

/-- CHANNEL_START (R43, R554, R607): the answer, and the state. -/
def State.startChannel (s : State) (ch : Nat) : State × CmdAns :=
  match s.startState ch with
  | some a => (s, a)
  | none =>
    let c := s.chan ch
    let t := c.loaded.getD 0
    let d := s.decl c.decl
    let sub := d.elim false (·.sub)
    let y := s.trial ch sub
    let n := y.snapNow ch
    let (s, ts) := s.tsCheck ch n y
    if (if s.encodes ch then y.codingBad ch n (d.elim 0 (fun x => x.trays.length)) else y.rendsBad ch n) ∨ ts ∨ s.imageBad ch t then (s, (stCONFIG_ERROR, 0))
    else
      let s := s.set R.DSP_ADM_DECL_ADDRESS c.decl
      let s := if c.costLen = 16 + 16 * s.dRd (c.decl + 2) 2 then s.admitCh ch else s.admResult ch 1 7 0
      if s.get R.DSP_ADM_RESULT_RESULT = 0 then
        let s := (s.bindChannelPipes ch).bindThread ch t
        if s.standby ch then (s.setChan ch { s.chan ch with stopping := false }, (stOK, 0))
        else ((s.chanBegin ch (s.firstFrame ch) false).startThread t, (stOK, 0))
      else (s, (stADMIT_REFUSED, (s.reg K.DSP_ADM_RESULT).toNat))

end Sys2Proof.Machine
end

