-- ==== Sys2Proof/Machine/Heath.lean ====
section
/-! DEFINITION. The Heath island: power states, wakes, sensors and rules, the watchdog and the always-on clock; and the health and
ageing monitor (18_heath_ageing.md). -/

namespace Sys2Proof.Machine

/-- A report of the Heath island, which raises interrupt line 5 of the management cores (R132 names the line, and no rule says when it is raised:
DESIGN CHOICE, log 119). -/
def State.heathReport (s : State) (n sus : Nat) (detail : Word := 0) : State := (s.report n sus detail).raiseLines 5

/-! ### Power states (R651 to R659) -/

/-- The power state. -/
def State.ps (s : State) : Nat := s.get R.HTH_PS_STATUS_STATE

/-- Groups enabled in STANDBY role on this device. -/
def State.standbyGroups (s : State) : List Nat :=
  (List.range 64).filter (fun g => s.flag (R.CLB_GRP_CFG_ENABLE g) && decide (s.get (R.CLB_GRP_STATUS_ROLE g) = 2))

/-- Power states in which a wake source of R658 acts. -/
def wakeStates (c : Nat) : List Nat := if c = 3 then [1, 2] else if c = 4 then [2] else if c = 5 then [2, 3] else [1, 2, 3]

/-- Whether wake source c would wake the device now; an entry to PS2 in progress counts as PS2 (R655, R657, R658). -/
def State.wakeOk (s : State) (c : Nat) : Bool :=
  bitAt (s.get R.HTH_WAKE_EN_EN) c && !s.heath.tripHold && (wakeStates c).contains (if s.heath.entry.isSome then 2 else s.ps)

/-- A wake source fires (R655, R656, R658, R659). -/
def State.wakeFrom (s : State) (c : Nat) : State :=
  if s.wakeOk c then
    if s.heath.entry.isSome then
      { s.set R.HTH_PS_STATUS_WAKE_CAUSE c with heath := { s.heath with entryWake := some (s.heath.entryWake.getD c) } }
    else if s.ps = 1 then (s.set R.HTH_PS_STATUS_WAKE_CAUSE c).set R.HTH_PS_STATUS_STATE 0
    else if s.ps = 2 then
      if s.heath.exiting then s
      else { s.set R.HTH_PS_STATUS_WAKE_CAUSE c with heath := { s.heath with exiting := true } }
    else if s.heath.wakeOut then s
    else { s.set R.HTH_PS_STATUS_WAKE_CAUSE c with heath := { s.heath with wakeOut := true } }
  else s

/-- The device enters PS3: only the Heath island runs, and WAKE_OUT is low (R651, R656). -/
def State.enterPs3 (s : State) : State :=
  if s.ps = 3 then s
  else
    let s := (s.set R.HTH_PS_STATUS_STATE 3).setFlag R.HTH_PS_STATUS_INGEST_HELD false
    { s with heath := { s.heath with entry := none, entryWake := none, exiting := false, wakeOut := false } }

/-- Whether a request for PS2 or PS3 is refused (R654). -/
def State.psRefused (s : State) (target : Nat) : Bool :=
  s.chans.any (fun p => p.2.running) || (List.range 64).any (fun i => s.flag (R.DMA_CH_STATUS_BUSY i)) ||
  (s.standbyGroups.any (fun g => decide (s.get (R.CLB_GRP_CFG_H g) = 1) || decide (target = 3)))

/-- A request for PS2 or PS3 (R654). -/
def State.psRequest (s : State) (target : Nat) : State :=
  if s.ps = 3 then s
  else if s.psRefused target then (s.setFlag R.HTH_PS_STATUS_REFUSED true).blockNotice 0x0004
  else if s.ps = 2 then if target = 3 then s.enterPs3 else s
  else
    let deep := s.heath.entry.getD false || decide (target = 3)
    { s with heath := { s.heath with entry := some deep } }

/-- Whether nothing holds the device out of PS1 at this moment (R653). -/
def State.ps1Quiet (s : State) : Bool :=
  !s.chans.any (fun p => p.2.running) &&
  !s.tasks.any (fun p => decide (p.2.d.cls ≤ 4) && (p.2.st = .ready || p.2.st = .running))

/-- A write of HTH_PS_CTRL with TARGET and REQ (R654, R658; PS1: log 40). -/
def State.psCtrl (s : State) (target : Nat) (req : Bool) : State :=
  if target = 0 then s.wakeFrom 3
  else if !req then s
  else if target = 1 then (if s.ps = 0 ∧ s.ps1Quiet then s.set R.HTH_PS_STATUS_STATE 1 else s)
  else s.psRequest target

/-- HTH_PS_REQ. The Heath island works in every power state. -/
def execHthPsReq (target : BitVec 2) (now : Nat) (s : State) : Out :=
  .next (((s.advance now).set R.HTH_PS_CTRL_TARGET target.toNat).psCtrl target.toNat true)

/-- PS1_IDLE_ENTRY: no channel has run and no task has been READY or RUNNING since raw time `since` (R653). -/
def execPs1IdleEntry (since now : Nat) (s : State) : Out :=
  whenLive s (fun s =>
    let s := s.advance now
    if s.flag R.HTH_PS_CTRL_PS1_AUTO ∧ s.ps = 0 ∧ s.heath.entry = none ∧ s.ps1Quiet ∧
        since + 1000 * s.get R.HTH_PS_CTRL_PS1_IDLE_US ≤ s.raw then s.set R.HTH_PS_STATUS_STATE 1
    else s)

/-- The gates of PS2 have opened: what stops, and self-refresh, unless ingest is held (R539, R651, R652). -/
def State.doze (s : State) : State :=
  let held := decide (s.standbyGroups ≠ [])
  let s := (s.set R.HTH_PS_STATUS_STATE 2).setFlag R.HTH_PS_STATUS_INGEST_HELD held
  if held then s
  else
    let s := (List.range 16).foldl (fun s m => s.portDown m) s
    (List.range 4).foldl (fun s k => s.setMemSt k { s.memSt k with srWanted := true }) s

/-- PS2_ENTRY_COMPLETE: the entry is aborted by a wake that came before the gates opened, or completes; `late` says that the wake came after
(R654, R655). -/
def execPs2EntryComplete (late : Bool) (now : Nat) (s : State) : Out :=
  whenUp s (fun s =>
    let s := s.advance now
    match s.heath.entry with
    | none => s
    | some deep =>
      let w := s.heath.entryWake
      let s := { s with heath := { s.heath with entry := none, entryWake := none } }
      if w.isSome ∧ !late then s.inc R.HTH_CNT_ENTRY_ABORTS_COUNT
      else
        let s := s.doze
        if w.isSome then { s with heath := { s.heath with exiting := true } }
        else if deep then s.enterPs3 else s)

/-- PS2_EXIT_COMPLETE: the device is in PS0, and the stacks leave self-refresh (R655). -/
def execPs2ExitComplete (now : Nat) (s : State) : Out :=
  whenUp s (fun s =>
    let s := s.advance now
    if s.ps = 2 ∧ s.heath.exiting then
      let s := (s.set R.HTH_PS_STATUS_STATE 0).setFlag R.HTH_PS_STATUS_INGEST_HELD false
      let s := { s with heath := { s.heath with exiting := false } }
      (List.range 4).foldl (fun s k => (s.setMemSt k { s.memSt k with srWanted := false }).srExit k) s
    else s)

/-- WAKE_SCHEDULE: HTH_AON_NS has reached HTH_WAKE_TIME (R658). -/
def execWakeSchedule (s : State) : Out :=
  .next (
    let t := s.get R.HTH_WAKE_TIME_TIME
    if t ≤ s.get R.HTH_AON_NS_NS ∧ s.heath.schedFired ≠ some t then
      { s with heath := { s.heath with schedFired := some t } }.wakeFrom 0
    else s)

/-- LINK_ACTIVITY: the detector of media quad 0 to 3 or Weneiren port 4 to 6 finds a signal where there was none (R658, R660). -/
def execLinkActivity (i : Fin 7) (s : State) : Out :=
  .next (if s.get (R.HTH_SENSOR_VALUE (25 + i)) = 0 then s.wakeFrom 5 else s)

/-! ### Sensors and rules (R660 to R663) -/

/-- Median of a sensor's samples, of the five latest or as many as there are. -/
def medianBy (le : Nat → Nat → Bool) (l : List Nat) : Nat := (sortBy le l).getD (l.length / 2) 0

/-- Order of a sensor's values: temperatures are signed (R660). -/
def sensorVal (i v : Nat) : Int := if i < 16 then signedOf v 16 else v

/-- Take a sample of a sensor and show its filtered value (R660, R661). -/
def State.takeSample (s : State) (i v : Nat) : State :=
  let l := (v :: tget (fun _ => []) s.heath.samples i).take 5
  let s := { s with heath := { s.heath with samples := tset (fun _ => []) s.heath.samples i l } }
  s.set (R.HTH_SENSOR_VALUE i) (medianBy (fun a b => decide (sensorVal i a ≤ sensorVal i b)) l)

/-- The filtered value of a sensor. -/
def State.sensor (s : State) (i : Nat) : Int := sensorVal i (s.get (R.HTH_SENSOR_VALUE i))

/-- The value that a rule tests (R661). -/
def State.tested (s : State) (i : Nat) : Int :=
  let n := s.get (R.HTH_RULE_SENSOR i)
  if s.flag (R.HTH_RULE_MEDIAN i) then s.sensor n else sensorVal n ((tget (fun _ => []) s.heath.samples n).headD 0)

/-- Evaluate rule i: FIRED as it is after the sample, and whether the rule fires in it (R661). -/
def State.evalRule (s : State) (i : Nat) : State × Bool :=
  let v := s.tested i
  let th := sensorVal (s.get (R.HTH_RULE_SENSOR i)) (s.get (R.HTH_RULE_THRESH i))
  let hy : Int := s.get (R.HTH_RULE_HYST i)
  let above := s.flag (R.HTH_RULE_ABOVE i)
  if !s.flag (R.HTH_RULE_EN i) then (s, false)
  else if s.flag (R.HTH_RULE_FIRED i) then
    if (above ∧ v < th - hy) ∨ (!above ∧ v > th + hy) then (s.setFlag (R.HTH_RULE_FIRED i) false, false) else (s, false)
  else if (above ∧ v ≥ th) ∨ (!above ∧ v ≤ th) then (s.setFlag (R.HTH_RULE_FIRED i) true, true)
  else (s, false)

/-- Evaluate the rules in ascending order; a SIEVE action reports at once while the Sieve has power. The list holds the actions of the rules that
fire (R662, R663). -/
def State.evalRules (s : State) : State × List Nat :=
  (List.range 32).foldl (fun p i =>
    let (s, acts) := p
    let (s, f) := s.evalRule i
    if f then
      let a := s.get (R.HTH_RULE_ACTION i)
      (if a = 2 ∧ s.up then s.heathReport 11 0 (BitVec.ofNat 64 i) else s, a :: acts)
    else (s, acts)) (s, [])

/-- THERM_ALERT_N is held low: by a trip, or by a fired rule with action ALERT (R657, R662). -/
def State.thermAlert (s : State) : Bool :=
  s.heath.tripHold || (List.range 32).any (fun i => s.flag (R.HTH_RULE_EN i) && s.flag (R.HTH_RULE_FIRED i) && decide (s.get (R.HTH_RULE_ACTION i) = 1))

/-- 115 °C and 95 °C in the sensors' unit (R657). -/
def tripAt : Int := 460
def tripClear : Int := 380

/-- The thermal trip: the device enters PS3 and refuses every wake until all diodes read 95 °C or less (R657). -/
def State.tripTest (s : State) : State :=
  if (List.range 12).any (fun i => decide (tripAt ≤ s.sensor i)) ∧ !s.heath.tripHold then
    let s := (s.setFlag R.HTH_PS_STATUS_TRIPPED true).enterPs3
    { s with heath := { s.heath with tripHold := true, tripReport := true } }
  else if (List.range 16).all (fun i => decide (s.sensor i ≤ tripClear)) then { s with heath := { s.heath with tripHold := false } }
  else s

/-- Nominal level of a supply in mV and its tolerance in tenths of a mV (22_package.md R735). -/
def State.supplyRange (s : State) (i : Nat) : Nat × Nat :=
  match i with
  | 16 => (650 + 5 * s.get R.HLT_STATUS_VID, 150)
  | 17 => (800, 240)
  | 18 => (800, 400)
  | 19 => (900, 180)
  | 20 => (1800, 900)
  | 21 => (1100, 330)
  | _ => (400, 120)

/-- Supplies that are out of their operating range while they should be applied, reported when they become so (R676). -/
def State.supplyTest (s : State) : State :=
  if s.up then
    let bad := [16, 17, 18, 19, 20, 21, 22].filter (fun i =>
      let (n, t) := s.supplyRange i
      let v := s.get (R.HTH_SENSOR_VALUE i)
      decide (10 * v + t < 10 * n) || decide (10 * n + t < 10 * v))
    let new := bad.any (fun i => !s.heath.supplyBad.contains i)
    let s := { s with heath := { s.heath with supplyBad := bad } }
    if new then s.heathReport 12 0 else s
  else s

/-- The refresh rate of a stack is doubled above 85 °C, unless it is already four times the base rate (13_frame_memory.md R538). -/
def State.hotTest (s : State) : State :=
  (List.range 4).foldl (fun s k => s.setFlag (R.MEM_REFRESH_HOT k) (decide (340 < s.sensor (12 + k)) && decide (s.get (R.MEM_REFRESH_RATE k) ≠ 2))) s

/-- The power action of a sample: OFF first, then a wake, then DOZE, the first that applies (R659, R663). -/
def State.powerAction (s : State) (acts : List Nat) (rise : Bool) : State :=
  if acts.contains 5 then s.enterPs3
  else if rise ∧ s.wakeOk 1 then s.wakeFrom 1
  else if acts.contains 3 ∧ s.wakeOk 2 then s.wakeFrom 2
  else if acts.contains 4 then s.psRequest 2
  else s

/-- One millisecond of the island's oscillator: 32 000 ticks of R665. -/
def State.aonTick (s : State) : State :=
  let d := s.get R.HTH_AON_NS_NS * 2 ^ 32 + s.heath.aonFrac + (1000000 * 2 ^ 32 + s.getSigned R.HTH_OSC_TRIM_PPB * 2 ^ 32 / 1000).toNat
  { s.set R.HTH_AON_NS_NS (d / 2 ^ 32) with heath := { s.heath with aonFrac := d % 2 ^ 32 } }

/-- SENSOR_SAMPLE: one sample of the sensors 0 to 32 (R657, R660 to R665). -/
def execSensorSample (values : List (BitVec 16)) (now : Nat) (s : State) : Out :=
  .next (
    let s := (s.advance now).aonTick
    let before := s.get (R.HTH_SENSOR_VALUE 24)
    let s := (List.range 33).foldl (fun s i => s.takeSample i (values.getD i 0).toNat) s
    let rise := decide (before = 0) && decide (s.get (R.HTH_SENSOR_VALUE 24) ≠ 0)
    let (s, acts) := s.evalRules
    let s := s.supplyTest.hotTest.tripTest
    s.powerAction acts rise)

/-! ### Watchdog and the always-on clock (R664 to R666, R676) -/

/-- The management cores restart at an address: their Morop state, control registers and caches as after reset (R131 to R133, R664). A core that
an isolation holds stays in reset (R642). Tasks of the core that have ended keep their records. -/
def State.restartCores (s : State) (pc : Nat) : State :=
  (List.range 4).foldl (fun s k =>
    let held := (s.core k).held
    let t := s.thr (256 + k)
    let s := s.setCore k { ({} : CoreX) with held := held, resetRaw := s.raw }
    s.setThr (256 + k) { ({} : Thread) with st := .runnable, pc := pc, held := t.held }) s

/-- A kick of the watchdog. -/
def State.wdogKick (s : State) : State := { s with heath := { s.heath with kickAt := s.raw } }

/-- WDOG_KICK. -/
def execWdogKick (now : Nat) (s : State) : Out := .next ((s.advance now).wdogKick)

/-- WDOG_TIMEOUT: no kick within TIMEOUT_MS (R664). -/
def execWdogTimeout (now : Nat) (s : State) : Out :=
  whenLive s (fun s =>
    let s := s.advance now
    if s.flag R.HTH_WDOG_EN ∧ s.heath.kickAt + 1000000 * s.get R.HTH_WDOG_TIMEOUT_MS < s.raw then
      ((s.restartCores Config.firmwareEntry).wdogKick).heathReport 10 (suspect kCore 0)
    else s)

/-- AON_ALIGN: HTH_AON_NS follows the raw counter while the core supplies are up (R666). -/
def execAonAlign (now : Nat) (s : State) : Out :=
  whenUp s (fun s =>
    let s := s.advance now
    { s.set R.HTH_AON_NS_NS s.raw with heath := { s.heath with aonFrac := 0 } })

/-- OSC_TRIM_UPDATE: the oscillator measured against REFCLK over 1 s, in parts per billion (R665, R676). -/
def execOscTrimUpdate (ppb : BitVec 32) (s : State) : Out :=
  whenUp s (fun s =>
    if -50000 ≤ ppb.toInt ∧ ppb.toInt ≤ 50000 then s.set R.HTH_OSC_TRIM_PPB ppb.toNat else s.heathReport 15 0)

/-- REFCLK_LOST: no edge for 10 µs in PS0 to PS2 (R676). -/
def execRefclkLost (now : Nat) (s : State) : Out := whenUp s (fun s => (s.advance now).heathReport 14 0)

/-! ### The health and ageing monitor (R668 to R675) -/

/-- A margin in mV as a fraction with a positive denominator. -/
structure Margin where
  num : Int
  den : Nat
  deriving DecidableEq, Repr

/-- The margin that a monitor's slack leaves: slack / K (R669). -/
def pdmMargin (i : Fin 512) (slack : Int) : Margin := ⟨slack * ((Config.pdmK i).2 + 1), (Config.pdmK i).1 + 1⟩

/-- The order of margins. -/
def Margin.le (a b : Margin) : Bool := decide (a.num * b.den ≤ b.num * a.den)

/-- The smallest of some margins, 0 of none. -/
def minMargin : List Margin → Margin
  | [] => ⟨0, 1⟩
  | [x] => x
  | x :: t => if x.le (minMargin t) then x else minMargin t

/-- A voltage step, if the monitor drives the target (R672, R674). -/
def State.vidStep (s : State) (up : Bool) : State :=
  let v := s.get R.HLT_STATUS_VID
  { s.set R.HLT_STATUS_VID (if up then v + 1 else v - 1) with hlt := { s.hlt with stepAt := some s.raw, highSince := none } }

/-- A condition of R672 that must hold for a time: since when it holds. -/
def since (old : Option Nat) (holds : Bool) (now : Nat) : Option Nat := if holds then some (old.getD now) else none

/-- Whether a condition has held for n ns. -/
def State.heldFor (s : State) (t : Option Nat) (n : Nat) : Bool := t.elim false (fun a => decide (a + n ≤ s.raw))

/-- The voltage rows of R672. -/
def State.replanVoltage (s : State) (m : Margin) : State :=
  let target : Int := s.get R.HLT_MARGIN_CFG_TARGET_MV
  let hyst : Int := s.get R.HLT_MARGIN_CFG_HYST_MV
  let vid := s.get R.HLT_STATUS_VID
  let s := { s with hlt := { s.hlt with highSince := since s.hlt.highSince (decide (m.num > (target + hyst) * m.den)) s.raw } }
  if !s.flag R.HLT_CTRL_VID_EN then s
  else if m.num < target * m.den then
    if vid < 40 ∧ s.hlt.stepAt.elim true (fun a => decide (a + 1000000 ≤ s.raw)) then s.vidStep true else s
  else if s.heldFor s.hlt.highSince 10000000000 ∧ Config.fusedVmin.toNat < vid then s.vidStep false
  else s

/-- The admission ceiling changes; an admission of the same CLK_SEQ cycle still uses the old one (04_dispatcher.md R183). -/
def State.setCeiling (s : State) (x : Nat) : State :=
  let f := R.DSP_ADM_CEIL_PERMILLE
  s.setTimed seqCycle f.key (withBits (s.reg f.key) f.lo f.w x)

/-- The admission-ceiling rows of R672, and R673. -/
def State.replanCeiling (s : State) (m : Margin) : State :=
  let target : Int := s.get R.HLT_MARGIN_CFG_TARGET_MV
  let hyst : Int := s.get R.HLT_MARGIN_CFG_HYST_MV
  let vid := s.get R.HLT_STATUS_VID
  let s := { s with hlt := { s.hlt with lowSince := since s.hlt.lowSince (decide (m.num < target * m.den) && decide (vid = 40)) s.raw,
                                        okSince := since s.hlt.okSince (decide (m.num ≥ (target + hyst) * m.den) && decide (vid < 40)) s.raw } }
  let c := s.get R.DSP_ADM_CEIL_PERMILLE
  if !s.flag R.HLT_CTRL_AUTO_CEIL then s
  else if s.heldFor s.hlt.lowSince 1000000000 then
    let s := { s with hlt := { s.hlt with lowSince := some s.raw } }
    if 500 < c then (s.setCeiling (max 500 (c - 25))).report 432 0 else s
  else if s.heldFor s.hlt.okSince 60000000000 then
    let s := { s with hlt := { s.hlt with okSince := some s.raw } }
    s.setCeiling (min 1000 (c + 25))
  else s

/-- MARGIN_SAMPLE: the monitors' smallest slacks of a millisecond (R668, R669, R672 to R674, R676). -/
def execMarginSample (slacks : List (BitVec 16)) (now : Nat) (s : State) : Out :=
  whenLive s (fun s =>
    let s := s.advance now
    let s := (List.finRange 512).foldl (fun s i =>
      let v := slacks.getD i.val 0
      let s := s.set (R.HLT_PDM_SLACK i) v.toNat
      if v.toInt < 0 then s.report 433 (if i.val < 128 then suspect kTray (i / 8) else 0) else s) s
    let m := minMargin ((List.finRange 512).map (fun i => pdmMargin i (slacks.getD i.val 0).toInt))
    let s := s.setSigned R.HLT_STATUS_MARGIN_MV (Config.wholeMargin m.num m.den)
    if s.flag R.HLT_CTRL_ENABLE then (s.replanVoltage m).replanCeiling m else s)

/-- EYE_SCAN of lane l of HLT_EYE: its smallest opening, and whether the scan saw the larger opening at more peaking (R670, R672, R676). -/
def execEyeScan (l : Fin 67) (mv : BitVec 8) (more : Bool) (now : Nat) (s : State) : Out :=
  whenLive s (fun s =>
    let s := s.advance now
    let n := (l.val - 16) / 17
    let k := (l.val - 16) % 17
    let media := decide (l.val < 16)
    let up := if media then s.flag (R.MP_LANE_STATUS_LOCK l) else s.flag (R.WL_LANE_STATUS_LOCK n k)
    if up then
      let floor := s.get (if media then R.MP_LANE_EQ_EYE_FLOOR_MV l else R.WL_LANE_EQ_EYE_FLOOR_MV n k)
      let peak := if media then R.MP_LANE_EQ_CTLE_PEAK l else R.WL_LANE_EQ_CTLE_PEAK n k
      let s := s.set (R.HLT_EYE_MV l) mv.toNat
      let s := if mv.toNat < floor then s.report 434 (if media then suspect kLane l else suspect kWlPort n) else s
      if s.flag R.HLT_CTRL_ENABLE ∧ s.flag R.HLT_CTRL_AUTO_EQ ∧ mv.toNat < 2 * floor then
        let p := s.get peak
        s.set peak (if more then min 31 (p + 1) else p - 1)
      else s
    else s)

/-- The stacks and ranks that have a correctable-error counter. -/
def allRanks : List (Nat × Nat) := (List.range 12).map (fun i => (i / 3, i % 3))

/-- Whether a rank's daily totals (newest first) show a trend (R671). -/
def ceTrend (l : List Nat) : Bool :=
  let a := (l.take 7).foldl (· + ·) 0
  let b := ((l.drop 7).take 7).foldl (· + ·) 0
  decide (7 ≤ l.length) && decide (700 < a) && decide (4 * b < a)

/-- The hour of one rank: its increase joins the daily total; the 24th hour completes the day (R671, R672). -/
def State.rankHour (s : State) (day : Bool) (k r : Nat) : State :=
  let i := 4 * k + r
  let n := s.get (R.MEM_CNT_CE_COUNT k r)
  let today := tget (fun _ => 0) s.hlt.ceToday i + (n - tget (fun _ => 0) s.hlt.ceLast i)
  let s := { s with hlt := { s.hlt with ceLast := tset (fun _ => 0) s.hlt.ceLast i n,
                                        ceToday := tset (fun _ => 0) s.hlt.ceToday i (if day then 0 else today) } }
  if day then
    let l := (today :: tget (fun _ => []) s.hlt.ceDays i).take 14
    let s := { s with hlt := { s.hlt with ceDays := tset (fun _ => []) s.hlt.ceDays i l } }
    if ceTrend l then
      let s := s.report 435 (suspect kRank i)
      if s.flag R.HLT_CTRL_ENABLE ∧ s.flag R.HLT_CTRL_AUTO_REFRESH then
        s.set (R.MEM_REFRESH_RATE k) (min 2 (s.get (R.MEM_REFRESH_RATE k) + 1))
      else s
    else s
  else s

/-- CE_TREND_HOUR. -/
def execCeTrendHour (now : Nat) (s : State) : Out :=
  whenLive s (fun s =>
    let s := s.advance now
    let h := s.hlt.hours + 1
    let day := decide (24 ≤ h)
    let s := { s with hlt := { s.hlt with hours := if day then 0 else h } }
    allRanks.foldl (fun s p => s.rankHour day p.1 p.2) s)

/-- Slope of the least-squares line through values at 0, 1, 2, …, as numerator and positive denominator (R675). -/
def slope (l : List Int) : Int × Nat :=
  let n := l.length
  let sx := (List.range n).foldl (fun (a x : Nat) => a + x) 0
  let sxx := (List.range n).foldl (fun (a x : Nat) => a + x * x) 0
  let sy := l.foldl (fun (a x : Int) => a + x) 0
  let sxy := l.zipIdx.foldl (fun (a : Int) (p : Int × Nat) => a + (p.2 : Int) * p.1) 0
  ((n : Int) * sxy - (sx : Int) * sy, n * sxx - sx * sx)

/-- SERVICE_ESTIMATE: the day's M85, the line and MONTHS (R675). A figure that MONTHS cannot hold is not stated: a free value (log 3). -/
def execServiceEstimate (now : Nat) (s : State) : Out :=
  whenLive s (fun s =>
    let s := s.advance now
    let m := Config.marginAt85 (s.getSigned R.HLT_STATUS_MARGIN_MV) (s.get R.HLT_STATUS_VID)
    let l := (m :: s.hlt.m85).take 30
    let s := { s with hlt := { s.hlt with m85 := l } }
    let (a, b) := slope l.reverse
    if a < 0 then
      let x := (m - s.get R.HLT_MARGIN_CFG_TARGET_MV) * b * 100 / (-a * 3044)
      if 0 ≤ x ∧ x < 0x10000 then s.set R.HLT_SERVICE_MONTHS x.toNat
      else (s.set R.HLT_SERVICE_MONTHS s.free.toNat).took
    else s.set R.HLT_SERVICE_MONTHS 0xFFFF)

end Sys2Proof.Machine
end

