-- ==== Sys2Proof/Machine/ClaimBus.lean ====
section
/-! DEFINITION. The Claim Bus: heartbeat and challenge cycles, roles, bus faults, misses, and the takeover of a channel
(16_redundancy.md R590 to R624). -/

namespace Sys2Proof.Machine

/-! ### Roles (R598, R599) -/

/-- A unit's role in a group changes: YIELD clears, line 7 is raised and CLAIM is posted to the channel's thread (R598, R611). -/
def State.setRole (s : State) (g role : Nat) : State :=
  let s := (s.set (R.CLB_GRP_STATUS_ROLE g) role).setFlag (R.CLB_GRP_STATUS_YIELDING g) false
  let s := (s.setGrp g { s.grp g with th := s.raw, k := 0, hb := false, challenge := false }).showPending g
  ((s.set (R.CLB_GRP_STATUS_MISSES g) 0).raiseLines 7).postCh (s.get (R.CLB_GRP_CFG_CHANNEL g)) 15

/-- An ACTIVE unit loses a cycle of its group: it becomes STANDBY, and its channel's thread is told to stop; the channel stays admitted (R599). -/
def State.demote (s : State) (g : Nat) : State :=
  let s := ((s.setRole g 2).inc (R.CLB_CNT_COUNT 3)).report 428 (suspect kGroup g)
  s.haltChannel (s.get (R.CLB_GRP_CFG_CHANNEL g))

/-! ### The takeover (R616 to R618, R620) -/

/-- First address of slot i of a group's starter images on this unit (R614). -/
def State.slotBase (s : State) (g i : Nat) : Nat := s.get (R.CLB_GRP_IMG_LOCAL_ADDR g) + i * 0x10000

/-- The SEQ of a slot's image, if the slot is valid (R613, R616). -/
def State.slotSeq (s : State) (g i : Nat) : Option Nat :=
  let a := s.slotBase g i
  let len := s.dRd (a + 28) 4
  let seq := s.dRd (a + 8) 8
  if s.dRd a 4 = 0x49535A41 ∧ s.dRd (a + 6) 1 = g ∧ 0x6850 ≤ len ∧ len ≤ 0x10000 then
    if s.dRd (a + len - 16) 8 = seq ∧ s.dRd (a + len - 8) 4 = crcTag (s.dBytes a (len - 16)) then some seq else none
  else none

/-- The valid slot with the higher SEQ, and that SEQ (R616). -/
def State.newestSlot (s : State) (g : Nat) : Option (Nat × Nat) :=
  match s.slotSeq g 0, s.slotSeq g 1 with
  | some a, some b => if a < b then some (1, b) else some (0, a)
  | some a, none => some (0, a)
  | none, some b => some (1, b)
  | none, none => none

/-- Sections 1 and 2: the SRW registers of the channel's window from offset 0x1000 to 0x3FFF, written as shadowed writes (R618 step 2). -/
def State.restoreWindow (s : State) (ch a : Nat) : State :=
  (List.range 3072).foldl (fun s i =>
    let k := 0x1000000 + 0x30000 * ch + 0x1000 + 4 * i
    match regAt k with
    | some (row, b) =>
      if b = k ∧ row.fields.any (fun f => f.acc = .srw) then
        s.srwWrite (.mpc 0) k (BitVec.ofNat 64 (s.dRd (a + 0x40 + 4 * i) row.bytes))
      else s
    | none => s) s

/-- Section 3: by rendition the model's fullness and the release time of the image's last unit (R612, R620; layout: log 38). -/
def State.imageModels (s : State) (a : Nat) : List (Nat × Int) :=
  (List.range 8).map (fun r => (s.dRd (a + 0x3040 + 512 * r) 8, (s.dRd (a + 0x3040 + 512 * r + 8) 16 : Int)))

/-- Section 3: q_end of every column for each slice type. -/
def State.restoreQuantisers (s : State) (ch a : Nat) : State :=
  (List.range 8).foldl (fun s r =>
    let x := s.rend ch r
    s.setRend ch r { x with qEnd := (List.range 48).foldl (fun (t : Table Nat) i =>
      let v := s.dRd (a + 0x3040 + 512 * r + 40 + i) 1
      if v = 255 then t else tput t i v) x.qEnd }) s

/-- Section 3 of a decode channel: the grid goes on in the phase of the image (09_decode.md R410). -/
def State.restoreGrid (s : State) (ch a : Nat) : State :=
  if s.flag (R.DEC_CFG_ENABLE ch) then s.set (R.DEC_GRID_BASE_NS ch) (s.dRd (a + 0x3040) 8) else s

/-- Section 3 of a decode channel: the anchor of arrival mode (09_decode.md R399, R410). -/
def State.restoreAnchor (s : State) (ch a : Nat) : State :=
  if s.dRd (a + 0x3050) 1 = 1 then s.setDec ch { s.decOf ch with anchor := some ((s.dRd (a + 0x3051) 16 : Int), s.dRd (a + 0x3061) 8) } else s

/-- Section 3 into a channel that has begun. -/
def State.restoreCoding (s : State) (ch a : Nat) : State :=
  if s.flag (R.DEC_CFG_ENABLE ch) then s.restoreAnchor ch a else s.restoreQuantisers ch a

/-- Section 4, one entry: a flow of the channel whose stream has not begun to send here goes on from the image; one that sends already belongs to
this unit's own output stage (R618 step 2, R619; log 41). -/
def State.restoreFlow (s : State) (ch a : Nat) : State :=
  let f := s.dRd a 2
  let i := s.get (R.EGR_FLOW_SRC_STREAM f)
  if i / 8 = ch ∧ s.egrOn.contains f ∧ (s.flowTx f).lastRel = none ∧ (s.str i).t0 = none then
    let s := s.setFlowTx f { s.flowTx f with seq := s.dRd (a + 2) 2 }
    let s := s.set (R.EGR_FLOW_SRTP_IDX_INDEX f) (s.dRd (a + 4) 6)
    s.setStr i { s.str i with
      j := s.dRd (a + 10) 8
      cc := (List.range 15).foldl (fun (t : Table Nat) n =>
        let v := s.dRd (a + 20 + 3 * n) 1
        if v = 0 then t else tput t (s.dRd (a + 18 + 3 * n) 2) v) (s.str i).cc }
  else s

/-- The data partition of a thread from a list of bytes, the rest zero (R142, R617, R618 step 3). -/
def State.loadData (s : State) (t : Nat) (l : List (BitVec 8)) : State :=
  s.seqStore (t / 4) 0x8000 (s.get (R.SEQ_TH_DMAP_BASE (t / 4) (t % 4))) (padTo (s.get (R.SEQ_TH_DMAP_LEN (t / 4) (t % 4))) l)

/-- The first frame of a takeover: the first whose band 0 proofing slot begins, or in frame mode whose capture is complete, at or after
t_ready, a raw time (R618 step 4). -/
def State.takeoverFrame (s : State) (ch ready : Nat) : Nat :=
  let t := s.localAt ready * 2 ^ 32
  let a := if s.subframe ch then s.slotStart ch 0 0 else s.tCaptureFrame ch 0
  let p : Int := s.period ch
  ((t - a + p - 1) / p).toNat

/-- What the image gives the channel before it begins (R617, R618 step 2). -/
def State.takeImage (s : State) (g ch t : Nat) : State :=
  match s.newestSlot g with
  | some (i, seq) =>
    let a := s.slotBase g i
    let s := (s.setFlag (R.CLB_GRP_STATUS_IMG_NONE g) false).set (R.CLB_GRP_IMG_SEQ_SEQ g) seq
    let s := s.setGrp g { s.grp g with seq := seq }
    let s := (s.restoreWindow ch a).restoreGrid ch a
    let s := (List.range 32).foldl (fun s j => s.restoreFlow ch (a + 0x4040 + 64 * j)) s
    let s := s.setChan ch { s.chan ch with image := s.imageModels a }
    s.loadData t (s.dBytes (a + 0x6840) (s.dRd (a + 32) 4))
  | none =>
    let s := (s.setFlag (R.CLB_GRP_STATUS_IMG_NONE g) true).report 429 (suspect kGroup g)
    let s := s.setChan ch { s.chan ch with image := [] }
    s.loadData t (s.chan ch).init

/-- The channel of a unit that has won its challenge starts on its thread t, at the first frame that t_ready allows (R598, R618).
A takeover is no START that software writes, so that it does not trap for its thread's map: the thread then stays IDLE (R138; log 120). -/
def State.startStandby (s : State) (g ch t at' : Nat) : State :=
  let slot := s.newestSlot g
  let s := s.takeImage g ch t
  let n := s.takeoverFrame ch (max s.raw at')
  let s := s.chanBegin ch n true
  let s := slot.elim s (fun p => s.restoreCoding ch (s.slotBase g p.1))
  (if s.mapOk t then s.startThread t else s).postThread t 15

/-- The role of a unit that has won its challenge (R598). -/
def State.becomeActive (s : State) (g : Nat) : State := ((s.setRole g 1).inc (R.CLB_GRP_CNT_COUNT g 5)).report 427 (suspect kGroup g)

/-- A STANDBY unit has won its challenge: it becomes ACTIVE and starts its channel, on the thread that is bound to it or, after a demotion, was loaded for
it, at the first frame that t_ready allows (R598, R618). `ready` is the
time from now to t_ready, which is at most t_d + 1.9 ms. -/
def State.takeover (s : State) (g ready : Nat) : State :=
  let ch := s.get (R.CLB_GRP_CFG_CHANNEL g)
  let u := s.becomeActive g
  ((u.boundThread ch).orElse (fun _ => (u.chan ch).loaded)).elim u (fun t =>
    if (u.admOf ch).admitted ∧ !u.running ch then (u.bindThread ch t).startStandby g ch t (min (s.raw + ready) ((s.grp g).td + 1900000)) else u)

/-! ### Cycles (R593 to R600) -/

/-- The Claim Bus block takes part: enabled and not faulted (R592, R602). -/
def State.clbOn (s : State) : Bool := s.flag R.CLB_CTRL_ENABLE && !s.flag R.CLB_STATUS_FAULT

/-- This device's bid in a heartbeat cycle (R595, R598, R611). -/
def State.hbBid (s : State) (g : Nat) : List (Nat × Nat) :=
  if s.flag (R.CLB_GRP_CFG_ENABLE g) ∧ s.get (R.CLB_GRP_STATUS_ROLE g) = 1 ∧ !s.flag (R.CLB_GRP_STATUS_YIELDING g) then
    [(s.ownClaim g, s.get R.CLB_CTRL_UNIT_ID)]
  else []

/-- This device's bid in a challenge cycle: of an ACTIVE unit that does not yield, or of a challenger, with the epoch plus 1 (R595, R598, R611). -/
def State.chBid (s : State) (g : Nat) : List (Nat × Nat) :=
  if s.flag (R.CLB_GRP_CFG_ENABLE g) ∧ ((s.get (R.CLB_GRP_STATUS_ROLE g) = 1 ∧ !s.flag (R.CLB_GRP_STATUS_YIELDING g)) ∨
      (s.get (R.CLB_GRP_STATUS_ROLE g) = 2 ∧ (s.grp g).challenge)) then
    [((s.ownClaim g + 256) % 2 ^ 32, s.get R.CLB_CTRL_UNIT_ID)]
  else []

/-- The bid that wins: the highest claim, and of equal claims the highest UNIT (R591, R597). -/
def winner : List (Nat × Nat) → Option (Nat × Nat)
  | [] => none
  | b :: t => match winner t with
    | none => some b
    | some c => if c.1 < b.1 ∨ (c.1 = b.1 ∧ c.2 < b.2) then some b else some c

/-- A complete cycle is recorded (R598, R600). -/
def State.recordWin (s : State) (g : Nat) (w : Nat × Nat) : State :=
  let s := (((s.markBefore fabCycle (R.CLB_GRP_WIN_CLAIM g).key).set (R.CLB_GRP_WIN_CLAIM g) w.1).set (R.CLB_GRP_WIN_UNIT g) w.2).setFlag (R.CLB_GRP_WIN_VALID g) true
  let s := s.inc (R.CLB_CNT_COUNT 0)
  if s.flag (R.CLB_GRP_CFG_ENABLE g) then { s with epochs := tset (fun _ => 0) s.epochs g (w.1 / 256) } else s

/-- The cycle of a group has been made: heartbeats of this unit are no longer pending, or its challenge is not (R594). -/
def State.cycleDone (s : State) (g : Nat) (challenge : Bool) : State :=
  (s.setGrp g (if challenge then { s.grp g with challenge := false } else { s.grp g with hb := false })).showPending g

/-- A complete heartbeat cycle with the bids of the other devices (R598). -/
def State.heartbeatCycle (s : State) (g : Nat) (bids : List (Nat × Nat)) : State :=
  let own := s.hbBid g
  match winner (own ++ bids) with
  | none => s
  | some w =>
    let role := if s.flag (R.CLB_GRP_CFG_ENABLE g) then s.get (R.CLB_GRP_STATUS_ROLE g) else 0
    let s := s.recordWin g w
    if role = 1 then
      let s := s.cycleDone g false
      if w.2 ≠ s.get R.CLB_CTRL_UNIT_ID then s.demote g else s
    else if role = 2 then s.heartbeat g else s

/-- A complete challenge cycle (R598, R599). -/
def State.challengeCycle (s : State) (g ready : Nat) (bids : List (Nat × Nat)) : State :=
  let own := s.chBid g
  match winner (own ++ bids) with
  | none => s
  | some w =>
    let role := if s.flag (R.CLB_GRP_CFG_ENABLE g) then s.get (R.CLB_GRP_STATUS_ROLE g) else 0
    let asked := decide (role = 2) && (s.grp g).challenge
    let mine := decide (w.2 = s.get R.CLB_CTRL_UNIT_ID) && decide (own ≠ [])
    let s := s.recordWin g w
    if role = 1 then if mine then s else s.demote g
    else if role = 2 then
      if asked ∧ mine then (s.cycleDone g true).takeover g ready
      else
        let s := if asked then (s.cycleDone g true).inc (R.CLB_GRP_CNT_COUNT g 4) else s
        (s.setGrp g { s.grp g with th := s.raw, k := 0 }).set (R.CLB_GRP_STATUS_MISSES g) 0
    else s

/-! ### The lines (R591 to R595) -/

/-- The low n bits of a number, most significant first. -/
def msbBits (n x : Nat) : List Bool := (List.range n).map (fun i => bitAt x (n - 1 - i))

/-- A bid as it is sent: claim, then UNIT (R593). -/
def bidBits (b : Nat × Nat) : List Bool := msbBits 32 b.1 ++ msbBits 3 b.2

/-- What is sampled on CLB_DAT as bidders send their bits: a 1 overrides a 0, and a bidder that sent 0 and sampled 1 has lost (R591, R592). -/
def sampled : Nat → List (List Bool) → List Bool
  | 0, _ => []
  | n + 1, l =>
    let b := l.any (fun x => x.headD false)
    b :: sampled n ((l.filter (fun x => x.headD false == b)).map (fun x => x.tail))

/-- The bits that one bidder drives beside others: its own until it has lost, then none (R592). -/
def driven : List Bool → List (List Bool) → List Bool
  | [], _ => []
  | b :: t, l =>
    let r := b || l.any (fun x => x.headD false)
    b :: (if b = r then driven t ((l.filter (fun x => x.headD false == r)).map (fun x => x.tail)) else List.replicate t.length false)

/-- What this device drives on CLB_DAT in the 45 bit times of a cycle of group g: START and GROUP where it initiates the cycle, TYPE as a challenger,
its bid, and nothing in the gap (R593 to R595). -/
def State.busBits (s : State) (g : Nat) (challenge : Bool) (own bids : List (Nat × Nat)) : List Bool :=
  let mine := if challenge ∧ s.get (R.CLB_GRP_STATUS_ROLE g) = 2 then (s.grp g).challenge else (s.grp g).hb
  (if mine ∧ own ≠ [] then true :: msbBits 6 g else List.replicate 7 false) ++
  (match own.head? with
    | none => List.replicate 36 false
    | some b => (challenge && decide (s.get (R.CLB_GRP_STATUS_ROLE g) = 2)) :: driven (bidBits b) (bids.map bidBits)) ++ [false, false]

/-- Other devices' bids as numbers. -/
def bidPairs (l : List Bid) : List (Nat × Nat) := l.map (fun b => (b.claim.toNat, b.unit.toNat))

/-- The device's part in a cycle that took place in state u (R592). -/
def State.busOut (s u : State) (g : Nat) (challenge : Bool) (own bids : List (Nat × Nat)) : State :=
  if own = [] ∧ bids = [] then s else s.emit (.claimBus (u.busBits g challenge own bids))

/-- HEARTBEAT_CYCLE. -/
def execHeartbeatCycle (g : GroupId) (bids : List Bid) (now : Nat) (s : State) : Out :=
  whenWr s (fun s => let s := s.advance now; if s.clbOn then (s.heartbeatCycle g (bidPairs bids)).busOut s g false (s.hbBid g) (bidPairs bids) else s)

/-- CHALLENGE_CYCLE. -/
def execChallengeCycle (g : GroupId) (bids : List Bid) (ready now : Nat) (s : State) : Out :=
  whenWr s (fun s => let s := s.advance now; if s.clbOn then (s.challengeCycle g ready (bidPairs bids)).busOut s g true (s.chBid g) (bidPairs bids) else s)

/-! ### Bus faults (R601 to R603) -/

/-- CLAIM_BUS_FAULT: kind as FAULT_KIND codes it, and whether a cycle was in progress. -/
def execClaimBusFault (kind : Fin 3) (inCycle : Bool) (now : Nat) (s : State) : Out :=
  whenWr s (fun s =>
    let s := s.advance now
    if s.flag R.CLB_CTRL_ENABLE then
      let s := if inCycle then s.inc (R.CLB_CNT_COUNT 2) else s
      let s := { s with busFaultAt := s.raw }
      if s.flag R.CLB_STATUS_FAULT then s
      else ((((s.setFlag R.CLB_STATUS_FAULT true).set R.CLB_STATUS_FAULT_KIND kind).setFlag R.CLB_STATUS_FAULT_SEEN true).inc (R.CLB_CNT_COUNT 1)).report 426 0
    else s)

/-- A STANDBY unit counts its misses from now. -/
def State.restartMisses (s : State) (g : Nat) : State :=
  (s.setGrp g { s.grp g with th := s.raw, k := 0 }).set (R.CLB_GRP_STATUS_MISSES g) 0

/-- BUS_FAULT_CLEAR: 1 ms without a fault condition (R603). -/
def execBusFaultClear (now : Nat) (s : State) : Out :=
  whenWr s (fun s =>
    let s := s.advance now
    if s.flag R.CLB_STATUS_FAULT ∧ s.busFaultAt + 1000000 ≤ s.raw then
      s.standbyGroups.foldl (fun s g => s.restartMisses g) (s.setFlag R.CLB_STATUS_FAULT false)
    else s)

/-! ### Misses, yield, standby frames (R608, R610, R611) -/

/-- When a STANDBY unit counts its next miss, in 2^-32 ns of raw time (R610). -/
def State.missAt (s : State) (g : Nat) : Nat :=
  ((s.grp g).th + 100000) * 2 ^ 32 + ((s.grp g).k + 1) * s.period (s.get (R.CLB_GRP_CFG_CHANNEL g))

/-- Misses have reached H: a challenge becomes pending, or the epoch is at its limit (R600, R610). -/
def State.challenge (s : State) (g : Nat) : State :=
  if tget (fun _ => 0) s.epochs g = 0xFFFFFF then s.report 430 (suspect kGroup g)
  else ((s.setGrp g { s.grp g with challenge := true, td := s.raw }).showPending g).inc (R.CLB_GRP_CNT_COUNT g 3)

/-- HEARTBEAT_MISS: a miss also wakes a dozing device (R654, R658). -/
def execHeartbeatMiss (g : GroupId) (now : Nat) (s : State) : Out :=
  whenWr s (fun s =>
    let s := s.advance now
    if s.clbOn ∧ s.flag (R.CLB_GRP_CFG_ENABLE g) ∧ s.get (R.CLB_GRP_STATUS_ROLE g) = 2 ∧ s.missAt g ≤ s.raw * 2 ^ 32 then
      let s := s.setGrp g { s.grp g with k := (s.grp g).k + 1 }
      let m := s.get (R.CLB_GRP_STATUS_MISSES g)
      let s := ((s.incSat (R.CLB_GRP_STATUS_MISSES g)).inc (R.CLB_GRP_CNT_COUNT g 2)).wakeFrom 4
      if m + 1 = s.get (R.CLB_GRP_CFG_H g) ∧ !(s.grp g).challenge then s.challenge g else s
    else s)

/-- YIELD_GROUP. -/
def execYieldGroup (g : GroupId) (s : State) : Out := whenWr s (fun s => s.yieldGroup g)

/-- STANDBY_TOKEN_RETURN: the oldest frame of a standby channel whose return time has come (R608). -/
def execStandbyTokenReturn (ch : Chan) (now : Nat) (s : State) : Out :=
  whenIngest s (fun s =>
    let s := s.advance now
    if s.standby ch ∧ !s.running ch then
      match (s.chan ch).frames.find? (fun f => s.reached (s.tFrame ch (f.n + 1) + ns 12000)) with
      | some f =>
        let gs := s.standbyGroups.filter (fun g => decide (s.get (R.CLB_GRP_CFG_CHANNEL g) = ch))
        gs.foldl (fun s g => s.inc (R.CLB_GRP_CNT_COUNT g 8)) (s.frameDone ch f.n)
      | none => s
    else s)

end Sys2Proof.Machine
end

