-- ==== Sys2Proof/Machine/Paddock.lean ====
section
/-! DEFINITION. The Paddock sealed meter: usage, programmes, records and their store, the seal, and the mailbox (19_paddock.md R678 to R695). It
works on its own supply in every power state. -/

namespace Sys2Proof.Machine

/-! ### Usage and the feed (R679 to R683) -/

/-- Luma samples of `px` samples per frame period do not exceed a limit in 0.1 PRU (R38, R682). -/
def withinLimit (px period limit : Nat) : Bool := decide (px * (1000000000 * 2 ^ 32) ≤ limit * 100000 * period)

/-- The smallest class whose limit holds, or 7 (R682). -/
def classOf (limits : List Nat) (px period : Nat) : Nat :=
  ((List.range limits.length).find? (fun k => withinLimit px period (limits.getD k 0))).getD 7

/-- The format class of a channel's picture of `px` luma samples (R682). -/
def State.formatClass (s : State) (ch px : Nat) : Nat :=
  if s.flag (R.DEC_CFG_ENABLE ch) then 8 + classOf s.pdk.limits px (s.period ch)
  else
    let (w, h) := s.rendSize ch 0 (s.snapNow ch)
    classOf s.pdk.limits (w * h) (s.period ch)

/-- PICTURE_EVENT of a running channel; `px` is the size of a decode channel's picture (R681 to R683). -/
def execPictureEvent (ch : Chan) (px : Nat) (s : State) : Out :=
  whenLive s (fun s =>
    if s.running ch ∧ s.pdk.vdd then
      let k := s.formatClass ch px
      let t := tget (fun _ => 0) s.pdk.totals k
      { s with pdk := { s.pdk with totals := tset (fun _ => 0) s.pdk.totals k (t + s.period ch) } }
    else s)

/-- Uptime passes to `ms`; more than 100 ms without feed is a gap (R688). -/
def State.pdkAdvance (s : State) (ms : Nat) : State :=
  let m := max s.pdk.ms ms
  { s with pdk := { s.pdk with ms := m, gapSeen := s.pdk.gapSeen || decide (s.pdk.feedMs + 100 < m) } }

/-- FEED_TIME: local PTP time, whether it is in holdover or free-running, and which programmes' buffers are disabled (R679, R686, R688). -/
def execFeedTime (ms now : Nat) (s : State) : Out :=
  whenUp s (fun s =>
    if s.pdk.vdd then
      let s := (s.advance now).pdkAdvance ms
      let st := s.get R.TB_STATUS_STATE
      let progs := s.pdk.progs.map (fun (p : Nat × PdkProg) =>
        (p.1, { p.2 with gap := p.2.gap || !s.flag (R.AUD_SB_CFG_ENABLE p.2.buffer) }))
      { s with pdk := { s.pdk with feedTime := s.now.toNat, feedMs := s.pdk.ms, noPtp := decide (st = tbFree) || decide (st = tbHoldover), progs := progs } }
    else s)

/-! ### Records and the store (R687 to R689) -/

/-- Records of the main store: 15 360; of the reserved area: 512. -/
def mainRoom : Nat := 15360
def areaRoom : Nat := 512

/-- Whether a record of the main store may be overwritten: exported, or superseded by a later record of its TYPE and programme. -/
def mayDrop (l : List PdkRec) (r : PdkRec) : Bool :=
  r.exported || l.any (fun q => decide (q.type = r.type) && decide (q.prog = r.prog) && decide (r.recno < q.recno))

/-- The main store with a periodic record, if it can take it: the oldest record that may be overwritten gives way. -/
def storeMain (l : List PdkRec) (r : PdkRec) : Option (List PdkRec) :=
  if l.length < mainRoom then some (l ++ [r])
  else match l.find? (mayDrop (l ++ [r])) with
    | some d => some (l.filter (fun q => decide (q.recno ≠ d.recno)) ++ [r])
    | none => none

/-- The reserved area with a record: when it is full, the oldest exported record gives way, or else the newest. -/
def storeArea (l : List PdkRec) (r : PdkRec) : List PdkRec :=
  if l.length < areaRoom then l ++ [r]
  else match l.find? (fun q => q.exported) with
    | some d => l.filter (fun q => decide (q.recno ≠ d.recno)) ++ [r]
    | none => l.dropLast ++ [r]

/-- Bytes 0x00 to 0x9F of a record (R688). -/
def State.recordHead (s : State) (type : Nat) (gap : Bool) (body : List (BitVec 8)) : List (BitVec 8) :=
  let p := s.pdk
  let flags := (if p.tamper then 1 else 0) + (if gap then 2 else 0) + (if p.noPtp then 4 else 0) + (if p.withheld then 8 else 0)
  leBytes 4 0x524B4450 ++ leBytes 2 0x0100 ++ leBytes 1 type ++ leBytes 1 flags ++ leBytes 8 (p.recno + 1) ++ leBytes 8 p.feedTime ++
    leBytes 4 (p.ms / 1000) ++ leBytes 4 p.sealCount ++ padTo 128 body

/-- A number of n bytes, most significant first, as keys and signatures are written. -/
def keyBytes (n v : Nat) : List (BitVec 8) := beBytes n v

/-- A whole record: r and s over the digest of its first 160 bytes (R688). -/
def signed (head : List (BitVec 8)) : List (BitVec 8) := head ++ keyBytes 96 (Config.paddockSign (sha384 head)).toNat

/-- PDK_ALERT, while the main die has power (R695). -/
def State.pdkAlert (s : State) : State := if s.up then s.report 446 0 else s

/-- Close a record of a TYPE (R687 to R689). `gap`: FEED_GAP beyond the feed's own. -/
def State.closeRecord (s : State) (type prog : Nat) (gap : Bool) (body : List (BitVec 8)) : State :=
  let p := s.pdk
  let r : PdkRec := { recno := p.recno + 1, type := type, prog := prog, closedMs := p.ms, bytes := signed (s.recordHead type (gap || p.gapSeen) body) }
  if type ≤ 2 then
    match storeMain p.main r with
    | some l => { s with pdk := { p with main := l, recno := p.recno + 1, gapSeen := false, withheld := false, full := false } }
    | none =>
      let s := { s with pdk := { p with withheld := true, full := true } }
      if p.full then s else s.pdkAlert
  else { s with pdk := { p with area := storeArea p.area r, recno := p.recno + 1, gapSeen := false, withheld := false } }

/-- The sixteen totals in whole µs (R683). -/
def State.usageBody (s : State) : List (BitVec 8) :=
  (List.range 16).flatMap (fun k => leBytes 8 (tget (fun _ => 0) s.pdk.totals k / (1000 * 2 ^ 32)))

/-- USAGE_RECORD_CLOSE at the next whole minute of uptime (R687). -/
def execUsageRecordClose (ms : Nat) (s : State) : Out :=
  .next (if s.pdk.vdd ∧ 60000 * (s.pdk.usageN + 1) ≤ max s.pdk.ms ms then
      let s := s.pdkAdvance ms
      let s := { s with pdk := { s.pdk with usageN := s.pdk.usageN + 1 } }
      s.closeRecord 1 0 false s.usageBody
    else s)

/-- Target loudness and true-peak limit of a GATING, in hundredths (R685). -/
def loudTarget (gating : Nat) : Int := if gating = 0 then -2300 else -2400
def peakLimit (gating : Nat) : Int := if gating = 0 then -100 else -200

/-- BODY of a LOUDNESS or PROGRAMME_END record (R685, R688). Until a block has passed both gates INTEGRATED reads 0x8000, and DEVIATION, which
the spec does not state then, is a free value. -/
def State.loudBody (s : State) (i : Nat) (p : PdkProg) (l : Loudness) : List (BitVec 8) :=
  leBytes 1 i ++ leBytes 1 p.gating ++ leBytes 1 p.layout ++ leBytes 2 p.buffer ++ leBytes 1 p.firstCh ++ leBytes 2 0 ++
    leBytes 8 p.startTime ++ leBytes 8 (s.pdk.ms - p.startMs) ++ leBytes 2 (l.integrated.elim 0x8000 (·.toNat)) ++ leBytes 2 l.short.toNat ++
    leBytes 2 l.shortMax.toNat ++ leBytes 2 l.lra.toNat ++ leBytes 2 l.peak.toNat ++
    leBytes 2 (l.integrated.elim (s.free.toNat % 65536) (fun v => ofSigned (v.toInt - loudTarget p.gating) 16)) ++
    leBytes 1 (if l.peak.toInt > peakLimit p.gating then 1 else 0)

/-- Close a record of a programme. -/
def State.closeProg (s : State) (type i : Nat) (p : PdkProg) (l : Loudness) : State :=
  let s' := (s.closeRecord type i p.gap (s.loudBody i p l)).took
  { s' with pdk := { s'.pdk with progs := tput s'.pdk.progs i { p with gap := false } } }

/-- What an unmeasured programme shows. -/
def silence : Loudness := ⟨none, 0, 0, 0, 0⟩

/-- LOUDNESS_RECORD_CLOSE: one record for each programme at a whole minute; `l` lists the measurements by programme (R687). -/
def execLoudnessRecordClose (l : List Loudness) (ms : Nat) (s : State) : Out :=
  .next (if s.pdk.vdd ∧ 60000 * (s.pdk.loudN + 1) ≤ max s.pdk.ms ms then
      let s := s.pdkAdvance ms
      let s := { s with pdk := { s.pdk with loudN := s.pdk.loudN + 1 } }
      s.pdk.progs.foldl (fun s (p : Nat × PdkProg) => s.closeProg 2 p.1 p.2 (l.getD p.1 silence)) s
    else s)

/-- Setting ENABLE of programme i starts it with the register's settings (R686). -/
def State.progStart (s : State) (i : Nat) : State :=
  let s := s.setFlag (R.PDK_PROG_CFG_ENABLE i) true
  if s.pdk.vdd ∧ (tfind s.pdk.progs i).isNone then
    let p : PdkProg := {
      gating := s.get (R.PDK_PROG_CFG_GATING i), layout := s.get (R.PDK_PROG_CFG_LAYOUT i), buffer := s.get (R.PDK_PROG_CFG_BUFFER i),
      firstCh := s.get (R.PDK_PROG_CFG_FIRST_CH i), startTime := s.pdk.feedTime, startMs := s.pdk.ms }
    { s with pdk := { s.pdk with progs := tput s.pdk.progs i p } }
  else s

/-- PROGRAMME_ENABLE. -/
def execProgrammeEnable (i : Fin 16) (s : State) : Out := whenWr s (fun s => s.progStart i)

/-- PROGRAMME_END: ENABLE is clear or is cleared now, and the programme's last record closes (R686, R687). -/
def execProgrammeEnd (i : Fin 16) (l : Loudness) (ms : Nat) (s : State) : Out :=
  whenWr s (fun s =>
    let s := s.setFlag (R.PDK_PROG_CFG_ENABLE i) false
    match tfind s.pdk.progs i with
    | some p =>
      if s.pdk.vdd then
        let s := (s.pdkAdvance ms).closeProg 3 i p l
        { s with pdk := { s.pdk with progs := tdel s.pdk.progs i } }
      else s
    | none => s)

/-! ### The mailbox and the sideband bus (R693 to R695) -/

/-- First address of PDK_MB_DATA. -/
def mbData : Nat := 0x5000051000

/-- The codes of PDK_MB_CMD.OP and of PDK_MB_STATUS.RESULT (R695). -/
def opREAD_RECORD : Nat := 1
def opREAD_CERT : Nat := 2
def opREAD_STATUS : Nat := 3
def opEXPORTED : Nat := 4
def opAUTHORITY : Nat := 0x10
def pdkOK : Nat := 0
def pdkBAD_OP : Nat := 1
def pdkNOT_FOUND : Nat := 2
def pdkAUTH_FAIL : Nat := 3
def pdkNO_PADDOCK : Nat := 4

/-- A write of PDK_MB_CMD while BUSY is 0: the command waits for its answer; without a Paddock, or with an unknown code, the answer is immediate
(R693, R695). -/
def State.mbCommand (s : State) (op arg : Nat) : State :=
  if s.flag R.PDK_MB_STATUS_BUSY then s
  else
    let s := (s.set R.PDK_MB_CMD_OP op).set R.PDK_MB_CMD_ARG arg
    if !s.pdk.vdd then s.set R.PDK_MB_STATUS_RESULT pdkNO_PADDOCK
    else if [opREAD_RECORD, opREAD_CERT, opREAD_STATUS, opEXPORTED, opAUTHORITY].contains (op % 256) then
      { s.setFlag R.PDK_MB_STATUS_BUSY true with pdk := { s.pdk with cmdAt := s.raw } }
    else s.set R.PDK_MB_STATUS_RESULT pdkBAD_OP

/-- Whether a command with a code waits at a port: in the mailbox it is in progress; on the sideband bus it is delivered now. -/
def State.pdkHas (s : State) (port : PdkPort) (op : Nat) : Bool :=
  s.pdk.vdd && match port with
    | .mailbox => s.up && s.flag R.PDK_MB_STATUS_BUSY && decide (s.get R.PDK_MB_CMD_OP = op)
    | .sideband _ _ => true

/-- The answer to a command: its result and bytes. -/
def State.pdkAnswer (s : State) (port : PdkPort) (result : Nat) (data : List (BitVec 8)) : State :=
  match port with
  | .mailbox => (((s.setBytes mbData data).set R.PDK_MB_STATUS_RESULT result).setFlag R.PDK_MB_STATUS_BUSY false).raiseLines 6
  | .sideband _ _ => s.emit (.sideband result data)

/-- The record number that a command names: ARG, with bits [63:32] from the data area. -/
def State.pdkArg (s : State) (port : PdkPort) : Nat :=
  match port with
  | .mailbox => s.get R.PDK_MB_CMD_ARG + s.rd mbData 4 * 2 ^ 32
  | .sideband a _ => a.toNat

/-- A stored record. -/
def State.pdkFind (s : State) (n : Nat) : Option PdkRec := (s.pdk.main ++ s.pdk.area).find? (fun r => decide (r.recno = n))

/-- READ_RECORD (R693): a record that closes in this millisecond is not found. -/
def execReadRecord (port : PdkPort) (ms : Nat) (s : State) : Out :=
  .next (if s.pdkHas port opREAD_RECORD then
      let s := s.pdkAdvance ms
      match s.pdkFind (s.pdkArg port) with
      | some r => if r.closedMs = s.pdk.ms then s.pdkAnswer port pdkNOT_FOUND [] else s.pdkAnswer port pdkOK r.bytes
      | none => s.pdkAnswer port pdkNOT_FOUND []
    else s)

/-- READ_CERT. -/
def execReadCert (port : PdkPort) (s : State) : Out :=
  .next (if s.pdkHas port opREAD_CERT then s.pdkAnswer port pdkOK Config.paddockCert else s)

/-- The sealed parameters as bytes: limits, authority key and ID, TAMPER_SEEN (R690; layout: log 44). -/
def PdkSt.params (p : PdkSt) : List (BitVec 8) :=
  p.limits.flatMap (fun v => leBytes 4 v) ++
    p.authority.elim [] (fun a => leBytes 4 a.1 ++ [4] ++ keyBytes 48 a.2.1 ++ keyBytes 48 a.2.2) ++ leBytes 1 (if p.tamper then 1 else 0)

/-- The digest of the mask ROM and the sealed parameters (R680). -/
def PdkSt.checksum (p : PdkSt) : BitVec 384 := sha384 (Config.paddockRom ++ p.params)

/-- The answer to READ_STATUS: SEAL_COUNT, LAST_RECNO, version, digest and TAMPER_SEEN with STORE_FULL (R692, inspector's procedure; layout: log 44). -/
def State.statusBytes (s : State) : List (BitVec 8) :=
  leBytes 4 s.pdk.sealCount ++ leBytes 8 s.pdk.recno ++ (List.finRange 16).map Config.paddockVersion ++ keyBytes 48 s.pdk.checksum.toNat ++
    leBytes 1 ((if s.pdk.tamper then 1 else 0) + (if s.pdk.full then 2 else 0))

/-- READ_STATUS. -/
def execReadStatus (port : PdkPort) (s : State) : Out :=
  .next (if s.pdkHas port opREAD_STATUS then s.pdkAnswer port pdkOK s.statusBytes else s)

/-- EXPORTED, through the mailbox only (R689, R694). -/
def execExported (s : State) : Out :=
  .next (if s.pdkHas .mailbox opEXPORTED then
      let n := s.pdkArg .mailbox
      if (s.pdkFind n).isSome then
        let f := fun (r : PdkRec) => if r.recno = n then { r with exported := true } else r
        { s with pdk := { s.pdk with main := s.pdk.main.map f, area := s.pdk.area.map f } }.pdkAnswer .mailbox pdkOK []
      else s.pdkAnswer .mailbox pdkNOT_FOUND []
    else s)

/-! ### The seal (R690) -/

/-- The largest block of an authority command: code, serial number, SEAL_COUNT, parameters and signature (layout: log 44). -/
def paramBytes (code : Nat) : Nat := if code = 1 then 101 else if code = 2 then 28 else 0

/-- The block that a port holds for a command code. -/
def State.pdkBlock (s : State) (port : PdkPort) (code : Nat) : List (BitVec 8) :=
  match port with
  | .mailbox => s.bytes mbData (13 + paramBytes code + 96)
  | .sideband _ b => b

/-- A number of bytes most significant first. -/
def keyNat (l : List (BitVec 8)) : Nat := leNat l.reverse

/-- Whether a block is a valid authority command of a code: its signature under the installed key, or the root key for the first
INSTALL_AUTHORITY, the device's serial number and the current SEAL_COUNT. -/
def State.authOk (s : State) (code : Nat) (b : List (BitVec 8)) : Bool :=
  let n := 13 + paramBytes code
  let key : Option (BitVec 384 × BitVec 384) := match s.pdk.authority with
    | some (_, x, y) => some (BitVec.ofNat 384 x, BitVec.ofNat 384 y)
    | none => if code = 1 then some (Config.cragalX, Config.cragalY) else none
  decide (b.length = n + 96) && decide (leNat ((b.drop 1).take 8) = Config.serial.toNat) && decide (leNat ((b.drop 9).take 4) = s.pdk.sealCount) &&
  key.elim false (fun k => ecdsaVerify k.1 k.2 (sha384 (b.take n)) (BitVec.ofNat 384 (keyNat ((b.drop n).take 48)))
    (BitVec.ofNat 384 (keyNat ((b.drop (n + 48)).take 48))))

/-- The parameters of a block. -/
def authParams (code : Nat) (b : List (BitVec 8)) : List (BitVec 8) := (b.drop 13).take (paramBytes code)

/-- An authority command of a code at a port: if it succeeds, the parameters change, SEAL_COUNT rises and a SEAL record closes; if not, nothing
changes and the answer is AUTH_FAIL. A block of no known code fails under any of the three commands. -/
def State.authority (s : State) (port : PdkPort) (code : Nat) (change : PdkSt → List (BitVec 8) → Option PdkSt) : State :=
  if s.pdkHas port opAUTHORITY then
    let b := s.pdkBlock port code
    let c := (b.headD 0).toNat
    if c = code then
      match if s.authOk code b then change s.pdk (authParams code b) else none with
      | some p =>
        let old := s.pdk.params
        let s := { s with pdk := { p with sealCount := (p.sealCount + 1) % 2 ^ 32 } }
        let s := s.closeRecord 4 0 false (keyBytes 48 (sha384 old).toNat ++ keyBytes 48 (sha384 s.pdk.params).toNat ++
          leBytes 4 (s.pdk.authority.elim 0 (·.1)) ++ leBytes 1 code)
        s.pdkAnswer port pdkOK []
      | none => s.pdkAnswer port pdkAUTH_FAIL []
    else if 1 ≤ c ∧ c ≤ 3 then s
    else s.pdkAnswer port pdkAUTH_FAIL []
  else s

/-- A new authority key, an uncompressed point, and its ID. -/
def installKey (p : PdkSt) (l : List (BitVec 8)) : Option PdkSt :=
  if l.headD 0 = 4 then
    some { p with authority := some (leNat ((l.drop 97).take 4), keyNat ((l.drop 1).take 48), keyNat ((l.drop 49).take 48)) }
  else none

/-- Whether numbers rise strictly. -/
def rising : List Nat → Bool
  | a :: b :: t => decide (a < b) && rising (b :: t)
  | _ => true

/-- Seven new class limits. -/
def newLimits (p : PdkSt) (l : List (BitVec 8)) : Option PdkSt :=
  let v := (List.range 7).map (fun i => leNat ((l.drop (4 * i)).take 4))
  if rising v then some { p with limits := v } else none

/-- INSTALL_AUTHORITY. -/
def execInstallAuthority (port : PdkPort) (ms : Nat) (s : State) : Out :=
  .next (if s.pdk.vdd then (s.pdkAdvance ms).authority port 1 installKey else s)

/-- SET_CLASS_LIMITS. -/
def execSetClassLimits (port : PdkPort) (ms : Nat) (s : State) : Out :=
  .next (if s.pdk.vdd then (s.pdkAdvance ms).authority port 2 newLimits else s)

/-- CLEAR_TAMPER. -/
def execClearTamper (port : PdkPort) (ms : Nat) (s : State) : Out :=
  .next (if s.pdk.vdd then (s.pdkAdvance ms).authority port 3 (fun p _ => some { p with tamper := false }) else s)

/-! ### Tampering and power (R687, R691) -/

/-- Local PTP time at uptime `ms`, which the feed may have passed since: the time of the feed, as many ms earlier (R688, log 135). -/
def PdkSt.timeAt (p : PdkSt) (ms : Nat) : Nat := p.feedTime - (p.feedMs - ms) * 1000000

/-- LID_OPEN: PDK_LID_N has read high for 10 ms at uptime `ms` (R691, R695). -/
def execLidOpen (ms : Nat) (s : State) : Out :=
  .next (if s.pdk.vdd then
      let s := s.pdkAdvance ms
      let s := s.closeRecord 5 0 false (leBytes 8 (s.pdk.timeAt (s.pdk.ms - 10)) ++ leBytes 4 ((s.pdk.ms - 10) / 1000))
      { s with pdk := { s.pdk with tamper := true } }.pdkAlert
    else s)

/-- PADDOCK_POWER_UP: VDD_PDK comes up; what is not in the non-volatile store begins anew, and a POWER record closes. `gap`: more than 100 ms without
feed have passed since the previous record (R687, R688). -/
def execPaddockPowerUp (gap : Bool) (s : State) : Out :=
  .next (
    let p := s.pdk
    let s := { s with pdk := { p with vdd := true, ms := 0, feedTime := 0, feedMs := 0, noPtp := true, gapSeen := gap, progs := [], usageN := 0,
                                      loudN := 0 } }
    s.closeRecord 6 0 false (leBytes 8 p.recno))

/-- PDK_SILENT: a command unanswered after 100 ms (R695). -/
def execPdkSilent (now : Nat) (s : State) : Out :=
  whenWr s (fun s =>
    let s := s.advance now
    if s.flag R.PDK_MB_STATUS_BUSY ∧ s.pdk.cmdAt + 100000000 ≤ s.raw then s.report 447 0 else s)

/-- PDK_LED as its flashing rate in Hz, 0 for steadily lit and none for dark (R692). -/
def State.pdkLed (s : State) : Option Nat :=
  if !s.pdk.vdd then none else if s.pdk.tamper then some 1 else if s.pdk.full then some 4 else some 0

end Sys2Proof.Machine
end

