-- ==== Sys2Proof/Machine/Host.lean ====
section
/-! DEFINITION. Host command rings and their commands, the recipe loader, and MSI-X vectors (14_host_dma.md R547 to R558, 03_morop.md R139 to R142,
R752). -/

namespace Sys2Proof.Machine

/-! ### MSI-X (R548) -/

/-- MSIX_VECTOR_UNMASK: the host writes a vector's entry; unmasking a pending vector sends its message. -/
def execMsixVectorUnmask (v : Fin 512) (addr : BitVec 64) (data : BitVec 32) (mask : Bool) (s : State) : Out :=
  whenUp s (fun s =>
    let e := tget (fun _ => ({} : MsixVec)) s.msixTable v
    let send := e.pending && !mask
    let e' : MsixVec := { addr := addr.toNat, data := data.toNat, masked := mask, pending := e.pending && mask }
    let s := { s with msixTable := tset (fun _ => {}) s.msixTable v e' }
    if send then s.emit (.msix v addr.toNat data.toNat) else s)

/-- What a host read of the aligned 32-bit word at a BAR4 offset returns (02_layout_table.md R48, R549): the MSI-X table and the pending-bit array as the
PCI Express base specification lays them out (PRESUMED, log 107), 0 in the doorbell pages and where nothing lies (R50). -/
def State.bar4Word (s : State) (off : Nat) : Nat :=
  if off < 0x2000 then
    let e := tget (fun _ => ({} : MsixVec)) s.msixTable (off / 16)
    match off / 4 % 4 with
    | 0 => e.addr % 2 ^ 32
    | 1 => e.addr / 2 ^ 32
    | 2 => e.data
    | _ => if e.masked then 1 else 0
  else if off < 0x2040 then
    (List.range 32).foldl (fun n i =>
      if (tget (fun _ => ({} : MsixVec)) s.msixTable ((off - 0x2000) / 4 * 32 + i)).pending then n + 2 ^ i else n) 0
  else 0

/-! ### Rings (R552, R553, R556 to R558) -/

/-- A ring. -/
def State.hcr (s : State) (r : Nat) : HcrSt := tget (fun _ => {}) s.hcrs r

/-- Replace a ring. -/
def State.setHcr (s : State) (r : Nat) (h : HcrSt) : State := { s with hcrs := tset (fun _ => {}) s.hcrs r h }

/-- Entries of a ring's parts. -/
def State.hcrSize (s : State) (r : Nat) : Nat := s.get (R.HCR_CFG_SIZE r)

/-- Whether a ring is served. -/
def State.hcrOn (s : State) (r : Nat) : Bool := s.flag (R.HCR_CFG_ENABLE r) && decide (s.hcrSize r ≠ 0)

/-- Distance from a to b around a ring. -/
def around (size a b : Nat) : Nat := (b + size - a % size) % size

/-- A doorbell write (R132, R558): a new tail, or a discarded write. -/
def State.doorbellHcr (s : State) (r v : Nat) : State :=
  let size := s.hcrSize r
  let h := s.hcr r
  let out := around size (s.get (R.HCR_SQ_HEAD_HEAD r)) h.tail
  if s.hcrOn r ∧ v < size ∧ out + around size h.tail v ≤ size - 1 then
    if v = h.tail then s else (s.setHcr r { h with tail := v }).raiseLines 1
  else (s.setFlag (R.HCR_STATUS_DB_ERR r) true).blockNotice 0x0007

/-- HCR_DOORBELL. A write wakes a dozing device (18_heath_ageing.md R658). -/
def execHcrDoorbell (r : RingId) (v : BitVec 32) (s : State) : Out := whenWr s (fun s => (s.wakeFrom 3).doorbellHcr r v.toNat)

/-- The management processor complex runs firmware that serves commands: booted, powered, and a core not held (21_startup.md R717, R724). -/
def State.firmware (s : State) : Bool :=
  s.live && (decide (s.get R.GCTL_BOOT_STATUS_STAGE = 2) || decide (s.get R.GCTL_BOOT_STATUS_STAGE = 4)) &&
  (List.range 4).any (fun k => !(s.core k).held)

/-- A command's effect on its ring: the record in host memory, then the vector (R550, R553). -/
def State.complete (s : State) (r : Nat) (c : HostCmd) (a : CmdAns) : State :=
  let size := s.hcrSize r
  let head := (s.get (R.HCR_SQ_HEAD_HEAD r) + 1) % size
  let tail := s.get (R.HCR_CQ_TAIL_TAIL r)
  let s := s.emit (.hostWrite ((s.reg (K.HCR_CQ_BASE r)).toNat + 16 * tail) (leBytes 4 c.tag ++ leBytes 2 a.1 ++ leBytes 2 head ++ leBytes 8 a.2))
  let s := (s.set (R.HCR_SQ_HEAD_HEAD r) head).set (R.HCR_CQ_TAIL_TAIL r) ((tail + 1) % size)
  (s.setHcr r { s.hcr r with cmds := (s.hcr r).cmds.drop 1 }).msix (Config.firstMsixPcie + r)

/-- The opcodes of R554. -/
def opcodes : List Nat := [0x0001, 0x0010, 0x0011, 0x0012, 0x0020, 0x0021, 0x0022]

/-- Commands of unknown opcode at the front of a ring complete with BAD_OPCODE (R554). -/
def State.drainBad (s : State) (r : Nat) : Nat → State
  | 0 => s
  | n + 1 =>
    match (s.hcr r).cmds with
    | c :: _ => if opcodes.contains c.opcode then s else (s.complete r c (stBAD_OPCODE, 0)).drainBad r n
    | [] => s

/-- A command read from its 64 bytes (R552). -/
def hostCmd (b : List (BitVec 8)) : HostCmd :=
  { opcode := leNat (b.take 2), tag := leNat ((b.drop 4).take 4), channel := leNat ((b.drop 8).take 4), params := padTo 48 (b.drop 16),
    bad := decide (leNat ((b.drop 2).take 2) ≠ 0) || decide (leNat ((b.drop 12).take 4) ≠ 0) }

/-- Whether a ring's completion part has room for one more record beside those of the commands in progress (R557). -/
def State.cqRoom (s : State) (r : Nat) : Bool :=
  let size := s.hcrSize r
  decide ((s.hcr r).cmds.length + 1 ≤ size - 1 - around size (s.get (R.HCR_CQ_HEAD_HEAD r)) (s.get (R.HCR_CQ_TAIL_TAIL r)))

/-- COMMAND_FETCH of a ring: `bytes` is what host memory holds at the submission index (R557). -/
def execCommandFetch (r : RingId) (bytes : List (BitVec 8)) (s : State) : Out :=
  .next (if s.firmware ∧ s.hcrOn r ∧ (s.hcr r).fetched ≠ (s.hcr r).tail then
      if s.cqRoom r then
        let h := s.hcr r
        let s := s.setHcr r { h with fetched := (h.fetched + 1) % s.hcrSize r, cmds := h.cmds ++ [hostCmd bytes] }
        (s.setFlag (R.HCR_STATUS_STALLED r) false).drainBad r 4096
      else s.setFlag (R.HCR_STATUS_STALLED r) true
    else s)

/-- Whether bytes [a, b) of PARAMS are all 0. -/
def HostCmd.zero (c : HostCmd) (a b : Nat) : Bool := ((c.params.drop a).take (b - a)).all (fun x => x = 0)

/-- A number in PARAMS. -/
def HostCmd.num (c : HostCmd) (off n : Nat) : Nat := leNat ((c.params.drop off).take n)

/-- The conditions of BAD_PARAM that every command has: reserved bytes, and CHANNEL (R552, R555). -/
def HostCmd.badHead (c : HostCmd) (takesChannel : Bool) : Bool :=
  c.bad || if takesChannel then decide (255 < c.channel) else decide (c.channel ≠ 0xFFFFFFFF)

/-- Serve the oldest command of a ring if it has an opcode (R556). A CHANNEL_START, which must admit its channel, waits while DSP_ADM_CMD is BUSY
(04_dispatcher.md R184; log 108). -/
def State.serve (s : State) (r op : Nat) (f : HostCmd → State → State × CmdAns) : State :=
  match (s.hcr r).cmds with
  | c :: _ =>
    if s.firmware ∧ c.opcode = op ∧ !(op = 0x0011 ∧ s.flag R.DSP_ADM_CMD_BUSY) then
      let (s, a) := f c s
      (s.complete r c a).drainBad r 4096
    else s
  | [] => s

/-! ### NOP, PTP_CONFIG, MCAST_JOIN, MCAST_LEAVE (R554) -/

/-- NOP. -/
def nopCmd (c : HostCmd) (s : State) : State × CmdAns := (s, (if c.badHead false || !c.zero 0 48 then stBAD_PARAM else stOK, 0))

/-- PTP_CONFIG. -/
def ptpConfig (c : HostCmd) (s : State) : State × CmdAns :=
  if c.badHead false || !c.zero 3 4 || !c.zero 6 48 || decide (127 < c.num 0 1) || decide (1 < c.num 1 1) then (s, (stBAD_PARAM, 0))
  else ({ s with ptp := { domain := c.num 0 1, ipv6 := decide (c.num 1 1 = 1), logDelay := signedOf (c.num 2 1) 8, macs := c.num 4 2 } }, (stOK, 0))

/-- The group that a multicast command names. -/
def mcastOf (c : HostCmd) : Mcast := { mac := c.num 0 1, ipv6 := decide (c.num 1 1 = 1), group := c.num 4 16, source := c.num 20 16 }

/-- MCAST_JOIN and MCAST_LEAVE. -/
def mcastCmd (join : Bool) (c : HostCmd) (s : State) : State × CmdAns :=
  if c.badHead false || !c.zero 2 4 || !c.zero 36 48 || decide (15 < c.num 0 1) || decide (1 < c.num 1 1) then (s, (stBAD_PARAM, 0))
  else
    let m := mcastOf c
    let rest := s.mcasts.filter (fun x => decide (x ≠ m))
    ({ s with mcasts := if join then m :: rest else rest }.emit (.mcastReport m.mac m.ipv6 m.group m.source join), (stOK, 0))

/-! ### The recipe loader (03_morop.md R139 to R142, R752, 21_startup.md R725) -/

/-- A number in an image. -/
def num (img : List (BitVec 8)) (off n : Nat) : Nat := leNat ((img.drop off).take n)

/-- The entry records of an image: event, VECTORED, RESUME and ADDR (R140). -/
def entriesOf (img : List (BitVec 8)) : List (Nat × Bool × Bool × Nat) :=
  (List.range (num img 0x24 2)).map (fun i =>
    let a := num img 0x28 4 + 8 * i
    (num img a 1, bitAt (num img (a + 1) 1) 0, bitAt (num img (a + 1) 1) 1, num img (a + 4) 4))

/-- Whether an image has a signature block (R139). -/
def imageSigned (img : List (BitVec 8)) : Bool := decide (num img 0x34 4 ≠ 0) || decide (num img 0x38 4 ≠ 0)

/-- The CRC that R139 gives an image: over the bytes before the signature block, with the field taken as zero. -/
def imageCrc (img : List (BitVec 8)) : Nat :=
  let b := img.take (img.length - num img 0x38 4)
  crcTag (b.take 0x3C ++ leBytes 4 0 ++ b.drop 0x40)

/-- Whether a region of an image lies within it. -/
def inImage (img : List (BitVec 8)) (off n : Nat) : Bool := decide (off + n ≤ img.length)

/-- Whether a signature block verifies under the key slot that it names (R141, R725). -/
def State.sigOk (s : State) (img : List (BitVec 8)) : Bool :=
  let o := num img 0x34 4
  let k := num img (o + 6) 2
  decide (num img 0x38 4 = 104) && decide (o + 104 = img.length) && decide (num img o 4 = 0x4753524D) && decide (num img (o + 4) 2 = 0x0100) &&
  decide (k < 16) && s.flag (R.SEC_RCP_KEY_CFG_VALID k) &&
  (tfind s.rcpKeys k).elim false (fun p => ecdsaVerify (BitVec.ofNat 384 p.1) (BitVec.ofNat 384 p.2) (sha384 (img.take o))
    (BitVec.ofNat 384 (keyNat ((img.drop (o + 8)).take 48))) (BitVec.ofNat 384 (keyNat ((img.drop (o + 56)).take 48))))

/-- Signing is mandatory (R725). -/
def State.mustSign (s : State) : Bool := s.flag R.SEC_POLICY_RECIPE_SIGNED || Config.fusedRecipeSigned

/-- Whether two entries name the same event with the same RESUME flag. -/
def repeated : List (Nat × Bool × Bool × Nat) → Bool
  | [] => false
  | e :: t => t.any (fun x => decide (x.1 = e.1) && (x.2.2.1 == e.2.2.1)) || repeated t

/-- The first condition of R142 that holds, or 0. `ilen` and `dlen` are the lengths of the partitions. -/
def State.imageFault (s : State) (img : List (BitVec 8)) (ilen dlen : Nat) : Nat :=
  let e := entriesOf img
  let text := num img 0x14 4
  if num img 0 4 ≠ 0x4550524D ∨ num img 4 2 / 256 ≠ 1 ∨ num img 0x0C 2 ≠ 0x0100 ∨ num img 8 4 ≠ img.length ∨ num img 0x3C 4 ≠ imageCrc img then 1
  else if !(inImage img 0 64 && inImage img (num img 0x10 4) text && inImage img (num img 0x18 4) (num img 0x1C 4) &&
      inImage img (num img 0x28 4) (8 * num img 0x24 2) && inImage img (num img 0x2C 4) (num img 0x30 4) &&
      inImage img (num img 0x34 4) (num img 0x38 4)) ∨ text % 4 ≠ 0 ∨ num img 0x24 2 = 0 ∨ 16 < num img 0x24 2 then 2
  else if ilen < text ∨ dlen < num img 0x1C 4 + num img 0x20 4 then 3
  else if e.any (fun x => decide (x.2.2.2 % 4 ≠ 0) || decide (text ≤ x.2.2.2)) then 4
  else if !e.any (fun x => decide (x.1 = 0) && !x.2.2.1) || repeated e ||
      e.any (fun x => (decide (17 ≤ x.1) && decide (x.1 ≤ 47)) || decide (63 < x.1)) then 5
  else if (s.mustSign ∧ !imageSigned img) ∨ (imageSigned img ∧ !s.sigOk img) then 6
  else 0

/-- Load an image into a thread and a channel (R140, R142, R752). -/
def State.loadImage (s : State) (ch t addr imap dmap prio : Nat) (img : List (BitVec 8)) : State :=
  let (q, i) := (t / 4, t % 4)
  let data := (img.drop (num img 0x18 4)).take (num img 0x1C 4) ++ List.replicate (num img 0x20 4) 0
  let s := s.setFlag (R.SEQ_CTRL_ENABLE q) true
  let s := ((s.setReg (K.SEQ_TH_IMAP q i) (BitVec.ofNat 64 imap)).setReg (K.SEQ_TH_DMAP q i) (BitVec.ofNat 64 dmap)).set (R.SEQ_TH_CTRL_PRIO q i) prio
  let s := s.seqStore q 0 (imap % 65536) ((img.drop (num img 0x10 4)).take (num img 0x14 4))
  let s := s.seqStore q 0x8000 (dmap % 65536) data
  let s := (List.range 16).foldl (fun s v =>
    match (entriesOf img)[v]? with
    | some (ev, vec, res, a) =>
      s.setReg (K.SEQ_TH_VEC q i v) (BitVec.ofNat 64 (ev + (if vec then 64 else 0) + 128 + a * 256 + (if res then 2 ^ 23 else 0)))
    | none => s.setFlag (R.SEQ_TH_VEC_VALID q i v) false) s
  let s := (s.chans.filter (fun p => decide (p.2.loaded = some t))).foldl (fun s (p : Nat × ChanSt) => s.setChan p.1 { p.2 with loaded := none }) s
  s.setChan ch { s.chan ch with loaded := some t, decl := addr + num img 0x2C 4, costLen := num img 0x30 4, init := data }

/-- Whether two ranges share a byte. -/
def overlap (a n b m : Nat) : Bool := decide (n ≠ 0) && decide (m ≠ 0) && decide (a < b + m) && decide (b < a + n)

/-- Whether a partition overlaps that of another thread of the sequencer that is not IDLE (R752). -/
def State.loadClash (s : State) (t imap dmap : Nat) : Bool :=
  (List.range 4).any (fun i =>
    let q := t / 4
    decide (4 * q + i ≠ t) && decide ((s.thr (4 * q + i)).st ≠ .idle) &&
    (overlap (imap % 65536) (imap / 65536) (s.get (R.SEQ_TH_IMAP_BASE q i)) (s.get (R.SEQ_TH_IMAP_LEN q i)) ||
     overlap (dmap % 65536) (dmap / 65536) (s.get (R.SEQ_TH_DMAP_BASE q i)) (s.get (R.SEQ_TH_DMAP_LEN q i))))

/-- RECIPE_LOAD (R554, R555, R752). -/
def recipeLoad (c : HostCmd) (s : State) : State × CmdAns :=
  let addr := c.num 0 8
  let len := c.num 8 4
  let imap := c.num 16 4
  let dmap := c.num 20 4
  let t := 4 * c.num 12 1 + c.num 13 1
  if c.badHead true || !c.zero 15 16 || !c.zero 24 48 || decide (63 < c.num 12 1) || decide (3 < c.num 13 1) || decide (7 < c.num 14 1) ||
      decide (imap % 4 ≠ 0) || decide (dmap % 8 ≠ 0) || decide (32768 < imap / 65536) || decide (32768 < dmap / 65536) then (s, (stBAD_PARAM, 0))
  else if (s.thr t).st ≠ .idle ∨ s.loadClash t imap dmap then (s, (stSTATE, 0))
  else if len = 0 ∨ !mappedRange addr len ∨ regionOf addr ≠ regionOf (addr + len - 1) ∨ inRegs addr then (s, (stLENGTH, 0))
  else
    let img := s.dBytes addr len
    let n := s.imageFault img (imap / 65536) (dmap / 65536)
    if n ≠ 0 then (s, (stIMAGE_REJECTED, n)) else (s.loadImage c.channel t addr imap dmap (c.num 14 1) img, (stOK, 0))

/-! ### CHANNEL_START, CHANNEL_STOP (R554) -/

/-- CHANNEL_START. -/
def channelStart (c : HostCmd) (s : State) : State × CmdAns :=
  if c.badHead true || !c.zero 0 48 then (s, (stBAD_PARAM, 0)) else s.startChannel c.channel

/-- A standby channel that waits, bound to its thread or not, is stopped: its tasks end, an ISSUE for it answers ESTOP, and its admission is returned
(R177, R178, R185, R607). -/
def State.stopWaiting (s : State) (ch : Nat) : State :=
  let s := (s.boundThread ch).elim s (fun t => (s.setFlag (R.CTX_BIND_VALID ch) false).setThr t { s.thr t with chan := 0xFFFF })
  let s := s.setChan ch { s.chan ch with stopping := true }
  ((s.endBlockedIssue ch).stopTasks ch).askRelease ch

/-- CHANNEL_STOP of a running channel, or of a standby channel that waits (R129, R177, R185, R607). -/
def channelStop (c : HostCmd) (s : State) : State × CmdAns :=
  if c.badHead true || !c.zero 0 48 then (s, (stBAD_PARAM, 0))
  else if s.running c.channel then (s.stopChannel c.channel, (stOK, 0))
  else if s.waits c.channel then (s.stopWaiting c.channel, (stOK, 0))
  else (s, (stSTATE, 0))

/-! ### Commands -/

/-- The effect of a host command whose row is known by its opcode. -/
def hostEffect (c : HostCmd) (s : State) : State × CmdAns :=
  match c.opcode with
  | 0x0001 => nopCmd c s
  | 0x0010 => recipeLoad c s
  | 0x0011 => channelStart c s
  | 0x0012 => channelStop c s
  | 0x0020 => ptpConfig c s
  | 0x0021 => mcastCmd true c s
  | 0x0022 => mcastCmd false c s
  | _ => (s, (stBAD_OPCODE, 0))

/-- NOP of a ring. -/
def execNop (r : RingId) (s : State) : Out := .next (s.serve r 0x0001 nopCmd)
/-- RECIPE_LOAD of a ring. -/
def execRecipeLoad (r : RingId) (s : State) : Out := .next (s.serve r 0x0010 recipeLoad)
/-- CHANNEL_START of a ring. -/
def execChannelStart (r : RingId) (s : State) : Out := .next (s.serve r 0x0011 channelStart)
/-- CHANNEL_STOP of a ring. -/
def execChannelStop (r : RingId) (s : State) : Out := .next (s.serve r 0x0012 channelStop)
/-- PTP_CONFIG of a ring. -/
def execPtpConfig (r : RingId) (s : State) : Out := .next (s.serve r 0x0020 ptpConfig)
/-- MCAST_JOIN of a ring. -/
def execMcastJoin (r : RingId) (s : State) : Out := .next (s.serve r 0x0021 (mcastCmd true))
/-- MCAST_LEAVE of a ring. -/
def execMcastLeave (r : RingId) (s : State) : Out := .next (s.serve r 0x0022 (mcastCmd false))

end Sys2Proof.Machine
end

