-- ==== Sys2Proof/Machine/Dma.lean ====
section
/-! DEFINITION. The DMA engine: descriptor lists, bursts, the staging buffer, withdrawal and host errors (14_host_dma.md R559 to R567). -/

namespace Sys2Proof.Machine

/-- A DMA channel. -/
def State.dma (s : State) (c : Nat) : DmaSt := tget (fun _ => {}) s.dmas c

/-- Replace a DMA channel. -/
def State.setDma (s : State) (c : Nat) (d : DmaSt) : State := { s with dmas := tset (fun _ => {}) s.dmas c d }

/-- STATUS values of DMA_CH_STATUS. -/
def dmaDONE : Nat := 0
def dmaDESC_ERR : Nat := 1
def dmaRANGE : Nat := 2
def dmaHOST_ERR : Nat := 3
def dmaABORTED : Nat := 4

/-- Bytes of a unit of a SWAP mode (R566). -/
def swapUnit (m : Nat) : Nat := if m = 0 then 1 else if m = 1 then 2 else if m ≤ 3 then 4 else 8

/-- The order in which the bytes of a unit leave the engine (R566). -/
def swapOrder (m : Nat) : List Nat :=
  match m with
  | 1 => [1, 0]
  | 2 => [3, 2, 1, 0]
  | 3 => [2, 3, 0, 1]
  | 4 => [7, 6, 5, 4, 3, 2, 1, 0]
  | _ => [0]

/-- Where the byte of device address `a` stands after its unit, aligned to the device address, is reordered; every mode is its own inverse
(R566). -/
def swapAddr (m a : Nat) : Nat := a / swapUnit m * swapUnit m + (swapOrder m).getD (a % swapUnit m) 0

/-- The bytes that a D2H burst carries, in the order of the host's addresses. -/
def State.gatherBytes (s : State) (m dev n : Nat) : List (BitVec 8) := (List.range n).map (fun k => s.dByte (swapAddr m (dev + k)))

/-- Store the bytes of an H2D burst, each at its place, removing the poison of every memory burst that it covers whole (R532). -/
def State.scatterBytes (s : State) (m dev : Nat) (l : List (BitVec 8)) : State :=
  if m = 0 then s.dStore dev l
  else
    let s := l.zipIdx.foldl (fun s (p : BitVec 8 × Nat) => s.dSet (swapAddr m (dev + p.2)) p.1) s
    { s with poison := s.poison.filter (fun b => !(decide (dev ≤ 32 * b) && decide (32 * b + 32 ≤ dev + l.length))) }

/-! ### Lists (R559, R560) -/

/-- A descriptor from 32 bytes, and whether a reserved bit is set. -/
def dmaDesc (b : List (BitVec 8)) : DmaDesc × Bool :=
  let ctrl := num b 0x14 4
  ({ host := num b 0 8, dev := num b 8 8, len := num b 0x10 4, swap := ctrl % 8, irq := bitAt ctrl 3 },
    decide (16 ≤ ctrl) || decide (num b 0x18 8 ≠ 0) || decide (2 ^ 48 ≤ num b 8 8))

/-- What is wrong with a descriptor: 0 nothing, DESC_ERR or RANGE. -/
def descFault (d : DmaDesc × Bool) : Nat :=
  let u := swapUnit d.1.swap
  if d.1.len = 0 ∨ d.2 ∨ 5 ≤ d.1.swap ∨ d.1.len % u ≠ 0 ∨ d.1.dev % u ≠ 0 then dmaDESC_ERR
  else if !mappedRange d.1.dev d.1.len ∨ inRegs d.1.dev ∨ regionOf d.1.dev ≠ regionOf (d.1.dev + d.1.len - 1) then dmaRANGE
  else 0

/-- The first descriptor at fault, and its fault. -/
def firstFault : Nat → List (DmaDesc × Bool) → Option (Nat × Nat)
  | _, [] => none
  | i, d :: t => if descFault d = 0 then firstFault (i + 1) t else some (i, descFault d)

/-- The bytes of a channel's list: in device memory, or as host memory holds them. -/
def State.dmaList (s : State) (c : Nat) (host : List (BitVec 8)) : List (BitVec 8) :=
  let n := 32 * s.get (R.DMA_CH_COUNT_COUNT c)
  if s.flag (R.DMA_CH_CFG_LIST_IN_DEV c) then s.dBytes (s.reg (K.DMA_CH_LIST c)).toNat n else padTo n host

/-- The list as descriptors. -/
def State.dmaDescs (s : State) (c : Nat) (host : List (BitVec 8)) : List (DmaDesc × Bool) :=
  let l := s.dmaList c host
  (List.range (s.get (R.DMA_CH_COUNT_COUNT c))).map (fun i => dmaDesc ((l.drop (32 * i)).take 32))

/-- Whether a channel's list lies in device memory and cannot be read: outside the regions, in frame memory that answers with an error response, or
among the registers (R47, R532, R546). -/
def State.listLost (s : State) (c : Nat) : Bool :=
  let a := (s.reg (K.DMA_CH_LIST c)).toNat
  let n := 32 * s.get (R.DMA_CH_COUNT_COUNT c)
  s.flag (R.DMA_CH_CFG_LIST_IN_DEV c) && decide (n ≠ 0) && (!s.readable a n || inRegs a)

/-- A write of GO (R560): the whole list is checked before any byte moves. A list that cannot be read is refused with RANGE (DESIGN CHOICE, log 106),
with R47's notice where it lies outside the regions. -/
def State.dmaGo (s : State) (c : Nat) (host : List (BitVec 8)) : State :=
  if !s.flag R.DMA_CTRL_ENABLE ∨ s.flag (R.DMA_CH_STATUS_BUSY c) then s
  else if s.listLost c then
    let s := (s.set (R.DMA_CH_STATUS_STATUS c) dmaRANGE).set (R.DMA_CH_STATUS_INDEX c) 0
    if mappedRange (s.reg (K.DMA_CH_LIST c)).toNat (32 * s.get (R.DMA_CH_COUNT_COUNT c)) then s else s.addrError (.unit 0x0007)
  else
    let ds := s.dmaDescs c host
    match firstFault 0 ds with
    | some (i, f) => (s.set (R.DMA_CH_STATUS_STATUS c) f).set (R.DMA_CH_STATUS_INDEX c) i
    | none =>
      let s := (s.set (R.DMA_CH_STATUS_STATUS c) dmaDONE).set (R.DMA_CH_STATUS_INDEX c) 0
      if ds = [] then s
      else
        let l := ds.map (·.1)
        (s.setDma c { descs := l, accepted := (s.dma c).accepted + l.foldl (fun n d => n + d.len) 0 }).setFlag (R.DMA_CH_STATUS_BUSY c) true

/-- DMA_GO: `host` is what host memory holds at DMA_CH_LIST where the list lies there. -/
def execDmaGo (c : DmaId) (host : List (BitVec 8)) (s : State) : Out := whenWr s (fun s => s.dmaGo c host)

/-! ### Bursts (R562, R563) -/

/-- Bytes in flight on a channel: its part of the staging buffer. -/
def DmaSt.held (d : DmaSt) : Nat := d.inflight.foldl (fun n b => n + b.len) 0

/-- Bytes never issued. -/
def DmaSt.unissued (d : DmaSt) : Nat := (d.descs.drop d.ix).foldl (fun n x => n + x.len) 0 - d.off

/-- The next burst of a channel, if one is ready (R562). -/
def State.nextBurst (s : State) (c : Nat) : Option DmaBurst :=
  let d := s.dma c
  if s.flag (R.DMA_CH_STATUS_BUSY c) ∧ !d.aborted ∧ !d.failed then
    (d.descs[d.ix]?).map (fun x =>
      let max := 512 * 2 ^ s.get (R.DMA_CH_CFG_BURST c)
      let h := x.host + d.off
      let n := min (min max (x.len - d.off)) (4096 - h % 4096)
      { host := h, dev := x.dev + d.off, len := n, swap := x.swap, last := decide (d.off + n = x.len), irq := x.irq })
  else none

/-- Bytes of the shared part of the buffer in use: what channels hold above their guarantee of 32 KB. -/
def State.sharedUse (s : State) : Nat := s.dmas.foldl (fun n p => n + (p.2.held - 32768)) 0

/-- Whether the buffer has space for a burst of a channel (R563). -/
def State.dmaSpace (s : State) (c n : Nat) : Bool :=
  let h := (s.dma c).held
  s.flag R.DMA_BUF_BASE_ENABLE && (decide (h + n ≤ 32768) || decide (s.sharedUse + (h + n - 32768) - (h - 32768) ≤ 0x200000))

/-- Channels of an engine that could issue. -/
def State.dmaReady (s : State) (d2h : Bool) : List Nat :=
  (List.range 64).filter (fun c => (s.flag (R.DMA_CH_CFG_D2H c) == d2h) && (s.nextBurst c).elim false (fun b => s.dmaSpace c b.len))

/-- The channel that an engine serves next: of the highest priority, taking turns in ascending order (R562). -/
def State.dmaPick (s : State) (d2h : Bool) : Option (Nat × Nat) :=
  let l := s.dmaReady d2h
  let p := l.foldl (fun m c => max m (s.get (R.DMA_CH_CFG_PRIO c))) 0
  let top := l.filter (fun c => decide (s.get (R.DMA_CH_CFG_PRIO c) = p))
  let turn := (if d2h then 8 else 0) + p
  let last := tget (fun _ => 63) s.dmaTurn turn
  ((top.find? (fun c => decide (last < c))).orElse (fun _ => top.head?)).map (fun c => (c, turn))

/-- DMA_BURST_ISSUE of an engine (R562 to R564): a D2H burst reads the device when it is issued. -/
def execDmaBurstIssue (d2h : Bool) (s : State) : Out :=
  whenWr s (fun s =>
    match s.dmaPick d2h with
    | none => s
    | some (c, turn) =>
      match s.nextBurst c with
      | none => s
      | some b =>
        let d := s.dma c
        let b := if d2h then { b with data := s.gatherBytes b.swap b.dev b.len, bad := !s.readable b.dev b.len } else b
        let d := { d with inflight := d.inflight ++ [b], ix := if b.last then d.ix + 1 else d.ix, off := if b.last then 0 else d.off + b.len }
        let s := { s with dmaTurn := tset (fun _ => 63) s.dmaTurn turn c }
        (s.setDma c d).set (R.DMA_CH_STATUS_INDEX c) (min d.ix (d.descs.length - 1)))

/-- A channel with nothing left to do is no longer busy; its STATUS says how the list ended (R561, R564). -/
def State.dmaSettle (s : State) (c : Nat) : State :=
  let d := s.dma c
  if s.flag (R.DMA_CH_STATUS_BUSY c) ∧ d.inflight = [] ∧ (d.aborted ∨ d.failed ∨ d.descs.length ≤ d.ix) then
    let st := if d.failed then dmaHOST_ERR else if d.aborted then dmaABORTED else dmaDONE
    (s.setFlag (R.DMA_CH_STATUS_BUSY c) false).set (R.DMA_CH_STATUS_STATUS c) st
  else s

/-- The bytes of a burst reach their destination (R566). -/
def State.deliverBurst (s : State) (c : Nat) (b : DmaBurst) (data : List (BitVec 8)) : State :=
  if s.flag (R.DMA_CH_CFG_D2H c) then s.emit (.hostWrite b.host b.data)
  else if s.writable b.dev b.len then s.scatterBytes b.swap b.dev (padTo b.len data)
  else s.addrError (.unit 0x0007)

/-- The access of a channel's oldest burst ends in error: its bytes and those not issued count in WITHDRAWN, and the channel stops (R561, log 45). -/
def State.burstFails (s : State) (c : Nat) (b : DmaBurst) (rest : List DmaBurst) : State :=
  let d := s.dma c
  let s := s.add (R.DMA_CH_CNT_BYTES c 2) (b.len + (if d.aborted ∨ d.failed then 0 else d.unissued))
  s.setDma c { d with inflight := rest, failed := true }

/-- DMA_BURST_COMPLETE of a channel's oldest burst; `data` is what the host read of an H2D burst returns (R563, R565, R566). A D2H burst
whose device read had an error response brings no data: the notice of R47 is raised and the channel stops (R532, log 106). -/
def execDmaBurstComplete (c : DmaId) (data : List (BitVec 8)) (s : State) : Out :=
  whenWr s (fun s =>
    match (s.dma c).inflight with
    | [] => s
    | b :: t =>
      if b.bad then ((s.burstFails c b t).addrError (.unit 0x0007)).dmaSettle c
      else
        let s := s.deliverBurst c b data
        let s := s.setDma c { s.dma c with inflight := t }
        let s := s.add (R.DMA_CH_CNT_BYTES c (if b.late then 1 else 0)) b.len
        let s := if b.last ∧ b.irq then s.msix (Config.firstMsixPcie + 16 + c) else s
        s.dmaSettle c)

/-! ### Withdrawal and host errors (R561, R564, R565) -/

/-- A write of ABORT: bursts in flight complete, the rest is withdrawn. -/
def State.dmaAbort (s : State) (c : Nat) : State :=
  let d := s.dma c
  if s.flag (R.DMA_CH_STATUS_BUSY c) ∧ !d.aborted ∧ !d.failed then
    let s := s.add (R.DMA_CH_CNT_BYTES c 2) d.unissued
    (s.setDma c { d with aborted := true, inflight := d.inflight.map (fun (b : DmaBurst) => { b with late := true }) }).dmaSettle c
  else s

/-- DMA_ABORT. -/
def execDmaAbort (c : DmaId) (s : State) : Out := whenWr s (fun s => s.dmaAbort c)

/-- DMA_HOST_ERROR: the host access of a channel's oldest burst ends in error (R561). -/
def execDmaHostError (c : DmaId) (s : State) : Out :=
  whenWr s (fun s =>
    match (s.dma c).inflight with
    | [] => s
    | b :: t => ((s.burstFails c b t).report 23 0).dmaSettle c)

end Sys2Proof.Machine
end

