-- ==== Sys2Proof/Machine/Conservation.lean ====
section
/-! DEFINITION. The Conservation audit: the equations, snapshots and automatic snapshots (20_conservation.md R696 to R706). -/

namespace Sys2Proof.Machine

/-! ### Counters that run with time (R696, R706) -/

/-- Raw ns since ENABLE was set. -/
def State.consAge (s : State) : Nat := if s.flag R.CONS_CTRL_ENABLE then s.raw - s.cons.at' else 0

/-- What a span that began at raw time `a` has added so far. -/
def State.spanNs (s : State) (a : Nat) : Nat := if s.flag R.CONS_CTRL_ENABLE then s.raw - max a s.cons.at' else 0

/-- The task that an engine runs. -/
def State.engTask (s : State) (e : Nat) : Option TaskEntry :=
  let b := tget (fun _ => 0) s.busy e
  if b = 0 then none else some (s.task (b - 1))

/-- The proof that an engine runs. -/
def State.engProof (s : State) (e : Nat) : Option Proof := s.proofs.find? (fun p => decide (p.runner = some e))

/-- Counter i of an engine at this moment: TASK_NS, PROOF_NS, IDLE_NS, ISOLATED_NS. -/
def State.engNs (s : State) (e i : Nat) : Nat :=
  let task := s.get (R.CONS_ENG_NS e 0) + (s.engTask e).elim 0 (fun t => s.spanNs t.startAt)
  let proof := s.get (R.CONS_ENG_NS e 1) + (s.engProof e).elim 0 (fun p => s.spanNs p.startAt)
  let iso := s.get (R.CONS_ENG_NS e 3) + (tfind s.cons.iso e).elim 0 s.spanNs
  match i with
  | 0 => task
  | 1 => proof
  | 2 => if s.flag R.CONS_CTRL_ENABLE then s.consAge - task - proof - iso else s.get (R.CONS_ENG_NS e 2)
  | _ => iso

/-- Time that the running ENC and DEC tasks of a channel, or of none, have added so far. -/
def State.runningNs (s : State) (ch : Option Nat) : Nat :=
  (List.range 128).foldl (fun n e => n + (s.engTask e).elim 0 (fun t => if t.ch = ch then s.spanNs t.startAt else 0)) 0

/-- ENG_NS of a channel at this moment. -/
def State.chNs (s : State) (ch : Nat) : Nat := s.get (R.CONS_CH_COUNT ch 3) + s.runningNs (some ch)

/-- PENDING of a stream buffer: valid bits set. -/
def State.sbPending (s : State) (b : Nat) : Nat := (s.sb b).valid.foldl (fun n p => n + popCount p.2 64) 0

/-! ### The equations (R696, R701) -/

/-- Pictures of a running encode channel. -/
def State.picsOk (s : State) (ch : Nat) : Bool :=
  !(s.running ch && s.encodes ch) ||
    decide ((s.chan ch).handed + (s.chan ch).picBase =
      s.get (R.CONS_CH_COUNT ch 0) + s.get (R.CONS_CH_COUNT ch 1) + s.get (R.CONS_CH_COUNT ch 2))

/-- Pictures and output frames of a decode channel (09_decode.md R401). -/
def State.decOk (s : State) (ch : Nat) : Bool :=
  let c := fun i => s.get (R.DEC_CNT_COUNT ch i)
  decide (c 10 = c 11 + c 12 + c 13) && decide (c 1 = c 11 + c 9 + (s.decOf ch).pics.length)

/-- Sample slots of a stream buffer. -/
def State.sbOk (s : State) (b : Nat) : Bool :=
  let c := fun i => s.get (R.AUD_SB_CNT_COUNT b i)
  decide (c 4 = (s.sb b).livePeriods) && decide (c 0 + c 5 = c 4 + s.sbPending b + (s.sb b).discarded)

/-- Sample slots of a TDM port. -/
def State.tdmOk (s : State) (p : Nat) : Bool :=
  let c : Nat → Int := fun i => s.get (R.AUD_PORT_CNT_COUNT p i)
  let x := s.tdm p
  !s.flag (R.AUD_PORT_STATUS_RUNNING p) ||
    (decide ((x.m : Int) = c 1 + c 5 - c 4 - x.tx0 + x.tx.length) && decide (c 0 + c 2 - c 3 - x.rx0 = (x.m : Int) + x.rx.length))

/-- Tokens of a pool. -/
def State.poolOk (s : State) (ch : Nat) : Bool :=
  !s.flag (R.ING_POOL_CFG_ENABLE ch) ||
    (decide (s.get (R.ING_POOL_CFG_COUNT ch) = s.get (R.ING_POOL_STATUS_FREE ch) + s.get (R.ING_POOL_STATUS_HELD ch)) &&
     decide (s.get (R.ING_POOL_STATUS_HELD ch) + s.get (R.ING_POOL_RETURNED_COUNT ch) = s.get (R.ING_POOL_TAKEN_COUNT ch)))

/-- Credits of a Weneiren port and VC v at the transmitter (15_weneiren.md R583). -/
def State.creditOk (s : State) (p v : Nat) : Bool :=
  let w := s.wlPort p
  decide (w.init.getD (v - 1) 0 + s.get (R.WL_CREDIT_COUNT p (v - 1) 1) = tget (fun _ => 0) w.credits v + s.get (R.WL_CREDIT_COUNT p (v - 1) 0))

/-- Bytes of a DMA channel (14_host_dma.md R565): those of its list not yet issued count with those in flight. -/
def State.dmaOk (s : State) (c : Nat) : Bool :=
  let d := s.dma c
  decide (d.accepted = s.get (R.DMA_CH_CNT_BYTES c 0) + s.get (R.DMA_CH_CNT_BYTES c 1) + s.get (R.DMA_CH_CNT_BYTES c 2) + d.held +
    (if d.aborted ∨ d.failed then 0 else d.unissued))

/-- Packets of an ingest flow (05_ingest.md R243). -/
def State.flowOk (s : State) (f : Nat) : Bool :=
  let c := fun i => s.get (R.ING_FLOW_CNT_COUNT f i)
  decide (c 0 = c 1 + c 2 + c 3 + c 4 + c 5 + c 6 + c 7 + c 8)

/-- Packets of the MACs, over all MACs: those that wait in the ingest packet engine are in flight (R243). -/
def State.macsOk (s : State) : Bool :=
  let mac := fun i => (List.range 16).foldl (fun n m => n + s.get (R.MAC_CNT_COUNT m i)) 0
  let flows := (List.range 16384).foldl (fun n f => n + s.get (R.ING_FLOW_CNT_COUNT f 0)) 0
  decide (mac 0 = flows + mac 6 + mac 7 + mac 5 + s.ingFifo.length)

/-- Bits of a rendition's buffer model, within one bit (08_rate_and_delay.md R384). -/
def State.bitsOk (s : State) (ch r : Nat) : Bool :=
  let c : Nat → Int := fun i => s.get (R.RC_ST_COUNT ch r i)
  let d := (s.rend ch r).cpb0 + c 13 - c 2 - c 3 - c 14 - c 0
  !s.running ch || (decide (-1 ≤ d) && decide (d ≤ 1))

/-- Time of an engine, and of all channels. -/
def State.timeOk (s : State) : Bool :=
  (List.range 128).all (fun e => decide (s.engNs e 0 + s.engNs e 1 + s.engNs e 2 + s.engNs e 3 = s.consAge)) &&
  decide ((List.range 256).foldl (fun n c => n + s.chNs c) 0 + s.cons.noCh + s.runningNs none =
    (List.range 128).foldl (fun n e => n + s.engNs e 0) 0)

/-- Whether quantity q obeys its equations. -/
def State.consOk (s : State) (q : Nat) : Bool :=
  match q with
  | 0 => (List.range 256).all (fun c => s.picsOk c && s.decOk c)
  | 1 => (List.range 512).all s.sbOk && (List.range 8).all s.tdmOk
  | 2 => (List.range 256).all s.poolOk
  | 3 => (List.range 3).all (fun p => s.creditOk p 1 && s.creditOk p 2 && s.creditOk p 3)
  | 4 => (List.range 64).all s.dmaOk
  | 5 => (List.range 16384).all s.flowOk && s.macsOk
  | 6 => (List.range 256).all (fun c => (List.range 8).all (s.bitsOk c))
  | _ => s.timeOk

/-- Type ID of the block that owns a quantity's counters (R701). -/
def consBlock (q : Nat) : Nat :=
  blockOf (([0xF32000, 0xC40018, 0x610010, 0xE00500, 0x84018, 0x401040, 0xB00000, 0xF31000] : List Nat).getD q 0)

/-! ### The image (R699; which counters an instance lists: log 46) -/

/-- Words of a section. -/
def consCount (q : Nat) : Nat := ([4864, 4168, 1024, 45, 256, 163984, 32768, 768] : List Nat).getD q 0

/-- The section of quantity q. -/
def State.consWords (s : State) (q : Nat) : List Nat :=
  match q with
  | 0 => (List.range 256).flatMap (fun c =>
      [s.get (R.CONS_CH_COUNT c 0), s.get (R.CONS_CH_COUNT c 1), (s.chan c).handed, s.get (R.CONS_CH_COUNT c 2)] ++
      (List.range 14).map (fun i => s.get (R.DEC_CNT_COUNT c i)) ++ [(s.decOf c).pics.length])
  | 1 => (List.range 512).flatMap (fun b =>
        (List.range 6).map (fun i => s.get (R.AUD_SB_CNT_COUNT b i)) ++ [s.sbPending b, (s.sb b).discarded]) ++
      (List.range 8).flatMap (fun p =>
        (List.range 6).map (fun i => s.get (R.AUD_PORT_CNT_COUNT p i)) ++ [(s.tdm p).m, (s.tdm p).tx.length, (s.tdm p).rx.length])
  | 2 => (List.range 256).flatMap (fun c => [s.get (R.ING_POOL_TAKEN_COUNT c), s.get (R.ING_POOL_RETURNED_COUNT c),
        s.get (R.ING_POOL_STATUS_FREE c), s.get (R.ING_POOL_STATUS_HELD c)])
  | 3 => (List.range 3).flatMap (fun p => (List.range 3).flatMap (fun v =>
        (List.range 4).map (fun i => s.get (R.WL_CREDIT_COUNT p v i)) ++ [tget (fun _ => 0) (s.wlPort p).credits (v + 1)]))
  | 4 => (List.range 64).flatMap (fun c => (List.range 3).map (fun i => s.get (R.DMA_CH_CNT_BYTES c i)) ++ [(s.dma c).held])
  | 5 => (List.range 16).flatMap (fun m => (List.range 8).map (fun i => s.get (R.MAC_CNT_COUNT m i)) ++
        [(s.ingFifo.filter (fun f => decide (f.mac = m))).length]) ++
      (List.range 16384).flatMap (fun f => (List.range 10).map (fun i => s.get (R.ING_FLOW_CNT_COUNT f i)))
  | 6 => (List.range 256).flatMap (fun c => (List.range 8).flatMap (fun r => (List.range 16).map (fun i => s.get (R.RC_ST_COUNT c r i))))
  | _ => (List.range 128).flatMap (fun e => (List.range 4).map (s.engNs e)) ++ (List.range 256).map s.chNs

/-- The quantities of a SCOPE. -/
def scopeOf (scope : Nat) : List Nat := (List.range 8).filter (fun q => bitAt scope q)

/-- Bytes that a SCOPE needs (R699, CONS_SNAP_LEN). -/
def snapLen (scope : Nat) : Nat := 64 + (scopeOf scope).foldl (fun n q => n + 8 * consCount q) 0

/-- Freeze the counters of a SCOPE at the next CLK_SLOW edge (R698). -/
def State.consFreeze (s : State) (scope : Nat) : State :=
  let s := s.advance s.nextSlow
  let snap : ConsSnap := {
    addr := s.get R.CONS_SNAP_ADDR_ADDR * 4096, scope := scope, raw := s.raw, body := (scopeOf scope).flatMap s.consWords,
    failed := (scopeOf scope).filter (fun q => !s.consOk q) }
  { s with cons := { s.cons with snap := some snap } }.setFlag R.CONS_SNAP_STATUS_BUSY true

/-- Take a snapshot, or refuse it (R700). -/
def State.consSnap (s : State) (scope : Nat) : State :=
  if s.cons.snap.isSome ∨ !s.flag R.CONS_CTRL_ENABLE then s
  else if scope = 0 then s.set R.CONS_SNAP_STATUS_STATE 1
  else
    let n := snapLen scope
    let a := s.get R.CONS_SNAP_ADDR_ADDR * 4096
    if s.get R.CONS_SNAP_SIZE_BYTES < n ∨ !(inHbm a && inHbm (a + n - 1)) then s.set R.CONS_SNAP_STATUS_STATE 2
    else s.consFreeze scope

/-- CONS_SNAP_GO: a write of GO with a SCOPE (R698, R700). -/
def execConsSnapGo (scope : BitVec 8) (now : Nat) (s : State) : Out :=
  whenLive s (fun s => ((s.advance now).set R.CONS_SNAP_CTRL_SCOPE scope.toNat).consSnap scope.toNat)

/-- The header of an image (R699). -/
def ConsSnap.header (x : ConsSnap) (seq len : Nat) : List (BitVec 8) :=
  padTo 64 (leBytes 4 0x53435A41 ++ leBytes 2 0x0100 ++ leBytes 1 x.scope ++ leBytes 1 (x.failed.foldl (fun n q => n + 2 ^ q) 0) ++ leBytes 8 seq ++
    leBytes 8 x.raw ++ leBytes 4 len)

/-- The Heath island's copy of the latest header (R705). -/
def State.keepHeader (s : State) (h : List (BitVec 8)) : State :=
  (List.range 8).foldl (fun s i => s.set (R.CONS_KEPT_HDR_WORD i) (leNat ((h.drop (8 * i)).take 8))) s

/-- SNAPSHOT_COMPLETE: the image is in memory, RESULT is set and failures are raised; a snapshot that waited begins (R698 to R702). -/
def execSnapshotComplete (now : Nat) (s : State) : Out :=
  whenLive s (fun s =>
    let s := s.advance now
    match s.cons.snap with
    | none => s
    | some x =>
      let seq := s.get R.CONS_SNAP_SEQ_SEQ + 1
      let h := x.header seq (snapLen x.scope)
      let s := (s.unitStore 0x001A x.addr (h ++ x.body.flatMap (fun w => leBytes 8 w))).keepHeader h
      let s := { s with cons := { s.cons with snap := none } }
      let s := (((s.setFlag R.CONS_SNAP_STATUS_BUSY false).set R.CONS_SNAP_STATUS_STATE 1).set R.CONS_SNAP_STATUS_RESULT
        (x.failed.foldl (fun n q => n + 2 ^ q) 0)).set R.CONS_SNAP_SEQ_SEQ seq
      let s := x.failed.foldl (fun s q => s.report (438 + q) (suspect kBlock (consBlock q))) s
      if s.cons.autoWaits then { s with cons := { s.cons with autoWaits := false } }.consSnap 0xFF else s)

/-- AUTO_SNAPSHOT: AUTO_S seconds of raw time since the latest (R702). -/
def execAutoSnapshot (now : Nat) (s : State) : Out :=
  whenLive s (fun s =>
    let s := s.advance now
    let n := s.get R.CONS_CTRL_AUTO_S
    if n ≠ 0 ∧ s.cons.autoAt + n * 1000000000 ≤ s.raw then
      let s := { s with cons := { s.cons with autoAt := s.cons.autoAt + n * 1000000000 } }
      if s.cons.snap.isSome then
        { s with cons := { s.cons with autoWaits := true } }.inc R.CONS_CNT_AUTO_DELAYED_COUNT
      else s.consSnap 0xFF
    else s)

end Sys2Proof.Machine
end

