-- ==== Sys2Proof/Machine/Startup.lean ====
section
/-! DEFINITION. Power, resets, the boot flow, and the Security and boot block (21_startup.md R707 to R728). -/

namespace Sys2Proof.Machine

/-! ### Reset domains (R709 to R714) -/

/-- Registers that the always-on domain holds: those of the Heath island block, and CONS_KEPT_HDR (R705, R710). -/
def alwaysOn (k : Nat) : Bool := (decide (0x40000 ≤ k) && decide (k < 0x50000)) || (decide (0xF30040 ≤ k) && decide (k < 0xF30080))

/-- Registers of the PCIe domain: link, windows and host command rings (R712). -/
def pcieKey (k : Nat) : Bool := decide (0x80000 ≤ k) && decide (k < 0x82000)

/-- The device after a cold reset of the main die: what the always-on domain, the Paddock and the fuses hold stays (R709, R710). -/
def State.coldReset (s : State) : State :=
  { State.reset with
    pending := s.pending, raw := s.raw, regs := s.regs.filter (fun p => alwaysOn p.1),
    heath := { s.heath with entry := none, entryWake := none, exiting := false }, pdk := s.pdk, svnMin := s.svnMin, boots := s.boots,
    out := s.out, freeCtr := s.freeCtr, pwrGood := s.pwrGood }

/-- The device after a warm reset (R710, R711): as a cold one, but for the raw counter, frame memory with its poison and keys, MEM_REMAP and MEM_TESTED,
and the PCIe domain unless PERST_N is low too (R714). -/
def State.warmReset (s : State) (perst : Bool) (cause : Nat) : State :=
  let c := s.coldReset
  let keep := fun k => alwaysOn k || (pcieKey k && !perst)
  let c : State := { c with
    regs := s.regs.filter (fun p => keep p.1), mem := s.mem.filter (fun p => inHbm p.1), poison := s.poison, encTags := s.encTags,
    hcrs := if perst then [] else s.hcrs, msixTable := if perst then [] else s.msixTable, lostCmds := if perst then [] else s.lostCmds }
  let c := ((c.setReg K.MEM_REMAP (s.reg K.MEM_REMAP)).setFlag R.GCTL_BOOT_STATUS_MEM_TESTED (s.flag R.GCTL_BOOT_STATUS_MEM_TESTED)).set
    R.GCTL_RESET_CAUSE_CAUSE cause
  (c.set R.HTH_PS_STATUS_STATE 0).setFlag R.HTH_PS_STATUS_INGEST_HELD false

/-! ### The boot flow (R715 to R718, R723, R724) -/

/-- First byte of the staging region in the shared buffer SRAM (R717 step 3). -/
def staging : Nat := 0x4003C00000

/-- SVN_MIN (R720). -/
def State.svnFloor (s : State) : Nat := max s.svnMin Config.fusedSvnMin.toNat

/-- The checks of R718. -/
def State.imageOk (s : State) (img : List (BitVec 8)) : Bool :=
  let len := num img 8 4
  let o := len - 200
  let key := num img 6 2
  let x := keyNat ((img.drop (o + 8)).take 48)
  let y := keyNat ((img.drop (o + 56)).take 48)
  decide (img.length = len) && decide (264 ≤ len) && decide (len ≤ 4194304) && decide (num img 0 4 = 0x57465A41) && decide (num img 4 2 = 0x0100) &&
  decide (num img 0x10 4 % 4 = 0) && decide (num img 0x10 4 < len) &&
  decide (s.svnFloor ≤ num img 0x0C 4) && decide (num img 0x0C 4 ≤ 65535) &&
  decide (num img o 4 = 0x47535A41) && decide (num img (o + 4) 2 = 0x0100) && decide (num img (o + 6) 2 = key) &&
  (if h : key < 4 then Config.keyFused ⟨key, h⟩ && !bitAt Config.fusedRevoked.toNat key &&
      decide (sha384 ((img.drop (o + 8)).take 96) = Config.fusedKeyDigest ⟨key, h⟩)
    else false) &&
  ecdsaVerify (BitVec.ofNat 384 x) (BitVec.ofNat 384 y) (sha384 (img.take o)) (BitVec.ofNat 384 (keyNat ((img.drop (o + 104)).take 48)))
    (BitVec.ofNat 384 (keyNat ((img.drop (o + 152)).take 48)))

/-- Whether the flash directory is valid (R715). -/
def dirOk (flash : List (BitVec 8)) : Bool :=
  decide (num flash 0 4 = 0x42465A41) && decide (num flash 4 2 = 0x0100) && decide (num flash 28 4 = crcTag (flash.take 28))

/-- The image of slot A (0) or B (1) in flash: as many bytes as its header says, at most 4 MB. -/
def slotImage (flash : List (BitVec 8)) (slot : Nat) : List (BitVec 8) :=
  let b := flash.drop (num flash (8 + 4 * slot) 4)
  b.take (min (num b 8 4) 4194304)

/-- An error of the memory test is logged as R536 says (R723). -/
def State.testError (s : State) (e : TestError) : State :=
  if e.spare then
    let f := s.free
    s.took.ue (f.toNat % 2 ^ 48) 3 2 e.syndrome
  else
    let p := s.place e.addr.toNat
    s.ue e.addr.toNat p.stack p.rank e.syndrome

/-- Steps 6 to 8: frame memory is trained and, unless it has been tested, tested (R717, R723, R724). -/
def State.bootMemory (s : State) (errors : List TestError) : State :=
  let s := (s.setFlag R.MEM_CTRL_ENABLE true).set R.MEM_CTRL_MODE 0
  if s.flag R.GCTL_BOOT_STATUS_MEM_TESTED then (s.set R.MEM_CTRL_MODE 1).set R.GCTL_BOOT_STATUS_STAGE 2
  else
    let s := errors.foldl State.testError s
    if errors = [] then
      ((s.setFlag R.GCTL_BOOT_STATUS_MEM_TESTED true).set R.MEM_CTRL_MODE 1).set R.GCTL_BOOT_STATUS_STAGE 2
    else s.set R.GCTL_BOOT_STATUS_STAGE 4

/-- Steps 5 to 8 with an accepted image in the staging region: `source` as SEC_STATUS codes it (R717, R720). -/
def State.bootFirmware (s : State) (img : List (BitVec 8)) (source : Nat) (errors : List TestError) : State :=
  let s := (s.set R.GCTL_BOOT_STATUS_STAGE 1).setFlag R.GCTL_BOOT_STATUS_SLOT_B (decide (source = 1))
  let s := ((s.set R.SEC_STATUS_SOURCE source).set R.SEC_STATUS_KEY (num img 6 2)).set R.SEC_STATUS_RUN_SVN (num img 0x0C 4)
  (s.restartCores (staging + num img 0x10 4)).bootMemory errors

/-- The boot flow (R717, R718): slot A, or slot B with BOOT_FALLBACK, or RECOVERY. -/
def State.boot (s : State) (b : BootIn) : State :=
  let s := { s with bootPending := false, boots := s.boots + 1 }
  if !b.pll then s.set R.GCTL_BOOT_STATUS_STAGE 5
  else
    let imgA := slotImage b.flash 0
    let imgB := slotImage b.flash 1
    if dirOk b.flash ∧ s.imageOk imgA then (s.setBytes staging imgA).bootFirmware imgA 0 b.errors
    else if dirOk b.flash ∧ s.imageOk imgB then
      ((s.setBytes staging imgB).bootFirmware imgB 1 b.errors).report 436 0
    else s.set R.GCTL_BOOT_STATUS_STAGE 3

/-- The report of a trip at the first boot after it (18_heath_ageing.md R676). -/
def State.reportTrip (s : State) : State :=
  if s.heath.tripReport then { s with heath := { s.heath with tripReport := false } }.report 13 0 else s

/-- PWR_GOOD_RISE: the main die leaves cold reset, the raw counter starts from HTH_AON_NS, and the boot flow runs. In PS3 it does so only after a wake
(R656, R666, R709, R717). -/
def execPwrGoodRise (b : BootIn) (s : State) : Out :=
  .next (
    if (s.pwrGood = false ∨ s.bootPending ∨ s.ps = 3) ∧ (s.ps ≠ 3 ∨ s.heath.wakeOut) then
      let s : State := { s.coldReset with pwrGood := true, raw := s.get R.HTH_AON_NS_NS }
      let s := (s.set R.HTH_PS_STATUS_STATE 0).setFlag R.HTH_PS_STATUS_INGEST_HELD false
      (s.boot b).reportTrip
    else { s with pwrGood := true })

/-- PWR_GOOD_FALL: the whole main die enters cold reset (R709). -/
def execPwrGoodFall (s : State) : Out := .next (if s.pwrGood then { s.coldReset with pwrGood := false } else s)

/-- PERST_N low resets the PCIe domain: DMA is withdrawn, rings and windows are disabled (R712, R713). -/
def State.pcieReset (s : State) : State :=
  let s := (List.range 64).foldl (fun s c => s.dmaAbort c) s
  let s : State := { s with
    lostCmds := s.lostCmds ++ s.hcrs.flatMap (fun p => p.2.cmds), hcrs := [], msixTable := [], pci := {}, regs := s.regs.filter (fun p => !pcieKey p.1) }
  s.set R.GCTL_RESET_CAUSE_CAUSE 3

/-- A warm reset, and the boot flow again; WARM_RESET is raised once the Sieve runs, which needs its clock (R711, R713, R714, R727). A halted device
takes only the reset of its PCIe domain. -/
def State.warmBoot (s : State) (perst : Bool) (cause : Nat) (b : BootIn) : State :=
  if s.halted then if perst then s.pcieReset else s
  else
    let s := (s.warmReset perst cause).boot b
    if b.pll then s.report 1 0 else s

/-- SYS_RST: SYS_RST_N has been low for 1 µs, with PERST_N low or not (R711, R713, R714). -/
def execSysRst (perst : Bool) (b : BootIn) (now : Nat) (s : State) : Out := .next (if s.up then (s.advance now).warmBoot perst 1 b else s)

/-- GCTL_RESET_CORE: a write of GCTL_RESET.CORE (R711, R713). -/
def execGctlResetCore (b : BootIn) (now : Nat) (s : State) : Out := .next (if s.up then (s.advance now).warmBoot false 2 b else s)

/-- PERST: PERST_N is low (R712, R713). -/
def execPerst (s : State) : Out := whenUp s State.pcieReset

/-- PERST_RELEASE: the link trains again; commands that were in progress complete internally, and their records are counted as lost (R712). -/
def execPerstRelease (width : BitVec 4) (speed : BitVec 3) (s : State) : Out :=
  whenUp s (fun s =>
    if s.flag R.PCI_LINK_STATUS_LINK_UP then s
    else
      let l := s.lostCmds
      let s := { s with lostCmds := [] }
      let s := l.foldl (fun s c => (if s.firmware then (hostEffect c s).1 else s).incSat R.GCTL_BOOT_STATUS_CQ_LOST) s
      ((s.set R.PCI_LINK_STATUS_WIDTH width.toNat).set R.PCI_LINK_STATUS_SPEED speed.toNat).setFlag R.PCI_LINK_STATUS_LINK_UP true)

/-- AON_POWER_UP: VDD_AON comes up, and the Heath island starts from zero (18_heath_ageing.md R666, R667, R710). -/
def execAonPowerUp (s : State) : Out :=
  .next (({ s with regs := s.regs.filter (fun p => !alwaysOn p.1), heath := {} } : State).setFlag R.HTH_PS_STATUS_AON_LOST true)

/-! ### Recovery, SVN, debug, recipe keys (R719 to R722, R725, R726) -/

/-- A write of SEC_RECOVERY with GO (R719). -/
def State.recover (s : State) (len : Nat) (errors : List TestError) : State :=
  if len = 0 ∨ 4194304 < len ∨ s.get R.GCTL_BOOT_STATUS_STAGE ≠ 3 then s
  else
    let img := s.bytes staging len
    if s.imageOk img then s.bootFirmware img 2 errors else s.setFlag R.SEC_STATUS_ERR true

/-- RECOVERY_GO: the image's length, and what the memory test of the boot that follows finds. -/
def execRecoveryGo (len : BitVec 23) (errors : List TestError) (s : State) : Out :=
  whenWr s (fun s => (s.set R.SEC_RECOVERY_LENGTH len.toNat).recover len.toNat errors)

/-- A write of SEC_POLICY.SVN_BURN (R720, R721, R726). -/
def State.svnBurn (s : State) : State :=
  if s.flag R.SEC_POLICY_LOCK ∨ s.flag R.SEC_STATUS_BURNING ∨ s.get R.SEC_STATUS_RUN_SVN ≤ s.svnFloor then s
  else s.setFlag R.SEC_STATUS_BURNING true

/-- SVN_BURN. -/
def execSvnBurn (s : State) : Out := whenWr s State.svnBurn

/-- SVN_BURN_DONE: SVN_MIN is the running image's SVN (R720). -/
def execSvnBurnDone (s : State) : Out :=
  whenUp s (fun s =>
    if s.flag R.SEC_STATUS_BURNING then { s.setFlag R.SEC_STATUS_BURNING false with svnMin := s.get R.SEC_STATUS_RUN_SVN } else s)

/-- A response written to SEC_DEBUG: the signature that answers the challenge opens debug, once (R722). -/
def State.debugAnswer (s : State) (r : List (BitVec 8)) : State :=
  if Config.debugVerify s.boots r ∧ !s.flag R.SEC_STATUS_DEBUG then (s.setFlag R.SEC_STATUS_DEBUG true).report 437 0 else s

/-- DEBUG_RESPONSE. -/
def execDebugResponse (r : List (BitVec 8)) (s : State) : Out := whenWr s (fun s => s.debugAnswer r)

/-- The bytes written to a key slot. -/
def State.keyWords (s : State) (k : Nat) : List (BitVec 8) := (List.range 24).flatMap (fun i => leBytes 4 (s.get (R.SEC_RCP_KEY_WORD k i)))

/-- A write of SEC_RCP_KEY_CFG.LOAD (R725, R726, R728). -/
def State.keyLoad (s : State) (k : Nat) : State :=
  if s.flag R.SEC_POLICY_LOCK then s
  else
    let x := keyNat ((s.keyWords k).take 48)
    let y := keyNat ((s.keyWords k).drop 48)
    if onCurve (BitVec.ofNat 384 x) (BitVec.ofNat 384 y) then
      { s with rcpKeys := tput s.rcpKeys k (x, y) }.setFlag (R.SEC_RCP_KEY_CFG_VALID k) true
    else { s with rcpKeys := tdel s.rcpKeys k }.setFlag (R.SEC_RCP_KEY_CFG_VALID k) false

/-- RECIPE_KEY_LOAD. -/
def execRecipeKeyLoad (k : Fin 16) (s : State) : Out := whenWr s (fun s => s.keyLoad k)

/-- POLICY_LOCK: later writes to SEC_POLICY and the key slots are discarded until the next core reset (R726). -/
def execPolicyLock (s : State) : Out := whenWr s (fun s => s.setFlag R.SEC_POLICY_LOCK true)

end Sys2Proof.Machine
end

