-- ==== Sys2Proof/Machine/Views.lean ====
section
/-! DEFINITION. What a read of a register returns: the Device Layout Table, and the registers whose value follows other state
(00_scope.md R6 to R11, 02_layout_table.md R52 to R57). -/

namespace Sys2Proof.Machine

/-! ### Instances of a register -/

/-! ### The Device Layout Table (R51 to R57) -/

/-- Type ID, base, instances, extent and first Sieve source of each block, in the order of R51 and R625 (0xFFFF: none). -/
def blocks : List (Nat × Nat × Nat × Nat × Nat) :=
  [(0x01, 0x0, 1, 0x10000, 0xFFFF), (0x02, 0x10000, 1, 0x10000, 0), (0x03, 0x20000, 1, 0x20000, 8), (0x04, 0x40000, 1, 0x10000, 10),
   (0x05, 0x50000, 1, 0x10000, 446), (0x06, 0x60000, 1, 0x10000, 18), (0x07, 0x80000, 1, 0x40000, 23), (0x08, 0xC0000, 1, 0x40000, 24),
   (0x09, 0x100000, 1, 0x100000, 28), (0x0A, 0x200000, 64, 0x4000, 30), (0x0B, 0x300000, 4, 0x40000, 94)] ++
  [(0x0C, 0x400000, 1, 0x200000, 110), (0x0D, 0x600000, 1, 0x100000, 126), (0x0E, 0x700000, 1, 0x100000, 0xFFFF),
   (0x0F, 0x800000, 1, 0x80000, 130), (0x10, 0x880000, 1, 0x80000, 132), (0x11, 0x900000, 128, 0x2000, 134),
   (0x12, 0xB00000, 1, 0x100000, 406), (0x13, 0xC00000, 1, 0x80000, 407), (0x14, 0xC80000, 1, 0x80000, 409)] ++
  [(0x15, 0xD00000, 1, 0x100000, 410), (0x16, 0xE00000, 3, 0x40000, 411), (0x17, 0xF00000, 1, 0x10000, 426),
   (0x18, 0xF10000, 1, 0x10000, 432), (0x19, 0xF20000, 1, 0x10000, 436), (0x1A, 0xF30000, 1, 0x10000, 438), (0x1B, 0xA00000, 16, 0x1000, 390)]

/-- FIRST_MSIX of a block (R56; only two blocks have vectors; log 6). -/
def firstMsix (typeId : Nat) : Nat :=
  if typeId = 3 then Config.firstMsixSieve % 65536 else if typeId = 7 then Config.firstMsixPcie % 65536 else 0xFFFF

/-- An entry of the table (R56). -/
def layoutEntry (b : Nat × Nat × Nat × Nat × Nat) : List (BitVec 8) :=
  leBytes 2 b.1 ++ leBytes 2 b.2.2.1 ++ leBytes 2 (Config.blockVersion b.1).toNat ++ leBytes 2 0 ++ leBytes 4 b.2.1 ++ leBytes 4 b.2.2.2.1 ++
    leBytes 4 b.2.2.2.1 ++ leBytes 2 (firstMsix b.1) ++ leBytes 2 b.2.2.2.2 ++ leBytes 8 0

/-- The header without its CRC (R53). -/
def layoutHead : List (BitVec 8) :=
  leBytes 4 0x4C445A41 ++ leBytes 2 0x0100 ++ leBytes 2 32 ++ leBytes 4 896 ++ leBytes 2 27 ++ leBytes 2 32 ++ leBytes 2 0x4101 ++ leBytes 2 256 ++
    leBytes 4 0x1000000 ++ leBytes 4 0x30000

/-- The whole table, with the CRC of R54 over it. -/
def layoutTable : List (BitVec 8) :=
  let rest := blocks.flatMap layoutEntry
  layoutHead ++ leBytes 4 (crcTag (layoutHead ++ leBytes 4 0 ++ rest)) ++ rest

/-! ### Registers that follow other state -/

/-- A signed value as the low n bits show it. -/
def low64 (x : Int) : Nat := ofSigned x 64

/-- Code of a thread state (R82). -/
def stCode : ThState → Nat
  | .idle => 0
  | .runnable => 1
  | .waiting => 2
  | .blocked => 3
  | .trapped => 4

/-- Code of the state that a thread shows: a divide in progress blocks it (R82). -/
def State.stShown (s : State) (t : Nat) : Nat :=
  let st := (s.thr t).st
  stCode (if st = .runnable ∧ seqCycle s.raw < (s.turn t).div then .blocked else st)

/-- CTX_RECIPE_STATUS but for TRAP_COUNT: of the bound thread (03_morop.md). -/
def State.recipeStatus (s : State) (ch : Nat) : Nat :=
  match s.boundThread ch with
  | some t =>
    let th := s.thr t
    s.stShown t + (if th.st = .trapped ∧ s.running ch then 8 else 0) + th.cause % 256 * 256
  | none => 0

/-- The level at ball GPb as far as the device drives it (22_package.md R733, 12_timebase.md R515). -/
def State.ballLevel (s : State) (b : Nat) : Option Bool :=
  match s.ballOwner b with
  | none => none
  | some o =>
    if o = K.GCTL_GPIO_EN then (if bitAt (s.get R.GCTL_GPIO_OE_OE) b then some (bitAt (s.get R.GCTL_GPIO_OUT_OUT) b) else none)
    else if o = K.HLT_CTRL then some (bitAt (s.get R.HLT_STATUS_VID) b)
    else match idx1 K.TB_PG_CTRL 8 o with
      | some g => some (s.flag (R.TB_PG_STATUS_OUTPUT g))
      | none => none

/-- GCTL_GPIO_IN: the balls that the device drives show their level; the level at any other ball comes from the board and is free (log 3). -/
def State.gpioIn (s : State) : Nat :=
  (List.range 16).foldl (fun n b => n + (if (s.ballLevel b).getD (bitAt s.free.toNat b) then 2 ^ b else 0)) 0

/-- IMG_AGE of a STANDBY group: frame periods from the SNAP of its newest valid image to now, saturating (16_redundancy.md R624; log 48). -/
def State.imageAge (s : State) (g : Nat) : Nat :=
  match s.newestSlot g with
  | none => 0xFFFF
  | some (i, _) =>
    let x := s.grp g
    let p := s.period (s.get (R.CLB_GRP_CFG_CHANNEL g))
    let run := if p = 0 then 0 else (s.raw - x.snapAt) * 2 ^ 32 / p
    min 0xFFFF (x.snap + run - s.dRd (s.slotBase g i + 16) 8)

/-- Whether a group of this unit is in STANDBY role. -/
def State.isStandby (s : State) (g : Nat) : Bool := s.flag (R.CLB_GRP_CFG_ENABLE g) && decide (s.get (R.CLB_GRP_STATUS_ROLE g) = 2)

/-- Word i of bytes. -/
def wordOf (l : List (BitVec 8)) (i : Nat) : Nat := leNat ((l.drop (4 * i)).take 4)

/-- Registers of the low blocks that follow other state: Global control, the Sieve's ring, the Paddock mailbox and the timebase. -/
def State.viewLow (s : State) (k : Nat) : Option Nat :=
  if k = K.GCTL_GPIO_IN then some s.gpioIn
  else if k = K.TB_RAW then some s.raw
  else if k = K.TB_LOCAL then some (low64 s.now)
  else if k = K.PDK_SEAL_COUNT then some s.pdk.sealCount
  else if k = K.PDK_LAST_RECNO then some s.pdk.recno
  else if k = K.PDK_MB_STATUS then
    some ((s.reg k).toNat % 16 + (if s.pdk.tamper then 16 else 0) + (if s.pdk.full then 32 else 0))
  else match idx2 K.SIEVE_RING 512 4 k with
    | some (i, j) => some ((s.recAt i).elim 0 (fun r => r.words.getD j 0))
    | none => match idx1 K.PDK_CLASS_LIMIT 7 k with
      | some i => some (s.pdk.limits.getD i 0)
      | none => match idx1 K.PDK_FW_VERSION 4 k with
        | some i => some (wordOf ((List.range 16).map (fun j => Config.paddockVersion (Fin.ofNat 16 j))) i)
        | none => (idx1 K.PDK_FW_CHECKSUM 12 k).map (wordOf (keyBytes 48 s.pdk.checksum.toNat))

/-- Registers of a sequencer that follow its threads (03_morop.md R135, R136). -/
def State.viewSeq (s : State) (k : Nat) : Option Nat :=
  let n := (k - 0x200000) / 0x4000
  let i := (k - 0x200000) % 0x4000
  let t := 4 * n + i / 256 % 4
  let th := s.thr t
  if i = 4 then
    some ((s.reg k).toNat / 4096 % 2 * 4096 + (List.range 4).foldl (fun a j => a + s.stShown (4 * n + j) * 2 ^ (3 * j)) 0)
  else if i = 0x18 then some (s.seqData n)
  else if 0x1000 ≤ i ∧ i < 0x1400 then
    match i % 256 with
    | 0x04 => some (s.stShown t + th.cause % 256 * 256 + (if th.ven then 65536 else 0))
    | 0x10 => some (th.pc % 2 ^ 32)
    | 0x18 => some (th.tpc % 2 ^ 32)
    | 0x20 => some th.tval.toNat
    | 0x50 => some th.epend.toNat
    | _ => none
  else (idx2 (K.SEQ_TH_GREG n) 4 32 k).map (fun q =>
    let th := s.thr (4 * n + q.1)
    if th.st = .idle ∨ th.st = .trapped then (th.rg q.2).toNat else 0)

/-- Registers of the dispatcher and the media blocks that follow other state: those of a MAC that its quad's mode does not use read as after reset, and a
Flow Table word shows its fields (05_ingest.md R194, R219, R220). -/
def State.viewMid (s : State) (k : Nat) : Option Nat :=
  if k = K.DSP_TICK then some (s.tickPend.getD (s.get R.DSP_TICK_PERIOD_NS))
  else match idx1 K.DSP_MPC_PENDING 4 k with
    | some i => some (s.mpcCount i)
    | none =>
      if 0x401000 ≤ k ∧ k < 0x402000 then (if s.macActive ((k - 0x401000) / 0x100) then none else some (resetOf k).toNat)
      else if 0x700000 ≤ k ∧ k < 0x800000 then some (s.ft ((k - 0x700000) / 32) ((k - 0x700000) / 4 % 8))
      else (idx1 K.PRF_CH_HIST 256 k).map (fun ch => (s.reg k).toNat / 2 ^ 18 * 2 ^ 18 + s.histSlotUnits ch % 2 ^ 18)

/-- Registers of the Claim Bus, health, security and audit blocks that follow other state. -/
def State.viewHigh (s : State) (k : Nat) : Option Nat :=
  if k = K.HLT_VMIN then some Config.fusedVmin.toNat
  else if k = K.SEC_FUSE then
    some (s.svnFloor + Config.fusedRevoked.toNat * 2 ^ 16 + (if Config.fusedRecipeSigned then 2 ^ 20 else 0))
  else if k = K.CONS_SNAP_LEN then some (snapLen (s.get R.CONS_SNAP_CTRL_SCOPE))
  else match idx1 K.SEC_DEBUG 16 k with
    | some i => some (Config.debugChallenge s.boots i).toNat
    | none => match idx2 K.CONS_ENG 128 4 k with
      | some (e, i) => some (s.engNs e i)
      | none => match idx2 K.CONS_CH 256 4 k with
        | some (c, i) => if i = 3 then some (s.chNs c) else none
        | none => match idx2 K.CONS_SB 512 2 k with
          | some (b, i) => if i = 0 then some (s.sbPending b) else some (s.sb b).discarded
          | none => match idx1 K.CLB_GRP_STATUS 64 k with
            | some g => if s.isStandby g then some ((s.reg k).toNat % 2 ^ 16 + s.imageAge g * 2 ^ 16) else none
            | none => match idx1 K.CLB_GRP_IMG_SEQ 64 k with
              | some g => if s.isStandby g then some ((s.newestSlot g).elim 0 (·.2)) else none
              | none => none

/-- The current value of a register: what its home holds, unless it follows other state. -/
def State.view (s : State) (k : Nat) : Nat :=
  let v := if k < 0x80000 then s.viewLow k
    else if k < 0x100000 then none
    else if k < 0x200000 then s.viewMid k
    else if k < 0x300000 then s.viewSeq k
    else if k < 0x900000 then s.viewMid k
    else if k < 0xF00000 then none
    else if k < 0x1000000 then s.viewHigh k
    else (idx1 K.CTX_RECIPE_STATUS 256 k).map (fun ch => s.get (R.CTX_RECIPE_STATUS_TRAP_COUNT ch) * 2 ^ 16 + s.recipeStatus ch)
  v.getD (s.reg k).toNat

/-- The bits of a register's fields with some access codes. -/
def RegRow.mask (r : RegRow) (p : Acc → Bool) : Nat :=
  r.fields.foldl (fun m f => if p f.acc then m + (2 ^ f.w - 1) * 2 ^ f.lo else m) 0

/-- What a read of a register shows: a WO field reads 0, and so does a reserved bit (R6, R10). -/
def State.shows (s : State) (r : RegRow) (k : Nat) : Nat := s.view k &&& r.mask (fun a => a ≠ .wo)

end Sys2Proof.Machine
end

