-- ==== Sys2Proof/Machine/Writes.lean ====
section
/-! DEFINITION. What a write of a register does beyond keeping its value: the ranges, enables, claims and commands of the register tables of every
chapter. In each function `k` is the register's key and `n` the value that the access codes give it (00_scope.md R6, R19). A write with a value outside a
field's range is discarded whole (log 47). -/

namespace Sys2Proof.Machine

/-! ### Shared pieces -/

/-- A field of a word. -/
def fieldOf (n : Word) (f : Field) : Nat := bitsOf n f.lo f.w

/-- The word with a field as the register still holds it. -/
def State.keep (s : State) (n : Word) (f : Field) : Word := withBits n f.lo f.w (s.get f)

/-- The word, or the register's own where a field's new value breaks the field's range: the write is discarded (R19). -/
def State.ranged (s : State) (n : Word) (f : Field) (ok : Nat → Bool) : Word := if ok (fieldOf n f) then n else s.reg f.key

/-- The word with a field cleared. -/
def without (n : Word) (f : Field) : Word := withBits n f.lo f.w 0

/-- Whether a one-bit field goes from 0 to 1, and from 1 to 0. -/
def State.rises (s : State) (n : Word) (f : Field) : Bool := !s.flag f && decide (fieldOf n f = 1)
def State.falls (s : State) (n : Word) (f : Field) : Bool := s.flag f && decide (fieldOf n f = 0)

/-- A register that is accepted only while `free` holds. -/
def State.keepUnless (s : State) (free : Bool) (k : Nat) (n : Word) : State := if free then s.setReg k n else s

/-- Whether n bytes from `a` lie in the HBM media-service region (R45). -/
def inMedia (a n : Nat) : Bool := decide (a + n ≤ 0x2000000000)

/-! ### Global control (21_startup.md R728, 22_package.md R732, R733) -/

/-- One bit of GCTL_GPIO_EN: the ball is claimed, released or refused (R71 to R75). -/
def State.gpioBit (s : State) (on : Bool) (b : Nat) : State :=
  let en := s.get R.GCTL_GPIO_EN_EN
  let st := s.get R.GCTL_GPIO_STATE_STATE
  let put := fun (s : State) (v : Nat) => s.set R.GCTL_GPIO_STATE_STATE (st - st / 4 ^ b % 4 * 4 ^ b + v * 4 ^ b)
  if on then
    if bitAt en b then s
    else s.claim K.GCTL_GPIO_EN (s.ballOwners b) (fun s => put s 2) (fun s => (put s 1).set R.GCTL_GPIO_EN_EN (en + 2 ^ b))
  else (put s 0).set R.GCTL_GPIO_EN_EN (if bitAt en b then en - 2 ^ b else en)

/-- Global control. -/
def State.writeGctl (s : State) (x : AccessIn) (k : Nat) (n : Word) : State :=
  if k = K.GCTL_RESET then (if bitAt n.toNat 0 then s.warmBoot false 2 x.boot else s)
  else if k = K.GCTL_GPIO_EN then (List.range 16).foldl (fun s b => s.gpioBit (bitAt n.toNat b) b) s
  else s.setReg k n

/-! ### The Sieve (17_sieve.md R630, R650) -/

/-- The Sieve. -/
def State.writeSieve (s : State) (k : Nat) (n : Word) : State :=
  let locked := s.flag R.SIEVE_CTRL_LOCK
  if k = K.SIEVE_CTRL then
    s.setReg k (if locked then s.keep (s.keep n R.SIEVE_CTRL_LOCK) R.SIEVE_CTRL_WINDOW_US
      else s.ranged n R.SIEVE_CTRL_WINDOW_US (fun v => decide (1 ≤ v ∧ v ≤ 1000)))
  else if k = K.SIEVE_ACK then (s.setReg k n).sieveAck n.toNat
  else if k = K.SIEVE_RESTORE then (s.setReg k n).sieveRestore n.toNat
  else if k = K.SIEVE_INJECT then (s.setReg k n).sieveInject (fieldOf n R.SIEVE_INJECT_SOURCE) (fieldOf n R.SIEVE_INJECT_SUSPECT)
  else if k = K.SIEVE_RING_HEAD then s.sieveHead n.toNat
  else if (idx1 K.SIEVE_CLASS_CFG 64 k).isSome then s.keepUnless (!locked) k n
  else if (idx1 K.SIEVE_SRC_CFG 768 k).isSome then (if locked then s else s.setTimed slowCycles k n)
  else s.setReg k n

/-! ### The Heath island (18_heath_ageing.md R677) -/

/-- The Heath island. -/
def State.writeHeath (s : State) (k : Nat) (n : Word) : State :=
  if k = K.HTH_PS_CTRL then
    (s.setReg k (without n R.HTH_PS_CTRL_REQ)).psCtrl (fieldOf n R.HTH_PS_CTRL_TARGET) (decide (fieldOf n R.HTH_PS_CTRL_REQ = 1))
  else if k = K.HTH_WDOG then
    let n := s.ranged n R.HTH_WDOG_TIMEOUT_MS (fun v => decide (v ≠ 0))
    let s' := s.setReg k n
    if s.rises n R.HTH_WDOG_EN then s'.wdogKick else s'
  else if k = K.HTH_WDOG_KICK then s.wdogKick
  else s.setReg k n

/-! ### The Paddock mailbox (19_paddock.md R686, R693) -/

/-- The Paddock mailbox. -/
def State.writePdk (s : State) (k : Nat) (n : Word) : State :=
  if k = K.PDK_MB_CMD then s.mbCommand (fieldOf n R.PDK_MB_CMD_OP) (fieldOf n R.PDK_MB_CMD_ARG)
  else match idx1 K.PDK_PROG_CFG 16 k with
    | some i =>
      if s.flag (R.PDK_PROG_CFG_ENABLE i) then (if bitAt n.toNat 0 then s else s.setFlag (R.PDK_PROG_CFG_ENABLE i) false)
      else
        let s := s.setReg k n
        if bitAt n.toNat 0 then s.progStart i else s
    | none => s.setReg k n

/-! ### The timebase (12_timebase.md R513, R515, R518) -/

/-- Claim or release the user of generator g for its pin (R515, R72). DESIGN CHOICE (log 105): a write of PIN while PIN_EN stays 1 is discarded, so that the
claim keeps the ball that it was granted. -/
def State.pinClaim (s : State) (g : Nat) (n : Word) : State :=
  let pin := fieldOf n (R.TB_PG_CTRL_PIN g)
  let en := R.TB_PG_CTRL_PIN_EN g
  if s.rises n en then
    let s := s.set (R.TB_PG_CTRL_PIN g) pin
    s.claim (K.TB_PG_CTRL g) (s.pgOwners g ++ s.ballOwners (12 + pin)) (fun s => s.set (R.TB_PG_STATUS_STATE g) 2)
      (fun s => (s.setFlag en true).set (R.TB_PG_STATUS_STATE g) 1)
  else if fieldOf n en = 1 then s
  else
    let mine := s.flag en || decide (s.get (R.TB_PG_STATUS_STATE g) = 2)
    let s := (s.setFlag en false).set (R.TB_PG_CTRL_PIN g) pin
    if mine then s.set (R.TB_PG_STATUS_STATE g) 0 else s

/-- A write of TB_PG_CTRL. -/
def State.writePgCtrl (s : State) (g : Nat) (n : Word) : State :=
  let en := R.TB_PG_CTRL_ENABLE g
  let s' := if s.flag en then s else s.set (R.TB_PG_CTRL_PERIODIC g) (fieldOf n (R.TB_PG_CTRL_PERIODIC g))
  let s' := s'.pinClaim g n
  if s.rises n en then s'.pgEnable g else if s.falls n en then s'.pgDisable g else s'

/-- A register of a pulse generator: fixed while the generator is enabled (R513). -/
def State.writePg (s : State) (g k : Nat) (n : Word) : State :=
  if k = K.TB_PG_CTRL g then s.writePgCtrl g n
  else if k = K.TB_PG_STATUS g then s.setReg k n
  else s.keepUnless (!s.flag (R.TB_PG_CTRL_ENABLE g)) k n

/-- The timebase. -/
def State.writeTb (s : State) (k : Nat) (n : Word) : State :=
  if k = K.TB_CTRL then
    let n := s.ranged n R.TB_CTRL_SOURCE (fun v => decide (v ≤ 4))
    let s := s.setReg k (without (without n R.TB_CTRL_NEW_EPOCH) R.TB_CTRL_SNAP)
    let s := if fieldOf n R.TB_CTRL_NEW_EPOCH = 1 then s.newEpoch else s
    if fieldOf n R.TB_CTRL_SNAP = 1 then s.tbSnap else s
  else if k = K.TB_RATE then s.writeRate n
  else if k = K.TB_STEP then (s.setReg k n).softStep n.toInt
  else if k = K.TB_SAMPLE_RAW then (s.setReg k n).sample 0 (s.reg K.TB_SAMPLE_MASTER).toNat n.toNat
  else if k = K.TB_GM_ID then s.writeGmId n
  else if k = K.TB_THRESH then
    s.setReg k (s.ranged (s.ranged n R.TB_THRESH_BACK_THRESH_US (fun v => decide (v ≠ 0))) R.TB_THRESH_HOLD_MS (fun v => decide (v ≠ 0)))
  else if K.TB_PG_CTRL 0 ≤ k ∧ k < K.TB_PG_CTRL 8 then s.writePg ((k - K.TB_PG_CTRL 0) / 64) k n
  else s.setReg k n

/-! ### PCIe and DMA (14_host_dma.md R567) -/

/-- Setting DMA_BUF_BASE.ENABLE claims the staging buffer (R563, R71 to R75). DESIGN CHOICE (log 105): an enable whose region does not lie in the shared
buffer SRAM is refused under R20 with STATE IDLE and no notice. -/
def State.writeDmaBuf (s : State) (n : Word) : State :=
  if s.flag R.DMA_BUF_BASE_ENABLE then
    if fieldOf n R.DMA_BUF_BASE_ENABLE = 1 then s else (s.setFlag R.DMA_BUF_BASE_ENABLE false).set R.DMA_BUF_BASE_STATE 0
  else
    let s := (s.set R.DMA_BUF_BASE_BASE (fieldOf n R.DMA_BUF_BASE_BASE)).set R.DMA_BUF_BASE_STATE 0
    let a := s.get R.DMA_BUF_BASE_BASE * 0x400000
    if fieldOf n R.DMA_BUF_BASE_ENABLE = 0 ∨ !inSram a 0x400000 then s
    else s.claim K.DMA_BUF_BASE (s.regionOwners a 0x400000) (fun s => s.set R.DMA_BUF_BASE_STATE 2)
      (fun s => (s.setFlag R.DMA_BUF_BASE_ENABLE true).set R.DMA_BUF_BASE_STATE 1)

/-- A register of a host command ring. -/
def State.writeHcr (s : State) (r k : Nat) (n : Word) : State :=
  let on := s.flag (R.HCR_CFG_ENABLE r)
  if k = K.HCR_CFG r then
    s.setReg k (if on then s.keep n (R.HCR_CFG_SIZE r) else s.ranged n (R.HCR_CFG_SIZE r) (fun v => decide (2 ≤ v ∧ v ≤ 4096)))
  else if k = K.HCR_CQ_HEAD r then s.keepUnless (decide (n.toNat < s.hcrSize r)) k n
  else if k = K.HCR_STATUS r then s.setReg k n
  else s.keepUnless (!on) k n

/-- A register of a DMA channel. -/
def State.writeDma (s : State) (x : AccessIn) (c k : Nat) (n : Word) : State :=
  if k = K.DMA_CH_CTRL c then
    let s := if bitAt n.toNat 0 then s.dmaGo c x.host else s
    if bitAt n.toNat 1 then s.dmaAbort c else s
  else s.keepUnless (!s.flag (R.DMA_CH_STATUS_BUSY c)) k n

/-- PCIe and DMA. -/
def State.writePcie (s : State) (x : AccessIn) (k : Nat) (n : Word) : State :=
  if k = K.DMA_BUF_BASE then s.writeDmaBuf n
  else if (idx1 K.PCI_WIN_BASE 8 k).isSome then s.setTimed fabCycle k n
  else if K.HCR_SQ_BASE 0 ≤ k ∧ k < K.HCR_SQ_BASE 16 then s.writeHcr ((k - K.HCR_SQ_BASE 0) / 64) k n
  else if K.DMA_CH_LIST 0 ≤ k ∧ k < K.DMA_CH_LIST 64 then s.writeDma x ((k - K.DMA_CH_LIST 0) / 64) k n
  else s.setReg k n

/-! ### The dispatcher (04_dispatcher.md R154, R173, R175, R184, R192, R193) -/

/-- The dispatcher. -/
def State.writeDsp (s : State) (k : Nat) (n : Word) : State :=
  if k = K.DSP_TICK then s.writeTick n.toNat
  else if k = K.DSP_CANCEL then s.dspCancel n.toNat
  else if k = K.DSP_ADM_CMD then s.admCmd (fieldOf n R.DSP_ADM_CMD_CHANNEL) (fieldOf n R.DSP_ADM_CMD_OP)
  else if (idx1 K.DSP_GROUP_WEIGHT 32 k).isSome then s.keepUnless (decide (n ≠ 0)) k n
  else match idx1 K.DSP_CH_CFG 256 k with
    | some c => s.keepUnless (!s.running c) k n
    | none => s.setReg k n

/-! ### Channel sequencers (03_morop.md R135 to R138, R751) -/

/-- Channel sequencers. -/
def State.writeSeq (s : State) (k : Nat) (n : Word) : State :=
  let i := (k - 0x200000) / 0x4000
  let t := 4 * i + (k - 0x200000) % 0x4000 / 256 % 4
  if k = K.SEQ_CTRL i then
    let s' := s.setReg k n
    if s.falls n (R.SEQ_CTRL_ENABLE i) then (List.range 4).foldl (fun s j => s.idle (4 * i + j)) s' else s'
  else if k = K.SEQ_MEM_DATA i then s.seqDataWrite i n.toNat
  else if k = K.SEQ_TH_CTRL i (t % 4) then
    let f := fun (b : Nat) => bitAt n.toNat b
    (s.setReg k (BitVec.ofNat 64 (n.toNat / 8 * 8))).threadCtrl t (f 0) (f 1) (f 2)
  else if k = K.SEQ_TH_IMAP i (t % 4) then
    let n := s.ranged n (R.SEQ_TH_IMAP_BASE i (t % 4)) (fun v => decide (v % 4 = 0))
    s.keepUnless (decide ((s.thr t).st = .idle)) k (s.ranged n (R.SEQ_TH_IMAP_LEN i (t % 4)) (fun v => decide (v ≤ 32768)))
  else if k = K.SEQ_TH_DMAP i (t % 4) then
    let n := s.ranged n (R.SEQ_TH_DMAP_BASE i (t % 4)) (fun v => decide (v % 8 = 0))
    s.keepUnless (decide ((s.thr t).st = .idle)) k (s.ranged n (R.SEQ_TH_DMAP_LEN i (t % 4)) (fun v => decide (v ≤ 32768)))
  else match idx1 (K.SEQ_TH_VEC i (t % 4)) 16 k with
    | some v => s.setReg k (s.ranged n (R.SEQ_TH_VEC_ADDR i (t % 4) v) (fun a => decide (a % 4 = 0)))
    | none => s.setReg k n

/-! ### Frame memory (13_frame_memory.md R523, R531, R543, R546) -/

/-- Whether the enable of encryption region j is refused (R543). -/
def State.encRefused (s : State) (j : Nat) : Bool :=
  let a := s.get (R.MEM_ENC_BASE j)
  let b := s.get (R.MEM_ENC_LIMIT j)
  decide (b < a) || !inHbm b || !s.flag (R.MEM_ENC_CFG_KEYED j) ||
  (List.range 16).any (fun i => decide (i ≠ j) && s.flag (R.MEM_ENC_CFG_ENABLE i) && decide (s.get (R.MEM_ENC_BASE i) ≤ b) &&
    decide (a ≤ s.get (R.MEM_ENC_LIMIT i)))

/-- A write of MEM_ENC_CFG. -/
def State.writeEnc (s : State) (j : Nat) (on : Bool) : State :=
  let en := R.MEM_ENC_CFG_ENABLE j
  let st := R.MEM_ENC_CFG_STATE j
  if on then
    if s.flag en then s else if s.encRefused j then s.set st 2 else (s.setFlag en true).set st 1
  else
    let s := if s.flag en then { s with encWords := tset (fun _ => 0) s.encWords j 0 }.setFlag (R.MEM_ENC_CFG_KEYED j) false else s
    (s.setFlag en false).set st 0

/-- A key word of a region that is not enabled; the region is KEYED once all sixteen are written. -/
def State.writeEncKey (s : State) (j i k : Nat) (n : Word) : State :=
  if s.flag (R.MEM_ENC_CFG_ENABLE j) then s
  else
    let m := tget (fun _ => 0) s.encWords j
    let m := if bitAt m i then m else m + 2 ^ i
    ({ s with encWords := tset (fun _ => 0) s.encWords j m }.setReg k n).setFlag (R.MEM_ENC_CFG_KEYED j) (decide (m = 0xFFFF))

/-- Frame memory. -/
def State.writeMem (s : State) (k : Nat) (n : Word) : State :=
  let i := (k - 0x300000) / 0x40000
  if k = K.MEM_CTRL then s.setReg k (if s.get R.MEM_MIG_STATUS_STATE = 1 then s.keep n R.MEM_CTRL_MODE else n)
  else if k = K.MEM_INTLV then s.keepUnless (!s.flag R.MEM_CTRL_ENABLE && decide (8 ≤ n.toNat ∧ n.toNat ≤ 16)) k n
  else if k = K.MEM_REFRESH i then s.setReg k (s.ranged n (R.MEM_REFRESH_RATE i) (fun v => decide (v ≠ 3)))
  else if k = K.MEM_SCRUB i then s.setReg k (s.ranged n (R.MEM_SCRUB_HOURS i) (fun v => decide (v ≠ 0)))
  else match idx2 K.MEM_ENC_KEY 16 16 k with
    | some (j, w) => s.writeEncKey j w k n
    | none => match idx1 K.MEM_ENC_CFG 16 k with
      | some j => s.writeEnc j (bitAt n.toNat 0)
      | none =>
        if K.MEM_ENC_CFG 0 ≤ k ∧ k < K.MEM_ENC_CFG 16 then s.keepUnless (!s.flag (R.MEM_ENC_CFG_ENABLE ((k - K.MEM_ENC_CFG 0) / 128))) k n
        else s.setReg k n

/-! ### Media ports and ingest (05_ingest.md R195, R202, R212, R236 to R248, 10_audio.md R435) -/

/-- A quad changes its mode: its ports go down, and train again as those of the new mode (R194, R204). -/
def State.quadDown (s : State) (q mode : Nat) : State :=
  if mode = s.get (R.MP_QUAD_CFG_MODE q) then s else (List.range 4).foldl (fun s i => s.portDown (4 * q + i)) s

/-- Media ports and MACs. -/
def State.writeMedia (s : State) (k : Nat) (n : Word) : State :=
  match idx1 K.MP_QUAD_CFG 4 k with
  | some q =>
    if (List.range 4).all (fun i => !s.flag (R.MAC_CTRL_ENABLE (4 * q + i))) then (s.quadDown q (fieldOf n (R.MP_QUAD_CFG_MODE q))).setReg k n else s
  | none => match idx1 K.MP_LANE_EQ 16 k with
    | some l =>
      let f := R.MP_LANE_EQ_FORCE_CTLE l
      let s := s.setReg k (without n f)
      if fieldOf n f = 1 then (s.setFlag (R.MP_LANE_STATUS_DFE_ACTIVE l) false).setLane l { s.lane l with low := 0 } else s
    | none => s.setReg k n

/-- CHANNELS of every enabled audio flow, received and sent (R435). -/
def State.audioChannels (s : State) : Nat :=
  let rx := s.ingOn.filter (fun f => decide (s.get (R.ING_FLOW_KIND_KIND f) = 1) || decide (s.get (R.ING_FLOW_KIND_KIND f) = 2))
  let tx := s.egrOn.filter (fun f => decide (s.egKind f = 5) || decide (s.egKind f = 6))
  (rx ++ tx).foldl (fun n f => n + s.get (R.AUD_FLOW_MAP_CHANNELS f)) 0

/-- Whether the enable of an audio ingest flow exceeds its level or the total (R435). -/
def State.audioOver (s : State) (f : Nat) : Bool :=
  let c := s.get (R.AUD_FLOW_MAP_CHANNELS f)
  decide ((if s.flag (R.AUD_FLOW_MAP_RATE96 f) then 32 else 64) < c) || decide (4096 < s.audioChannels + c)

/-- Whether a flow's video is of a size that R228 accepts: of interlaced video HEIGHT is that of a field (R248; DEDUCED, log 125). -/
def State.videoFits (s : State) (f : Nat) : Bool :=
  let w := s.get (R.ING_FLOW_VIDEO_WIDTH f)
  let h := s.get (R.ING_FLOW_VIDEO_HEIGHT f) * (if s.flag (R.ING_FLOW_VIDEO_INTERLACED f) then 2 else 1)
  decide (64 ≤ w) && decide (w ≤ 7680) && decide (64 ≤ h) && decide (h ≤ if s.flag (R.ING_FLOW_VIDEO_INTERLACED f) then 1080 else 4320)

/-- An ingest flow's enable takes effect or is refused (R248, R435). -/
def State.ingEnable (s : State) (f : Nat) : State :=
  let kind := s.get (R.ING_FLOW_KIND_KIND f)
  let st := R.ING_FLOW_STATUS_STATE f
  if s.flag (R.EGR_FLOW_CTRL_ENABLE f) then s.set st 3
  else if 7 ≤ kind ∨ (kind = 0 ∧ !s.videoFits f) ∨ ((kind = 1 ∨ kind = 2) ∧ s.audioOver f) then s.set st 2
  else (s.setFlag (R.ING_FLOW_KEYCTL_ENABLE f) true).set st 1

/-- The video flow of a running channel is disabled: the channel keeps the size of its source frame (01_picture_journey.md R35). -/
def State.keepSize (s : State) (f : Nat) : State :=
  let ch := s.get (R.ING_FLOW_KIND_CHANNEL f)
  if s.videoFlow ch = some f ∧ s.running ch then s.setChan ch { s.chan ch with size := s.flowSize ch } else s

/-- A field of an ingest flow record, through a window (R247, R248). -/
def State.writeIngFlow (s : State) (f k : Nat) (n : Word) : State :=
  let en := R.ING_FLOW_KEYCTL_ENABLE f
  if k = K.ING_FLOW_KEYCTL f then
    if s.flag en then (if fieldOf n en = 1 then s else ((s.keepSize f).setFlag en false).set (R.ING_FLOW_STATUS_STATE f) 0)
    else
      let s := (s.setReg k (without n en)).set (R.ING_FLOW_STATUS_STATE f) 0
      if fieldOf n en = 1 then s.ingEnable f else s
  else if s.flag en then s
  else if k = K.ING_FLOW_KIND f then s.setReg k (s.ranged n (R.ING_FLOW_KIND_MAX_PKT f) (fun v => decide (v ≤ 9196)))
  else s.setReg k n

/-- Whether a pool's enable is refused (R238). -/
def State.poolBad (s : State) (c : Nat) : Bool :=
  let a := s.get (R.ING_POOL_BASE_BASE c)
  let size := s.get (R.ING_POOL_CFG_TOKEN_SIZE c)
  let n := s.get (R.ING_POOL_CFG_COUNT c)
  decide (a % 4096 ≠ 0) || (decide (n ≠ 0) && (decide (size = 0) || !inMedia a (n * size * 4096)))

/-- A write of ING_POOL_CFG (R238, R241). A token that a frame still holds is free once it returns. -/
def State.writePool (s : State) (c k : Nat) (n : Word) : State :=
  let en := R.ING_POOL_CFG_ENABLE c
  let st := R.ING_POOL_STATUS_STATE c
  if s.flag en then (if fieldOf n en = 1 then s else ((s.setFlag en false).set st 0).setPool c {})
  else
    let s := (s.setReg k (without n en)).set st 0
    if fieldOf n en = 0 then s
    else if s.poolBad c then s.set st 2
    else
      let used := (s.chan c).frames.filterMap (·.token)
      ((s.setFlag en true).set st 1).setPool c { free := (List.range (s.get (R.ING_POOL_CFG_COUNT c))).filter (fun i => !used.contains i) }

/-- A write of ING_PAIR_CFG (R234, R236): merging begins with no number seen. -/
def State.writePair (s : State) (p k : Nat) (n : Word) : State :=
  let n := s.ranged n (R.ING_PAIR_CFG_WINDOW p) (fun v => decide (256 ≤ v ∧ v ≤ 4096))
  (if s.rises n (R.ING_PAIR_CFG_ENABLE p) then s.setPair p { since := s.raw } else s).setReg k n

/-- A word of the Flow Table: writing an entry's word 0 ends an uncorrectable error (R244). -/
def State.writeFlowTable (s : State) (k : Nat) (n : Word) : State :=
  let i := (k - K.FLOW_TABLE 0) / 4
  let s := if i % 8 = 0 then { s with flowBad := s.flowBad.filter (fun e => decide (e ≠ i / 8)) } else s
  s.setReg k n

/-- Ingest. -/
def State.writeIng (s : State) (k : Nat) (n : Word) : State :=
  if k = K.ING_LOOKUP_CTRL then s.keepUnless (decide (popCount n.toNat 8 ≤ 4)) k n
  else if 0x700000 ≤ k then s.writeFlowTable k n
  else match idx1 K.ING_IND_SEL 4 k with
    | some w => s.ingSelect w n.toNat
    | none => match idx1 K.ING_POOL_CFG 256 k with
      | some c => s.writePool c k n
      | none => match idx1 K.ING_POOL_BASE 256 k with
        | some c => s.keepUnless (!s.flag (R.ING_POOL_CFG_ENABLE c)) k n
        | none => match idx1 K.ING_PAIR_CFG 2048 k with
          | some p => s.writePair p k n
          | none => s.setReg k n

end Sys2Proof.Machine
end

