-- ==== Sys2Proof/Machine/Writes2.lean ====
section
/-! DEFINITION. What a write of a register does beyond keeping its value, for the media blocks from proofing on, the links, the audit and the channel context
windows (00_scope.md R6, R19, R20; the register tables of 06_proofing.md to 21_startup.md). As in `Machine/Writes.lean`, `k` is the register's key and `n` the
value that the access codes give it. -/

namespace Sys2Proof.Machine

/-! ### Proofing and Scaler (06_proofing.md R266, R270, R273, R283) -/

/-- A write of PRF_CH_HIST: an enable is judged by R266; SLOT_UNITS is not stored. -/
def State.writeHist (s : State) (ch : Nat) (on : Bool) : State :=
  let en := R.PRF_CH_HIST_ENABLE ch
  let st := R.PRF_CH_HIST_STATE ch
  let units := s.get (R.PRF_CH_HIST_SIZE_UNITS ch)
  if on then
    if s.flag en then s
    else if units < 34 * s.histSlotUnits ch ∨ !inMedia (s.get (R.PRF_CH_HIST_BASE_BASE ch) * 4096) (units * 4096) then s.set st 1
    else (s.setFlag en true).set st 0
  else (s.setFlag en false).set st 0

/-- Proofing. -/
def State.writePrf (s : State) (k : Nat) (n : Word) : State :=
  match idx1 K.PRF_CH_HIST 256 k with
  | some ch => s.writeHist ch (bitAt n.toNat 30)
  | none => match idx1 K.PRF_CH_HIST_BASE 256 k with
    | some ch => s.keepUnless (!s.flag (R.PRF_CH_HIST_ENABLE ch)) k n
    | none => match idx1 K.PRF_CH_HIST_SIZE 256 k with
      | some ch => s.keepUnless (!s.flag (R.PRF_CH_HIST_ENABLE ch)) k n
      | none => s.setReg k n

/-- Whether sub-frame bands of the source and of a rendition fall together (R275). -/
def State.bandsMeet (s : State) (ch r : Nat) (cfg : Nat) : Bool :=
  !s.subframe ch || decide (s.srcBand ch * cfgHeight cfg % (s.srcHeight ch * s.ctuSize ch r) = 0)

/-- Whether the enable of rendition buffers is refused: a picture is too large, COUNT is 0, or the buffers leave their region (R275). -/
def State.rendBufBad (s : State) (i : Nat) : Bool :=
  let cfg := (s.reg (K.SCL_REND_CFG i)).toNat
  let size := s.get (R.SCL_REND_BUF_SIZE i) * 4096
  let count := s.get (R.SCL_REND_BUF_COUNT i)
  decide (count = 0) || decide (size < cfgSize cfg) || !inMedia (s.get (R.SCL_REND_BASE_BASE i)) (count * size) || !s.bandsMeet (i / 8) (i % 8) cfg

/-- A write of a buffer register, whose fields but ENABLE and STATE are stored first: SCL_REND_BUF and DEC_OUT_BUF (R20). -/
def State.writeBuf (s : State) (k : Nat) (n : Word) (en st : Field) (bad : State → Bool) (begins : State → State) : State :=
  let s := (s.setReg k (without n en)).set st 0
  if fieldOf n en = 0 then s
  else if bad s then s.set st 2
  else begins ((s.setFlag en true).set st 1)

/-- Scaler. -/
def State.writeScl (s : State) (k : Nat) (n : Word) : State :=
  if k = K.SCL_COEF_CTRL then (if bitAt n.toNat 1 then s.coefLoad else s)
  else match idx1 K.SCL_REND_BUF 2048 k with
    | some i => s.writeBuf k n (R.SCL_REND_BUF_ENABLE i) (R.SCL_REND_BUF_STATE i) (fun s => s.rendBufBad i) (fun s => s)
    | none => s.setReg k n

/-! ### Engines and trays (07_codec_engines.md R345 to R348) -/

/-- A write of ENG_CTRL. -/
def State.writeEng (s : State) (e : Nat) (n : Word) : State :=
  let s := s.set (R.ENG_CTRL_PROOF_HOST e) (fieldOf n (R.ENG_CTRL_PROOF_HOST e))
  let s := if fieldOf n (R.ENG_CTRL_ISOLATE e) = 1 then (s.isolateEngine e).postFault (suspect kEngine e) else s
  if fieldOf n (R.ENG_CTRL_RESTORE e) = 1 ∧ !s.named (suspect kEngine e) then s.restoreEngine e else s

/-- Engines and trays. -/
def State.writeEngines (s : State) (k : Nat) (n : Word) : State :=
  match idx1 K.ENG_CTRL 128 k with
  | some e => s.writeEng e n
  | none => match idx1 K.TRAY_CTRL 16 k with
    | some t =>
      let s := s.setReg k (without n (R.TRAY_CTRL_INVALIDATE t))
      if fieldOf n (R.TRAY_CTRL_INVALIDATE t) = 1 then s.dropTray t else s
    | none => s.setReg k n

/-! ### Audio (10_audio.md R431, R433, R434, R443, R444) -/

/-- A write of AUD_VCXO_CFG: ENABLE claims the ball of GP11. -/
def State.writeVcxo (s : State) (n : Word) : State :=
  let en := R.AUD_VCXO_CFG_ENABLE
  let st := R.AUD_VCXO_CFG_STATE
  let was := s.flag en
  let state := s.get st
  let s := ((s.setReg K.AUD_VCXO_CFG n).setFlag en was).set st state
  if fieldOf n en = 0 then (s.setFlag en false).set st 0
  else if was then s
  else s.claim K.AUD_VCXO_CFG (s.ballOwners 11) (fun s => s.set st 2) (fun s => { (s.setFlag en true).set st 1 with vcxo := {} })

/-- A write of AUD_PORT_CFG: bits [9:1] are fixed while the port runs, and an ENABLE with a bad SLOTS is refused. -/
def State.writePort (s : State) (p k : Nat) (n : Word) : State :=
  let en := R.AUD_PORT_CFG_ENABLE p
  if s.flag (R.AUD_PORT_STATUS_RUNNING p) then s.set en (fieldOf n en)
  else
    let slots := fieldOf n (R.AUD_PORT_CFG_SLOTS p)
    let bad := decide (5 ≤ slots) || (decide (fieldOf n (R.AUD_PORT_CFG_I2S p) = 1) && decide (slots ≠ 0))
    s.setReg k (if bad then without n en else n)

/-- Whether the enable of a stream buffer is refused with ERR (R444). -/
def State.sbBad (s : State) (b : Nat) : Bool :=
  let (a, len) := s.sbRegion b
  let depth := s.get (R.AUD_SB_CFG_DEPTH b)
  let used := ((List.range 512).filter (fun i => s.flag (R.AUD_SB_CFG_ENABLE i))).foldl (fun x i => x + s.get (R.AUD_SB_CFG_CHANNELS i)) 0
  !inSram a len || decide (depth < 64) || decide (depth ≤ s.get (R.AUD_SB_CFG_READ_LAT b)) || decide (s.get (R.AUD_SB_CFG_PACK b) = 3) ||
    decide (4608 < used + s.get (R.AUD_SB_CFG_CHANNELS b))

/-- A stream buffer is disabled: its valid samples are discarded, as the audit counts them (20_conservation.md R696). -/
def State.sbOff (s : State) (b : Nat) : State :=
  let x := s.sb b
  let s := s.setSb b { x with discarded := x.discarded + s.sbPending b, valid := [], lastR := none }
  (s.setFlag (R.AUD_SB_CFG_ENABLE b) false).set (R.AUD_SB_STATUS_STATE b) 0

/-- A write of AUD_SB_CFG. -/
def State.writeSb (s : State) (b k : Nat) (n : Word) : State :=
  let en := R.AUD_SB_CFG_ENABLE b
  let st := R.AUD_SB_STATUS_STATE b
  let err := R.AUD_SB_STATUS_ERR b
  let fits := decide (fieldOf n (R.AUD_SB_CFG_CHANNELS b) ≤ 64)
  if s.flag en then (if fieldOf n en = 1 ∨ !fits then s else s.sbOff b)
  else if !fits then s
  else
    let s := (s.setReg k (without n en)).set st 0
    if fieldOf n en = 0 then s
    else if s.sbBad b then s.setFlag err true
    else
      let s := s.setFlag err false
      s.claim k (s.regionOwners (s.sbRegion b).1 (s.sbRegion b).2) (fun s => s.set st 2) (fun s => (s.setFlag en true).set st 1)

/-- Audio. -/
def State.writeAud (s : State) (k : Nat) (n : Word) : State :=
  if k = K.AUD_CTRL then
    let s' := s.setReg k n
    if s.falls n R.AUD_CTRL_ENABLE then (List.range 8).foldl (fun s p => s.setFlag (R.AUD_PORT_STATUS_RUNNING p) false) s' else s'
  else if k = K.AUD_START then s.audArm (fieldOf n R.AUD_START_SET) (fieldOf n R.AUD_START_PG) (decide (fieldOf n R.AUD_START_ARM = 1))
  else if k = K.AUD_VCXO_CFG then s.writeVcxo n
  else match idx1 K.AUD_PORT_CFG 8 k with
    | some p => s.writePort p k n
    | none => match idx2 K.AUD_PORT_MASK 8 2 k with
      | some (p, d) => s.maskWrite p (decide (d = 1)) n.toNat
      | none => match idx1 K.AUD_SB_CFG 512 k with
        | some b => s.writeSb b k n
        | none => match idx1 K.AUD_SB_BASE 512 k with
          | some b => s.keepUnless (!s.flag (R.AUD_SB_CFG_ENABLE b)) k n
          | none => match idx1 K.AUD_FLOW_MAP 16384 k with
            | some f => s.setReg k (s.ranged n (R.AUD_FLOW_MAP_CHANNELS f) (fun v => decide (1 ≤ v ∧ v ≤ 64)))
            | none => s.setReg k n

/-! ### Transport multiplexer (11_egress.md R462, R471, R488) -/

/-- A write of MUX_STR_CFG. -/
def State.writeStr (s : State) (i k : Nat) (n : Word) : State :=
  let en := R.MUX_STR_CFG_ENABLE i
  let st := R.MUX_STR_STATUS_STATE i
  let ok := decide (1 ≤ fieldOf n (R.MUX_STR_CFG_AUDIO_PAIRS i)) && decide (fieldOf n (R.MUX_STR_CFG_AUDIO_PAIRS i) ≤ 4)
  let bad := decide (fieldOf n (R.MUX_STR_CFG_FORMAT i) = 3) || decide (fieldOf n (R.MUX_STR_CFG_TS_PER_DGRAM i) = 0)
  if !ok then s
  else if fieldOf n en = 0 then (s.setReg k n).set st 0
  else if bad then (s.setReg k (without n en)).set st 2
  else (s.setReg k n).set st 1

/-- A write of MUX_ANC_BASE: ENABLE claims the ring's region (R462, R71 to R73). DESIGN CHOICE (log 105): an enable whose region does not lie in the shared
buffer SRAM stays 0 with no notice. -/
def State.writeAncBase (s : State) (ch k : Nat) (n : Word) : State :=
  let en := R.MUX_ANC_BASE_ENABLE ch
  if s.flag en then (if fieldOf n en = 1 then s else s.setFlag en false)
  else
    let s := s.setReg k (without n en)
    let (a, len) := s.ancRegion ch
    if fieldOf n en = 0 ∨ !inSram a len then s
    else s.claim k (s.regionOwners a len) (fun s => s) (fun s => s.setFlag en true)

/-- Transport multiplexer. -/
def State.writeMux (s : State) (k : Nat) (n : Word) : State :=
  match idx1 K.MUX_SRTP_CFG 512 k with
  | some i =>
    let s := s.set (R.MUX_SRTP_CFG_SUITE i) (fieldOf n (R.MUX_SRTP_CFG_SUITE i))
    if fieldOf n (R.MUX_SRTP_CFG_LOAD i) = 1 then s.srtpLoad i else s
  | none => match idx1 K.MUX_STR_CFG 2048 k with
    | some i => s.writeStr i k n
    | none => match idx1 K.MUX_STR_RATE 2048 k with
      | some i => s.setReg k (s.ranged n (R.MUX_STR_RATE_PCR_INTERVAL_MS i) (fun v => decide (1 ≤ v ∧ v ≤ 100)))
      | none => match idx1 K.MUX_ANC_BASE 256 k with
        | some ch => s.writeAncBase ch k n
        | none => s.setReg k n

/-! ### Egress (11_egress.md R472, R476, R477, R479, R482, R489) -/

/-- A write of EGR_GATE_CTRL. Until a list becomes operational after ENABLE is set, every gate is open (R482). -/
def State.writeGate (s : State) (p k : Nat) (n : Word) : State :=
  let n := s.ranged n (R.EGR_GATE_CTRL_LENGTH p) (fun v => decide (v ≤ 256))
  let s' := s.setReg k (without n (R.EGR_GATE_CTRL_CHANGE p))
  let s' := if s.rises n (R.EGR_GATE_CTRL_ENABLE p) then s'.setTxPort p { s.txPort p with operAt := none, operLen := 0, entry := 0 } else s'
  if fieldOf n (R.EGR_GATE_CTRL_CHANGE p) = 1 then s'.gateChange p else s'

/-- Whether the entries of list l of a port may be written (R479). -/
def State.gateFree (s : State) (p l : Nat) : Bool :=
  decide (s.get (R.EGR_GATE_CTRL_OPER_LIST p) ≠ l) && !s.flag (R.EGR_GATE_CTRL_PENDING p)

/-- A write of EGR_GATE_ENTRY. -/
def State.writeGateEntry (s : State) (p k : Nat) (n : Word) : State :=
  s.keepUnless (s.gateFree p ((k - K.EGR_GATE_ENTRY p 0 0) / 1024)) k n

/-- Egress scheduler, but for the flow records. -/
def State.writeEgr (s : State) (k : Nat) (n : Word) : State :=
  match idx1 K.EGR_IND_SEL 4 k with
  | some w => s.egrSelect w n.toNat
  | none => match idx1 K.EGR_GATE_CTRL 16 k with
    | some p => s.writeGate p k n
    | none => match idx1 K.EGR_GATE_CYCLE 16 k with
      | some _ => s.keepUnless (decide (1000 ≤ n.toNat ∧ n.toNat ≤ 4000000000)) k n
      | none => match idx2 K.EGR_QFRAME 16 5 k with
        | some (_, q) => s.keepUnless (decide (64 ≤ n.toNat ∧ n.toNat ≤ (if q = 0 then 256 else 9216))) k n
        | none =>
          if 0xD40000 ≤ k then (if n.toNat = 0 then s else s.setTimed fabCycle k n)
          else if 0xD10000 ≤ k ∧ 0x800 ≤ (k - 0xD10000) % 0x1000 then s.writeGateEntry ((k - 0xD10000) / 0x1000) k n
          else s.setReg k n

/-- A field of an egress flow record, through a window: while the flow is enabled only its slot and its disable are taken (R447, R472). -/
def State.writeEgrFlow (s : State) (f k : Nat) (n : Word) : State :=
  let en := R.EGR_FLOW_CTRL_ENABLE f
  if s.flag en then
    if k = K.EGR_FLOW_CTRL f then
      if fieldOf n en = 0 then s.egDisable f
      else if fieldOf n (R.EGR_FLOW_CTRL_SRTP_SLOT f) = s.get (R.EGR_FLOW_CTRL_SRTP_SLOT f) then s
      else s.srtpSlot f (fieldOf n (R.EGR_FLOW_CTRL_SRTP_SLOT f))
    else s
  else if k = K.EGR_FLOW_CTRL f then
    let s := (s.setReg k (without n en)).set (R.EGR_FLOW_CTRL_STATE f) 0
    if fieldOf n en = 1 then s.egEnable f else s
  else s.setReg k n

/-! ### Weneiren (15_weneiren.md R575 to R584, R589) -/

/-- A write of WL_CTRL. -/
def State.writeWlCtrl (s : State) (p : Nat) (n : Word) : State :=
  let en := R.WL_CTRL_ENABLE p
  let n := s.ranged n (R.WL_CTRL_TIMEOUT_US p) (fun v => decide (v ≠ 0))
  let n' := if s.flag en then s.keep n (R.WL_CTRL_BOARD_ID p) else n
  let s' := s.setReg (K.WL_CTRL p) (without n' (R.WL_CTRL_RETRAIN p))
  if s.rises n en then s'.wlTrain p
  else if s.falls n en then s'.wlFall p
  else if fieldOf n (R.WL_CTRL_RETRAIN p) = 1 ∧ s.flag en then s'.wlFall p
  else s'

/-- Whether a write of WL_VC_CFG is taken. -/
def vcOk (p : Nat) (n : Word) : Bool :=
  let f := fun (x : Field) => fieldOf n x
  let (a, b, c) := (f (R.WL_VC_CFG_MEM_FLITS p), f (R.WL_VC_CFG_MEDIA_FLITS p), f (R.WL_VC_CFG_MSG_FLITS p))
  decide (a ≠ 0 ∧ b ≠ 0 ∧ c ≠ 0 ∧ a + b + c ≤ 512)

/-- A Weneiren port. -/
def State.writeWl (s : State) (k : Nat) (n : Word) : State :=
  let p := (k - 0xE00000) / 0x40000
  if k = K.WL_CTRL p then s.writeWlCtrl p n
  else if k = K.WL_VC_CFG p then s.keepUnless (!s.flag (R.WL_CTRL_ENABLE p) && vcOk p n) k n
  else match idx1 (K.WL_LANE_EQ p) 17 k with
    | some l =>
      let s := s.setReg k (without n (R.WL_LANE_EQ_FORCE_CTLE p l))
      if fieldOf n (R.WL_LANE_EQ_FORCE_CTLE p l) = 1 then s.setFlag (R.WL_LANE_STATUS_DFE_ACTIVE p l) false else s
    | none => s.setReg k n

/-! ### The Claim Bus (16_redundancy.md R606, R611, R624) -/

/-- Whether a starter image region of two slots may be used (R606). -/
def imageRegionOk (a : Nat) : Bool := decide (a % 0x10000 = 0 ∧ 0x2000000000 ≤ a ∧ a + 0x20000 ≤ 0x2100000000)

/-- Whether the enable of a group is refused (R606, R624). -/
def State.groupBad (s : State) (g : Nat) : Bool :=
  (s.chan (s.get (R.CLB_GRP_CFG_CHANNEL g))).loaded.isNone || !imageRegionOk (s.get (R.CLB_GRP_IMG_PEER_ADDR g)) ||
    !imageRegionOk (s.get (R.CLB_GRP_IMG_LOCAL_ADDR g)) || decide (s.get (R.CLB_GRP_CFG_H g) = 0) || decide (s.get (R.CLB_GRP_CFG_LINK g) = 3)

/-- A group becomes enabled with its initial role, epoch 0 and no cycle seen (R598, R600, R624). -/
def State.groupBegin (s : State) (g : Nat) : State :=
  let s := (s.setFlag (R.CLB_GRP_CFG_ENABLE g) true).set (R.CLB_GRP_CFG_STATE g) 1
  let s := { s.setGrp g { th := s.raw } with epochs := tset (fun _ => 0) s.epochs g 0 }
  let s := (s.markBefore fabCycle (R.CLB_GRP_WIN_VALID g).key).setFlag (R.CLB_GRP_WIN_VALID g) false
  s.setRole g (if s.flag (R.CLB_GRP_CFG_ROLE_INIT g) then 1 else 2)

/-- A group is disabled: it has no role, and none of its cycles is pending. -/
def State.groupEnd (s : State) (g : Nat) : State :=
  let s := (s.setFlag (R.CLB_GRP_CFG_ENABLE g) false).set (R.CLB_GRP_CFG_STATE g) 0
  (s.setRole g 0).setGrp g {}

/-- A write of CLB_GRP_CFG. -/
def State.writeGroup (s : State) (g k : Nat) (n : Word) : State :=
  let en := R.CLB_GRP_CFG_ENABLE g
  if s.flag en then (if fieldOf n en = 1 then s else s.groupEnd g)
  else
    let s := (s.setReg k (without n en)).set (R.CLB_GRP_CFG_STATE g) 0
    if fieldOf n en = 0 then s else if s.groupBad g then s.set (R.CLB_GRP_CFG_STATE g) 2 else s.groupBegin g

/-- The Claim Bus. -/
def State.writeClb (s : State) (k : Nat) (n : Word) : State :=
  if k = K.CLB_CTRL then s.setReg k (if s.flag R.CLB_CTRL_ENABLE then s.keep n R.CLB_CTRL_UNIT_ID else n)
  else match idx1 K.CLB_GRP_CFG 64 k with
    | some g => s.writeGroup g k n
    | none => match idx1 K.CLB_GRP_CTRL 64 k with
      | some g => if bitAt n.toNat 0 then s.yieldGroup g else s
      | none => s.setReg k n

/-! ### Health, security, audit (18_heath_ageing.md R674, 21_startup.md R719 to R728, 20_conservation.md R698 to R706) -/

/-- A write of HLT_CTRL: VID_EN claims the balls of GP0 to GP5, whole. -/
def State.writeHlt (s : State) (k : Nat) (n : Word) : State :=
  if k = K.HLT_CTRL then
    let en := R.HLT_CTRL_VID_EN
    let st := R.HLT_CTRL_STATE
    let was := s.flag en
    let state := s.get st
    let s := ((s.setReg k n).setFlag en was).set st state
    if fieldOf n en = 0 then (s.setFlag en false).set st 0
    else if was then s
    else s.claim k ((List.range 6).flatMap s.ballOwners) (fun s => s.set st 2) (fun s => (s.setFlag en true).set st 1)
  else s.setReg k n

/-- The bytes of SEC_DEBUG as written. -/
def State.debugBytes (s : State) : List (BitVec 8) := (List.range 16).flatMap (fun i => leBytes 4 (s.get (R.SEC_DEBUG_WORD i)))

/-- A write of SEC_POLICY: RECIPE_SIGNED and LOCK are only ever set (R725, R726). -/
def State.writePolicy (s : State) (n : Word) : State :=
  if s.flag R.SEC_POLICY_LOCK then s
  else
    let s := if fieldOf n R.SEC_POLICY_RECIPE_SIGNED = 1 then s.setFlag R.SEC_POLICY_RECIPE_SIGNED true else s
    let s := if fieldOf n R.SEC_POLICY_SVN_BURN = 1 then s.svnBurn else s
    if fieldOf n R.SEC_POLICY_LOCK = 1 then s.setFlag R.SEC_POLICY_LOCK true else s

/-- Security; the whole response to a challenge is judged when its last word is written. -/
def State.writeSec (s : State) (x : AccessIn) (k : Nat) (n : Word) : State :=
  if k = K.SEC_POLICY then s.writePolicy n
  else if k = K.SEC_RECOVERY then
    let s := s.set R.SEC_RECOVERY_LENGTH (fieldOf n R.SEC_RECOVERY_LENGTH)
    if fieldOf n R.SEC_RECOVERY_GO = 1 then s.recover (s.get R.SEC_RECOVERY_LENGTH) x.errors else s
  else if k = K.SEC_DEBUG 15 then
    let s := s.setReg k n
    s.debugAnswer s.debugBytes
  else match idx1 K.SEC_RCP_KEY_CFG 16 k with
    | some j => if bitAt n.toNat 1 then s.keyLoad j else s
    | none =>
      if K.SEC_RCP_KEY_CFG 0 ≤ k then s.keepUnless (!s.flag R.SEC_POLICY_LOCK) k n
      else s.setReg k n

/-- ENABLE of the audit is set: the engine-time counters start from 0 (R706). -/
def State.consBegin (s : State) : State :=
  let s := (List.range 128).foldl (fun s e => (List.range 4).foldl (fun s i => s.set (R.CONS_ENG_NS e i) 0) s) s
  let s := (List.range 256).foldl (fun s c => s.set (R.CONS_CH_COUNT c 3) 0) s
  { s with cons := { s.cons with at' := s.raw, noCh := 0 } }

/-- ENABLE of the audit is cleared: the engine-time counters keep what they show. -/
def State.consEnd (s : State) : State :=
  let t := (List.range 128).foldl (fun t e => (List.range 4).foldl (fun t i => State.set t (R.CONS_ENG_NS e i) (s.engNs e i)) t) s
  let t := (List.range 256).foldl (fun t c => State.set t (R.CONS_CH_COUNT c 3) (s.chNs c)) t
  { t with cons := { t.cons with noCh := s.cons.noCh + s.runningNs none } }

/-- Conservation audit. -/
def State.writeCons (s : State) (k : Nat) (n : Word) : State :=
  if k = K.CONS_CTRL then
    let s' := if s.rises n R.CONS_CTRL_ENABLE then s.consBegin else if s.falls n R.CONS_CTRL_ENABLE then s.consEnd else s
    let s' := if fieldOf n R.CONS_CTRL_AUTO_S = s.get R.CONS_CTRL_AUTO_S then s' else { s' with cons := { s'.cons with autoAt := s.raw } }
    s'.setReg k n
  else if k = K.CONS_SNAP_CTRL then
    let s := s.set R.CONS_SNAP_CTRL_SCOPE (fieldOf n R.CONS_SNAP_CTRL_SCOPE)
    if fieldOf n R.CONS_SNAP_CTRL_GO = 1 then s.consSnap (s.get R.CONS_SNAP_CTRL_SCOPE) else s
  else s.setReg k n

/-! ### Channel context windows (02_layout_table.md R59, 07_codec_engines.md R294, 08_rate_and_delay.md R386, 09_decode.md R413) -/

/-- Whether the enable of a channel's output buffers is refused (R413). -/
def State.outBufBad (s : State) (ch : Nat) : Bool :=
  let size := s.get (R.DEC_OUT_BUF_SIZE ch) * 4096
  let count := s.get (R.DEC_OUT_BUF_COUNT ch)
  decide (count = 0) || decide (size < Config.declaredPictureBytes (s.reg (K.CTX_REND_CODEC ch 0)).toNat) ||
    !inMedia (s.get (R.DEC_OUT_BASE_BASE ch) * 4096) (count * size)

/-- A register of a context window whose fields are not shadowed; `q` writes. -/
def State.writeCtx (s : State) (q : Requester) (k : Nat) (n : Word) : State :=
  let ch := (k - 0x1000000) / 0x30000
  let free := !s.running ch
  if k = K.CTX_SHADOW_CTRL ch then s.writeHold q ch (bitAt n.toNat 0)
  else if k = K.CTX_DOORBELL ch then s.doorbell ch n.toNat
  else if k = K.DEC_HOST_ACK ch then s.hostAck ch n.toNat
  else if !free then s
  else if k = K.RC_CH_DELAY ch then s.keepUnless (decide (3000 ≤ n.toNat ∧ n.toNat ≤ 20000000)) k n
  else if k = K.DEC_OUT_BUF ch then
    s.writeBuf k n (R.DEC_OUT_BUF_ENABLE ch) (R.DEC_OUT_BUF_STATE ch) (fun s => s.outBufBad ch) (fun s => s)
  else s.setReg k n

/-! ### Shadowed registers: ranges (06_proofing.md R271, R283, 07_codec_engines.md R293, R294, 08_rate_and_delay.md R387) -/

/-- The word, if every listed field is within its range; a write that breaks one is discarded (R19). -/
def inRange (l : List (Field × (Nat → Bool))) (n : Word) : Option Word := if l.all (fun x => x.2 (fieldOf n x.1)) then some n else none

/-- A rendition's CODEC as written now. -/
def qpTop (vvc : Bool) : Nat := if vvc then 63 else 51

/-- The value that a write of a shadowed register of a context window leaves; none where the whole write is discarded. -/
def State.ctxRanged (s : State) (k : Nat) (n : Word) : Option Word :=
  let ch := srwChan k
  if k = K.CTX_GOP ch then
    let ok := fun v => decide (v ∈ ([1, 2, 4, 8, 16] : List Nat)) && (!(s.running ch && s.subframe ch) || decide (v = 1))
    inRange [(R.CTX_GOP_GOP_LEN ch, ok)] n
  else if k = K.CTX_REFRESH ch then inRange [(R.CTX_REFRESH_PERIOD ch, fun v => decide (v ≠ 1))] n
  else if k = K.CTX_QUALITY ch then
    inRange [(R.CTX_QUALITY_PROOF_PERMILLE ch, fun v => decide (v ≤ 1000)), (R.CTX_QUALITY_PROOF_AGE ch, fun v => decide (1 ≤ v ∧ v ≤ 16))] n
  else
    let finished := fun (r : Nat) (i : Fin 7) (f : Field) =>
      s.running ch && s.flag (R.CTX_REND_CODEC_ENABLE ch r) && decide (s.limit ch r i < fieldOf n f)
    match idx1 (K.RC_REND_RATE ch) 8 k with
    | some r => if finished r 5 (R.RC_REND_RATE_RATE_KBPS ch r) then none else some n
    | none => match idx1 (K.RC_REND_CPB ch) 8 k with
      | some r => if finished r 6 (R.RC_REND_CPB_SIZE ch r) then none else some n
      | none => match idx1 (K.RC_REND_QP ch) 8 k with
        | some r =>
          let lo := fieldOf n (R.RC_REND_QP_QP_MIN ch r)
          let hi := fieldOf n (R.RC_REND_QP_QP_MAX ch r)
          let top := qpTop (s.flag (R.CTX_REND_CODEC_CODEC ch r))
          if hi < lo ∨ top < hi ∨ top < fieldOf n (R.RC_REND_QP_QP_INIT ch r) then none else some n
        | none => match idx1 (K.RC_REND_RESERVE ch) 8 k with
          | some r => inRange [(R.RC_REND_RESERVE_INTER ch r, fun v => decide (32 ≤ v)), (R.RC_REND_RESERVE_INTRA ch r, fun v => decide (96 ≤ v))] n
          | none => some n

/-- The value that a write of a shadowed register leaves; none where the whole write is discarded. -/
def State.srwRanged (s : State) (k : Nat) (n : Word) : Option Word :=
  match idx1 K.PRF_CH_CFG 256 k with
  | some ch =>
    inRange [(R.PRF_CH_CFG_LOOKAHEAD ch, fun v => decide (v ≤ 32)), (R.PRF_CH_CFG_SC_THRESH ch, fun v => decide (v ≠ 0))] n
  | none => match idx1 K.SCL_REND_CFG 2048 k with
    | some _ =>
      let w := cfgWidth n.toNat
      let h := cfgHeight n.toNat
      if 64 ≤ w ∧ w ≤ 7680 ∧ 64 ≤ h ∧ h ≤ 4320 ∧ w % 2 = 0 ∧ h % 2 = 0 then some n else none
    | none => s.ctxRanged k n

end Sys2Proof.Machine
end

