-- ==== Sys2Proof/Machine/Bus.lean ====
section
/-! DEFINITION. Accesses of the register region and of the BAR2 windows: widths and alignment, 64-bit registers in two halves, access codes, the plain-memory
areas, and what a halted device still takes (00_scope.md R6 to R14, R749, 02_layout_table.md R45 to R50, 14_host_dma.md R551, 17_sieve.md R646). -/

namespace Sys2Proof.Machine

/-! ### Where an offset leads -/

/-- The first context window, and its stride (02_layout_table.md R58). -/
def ctxBase : Nat := 0x1000000
def ctxStride : Nat := 0x30000

/-- The two areas of the register region that are plain memory (R12). -/
def plainAt (off : Nat) : Bool :=
  (decide (0x51000 ≤ off) && decide (off < 0x52000)) ||
  (decide (ctxBase ≤ off) && decide (0x8000 ≤ (off - ctxBase) % ctxStride) && decide ((off - ctxBase) % ctxStride < 0x10000))

/-- Whether an access of n bytes at an offset has a width and an alignment that the register region takes (R12). -/
def busOk (off n : Nat) : Bool :=
  decide (n = 1 ∨ n = 2 ∨ n = 4 ∨ n = 8) && decide (off % n = 0) && (decide (4 ≤ n) || plainAt off)

/-- The key that an offset leads to: the windows of R247 and R489 lead to the record of the flow that they select. -/
def State.target (s : State) (off : Nat) : Nat :=
  if 0x601000 ≤ off ∧ off < 0x601400 ∧ off % 256 < 0x80 then
    0x100000000 + s.get (R.ING_IND_SEL_FLOW ((off - 0x601000) / 256)) * 256 + off % 256
  else if 0xD01000 ≤ off ∧ off < 0xD01400 ∧ (off % 256 < 0x80 ∨ 0xD0 ≤ off % 256) then
    0x200000000 + s.get (R.EGR_IND_SEL_FLOW ((off - 0xD01000) / 256)) * 256 + off % 256
  else off

/-! ### Writes -/

/-- The value that the access codes give a register when `v` is written to it (R6, R10): a 1 clears an RW1C bit, RO, RC and SL fields and reserved bits
keep what they hold. -/
def merge (r : RegRow) (old v : Nat) : Word :=
  let take := r.mask (fun a => a = .rw ∨ a = .srw ∨ a = .wo)
  let clear := r.mask (fun a => a = .rw1c)
  BitVec.ofNat 64 ((v &&& take) ||| (old &&& (2 ^ 64 - 1 - take) &&& (2 ^ 64 - 1 - (v &&& clear))))

/-- A register of BAR0 whose fields are not shadowed takes a value: the write of its block. -/
def State.writeBlock (s : State) (q : Requester) (x : AccessIn) (k : Nat) (n : Word) : State :=
  if k < 0x20000 then s.writeGctl x k n
  else if k < 0x40000 then s.writeSieve k n
  else if k < 0x50000 then s.writeHeath k n
  else if k < 0x60000 then s.writePdk k n
  else if k < 0x80000 then s.writeTb k n
  else if k < 0xC0000 then s.writePcie x k n
  else if k < 0x100000 then s.setReg k n
  else if k < 0x200000 then s.writeDsp k n
  else if k < 0x300000 then s.writeSeq k n
  else if k < 0x400000 then s.writeMem k n
  else if k < 0x600000 then s.writeMedia k n
  else if k < 0x800000 then s.writeIng k n
  else if k < 0x880000 then s.writePrf k n
  else if k < 0x900000 then s.writeScl k n
  else if k < 0xB00000 then s.writeEngines k n
  else if k < 0xC00000 then s.setReg k n
  else if k < 0xC80000 then s.writeAud k n
  else if k < 0xD00000 then s.writeMux k n
  else if k < 0xE00000 then s.writeEgr k n
  else if k < 0xF00000 then s.writeWl k n
  else if k < 0xF10000 then s.writeClb k n
  else if k < 0xF20000 then s.writeHlt k n
  else if k < 0xF30000 then s.writeSec x k n
  else if k < 0x1000000 then s.writeCons k n
  else if k < 0x100000000 then s.writeCtx q k n
  else if k < 0x200000000 then s.writeIngFlow ((k - 0x100000000) / 256) k n
  else s.writeEgrFlow ((k - 0x200000000) / 256) k n

/-- Whether a register has a shadowed field, and so only such fields. -/
def RegRow.shadowed (r : RegRow) : Bool := r.fields.any (fun f => f.acc = .srw)

/-- Whether a register takes no write at all. -/
def RegRow.readOnly (r : RegRow) : Bool := r.fields.all (fun f => f.acc = .ro || f.acc = .rc || f.acc = .sl)

/-- What a halted device still takes (17_sieve.md R646). -/
def takenInHalt (k : Nat) : Bool := decide (k = K.SIEVE_ACK) || decide (k = K.SIEVE_RING_HEAD) || (decide (0x40000 ≤ k) && decide (k < 0x50000))

/-- A whole value is written to a register. -/
def State.writeReg (s : State) (q : Requester) (x : AccessIn) (r : RegRow) (k v : Nat) : State :=
  let n := merge r (s.reg k).toNat v
  if (s.halted && !takenInHalt k) || r.readOnly then s
  else if r.shadowed then (s.srwRanged k n).elim s (fun n => s.srwWrite q k n)
  else s.writeBlock q x k n

/-- A 32-bit word is written: half of a 64-bit register is held until its high word comes (R749). -/
def State.writeWord (s : State) (q : Requester) (x : AccessIn) (off v : Nat) : State :=
  let k := s.target off
  match regAt k with
  | none => s
  | some (r, b) =>
    if r.bytes = 4 then s.writeReg q x r b v
    else if k = b then { s with wrHold := tput s.wrHold b v }
    else
      let low := (tfind s.wrHold b).getD (s.view b % 2 ^ 32)
      { s with wrHold := tdel s.wrHold b }.writeReg q x r b (low + v * 2 ^ 32)

/-- Whether a 64-bit register begins at an offset. -/
def State.wideAt (s : State) (off : Nat) : Option (RegRow × Nat) :=
  let k := s.target off
  match regAt k with
  | some (r, b) => if r.bytes = 8 ∧ b = k then some (r, b) else none
  | none => none

/-- A write of n bytes at an offset of the register region by a requester (R11, R12, R47). The spec does not say what one aligned 64-bit access over
two 32-bit registers does: DESIGN CHOICE, two accesses of 32 bits, the low word first (log 104). -/
def State.busWrite (s : State) (q : Requester) (x : AccessIn) (off n v : Nat) : State :=
  let v := v % 256 ^ n
  if !busOk off n then s.addrError q
  else if plainAt off then (if s.halted then s else s.wr (regBase + off) n v)
  else if n = 4 then s.writeWord q x off v
  else match s.wideAt off with
    | some (r, b) => { s with wrHold := tdel s.wrHold b }.writeReg q x r b v
    | none => (s.writeWord q x off (v % 2 ^ 32)).writeWord q x (off + 4) (v / 2 ^ 32)

/-! ### Reads -/

/-- An access of SEQ_MEM_DATA is complete: ADDR moves on under AUTOINC (03_morop.md R135). -/
def State.dataDone (s : State) (k : Nat) : State :=
  match idx1 K.SEQ_MEM_DATA 64 k with
  | some i => s.seqDataDone i .clean
  | none => s

/-- A register is read: its RC fields are cleared, and the levels of balls that the board drives are taken anew (R6, R8). -/
def State.readReg (s : State) (r : RegRow) (k : Nat) : State × Nat :=
  let v := s.shows r k
  let rc := r.mask (fun a => a = .rc)
  let s := if rc = 0 then s else s.setReg k (BitVec.ofNat 64 ((s.reg k).toNat &&& (2 ^ 64 - 1 - rc)))
  (if k = K.GCTL_GPIO_IN then s.took else s, v)

/-- A 32-bit word is read: the low word of a 64-bit register latches the high word (R13, R14). -/
def State.readWord (s : State) (off : Nat) : State × Nat :=
  let k := s.target off
  if off < 0x10000 then (s, leNat ((layoutTable.drop off).take 4))
  else match regAt k with
    | none => (s, 0)
    | some (r, b) =>
      if r.bytes = 4 then s.readReg r b
      else if k = b then
        let (s, v) := s.readReg r b
        ({ s with rdLatch := tput s.rdLatch b (v / 2 ^ 32) }, v % 2 ^ 32)
      else match tfind s.rdLatch b with
        | some hi => ({ s with rdLatch := tdel s.rdLatch b }.dataDone b, hi)
        | none => (s, s.shows r b / 2 ^ 32)

/-- A read of n bytes at an offset of the register region: the value, or none for an error response (R11, R12, R47). 64 bits over two 32-bit
registers are two reads, the low word first (log 104). -/
def State.busRead (s : State) (q : Requester) (off n : Nat) : State × Option Nat :=
  if !busOk off n then (s.addrError q, none)
  else if plainAt off then (s, some (s.rd (regBase + off) n))
  else if n = 4 then
    let (s, v) := s.readWord off
    (s, some v)
  else match s.wideAt off with
    | some (r, b) =>
      let (s, v) := s.readReg r b
      (s.dataDone b, some v)
    | none =>
      let (s, lo) := s.readWord off
      let (s, hi) := s.readWord (off + 4)
      (s, some (lo + hi * 2 ^ 32))

/-- A read that is answered to the outside. -/
def State.busAnswer (s : State) (q : Requester) (off n : Nat) : State :=
  let k := s.target off
  let (s, v) := s.busRead q off n
  s.emit (.regRead k (v.map (BitVec.ofNat 64)))

/-- An access that brings nothing from outside the device with it. -/
def noInput : AccessIn := { now := 0, host := [], boot := { pll := false, flash := [], errors := [] }, errors := [] }

/-! ### Commands -/

/-- REGISTER_WRITE: a write of 1, 2, 4 or 8 bytes at a BAR0 offset (R6). -/
def execRegisterWrite (q : Requester) (off : BitVec 26) (size : Fin 4) (v : Word) (x : AccessIn) (s : State) : Out :=
  whenUp s (fun s => (s.advance x.now).busWrite q x off.toNat (2 ^ size.val) v.toNat)

/-- SRW_WRITE: a write of a shadowed register (R65). -/
def execSrwWrite (q : Requester) (off : BitVec 26) (size : Fin 4) (v : Word) (x : AccessIn) (s : State) : Out :=
  whenUp s (fun s => (s.advance x.now).busWrite q x off.toNat (2 ^ size.val) v.toNat)

/-- LOW_WORD_WRITE: a 32-bit write (R749). -/
def execLowWordWrite (q : Requester) (off : BitVec 26) (v : BitVec 32) (x : AccessIn) (s : State) : Out :=
  whenUp s (fun s => (s.advance x.now).busWrite q x off.toNat 4 v.toNat)

/-- RC_REGISTER_READ: a read of 1, 2, 4 or 8 bytes at a BAR0 offset (R8). -/
def execRcRegisterRead (q : Requester) (off : BitVec 26) (size : Fin 4) (now : Nat) (s : State) : Out :=
  whenUp s (fun s => (s.advance now).busAnswer q off.toNat (2 ^ size.val))

/-- LOW_WORD_READ: a 32-bit read (R13). -/
def execLowWordRead (q : Requester) (off : BitVec 26) (now : Nat) (s : State) : Out :=
  whenUp s (fun s => (s.advance now).busAnswer q off.toNat 4)

/-! ### BAR2 (R48, R49, R551) -/

/-- A write of bytes to the register region through a window: one access of 1, 2, 4 or 8 bytes, or aligned words in rising order. -/
def State.barRegWrite (s : State) (x : AccessIn) (off : Nat) (l : List (BitVec 8)) : State :=
  if l.length ≤ 8 then s.busWrite .host x off l.length (leNat l)
  else if off % 4 = 0 ∧ l.length % 4 = 0 then
    (List.range (l.length / 4)).foldl (fun s i => s.busWrite .host x (off + 4 * i) 4 (leNat ((l.drop (4 * i)).take 4))) s
  else s.addrError .host

/-- A read of n bytes of the register region through a window. -/
def State.barRegRead (s : State) (off n : Nat) : State × Option (List (BitVec 8)) :=
  if n ≤ 8 then
    let (s, v) := s.busRead .host off n
    (s, v.map (leBytes n))
  else if off % 4 = 0 ∧ n % 4 = 0 then
    let (s, l) := (List.range (n / 4)).foldl (fun (p : State × List (BitVec 8)) i =>
      let (s, v) := p.1.busRead .host (off + 4 * i) 4
      (s, p.2 ++ leBytes 4 (v.getD 0))) (s, [])
    (s, some l)
  else (s.addrError .host, none)

/-- A host write of bytes through a window that is enabled. -/
def State.barWrite (s : State) (x : AccessIn) (a : Nat) (l : List (BitVec 8)) : State :=
  if l = [] then s
  else if !mappedRange a l.length then s.addrError .host
  else if inRegs a then s.barRegWrite x (a - regBase) l
  else if s.halted then s
  else if inHbm a then s.memRequest { q := .host, addr := a, n := 0, data := some l } (fun s => s.memWrite .host a l)
  else s.setBytes a l

/-- A host read of n bytes through a window that is enabled. -/
def State.barReads (s : State) (a n : Nat) (ecc : EccResult) : State :=
  if n = 0 then s.emit (.barRead a (some []))
  else if !mappedRange a n then (s.addrError .host).emit (.barRead a none)
  else if inRegs a then
    let (s, l) := s.barRegRead (a - regBase) n
    s.emit (.barRead a l)
  else if inHbm a then s.memRequest { q := .host, addr := a, n := n, data := none, ecc := ecc } (fun s => s.memRead .host a n ecc [])
  else s.emit (.barRead a (some (s.bytes a n)))

/-- BAR2_ACCESS: a write of bytes, or (none) a read of n bytes, at an offset of window `win`, whose base is that of the end of the preceding CLK_FAB
cycle (R551). -/
def execBar2Access (win : Fin 8) (off : BitVec 31) (data : Option (List (BitVec 8))) (n : BitVec 13) (ecc : EccResult) (x : AccessIn) (s : State) : Out :=
  whenUp s (fun s =>
    let s := s.advance x.now
    let a := s.getBefore fabCycle (R.PCI_WIN_BASE_BASE win) * 0x80000000 + off.toNat
    if s.getBefore fabCycle (R.PCI_WIN_BASE_ENABLE win) = 1 then data.elim (s.barReads a n.toNat ecc) (s.barWrite x a)
    else
      let s := s.blockNotice 7
      if data.isSome then s else s.emit (.barRead a none))

end Sys2Proof.Machine
end

