-- ==== Sys2Proof/Machine/Operands.lean ====
section
/-! DEFINITION. The issue of a Morop instruction: whether its agent may issue, the fetch of its word, its operands, its retirement, traps of an illegal operand,
and the caches of a management core (03_morop.md R80 to R93, R115, R125, R130 to R134). -/

namespace Sys2Proof.Machine

/-! ### Vectors and lines that come first (R102, R105, R133) -/

/-- The events of a thread that a slot takes as a vector. -/
def State.vecMask (s : State) (t : Nat) : Word :=
  (List.range 16).foldl (fun (m : Word) v =>
    if s.flag (R.SEQ_TH_VEC_VALID (t / 4) (t % 4) v) ∧ s.flag (R.SEQ_TH_VEC_VECTORED (t / 4) (t % 4) v) then
      m ||| BitVec.ofNat 64 (2 ^ s.get (R.SEQ_TH_VEC_EVENT (t / 4) (t % 4) v)) else m) 0

/-- The vectored events that are pending. -/
def State.vecPending (s : State) (t : Nat) : Word := (s.thr t).epend &&& s.vecMask t

/-- Whether a vector is to be taken before the thread's next instruction (R102). -/
def State.vectorDue (s : State) (t : Nat) : Bool := (s.thr t).ven && decide (s.vecPending t ≠ 0)

/-- Whether a core's next act is to enter its handler for a line (R133). -/
def State.lineDue (s : State) (k : Nat) : Bool :=
  (s.core k).irqOn && !(s.core k).inHandler && decide ((s.core k).linePend &&& (s.core k).lineEn ≠ 0)

/-- Lowest set bit of a word. -/
def lowestBit (w : Nat) : Nat := ((List.range 64).find? (fun i => bitAt w i)).getD 0

/-! ### Who may issue (R80, R82, R645, R651) -/

/-- An agent that the device lets run: a thread of a clocked sequencer, or a core that is not held in reset. -/
def State.runs (s : State) (a : Agent) : Bool :=
  s.live && (match a with | .thread _ => true | .core k => !(s.core k).held)

/-- Key of the word at a thread's PC. -/
def State.pcKey (s : State) (t : Nat) : Nat := seqKey (t / 4) (s.get (R.SEQ_TH_IMAP_BASE (t / 4) (t % 4)) + (s.thr t).pc)

/-! ### The issue slot of a sequencer (R80 to R84) -/

/-- A context acts for n CLK_SEQ cycles from now on: a thread may issue again after them, and its sequencer's slot is held as long. -/
def State.hold (s : State) (i n : Nat) : State :=
  if i < 256 then
    let c := seqCycle s.raw
    let p := s.turn i
    s.setTurn i { p with next := max p.next (c + max 1 n), hold := if n = 0 then p.hold else c + n }
  else s

/-- A result for rd can be used n CLK_SEQ cycles from now on. -/
def State.later (s : State) (i rd n : Nat) : State :=
  if i < 256 then
    let p := s.turn i
    s.setTurn i { p with ready := if n ≤ 1 ∨ rd = 0 then tdel p.ready rd else tput p.ready rd (seqCycle s.raw + n) }
  else s

/-- A divide blocks its thread for 20 cycles, in which the other threads of the sequencer issue (R82, R110). -/
def State.divides (s : State) (i : Nat) : State :=
  if i < 256 then
    let c := seqCycle s.raw
    let p := s.turn i
    s.setTurn i { p with next := max p.next (c + 20), hold := c + 1, div := c + 20 }
  else s

/-- The general registers that the instruction of a word reads (R107, R110). -/
def readsOf (w : Nat) : List Nat :=
  let op := w / 2 ^ 26 % 64
  let a := w / 2 ^ 21 % 32
  let b := w / 2 ^ 16 % 32
  let c := w / 2 ^ 11 % 32
  let func := w % 2048
  if op = 0x00 then (if func = 0x016 ∨ func = 0x017 then [b] else [b, c])
  else if op = 0x0B then [a]
  else if op ≤ 0x16 ∨ op = 0x27 ∨ op = 0x28 ∨ op = 0x2A ∨ op = 0x2F then [b]
  else if op ≤ 0x1E ∨ (0x20 ≤ op ∧ op ≤ 0x25) then [a, b]
  else if op = 0x1F then (if func = 0x003 then [a, b, c] else [b, c])
  else if op = 0x29 ∨ op = 0x2C then [b, c]
  else if op = 0x2B then (if func = 0 then [b] else [b, c])
  else []

/-- The CLK_SEQ cycle from which a thread can issue its next instruction: it has ended the one before, and the operands are available (R83). -/
def State.ownCycle (s : State) (t : Nat) : Nat :=
  (readsOf (s.seqRd (s.pcKey t) 4)).foldl (fun c r => max c ((tfind (s.turn t).ready r).getD 0)) (s.turn t).next

/-- The cycle in which a thread whose command comes at raw time `now` issues: no other thread of its sequencer holds the slot then. -/
def State.issueCycle (s : State) (t now : Nat) : Nat :=
  (List.range 4).foldl (fun c j => max c (s.turn (t / 4 * 4 + j)).hold) (max (seqCycle (max s.raw now)) (s.ownCycle t))

/-- The raw time at which the instruction of a command issues. -/
def State.issueAt (s : State) (x : Issue) : Nat :=
  match x.agent with
  | .thread t =>
    let c := s.issueCycle t x.now
    if c = seqCycle (max s.raw x.now) then x.now else seqNs c
  | .core _ => x.now

/-- The thread of a sequencer that issued last; with none yet, thread 3. -/
def State.lastIssuer (s : State) (n : Nat) : Nat :=
  (List.range 4).foldl (fun b j => if (s.turn (4 * n + b)).last ≤ (s.turn (4 * n + j)).last then j else b) 0

/-- Whether thread v comes before thread t of its sequencer: a higher priority, or among equals a turn that comes first after the thread that issued
last (R80; that turns go round by number is a DESIGN CHOICE, log 19). -/
def State.outranksIssue (s : State) (v t : Nat) : Bool :=
  let place := fun u => (u + 3 - s.lastIssuer (t / 4)) % 4
  decide (s.prio t < s.prio v) || (decide (s.prio v = s.prio t) && decide (place (v % 4) < place (t % 4)))

/-- Whether thread t has the issue slot in a cycle: no other RUNNABLE thread of its sequencer that can issue then comes before it (R80, R81). -/
def State.hasSlot (s : State) (t c : Nat) : Bool :=
  (List.range 4).all (fun j =>
    let v := t / 4 * 4 + j
    decide (v = t) || !((s.thr v).st = .runnable && decide (s.ownCycle v ≤ c) && s.outranksIssue v t))

/-- Whether an agent may issue at the time of a command, but for a vector or a line that comes first. -/
def State.hasTurn (s : State) (x : Issue) : Bool :=
  s.runs x.agent && decide ((s.thr (agentIx x.agent)).st = .runnable) &&
    (match x.agent with | .thread t => s.hasSlot t (s.issueCycle t x.now) | .core _ => true)

/-- Whether a vector or an interrupt line is due before an agent's next instruction (R102, R133). -/
def State.entryDue (s : State) : Agent → Bool
  | .thread t => s.vectorDue t
  | .core k => s.lineDue k

/-- Whether an agent's next act is to issue an instruction. -/
def State.mayIssue (s : State) (x : Issue) : Bool := s.hasTurn x && !s.entryDue x.agent

/-! ### What an instruction does to its context -/

/-- An instruction completes: the PC moves on, and its cycles are counted (R84, R87). -/
def State.retire (s : State) (i cycles : Nat) (f : Thread → Thread) : State :=
  let t := s.thr i
  (s.setThr i (f { t with pc := (t.pc + 4) % 2 ^ 64, instret := t.instret + 1, cycles := t.cycles + cycles })).hold i cycles

/-- An instruction completes with a value for rd, which can be used as soon as the next instruction issues. -/
def State.retireRd (s : State) (i cycles : Nat) (rd : Nat) (v : Word) : State := (s.retire i cycles (fun t => t.wg rd v)).later i rd 1

/-- An instruction completes and execution goes on at `pc`. -/
def State.retireTo (s : State) (i cycles pc : Nat) (f : Thread → Thread) : State := s.retire i cycles (fun t => { f t with pc := pc })

/-- An instruction's issue ends in waiting. -/
def State.blockOn (s : State) (i cycles : Nat) (b : Block) : State :=
  let t := s.thr i
  (s.setThr i { t with st := .blocked, block := b, cycles := t.cycles + cycles }).hold i cycles

/-- A blocked instruction completes. -/
def State.unblock (s : State) (i : Nat) (f : Thread → Thread) : State :=
  s.retire i 0 (fun t => f { t with st := .runnable, block := .none })

/-- A general register. -/
def State.gr (s : State) (i : Nat) (r : Reg) : Word := (s.thr i).rg r

/-- An address formed as rs1 plus a signed immediate, modulo 2^64 (R88). -/
def State.addrOf (s : State) (i : Nat) (rs1 : Reg) (imm : BitVec 16) : Word := s.gr i rs1 + BitVec.ofInt 64 (sext imm)

/-! ### Caches of a management core (R130, R131; their line and size: log 9) -/

/-- Lines that a cache of 32 KB holds. -/
def cacheLines : Nat := 32768 / Config.lineBytes

/-- The line that holds an address. -/
def lineOf (a : Nat) : Nat := a / Config.lineBytes

/-- A dirty line goes back to memory. -/
def State.writeLine (s : State) (line : Nat) (l : List (BitVec 8)) : State :=
  let a := line * Config.lineBytes
  if !s.writable a Config.lineBytes then s else if inHbm a then s.dStore a l else s.setBytes a l

/-- The data cache of core k gives up a line, to memory first where it is dirty. -/
def State.dropData (s : State) (k line : Nat) (back : Bool) : State :=
  match tfind (s.core k).dcache line with
  | none => s
  | some l =>
    let s := if back ∧ l.dirty then s.writeLine line l.bytes else s
    s.setCore k { s.core k with dcache := tdel (s.core k).dcache line }

/-- Room for one more line in the data cache: of a full cache some line gives way (free; log 49). -/
def State.dataRoom (s : State) (k : Nat) : State :=
  let l := (s.core k).dcache
  if l.length < cacheLines then s
  else ((l[s.free.toNat % l.length]?).elim s (fun (p : Nat × CacheLine) => s.dropData k p.1 true)).took

/-- A fetched line enters the data cache. -/
def State.fillData (s : State) (k line : Nat) (l : List (BitVec 8)) : State :=
  let s := s.dataRoom k
  s.setCore k { s.core k with dcache := tput (s.core k).dcache line ⟨l, false⟩ }

/-- A fetched line enters the instruction cache. -/
def State.fillInstr (s : State) (k line : Nat) (l : List (BitVec 8)) : State :=
  let c := (s.core k).icache
  let put := fun (s : State) (c : Table (List (BitVec 8))) => s.setCore k { s.core k with icache := tput c line l }
  if c.length < cacheLines then put s c else (put s (c.eraseIdx (s.free.toNat % c.length))).took

/-! ### Fetch (R93, R115, R125, R134) -/

/-- What a fetch brings: a word, a trap with its TVAL, or a line of the instruction cache to fetch first. -/
inductive Fetch where
  | word (w : Nat)
  | trap (cause : Nat) (tval : Word)
  | miss (line : Nat)
  deriving DecidableEq, Repr

/-- The fetch of a thread. -/
def State.fetchThread (s : State) (t : Nat) : Fetch :=
  let th := s.thr t
  if s.get (R.SEQ_TH_IMAP_LEN (t / 4) (t % 4)) ≤ th.pc then .trap cFET (BitVec.ofNat 64 th.pc)
  else if s.flag (R.SEQ_TH_CTRL_RUNLIM_EN (t / 4) (t % 4)) ∧ s.get (R.SEQ_TH_RUNLIM_LIMIT (t / 4) (t % 4)) < th.runcount + 1 then
    .trap cRLM (BitVec.ofNat 64 th.runcount)
  else if s.seqBadAt (s.pcKey t) 4 then .trap cECC (BitVec.ofNat 64 (s.pcKey t % 0x10000))
  else .word (s.seqRd (s.pcKey t) 4)

/-- The fetch of a core: through its instruction cache. -/
def State.fetchCore (s : State) (k : Nat) : Fetch :=
  let pc := (s.thr (256 + k)).pc
  match tfind (s.core k).icache (lineOf pc) with
  | some l => .word (leNat ((l.drop (pc % Config.lineBytes)).take 4))
  | none => .miss (lineOf pc)

/-- The fetch of an agent. -/
def State.fetch (s : State) : Agent → Fetch
  | .thread t => s.fetchThread t
  | .core k => s.fetchCore k

/-- A core's cache has an uncorrectable error: the line has been dropped, and the core traps with cause ECC (R134). -/
def State.cacheError (s : State) (k : Nat) (tval : Word) : State :=
  let again := (s.core k).inHandler
  let s := s.trapCore k cECC tval
  if again then s else s.coreErr k

/-- The word fetched has an uncorrectable error (R125, R134). -/
def State.badWord (s : State) : Agent → State
  | .thread t =>
    let w := s.pcKey t / 8
    { s with seqBad := if s.seqBad.contains w then s.seqBad else w :: s.seqBad }.trapThread t cECC (BitVec.ofNat 64 (s.pcKey t % 0x10000))
  | .core k =>
    let pc := (s.thr (256 + k)).pc
    let s := s.setCore k { s.core k with icache := tdel (s.core k).icache (lineOf pc) }
    s.cacheError k (BitVec.ofNat 64 pc)

/-- A single-bit error of a sequencer memory is corrected and counted (R125). -/
def State.corrected (s : State) (a : Agent) (c : Check) : State :=
  match a, c with
  | .thread t, .corrected => s.inc (R.SEQ_ECC_COUNT_COUNT (t.val / 4))
  | _, _ => s

/-- An agent has issued in the present cycle: among equals it is the last to have a turn again (R80). -/
def State.issuedNow (s : State) : Agent → State
  | .thread t => s.setTurn t { s.turn t with last := seqCycle s.raw + 1 }
  | .core _ => s

/-- The state in which the effect of an issued instruction acts: time has come, a corrected error is counted, and RUNCOUNT has counted the
instruction (R115). -/
def State.issuing (s : State) (x : Issue) : State :=
  let u := ((s.advance (s.issueAt x)).corrected x.agent x.code).issuedNow x.agent
  u.setThr (agentIx x.agent) { u.thr (agentIx x.agent) with runcount := (u.thr (agentIx x.agent)).runcount + 1 }

/-- The agent's next instruction is fetched, and issued with effect `f` if it is the word `w`: of an agent whose memory holds another word the
command says nothing (log 1). -/
def State.issueWord (s : State) (x : Issue) (w : Nat) (f : State → State) : State :=
  let u := s.advance (s.issueAt x)
  match u.fetch x.agent with
  | .trap c v => u.trap (agentIx x.agent) c v
  | .miss line => u.blockOn (agentIx x.agent) 0 (.fill true line)
  | .word v => if x.code = .bad then u.badWord x.agent else if v = w then f (s.issuing x) else u

/-- Whether an issue has ended in a trap: the thread is TRAPPED, or the core is in its handler. -/
def State.hasTrapped (s : State) : Agent → Bool
  | .thread t => decide ((s.thr t).st = .trapped)
  | .core k => (s.core k).inHandler

/-- An instruction with word `w` and effect `f` is issued by its agent, if its agent's next act is an issue. Where a vector or a line is due, an
instruction that traps is still taken first (R106, R133). -/
def whenIssued (x : Issue) (w : Nat) (s : State) (f : State → State) : Out :=
  .next (if s.mayIssue x then s.issueWord x w f
    else if s.hasTurn x ∧ (s.issueWord x w f).hasTrapped x.agent then s.issueWord x w f
    else s)

/-- An instruction traps with cause ILL; TVAL is its word (R124). -/
def State.illegal (s : State) (x : Issue) (w : Nat) : State := s.trap (agentIx x.agent) cILL (BitVec.ofNat 64 w)

/-- An instruction that takes one cycle and leaves a value in rd. -/
def State.alu (s : State) (x : Issue) (cycles : Nat) (rd : Reg) (v : Word) : State := s.retireRd (agentIx x.agent) cycles rd v

/-- UNDEFINED_INSTRUCTION: a word that is no instruction (R108, R109). -/
def execUndefinedInstruction (x : Issue) (word : BitVec 32) (s : State) : Out :=
  if undefinedWord word.toNat then whenIssued x word.toNat s (fun s => s.illegal x word.toNat) else .next s

end Sys2Proof.Machine
end

