-- ==== Sys2Proof/Machine/MoropAlu.lean ====
section
/-! DEFINITION. Arithmetic, logic and immediate forms of Morop (03_morop.md R110). -/

namespace Sys2Proof.Machine

/-! ### Shared forms -/

/-- An instruction of opcode 0x00: `op` of rs1 and rs2, which a later instruction can use after `latency` cycles (R84). -/
def aluR (func latency : Nat) (op : Word → Word → Word) (x : Issue) (rd rs1 rs2 : Reg) (s : State) : Out :=
  whenIssued x (encR 0x00 rd rs1 rs2 func) s (fun s =>
    (s.alu x 1 rd (op (s.gr (agentIx x.agent) rs1) (s.gr (agentIx x.agent) rs2))).later (agentIx x.agent) rd latency)

/-- A divide: 20 cycles, in which its thread is BLOCKED (R82). -/
def divR (func : Nat) (op : Word → Word → Word) (x : Issue) (rd rs1 rs2 : Reg) (s : State) : Out :=
  whenIssued x (encR 0x00 rd rs1 rs2 func) s (fun s =>
    (s.alu x 20 rd (op (s.gr (agentIx x.agent) rs1) (s.gr (agentIx x.agent) rs2))).divides (agentIx x.agent))

/-- An immediate form: `op` of rs1 and the 16-bit field. -/
def aluI (opcode : Nat) (op : Word → BitVec 16 → Word) (x : Issue) (rd rs1 : Reg) (imm : BitVec 16) (s : State) : Out :=
  whenIssued x (encI opcode rd rs1 imm) s (fun s => s.alu x 1 rd (op (s.gr (agentIx x.agent) rs1) imm))

/-- A shift by an immediate: bits [15:6] of the field must be 0. -/
def shiftI (opcode : Nat) (op : Word → Nat → Word) (x : Issue) (rd rs1 : Reg) (imm : BitVec 16) (s : State) : Out :=
  let w := encI opcode rd rs1 imm
  whenIssued x w s (fun s => if 64 ≤ imm.toNat then s.illegal x w else s.alu x 1 rd (op (s.gr (agentIx x.agent) rs1) imm.toNat))

/-- A truth value as the set instructions write it. -/
def ofBool (b : Bool) : Word := if b then 1 else 0

/-- A signed result kept within the signed 64-bit range. -/
def saturate (v : Int) : Word := BitVec.ofInt 64 (min (max v (-(2 ^ 63))) (2 ^ 63 - 1))

/-- The shift amount rs2[5:0]. -/
def shiftBy (b : Word) : Nat := b.toNat % 64

/-- Number of leading zeros. -/
def leadingZeros (a : Word) : Nat := ((List.range 64).find? (fun i => bitAt a.toNat (63 - i))).getD 64

/-- An immediate extended with its sign, and with zeros. -/
def immS (imm : BitVec 16) : Word := BitVec.ofInt 64 (sext imm)
def immZ (imm : BitVec 16) : Word := BitVec.ofNat 64 imm.toNat

/-- (rs1 × rs2 + 2^15) ≫ 16 of signed numbers, saturated. -/
def mulq (a b : Word) : Word := saturate ((a.toInt * b.toInt + 2 ^ 15) / 2 ^ 16)

/-- rd with 16 bits replaced. -/
def insert16 (v : Word) (lane : BitVec 2) (imm : BitVec 16) : Word := withBits v (16 * lane.toNat) 16 imm.toNat

/-! ### Opcode 0x00 -/

/-- ADD. -/
def execAdd (x : Issue) (rd rs1 rs2 : Reg) (s : State) : Out := aluR 0x001 1 (fun a b => a + b) x rd rs1 rs2 s
/-- SUB. -/
def execSub (x : Issue) (rd rs1 rs2 : Reg) (s : State) : Out := aluR 0x002 1 (fun a b => a - b) x rd rs1 rs2 s
/-- AND. -/
def execAnd (x : Issue) (rd rs1 rs2 : Reg) (s : State) : Out := aluR 0x003 1 (fun a b => a &&& b) x rd rs1 rs2 s
/-- OR. -/
def execOr (x : Issue) (rd rs1 rs2 : Reg) (s : State) : Out := aluR 0x004 1 (fun a b => a ||| b) x rd rs1 rs2 s
/-- XOR. -/
def execXor (x : Issue) (rd rs1 rs2 : Reg) (s : State) : Out := aluR 0x005 1 (fun a b => a ^^^ b) x rd rs1 rs2 s
/-- SHL. -/
def execShl (x : Issue) (rd rs1 rs2 : Reg) (s : State) : Out := aluR 0x006 1 (fun a b => a <<< shiftBy b) x rd rs1 rs2 s
/-- SHR. -/
def execShr (x : Issue) (rd rs1 rs2 : Reg) (s : State) : Out := aluR 0x007 1 (fun a b => a >>> shiftBy b) x rd rs1 rs2 s
/-- SRA. -/
def execSra (x : Issue) (rd rs1 rs2 : Reg) (s : State) : Out := aluR 0x008 1 (fun a b => a.sshiftRight (shiftBy b)) x rd rs1 rs2 s
/-- SLT. -/
def execSlt (x : Issue) (rd rs1 rs2 : Reg) (s : State) : Out := aluR 0x009 1 (fun a b => ofBool (a.slt b)) x rd rs1 rs2 s
/-- SLTU. -/
def execSltu (x : Issue) (rd rs1 rs2 : Reg) (s : State) : Out := aluR 0x00A 1 (fun a b => ofBool (a.ult b)) x rd rs1 rs2 s
/-- MIN. -/
def execMin (x : Issue) (rd rs1 rs2 : Reg) (s : State) : Out := aluR 0x00B 1 (fun a b => if a.slt b then a else b) x rd rs1 rs2 s
/-- MAX. -/
def execMax (x : Issue) (rd rs1 rs2 : Reg) (s : State) : Out := aluR 0x00C 1 (fun a b => if a.slt b then b else a) x rd rs1 rs2 s
/-- MINU. -/
def execMinu (x : Issue) (rd rs1 rs2 : Reg) (s : State) : Out := aluR 0x00D 1 (fun a b => if a.ult b then a else b) x rd rs1 rs2 s
/-- MAXU. -/
def execMaxu (x : Issue) (rd rs1 rs2 : Reg) (s : State) : Out := aluR 0x00E 1 (fun a b => if a.ult b then b else a) x rd rs1 rs2 s
/-- ADDS. -/
def execAdds (x : Issue) (rd rs1 rs2 : Reg) (s : State) : Out := aluR 0x00F 1 (fun a b => saturate (a.toInt + b.toInt)) x rd rs1 rs2 s
/-- SUBS. -/
def execSubs (x : Issue) (rd rs1 rs2 : Reg) (s : State) : Out := aluR 0x010 1 (fun a b => saturate (a.toInt - b.toInt)) x rd rs1 rs2 s
/-- MUL. -/
def execMul (x : Issue) (rd rs1 rs2 : Reg) (s : State) : Out := aluR 0x011 3 (fun a b => a * b) x rd rs1 rs2 s
/-- MULHU. -/
def execMulhu (x : Issue) (rd rs1 rs2 : Reg) (s : State) : Out :=
  aluR 0x012 3 (fun a b => BitVec.ofNat 64 (a.toNat * b.toNat / 2 ^ 64)) x rd rs1 rs2 s
/-- MULQ. -/
def execMulq (x : Issue) (rd rs1 rs2 : Reg) (s : State) : Out := aluR 0x013 3 mulq x rd rs1 rs2 s
/-- DIVU. -/
def execDivu (x : Issue) (rd rs1 rs2 : Reg) (s : State) : Out :=
  divR 0x014 (fun a b => if b = 0 then BitVec.allOnes 64 else a.udiv b) x rd rs1 rs2 s
/-- REMU. -/
def execRemu (x : Issue) (rd rs1 rs2 : Reg) (s : State) : Out := divR 0x015 (fun a b => if b = 0 then a else a.umod b) x rd rs1 rs2 s
/-- CLZ. -/
def execClz (x : Issue) (rd rs1 rs2 : Reg) (s : State) : Out := aluR 0x016 1 (fun a _ => BitVec.ofNat 64 (leadingZeros a)) x rd rs1 rs2 s
/-- POPC. -/
def execPopc (x : Issue) (rd rs1 rs2 : Reg) (s : State) : Out := aluR 0x017 1 (fun a _ => BitVec.ofNat 64 (popCount a.toNat 64)) x rd rs1 rs2 s

/-! ### Immediate forms -/

/-- ADDI. -/
def execAddi (x : Issue) (rd rs1 : Reg) (imm : BitVec 16) (s : State) : Out := aluI 0x01 (fun a i => a + immS i) x rd rs1 imm s
/-- ANDI. -/
def execAndi (x : Issue) (rd rs1 : Reg) (imm : BitVec 16) (s : State) : Out := aluI 0x02 (fun a i => a &&& immZ i) x rd rs1 imm s
/-- ORI. -/
def execOri (x : Issue) (rd rs1 : Reg) (imm : BitVec 16) (s : State) : Out := aluI 0x03 (fun a i => a ||| immZ i) x rd rs1 imm s
/-- XORI. -/
def execXori (x : Issue) (rd rs1 : Reg) (imm : BitVec 16) (s : State) : Out := aluI 0x04 (fun a i => a ^^^ immZ i) x rd rs1 imm s
/-- SLTI. -/
def execSlti (x : Issue) (rd rs1 : Reg) (imm : BitVec 16) (s : State) : Out := aluI 0x05 (fun a i => ofBool (a.slt (immS i))) x rd rs1 imm s
/-- SLTIU. -/
def execSltiu (x : Issue) (rd rs1 : Reg) (imm : BitVec 16) (s : State) : Out := aluI 0x06 (fun a i => ofBool (a.ult (immS i))) x rd rs1 imm s
/-- SHLI. -/
def execShli (x : Issue) (rd rs1 : Reg) (imm : BitVec 16) (s : State) : Out := shiftI 0x08 (fun a n => a <<< n) x rd rs1 imm s
/-- SHRI. -/
def execShri (x : Issue) (rd rs1 : Reg) (imm : BitVec 16) (s : State) : Out := shiftI 0x09 (fun a n => a >>> n) x rd rs1 imm s
/-- SRAI. -/
def execSrai (x : Issue) (rd rs1 : Reg) (imm : BitVec 16) (s : State) : Out := shiftI 0x0A (fun a n => a.sshiftRight n) x rd rs1 imm s

/-- INSI: rd is both read and written. -/
def execInsi (x : Issue) (rd : Reg) (lane : BitVec 2) (imm : BitVec 16) (s : State) : Out :=
  whenIssued x (encN 0x0B rd lane imm) s (fun s => s.alu x 1 rd (insert16 (s.gr (agentIx x.agent) rd) lane imm))

end Sys2Proof.Machine
end

