-- ==== Sys2Proof/Machine/MoropMem.lean ====
section
/-! DEFINITION. Loads, stores, far accesses and atomic operations of Morop (03_morop.md R88 to R95, R110, R125, R130, R134). -/

namespace Sys2Proof.Machine

/-! ### The address space of a thread (R88 to R91) -/

/-- Where a thread's access leads: to its sequencer's data memory, by key, or to its channel's context window, by BAR0 offset. -/
inductive Space where
  | data (key : Nat)
  | window (off : Nat)
  deriving DecidableEq, Repr

/-- Key of a data address of a thread. -/
def State.dataKey (s : State) (t a : Nat) : Nat := seqKey (t / 4) (0x8000 + s.get (R.SEQ_TH_DMAP_BASE (t / 4) (t % 4)) + a)

/-- Length of a thread's data partition. -/
def State.dataLen (s : State) (t : Nat) : Nat := s.get (R.SEQ_TH_DMAP_LEN (t / 4) (t % 4))

/-- The space of an access of n bytes at a; none where R89 lets no such access be. -/
def State.space (s : State) (t a n : Nat) : Option Space :=
  let ch := (s.thr t).chan
  if a + n ≤ s.dataLen t then some (.data (s.dataKey t a))
  else if ch < 256 ∧ 0x10000 ≤ a ∧ a + n ≤ 0x40000 ∧ (4 ≤ n ∨ (0x18000 ≤ a ∧ a + n ≤ 0x20000)) then some (.window (ctxBase + ctxStride * ch + (a - 0x10000)))
  else none

/-- The address of a trap. -/
def tval (a : Nat) : Word := BitVec.ofNat 64 a

/-- The trap of an access of n bytes at a by a thread, or where it leads: BND comes before MAL (R89, R90). -/
def State.reach (s : State) (t a n : Nat) : Except Nat Space :=
  match s.space t a n with
  | none => .error cBND
  | some sp => if a % n = 0 then .ok sp else .error cMAL

/-- A word of sequencer data memory is found to have an uncorrectable error (R125). -/
def State.badData (s : State) (t key : Nat) : State :=
  let w := key / 8
  { s with seqBad := if s.seqBad.contains w then s.seqBad else w :: s.seqBad }.trapThread t cECC (tval (key % 0x10000))

/-- Loaded bytes as rd takes them. -/
def extend (signed : Bool) (n v : Nat) : Word := if signed then BitVec.ofInt 64 (signedOf v (8 * n)) else BitVec.ofNat 64 v

/-- A thread loads n bytes. -/
def State.loadThread (s : State) (t : Nat) (signed : Bool) (n rd a : Nat) (ecc : Check) : State :=
  match s.reach t a n with
  | .error c => s.trapThread t c (tval a)
  | .ok (.data key) =>
    if ecc = .bad ∨ s.seqBadAt key n then s.badData t key
    else ((s.corrected (.thread (Fin.ofNat 256 t)) ecc).retireRd t 1 rd (extend signed n (s.seqRd key n))).later t rd 2
  | .ok (.window off) =>
    let (s, v) := s.busRead (.recipe (Fin.ofNat 256 t)) off n
    (s.retireRd t 1 rd (extend signed n (v.getD 0))).later t rd 8

/-- Bytes enter sequencer data memory; a whole 8-byte word gets a new check code (R125). -/
def State.storeData (s : State) (key n v : Nat) : State :=
  let s := s.seqWr key n v
  if n = 8 then { s with seqBad := s.seqBad.filter (fun w => decide (w ≠ key / 8)) } else s

/-- Raw ns until a context-window store is complete: four CLK_SEQ cycles (R91). -/
def storeNs : Nat := 6

/-- The effect of an access that is made in the fourth CLK_SEQ cycle from now, with the time of that cycle: a shadowed field written then lands as of it
(R65, R66, R91). -/
def State.later4 (s : State) (f : State → State) : State := { f (s.advance (seqNs (seqCycle s.raw + 4))) with raw := s.raw }

/-- A thread stores n bytes. Those of the context window are made with the time of the fourth cycle after (R91); that another command of the four cycles
finds them made is log 59. -/
def State.storeThread (s : State) (t n a v : Nat) : State :=
  match s.reach t a n with
  | .error c => s.trapThread t c (tval a)
  | .ok (.data key) => (s.storeData key n v).retire t 1 (fun t => t)
  | .ok (.window off) =>
    let s := s.later4 (fun s => s.busWrite (.recipe (Fin.ofNat 256 t)) noInput off n v)
    s.retire t 1 (fun th => { th with storesUntil := s.raw + storeNs })

/-! ### Atomic operations (R110) -/

/-- What an atomic operation leaves in memory: `t` the word read, `b` rs2, `d` rd. -/
def atomic (op : MemOp) (t b d : Nat) : Nat :=
  match op with
  | .add => (t + b) % 2 ^ 64
  | .cas => if t = d then b else t
  | _ => b

/-- A thread's atomic operation, in the data partition only. -/
def State.atomicThread (s : State) (t : Nat) (op : MemOp) (rd a b : Nat) (ecc : Check) : State :=
  if s.dataLen t < a + 8 then s.trapThread t cBND (tval a)
  else if a % 8 ≠ 0 then s.trapThread t cMAL (tval a)
  else
    let key := s.dataKey t a
    if ecc = .bad ∨ s.seqBadAt key 8 then s.badData t key
    else
      let v := s.seqRd key 8
      (((s.corrected (.thread (Fin.ofNat 256 t)) ecc).storeData key 8 (atomic op v b ((s.thr t).rg rd).toNat)).retireRd t 2 rd (BitVec.ofNat 64 v)).later t rd 3

/-! ### A management core: cached memory, uncached registers (R130, R134) -/

/-- n bytes of a cached line from an address. -/
def CacheLine.rd (l : CacheLine) (a n : Nat) : Nat := leNat ((l.bytes.drop (a % Config.lineBytes)).take n)

/-- A cached line with n bytes stored at an address. -/
def CacheLine.wr (l : CacheLine) (a n v : Nat) : CacheLine :=
  let o := a % Config.lineBytes
  ⟨l.bytes.take o ++ leBytes n v ++ l.bytes.drop (o + n), true⟩

/-- What an access does with a word: what it leaves in rd, if anything, and in memory, if anything. -/
def MemOp.run (op : MemOp) (n v data d : Nat) : Option Word × Option Nat :=
  match op with
  | .load signed => (some (extend signed n v), none)
  | .store => (none, some data)
  | _ => (some (BitVec.ofNat 64 v), some (atomic op v data d))

/-- An access that a core's data cache serves. -/
def State.cached (s : State) (k : Nat) (op : MemOp) (n rd a data cycles : Nat) (l : CacheLine) : State :=
  let i := 256 + k
  let (r, m) := op.run n (l.rd a n) data ((s.thr i).rg rd).toNat
  let s := m.elim s (fun v => s.setCore k { s.core k with dcache := tput (s.core k).dcache (lineOf a) (l.wr a n v) })
  s.retire i cycles (fun t => r.elim t (t.wg rd))

/-- A core's access of n bytes at a; no region of R45 there: a store is discarded, any other access gets an error response (R47, R95). -/
def State.coreAccess (s : State) (k : Nat) (op : MemOp) (n rd a data cycles : Nat) (ecc : Check) : State :=
  let i := 256 + k
  if a % n ≠ 0 then s.trapCore k cMAL (tval a)
  else if !mappedRange a n then
    let s := s.addrError (.mpc (Fin.ofNat 4 k))
    if op = .store then s.retire i cycles (fun t => t) else s.trapCore k cFER (tval a)
  else if inRegs a then s.blockOn i cycles (.far op n rd a (BitVec.ofNat 64 data))
  else match tfind (s.core k).dcache (lineOf a) with
    | none => s.blockOn i 0 (.fill false (lineOf a))
    | some l =>
      if ecc = .bad then
        (s.setCore k { s.core k with dcache := tdel (s.core k).dcache (lineOf a) }).cacheError k (tval a)
      else s.cached k op n rd a data cycles l

/-! ### Loads, stores, atomics -/

/-- A load. -/
def loadI (opcode : Nat) (signed : Bool) (n : Nat) (x : Issue) (rd rs1 : Reg) (imm : BitVec 16) (ecc : Check) (s : State) : Out :=
  whenIssued x (encI opcode rd rs1 imm) s (fun s =>
    let a := (s.addrOf (agentIx x.agent) rs1 imm).toNat
    match x.agent with
    | .thread t => s.loadThread t signed n rd a ecc
    | .core k => s.coreAccess k (.load signed) n rd a 0 1 ecc)

/-- A store: the data register is in the field of rd. -/
def storeI (opcode n : Nat) (x : Issue) (rd rs1 : Reg) (imm : BitVec 16) (s : State) : Out :=
  whenIssued x (encI opcode rd rs1 imm) s (fun s =>
    let a := (s.addrOf (agentIx x.agent) rs1 imm).toNat
    let v := (s.gr (agentIx x.agent) rd).toNat % 256 ^ n
    match x.agent with
    | .thread t => s.storeThread t n a v
    | .core k => s.coreAccess k .store n 0 a v 1 .clean)

/-- An atomic operation. -/
def atomicR (func : Nat) (op : MemOp) (x : Issue) (rd rs1 rs2 : Reg) (ecc : Check) (s : State) : Out :=
  whenIssued x (encR 0x1F rd rs1 rs2 func) s (fun s =>
    let a := (s.gr (agentIx x.agent) rs1).toNat
    let b := (s.gr (agentIx x.agent) rs2).toNat
    match x.agent with
    | .thread t => s.atomicThread t op rd a b ecc
    | .core k => s.coreAccess k op 8 rd a b 2 ecc)

/-- LB. -/
def execLb (x : Issue) (rd rs1 : Reg) (imm : BitVec 16) (ecc : Check) (s : State) : Out := loadI 0x10 false 1 x rd rs1 imm ecc s
/-- LH. -/
def execLh (x : Issue) (rd rs1 : Reg) (imm : BitVec 16) (ecc : Check) (s : State) : Out := loadI 0x11 false 2 x rd rs1 imm ecc s
/-- LW. -/
def execLw (x : Issue) (rd rs1 : Reg) (imm : BitVec 16) (ecc : Check) (s : State) : Out := loadI 0x12 false 4 x rd rs1 imm ecc s
/-- LWS. -/
def execLws (x : Issue) (rd rs1 : Reg) (imm : BitVec 16) (ecc : Check) (s : State) : Out := loadI 0x13 true 4 x rd rs1 imm ecc s
/-- LD. -/
def execLd (x : Issue) (rd rs1 : Reg) (imm : BitVec 16) (ecc : Check) (s : State) : Out := loadI 0x14 false 8 x rd rs1 imm ecc s
/-- SB. -/
def execSb (x : Issue) (rd rs1 : Reg) (imm : BitVec 16) (s : State) : Out := storeI 0x18 1 x rd rs1 imm s
/-- SH. -/
def execSh (x : Issue) (rd rs1 : Reg) (imm : BitVec 16) (s : State) : Out := storeI 0x19 2 x rd rs1 imm s
/-- SW. -/
def execSw (x : Issue) (rd rs1 : Reg) (imm : BitVec 16) (s : State) : Out := storeI 0x1A 4 x rd rs1 imm s
/-- SD. -/
def execSd (x : Issue) (rd rs1 : Reg) (imm : BitVec 16) (s : State) : Out := storeI 0x1C 8 x rd rs1 imm s
/-- AADD. -/
def execAadd (x : Issue) (rd rs1 rs2 : Reg) (ecc : Check) (s : State) : Out := atomicR 0x001 .add x rd rs1 rs2 ecc s
/-- ASWP. -/
def execAswp (x : Issue) (rd rs1 rs2 : Reg) (ecc : Check) (s : State) : Out := atomicR 0x002 .swap x rd rs1 rs2 ecc s
/-- ACAS. -/
def execAcas (x : Issue) (rd rs1 rs2 : Reg) (ecc : Check) (s : State) : Out := atomicR 0x003 .cas x rd rs1 rs2 ecc s

/-! ### Far accesses (R94, R95, R130) -/

/-- Whether n bytes from a lie in far window w of a thread (R94, R135). An access must lie wholly in one window (DESIGN CHOICE, log 114). -/
def State.inFarWindow (s : State) (t a n w : Nat) : Bool :=
  let b := s.get (R.SEQ_TH_FWIN_BASE (t / 4) (t % 4) w) * 0x10000
  decide (b ≤ a) && decide (a + n ≤ b + s.get (R.SEQ_TH_FWIN_SIZE (t / 4) (t % 4) w) * 0x10000)

/-- Whether a thread may make a far access of n bytes at a. -/
def State.farOk (s : State) (t a n : Nat) : Bool := decide (a < 2 ^ 48) && (List.range 4).any (s.inFarWindow t a n)

/-- A far instruction: the agent is blocked until the access completes. -/
def farI (opcode : Nat) (op : MemOp) (n : Nat) (x : Issue) (rd rs1 : Reg) (imm : BitVec 16) (s : State) : Out :=
  whenIssued x (encI opcode rd rs1 imm) s (fun s =>
    let i := agentIx x.agent
    let a := (s.addrOf i rs1 imm).toNat
    if i < 256 ∧ !s.farOk i a n then s.trap i cFPM (tval a)
    else if a % n ≠ 0 then s.trap i cMAL (tval a)
    else s.blockOn i 1 (.far op n rd a (s.gr i rd)))

/-- LWF. -/
def execLwf (x : Issue) (rd rs1 : Reg) (imm : BitVec 16) (s : State) : Out := farI 0x15 (.load false) 4 x rd rs1 imm s
/-- LDF. -/
def execLdf (x : Issue) (rd rs1 : Reg) (imm : BitVec 16) (s : State) : Out := farI 0x16 (.load false) 8 x rd rs1 imm s
/-- SWF. -/
def execSwf (x : Issue) (rd rs1 : Reg) (imm : BitVec 16) (s : State) : Out := farI 0x1D .store 4 x rd rs1 imm s
/-- SDF. -/
def execSdf (x : Issue) (rd rs1 : Reg) (imm : BitVec 16) (s : State) : Out := farI 0x1E .store 8 x rd rs1 imm s

/-- The requester that an agent is. -/
def requesterOf : Agent → Requester
  | .thread t => .recipe t
  | .core k => .mpc k

/-- n bytes read at a device physical address, or none for an error response (R45, R47). -/
def State.deviceRead (s : State) (q : Requester) (a n : Nat) (ecc : EccResult) : State × Option Nat :=
  if !mappedRange a n then (s.addrError q, none)
  else if inRegs a then s.busRead q (a - regBase) n
  else if inHbm a then
    let (s, r) := s.memServe q a n ecc []
    (s, r.map leNat)
  else (s, some (s.rd a n))

/-- n bytes written at a device physical address; where none can be, the write is discarded (R45, R47). -/
def State.deviceWrite (s : State) (q : Requester) (y : AccessIn) (a n v : Nat) : State :=
  if !mappedRange a n then s.addrError q
  else if inRegs a then s.busWrite q y (a - regBase) n v
  else if !s.writable a n then s
  else if inHbm a then s.dWr a n v
  else s.wr a n v

/-- Whether a write of n bytes at a receives an error response: frame memory that serves no request (13_frame_memory.md MEM_CTRL). -/
def State.writeRefused (s : State) (a n : Nat) : Bool := mappedRange a n && inHbm a && !s.writable a n

/-- Whether an address waits for its stack's exit from self-refresh (R541). -/
def State.asleep (s : State) (a : Nat) : Bool := inHbm a && s.flag (R.MEM_SR_CTRL_IN_SR (s.place a).stack)

/-- A request reaches the stack of an address (R540). -/
def State.touch (s : State) (a : Nat) : State := if inHbm a then s.touchStack (s.place a).stack else s

/-- A far access, or a core's access to the register region, completes. -/
def State.farDone (s : State) (a : Agent) (op : MemOp) (n rd addr : Nat) (data : Word) (ecc : EccResult) (y : AccessIn) : State :=
  let i := agentIx a
  match op with
  | .store =>
    if s.writeRefused addr n then s.trap i cFER (tval addr)
    else (s.deviceWrite (requesterOf a) y addr n data.toNat).unblock i (fun t => t)
  | _ =>
    let (s, r) := s.deviceRead (requesterOf a) addr n ecc
    match r with
    | none => s.trap i cFER (tval addr)
    | some v =>
      let (w, m) := op.run n v data.toNat ((s.thr i).rg rd).toNat
      let s := m.elim s (s.deviceWrite (requesterOf a) y addr n)
      s.unblock i (fun t => w.elim t (t.wg rd))

/-- A line comes from memory into a core's cache, and the instruction is issued again; an error response traps (R130). -/
def State.fillDone (s : State) (k : Nat) (instr : Bool) (line : Nat) (ecc : EccResult) : State :=
  let a := line * Config.lineBytes
  let n := Config.lineBytes
  let (s, r) := if !mappedRange a n ∨ inRegs a then (s.addrError (.mpc (Fin.ofNat 4 k)), none)
    else if inHbm a then s.memServe (.mpc (Fin.ofNat 4 k)) a n ecc []
    else (s, some (s.bytes a n))
  match r with
  | none => s.trapCore k cFER (tval a)
  | some l =>
    let s := if instr then s.fillInstr k line l else s.fillData k line l
    s.setThr (256 + k) { s.thr (256 + k) with st := .runnable, block := .none }

/-- FAR_ACCESS_COMPLETE: the access for which an agent is blocked completes; `ecc` is what a read of frame memory finds. -/
def execFarAccessComplete (a : Agent) (ecc : EccResult) (y : AccessIn) (s : State) : Out :=
  .next (if s.runs a then
    let t := s.advance y.now
    match (t.thr (agentIx a)).block with
    | .far op n rd addr data => if t.asleep addr then t else (t.touch addr).farDone a op n rd addr data ecc y
    | .fill instr line =>
      if t.asleep (line * Config.lineBytes) then t
      else (t.touch (line * Config.lineBytes)).fillDone (agentIx a - 256) instr line ecc
    | _ => s
  else s)

end Sys2Proof.Machine
end

