-- ==== Sys2Proof/Machine/MoropControl.lean ====
section
/-! DEFINITION. Branches and jumps, the media, time, event and special-register instructions, WAIT, FENCE, HALT, traps by instruction, and the entry of a vector
(03_morop.md R79, R87, R98 to R106, R110 to R123, R130). -/

namespace Sys2Proof.Machine

/-! ### Branches and jumps -/

/-- PC plus four times an offset in instructions, modulo 2^64. -/
def targetOf (pc : Nat) (off : Int) : Nat := (BitVec.ofNat 64 pc + BitVec.ofInt 64 (4 * off)).toNat

/-- A conditional branch: one cycle, or two where it is taken. -/
def branchB (opcode : Nat) (cond : Word → Word → Bool) (x : Issue) (rs1 rs2 : Reg) (off : BitVec 16) (s : State) : Out :=
  whenIssued x (encB opcode rs1 rs2 off) s (fun s =>
    let i := agentIx x.agent
    if cond (s.gr i rs1) (s.gr i rs2) then s.retireTo i 2 (targetOf (s.thr i).pc (sext off)) (fun t => t) else s.retire i 1 (fun t => t))

/-- BEQ. -/
def execBeq (x : Issue) (rs1 rs2 : Reg) (off : BitVec 16) (s : State) : Out := branchB 0x20 (fun a b => decide (a = b)) x rs1 rs2 off s
/-- BNE. -/
def execBne (x : Issue) (rs1 rs2 : Reg) (off : BitVec 16) (s : State) : Out := branchB 0x21 (fun a b => decide (a ≠ b)) x rs1 rs2 off s
/-- BLT. -/
def execBlt (x : Issue) (rs1 rs2 : Reg) (off : BitVec 16) (s : State) : Out := branchB 0x22 (fun a b => a.slt b) x rs1 rs2 off s
/-- BGE. -/
def execBge (x : Issue) (rs1 rs2 : Reg) (off : BitVec 16) (s : State) : Out := branchB 0x23 (fun a b => !a.slt b) x rs1 rs2 off s
/-- BLTU. -/
def execBltu (x : Issue) (rs1 rs2 : Reg) (off : BitVec 16) (s : State) : Out := branchB 0x24 (fun a b => a.ult b) x rs1 rs2 off s
/-- BGEU. -/
def execBgeu (x : Issue) (rs1 rs2 : Reg) (off : BitVec 16) (s : State) : Out := branchB 0x25 (fun a b => !a.ult b) x rs1 rs2 off s

/-- The address after an agent's instruction, as a link. -/
def State.link (s : State) (i : Nat) : Word := BitVec.ofNat 64 (s.thr i).pc + 4

/-- JAL. -/
def execJal (x : Issue) (rd : Reg) (off : BitVec 21) (s : State) : Out :=
  whenIssued x (encJ 0x26 rd off) s (fun s =>
    let i := agentIx x.agent
    s.retireTo i 2 (targetOf (s.thr i).pc (sext off)) (fun t => t.wg rd (s.link i)))

/-- JALR: a target that is no multiple of 4 traps. -/
def execJalr (x : Issue) (rd rs1 : Reg) (imm : BitVec 16) (s : State) : Out :=
  whenIssued x (encI 0x27 rd rs1 imm) s (fun s =>
    let i := agentIx x.agent
    let t := s.addrOf i rs1 imm
    if t.toNat % 4 ≠ 0 then s.trap i cMAL t else s.retireTo i 2 t.toNat (fun th => th.wg rd (s.link i)))

/-! ### Tasks (R116 to R123, R754) -/

/-- Eight 64-bit words of a list of 64 bytes, little-endian. -/
def wordsOf (l : List (BitVec 8)) : List Nat := (List.range 8).map (fun j => leNat ((l.drop (8 * j)).take 8))

/-- A byte of device memory as a core sees it: through its data cache. -/
def State.coreByte (s : State) (k a : Nat) : BitVec 8 :=
  match tfind (s.core k).dcache (lineOf a) with
  | some l => l.bytes.getD (a % Config.lineBytes) 0
  | none => s.dByte a

/-- The descriptor at an agent's data address, or the trap that reading it meets: BND, FER, MAL or ECC. BND is the model's choice for a core's
descriptor at an unmapped or a register address (log 117). -/
def State.descAt (s : State) (g : Agent) (a : Nat) (ecc : Check) : Except Nat Desc :=
  match g with
  | .thread t =>
    if s.dataLen t < a + 64 then .error cBND
    else if a % 8 ≠ 0 then .error cMAL
    else if ecc = .bad ∨ s.seqBadAt (s.dataKey t a) 64 then .error cECC
    else .ok (descOf ((List.range 8).map (fun j => s.seqRd (s.dataKey t a + 8 * j) 8)))
  | .core k =>
    if !mappedRange a 64 ∨ inRegs a then .error cBND
    else if a % 8 ≠ 0 then .error cMAL
    else if !s.readable a 64 then .error cFER
    else .ok (descOf (wordsOf ((List.range 64).map (fun j => s.coreByte k (a + j)))))

/-- TVAL of a trap at a data address: that of an ECC error is numbered as SEQ_MEM_ADDR numbers the memories (R124, R135). -/
def State.descTval (s : State) (g : Agent) (cause a : Nat) : Word :=
  match g with
  | .thread t => if cause = cECC then tval (s.dataKey t a % 0x10000) else tval a
  | .core _ => tval a

/-- An uncorrectable error that the read of a thread's descriptor finds stays in its word: the first of the eight, as no operand tells which (log 121). -/
def State.badDesc (s : State) (g : Agent) (a : Nat) (ecc : Check) : State :=
  match g, ecc with
  | .thread t, .bad =>
    let w := s.dataKey t a / 8
    if s.dataLen t < a + 64 ∨ a % 8 ≠ 0 ∨ s.seqBad.contains w then s else { s with seqBad := w :: s.seqBad }
  | _, _ => s

/-- ISSUE and ISSUED: a task is accepted, refused with a status, or blocks its agent. -/
def State.submit (s : State) (g : Agent) (rd a : Nat) (at' : Option Nat) (ecc : Check) : State :=
  let i := agentIx g
  match s.descAt g a ecc with
  | .error c => (s.badDesc g a ecc).trap i c (s.descTval g c a)
  | .ok d =>
    let s := s.corrected g ecc
    match s.issue i d at' false with
    | (s, .done v) => s.retireRd i 4 rd v
    | (s, .blocked t) => s.blockOn i 4 (.issue rd d at' t)

/-- ISSUE. -/
def execIssue (x : DescRead) (rd rs1 : Reg) (imm : BitVec 16) (s : State) : Out :=
  whenIssued x.toIssue (encI 0x28 rd rs1 imm) s (fun s => s.submit x.agent rd (s.addrOf (agentIx x.agent) rs1 imm).toNat none x.ecc)

/-- ISSUED. -/
def execIssued (x : DescRead) (rd rs1 rs2 : Reg) (s : State) : Out :=
  whenIssued x.toIssue (encR 0x29 rd rs1 rs2 0x000) s (fun s =>
    s.submit x.agent rd (s.gr (agentIx x.agent) rs1).toNat (some (s.gr (agentIx x.agent) rs2).toNat) x.ecc)

/-- ISSUE_UNBLOCK: the tests of a blocked ISSUE are made again. -/
def execIssueUnblock (a : Agent) (now : Nat) (s : State) : Out :=
  .next (if s.runs a then
    let i := agentIx a
    let t := s.advance now
    match (t.thr i).block with
    | .issue rd d at' tested =>
      match t.issue i d at' tested with
      | (t, .done v) => t.unblock i (fun th => th.wg rd v)
      | (t, .blocked b) => t.setThr i { t.thr i with block := .issue rd d at' b }
    | _ => s
  else s)

/-- CANCEL. -/
def execCancel (x : Issue) (rd rs1 rs2 : Reg) (s : State) : Out :=
  whenIssued x (encR 0x2A rd rs1 rs2 0x000) s (fun s =>
    let (s, r) := s.cancel (s.gr (agentIx x.agent) rs1).toNat
    s.retireRd (agentIx x.agent) 6 rd (if r = 2 then BitVec.ofInt 64 (-1) else BitVec.ofNat 64 r))

/-! ### Waiting (R111 to R114) -/

/-- Events of a mask that are pending for an agent's WAIT: vectored events are not among them (R105). -/
def State.waitable (s : State) (a : Agent) (mask : Word) : Word :=
  match a with
  | .thread t => (s.thr t).epend &&& mask &&& ~~~(s.vecMask t)
  | .core k => (s.thr (256 + k)).epend &&& mask

/-- A WAIT takes event e: its bit is cleared, and a core takes what was delivered for it (R169). -/
def State.takeEvent (s : State) (a : Agent) (e : Nat) : State :=
  let i := agentIx a
  let s := s.setThr i { s.thr i with epend := (s.thr i).epend &&& ~~~(BitVec.ofNat 64 (2 ^ e)) }
  match a with
  | .thread _ => s
  | .core k => s.setCore k { s.core k with delivered := (s.core k).delivered.filter (fun (p : Nat × Bool) => decide (p.1 ≠ e)) }

/-- A WAIT returns: RUNCOUNT starts again (R115). -/
def State.waited (s : State) (i cycles rd : Nat) (v : Word) : State :=
  s.retire i cycles (fun t => { t with runcount := 0, st := .runnable, wait := none }.wg rd v)

/-- A WAIT with something to return returns it: an event before −1. -/
def State.waitEnds (s : State) (a : Agent) (mask : Word) (finished : Bool) (cycles rd : Nat) : Option State :=
  let p := (s.waitable a mask).toNat
  if p ≠ 0 then some ((s.takeEvent a (lowestBit p)).waited (agentIx a) cycles rd (BitVec.ofNat 64 (lowestBit p)))
  else if finished then some (s.waited (agentIx a) cycles rd (BitVec.ofInt 64 (-1)))
  else none

/-- WAIT of an agent. A deadline that equals local time has passed (DESIGN CHOICE, log 115). -/
def State.waitFor (s : State) (a : Agent) (rd : Nat) (mask : Word) (deadline : Option Int) : State :=
  let i := agentIx a
  if deadline = none ∧ mask = 0 then s.trap i cWDD 0
  else
    let t := s.thr i
    (s.waitEnds a mask (deadline.elim false (fun d => decide (d ≤ s.now))) 2 rd).getD
      ((s.setThr i { t with st := .waiting, wait := some ⟨mask, deadline, rd⟩, cycles := t.cycles + 2 }).hold i 2)

/-- WAIT, with func 0x001 where `timed`. -/
def execWait (x : Issue) (rd rs1 rs2 : Reg) (timed : Bool) (s : State) : Out :=
  whenIssued x (encR 0x2B rd rs1 rs2 (if timed then 1 else 0)) s (fun s =>
    let i := agentIx x.agent
    s.waitFor x.agent rd (s.gr i rs1) (if timed then some ((s.gr i rs2).toNat : Int) else none))

/-- WAIT_RETURN: an event of the mask is pending, or a tick has come at or after the deadline. -/
def execWaitReturn (a : Agent) (now : Nat) (s : State) : Out :=
  .next (if s.runs a then
    let t := s.advance now
    match (t.thr (agentIx a)).wait with
    | some w => (t.waitEnds a w.mask (w.deadline.elim false (fun d => decide (d ≤ t.lastTick))) 0 w.rd).getD s
    | none => s
  else s)

/-- SIG. It names no management core: rs1 above 255 traps ILL (DESIGN CHOICE, log 116). -/
def execSig (x : Issue) (rd rs1 rs2 : Reg) (s : State) : Out :=
  let w := encR 0x2C rd rs1 rs2 0x000
  whenIssued x w s (fun s =>
    let i := agentIx x.agent
    let n := (s.gr i rs1).toNat
    let e := (s.gr i rs2).toNat
    if rd.val ≠ 0 ∨ e < 48 ∨ 63 < e ∨ 255 < n then s.illegal x w else (s.postThread n e).retire i 2 (fun t => t))

/-! ### Clocks and special registers (R87, R110) -/

/-- An instruction of opcode 0x2D. -/
def clockR (func : Nat) (v : State → Word) (x : Issue) (rd rs1 rs2 : Reg) (s : State) : Out :=
  whenIssued x (encR 0x2D rd rs1 rs2 func) s (fun s => (s.alu x 1 rd (v s)).later (agentIx x.agent) rd 4)

/-- TIME. -/
def execTime (x : Issue) (rd rs1 rs2 : Reg) (s : State) : Out := clockR 0x001 (fun s => BitVec.ofInt 64 s.now) x rd rs1 rs2 s
/-- TRAW. -/
def execTraw (x : Issue) (rd rs1 rs2 : Reg) (s : State) : Out := clockR 0x002 (fun s => BitVec.ofNat 64 s.raw) x rd rs1 rs2 s
/-- TEPOCH. -/
def execTepoch (x : Issue) (rd rs1 rs2 : Reg) (s : State) : Out :=
  clockR 0x003 (fun s => BitVec.ofNat 64 (s.get R.TB_EPOCH_EPOCH)) x rd rs1 rs2 s

/-- The special registers that every context has itself. -/
def Thread.special (t : Thread) : Nat → Option Word
  | 0x001 => some (BitVec.ofNat 64 t.chan)
  | 0x002 => some (BitVec.ofNat 64 (stCode t.st + (if t.ven then 8 else 0) + 256 * t.cause))
  | 0x003 => some t.epend
  | 0x004 => some (BitVec.ofNat 64 t.epc)
  | 0x005 => some (BitVec.ofNat 64 t.tpc)
  | 0x006 => some t.tval
  | 0x00B => some (BitVec.ofNat 64 t.cqBase)
  | 0x00C => some (BitVec.ofNat 64 t.cqLen)
  | 0x00D => some (BitVec.ofNat 64 t.cqHead)
  | 0x00E => some (BitVec.ofNat 64 t.cqTail)
  | 0x011 => some (BitVec.ofNat 64 t.cycles)
  | 0x012 => some (BitVec.ofNat 64 t.instret)
  | 0x013 => some (BitVec.ofNat 64 t.runcount)
  | _ => none

/-- The special registers that a sequencer gives its thread. -/
def State.threadSpecial (s : State) (t : Nat) : Nat → Option Nat
  | 0x000 => some t
  | 0x007 => some (s.get (R.SEQ_TH_IMAP_BASE (t / 4) (t % 4)))
  | 0x008 => some (s.get (R.SEQ_TH_IMAP_LEN (t / 4) (t % 4)))
  | 0x009 => some (s.get (R.SEQ_TH_DMAP_BASE (t / 4) (t % 4)))
  | 0x00A => some (s.get (R.SEQ_TH_DMAP_LEN (t / 4) (t % 4)))
  | _ => none

/-- The special registers that the bound channel gives. -/
def State.chanSpecial (s : State) (ch : Nat) : Nat → Option Nat
  | 0x00F => if ch < 256 then some (s.get (R.CTX_COMMIT_SEQ_SEQ ch)) else none
  | 0x010 => if ch < 256 then some (s.get (R.CTX_LANDED_SEQ_SNAP ch)) else none
  | _ => none

/-- The value of a special register; none for one whose value the spec leaves open (a core's own of a thread, those of a channel where none is
bound; log 3). -/
def State.special (s : State) (a : Agent) (n : Nat) : Option Word :=
  let t := s.thr (agentIx a)
  (t.special n).orElse (fun _ => ((match a with | .thread i => s.threadSpecial i n | .core _ => none).orElse (fun _ =>
    s.chanSpecial t.chan n)).map (BitVec.ofNat 64))

/-- MFS. -/
def execMfs (x : Issue) (rd rs1 : Reg) (imm : BitVec 16) (s : State) : Out :=
  let w := encI 0x2E rd rs1 imm
  whenIssued x w s (fun s =>
    if 0x013 < imm.toNat then s.illegal x w
    else match s.special x.agent imm.toNat with
      | some v => (s.alu x 1 rd v).later (agentIx x.agent) rd 2
      | none => ((s.alu x 1 rd s.free).later (agentIx x.agent) rd 2).took)

/-- Whether a completion ring fits an agent's data space (R122). -/
def State.ringFits (s : State) (a : Agent) (base len : Nat) : Bool :=
  match a with
  | .thread t => decide (base + 16 * len ≤ s.dataLen t)
  | .core _ => true

/-- A write of CQBASE or CQLEN (R122). -/
def State.moveRing (s : State) (a : Agent) (base len : Nat) : State :=
  let i := agentIx a
  let t := s.thr i
  if !s.ringFits a base len ∨ s.hasTasks i ∨ t.held ≠ [] ∨ t.cqHead ≠ t.cqTail then s
  else s.setThr i { t with cqBase := base, cqLen := len, cqHead := 0, cqTail := 0 }

/-- A write of a special register; one that is RO for recipes keeps its value (R87). -/
def State.setSpecial (s : State) (a : Agent) (n v : Nat) : State :=
  let i := agentIx a
  let t := s.thr i
  match n with
  | 0x004 => s.setThr i { t with epc := v / 4 * 4 }
  | 0x00B => s.moveRing a v t.cqLen
  | 0x00C => s.moveRing a t.cqBase v
  | 0x00D => if t.cqLen ≤ v then s else s.setThr i { t with cqHead := v }
  | _ => s

/-- MTS. -/
def execMts (x : Issue) (rd rs1 : Reg) (imm : BitVec 16) (s : State) : Out :=
  let w := encI 0x2F rd rs1 imm
  whenIssued x w s (fun s =>
    if rd.val ≠ 0 ∨ 0x013 < imm.toNat then s.illegal x w
    else (s.setSpecial x.agent imm.toNat (s.gr (agentIx x.agent) rs1).toNat).retire (agentIx x.agent) 1 (fun t => t))

/-! ### Opcode 0x30 and TRAP -/

/-- An instruction of opcode 0x30. -/
def threadR (func : Nat) (x : Issue) (rd rs1 rs2 : Reg) (s : State) (f : State → Nat → State) : Out :=
  whenIssued x (encR 0x30 rd rs1 rs2 func) s (fun s => f s (agentIx x.agent))

/-- FENCE: a far access completes before its own instruction, so only stores to the context window can be outstanding (R91). -/
def execFence (x : Issue) (rd rs1 rs2 : Reg) (s : State) : Out :=
  threadR 0x001 x rd rs1 rs2 s (fun s i => if (s.thr i).storesUntil ≤ s.raw then s.retire i 1 (fun t => t) else s.blockOn i 1 .fence)

/-- FENCE_COMPLETE. -/
def execFenceComplete (a : Agent) (now : Nat) (s : State) : Out :=
  .next (if s.runs a then
    let t := s.advance now
    if (t.thr (agentIx a)).block = .fence ∧ (t.thr (agentIx a)).storesUntil ≤ t.raw then t.unblock (agentIx a) (fun t => t) else s
  else s)

/-- YIELD. -/
def execYield (x : Issue) (rd rs1 rs2 : Reg) (s : State) : Out := threadR 0x002 x rd rs1 rs2 s (fun s i => s.retire i 1 (fun t => t))

/-- HALT of a thread. -/
def State.haltThread (s : State) (t : Nat) : State :=
  let th := s.thr t
  if th.chan < 256 ∧ s.running th.chan ∧ th.stopBy = none then s.trapThread t cHLT 0
  else if th.storesUntil ≤ s.raw then (s.retire t 1 (fun t => t)).idle t
  else (s.setThr t { th with st := .blocked, block := .halted, halting := true, cycles := th.cycles + 1 }).hold t 1

/-- HALT: a core stops until the Heath island restarts it (R130). -/
def execHalt (x : Issue) (rd rs1 rs2 : Reg) (s : State) : Out :=
  threadR 0x003 x rd rs1 rs2 s (fun s i => if i < 256 then s.haltThread i else s.blockOn i 1 .halted)

/-- HALT_COMPLETE. -/
def execHaltComplete (t : Thr) (now : Nat) (s : State) : Out :=
  .next (if s.runs (.thread t) then
    let u := s.advance now
    if (u.thr t).halting ∧ (u.thr t).storesUntil ≤ u.raw then (u.unblock t (fun t => t)).idle t else s
  else s)

/-- RETV: a core has no vectors. -/
def execRetv (x : Issue) (rd rs1 rs2 : Reg) (s : State) : Out :=
  threadR 0x004 x rd rs1 rs2 s (fun s i =>
    if 256 ≤ i ∨ (s.thr i).ven then s.illegal x (encR 0x30 rd rs1 rs2 0x004)
    else s.retireTo i 2 (s.thr i).epc (fun t => { t with ven := true }))

/-- BKPT. -/
def execBkpt (x : Issue) (rd rs1 rs2 : Reg) (s : State) : Out := threadR 0x005 x rd rs1 rs2 s (fun s i => s.trap i cBKP 0)

/-- TRAP. -/
def execTrap (x : Issue) (rd rs1 : Reg) (imm : BitVec 16) (s : State) : Out :=
  let w := encI 0x31 rd rs1 imm
  whenIssued x w s (fun s =>
    if rd.val ≠ 0 ∨ rs1.val ≠ 0 then s.illegal x w else s.trap (agentIx x.agent) cSWT (BitVec.ofNat 64 imm.toNat))

/-! ### Vectors (R102 to R106) -/

/-- A thread takes its lowest vectored event: EPC, VEN, the slot's address, three cycles, which CYCLES counts (DESIGN CHOICE,
log 113). -/
def State.enterVector (s : State) (t : Nat) : State :=
  let th := s.thr t
  let e := lowestBit (s.vecPending t).toNat
  let v := (List.range 16).find? (fun v => s.flag (R.SEQ_TH_VEC_VALID (t / 4) (t % 4) v) && s.flag (R.SEQ_TH_VEC_VECTORED (t / 4) (t % 4) v) &&
    decide (s.get (R.SEQ_TH_VEC_EVENT (t / 4) (t % 4) v) = e))
  (s.setThr t { th with st := .runnable, wait := none, epc := th.pc, ven := false, pc := v.elim 0 (fun v => s.slotAddr t v),
                        epend := th.epend &&& ~~~(BitVec.ofNat 64 (2 ^ e)), runcount := 0, cycles := th.cycles + 3 }).hold t 3

/-- VECTOR_ENTRY: of a thread that a divide blocks, when the divide is complete (R103). -/
def execVectorEntry (t : Thr) (s : State) : Out :=
  .next (if s.runs (.thread t) ∧ s.vectorDue t ∧ ((s.thr t).st = .runnable ∨ (s.thr t).st = .waiting) then
    (s.advance (if seqCycle s.raw < (s.turn t).div then seqNs (s.turn t).div else 0)).enterVector t else s)

end Sys2Proof.Machine
end

