-- ==== Sys2Proof/Machine/MgmtCore.lean ====
section
/-! DEFINITION. The supervisor extension of a management core: its control registers, its handlers, SLEEP and its caches (03_morop.md R130 to R134). -/

namespace Sys2Proof.Machine

/-! ### Control registers (R132) -/

/-- CLK_FAB cycles, at 1.5 GHz, since a core's reset. -/
def State.coreClocks (s : State) (k : Nat) : Nat := (s.raw - (s.core k).resetRaw) * 3 / 2

/-- K_STATE. -/
def CoreX.kState (c : CoreX) : Nat := (if c.irqOn then 1 else 0) + (if c.irqSaved then 2 else 0) + (if c.inHandler then 4 else 0)

/-- A control register; none for a number that R132 does not list. -/
def State.control (s : State) (k n : Nat) : Option Word :=
  let c := s.core k
  match n with
  | 0x000 => some (BitVec.ofNat 64 c.kState)
  | 0x001 => some (BitVec.ofNat 64 c.resume)
  | 0x002 => some (BitVec.ofNat 64 c.reason)
  | 0x003 => some c.detail
  | 0x004 => some (BitVec.ofNat 64 c.table)
  | 0x005 => some (BitVec.ofNat 64 c.lineEn)
  | 0x006 => some (BitVec.ofNat 64 c.linePend)
  | 0x007 => some (BitVec.ofNat 64 (if c.bank then 1 else 0))
  | 0x010 => some (BitVec.ofNat 64 k)
  | 0x011 => some (BitVec.ofNat 64 (s.coreClocks k))
  | 0x012 => some (BitVec.ofNat 64 (s.thr (256 + k)).instret)
  | _ => none

/-- A write of a control register: RO fields keep their values. -/
def CoreX.setControl (c : CoreX) (n v : Nat) : CoreX :=
  match n with
  | 0x000 => { c with irqOn := bitAt v 0, irqSaved := bitAt v 1 }
  | 0x001 => { c with resume := v / 4 * 4 }
  | 0x004 => { c with table := v / 512 * 512 }
  | 0x005 => { c with lineEn := v % 256 }
  | _ => c

/-- A supervisor instruction: a sequencer thread traps with cause ILL (R131). -/
def supervisor (x : Issue) (w : Nat) (s : State) (f : State → Nat → State) : Out :=
  whenIssued x w s (fun s =>
    match x.agent with
    | .thread _ => s.illegal x w
    | .core k => f s k)

/-- RDK. -/
def execRdk (x : Issue) (rd rs1 : Reg) (imm : BitVec 16) (s : State) : Out :=
  let w := encI 0x38 rd rs1 imm
  supervisor x w s (fun s k =>
    if 0x1000 ≤ imm.toNat then s.illegal x w
    else match s.control k imm.toNat with
      | some v => s.alu x 1 rd v
      | none => s.illegal x w)

/-- WRK. -/
def execWrk (x : Issue) (rd rs1 : Reg) (imm : BitVec 16) (s : State) : Out :=
  let w := encI 0x39 rd rs1 imm
  supervisor x w s (fun s k =>
    let n := imm.toNat % 0x1000
    match s.control k n with
    | some _ => (s.setCore k ((s.core k).setControl n (s.gr (256 + k) rs1).toNat)).retire (256 + k) 3 (fun t => t)
    | none => s.illegal x w)

/-! ### Handlers and lines (R131, R133) -/

/-- A core leaves its handler. -/
def State.leaveHandler (s : State) (k : Nat) : State :=
  let pc := (s.core k).resume
  let s := s.setCore k { s.core k with irqOn := (s.core k).irqSaved, inHandler := false }
  (s.swapBank k).retireTo (256 + k) 3 pc (fun t => t)

/-- RETK: outside a handler it traps with cause ILL. -/
def execRetk (x : Issue) (rd rs1 rs2 : Reg) (s : State) : Out :=
  let w := encR 0x3E rd rs1 rs2 0x001
  supervisor x w s (fun s k => if (s.core k).inHandler then s.leaveHandler k else s.illegal x w)

/-- Lines that are enabled and pending. -/
def CoreX.lines (c : CoreX) : Nat := c.linePend &&& c.lineEn

/-- SLEEP. -/
def execSleep (x : Issue) (rd rs1 rs2 : Reg) (s : State) : Out :=
  supervisor x (encR 0x3E rd rs1 rs2 0x002) s (fun s k =>
    if (s.core k).lines ≠ 0 then s.retire (256 + k) 1 (fun t => t) else s.blockOn (256 + k) 1 .sleep)

/-- CORE_SLEEP_WAKE. -/
def execCoreSleepWake (k : CoreId) (s : State) : Out :=
  .next (if s.runs (.core k) ∧ (s.thr (256 + k)).block = .sleep ∧ (s.core k).lines ≠ 0 then s.unblock (256 + k) (fun t => t) else s)

/-- A core takes its lowest enabled line: the line is no longer pending, and slot 16 + l is entered. -/
def State.takeLine (s : State) (k : Nat) : State :=
  let c := s.core k
  let l := lowestBit c.lines
  (s.setCore k { c with linePend := c.linePend - 2 ^ l }).enterHandler k (16 + l) (l + 256) 0

/-- CORE_HANDLER_ENTRY. -/
def execCoreHandlerEntry (k : CoreId) (s : State) : Out :=
  .next (if s.runs (.core k) ∧ s.lineDue k ∧ ((s.thr (256 + k)).st = .runnable ∨ (s.thr (256 + k)).st = .waiting) then s.takeLine k else s)

/-! ### Caches (R131) -/

/-- DCINV. -/
def execDcinv (x : Issue) (rd rs1 rs2 : Reg) (s : State) : Out :=
  supervisor x (encR 0x3E rd rs1 rs2 0x003) s (fun s k =>
    (s.dropData k (lineOf (s.gr (256 + k) rs1).toNat) false).retire (256 + k) 2 (fun t => t))

/-- DCWB. -/
def execDcwb (x : Issue) (rd rs1 rs2 : Reg) (s : State) : Out :=
  supervisor x (encR 0x3E rd rs1 rs2 0x004) s (fun s k =>
    (s.dropData k (lineOf (s.gr (256 + k) rs1).toNat) true).retire (256 + k) 2 (fun t => t))

/-- Every line leaves the data cache, a dirty one to memory. -/
def State.dropAll (s : State) (k : Nat) : State :=
  (s.core k).dcache.foldl (fun (s : State) (p : Nat × CacheLine) => s.dropData k p.1 true) s

/-- DCWBALL. -/
def execDcwball (x : Issue) (rd rs1 rs2 : Reg) (s : State) : Out :=
  supervisor x (encR 0x3E rd rs1 rs2 0x005) s (fun s k => (s.dropAll k).retire (256 + k) 0 (fun t => t))

/-- ICINV. -/
def execIcinv (x : Issue) (rd rs1 rs2 : Reg) (s : State) : Out :=
  supervisor x (encR 0x3E rd rs1 rs2 0x006) s (fun s k =>
    (s.setCore k { s.core k with icache := [] }).retire (256 + k) 4 (fun t => t))

end Sys2Proof.Machine
end

