-- ==== Sys2Proof/Machine/Dispatch.lean ====
section
/-! DEFINITION. One arm per command: the only place where a command meets its meaning. -/

namespace Sys2Proof.Machine

/-- The effect of a command on everything but the queue. -/
def exec (i : Instr) (s : State) : Host.Outcome State Fault Refusal :=
  match i with
  | .registerWrite q off size v x => Sys2Proof.Machine.execRegisterWrite q off size v x s
  | .rcRegisterRead q off size now => Sys2Proof.Machine.execRcRegisterRead q off size now s
  | .lowWordRead q off now => Sys2Proof.Machine.execLowWordRead q off now s
  | .lowWordWrite q off v x => Sys2Proof.Machine.execLowWordWrite q off v x s
  | .srwWrite q off size v x => Sys2Proof.Machine.execSrwWrite q off size v x s
  | .ctxShadowCtrlWrite q ch hold => Sys2Proof.Machine.execCtxShadowCtrlWrite q ch hold s
  | .handover ch now => Sys2Proof.Machine.execHandover ch now s
  | .proofingSlotStart ch now => Sys2Proof.Machine.execProofingSlotStart ch now s
  | .proofingSlotEnd ch blocks late now => Sys2Proof.Machine.execProofingSlotEnd ch blocks late now s
  | .codingDeadline ch r a now => Sys2Proof.Machine.execCodingDeadline ch r a now s
  | .sliceRelease ch r n now => Sys2Proof.Machine.execSliceRelease ch r n now s
  | .pictureRelease ch r n now => Sys2Proof.Machine.execPictureRelease ch r n now s
  | .lateRelease ch r n now => Sys2Proof.Machine.execLateRelease ch r n now s
  | .skipUnitEmit f n k nals now => Sys2Proof.Machine.execSkipUnitEmit f n k nals now s
  | .add x rd rs1 rs2 => Sys2Proof.Machine.execAdd x rd rs1 rs2 s
  | .sub x rd rs1 rs2 => Sys2Proof.Machine.execSub x rd rs1 rs2 s
  | .and x rd rs1 rs2 => Sys2Proof.Machine.execAnd x rd rs1 rs2 s
  | .or x rd rs1 rs2 => Sys2Proof.Machine.execOr x rd rs1 rs2 s
  | .xor x rd rs1 rs2 => Sys2Proof.Machine.execXor x rd rs1 rs2 s
  | .shl x rd rs1 rs2 => Sys2Proof.Machine.execShl x rd rs1 rs2 s
  | .shr x rd rs1 rs2 => Sys2Proof.Machine.execShr x rd rs1 rs2 s
  | .sra x rd rs1 rs2 => Sys2Proof.Machine.execSra x rd rs1 rs2 s
  | .slt x rd rs1 rs2 => Sys2Proof.Machine.execSlt x rd rs1 rs2 s
  | .sltu x rd rs1 rs2 => Sys2Proof.Machine.execSltu x rd rs1 rs2 s
  | .min x rd rs1 rs2 => Sys2Proof.Machine.execMin x rd rs1 rs2 s
  | .max x rd rs1 rs2 => Sys2Proof.Machine.execMax x rd rs1 rs2 s
  | .minu x rd rs1 rs2 => Sys2Proof.Machine.execMinu x rd rs1 rs2 s
  | .maxu x rd rs1 rs2 => Sys2Proof.Machine.execMaxu x rd rs1 rs2 s
  | .adds x rd rs1 rs2 => Sys2Proof.Machine.execAdds x rd rs1 rs2 s
  | .subs x rd rs1 rs2 => Sys2Proof.Machine.execSubs x rd rs1 rs2 s
  | .mul x rd rs1 rs2 => Sys2Proof.Machine.execMul x rd rs1 rs2 s
  | .mulhu x rd rs1 rs2 => Sys2Proof.Machine.execMulhu x rd rs1 rs2 s
  | .mulq x rd rs1 rs2 => Sys2Proof.Machine.execMulq x rd rs1 rs2 s
  | .divu x rd rs1 rs2 => Sys2Proof.Machine.execDivu x rd rs1 rs2 s
  | .remu x rd rs1 rs2 => Sys2Proof.Machine.execRemu x rd rs1 rs2 s
  | .clz x rd rs1 rs2 => Sys2Proof.Machine.execClz x rd rs1 rs2 s
  | .popc x rd rs1 rs2 => Sys2Proof.Machine.execPopc x rd rs1 rs2 s
  | .addi x rd rs1 imm => Sys2Proof.Machine.execAddi x rd rs1 imm s
  | .andi x rd rs1 imm => Sys2Proof.Machine.execAndi x rd rs1 imm s
  | .ori x rd rs1 imm => Sys2Proof.Machine.execOri x rd rs1 imm s
  | .xori x rd rs1 imm => Sys2Proof.Machine.execXori x rd rs1 imm s
  | .slti x rd rs1 imm => Sys2Proof.Machine.execSlti x rd rs1 imm s
  | .sltiu x rd rs1 imm => Sys2Proof.Machine.execSltiu x rd rs1 imm s
  | .shli x rd rs1 imm => Sys2Proof.Machine.execShli x rd rs1 imm s
  | .shri x rd rs1 imm => Sys2Proof.Machine.execShri x rd rs1 imm s
  | .srai x rd rs1 imm => Sys2Proof.Machine.execSrai x rd rs1 imm s
  | .insi x rd lane imm => Sys2Proof.Machine.execInsi x rd lane imm s
  | .lb x rd rs1 imm ecc => Sys2Proof.Machine.execLb x rd rs1 imm ecc s
  | .lh x rd rs1 imm ecc => Sys2Proof.Machine.execLh x rd rs1 imm ecc s
  | .lw x rd rs1 imm ecc => Sys2Proof.Machine.execLw x rd rs1 imm ecc s
  | .lws x rd rs1 imm ecc => Sys2Proof.Machine.execLws x rd rs1 imm ecc s
  | .ld x rd rs1 imm ecc => Sys2Proof.Machine.execLd x rd rs1 imm ecc s
  | .lwf x rd rs1 imm => Sys2Proof.Machine.execLwf x rd rs1 imm s
  | .ldf x rd rs1 imm => Sys2Proof.Machine.execLdf x rd rs1 imm s
  | .sb x rd rs1 imm => Sys2Proof.Machine.execSb x rd rs1 imm s
  | .sh x rd rs1 imm => Sys2Proof.Machine.execSh x rd rs1 imm s
  | .sw x rd rs1 imm => Sys2Proof.Machine.execSw x rd rs1 imm s
  | .sd x rd rs1 imm => Sys2Proof.Machine.execSd x rd rs1 imm s
  | .swf x rd rs1 imm => Sys2Proof.Machine.execSwf x rd rs1 imm s
  | .sdf x rd rs1 imm => Sys2Proof.Machine.execSdf x rd rs1 imm s
  | .farAccessComplete a ecc y => Sys2Proof.Machine.execFarAccessComplete a ecc y s
  | .aadd x rd rs1 rs2 ecc => Sys2Proof.Machine.execAadd x rd rs1 rs2 ecc s
  | .aswp x rd rs1 rs2 ecc => Sys2Proof.Machine.execAswp x rd rs1 rs2 ecc s
  | .acas x rd rs1 rs2 ecc => Sys2Proof.Machine.execAcas x rd rs1 rs2 ecc s
  | .beq x rs1 rs2 off => Sys2Proof.Machine.execBeq x rs1 rs2 off s
  | .bne x rs1 rs2 off => Sys2Proof.Machine.execBne x rs1 rs2 off s
  | .blt x rs1 rs2 off => Sys2Proof.Machine.execBlt x rs1 rs2 off s
  | .bge x rs1 rs2 off => Sys2Proof.Machine.execBge x rs1 rs2 off s
  | .bltu x rs1 rs2 off => Sys2Proof.Machine.execBltu x rs1 rs2 off s
  | .bgeu x rs1 rs2 off => Sys2Proof.Machine.execBgeu x rs1 rs2 off s
  | .jal x rd off => Sys2Proof.Machine.execJal x rd off s
  | .jalr x rd rs1 imm => Sys2Proof.Machine.execJalr x rd rs1 imm s
  | .issue x rd rs1 imm => Sys2Proof.Machine.execIssue x rd rs1 imm s
  | .issued x rd rs1 rs2 => Sys2Proof.Machine.execIssued x rd rs1 rs2 s
  | .issueUnblock a now => Sys2Proof.Machine.execIssueUnblock a now s
  | .cancel x rd rs1 rs2 => Sys2Proof.Machine.execCancel x rd rs1 rs2 s
  | .wait x rd rs1 rs2 timed => Sys2Proof.Machine.execWait x rd rs1 rs2 timed s
  | .waitReturn a now => Sys2Proof.Machine.execWaitReturn a now s
  | .sig x rd rs1 rs2 => Sys2Proof.Machine.execSig x rd rs1 rs2 s
  | .time x rd rs1 rs2 => Sys2Proof.Machine.execTime x rd rs1 rs2 s
  | .traw x rd rs1 rs2 => Sys2Proof.Machine.execTraw x rd rs1 rs2 s
  | .tepoch x rd rs1 rs2 => Sys2Proof.Machine.execTepoch x rd rs1 rs2 s
  | .mfs x rd rs1 imm => Sys2Proof.Machine.execMfs x rd rs1 imm s
  | .mts x rd rs1 imm => Sys2Proof.Machine.execMts x rd rs1 imm s
  | .fence x rd rs1 rs2 => Sys2Proof.Machine.execFence x rd rs1 rs2 s
  | .fenceComplete a now => Sys2Proof.Machine.execFenceComplete a now s
  | .yield x rd rs1 rs2 => Sys2Proof.Machine.execYield x rd rs1 rs2 s
  | .halt x rd rs1 rs2 => Sys2Proof.Machine.execHalt x rd rs1 rs2 s
  | .haltComplete t now => Sys2Proof.Machine.execHaltComplete t now s
  | .retv x rd rs1 rs2 => Sys2Proof.Machine.execRetv x rd rs1 rs2 s
  | .bkpt x rd rs1 rs2 => Sys2Proof.Machine.execBkpt x rd rs1 rs2 s
  | .trap x rd rs1 imm => Sys2Proof.Machine.execTrap x rd rs1 imm s
  | .undefinedInstruction x word => Sys2Proof.Machine.execUndefinedInstruction x word s
  | .vectorEntry t => Sys2Proof.Machine.execVectorEntry t s
  | .rdk x rd rs1 imm => Sys2Proof.Machine.execRdk x rd rs1 imm s
  | .wrk x rd rs1 imm => Sys2Proof.Machine.execWrk x rd rs1 imm s
  | .retk x rd rs1 rs2 => Sys2Proof.Machine.execRetk x rd rs1 rs2 s
  | .sleep x rd rs1 rs2 => Sys2Proof.Machine.execSleep x rd rs1 rs2 s
  | .coreSleepWake k => Sys2Proof.Machine.execCoreSleepWake k s
  | .dcinv x rd rs1 rs2 => Sys2Proof.Machine.execDcinv x rd rs1 rs2 s
  | .dcwb x rd rs1 rs2 => Sys2Proof.Machine.execDcwb x rd rs1 rs2 s
  | .dcwball x rd rs1 rs2 => Sys2Proof.Machine.execDcwball x rd rs1 rs2 s
  | .icinv x rd rs1 rs2 => Sys2Proof.Machine.execIcinv x rd rs1 rs2 s
  | .coreHandlerEntry k => Sys2Proof.Machine.execCoreHandlerEntry k s
  | .ctxDoorbell ch ev => Sys2Proof.Machine.execCtxDoorbell ch ev s
  | .threadStart t => Sys2Proof.Machine.execThreadStart t s
  | .threadStop t => Sys2Proof.Machine.execThreadStop t s
  | .threadResume t => Sys2Proof.Machine.execThreadResume t s
  | .stopTimeout t now => Sys2Proof.Machine.execStopTimeout t now s
  | .seqMemDataWrite n v => Sys2Proof.Machine.execSeqMemDataWrite n v s
  | .seqMemDataRead n => Sys2Proof.Machine.execSeqMemDataRead n s
  | .seqTaskPost => Sys2Proof.Machine.execSeqTaskPost s
  | .mpcTaskDispatch now => Sys2Proof.Machine.execMpcTaskDispatch now s
  | .directDispatch e h now => Sys2Proof.Machine.execDirectDispatch e h now s
  | .taskDispatch h now => Sys2Proof.Machine.execTaskDispatch h now s
  | .taskEnd e r reads now => Sys2Proof.Machine.execTaskEnd e r reads now s
  | .heldRecordWrite a => Sys2Proof.Machine.execHeldRecordWrite a s
  | .dispatcherTick now => Sys2Proof.Machine.execDispatcherTick now s
  | .dspTickWrite v => Sys2Proof.Machine.execDspTickWrite v s
  | .dspCancel h => Sys2Proof.Machine.execDspCancel h s
  | .admitChannel ch => Sys2Proof.Machine.execAdmit ch s
  | .release ch => Sys2Proof.Machine.execRelease ch s
  | .releaseComplete ch => Sys2Proof.Machine.execReleaseComplete ch s
  | .mpcAge now => Sys2Proof.Machine.execMpcAge now s
  | .entryEcc e now => Sys2Proof.Machine.execEntryEcc e now s
  | .macFrameReceive m f now => Sys2Proof.Machine.execMacFrameReceive m f now s
  | .ingestPacket full now => Sys2Proof.Machine.execIngestPacket full now s
  | .policerSweep now => Sys2Proof.Machine.execPolicerSweep now s
  | .pathSilent p b now => Sys2Proof.Machine.execPathSilent p b now s
  | .flowTableEcc e now => Sys2Proof.Machine.execFlowTableEcc e now s
  | .ingIndSel w f => Sys2Proof.Machine.execIngIndSel w f s
  | .eyeWindow l mv now => Sys2Proof.Machine.execEyeWindow l mv now s
  | .forceCtle l => Sys2Proof.Machine.execForceCtle l s
  | .laneLockLoss l midFrame now => Sys2Proof.Machine.execLaneLockLoss l midFrame now s
  | .portUp m now => Sys2Proof.Machine.execPortUp m now s
  | .sclCoefLoad => Sys2Proof.Machine.execSclCoefLoad s
  | .proofingBufEcc ch touched now => Sys2Proof.Machine.execProofingBufEcc ch touched now s
  | .scalerBufEcc p r now => Sys2Proof.Machine.execScalerBufEcc p r now s
  | .ctuStart e now => Sys2Proof.Machine.execCtuStart e now s
  | .ctuComplete e bits work now => Sys2Proof.Machine.execCtuComplete e bits work now s
  | .engineSramEcc e now => Sys2Proof.Machine.execEngineSramEcc e now s
  | .engineTimeout e now => Sys2Proof.Machine.execEngineTimeout e now s
  | .refCacheEcc t now => Sys2Proof.Machine.execRefCacheEcc t now s
  | .proofStart e now => Sys2Proof.Machine.execProofStart e now s
  | .proofEnd e crc reads now => Sys2Proof.Machine.execProofEnd e crc reads now s
  | .proofAgeExpiry now => Sys2Proof.Machine.execProofAgeExpiry now s
  | .engineIsolate e => Sys2Proof.Machine.execEngineIsolate e s
  | .engineRestore e => Sys2Proof.Machine.execEngineRestore e s
  | .trayInvalidate t => Sys2Proof.Machine.execTrayInvalidate t s
  | .auTimeout ch now => Sys2Proof.Machine.execAuTimeout ch now s
  | .decodeOutputFrame ch now => Sys2Proof.Machine.execDecodeOutputFrame ch now s
  | .decHostAck ch ix => Sys2Proof.Machine.execDecHostAck ch ix s
  | .mediaSamplePeriod r96 now => Sys2Proof.Machine.execMediaSamplePeriod r96 now s
  | .tdmPinFrame p din now => Sys2Proof.Machine.execTdmPinFrame p din now s
  | .portNoClock p now => Sys2Proof.Machine.execPortNoClock p now s
  | .audPortMaskWrite p tx m => Sys2Proof.Machine.execAudPortMaskWrite p tx m s
  | .vcxoLoopRun sub now => Sys2Proof.Machine.execVcxoLoopRun sub now s
  | .audStartArm set pg => Sys2Proof.Machine.execAudStartArm set pg s
  | .egressFrameStart p now => Sys2Proof.Machine.execEgressFrameStart p now s
  | .egressFrameDone p now => Sys2Proof.Machine.execEgressFrameDone p now s
  | .tsDatagramRelease k now => Sys2Proof.Machine.execTsDatagramRelease k now s
  | .ancPacketRelease ch now => Sys2Proof.Machine.execAncPacketRelease ch now s
  | .videoPacketPacing f per bytes now => Sys2Proof.Machine.execVideoPacketPacing f per bytes now s
  | .scte35Resend ch now => Sys2Proof.Machine.execScte35Resend ch now s
  | .srtpLoad k => Sys2Proof.Machine.execSrtpLoad k s
  | .srtpSlotWrite f k => Sys2Proof.Machine.execSrtpSlotWrite f k s
  | .gateChange p now => Sys2Proof.Machine.execGateChange p now s
  | .gateListActivate p now => Sys2Proof.Machine.execGateListActivate p now s
  | .gateEntryAdvance p now => Sys2Proof.Machine.execGateEntryAdvance p now s
  | .egrIndSel w f => Sys2Proof.Machine.execEgrIndSel w f s
  | .tbSnap now => Sys2Proof.Machine.execTbSnap now s
  | .newEpoch now => Sys2Proof.Machine.execNewEpoch now s
  | .tbStep d now => Sys2Proof.Machine.execTbStep d now s
  | .timebaseSample m r now => Sys2Proof.Machine.execTimebaseSample m r now s
  | .rateFold now => Sys2Proof.Machine.execRateFold now s
  | .tbRateWrite v now => Sys2Proof.Machine.execTbRateWrite v now s
  | .tbGmIdWrite v => Sys2Proof.Machine.execTbGmIdWrite v s
  | .holdoverTimeout now => Sys2Proof.Machine.execHoldoverTimeout now s
  | .timeFlitSend p now => Sys2Proof.Machine.execTimeFlitSend p now s
  | .timeFlitReceive p h t epoch st used now => Sys2Proof.Machine.execTimeFlitReceive p h t epoch st used now s
  | .ppsEdge now => Sys2Proof.Machine.execPpsEdge now s
  | .pgEnable g now => Sys2Proof.Machine.execPgEnable g now s
  | .pulseDue g now => Sys2Proof.Machine.execPulseDue g now s
  | .pulseEnd g now => Sys2Proof.Machine.execPulseEnd g now s
  | .memoryRead q a n ecc served now => Sys2Proof.Machine.execMemoryRead q a n ecc served now s
  | .memoryWrite q a data now => Sys2Proof.Machine.execMemoryWrite q a data now s
  | .scrubRead k ecc now => Sys2Proof.Machine.execScrubRead k ecc now s
  | .migrationCopyUnit now => Sys2Proof.Machine.execMigrationCopyUnit now s
  | .bankRefresh k now => Sys2Proof.Machine.execBankRefresh k now s
  | .selfRefreshEntry k now => Sys2Proof.Machine.execSelfRefreshEntry k now s
  | .selfRefreshRetry k now => Sys2Proof.Machine.execSelfRefreshRetry k now s
  | .selfRefreshExit k now => Sys2Proof.Machine.execSelfRefreshExit k now s
  | .bar2Access win off data n ecc x => Sys2Proof.Machine.execBar2Access win off data n ecc x s
  | .msixVectorUnmask v addr data mask => Sys2Proof.Machine.execMsixVectorUnmask v addr data mask s
  | .hcrDoorbell r v => Sys2Proof.Machine.execHcrDoorbell r v s
  | .commandFetch r bytes => Sys2Proof.Machine.execCommandFetch r bytes s
  | .nop r => Sys2Proof.Machine.execNop r s
  | .recipeLoad r => Sys2Proof.Machine.execRecipeLoad r s
  | .channelStart r => Sys2Proof.Machine.execChannelStart r s
  | .channelStop r => Sys2Proof.Machine.execChannelStop r s
  | .ptpConfig r => Sys2Proof.Machine.execPtpConfig r s
  | .mcastJoin r => Sys2Proof.Machine.execMcastJoin r s
  | .mcastLeave r => Sys2Proof.Machine.execMcastLeave r s
  | .dmaGo c host => Sys2Proof.Machine.execDmaGo c host s
  | .dmaAbort c => Sys2Proof.Machine.execDmaAbort c s
  | .dmaBurstIssue d2h => Sys2Proof.Machine.execDmaBurstIssue d2h s
  | .dmaBurstComplete c data => Sys2Proof.Machine.execDmaBurstComplete c data s
  | .dmaHostError c => Sys2Proof.Machine.execDmaHostError c s
  | .memWriteFlit p h addr data now => Sys2Proof.Machine.execMemWriteFlit p h addr data now s
  | .mediaFlit p h units now => Sys2Proof.Machine.execMediaFlit p h units now s
  | .msgFlit p h data now => Sys2Proof.Machine.execMsgFlit p h data now s
  | .idleFlit p h entry now => Sys2Proof.Machine.execIdleFlit p h entry now s
  | .heartbeatFlit p h g unit claim snap img now => Sys2Proof.Machine.execHeartbeatFlit p h g unit claim snap img now s
  | .echoReq p h now => Sys2Proof.Machine.execEchoReq p h now s
  | .echoRsp p h rt now => Sys2Proof.Machine.execEchoRsp p h rt now s
  | .laneMap p h lane seq now => Sys2Proof.Machine.execLaneMap p h lane seq now s
  | .audit p h received returned occupied now => Sys2Proof.Machine.execAudit p h received returned occupied now s
  | .unknownFlitType p => Sys2Proof.Machine.execUnknownFlitType p s
  | .flitTransmit p m now => Sys2Proof.Machine.execFlitTransmit p m now s
  | .auditSend p now => Sys2Proof.Machine.execAuditSend p now s
  | .trainingBlockReceive p board port bufs ready now => Sys2Proof.Machine.execTrainingBlockReceive p board port bufs ready now s
  | .receiverReady p reversed inverted now => Sys2Proof.Machine.execReceiverReady p reversed inverted now s
  | .trainTimeout p now => Sys2Proof.Machine.execTrainTimeout p now s
  | .wlLaneLockLoss p lanes clock now => Sys2Proof.Machine.execWlLaneLockLoss p lanes clock now s
  | .wlRetrain p now => Sys2Proof.Machine.execWlRetrain p now s
  | .idleEntry p now => Sys2Proof.Machine.execIdleEntry p now s
  | .idleExit p now => Sys2Proof.Machine.execIdleExit p now s
  | .heartbeatCycle g bids now => Sys2Proof.Machine.execHeartbeatCycle g bids now s
  | .challengeCycle g bids ready now => Sys2Proof.Machine.execChallengeCycle g bids ready now s
  | .claimBusFault kind inCycle now => Sys2Proof.Machine.execClaimBusFault kind inCycle now s
  | .busFaultClear now => Sys2Proof.Machine.execBusFaultClear now s
  | .heartbeatMiss g now => Sys2Proof.Machine.execHeartbeatMiss g now s
  | .yieldGroup g => Sys2Proof.Machine.execYieldGroup g s
  | .standbyTokenReturn ch now => Sys2Proof.Machine.execStandbyTokenReturn ch now s
  | .sieveReport source sus detail now => Sys2Proof.Machine.execSieveReport source sus detail now s
  | .sieveAck recno => Sys2Proof.Machine.execSieveAck recno s
  | .sieveRingHeadWrite head => Sys2Proof.Machine.execSieveRingHeadWrite head s
  | .sieveRestore sus => Sys2Proof.Machine.execSieveRestore sus s
  | .sieveInject source sus => Sys2Proof.Machine.execSieveInject source sus s
  | .sieveLock => Sys2Proof.Machine.execSieveLock s
  | .sensorSample values now => Sys2Proof.Machine.execSensorSample values now s
  | .hthPsReq target now => Sys2Proof.Machine.execHthPsReq target now s
  | .ps1IdleEntry since now => Sys2Proof.Machine.execPs1IdleEntry since now s
  | .ps2EntryComplete late now => Sys2Proof.Machine.execPs2EntryComplete late now s
  | .ps2ExitComplete now => Sys2Proof.Machine.execPs2ExitComplete now s
  | .wakeSchedule => Sys2Proof.Machine.execWakeSchedule s
  | .linkActivity k => Sys2Proof.Machine.execLinkActivity k s
  | .wdogKick now => Sys2Proof.Machine.execWdogKick now s
  | .wdogTimeout now => Sys2Proof.Machine.execWdogTimeout now s
  | .aonAlign now => Sys2Proof.Machine.execAonAlign now s
  | .oscTrimUpdate ppb => Sys2Proof.Machine.execOscTrimUpdate ppb s
  | .refclkLost now => Sys2Proof.Machine.execRefclkLost now s
  | .marginSample slacks now => Sys2Proof.Machine.execMarginSample slacks now s
  | .eyeScan l mv more now => Sys2Proof.Machine.execEyeScan l mv more now s
  | .ceTrendHour now => Sys2Proof.Machine.execCeTrendHour now s
  | .serviceEstimate now => Sys2Proof.Machine.execServiceEstimate now s
  | .pictureEvent ch px => Sys2Proof.Machine.execPictureEvent ch px s
  | .feedTime ms now => Sys2Proof.Machine.execFeedTime ms now s
  | .usageRecordClose ms => Sys2Proof.Machine.execUsageRecordClose ms s
  | .loudnessRecordClose l ms => Sys2Proof.Machine.execLoudnessRecordClose l ms s
  | .programmeEnable k => Sys2Proof.Machine.execProgrammeEnable k s
  | .programmeEnd k l ms => Sys2Proof.Machine.execProgrammeEnd k l ms s
  | .readRecord port ms => Sys2Proof.Machine.execReadRecord port ms s
  | .readCert port => Sys2Proof.Machine.execReadCert port s
  | .readStatus port => Sys2Proof.Machine.execReadStatus port s
  | .exported => Sys2Proof.Machine.execExported s
  | .installAuthority port ms => Sys2Proof.Machine.execInstallAuthority port ms s
  | .setClassLimits port ms => Sys2Proof.Machine.execSetClassLimits port ms s
  | .clearTamper port ms => Sys2Proof.Machine.execClearTamper port ms s
  | .lidOpen ms => Sys2Proof.Machine.execLidOpen ms s
  | .paddockPowerUp gap => Sys2Proof.Machine.execPaddockPowerUp gap s
  | .pdkSilent now => Sys2Proof.Machine.execPdkSilent now s
  | .consSnapGo scope now => Sys2Proof.Machine.execConsSnapGo scope now s
  | .snapshotComplete now => Sys2Proof.Machine.execSnapshotComplete now s
  | .autoSnapshot now => Sys2Proof.Machine.execAutoSnapshot now s
  | .pwrGoodRise b => Sys2Proof.Machine.execPwrGoodRise b s
  | .pwrGoodFall => Sys2Proof.Machine.execPwrGoodFall s
  | .sysRst perst b now => Sys2Proof.Machine.execSysRst perst b now s
  | .gctlResetCore b now => Sys2Proof.Machine.execGctlResetCore b now s
  | .perst => Sys2Proof.Machine.execPerst s
  | .aonPowerUp => Sys2Proof.Machine.execAonPowerUp s
  | .recoveryGo len errors => Sys2Proof.Machine.execRecoveryGo len errors s
  | .svnBurn => Sys2Proof.Machine.execSvnBurn s
  | .svnBurnDone => Sys2Proof.Machine.execSvnBurnDone s
  | .debugResponse r => Sys2Proof.Machine.execDebugResponse r s
  | .recipeKeyLoad k => Sys2Proof.Machine.execRecipeKeyLoad k s
  | .policyLock => Sys2Proof.Machine.execPolicyLock s
  | .perstRelease width speed => Sys2Proof.Machine.execPerstRelease width speed s
  | .wlLaneRegainsLock p l => Sys2Proof.Machine.execWlLaneRegainsLock p l s
  | .flitCrcFail p sequenced now => Sys2Proof.Machine.execFlitCrcFail p sequenced now s

end Sys2Proof.Machine
end

