-- ==== Sys2Proof/Safety.lean ====
section
/-! DEFINITION. The terms in which statements about the device are made: when an instruction issues, what it may leave changed, and what every step keeps. -/

namespace Sys2Proof.Machine

/-- The instruction with word `w` is what its agent issues next: the agent's next act is an issue, the fetch brings `w`, and the code of the word's memory
finds nothing that it cannot correct. -/
def State.issues (s : State) (x : Issue) (w : Nat) : Prop :=
  s.mayIssue x = true ∧ (s.advance (s.issueAt x)).fetch x.agent = .word w ∧ x.code ≠ .bad

/-- The context of the agent of an issue. -/
def State.own (s : State) (x : Issue) : Thread := s.thr (agentIx x.agent)

/-- An issue that counts one corrected error counts it in the key of SEQ_ECC_COUNT of the thread's sequencer. -/
def countsAt (x : Issue) (k : Nat) : Prop := x.code = .corrected ∧ ∃ n, x.agent = .thread n ∧ k = (R.SEQ_ECC_COUNT_COUNT (n.val / 4)).key

/-- What every instruction that acts on nothing but its own context leaves: all of the state but the time, which is that of its issue, the contexts with
their places in the issue, and the register file is as it was, the contexts and places of other agents are as they were, and of the registers only a
count of a corrected error may change. -/
def State.sameBut (s t : State) (x : Issue) : Prop :=
  t = { s with raw := max s.raw (s.issueAt x), threads := t.threads, turns := t.turns, regs := t.regs } ∧
  (∀ j, j ≠ agentIx x.agent → t.thr j = s.thr j ∧ t.turn j = s.turn j) ∧
  (∀ k, t.reg k = s.reg k ∨ countsAt x k)

/-- The same of an instruction that acts on the sequencer memories too. -/
def State.sameButSeq (s t : State) (x : Issue) : Prop :=
  t = { s with raw := max s.raw (s.issueAt x), threads := t.threads, turns := t.turns, regs := t.regs, seqMem := t.seqMem, seqBad := t.seqBad } ∧
  (∀ j, j ≠ agentIx x.agent → t.thr j = s.thr j ∧ t.turn j = s.turn j) ∧
  (∀ k, t.reg k = s.reg k ∨ countsAt x k)

/-- The issue, as one that corrected an error where its access found one to correct. -/
def withEcc (x : Issue) (ecc : Check) : Issue := if ecc = .corrected then { x with code := .corrected } else x

/-- A context after an instruction of `c` cycles has completed with `v` for rd: the PC moves on, the counts rise. -/
def Thread.completed (t : Thread) (c rd : Nat) (v : Word) : Thread :=
  { t with pc := (t.pc + 4) % 2 ^ 64, instret := t.instret + 1, cycles := t.cycles + c, runcount := t.runcount + 1 }.wg rd v

/-- The invariant that every step keeps: the memories are in canonical form. -/
def State.memoriesWf (s : State) : Prop := Memory.wf s.mem = true ∧ Memory.wf s.seqMem = true

end Sys2Proof.Machine
end

