-- ==== Sys2Proof/Certificates/Slice0/Obligations.lean ====
section
/-! DEFINITION. The statements about the device, each a proposition for the provers. -/

open Sys2Proof Sys2Proof.Machine

/-! ### Morop: arithmetic and logic -/

namespace Sys2Proof.Spec

/-- A signed number kept within the signed 64-bit range (R110: saturated). -/
def clamp (v : Int) : Word := BitVec.ofInt 64 (max (-(2 ^ 63)) (min (2 ^ 63 - 1) v))

/-- The instructions of opcode 0x00 as R110's table has them: constructor, func, cycles, and what rd gets of rs1 and rs2. -/
def aluTable : List ((Issue → Reg → Reg → Reg → Instr) × Nat × Nat × (Word → Word → Word)) :=
  [(.add, 0x001, 1, fun a b => a + b),
   (.sub, 0x002, 1, fun a b => a - b),
   (.and, 0x003, 1, fun a b => a &&& b),
   (.or, 0x004, 1, fun a b => a ||| b),
   (.xor, 0x005, 1, fun a b => a ^^^ b),
   (.shl, 0x006, 1, fun a b => BitVec.ofNat 64 (a.toNat * 2 ^ (b.toNat % 64))),
   (.shr, 0x007, 1, fun a b => BitVec.ofNat 64 (a.toNat / 2 ^ (b.toNat % 64))),
   (.sra, 0x008, 1, fun a b => BitVec.ofInt 64 (a.toInt / 2 ^ (b.toNat % 64))),
   (.slt, 0x009, 1, fun a b => if a.toInt < b.toInt then 1 else 0),
   (.sltu, 0x00A, 1, fun a b => if a.toNat < b.toNat then 1 else 0),
   (.min, 0x00B, 1, fun a b => if a.toInt < b.toInt then a else b)] ++
  [(.max, 0x00C, 1, fun a b => if a.toInt < b.toInt then b else a),
   (.minu, 0x00D, 1, fun a b => if a.toNat < b.toNat then a else b),
   (.maxu, 0x00E, 1, fun a b => if a.toNat < b.toNat then b else a),
   (.adds, 0x00F, 1, fun a b => clamp (a.toInt + b.toInt)),
   (.subs, 0x010, 1, fun a b => clamp (a.toInt - b.toInt)),
   (.mul, 0x011, 1, fun a b => BitVec.ofNat 64 (a.toNat * b.toNat)),
   (.mulhu, 0x012, 1, fun a b => BitVec.ofNat 64 (a.toNat * b.toNat / 2 ^ 64)),
   (.mulq, 0x013, 1, fun a b => clamp ((a.toInt * b.toInt + 2 ^ 15) / 2 ^ 16)),
   (.divu, 0x014, 20, fun a b => if b = 0 then 0xFFFFFFFFFFFFFFFF else BitVec.ofNat 64 (a.toNat / b.toNat)),
   (.remu, 0x015, 20, fun a b => if b = 0 then a else BitVec.ofNat 64 (a.toNat % b.toNat)),
   (.clz, 0x016, 1, fun a _ => BitVec.ofNat 64 (if a = 0 then 64 else 63 - a.toNat.log2)),
   (.popc, 0x017, 1, fun a _ => BitVec.ofNat 64 ((List.range 64).countP (fun i => a.getLsbD i)))]

/-- The immediate forms of R110 but the shifts and INSI: constructor, opcode, and what rd gets of rs1 and imm16. -/
def immTable : List ((Issue → Reg → Reg → BitVec 16 → Instr) × Nat × (Word → BitVec 16 → Word)) :=
  [(.addi, 0x01, fun a i => a + i.signExtend 64),
   (.andi, 0x02, fun a i => a &&& i.setWidth 64),
   (.ori, 0x03, fun a i => a ||| i.setWidth 64),
   (.xori, 0x04, fun a i => a ^^^ i.setWidth 64),
   (.slti, 0x05, fun a i => if a.toInt < i.toInt then 1 else 0),
   (.sltiu, 0x06, fun a i => if a.toNat < (i.signExtend 64).toNat then 1 else 0)]

/-- The shifts by an immediate (R110): constructor, opcode, and what rd gets of rs1 shifted by n. -/
def shiftTable : List ((Issue → Reg → Reg → BitVec 16 → Instr) × Nat × (Word → Nat → Word)) :=
  [(.shli, 0x08, fun a n => BitVec.ofNat 64 (a.toNat * 2 ^ n)),
   (.shri, 0x09, fun a n => BitVec.ofNat 64 (a.toNat / 2 ^ n)),
   (.srai, 0x0A, fun a n => BitVec.ofInt 64 (a.toInt / 2 ^ n))]

/-- The agent's context after a trap, with a word `pc` as the trapping address: a thread is TRAPPED with its registers as they were. -/
def trapped (t : Thread) (cause : Nat) (tval : Word) (u : Thread) : Prop :=
  u.st = .trapped ∧ u.tpc = t.pc ∧ u.cause = cause ∧ u.tval = tval ∧ u.g = t.g ∧ u.pc = t.pc ∧ u.instret = t.instret

end Sys2Proof.Spec

/-- For each of ADD to POPC (the 23 instructions of opcode 0x00): whenever its agent issues it, exec answers a next state in which rd (unless it is
g0, which discards) holds the result that R110's table gives for rs1 and rs2, the PC has moved on by 4, INSTRET and RUNCOUNT have counted it, CYCLES
has counted its cycles (DIVU and REMU 20, the others 1), every other field of its context is unchanged, and so is all else of the state but the time
and a corrected error's count. (R110, R85, R87) -/
def Obligations.RegisterFormResults : Prop :=
  ∀ p ∈ Sys2Proof.Spec.aluTable, ∀ (x : Issue) (rd rs1 rs2 : Reg) (s : State), s.issues x (encR 0x00 rd rs1 rs2 p.2.1) →
    ∃ t, exec (p.1 x rd rs1 rs2) s = .next t ∧
      t.own x = (s.own x).completed p.2.2.1 rd (p.2.2.2 ((s.own x).rg rs1) ((s.own x).rg rs2)) ∧ s.sameBut t x

/-- ADDI, ANDI, ORI, XORI, SLTI and SLTIU, SHLI, SHRI and SRAI with imm16[15:6] zero, and INSI: whenever its agent issues it, exec answers a next
state in which rd holds R110's result (INSI: bits [16 lane + 15 : 16 lane] are imm16, the other bits of rd are unchanged), the PC has moved on by 4,
the counts have counted one instruction of one cycle, and nothing else has changed but the time and a corrected error's count. (R110, R85, R107) -/
def Obligations.ImmediateFormResults : Prop :=
  (∀ p ∈ Sys2Proof.Spec.immTable, ∀ (x : Issue) (rd rs1 : Reg) (imm : BitVec 16) (s : State), s.issues x (encI p.2.1 rd rs1 imm) →
    ∃ t, exec (p.1 x rd rs1 imm) s = .next t ∧ t.own x = (s.own x).completed 1 rd (p.2.2 ((s.own x).rg rs1) imm) ∧ s.sameBut t x) ∧
  (∀ p ∈ Sys2Proof.Spec.shiftTable, ∀ (x : Issue) (rd rs1 : Reg) (imm : BitVec 16) (s : State), imm.toNat < 64 → s.issues x (encI p.2.1 rd rs1 imm) →
    ∃ t, exec (p.1 x rd rs1 imm) s = .next t ∧ t.own x = (s.own x).completed 1 rd (p.2.2 ((s.own x).rg rs1) imm.toNat) ∧ s.sameBut t x) ∧
  (∀ (x : Issue) (rd : Reg) (lane : BitVec 2) (imm : BitVec 16) (s : State), s.issues x (encN 0x0B rd lane imm) →
    ∃ t v, exec (.insi x rd lane imm) s = .next t ∧ t.own x = (s.own x).completed 1 rd v ∧ s.sameBut t x ∧
      ∀ j < 64, v.getLsbD j = if j / 16 = lane.toNat then imm.getLsbD (j % 16) else ((s.own x).rg rd).getLsbD j)


/-! ### Morop: memory -/

namespace Sys2Proof.Spec

/-- The loads of R110: constructor, opcode, bytes, whether the value is extended with its sign. -/
def loadTable : List ((Issue → Reg → Reg → BitVec 16 → Check → Instr) × Nat × Nat × Bool) :=
  [(.lb, 0x10, 1, false), (.lh, 0x11, 2, false), (.lw, 0x12, 4, false), (.lws, 0x13, 4, true), (.ld, 0x14, 8, false)]

/-- The stores of R110: constructor, opcode, bytes. -/
def storeTable : List ((Issue → Reg → Reg → BitVec 16 → Instr) × Nat × Nat) :=
  [(.sb, 0x18, 1), (.sh, 0x19, 2), (.sw, 0x1A, 4), (.sd, 0x1C, 8)]

/-- The atomic operations of R110: constructor, func, and the word left in memory, of the word there, rs2 and rd. -/
def atomicTable : List ((Issue → Reg → Reg → Reg → Check → Instr) × Nat × (Word → Word → Word → Word)) :=
  [(.aadd, 0x001, fun m b _ => m + b), (.aswp, 0x002, fun _ b _ => b), (.acas, 0x003, fun m b d => if m = d then b else m)]

/-- The far instructions of R110: constructor, opcode, bytes, whether it stores. -/
def farTable : List ((Issue → Reg → Reg → BitVec 16 → Instr) × Nat × Nat × Bool) :=
  [(.lwf, 0x15, 4, false), (.ldf, 0x16, 8, false), (.swf, 0x1D, 4, true), (.sdf, 0x1E, 8, true)]

/-- rs1 + sext(imm16), modulo 2^64 (R88). -/
def address (s : State) (x : Issue) (rs1 : Reg) (imm : BitVec 16) : Nat := ((s.own x).rg rs1 + imm.signExtend 64).toNat

/-- Whether n bytes at address a lie in the data partition, below DLEN (R88, R89). -/
def inData (s : State) (t : Thr) (a n : Nat) : Prop := a + n ≤ s.dataLen t

/-- Whether n bytes at address a lie in the bound channel's context window, with a width that R88 allows there. -/
def inWindow (s : State) (t : Thr) (a n : Nat) : Prop :=
  (s.thr t).chan < 256 ∧ 0x10000 ≤ a ∧ a + n ≤ 0x40000 ∧ (4 ≤ n ∨ (0x18000 ≤ a ∧ a + n ≤ 0x20000))

/-- A value of n bytes as a load leaves it in rd. -/
def loaded (signed : Bool) (n v : Nat) : Word := if signed then (BitVec.ofNat (8 * n) v).signExtend 64 else BitVec.ofNat 64 v

/-- Sequencer memory after n bytes of v have been stored at key k, and its words with an uncorrectable error: a store of a whole word removes one. -/
def stored (s t : State) (k n v : Nat) : Prop :=
  (∀ j, t.seqByte j = if k ≤ j ∧ j < k + n then BitVec.ofNat 8 (v / 256 ^ (j - k)) else s.seqByte j) ∧
  (∀ w, w ∈ t.seqBad ↔ w ∈ s.seqBad ∧ ¬(n = 8 ∧ w = k / 8))

end Sys2Proof.Spec

/-- LB, LH, LW, LWS and LD issued by a thread at an aligned address whose bytes all lie below DLEN and hold no uncorrectable error: exec answers a
next state in which rd holds the little-endian value of the bytes at DBASE + address in the sequencer's data memory, extended with zeros (LWS: with
its sign), the PC has moved on by 4 and the counts have counted one instruction of one cycle; nothing else changes but the time and the count of
corrected errors. (R88, R110, R125, R5) -/
def Obligations.DataPartitionLoads : Prop :=
  ∀ p ∈ Sys2Proof.Spec.loadTable, ∀ (x : Issue) (n : Thr) (rd rs1 : Reg) (imm : BitVec 16) (ecc : Check) (s : State),
    let a := Sys2Proof.Spec.address s x rs1 imm
    x.agent = .thread n → s.issues x (encI p.2.1 rd rs1 imm) → Sys2Proof.Spec.inData s n a p.2.2.1 → a % p.2.2.1 = 0 → ecc ≠ .bad →
    s.seqBadAt (s.dataKey n a) p.2.2.1 = false →
    ∃ t, exec (p.1 x rd rs1 imm ecc) s = .next t ∧
      t.own x = (s.own x).completed 1 rd (Sys2Proof.Spec.loaded p.2.2.2 p.2.2.1 (s.seqRd (s.dataKey n a) p.2.2.1)) ∧ s.sameBut t (withEcc x ecc)

/-- SB, SH, SW and SD issued by a thread at an aligned address whose bytes all lie below DLEN: exec answers a next state in which the low bytes of the
data register stand at DBASE + address in the sequencer's data memory, little-endian, and every other byte of the sequencer memories reads as before
(an SD removes the uncorrectable error of the word it writes); the PC has moved on by 4, the counts have counted one instruction of one cycle, no
general register changes, and all of device memory and the rest of the state are as before but the time and a corrected error's count. (R88, R110,
R125, R5) -/
def Obligations.DataPartitionStores : Prop :=
  ∀ p ∈ Sys2Proof.Spec.storeTable, ∀ (x : Issue) (n : Thr) (rd rs1 : Reg) (imm : BitVec 16) (s : State),
    let a := Sys2Proof.Spec.address s x rs1 imm
    x.agent = .thread n → s.issues x (encI p.2.1 rd rs1 imm) → Sys2Proof.Spec.inData s n a p.2.2 → a % p.2.2 = 0 →
    ∃ t, exec (p.1 x rd rs1 imm) s = .next t ∧ t.own x = (s.own x).completed 1 0 0 ∧
      Sys2Proof.Spec.stored s t (s.dataKey n a) p.2.2 ((s.own x).rg rd).toNat ∧ s.sameButSeq t x

/-- AADD, ASWP and ACAS issued by a thread at an address, rs1, that is a multiple of 8 and whose word lies below DLEN and holds no uncorrectable
error: exec answers a next state in which rd holds the word as it was, the memory holds m + rs2 (AADD), rs2 (ASWP), or rs2 if the word equalled rd and
else the word as it was (ACAS); every other byte of the sequencer memories reads as before, the PC has moved on by 4, the counts have counted one
instruction of two cycles, and nothing else changes but the time and the count of corrected errors. (R110, R125) -/
def Obligations.AtomicOperations : Prop :=
  ∀ p ∈ Sys2Proof.Spec.atomicTable, ∀ (x : Issue) (n : Thr) (rd rs1 rs2 : Reg) (ecc : Check) (s : State),
    let a := ((s.own x).rg rs1).toNat
    let m := BitVec.ofNat 64 (s.seqRd (s.dataKey n a) 8)
    x.agent = .thread n → s.issues x (encR 0x1F rd rs1 rs2 p.2.1) → Sys2Proof.Spec.inData s n a 8 → a % 8 = 0 → ecc ≠ .bad →
    s.seqBadAt (s.dataKey n a) 8 = false →
    ∃ t, exec (p.1 x rd rs1 rs2 ecc) s = .next t ∧ t.own x = (s.own x).completed 2 rd m ∧
      Sys2Proof.Spec.stored s t (s.dataKey n a) 8 (p.2.2 m ((s.own x).rg rs2) ((s.own x).rg rd)).toNat ∧ s.sameButSeq t (withEcc x ecc)

/-- A load or store issued by a thread bound to a channel below 256, at an aligned address beyond DLEN from 0x1_0000 to 0x3_FFFF with a width that R88
allows there: exec answers the next state in which the access of the register region at the channel's window, offset address minus 0x1_0000, has been
made by the recipe, rd holds the value read (extended as the load says), which later instructions can use after the load's latency of eight cycles, or
the store's bytes have been written with the time of the fourth CLK_SEQ cycle after and its completion is 6 ns away, and the instruction has completed
in one cycle. (R88, R89, R91, R96, R110) -/
def Obligations.ContextWindowAccesses : Prop :=
  ∀ (x : Issue) (n : Thr) (rd rs1 : Reg) (imm : BitVec 16) (s : State), x.agent = .thread n →
    let a := Sys2Proof.Spec.address s x rs1 imm
    let off := ctxBase + ctxStride * (s.own x).chan + (a - 0x10000)
    let u := s.issuing x
    (∀ p ∈ Sys2Proof.Spec.loadTable, ∀ ecc, s.issues x (encI p.2.1 rd rs1 imm) → ¬Sys2Proof.Spec.inData s n a p.2.2.1 →
      Sys2Proof.Spec.inWindow s n a p.2.2.1 → a % p.2.2.1 = 0 →
      exec (p.1 x rd rs1 imm ecc) s = .next (((u.busRead (.recipe n) off p.2.2.1).1.retireRd n 1 rd
        (Sys2Proof.Spec.loaded p.2.2.2 p.2.2.1 ((u.busRead (.recipe n) off p.2.2.1).2.getD 0))).later n rd 8)) ∧
    (∀ p ∈ Sys2Proof.Spec.storeTable, s.issues x (encI p.2.1 rd rs1 imm) → ¬Sys2Proof.Spec.inData s n a p.2.2 →
      Sys2Proof.Spec.inWindow s n a p.2.2 → a % p.2.2 = 0 →
      exec (p.1 x rd rs1 imm) s = .next ((u.later4 (fun v => v.busWrite (.recipe n) noInput off p.2.2 (((s.own x).rg rd).toNat % 256 ^ p.2.2))).retire n 1
        (fun t => { t with storesUntil := u.raw + 6 })))

/-- A load or store by a thread whose bytes lie neither below DLEN nor, for a thread bound to a channel, in the context window with a width that R88
allows there traps with cause BND (0x04); one within those spaces whose address is not a multiple of its width traps with cause MAL (0x03); a far
access that lies in none of the thread's far windows traps with cause FPM (0x05), and one within them that is misaligned traps with cause MAL. In each
case the thread is TRAPPED with TVAL the address, its registers as they were, and no byte of the sequencer memories or of device memory has changed.
(R89, R90) -/
def Obligations.AccessTraps : Prop :=
  ∀ (x : Issue) (n : Thr) (rd rs1 : Reg) (imm : BitVec 16) (s : State), x.agent = .thread n →
    let a := Sys2Proof.Spec.address s x rs1 imm
    let traps := fun (t : State) (c : Nat) => Sys2Proof.Spec.trapped (s.own x) c (BitVec.ofNat 64 a) (t.own x) ∧ t.seqMem = s.seqMem ∧ t.mem = s.mem
    (∀ p ∈ Sys2Proof.Spec.loadTable, ∀ ecc, s.issues x (encI p.2.1 rd rs1 imm) →
      (¬Sys2Proof.Spec.inData s n a p.2.2.1 → ¬Sys2Proof.Spec.inWindow s n a p.2.2.1 → ∃ t, exec (p.1 x rd rs1 imm ecc) s = .next t ∧ traps t 0x04) ∧
      (Sys2Proof.Spec.inData s n a p.2.2.1 ∨ Sys2Proof.Spec.inWindow s n a p.2.2.1 → a % p.2.2.1 ≠ 0 →
        ∃ t, exec (p.1 x rd rs1 imm ecc) s = .next t ∧ traps t 0x03)) ∧
    (∀ p ∈ Sys2Proof.Spec.storeTable, s.issues x (encI p.2.1 rd rs1 imm) →
      (¬Sys2Proof.Spec.inData s n a p.2.2 → ¬Sys2Proof.Spec.inWindow s n a p.2.2 → ∃ t, exec (p.1 x rd rs1 imm) s = .next t ∧ traps t 0x04) ∧
      (Sys2Proof.Spec.inData s n a p.2.2 ∨ Sys2Proof.Spec.inWindow s n a p.2.2 → a % p.2.2 ≠ 0 →
        ∃ t, exec (p.1 x rd rs1 imm) s = .next t ∧ traps t 0x03)) ∧
    (∀ p ∈ Sys2Proof.Spec.farTable, s.issues x (encI p.2.1 rd rs1 imm) →
      (s.farOk n a p.2.2.1 = false → ∃ t, exec (p.1 x rd rs1 imm) s = .next t ∧ traps t 0x05) ∧
      (s.farOk n a p.2.2.1 = true → a % p.2.2.1 ≠ 0 → ∃ t, exec (p.1 x rd rs1 imm) s = .next t ∧ traps t 0x03))

/-- LWF, LDF, SWF and SDF issued at an aligned address (by a thread, inside its far windows) leave their agent BLOCKED on that access.
FAR_ACCESS_COMPLETE for an agent blocked on a far access to shared memory outside HBM and outside the register region makes it: a load leaves the
bytes there in rd, a store leaves its bytes there and every other byte of device memory as it was, and the agent is RUNNABLE with its PC moved on by 4
and INSTRET counted. For an address outside the regions of R45 a thread's load traps with cause FER (0x06) and TVAL the address. (R94, R95, R110,
R130) -/
def Obligations.FarAccesses : Prop :=
  (∀ p ∈ Sys2Proof.Spec.farTable, ∀ (x : Issue) (rd rs1 : Reg) (imm : BitVec 16) (s : State), s.issues x (encI p.2.1 rd rs1 imm) →
    let a := Sys2Proof.Spec.address s x rs1 imm
    (∀ n, x.agent = .thread n → s.farOk n a p.2.2.1 = true) → a % p.2.2.1 = 0 →
    ∃ t, exec (p.1 x rd rs1 imm) s = .next t ∧ s.sameBut t x ∧
      t.own x = { s.own x with st := .blocked, cycles := (s.own x).cycles + 1, runcount := (s.own x).runcount + 1,
                               block := .far (if p.2.2.2 then .store else .load false) p.2.2.1 rd a ((s.own x).rg rd) }) ∧
  (∀ (g : Agent) (ecc : EccResult) (y : AccessIn) (s : State) (op : MemOp) (n rd a : Nat) (d : Word), s.runs g = true →
    (s.thr (agentIx g)).block = .far op n rd a d → inHbm a = false →
    (mappedRange a n = true → inRegs a = false → op = .load false → ∃ t, exec (.farAccessComplete g ecc y) s = .next t ∧ t.mem = s.mem ∧
      t.thr (agentIx g) = { s.thr (agentIx g) with st := .runnable, block := .none, pc := ((s.thr (agentIx g)).pc + 4) % 2 ^ 64,
                                                   instret := (s.thr (agentIx g)).instret + 1 }.wg rd (BitVec.ofNat 64 (s.rd a n))) ∧
    (mappedRange a n = true → inRegs a = false → op = .store → ∃ t, exec (.farAccessComplete g ecc y) s = .next t ∧
      (∀ b, t.byte b = if a ≤ b ∧ b < a + n then BitVec.ofNat 8 (d.toNat / 256 ^ (b - a)) else s.byte b) ∧
      t.thr (agentIx g) = { s.thr (agentIx g) with st := .runnable, block := .none, pc := ((s.thr (agentIx g)).pc + 4) % 2 ^ 64,
                                                   instret := (s.thr (agentIx g)).instret + 1 }) ∧
    (mappedRange a n = false → op = .load false → (∃ k, g = .thread k) → ∃ t, exec (.farAccessComplete g ecc y) s = .next t ∧
      Sys2Proof.Spec.trapped (s.thr (agentIx g)) 0x06 (BitVec.ofNat 64 a) (t.thr (agentIx g))))

/-- A thread that issues a word that is no instruction (undefined opcode or func, or a non-zero unused bit of format N), a shift by an immediate with
imm16[15:6] not zero, MTS or SIG with rd not g0, MFS or MTS with a number above 0x013, TRAP with rd or rs1 not g0, or any of RDK, WRK, RETK, SLEEP,
DCINV, DCWB, DCWBALL and ICINV, is TRAPPED in the next state: TPC holds the instruction's address, the cause is ILL (0x01), TVAL is the instruction
word, and its general registers, PC and INSTRET are as they were. Likewise BKPT traps with cause 0x0A and TVAL 0, and TRAP with cause 0x09 and TVAL
imm16. For a thread whose next act is an issue, and any instruction of opcode 0x00: a PC at or above ILEN traps with cause FET (0x02), TVAL the PC;
else RUNLIM_EN with RUNCOUNT + 1 above LIMIT traps with cause RLM (0x07), TVAL RUNCOUNT; else an uncorrectable error in the word at the PC traps with
cause ECC (0x0C). A load from the data partition whose word has an uncorrectable error, found now or before, traps with cause ECC and the word is
marked. In each case the registers are as they were. (R87, R93, R108, R109, R110, R115, R124, R125, R131) -/
def Obligations.ThreadTraps : Prop :=
  (
  ∀ (x : Issue) (n : Thr) (s : State), x.agent = .thread n →
    (∀ w : BitVec 32, undefinedWord w.toNat = true → s.issues x w.toNat →
      ∃ t, exec (.undefinedInstruction x w) s = .next t ∧ Sys2Proof.Spec.trapped (s.own x) 0x01 (w.setWidth 64) (t.own x)) ∧
    (∀ p ∈ Sys2Proof.Spec.shiftTable, ∀ (rd rs1 : Reg) (imm : BitVec 16), 64 ≤ imm.toNat → s.issues x (encI p.2.1 rd rs1 imm) →
      ∃ t, exec (p.1 x rd rs1 imm) s = .next t ∧ Sys2Proof.Spec.trapped (s.own x) 0x01 (BitVec.ofNat 64 (encI p.2.1 rd rs1 imm)) (t.own x)) ∧
    (∀ (rd rs1 rs2 : Reg), rd ≠ 0 → s.issues x (encR 0x2C rd rs1 rs2 0x000) →
      ∃ t, exec (.sig x rd rs1 rs2) s = .next t ∧ Sys2Proof.Spec.trapped (s.own x) 0x01 (BitVec.ofNat 64 (encR 0x2C rd rs1 rs2 0x000)) (t.own x)) ∧
    (∀ p ∈ ([(.mfs, 0x2E), (.mts, 0x2F)] : List ((Issue → Reg → Reg → BitVec 16 → Instr) × Nat)), ∀ (rd rs1 : Reg) (imm : BitVec 16),
      0x013 < imm.toNat ∨ (p.2 = 0x2F ∧ rd ≠ 0) → s.issues x (encI p.2 rd rs1 imm) →
      ∃ t, exec (p.1 x rd rs1 imm) s = .next t ∧ Sys2Proof.Spec.trapped (s.own x) 0x01 (BitVec.ofNat 64 (encI p.2 rd rs1 imm)) (t.own x)) ∧
    (∀ (rd rs1 : Reg) (imm : BitVec 16), s.issues x (encI 0x31 rd rs1 imm) → ∃ t, exec (.trap x rd rs1 imm) s = .next t ∧
      if rd = 0 ∧ rs1 = 0 then Sys2Proof.Spec.trapped (s.own x) 0x09 (imm.setWidth 64) (t.own x)
      else Sys2Proof.Spec.trapped (s.own x) 0x01 (BitVec.ofNat 64 (encI 0x31 rd rs1 imm)) (t.own x)) ∧
    (∀ (rd rs1 rs2 : Reg), s.issues x (encR 0x30 rd rs1 rs2 0x005) →
      ∃ t, exec (.bkpt x rd rs1 rs2) s = .next t ∧ Sys2Proof.Spec.trapped (s.own x) 0x0A 0 (t.own x)) ∧
    (∀ p ∈ ([(.rdk, 0x38), (.wrk, 0x39)] : List ((Issue → Reg → Reg → BitVec 16 → Instr) × Nat)), ∀ (rd rs1 : Reg) (imm : BitVec 16),
      s.issues x (encI p.2 rd rs1 imm) →
      ∃ t, exec (p.1 x rd rs1 imm) s = .next t ∧ Sys2Proof.Spec.trapped (s.own x) 0x01 (BitVec.ofNat 64 (encI p.2 rd rs1 imm)) (t.own x)) ∧
    (∀ p ∈ ([(.retk, 1), (.sleep, 2), (.dcinv, 3), (.dcwb, 4), (.dcwball, 5), (.icinv, 6)] : List ((Issue → Reg → Reg → Reg → Instr) × Nat)),
      ∀ (rd rs1 rs2 : Reg), s.issues x (encR 0x3E rd rs1 rs2 p.2) →
      ∃ t, exec (p.1 x rd rs1 rs2) s = .next t ∧ Sys2Proof.Spec.trapped (s.own x) 0x01 (BitVec.ofNat 64 (encR 0x3E rd rs1 rs2 p.2)) (t.own x))) ∧
  (
  ∀ (x : Issue) (n : Thr) (s : State), x.agent = .thread n → s.mayIssue x = true →
    let limit := s.flag (R.SEQ_TH_CTRL_RUNLIM_EN (n.val / 4) (n.val % 4)) = true ∧
      s.get (R.SEQ_TH_RUNLIM_LIMIT (n.val / 4) (n.val % 4)) < (s.own x).runcount + 1
    let beyond := s.get (R.SEQ_TH_IMAP_LEN (n.val / 4) (n.val % 4)) ≤ (s.own x).pc
    (∀ p ∈ Sys2Proof.Spec.aluTable, ∀ rd rs1 rs2 : Reg,
      (beyond → ∃ t, exec (p.1 x rd rs1 rs2) s = .next t ∧ Sys2Proof.Spec.trapped (s.own x) 0x02 (BitVec.ofNat 64 (s.own x).pc) (t.own x)) ∧
      (¬beyond → limit → ∃ t, exec (p.1 x rd rs1 rs2) s = .next t ∧
        Sys2Proof.Spec.trapped (s.own x) 0x07 (BitVec.ofNat 64 (s.own x).runcount) (t.own x)) ∧
      (¬beyond → ¬limit → x.code = .bad → s.seqBadAt (s.pcKey n) 4 = false → ∃ t v, exec (p.1 x rd rs1 rs2) s = .next t ∧
        Sys2Proof.Spec.trapped (s.own x) 0x0C v (t.own x) ∧ s.pcKey n / 8 ∈ t.seqBad)) ∧
    (∀ p ∈ Sys2Proof.Spec.loadTable, ∀ (rd rs1 : Reg) (imm : BitVec 16) (ecc : Check),
      let a := Sys2Proof.Spec.address s x rs1 imm
      s.issues x (encI p.2.1 rd rs1 imm) → Sys2Proof.Spec.inData s n a p.2.2.1 → a % p.2.2.1 = 0 →
      ecc = .bad ∨ s.seqBadAt (s.dataKey n a) p.2.2.1 = true →
      ∃ t v, exec (p.1 x rd rs1 imm ecc) s = .next t ∧ Sys2Proof.Spec.trapped (s.own x) 0x0C v (t.own x) ∧ s.dataKey n a / 8 ∈ t.seqBad))

/-! ### Morop: control, tasks, events and special registers -/

namespace Sys2Proof.Spec

/-- The branches of R110: constructor, opcode, and when the branch is taken, of rs1 and rs2. -/
def branchTable : List ((Issue → Reg → Reg → BitVec 16 → Instr) × Nat × (Word → Word → Prop)) :=
  [(.beq, 0x20, fun a b => a = b), (.bne, 0x21, fun a b => a ≠ b), (.blt, 0x22, fun a b => a.toInt < b.toInt), (.bge, 0x23, fun a b => b.toInt ≤ a.toInt),
   (.bltu, 0x24, fun a b => a.toNat < b.toNat), (.bgeu, 0x25, fun a b => b.toNat ≤ a.toNat)]

/-- A context after an instruction of c cycles that leaves v in rd and goes on at `pc`. -/
def jumped (t : Thread) (c rd : Nat) (v : Word) (pc : Nat) : Thread := { t.completed c rd v with pc := pc }

/-- The special registers of a thread that R87 lists, but those of its sequencer and of its channel. -/
def special (t : Thread) : List (Nat × Nat) :=
  [(0x001, t.chan), (0x002, 1 + (if t.ven then 8 else 0) + 256 * t.cause), (0x003, t.epend.toNat), (0x004, t.epc), (0x005, t.tpc), (0x006, t.tval.toNat), (0x00B, t.cqBase), (0x00C, t.cqLen), (0x00D, t.cqHead),
   (0x00E, t.cqTail), (0x011, t.cycles), (0x012, t.instret)]

end Sys2Proof.Spec

/-- BEQ, BNE, BLT, BGE, BLTU and BGEU complete with the PC at PC + 4 sext(off16) modulo 2^64 in two cycles where their condition on rs1 and rs2 holds,
and at PC + 4 in one cycle elsewhere, changing no general register. JAL leaves PC + 4 in rd and goes on at PC + 4 sext(off21), JALR leaves PC + 4 in
rd and goes on at rs1 + sext(imm16) where that is a multiple of 4, both in two cycles; a JALR of a thread to another target traps with cause MAL, TVAL
the target. Nothing else changes but the time, the counts and a corrected error's count. (R110, R86) -/
def Obligations.BranchesAndJumps : Prop :=
  (∀ p ∈ Sys2Proof.Spec.branchTable, ∀ (x : Issue) (rs1 rs2 : Reg) (off : BitVec 16) (s : State), s.issues x (encB p.2.1 rs1 rs2 off) →
    ∃ t, exec (p.1 x rs1 rs2 off) s = .next t ∧ s.sameBut t x ∧
      (p.2.2 ((s.own x).rg rs1) ((s.own x).rg rs2) →
        t.own x = Sys2Proof.Spec.jumped (s.own x) 2 0 0 (BitVec.ofNat 64 (s.own x).pc + BitVec.ofInt 64 (4 * off.toInt)).toNat) ∧
      (¬p.2.2 ((s.own x).rg rs1) ((s.own x).rg rs2) → t.own x = (s.own x).completed 1 0 0)) ∧
  (∀ (x : Issue) (rd : Reg) (off : BitVec 21) (s : State), s.issues x (encJ 0x26 rd off) →
    ∃ t, exec (.jal x rd off) s = .next t ∧ s.sameBut t x ∧
      t.own x = Sys2Proof.Spec.jumped (s.own x) 2 rd (BitVec.ofNat 64 (s.own x).pc + 4)
        (BitVec.ofNat 64 (s.own x).pc + BitVec.ofInt 64 (4 * off.toInt)).toNat) ∧
  (∀ (x : Issue) (rd rs1 : Reg) (imm : BitVec 16) (s : State), s.issues x (encI 0x27 rd rs1 imm) →
    let a := Sys2Proof.Spec.address s x rs1 imm
    (a % 4 = 0 → ∃ t, exec (.jalr x rd rs1 imm) s = .next t ∧ s.sameBut t x ∧
      t.own x = Sys2Proof.Spec.jumped (s.own x) 2 rd (BitVec.ofNat 64 (s.own x).pc + 4) a) ∧
    (a % 4 ≠ 0 → ∀ n, x.agent = .thread n → ∃ t, exec (.jalr x rd rs1 imm) s = .next t ∧
      Sys2Proof.Spec.trapped (s.own x) 0x03 (BitVec.ofNat 64 a) (t.own x)))

/-- WAIT with func 0x000 by a thread, vectored events counting as not pending for it: if bit e is the lowest bit of EPEND & rs1, the next state has e
in rd, EPEND with that bit cleared and every other bit as it was, RUNCOUNT 0 and the PC moved on by 4. If EPEND & rs1 is zero and rs1 is not, the
thread is WAITING with its PC, registers and EPEND as they were; WAIT_RETURN, once bit e is the lowest of EPEND & the mask, returns e in rd in the
same way and makes the thread RUNNABLE. If rs1 is zero the thread traps with cause WDD (0x08) and TVAL 0. (R111, R114, R105) -/
def Obligations.WaitTakesTheLowestEvent : Prop :=
  let may := fun (s : State) (n : Thr) (mask : Word) => (s.thr n).epend &&& mask &&& ~~~(s.vecMask n)
  let lowest := fun (w : Word) (e : Nat) => e < 64 ∧ w.getLsbD e = true ∧ ∀ j < e, w.getLsbD j = false
  let taken := fun (t u : Thread) (rd e : Nat) => u.rg rd = (if rd = 0 then 0 else BitVec.ofNat 64 e) ∧ (∀ r, r ≠ rd → u.rg r = t.rg r) ∧
    (∀ j, u.epend.getLsbD j = (t.epend.getLsbD j && decide (j ≠ e))) ∧ u.runcount = 0 ∧ u.pc = (t.pc + 4) % 2 ^ 64 ∧ u.st = .runnable
  (∀ (x : Issue) (n : Thr) (rd rs1 rs2 : Reg) (s : State), x.agent = .thread n → s.issues x (encR 0x2B rd rs1 rs2 0x000) →
    let mask := (s.own x).rg rs1
    (∀ e, lowest (may s n mask) e → ∃ t, exec (.wait x rd rs1 rs2 false) s = .next t ∧ taken (s.own x) (t.own x) rd e) ∧
    (mask ≠ 0 → may s n mask = 0 → ∃ t, exec (.wait x rd rs1 rs2 false) s = .next t ∧ s.sameBut t x ∧
      t.own x = { s.own x with st := .waiting, wait := some ⟨mask, none, rd⟩, cycles := (s.own x).cycles + 2, runcount := (s.own x).runcount + 1 }) ∧
    (mask = 0 → ∃ t, exec (.wait x rd rs1 rs2 false) s = .next t ∧ Sys2Proof.Spec.trapped (s.own x) 0x08 0 (t.own x))) ∧
  (∀ (n : Thr) (now : Nat) (s : State) (mask : Word) (rd : Nat) (dl : Option Int), s.runs (.thread n) = true → s.vecMask n = 0 →
    (s.thr n).wait = some ⟨mask, dl, rd⟩ →
    ∀ e, lowest (may s n mask) e → ∃ t, exec (.waitReturn (.thread n) now) s = .next t ∧ taken (s.thr n) (t.thr n) rd e)

/-- WAIT with func 0x001 by a thread with no bit of EPEND & rs1 set but those of vectored events: if PTP time rs2 is not after the local time of
issue, the next state has −1 in rd, EPEND unchanged, RUNCOUNT 0 and the PC moved on by 4; otherwise the thread is WAITING. WAIT_RETURN for a WAITING
thread with nothing of its mask pending and a deadline that is not after the time of the latest dispatcher tick returns −1 in rd in the same way.
(R112, R113, R105) -/
def Obligations.TimedWaitReturnsMinusOne : Prop :=
  let finished := fun (t u : Thread) (rd : Nat) => u.rg rd = (if rd = 0 then 0 else BitVec.allOnes 64) ∧ (∀ r, r ≠ rd → u.rg r = t.rg r) ∧
    u.epend = t.epend ∧ u.runcount = 0 ∧ u.pc = (t.pc + 4) % 2 ^ 64 ∧ u.st = .runnable
  (∀ (x : Issue) (n : Thr) (rd rs1 rs2 : Reg) (s : State), x.agent = .thread n → s.issues x (encR 0x2B rd rs1 rs2 0x001) →
    (s.own x).epend &&& (s.own x).rg rs1 &&& ~~~(s.vecMask n) = 0 →
    ((((s.own x).rg rs2).toNat : Int) ≤ (s.issuing x).now → ∃ t, exec (.wait x rd rs1 rs2 true) s = .next t ∧ s.sameBut t x ∧ finished (s.own x) (t.own x) rd) ∧
    ((s.issuing x).now < (((s.own x).rg rs2).toNat : Int) → ∃ t, exec (.wait x rd rs1 rs2 true) s = .next t ∧ s.sameBut t x ∧
      (t.own x).st = .waiting ∧ (t.own x).g = (s.own x).g ∧ (t.own x).pc = (s.own x).pc)) ∧
  (∀ (n : Thr) (now : Nat) (s : State) (mask : Word) (rd : Nat) (d : Int), s.runs (.thread n) = true → s.vecMask n = 0 →
    (s.thr n).wait = some ⟨mask, some d, rd⟩ → (s.thr n).epend &&& mask &&& ~~~(s.vecMask n) = 0 → d ≤ s.lastTick →
    ∃ t, exec (.waitReturn (.thread n) now) s = .next t ∧ finished (s.thr n) (t.thr n) rd)

/-- VECTOR_ENTRY for a RUNNABLE or WAITING thread with VEN 1 and a vectored event pending, e being the lowest such event and v the first slot that is
valid, vectored and names e: the next state has EPC at the thread's PC (of a WAITING thread the address of its WAIT), VEN 0, the PC at the slot's
address, bit e of EPEND cleared and every other bit as it was, RUNCOUNT 0, three more cycles counted, the thread RUNNABLE, and its general registers
as they were; of a thread that a divide blocks this is when the divide is complete, and nothing else changes but the thread's place in the issue. RETV
by a thread with VEN 0 sets the PC to EPC and VEN to 1 in two cycles; with VEN 1 it traps with cause ILL. (R102, R104) -/
def Obligations.VectorEntrySavesThePc : Prop :=
  (∀ (n : Thr) (s : State) (e v : Nat), s.runs (.thread n) = true → s.vectorDue n = true → (s.thr n).st = .runnable ∨ (s.thr n).st = .waiting →
    e < 64 → (s.vecPending n).getLsbD e = true → (∀ j < e, (s.vecPending n).getLsbD j = false) →
    let takes := fun v => s.flag (R.SEQ_TH_VEC_VALID (n.val / 4) (n.val % 4) v) = true ∧ s.flag (R.SEQ_TH_VEC_VECTORED (n.val / 4) (n.val % 4) v) = true ∧
      s.get (R.SEQ_TH_VEC_EVENT (n.val / 4) (n.val % 4) v) = e
    v < 16 → takes v → (∀ j < v, ¬takes j) →
    ∃ t, exec (.vectorEntry n) s = .next t ∧
      t.thr n = { s.thr n with st := .runnable, wait := none, epc := (s.thr n).pc, ven := false, pc := s.slotAddr n v, epend := (t.thr n).epend,
                               runcount := 0, cycles := (s.thr n).cycles + 3 } ∧
      (∀ j, (t.thr n).epend.getLsbD j = ((s.thr n).epend.getLsbD j && decide (j ≠ e))) ∧ (∀ j, j ≠ n.val → t.thr j = s.thr j ∧ t.turn j = s.turn j) ∧
      t = { s with raw := max s.raw (if seqCycle s.raw < (s.turn n).div then seqNs (s.turn n).div else 0), threads := t.threads, turns := t.turns }) ∧
  (∀ (x : Issue) (n : Thr) (rd rs1 rs2 : Reg) (s : State), x.agent = .thread n → s.issues x (encR 0x30 rd rs1 rs2 0x004) →
    ((s.own x).ven = false → ∃ t, exec (.retv x rd rs1 rs2) s = .next t ∧ s.sameBut t x ∧
      t.own x = { Sys2Proof.Spec.jumped (s.own x) 2 0 0 (s.own x).epc with ven := true }) ∧
    ((s.own x).ven = true → ∃ t, exec (.retv x rd rs1 rs2) s = .next t ∧
      Sys2Proof.Spec.trapped (s.own x) 0x01 (BitVec.ofNat 64 (encR 0x30 rd rs1 rs2 0x004)) (t.own x)))

/-- TIME leaves the local PTP time in rd, TRAW the raw counter, TEPOCH TB_EPOCH. MFS leaves in rd: CHAN, STATUS (state RUNNABLE), EPEND, EPC, TPC,
TVAL, CQBASE, CQLEN, CQHEAD, CQTAIL, CYCLES and INSTRET as the context held them at issue, RUNCOUNT with the MFS itself counted, for a thread TID,
IBASE, ILEN, DBASE and DLEN, and where a channel is bound SNAP and LANDED; a value that the spec leaves open (a thread's registers in a core, a
channel's where none is bound; log 3) is some value. MTS of EPC writes rs1 with bits [1:0] at 0; of CQHEAD writes rs1 if it is below CQLEN and nothing
otherwise; of a register that is RO for recipes writes nothing. Each takes one cycle and changes nothing else but the time and a corrected error's
count. (R110, R87, R122) -/
def Obligations.ClocksAndSpecialRegisters : Prop :=
  (∀ (x : Issue) (rd rs1 rs2 : Reg) (s : State),
    (s.issues x (encR 0x2D rd rs1 rs2 0x001) → ∃ t, exec (.time x rd rs1 rs2) s = .next t ∧ s.sameBut t x ∧
      t.own x = (s.own x).completed 1 rd (BitVec.ofInt 64 (s.advance (s.issueAt x)).now)) ∧
    (s.issues x (encR 0x2D rd rs1 rs2 0x002) → ∃ t, exec (.traw x rd rs1 rs2) s = .next t ∧ s.sameBut t x ∧
      t.own x = (s.own x).completed 1 rd (BitVec.ofNat 64 (max s.raw (s.issueAt x)))) ∧
    (s.issues x (encR 0x2D rd rs1 rs2 0x003) → ∃ t, exec (.tepoch x rd rs1 rs2) s = .next t ∧ s.sameBut t x ∧
      t.own x = (s.own x).completed 1 rd (BitVec.ofNat 64 (s.get R.TB_EPOCH_EPOCH)))) ∧
  (∀ (x : Issue) (rd rs1 : Reg) (imm : BitVec 16) (s : State), s.issues x (encI 0x2E rd rs1 imm) →
    (∀ p ∈ Sys2Proof.Spec.special (s.own x) ++ [(0x013, (s.own x).runcount + 1)], imm.toNat = p.1 →
      ∃ t, exec (.mfs x rd rs1 imm) s = .next t ∧ s.sameBut t x ∧ t.own x = (s.own x).completed 1 rd (BitVec.ofNat 64 p.2)) ∧
    (∀ n : Thr, x.agent = .thread n → ∀ p ∈ [(0x000, n.val), (0x007, s.get (R.SEQ_TH_IMAP_BASE (n.val / 4) (n.val % 4))),
        (0x008, s.get (R.SEQ_TH_IMAP_LEN (n.val / 4) (n.val % 4))), (0x009, s.get (R.SEQ_TH_DMAP_BASE (n.val / 4) (n.val % 4))),
        (0x00A, s.get (R.SEQ_TH_DMAP_LEN (n.val / 4) (n.val % 4)))], imm.toNat = p.1 →
      ∃ t, exec (.mfs x rd rs1 imm) s = .next t ∧ s.sameBut t x ∧ t.own x = (s.own x).completed 1 rd (BitVec.ofNat 64 p.2)) ∧
    ((s.own x).chan < 256 → ∀ p ∈ [(0x00F, s.get (R.CTX_COMMIT_SEQ_SEQ (s.own x).chan)), (0x010, s.get (R.CTX_LANDED_SEQ_SNAP (s.own x).chan))],
      imm.toNat = p.1 → ∃ t, exec (.mfs x rd rs1 imm) s = .next t ∧ s.sameBut t x ∧ t.own x = (s.own x).completed 1 rd (BitVec.ofNat 64 p.2)) ∧
    (imm.toNat ≤ 0x013 → ∃ t v, exec (.mfs x rd rs1 imm) s = .next t ∧ t.own x = (s.own x).completed 1 rd v)) ∧
  (∀ (x : Issue) (rs1 : Reg) (imm : BitVec 16) (s : State), s.issues x (encI 0x2F 0 rs1 imm) →
    let v := ((s.own x).rg rs1).toNat
    let writes := fun (f : Thread → Thread) => ∃ t, exec (.mts x 0 rs1 imm) s = .next t ∧ s.sameBut t x ∧ t.own x = f ((s.own x).completed 1 0 0)
    (imm.toNat = 0x004 → writes (fun t => { t with epc := v / 4 * 4 })) ∧
    (imm.toNat = 0x00D → v < (s.own x).cqLen → writes (fun t => { t with cqHead := v })) ∧
    (imm.toNat = 0x00D → (s.own x).cqLen ≤ v → writes id) ∧
    (imm.toNat ∈ [0x000, 0x001, 0x002, 0x003, 0x005, 0x006, 0x007, 0x008, 0x009, 0x00A, 0x00E, 0x00F, 0x010, 0x011, 0x012, 0x013] → writes id))

/-- MTS of CQBASE or CQLEN by a thread: where a task of the thread holds a task entry, a record is held, CQHEAD differs from CQTAIL, or the ring that
the write would leave (CQBASE + 16 CQLEN) does not fit within DLEN, the write is discarded and all four registers keep their values; otherwise the
register takes rs1, the other of the two keeps its value, and CQHEAD and CQTAIL are 0. MTS of CQHEAD takes rs1 if it is below CQLEN and is discarded
otherwise. START, where it acts, sets all four registers to 0. (R122) -/
def Obligations.RingMovesOnlyWhileEmpty : Prop :=
  (∀ (x : Issue) (n : Thr) (rs1 : Reg) (imm : BitVec 16) (s : State), x.agent = .thread n → imm.toNat ∈ [0x00B, 0x00C, 0x00D] →
    s.issues x (encI 0x2F 0 rs1 imm) →
    let v := ((s.own x).rg rs1).toNat
    let t0 := s.own x
    ∃ t, exec (.mts x 0 rs1 imm) s = .next t ∧ s.sameBut t x ∧
      (imm.toNat = 0x00B → t.own x = if s.hasTasks n = true ∨ t0.held ≠ [] ∨ t0.cqHead ≠ t0.cqTail ∨ s.dataLen n < v + 16 * t0.cqLen
        then t0.completed 1 0 0 else { t0.completed 1 0 0 with cqBase := v, cqHead := 0, cqTail := 0 }) ∧
      (imm.toNat = 0x00C → t.own x = if s.hasTasks n = true ∨ t0.held ≠ [] ∨ t0.cqHead ≠ t0.cqTail ∨ s.dataLen n < t0.cqBase + 16 * v
        then t0.completed 1 0 0 else { t0.completed 1 0 0 with cqLen := v, cqHead := 0, cqTail := 0 }) ∧
      (imm.toNat = 0x00D → t.own x = if v < t0.cqLen then { t0.completed 1 0 0 with cqHead := v } else t0.completed 1 0 0)) ∧
  (∀ (n : Thr) (s : State), s.up = true → s.halted = false → (s.thr n).st = .idle → s.flag (R.SEQ_CTRL_ENABLE (n.val / 4)) = true → s.hasTasks n = false → s.mapOk n = true →
    ∃ t, exec (.threadStart n) s = .next t ∧ (t.thr n).cqBase = 0 ∧ (t.thr n).cqLen = 0 ∧ (t.thr n).cqHead = 0 ∧ (t.thr n).cqTail = 0)

/-- ISSUE and ISSUED by a thread at a data address that is a multiple of 8 with all 64 bytes below DLEN and without errors: the dispatcher's answer to
the descriptor there (R754's tests) is left in rd in four cycles, or the thread is BLOCKED on it. ISSUE_UNBLOCK leaves the dispatcher's answer for a
blocked ISSUE in rd and makes its agent RUNNABLE. CANCEL leaves 1, 0 or −1 in rd in six cycles as the task was cancelled, had been dispatched or
ended, or was unknown. SIG with rs2 in 48 to 63 and rs1 below 256 posts event rs2 for thread rs1 as a SEQ task, in two cycles, and a thread's SIG with
other operands traps with cause ILL. (R110, R116, R118, R123, R754, R98) -/
def Obligations.TaskAndEventInstructions : Prop :=
  (∀ (x : DescRead) (n : Thr) (rd rs1 rs2 : Reg) (imm : BitVec 16) (a : Nat) (s : State), x.agent = .thread n → a % 8 = 0 → a + 64 ≤ s.dataLen n →
    s.seqBadAt (s.dataKey n a) 64 = false → x.ecc ≠ .bad →
    let d := descOf ((List.range 8).map (fun j => s.seqRd (s.dataKey n a + 8 * j) 8))
    let answers := fun (i : Instr) (at' : Option Nat) =>
      let r := ((s.issuing x.toIssue).corrected x.agent x.ecc).issue n d at' false
      match r.2 with
      | .done v => exec i s = .next (r.1.retireRd n 4 rd v)
      | .blocked b => exec i s = .next (r.1.blockOn n 4 (.issue rd d at' b))
    (s.issues x.toIssue (encI 0x28 rd rs1 imm) → Sys2Proof.Spec.address s x.toIssue rs1 imm = a → answers (.issue x rd rs1 imm) none) ∧
    (s.issues x.toIssue (encR 0x29 rd rs1 rs2 0x000) → ((s.own x.toIssue).rg rs1).toNat = a → answers (.issued x rd rs1 rs2) (some ((s.own x.toIssue).rg rs2).toNat))) ∧
  (∀ (g : Agent) (now rd : Nat) (d : Desc) (at' : Option Nat) (b : Bool) (v : Word) (s u : State), s.runs g = true →
    (s.thr (agentIx g)).block = .issue rd d at' b → (s.advance now).issue (agentIx g) d at' b = (u, .done v) →
    exec (.issueUnblock g now) s = .next (u.unblock (agentIx g) (fun t => t.wg rd v))) ∧
  (∀ (x : Issue) (rd rs1 rs2 : Reg) (s : State), s.issues x (encR 0x2A rd rs1 rs2 0x000) →
    let r := (s.issuing x).cancel ((s.own x).rg rs1).toNat
    exec (.cancel x rd rs1 rs2) s = .next (r.1.retireRd (agentIx x.agent) 6 rd (if r.2 = 1 then 1 else if r.2 = 0 then 0 else BitVec.allOnes 64))) ∧
  (∀ (x : Issue) (rs1 rs2 : Reg) (s : State), s.issues x (encR 0x2C 0 rs1 rs2 0x000) →
    let e := ((s.own x).rg rs2).toNat
    let n := ((s.own x).rg rs1).toNat
    (48 ≤ e → e ≤ 63 → n ≤ 255 → ∃ t, exec (.sig x 0 rs1 rs2) s = .next t ∧ t.own x = (s.own x).completed 2 0 0 ∧
      t.hwSeq = s.hwSeq ++ [⟨n, e, s.readyCtr⟩] ∧ t.readyCtr = s.readyCtr + 1) ∧
    (∀ k : Thr, x.agent = .thread k → e < 48 ∨ 63 < e ∨ 255 < n → ∃ t, exec (.sig x 0 rs1 rs2) s = .next t ∧
      Sys2Proof.Spec.trapped (s.own x) 0x01 (BitVec.ofNat 64 (encR 0x2C 0 rs1 rs2 0x000)) (t.own x)))

/-- FENCE completes in one cycle where the agent's latest context-window store is complete and blocks elsewhere; FENCE_COMPLETE, once it is complete,
makes the agent RUNNABLE with the instruction completed. YIELD completes in one cycle and changes nothing else. HALT by a thread whose bound channel
is running with no STOP posted traps with cause HLT (0x0B), TVAL 0; by a thread bound to no channel it leaves the thread IDLE with INSTRET counted
where its stores are complete, and blocked for HALT_COMPLETE elsewhere, which then leaves it IDLE. HALT stops a management core. (R110, R79, R91,
R124) -/
def Obligations.FenceYieldHalt : Prop :=
  (∀ (x : Issue) (rd rs1 rs2 : Reg) (s : State),
    (s.issues x (encR 0x30 rd rs1 rs2 0x001) → ∃ t, exec (.fence x rd rs1 rs2) s = .next t ∧ s.sameBut t x ∧
      t.own x = if (s.own x).storesUntil ≤ max s.raw (s.issueAt x) then (s.own x).completed 1 0 0
        else { s.own x with st := .blocked, block := .fence, cycles := (s.own x).cycles + 1, runcount := (s.own x).runcount + 1 }) ∧
    (s.issues x (encR 0x30 rd rs1 rs2 0x002) → ∃ t, exec (.yield x rd rs1 rs2) s = .next t ∧ s.sameBut t x ∧ t.own x = (s.own x).completed 1 0 0) ∧
    (s.issues x (encR 0x30 rd rs1 rs2 0x003) →
      (∀ n : Thr, x.agent = .thread n → (s.own x).chan < 256 → s.running (s.own x).chan = true → (s.own x).stopBy = none →
        ∃ t, exec (.halt x rd rs1 rs2) s = .next t ∧ Sys2Proof.Spec.trapped (s.own x) 0x0B 0 (t.own x)) ∧
      (∀ n : Thr, x.agent = .thread n → 256 ≤ (s.own x).chan → ∃ t, exec (.halt x rd rs1 rs2) s = .next t ∧ s.sameBut t x ∧
        if (s.own x).storesUntil ≤ max s.raw (s.issueAt x) then (t.own x).st = .idle ∧ (t.own x).instret = (s.own x).instret + 1 ∧ (t.own x).chan = 0xFFFF
        else (t.own x).st = .blocked ∧ (t.own x).halting = true) ∧
      (∀ k : CoreId, x.agent = .core k → ∃ t, exec (.halt x rd rs1 rs2) s = .next t ∧ s.sameBut t x ∧ (t.own x).st = .blocked ∧ (t.own x).block = .halted))) ∧
  (∀ (g : Agent) (now : Nat) (s : State), s.runs g = true → (s.thr (agentIx g)).block = .fence → (s.thr (agentIx g)).storesUntil ≤ max s.raw now →
    ∃ t, exec (.fenceComplete g now) s = .next t ∧ t.thr (agentIx g) =
      { s.thr (agentIx g) with st := .runnable, block := .none, pc := ((s.thr (agentIx g)).pc + 4) % 2 ^ 64, instret := (s.thr (agentIx g)).instret + 1 }) ∧
  (∀ (n : Thr) (now : Nat) (s : State), s.runs (.thread n) = true → (s.thr n).halting = true → (s.thr n).storesUntil ≤ max s.raw now → 256 ≤ (s.thr n).chan →
    ∃ t, exec (.haltComplete n now) s = .next t ∧ (t.thr n).st = .idle ∧ (t.thr n).halting = false ∧ (t.thr n).instret = (s.thr n).instret + 1)

/-! ### Management cores -/

namespace Sys2Proof.Spec

/-- A core's context and control registers after an entry of its handler at a slot, with K_REASON and K_DETAIL (R133). -/
def entered (c d : CoreX) (t u : Thread) (slot reason : Nat) (detail : Word) : Prop :=
  d.resume = t.pc ∧ d.reason = reason ∧ d.detail = detail ∧ d.irqSaved = c.irqOn ∧ d.irqOn = false ∧ d.inHandler = true ∧ d.bank = !c.bank ∧
  d.b29 = t.rg 29 ∧ d.b30 = t.rg 30 ∧ d.b31 = t.rg 31 ∧ u.rg 29 = c.b29 ∧ u.rg 30 = c.b30 ∧ u.rg 31 = c.b31 ∧ (∀ r < 29, u.rg r = t.rg r) ∧
  u.pc = c.table + 16 * slot ∧ u.st = .runnable

/-- The control registers of R132 as RDK reads them, but the two that count: number and value. -/
def control (c : CoreX) (k : Nat) : List (Nat × Nat) :=
  [(0x000, (if c.irqOn then 1 else 0) + (if c.irqSaved then 2 else 0) + (if c.inHandler then 4 else 0)), (0x001, c.resume), (0x002, c.reason),
   (0x003, c.detail.toNat), (0x004, c.table), (0x005, c.lineEn), (0x006, c.linePend), (0x007, if c.bank then 1 else 0), (0x010, k)]

end Sys2Proof.Spec

/-- RDK by a core with imm16[15:12] zero leaves K_STATE, K_RESUME, K_REASON, K_DETAIL, K_TABLE, K_LINE_EN, K_LINE_PEND, K_BANK or K_CORE in rd,
K_CLOCKS as 3/2 of the ns since the core's reset, and K_RETIRED the instructions completed, in one cycle, changing nothing else. WRK writes IRQ_ON and
IRQ_SAVED of K_STATE, K_RESUME with bits [1:0] at 0, K_TABLE with bits [8:0] at 0 and K_LINE_EN with bits [63:8] at 0, and changes no field of the
other listed registers, in three cycles. A number that R132 does not list, or RDK with imm16[15:12] not zero, outside a handler enters the handler at
slot 1 with K_REASON 1 and K_DETAIL the instruction word. (R131, R132) -/
def Obligations.CoreControlRegisters : Prop :=
  ∀ (x : Issue) (k : CoreId) (rd rs1 : Reg) (imm : BitVec 16) (s : State), x.agent = .core k →
    (s.issues x (encI 0x38 rd rs1 imm) →
      (∀ p ∈ Sys2Proof.Spec.control (s.core k) k ++ [(0x011, (max s.raw x.now - (s.core k).resetRaw) * 3 / 2), (0x012, (s.own x).instret)],
        imm.toNat = p.1 → ∃ t, exec (.rdk x rd rs1 imm) s = .next t ∧ s.sameBut t x ∧ t.own x = (s.own x).completed 1 rd (BitVec.ofNat 64 p.2)) ∧
      (imm.toNat ∉ [0x000, 0x001, 0x002, 0x003, 0x004, 0x005, 0x006, 0x007, 0x010, 0x011, 0x012] → (s.core k).inHandler = false →
        ∃ t, exec (.rdk x rd rs1 imm) s = .next t ∧
          Sys2Proof.Spec.entered (s.core k) (t.core k) (s.own x) (t.own x) 1 1 (BitVec.ofNat 64 (encI 0x38 rd rs1 imm)))) ∧
    (s.issues x (encI 0x39 rd rs1 imm) →
      let v := ((s.own x).rg rs1).toNat
      let n := imm.toNat % 0x1000
      let writes := fun (d : CoreX) => ∃ t, exec (.wrk x rd rs1 imm) s = .next t ∧ t.core k = d ∧ t.own x = (s.own x).completed 3 0 0
      (n = 0x000 → writes { s.core k with irqOn := decide (v % 2 = 1), irqSaved := decide (v / 2 % 2 = 1) }) ∧
      (n = 0x001 → writes { s.core k with resume := v / 4 * 4 }) ∧
      (n = 0x004 → writes { s.core k with table := v / 512 * 512 }) ∧
      (n = 0x005 → writes { s.core k with lineEn := v % 256 }) ∧
      (n ∈ [0x002, 0x003, 0x006, 0x007, 0x010, 0x011, 0x012] → writes (s.core k)) ∧
      (n ∉ [0x000, 0x001, 0x002, 0x003, 0x004, 0x005, 0x006, 0x007, 0x010, 0x011, 0x012] → (s.core k).inHandler = false →
        ∃ t, exec (.wrk x rd rs1 imm) s = .next t ∧
          Sys2Proof.Spec.entered (s.core k) (t.core k) (s.own x) (t.own x) 1 1 (BitVec.ofNat 64 (encI 0x39 rd rs1 imm))))

/-- Outside a handler, BKPT by a core writes K_RESUME with the PC, K_REASON 0x0A and K_DETAIL 0, copies IRQ_ON to IRQ_SAVED, clears IRQ_ON, sets
IN_HANDLER, exchanges g29 to g31 with the handler bank and goes on at K_TABLE + 16 × 10. CORE_HANDLER_ENTRY for a RUNNABLE or WAITING core that may
take a line does the same for l, the lowest line enabled and pending: K_REASON 256 + l, K_DETAIL 0, slot 16 + l, and the line is no longer pending
(log 51). Inside a handler, BKPT sets DOUBLE with the cause in K_REASON (0x20A), overwrites K_RESUME and K_DETAIL, leaves the bank and the registers
as they are and goes on at K_TABLE + 240. RETK in a handler goes on at K_RESUME with IRQ_ON at IRQ_SAVED, IN_HANDLER 0 and g29 to g31 exchanged back,
in three cycles; outside one it traps with cause ILL. (R133, R131, R132) -/
def Obligations.HandlerEntryAndReturn : Prop :=
  (∀ (x : Issue) (k : CoreId) (rd rs1 rs2 : Reg) (s : State), x.agent = .core k → s.issues x (encR 0x30 rd rs1 rs2 0x005) →
    ((s.core k).inHandler = false → ∃ t, exec (.bkpt x rd rs1 rs2) s = .next t ∧
      Sys2Proof.Spec.entered (s.core k) (t.core k) (s.own x) (t.own x) 10 0x0A 0) ∧
    ((s.core k).inHandler = true → ∃ t, exec (.bkpt x rd rs1 rs2) s = .next t ∧
      t.core k = { s.core k with resume := (s.own x).pc, reason := 0x20A, detail := 0, held := (t.core k).held, linePend := (t.core k).linePend } ∧
      (t.own x).pc = (s.core k).table + 240 ∧ (t.own x).g = (s.own x).g)) ∧
  (∀ (k : CoreId) (s : State) (l : Nat), s.runs (.core k) = true → s.lineDue k = true → (s.thr (256 + k)).st = .runnable ∨ (s.thr (256 + k)).st = .waiting →
    l < 64 → (s.core k).linePend.testBit l = true → (s.core k).lineEn.testBit l = true →
    (∀ j < l, ((s.core k).linePend.testBit j && (s.core k).lineEn.testBit j) = false) →
    ∃ t, exec (.coreHandlerEntry k) s = .next t ∧
      Sys2Proof.Spec.entered (s.core k) (t.core k) (s.thr (256 + k)) (t.thr (256 + k)) (16 + l) (256 + l) 0 ∧
      (∀ j, (t.core k).linePend.testBit j = ((s.core k).linePend.testBit j && decide (j ≠ l)))) ∧
  (∀ (x : Issue) (k : CoreId) (rd rs1 rs2 : Reg) (s : State), x.agent = .core k → s.issues x (encR 0x3E rd rs1 rs2 0x001) →
    ((s.core k).inHandler = true → ∃ t, exec (.retk x rd rs1 rs2) s = .next t ∧ (t.own x).pc = (s.core k).resume ∧
      (t.core k).irqOn = (s.core k).irqSaved ∧ (t.core k).inHandler = false ∧ (t.core k).bank = !(s.core k).bank ∧
      (t.own x).rg 29 = (s.core k).b29 ∧ (t.own x).rg 30 = (s.core k).b30 ∧ (t.own x).rg 31 = (s.core k).b31 ∧
      (t.core k).b29 = (s.own x).rg 29 ∧ (t.core k).b30 = (s.own x).rg 30 ∧ (t.core k).b31 = (s.own x).rg 31 ∧
      (∀ r < 29, (t.own x).rg r = (s.own x).rg r) ∧ (t.own x).cycles = (s.own x).cycles + 3) ∧
    ((s.core k).inHandler = false → ∃ t, exec (.retk x rd rs1 rs2) s = .next t ∧
      Sys2Proof.Spec.entered (s.core k) (t.core k) (s.own x) (t.own x) 1 1 (BitVec.ofNat 64 (encR 0x3E rd rs1 rs2 0x001))))

/-- SLEEP by a core with a line enabled and pending completes in one cycle, and otherwise blocks the core; CORE_SLEEP_WAKE, once such a line is
pending, makes it RUNNABLE with the SLEEP completed. DCINV drops the data-cache line that holds rs1 and leaves every byte of device memory as it was.
DCWB of a dirty line of shared memory outside HBM and the register region puts the line's bytes there and drops the line. After DCWBALL the data
cache, and after ICINV the instruction cache, holds no line. Each completes, with its cycles counted. (R130, R131) -/
def Obligations.SleepAndCaches : Prop :=
  (∀ (x : Issue) (k : CoreId) (rd rs1 rs2 : Reg) (s : State), x.agent = .core k →
    (s.issues x (encR 0x3E rd rs1 rs2 0x002) → ∃ t, exec (.sleep x rd rs1 rs2) s = .next t ∧ s.sameBut t x ∧
      t.own x = if (s.core k).linePend &&& (s.core k).lineEn ≠ 0 then (s.own x).completed 1 0 0
        else { s.own x with st := .blocked, block := .sleep, cycles := (s.own x).cycles + 1, runcount := (s.own x).runcount + 1 }) ∧
    (s.issues x (encR 0x3E rd rs1 rs2 0x003) → ∃ t, exec (.dcinv x rd rs1 rs2) s = .next t ∧ t.mem = s.mem ∧
      tfind (t.core k).dcache (((s.own x).rg rs1).toNat / 64) = none ∧
      (∀ j, j ≠ ((s.own x).rg rs1).toNat / 64 → tfind (t.core k).dcache j = tfind (s.core k).dcache j) ∧ t.own x = (s.own x).completed 2 0 0) ∧
    (s.issues x (encR 0x3E rd rs1 rs2 0x004) → ∃ t, exec (.dcwb x rd rs1 rs2) s = .next t ∧ t.own x = (s.own x).completed 2 0 0 ∧
      tfind (t.core k).dcache (((s.own x).rg rs1).toNat / 64) = none ∧
      ∀ l : CacheLine, tfind (s.core k).dcache (((s.own x).rg rs1).toNat / 64) = some l → l.dirty = true → l.bytes.length = 64 →
        let a := ((s.own x).rg rs1).toNat / 64 * 64
        mappedRange a 64 = true → inHbm a = false → ∀ b, t.byte b = if a ≤ b ∧ b < a + 64 then l.bytes.getD (b - a) 0 else s.byte b) ∧
    (s.issues x (encR 0x3E rd rs1 rs2 0x005) → ∃ t, exec (.dcwball x rd rs1 rs2) s = .next t ∧ (∀ j, tfind (t.core k).dcache j = none) ∧
      t.own x = (s.own x).completed 0 0 0) ∧
    (s.issues x (encR 0x3E rd rs1 rs2 0x006) → ∃ t, exec (.icinv x rd rs1 rs2) s = .next t ∧ (t.core k).icache = [] ∧
      t.own x = (s.own x).completed 4 0 0)) ∧
  (∀ (k : CoreId) (s : State), s.runs (.core k) = true → (s.thr (256 + k)).block = .sleep → (s.core k).linePend &&& (s.core k).lineEn ≠ 0 →
    ∃ t, exec (.coreSleepWake k) s = .next t ∧ t.thr (256 + k) =
      { s.thr (256 + k) with st := .runnable, block := .none, pc := ((s.thr (256 + k)).pc + 4) % 2 ^ 64, instret := (s.thr (256 + k)).instret + 1 })

/-- A load, store or atomic operation of a core at an aligned address in memory whose line its data cache holds without error acts on that line: a
load leaves the bytes in rd, a store puts its bytes there and makes the line dirty, an atomic operation does both, and device memory is as it was.
Where no line is held the core is BLOCKED until the line is fetched; in the register region it is BLOCKED until the access has been made
(FAR_ACCESS_COMPLETE). A misaligned access outside a handler enters the handler at slot 3, K_DETAIL the address. (R47, R95, R130, R134) -/
def Obligations.CoreMemoryAccesses : Prop :=
  ∀ (x : Issue) (k : CoreId) (rd rs1 rs2 : Reg) (imm : BitVec 16) (s : State), x.agent = .core k →
    let a := Sys2Proof.Spec.address s x rs1 imm
    let b := ((s.own x).rg rs1).toNat
    (∀ p ∈ Sys2Proof.Spec.loadTable, ∀ ecc, s.issues x (encI p.2.1 rd rs1 imm) →
      (a % p.2.2.1 = 0 → mappedRange a p.2.2.1 = true → inRegs a = false → ecc ≠ .bad → ∀ l : CacheLine, tfind (s.core k).dcache (a / 64) = some l →
        ∃ t, exec (p.1 x rd rs1 imm ecc) s = .next t ∧ s.sameBut t x ∧
          t.own x = (s.own x).completed 1 rd (Sys2Proof.Spec.loaded p.2.2.2 p.2.2.1 (leNat ((l.bytes.drop (a % 64)).take p.2.2.1)))) ∧
      (a % p.2.2.1 = 0 → mappedRange a p.2.2.1 = true → inRegs a = false → tfind (s.core k).dcache (a / 64) = none →
        ∃ t, exec (p.1 x rd rs1 imm ecc) s = .next t ∧ (t.own x).st = .blocked ∧ (t.own x).block = .fill false (a / 64)) ∧
      (a % p.2.2.1 = 0 → mappedRange a p.2.2.1 = true → inRegs a = true →
        ∃ t, exec (p.1 x rd rs1 imm ecc) s = .next t ∧ (t.own x).st = .blocked ∧ (t.own x).block = .far (.load p.2.2.2) p.2.2.1 rd a 0) ∧
      (a % p.2.2.1 ≠ 0 → (s.core k).inHandler = false → ∃ t, exec (p.1 x rd rs1 imm ecc) s = .next t ∧
        Sys2Proof.Spec.entered (s.core k) (t.core k) (s.own x) (t.own x) 3 3 (BitVec.ofNat 64 a))) ∧
    (∀ p ∈ Sys2Proof.Spec.storeTable, s.issues x (encI p.2.1 rd rs1 imm) → a % p.2.2 = 0 → mappedRange a p.2.2 = true → inRegs a = false →
      ∀ l : CacheLine, tfind (s.core k).dcache (a / 64) = some l → l.bytes.length = 64 →
      ∃ t m, exec (p.1 x rd rs1 imm) s = .next t ∧ t.mem = s.mem ∧ t.own x = (s.own x).completed 1 0 0 ∧
        tfind (t.core k).dcache (a / 64) = some ⟨m, true⟩ ∧ m.length = 64 ∧
        ∀ j < 64, m.getD j 0 = if a % 64 ≤ j ∧ j < a % 64 + p.2.2 then BitVec.ofNat 8 (((s.own x).rg rd).toNat / 256 ^ (j - a % 64)) else l.bytes.getD j 0) ∧
    (∀ p ∈ Sys2Proof.Spec.atomicTable, ∀ ecc, s.issues x (encR 0x1F rd rs1 rs2 p.2.1) → b % 8 = 0 → mappedRange b 8 = true → inRegs b = false → ecc ≠ .bad →
      ∀ l : CacheLine, tfind (s.core k).dcache (b / 64) = some l → l.bytes.length = 64 →
      let m := BitVec.ofNat 64 (leNat ((l.bytes.drop (b % 64)).take 8))
      ∃ t n, exec (p.1 x rd rs1 rs2 ecc) s = .next t ∧ t.mem = s.mem ∧ t.own x = (s.own x).completed 2 rd m ∧
        tfind (t.core k).dcache (b / 64) = some ⟨n, true⟩ ∧
        leNat ((n.drop (b % 64)).take 8) = (p.2.2 m ((s.own x).rg rs2) ((s.own x).rg rd)).toNat)

/-! ### Sequencer threads from outside -/

/-- While the device works: THREAD_START of an IDLE thread of an enabled sequencer with no task entry held and a valid map leaves it RUNNABLE at its
START entry with g1 to g31, EPEND, CYCLES, INSTRET, RUNCOUNT and the four ring registers at 0 and VEN at 1, its channel, TPC, TVAL and cause as they
were; with an invalid map it leaves it TRAPPED with cause MAP and TVAL 0; of any other thread it changes nothing. THREAD_STOP leaves any thread IDLE.
THREAD_RESUME of a TRAPPED thread makes it RUNNABLE with VEN 1 and RUNCOUNT 0, keeping its registers, TPC and TVAL; of another thread it changes
nothing. STOP_TIMEOUT of a thread past its stop limit that has not executed HALT leaves it IDLE with cause STOPTO. Of the threads of a sequencer that
are RUNNABLE and could issue in a cycle, exactly one has the issue slot, and none has a higher priority. (R751, R127, R138, R129, R80, R81, R82) -/
def Obligations.ThreadStartStopResume : Prop :=
  (∀ (n : Thr) (s : State), s.up = true → s.halted = false →
    ((s.thr n).st = .idle → s.flag (R.SEQ_CTRL_ENABLE (n.val / 4)) = true → s.hasTasks n = false →
      (s.mapOk n = true → ∃ t v, exec (.threadStart n) s = .next t ∧ s.entrySlot n 0 false = some v ∧
        (t.thr n).st = .runnable ∧ (∀ r, (t.thr n).rg r = 0) ∧ (t.thr n).pc = s.slotAddr n v ∧ (t.thr n).ven = true ∧ (t.thr n).epend = 0 ∧
        (t.thr n).cycles = 0 ∧ (t.thr n).instret = 0 ∧ (t.thr n).runcount = 0 ∧ (t.thr n).cqBase = 0 ∧ (t.thr n).cqLen = 0 ∧ (t.thr n).cqHead = 0 ∧
        (t.thr n).cqTail = 0 ∧ (t.thr n).chan = (s.thr n).chan ∧ (t.thr n).tpc = (s.thr n).tpc ∧ (t.thr n).tval = (s.thr n).tval ∧
        (∀ j, j ≠ n.val → t.thr j = s.thr j) ∧ t = { s with threads := t.threads }) ∧
      (s.mapOk n = false → ∃ t, exec (.threadStart n) s = .next t ∧ (t.thr n).st = .trapped ∧ (t.thr n).cause = 0x0D ∧ (t.thr n).tval = 0)) ∧
    ((s.thr n).st ≠ .idle ∨ s.flag (R.SEQ_CTRL_ENABLE (n.val / 4)) = false ∨ s.hasTasks n = true → exec (.threadStart n) s = .next s) ∧
    (∃ t, exec (.threadStop n) s = .next t ∧ (t.thr n).st = .idle) ∧
    ((s.thr n).st = .trapped → ∃ t, exec (.threadResume n) s = .next t ∧ t = { s with threads := t.threads } ∧ (∀ j, j ≠ n.val → t.thr j = s.thr j) ∧
      t.thr n = { s.thr n with st := .runnable, pc := (t.thr n).pc, ven := true, runcount := 0 } ∧
      (∀ v, s.entrySlot n 0 true = some v → (t.thr n).pc = s.slotAddr n v) ∧
      (∀ v, s.entrySlot n 0 true = none → s.entrySlot n 0 false = some v → (t.thr n).pc = s.slotAddr n v)) ∧
    ((s.thr n).st ≠ .trapped → exec (.threadResume n) s = .next s) ∧
    (∀ now b, s.live = true → (s.thr n).stopBy = some b → b ≤ max s.raw now → (s.thr n).halting = false → (s.thr n).st ≠ .idle →
      ∃ t, exec (.stopTimeout n now) s = .next t ∧ (t.thr n).st = .idle ∧ (t.thr n).cause = 0x0E)) ∧
  (∀ (q : Fin 64) (c : Nat) (s : State),
    let may := fun (j : Nat) => (s.thr (4 * q + j)).st = .runnable ∧ s.ownCycle (4 * q + j) ≤ c
    (∃ i < 4, may i) → ∃ j < 4, may j ∧ s.hasSlot (4 * q + j) c = true ∧
      ∀ i < 4, may i → s.prio (4 * q + i) ≤ s.prio (4 * q + j) ∧ (i ≠ j → s.hasSlot (4 * q + i) c = false))

/-- SEQ_MEM_DATA_WRITE of v while the device works, with a the byte address in SEQ_MEM_ADDR: if a lies in data memory (0x8000 or above) or all four
threads are IDLE, the 8 bytes at a hold v, little-endian, every other byte of the sequencer memories is as before, and the word is marked as free of
an uncorrectable error; otherwise every byte is as before and SEQ_STATUS.MEM_ERR reads 1. SEQ_MEM_DATA_READ answers the 8 bytes at a, where they hold
no uncorrectable error, and changes no byte; a corrected error is counted in SEQ_ECC_COUNT, an uncorrectable one stays in the word. Either way ADDR
moves on by 8 within the addressed memory under AUTOINC and is unchanged without it. (R137, R125) -/
def Obligations.SequencerMemoryPort : Prop :=
  ∀ (n : SeqId) (v : Word) (s : State), s.up = true → s.halted = false →
    let i := s.get (R.SEQ_MEM_ADDR_ADDR n)
    let k := seqKey n (8 * i)
    let moves := fun (t : State) => t.get (R.SEQ_MEM_ADDR_ADDR n) =
      if s.flag (R.SEQ_MEM_ADDR_AUTOINC n) = true then i / 0x1000 * 0x1000 + (i + 1) % 0x1000 else i
    (0x8000 ≤ 8 * i ∨ (∀ j < 4, (s.thr (4 * n + j)).st = .idle) →
      ∃ t, exec (.seqMemDataWrite n v) s = .next t ∧ Sys2Proof.Spec.stored s t k 8 v.toNat ∧ moves t ∧ t.mem = s.mem ∧ t.threads = s.threads) ∧
    (8 * i < 0x8000 → (∃ j < 4, (s.thr (4 * n + j)).st ≠ .idle) →
      ∃ t, exec (.seqMemDataWrite n v) s = .next t ∧ t.seqMem = s.seqMem ∧ t.flag (R.SEQ_STATUS_MEM_ERR n) = true ∧ moves t) ∧
    (∀ ecc, ∃ t, exec (.seqMemDataRead { seq := n, ecc := ecc }) s = .next t ∧ t.seqMem = s.seqMem ∧ moves t ∧
      (ecc ≠ .bad → s.seqBadAt k 8 = false → t.out = .regRead (K.SEQ_MEM_DATA n) (some (BitVec.ofNat 64 (s.seqRd k 8))) :: s.out) ∧
      (ecc = .corrected → t.get (R.SEQ_ECC_COUNT_COUNT n) = (s.get (R.SEQ_ECC_COUNT_COUNT n) + 1) % 2 ^ 64) ∧
      (ecc = .bad → k / 8 ∈ t.seqBad))

/-! ### The dispatcher -/

/-- CTX_DOORBELL of event 48 to 63 for a channel bound to thread k queues that event for k as a SEQ task, and of another event, or with no thread
bound, changes nothing. SEQ_TASK_POST with the dispatcher disabled takes the queued event that comes before all others in R166's order (priority, then
thread number, then age): its bit in EPEND of its thread is set if the thread is not IDLE, an IDLE thread discards it, and it is queued no longer.
MPC_TASK_DISPATCH gives the oldest READY MPC task whose core has room to that core: it is the newest of the core's delivered tasks, and its event's
bit is set. (R98, R99, R166, R167, R169, R148) -/
def Obligations.EventsReachThreads : Prop :=
  (∀ (ch : Chan) (ev : BitVec 6) (s : State), s.up = true → s.halted = false →
    (48 ≤ ev.toNat → s.flag (R.CTX_BIND_VALID ch) = true → exec (.ctxDoorbell ch ev) s =
      .next { s with hwSeq := s.hwSeq ++ [⟨s.get (R.CTX_BIND_THREAD ch), ev.toNat, s.readyCtr⟩], readyCtr := s.readyCtr + 1 }) ∧
    (ev.toNat < 48 ∨ s.flag (R.CTX_BIND_VALID ch) = false → exec (.ctxDoorbell ch ev) s = .next s)) ∧
  (∀ (s : State) (p : SeqPost), s.live = true → s.flag R.DSP_CTRL_ENABLE = false → p ∈ s.hwSeq → p.event < 64 →
    (∀ q ∈ s.hwSeq, q ≠ p → s.postsFirst (p.thread, p.order) (q.thread, q.order) = true ∧ s.postsFirst (q.thread, q.order) (p.thread, p.order) = false) →
    ∃ t, exec .seqTaskPost s = .next t ∧ t.hwSeq = s.hwSeq.filter (fun q => decide (q.order ≠ p.order)) ∧
      ((s.thr p.thread).st ≠ .idle → t.thr p.thread = { s.thr p.thread with epend := (s.thr p.thread).epend ||| BitVec.ofNat 64 (2 ^ p.event) }) ∧
      ((s.thr p.thread).st = .idle → t.threads = s.threads)) ∧
  (∀ (now : Nat) (s : State) (e k : Nat), s.live = true → s.flag R.DSP_CTRL_ENABLE = true → (s.task e).d.event < 64 →
    (s.readyBy (fun t => decide (t.d.cls = 8))).find? (fun e => (s.mpcCore (s.task e).d).isSome) = some e → s.mpcCore (s.task e).d = some k →
    ∃ t, exec (.mpcTaskDispatch now) s = .next t ∧ (t.core k).delivered = (s.core k).delivered ++ [((s.task e).d.event, true)] ∧
      (t.thr (256 + k)).epend.getLsbD (s.task e).d.event = true)

/-- While the device works and the dispatcher is enabled: DIRECT_DISPATCH dispatches the oldest READY task of an owned engine that can take it.
TASK_DISPATCH dispatches the oldest eligible task of the present group, one that a unit can take and that has no target unit of an older one which
waits, if its cost is covered by the group's deficit (with 64 × WEIGHT added once a visit), and the deficit falls by the cost. A running PRF, SCL or
AUD task, when its unit reports, leaves its results, frees its unit and ends with R157's cost and status 0 (an AUD task that R20 refuses: 4), and its
channel, if it has stopped, is swept (R307). PROOF_START starts a proof on an engine that is free, hosts proofs and has nothing to code.
HELD_RECORD_WRITE writes the oldest held record into a ring with room at CQTAIL, which moves on, and the record's entry is FREE. (R160, R161, R163,
R120, R121, R156, R342) -/
def Obligations.TasksRunAndEnd : Prop :=
  (∀ (e : Eng) (h : AuHead) (now : Nat) (s : State) (k u : Nat), s.live = true → s.flag R.DSP_CTRL_ENABLE = true →
    ((s.advance now).readyBy (fun t => t.direct && decide (t.d.engine = e.val))).head? = some k → (s.advance now).unitFor k = some u →
    exec (.directDispatch e h now) s = .next ((s.advance now).dispatch u k h)) ∧
  (∀ (h : AuHead) (now : Nat) (s : State) (k u : Nat), s.live = true → s.flag R.DSP_CTRL_ENABLE = true →
    let a := s.advance now
    let q := s.get (R.DSP_GROUP_DEFICIT_CU s.drrGroup) + (if s.drrOpen then 0 else 64 * s.get (R.DSP_GROUP_WEIGHT_WEIGHT s.drrGroup))
    a.eligible [] (a.groupReady s.drrGroup) = some (k, u) → (s.task k).d.cost ≤ q →
    exec (.taskDispatch h now) s = .next ({ a.set (R.DSP_GROUP_DEFICIT_CU s.drrGroup) (q - (s.task k).d.cost) with drrOpen := true }.dispatch u k h)) ∧
  (∀ (s : State) (l : List Nat) (k u : Nat), s.eligible [] l = some (k, u) → s.unitFor k = some u ∧ ∃ l₁ l₂, l = l₁ ++ k :: l₂ ∧
    ∀ x ∈ l₁, sameTarget (s.task k).d (s.task x).d = false ∧ (s.unitFor x = none ∨ ∃ y ∈ l₁, sameTarget (s.task x).d (s.task y).d = true)) ∧
  (∀ (e : TaskId) (r : TaskResult) (now : Nat) (s : State), s.live = true → (s.task e).st = .running →
    let a := s.advance now
    let k := s.task e
    (∀ p, k.d.cls = 3 → r = .analysed p → exec (.taskEnd e r [] now) s =
      .next (((a.prfRecord (k.ch.getD 0) (prfFrame k.d.payload) k.au (prfFlags k.d.payload) p.blocks).freeUnit e).taskOver e 0 (a.costNow e))) ∧
    (k.d.cls = 4 → r = .done → exec (.taskEnd e r [] now) s =
      .next (((a.sclBuild (k.ch.getD 0) k.d.payload).freeUnit e).taskOver e 0 (a.costNow e))) ∧
    (k.d.cls = 6 → r = .done → exec (.taskEnd e r [] now) s =
      .next (((a.audCopy k.d.payload).1.freeUnit e).taskOver e (a.audCopy k.d.payload).2 (a.costNow e)))) ∧
  (∀ (e : Eng) (now : Nat) (s : State), s.live = true → s.flag (R.ENG_CTRL_PROOF_HOST e) = true → (s.advance now).engFree e = true →
    (s.advance now).codingWaits e = false → exec (.proofStart e now) s = .next ((s.advance now).proofStart e)) ∧
  (∀ (n : Thr) (s : State) (r : CompRec) (rest : List CompRec), s.live = true → (s.thr n).held = r :: rest → (s.thr n).ringRoom = true →
    ∃ t, exec (.heldRecordWrite (.thread n)) s = .next t ∧ (t.thr n).held = rest ∧ (t.thr n).cqTail = ((s.thr n).cqTail + 1) % (s.thr n).cqLen ∧
      (t.task r.entry).st = .free ∧ t.seqRd (seqKey (n.val / 4) (0x8000 + s.get (R.SEQ_TH_DMAP_BASE (n.val / 4) (n.val % 4)) + (s.thr n).cqBase +
        16 * (s.thr n).cqTail)) 16 = (r.handle + r.status * 2 ^ 32 + r.cls * 2 ^ 48 + r.cost * 2 ^ 64) % 2 ^ 128)

/-- While the device works: DSP_CANCEL of a handle that names no live entry of its generation posts RESULT 2, of a task that is running or ended
RESULT 0 and leaves the task, of a DELAYED or READY one, or one below class 7 dispatched in this CLK_SEQ cycle, RESULT 1; VALID reads 1. ADMIT and
RELEASE while DSP_ADM_CMD.BUSY is 1 change nothing. ADMIT of a channel that is admitted, or whose declaration's format is violated, answers RESULT 1
and RESOURCE 7 and charges nothing; of one that R181 refuses, RESULT 1 with its resource and tray; otherwise the channel is admitted and RESULT is 0.
RELEASE of an admitted channel sets BUSY and its admission is being returned, and of another answers RESULT 2. RELEASE_COMPLETE, once no entry of the
channel is held, leaves it with no admission and RESULT 2. (R147, R175, R180, R181, R184, R185) -/
def Obligations.CancelAndAdmission : Prop :=
  let answers := fun (t : State) (ch res resource tray : Nat) => t.get R.DSP_ADM_RESULT_RESULT = res ∧ t.get R.DSP_ADM_RESULT_RESOURCE = resource ∧
    t.get R.DSP_ADM_RESULT_TRAY = tray ∧ t.get R.DSP_ADM_RESULT_CHANNEL = ch ∧ t.flag R.DSP_ADM_RESULT_VALID = true
  (∀ (h : BitVec 32) (s : State), s.up = true → s.halted = false →
    let k := s.task (h.toNat % 16384)
    let now' := k.st = .running ∧ k.d.cls < 7 ∧ seqCycle k.startAt = seqCycle s.raw
    ∃ t, exec (.dspCancel h) s = .next t ∧ t.flag R.DSP_CANCEL_RESULT_VALID = true ∧
      (2 ^ 31 ≤ h.toNat ∨ k.st = .free ∨ k.gen ≠ h.toNat / 16384 → t.get R.DSP_CANCEL_RESULT_RESULT = 2 ∧ t.tasks = s.tasks) ∧
      (h.toNat < 2 ^ 31 → k.gen = h.toNat / 16384 → (k.st = .running ∧ ¬now') ∨ k.st = .ended → t.get R.DSP_CANCEL_RESULT_RESULT = 0 ∧ t.tasks = s.tasks) ∧
      (h.toNat < 2 ^ 31 → k.gen = h.toNat / 16384 → k.st = .delayed ∨ k.st = .ready ∨ now' → t.get R.DSP_CANCEL_RESULT_RESULT = 1)) ∧
  (∀ (ch : Chan) (s : State), s.up = true → s.halted = false →
    (s.flag R.DSP_ADM_CMD_BUSY = true → exec (.admitChannel ch) s = .next s ∧ exec (.release ch) s = .next s) ∧
    (s.flag R.DSP_ADM_CMD_BUSY = false →
      let u := s.set R.DSP_ADM_CMD_CHANNEL ch
      (u.decl (s.get R.DSP_ADM_DECL_ADDRESS) = none ∨ (s.admOf ch).admitted = true →
        ∃ t, exec (.admitChannel ch) s = .next t ∧ answers t ch 1 7 0 ∧ t.adm = s.adm) ∧
      (∀ d r y, u.decl (s.get R.DSP_ADM_DECL_ADDRESS) = some d → (s.admOf ch).admitted = false → u.refusal ch d = some (r, y) → r < 8 → y < 16 →
        ∃ t, exec (.admitChannel ch) s = .next t ∧ answers t ch 1 r y ∧ t.adm = s.adm) ∧
      (∀ d, u.decl (s.get R.DSP_ADM_DECL_ADDRESS) = some d → (s.admOf ch).admitted = false → u.refusal ch d = none →
        ∃ t, exec (.admitChannel ch) s = .next t ∧ answers t ch 0 0 0 ∧ (t.admOf ch).admitted = true ∧ (t.admOf ch).subframe = d.sub ∧ (t.admOf ch).trays = d.trays) ∧
      ((s.admOf ch).admitted = true → ∃ t, exec (.release ch) s = .next t ∧ (t.admOf ch).releasing = true ∧ t.flag R.DSP_ADM_CMD_BUSY = true) ∧
      ((s.admOf ch).admitted = false → ∃ t, exec (.release ch) s = .next t ∧ answers t ch 2 0 0 ∧ t.adm = s.adm)) ∧
    ((s.admOf ch).releasing = true → s.get (R.DSP_CH_ENTRIES_COUNT ch) = 0 →
      ∃ t, exec (.releaseComplete ch) s = .next t ∧ (t.admOf ch).admitted = false ∧ answers t ch 2 0 0))

/-- DISPATCHER_TICK at a local time whose latest whole multiple of the tick period is not that of the previous tick and not before the time of the
latest step: every DELAYED task with a release time at or before that multiple is READY, the multiple is the time of the latest tick, and a period
written since is in force. DSP_TICK_WRITE of 250 to 10 000 keeps the period for the next tick and changes nothing else; of any other value it changes
nothing. MPC_AGE with a READY MPC task, the oldest not yet reported, that has waited longer than LIMIT_US: the task is marked so that it is reported
once, and source 28 reports with the task's handle as DETAIL. ENTRY_ECC of a FREE entry makes source 29 report with no suspect and the entry as
DETAIL; of a DELAYED or READY entry it first ends the task with status 4 without dispatch, and of a running one it withdraws the task from its unit
and ends it with status 4, and the suspect is the task's channel. (R119, R171, R173, R189, R190) -/
def Obligations.TicksAndDispatcherReports : Prop :=
  (∀ (now : Nat) (s : State), s.live = true → (s.advance now).tickTime ≠ s.lastTick → s.tickFrom ≤ (s.advance now).tickTime →
    ∃ t, exec (.dispatcherTick now) s = .next t ∧ t.lastTick = (s.advance now).tickTime ∧
      (∀ e, (s.task e).st = .delayed → ((s.task e).release : Int) ≤ (s.advance now).tickTime → (t.task e).st = .ready) ∧
      (∀ p, s.tickPend = some p → p < 2 ^ 14 → t.get R.DSP_TICK_PERIOD_NS = p ∧ t.tickPend = none)) ∧
  (∀ (v : BitVec 14) (s : State), s.up = true → s.halted = false →
    exec (.dspTickWrite v) s = .next (if 250 ≤ v.toNat ∧ v.toNat ≤ 10000 then { s with tickPend := some v.toNat } else s)) ∧
  (∀ (now : Nat) (s : State) (e : Nat), s.live = true →
    let a := s.advance now
    let lim := s.get R.DSP_MPC_AGE_LIMIT_US
    (a.readyBy (fun t => decide (t.d.cls = 8) && !t.aged && decide (lim ≠ 0) && decide (t.readyAt + 1000 * lim < a.raw))).head? = some e →
    exec (.mpcAge now) s = .next ((a.setTask e { s.task e with aged := true }).report 28 0 (BitVec.ofNat 64 (e + 16384 * (s.task e).gen)))) ∧
  (∀ (e : TaskId) (now : Nat) (s : State), s.live = true →
    let a := s.advance now
    ((s.task e).st = .free → exec (.entryEcc e now) s = .next (a.report 29 0 (BitVec.ofNat 64 e))) ∧
    (∀ c, (s.task e).ch = some c → (s.task e).st = .delayed ∨ (s.task e).st = .ready →
      exec (.entryEcc e now) s = .next ((a.dropTask e 4).report 29 (8 * 4096 + c) (BitVec.ofNat 64 e))) ∧
    (∀ c, (s.task e).ch = some c → (s.task e).st = .running →
      exec (.entryEcc e now) s = .next (((a.withdraw e).taskOver e 4 0).report 29 (8 * 4096 + c) (BitVec.ofNat 64 e))))

/-! ### The register region -/

/-- For a 64-bit register with key k, the device working: LOW_WORD_WRITE of v at k holds v and changes nothing else but the time; LOW_WORD_WRITE of v
at k + 4 then makes the register's own write of the whole value, with the held low word (v × 2^32 + low), or with the register's current low word
where none is held, and no low word is held any more. LOW_WORD_READ at k answers the low word of what the register shows, latches its high word and
clears its RC fields in full; LOW_WORD_READ at k + 4 of a register with a latched high word, one that is no sequencer data port, answers that and
clears nothing, and without one answers the live high word and clears nothing. (R749, R13, R14) -/
def Obligations.SplitAccessesOfWideRegisters : Prop :=
  ∀ (q : Requester) (off : BitVec 26) (k : Nat) (r : RegRow) (s : State), s.up = true → off.toNat % 4 = 0 → plainAt off.toNat = false →
    0x10000 ≤ off.toNat → regAt (s.target off.toNat) = some (r, k) → r.bytes = 8 →
    (∀ (v : BitVec 32) (x : AccessIn),
      (s.target off.toNat = k → exec (.lowWordWrite q off v x) s = .next { s.advance x.now with wrHold := tput s.wrHold k v.toNat }) ∧
      (s.target off.toNat = k + 4 → ∀ low, tfind s.wrHold k = some low → exec (.lowWordWrite q off v x) s =
        .next ({ s.advance x.now with wrHold := tdel s.wrHold k }.writeReg q x r k (low + v.toNat * 2 ^ 32))) ∧
      (s.target off.toNat = k + 4 → tfind s.wrHold k = none → exec (.lowWordWrite q off v x) s =
        .next ({ s.advance x.now with wrHold := tdel s.wrHold k }.writeReg q x r k ((s.advance x.now).view k % 2 ^ 32 + v.toNat * 2 ^ 32)))) ∧
    (∀ now : Nat,
      (s.target off.toNat = k → ∃ t, exec (.lowWordRead q off now) s = .next t ∧
        t.out = .regRead k (some (BitVec.ofNat 64 ((s.advance now).shows r k % 2 ^ 32))) :: s.out ∧
        t.rdLatch = tput s.rdLatch k ((s.advance now).shows r k / 2 ^ 32) ∧
        (t.reg k).toNat = (s.reg k).toNat &&& (2 ^ 64 - 1 - r.mask (fun a => a = .rc)) ∧ ∀ j, j ≠ k → t.reg j = s.reg j) ∧
      (s.target off.toNat = k + 4 → idx1 K.SEQ_MEM_DATA 64 k = none → ∃ t, exec (.lowWordRead q off now) s = .next t ∧ t.regs = s.regs ∧
        t.out = .regRead (k + 4) (some (BitVec.ofNat 64 ((tfind s.rdLatch k).getD ((s.advance now).shows r k / 2 ^ 32)))) :: s.out))

/-- An access whose width or alignment R12 does not allow at its offset changes nothing but by the address error of R47, and a read of it answers no
data. REGISTER_WRITE of 4 bytes to a 32-bit register with a writable field, none of them shadowed, makes its block's write of the value in which RW
and WO fields are the value's bits, an RW1C bit written 1 is 0, and every other bit keeps its value; to an offset that no register occupies it changes
nothing but the time. RC_REGISTER_READ of 4 bytes answers what the register shows and clears its RC fields and nothing else; at an unoccupied offset
it answers 0. A write to the mailbox or PDK_MB_DATA puts the bytes there, little-endian, and changes no other byte. A write of a shadowed register, of
HOLD, and a hand-over that is due complete: no landed value and no memory byte changes at a write, HOLD takes its value, and COMMIT_SEQ counts the
hand-over. (R6, R8, R10, R11, R12, R47) -/
def Obligations.RegisterAccessCodes : Prop :=
  (∀ (q : Requester) (off : BitVec 26) (size : Fin 4) (v : Word) (x : AccessIn) (now : Nat) (s : State), s.up = true → busOk off.toNat (2 ^ size.val) = false →
    exec (.registerWrite q off size v x) s = .next ((s.advance x.now).addrError q) ∧
    exec (.rcRegisterRead q off size now) s = .next (((s.advance now).addrError q).emit (.regRead (s.target off.toNat) none))) ∧
  (∀ (q : Requester) (off : BitVec 26) (v : Word) (x : AccessIn) (now k : Nat) (r : RegRow) (s : State), s.up = true → off.toNat % 4 = 0 →
    plainAt off.toNat = false → 0x10000 ≤ off.toNat → r.bytes = 4 → regAt (s.target off.toNat) = some (r, k) →
    (s.halted = false → r.readOnly = false → r.shadowed = false →
      exec (.registerWrite q off 2 v x) s = .next ((s.advance x.now).writeBlock q x k (merge r (s.reg k).toNat (v.toNat % 2 ^ 32)))) ∧
    (∃ t, exec (.rcRegisterRead q off 2 now) s = .next t ∧
      t.out = .regRead (s.target off.toNat) (some (BitVec.ofNat 64 ((s.advance now).shows r k))) :: s.out ∧
      (t.reg k).toNat = (s.reg k).toNat &&& (2 ^ 64 - 1 - r.mask (fun a => a = .rc)) ∧ ∀ j, j ≠ k → t.reg j = s.reg j)) ∧
  (∀ (q : Requester) (off : BitVec 26) (v : Word) (x : AccessIn) (now : Nat) (s : State), s.up = true → off.toNat % 4 = 0 →
    plainAt off.toNat = false → 0x10000 ≤ off.toNat → regAt (s.target off.toNat) = none →
    exec (.registerWrite q off 2 v x) s = .next (s.advance x.now) ∧
    exec (.rcRegisterRead q off 2 now) s = .next ((s.advance now).emit (.regRead (s.target off.toNat) (some 0)))) ∧
  (∀ (r : RegRow) (old v i : Nat), i < 64 → r.mask (fun a => a = .rw ∨ a = .srw ∨ a = .wo) < 2 ^ 64 → r.mask (fun a => a = .rw1c) < 2 ^ 64 → (merge r old v).getLsbD i =
    if (r.mask (fun a => a = .rw ∨ a = .srw ∨ a = .wo)).testBit i = true then v.testBit i
    else old.testBit i && !((r.mask (fun a => a = .rw1c)).testBit i && v.testBit i)) ∧
  (∀ (q : Requester) (off : BitVec 26) (size : Fin 4) (v : Word) (x : AccessIn) (s : State), s.up = true → s.halted = false →
    off.toNat % 2 ^ size.val = 0 → plainAt off.toNat = true → ∃ t, exec (.registerWrite q off size v x) s = .next t ∧
      ∀ b, t.byte b = if regBase + off.toNat ≤ b ∧ b < regBase + off.toNat + 2 ^ size.val
        then BitVec.ofNat 8 (v.toNat / 256 ^ (b - (regBase + off.toNat))) else s.byte b) ∧
  (∀ (q : Requester) (off : BitVec 26) (v : Word) (x : AccessIn) (r : RegRow) (s : State), s.up = true → s.halted = false → off.toNat % 4 = 0 →
    plainAt off.toNat = false → s.target off.toNat = off.toNat → regAt off.toNat = some (r, off.toNat) → r.bytes = 4 → r.readOnly = false →
    r.shadowed = true → ∃ t, exec (.srwWrite q off 2 v x) s = .next t ∧ t.raw = max s.raw x.now ∧ t.mem = s.mem ∧ t.landed = s.landed) ∧
  (∀ (q : Requester) (ch : Chan) (hold : Bool) (now : Nat) (s : State), s.up = true → s.halted = false →
    (∃ t, exec (.ctxShadowCtrlWrite q ch hold) s = .next t ∧ t.flag (R.CTX_SHADOW_CTRL_HOLD ch) = hold ∧ t.landed = s.landed ∧ t.srwPend = s.srwPend) ∧
    (s.running ch = true → s.gridOn ch = true → (s.advance now).reached ((s.advance now).tFrame ch ((s.chan ch).first + (s.chan ch).handed)) = true →
      ∃ t, exec (.handover ch now) s = .next t ∧ t.get (R.CTX_COMMIT_SEQ_SEQ ch) = (s.get (R.CTX_COMMIT_SEQ_SEQ ch) + 1) % 2 ^ 64))

/-- SRW_WRITE of a whole shadowed register, of 32 or 64 bits: a value that a range excludes is discarded; else its pending value is the merged value,
PENDING of its channel reads 1, LANDED of the writer reads COMMIT_SEQ + 1, or all ones while HOLD is 1, and the register's value in every snapshot is
as before. At the landing of snapshot n, with HOLD 0 at the end of the preceding cycle, every pending register of the channel that no write of this
cycle changed has its pending value in snapshot n and is no longer pending; one written in this cycle stays pending, and what was pending of it before
enters snapshot n; with no write of this cycle PENDING reads 0; and every value in a snapshot before n is as before. With HOLD 1 at the end of the
preceding cycle no value lands. Without a write of HOLD in this cycle or to come, HOLD of the preceding cycle is HOLD as it stands; the first write of
a register in a cycle keeps what was pending of it, and later ones leave that. HANDOVER of a running channel with a frame grid, once its next frame's
time has come, is the channel's hand-over, and before that changes nothing but the time. CTX_SHADOW_CTRL_WRITE sets HOLD, and clearing a set HOLD sets
PENDING and makes the writer's LANDED read COMMIT_SEQ + 1. (R60, R64, R65, R66, R67, R68, R69, R70, R7) -/
def Obligations.ShadowedWritesLand : Prop :=
  (∀ (q : Requester) (off : BitVec 26) (z : Fin 4) (v : Word) (x : AccessIn) (r : RegRow) (s : State), s.up = true → s.halted = false →
    2 ≤ z.val → off.toNat % r.bytes = 0 → plainAt off.toNat = false → s.target off.toNat = off.toNat → regAt off.toNat = some (r, off.toNat) → r.bytes = 2 ^ z.val →
    r.shadowed = true → r.readOnly = false →
    off.toNat ≠ (R.CTX_SHADOW_CTRL_PENDING (srwChan off.toNat)).key → off.toNat ≠ (R.CTX_COMMIT_SEQ_SEQ (srwChan off.toNat)).key → off.toNat ≠ (landedField q (srwChan off.toNat)).key →
    let w := (s.advance x.now).srwRanged off.toNat (merge r (s.reg off.toNat).toNat (v.toNat % 2 ^ (8 * r.bytes)))
    (w = none → exec (.srwWrite q off z v x) s = .next (s.advance x.now)) ∧
    ∀ n, w = some n → ∃ t, exec (.srwWrite q off z v x) s = .next t ∧ t.reg off.toNat = n ∧ off.toNat ∈ t.srwPend ∧ t.landed = s.landed ∧
      t.flag (R.CTX_SHADOW_CTRL_PENDING (srwChan off.toNat)) = true ∧
      t.get (landedField q (srwChan off.toNat)) = (if s.flag (R.CTX_SHADOW_CTRL_HOLD (srwChan off.toNat)) = true then 2 ^ 64 - 1
        else (s.get (R.CTX_COMMIT_SEQ_SEQ (srwChan off.toNat)) + 1) % 2 ^ 64)) ∧
  (∀ (s : State) (ch n : Nat), (s.shadowLog ch).hold (s.flag (R.CTX_SHADOW_CTRL_HOLD ch)) = false →
    (∀ k ∈ s.srwPend, srwChan k = ch → (s.shadowLog ch).prior k = none → k ∉ (landedFields ch).map (·.key) →
      (s.landAt ch n).regIn k n = s.reg k ∧ k ∉ (s.landAt ch n).srwPend) ∧
    (∀ k ∈ s.srwPend, srwChan k = ch → ∀ v, (s.shadowLog ch).prior k = some v → k ∈ (s.landAt ch n).srwPend ∧
      (s.landAt ch n).regIn k n = v.getD (s.regIn k n)) ∧
    ((s.shadowLog ch).writes = [] → (s.shadowLog ch).holds = [] → (s.landAt ch n).flag (R.CTX_SHADOW_CTRL_PENDING ch) = false) ∧
    (∀ k m, m < n → (s.landAt ch n).regIn k m = s.regIn k m)) ∧
  (∀ (s : State) (ch n : Nat), (s.shadowLog ch).hold (s.flag (R.CTX_SHADOW_CTRL_HOLD ch)) = true →
    (s.landAt ch n).landed = s.landed ∧ (s.landAt ch n).srwPend = s.srwPend) ∧
  (∀ (s : State) (ch : Nat) (h : Bool), (∀ p ∈ (tget (fun _ => {}) s.shadowNow ch).holds, p.1 < seqCycle s.raw) → (s.shadowLog ch).hold h = h) ∧
  (∀ (q : Requester) (s : State) (k : Nat) (v : Word),
    ((s.shadowLog (srwChan k)).prior k = none →
      ((s.srwWrite q k v).shadowLog (srwChan k)).prior k = some (if k ∈ s.srwPend then some (s.reg k) else none)) ∧
    (∀ o, (s.shadowLog (srwChan k)).prior k = some o → ((s.srwWrite q k v).shadowLog (srwChan k)).prior k = some o)) ∧
  (∀ (ch : Chan) (now : Nat) (s : State), s.live = true → s.running ch = true → s.gridOn ch = true →
    exec (.handover ch now) s = .next (if (s.advance now).reached ((s.advance now).tFrame ch ((s.chan ch).first + (s.chan ch).handed))
      then (s.advance now).handover ch else s.advance now)) ∧
  (∀ (q : Requester) (ch : Chan) (s : State), s.up = true → s.halted = false →
    (∃ t, exec (.ctxShadowCtrlWrite q ch true) s = .next t ∧ t.flag (R.CTX_SHADOW_CTRL_HOLD ch) = true) ∧
    (s.flag (R.CTX_SHADOW_CTRL_HOLD ch) = true → ∃ t, exec (.ctxShadowCtrlWrite q ch false) s = .next t ∧
      t.flag (R.CTX_SHADOW_CTRL_HOLD ch) = false ∧ t.flag (R.CTX_SHADOW_CTRL_PENDING ch) = true ∧ t.get (landedField q ch) = (s.get (R.CTX_COMMIT_SEQ_SEQ ch) + 1) % 2 ^ 64) ∧
    (s.flag (R.CTX_SHADOW_CTRL_HOLD ch) = false → exec (.ctxShadowCtrlWrite q ch false) s = .next s))

/-! ### Timebase -/

namespace Sys2Proof.Spec

/-- Whether a number is one that a signed 64-bit register holds. -/
def fits (x : Int) : Prop := -(2 : Int) ^ 63 ≤ x ∧ x < 2 ^ 63

/-- Time T_k of pulse k of a generator, in units of 2^-32 ns (R512). -/
def pulseTime (s : State) (g k : Nat) : Int := (s.pgStart g + k * s.pgPeriod g : Nat)

/-- The rate that a sample of offset d asks for, at dt after the one before it (R500): the new integrator, and the rate before its limit. -/
def servo (s : State) (d dt : Int) : Int × Int :=
  let e := min (max d (-(2 ^ 22))) (2 ^ 22)
  let i := clampRate (s.tb.i + Int.tdiv (e * 2 ^ 40) (dt * 2 ^ s.get R.TB_SERVO_KI_SHIFT))
  (i, i + Int.tdiv (e * 2 ^ 40) (dt * 2 ^ s.get R.TB_SERVO_KP_SHIFT))

end Sys2Proof.Spec

/-- With software's writes accepted: NEW_EPOCH adds 1 to TB_EPOCH, clears STEP_USED unless a step was made in the same ns, posts EPOCH to every bound
thread, raises line 4 of each core and leaves local time as it is at that instant. TB_STEP of d, with STEP_USED 0 and the offset in range, adds d to
local time, sets STEP_USED, counts STEPS and ends JUMPED in ACQUIRE; with STEP_USED 1 it is counted in STEP_REFUSED, reported on source 21 and does
not move local time. RATE_FOLD, and TB_RATE_WRITE of a rate within the limit while SERVO_EN is 0, leave local time as it is; the write leaves TB_RATE
and the rate in force at the value written. Beyond the limit, the limit is in force, RATE_CLAMPED counts and source 20 is reported. With SERVO_EN 1
the write is discarded. TB_SNAP captures raw, local time and epoch. TB_GM_ID_WRITE leaves the identity, and counts MASTER_CHANGES only if it differs.
(R491, R492, R493, R495, R496, R497, R501, R503, R504) -/
def Obligations.EpochsStepsAndRates : Prop :=
  ∀ (s : State), s.up = true → s.halted = false → ∀ now : Nat,
    let l := (s.advance now).now
    (∃ t, exec (.newEpoch now) s = .next t ∧ t.get R.TB_EPOCH_EPOCH = (s.get R.TB_EPOCH_EPOCH + 1) % 2 ^ 32 ∧
      t.flag R.TB_STATUS_STEP_USED = decide (s.tb.stepRaw = some (max s.raw now)) ∧
      t.now = l ∧ (∀ c < 256, ∀ n, s.boundThread c = some n → ∃ q ∈ t.hwSeq, q.thread = n ∧ q.event = 14) ∧
      ∀ k < 4, (t.core k).linePend.testBit 4 = true) ∧
    (∀ d : Word, Sys2Proof.Spec.fits (s.getSigned R.TB_OFFSET + d.toInt) → s.flag R.TB_STATUS_STEP_USED = false →
      ∃ t, exec (.tbStep d now) s = .next t ∧ t.now = l + d.toInt ∧ t.flag R.TB_STATUS_STEP_USED = true ∧
        t.get (R.TB_CNT_COUNT 2) = (s.get (R.TB_CNT_COUNT 2) + 1) % 2 ^ 64 ∧
        t.get R.TB_STATUS_STATE = if s.get R.TB_STATUS_STATE = 4 then 1 else s.get R.TB_STATUS_STATE) ∧
    (∀ d : Word, s.flag R.TB_STATUS_STEP_USED = true →
      ∃ u : State, exec (.tbStep d now) s = .next (u.report 21 0) ∧ u.now = l ∧ u.get (R.TB_CNT_COUNT 3) = (s.get (R.TB_CNT_COUNT 3) + 1) % 2 ^ 64) ∧
    (Sys2Proof.Spec.fits (s.getSigned R.TB_OFFSET + ((s.tb.a : Int) + s.getSigned R.TB_RATE_NOW * ((max s.raw now : Nat) - s.tb.ra)) / 2 ^ 40) →
      (∃ t, exec (.rateFold now) s = .next t ∧ t.now = l ∧ t.tb.a < 2 ^ 40 ∧ t.tb.ra = max s.raw now) ∧
      ∀ v : Word,
        (s.flag R.TB_CTRL_SERVO_EN = true → exec (.tbRateWrite v now) s = .next (s.advance now)) ∧
        (s.flag R.TB_CTRL_SERVO_EN = false → v.toInt.natAbs ≤ 219902325 → ∃ t, exec (.tbRateWrite v now) s = .next t ∧ t.now = l ∧
          t.reg K.TB_RATE = v ∧ t.getSigned R.TB_RATE_NOW = v.toInt) ∧
        (s.flag R.TB_CTRL_SERVO_EN = false → 219902325 < v.toInt.natAbs → ∃ u : State, exec (.tbRateWrite v now) s = .next (u.report 20 0) ∧ u.now = l ∧
          u.reg K.TB_RATE = v ∧ u.getSigned R.TB_RATE_NOW = (if v.toInt < 0 then -219902325 else 219902325) ∧
          u.get (R.TB_CNT_COUNT 6) = (s.get (R.TB_CNT_COUNT 6) + 1) % 2 ^ 64)) ∧
    (∃ t, exec (.tbSnap now) s = .next t ∧ t.get R.TB_SNAP_RAW_RAW = max s.raw now % 2 ^ 64 ∧ (t.get R.TB_SNAP_LOCAL_LOCAL : Int) = l % 2 ^ 64 ∧
      t.get R.TB_SNAP_EPOCH_EPOCH = s.get R.TB_EPOCH_EPOCH) ∧
    (∀ v : Word, ∃ t, exec (.tbGmIdWrite v) s = .next t ∧ t.reg K.TB_GM_ID = v ∧
      t.get (R.TB_CNT_COUNT 7) = (s.get (R.TB_CNT_COUNT 7) + if s.reg K.TB_GM_ID = v then 0 else 1) % 2 ^ 64)

/-- TIMEBASE_SAMPLE offers (m, r) as a sample of source 0, PPS_EDGE captures local time, counts PPS_EDGES and offers the nearest second plus OFFSET_NS
as a sample of source 4. A sample while SERVO_EN is 0, or of another source, changes nothing; one older than the latest step, later than now, or no
newer than the one last processed counts in STALE. A processed sample of offset d = m − L(r): with STEP_USED 0, AUTO_STEP and |d| above STEP_MIN_NS it
steps local time by d into ACQUIRE; below −1000 × BACK_THRESH_US it enters JUMPED with the rate kept, counted and reported on source 18; the first
after a step keeps the rate and leaves ACQUIRE; else the rate is the servo's, and the state moves between ACQUIRE and LOCKED by LOCK_NS.
HOLDOVER_TIMEOUT in ACQUIRE or LOCKED after HOLD_MS enters HOLDOVER, counted and reported on source 19, with the rate kept. (R499, R500, R501, R502,
R511) -/
def Obligations.ServoSamples : Prop :=
  (∀ (s : State) (now : Nat), s.up = true →
    (s.halted = false → ∀ m r : Word, exec (.timebaseSample m r now) s =
      .next ((((s.advance now).setReg K.TB_SAMPLE_MASTER m).setReg K.TB_SAMPLE_RAW r).sample 0 m.toNat r.toNat)) ∧
    (let l := (s.advance now).now
     ∃ u : State, exec (.ppsEdge now) s = .next (u.sample 4 ((l + 500000000) / 1000000000 * 1000000000 + s.getSigned R.TB_PPS_CFG_OFFSET_NS) (max s.raw now)) ∧
       u.getSigned R.TB_PPS_CAPT_TIME = signedOf (ofSigned l 64) 64 ∧ u.get (R.TB_CNT_COUNT 9) = (s.get (R.TB_CNT_COUNT 9) + 1) % 2 ^ 64 ∧
       u.now = l ∧ u.tb = s.tb) ∧
    (s.get R.TB_STATUS_STATE = 1 ∨ s.get R.TB_STATUS_STATE = 2 → s.tb.procRaw + 1000000 * s.get R.TB_THRESH_HOLD_MS ≤ max s.raw now →
      ∃ u : State, exec (.holdoverTimeout now) s = .next (u.report 19 0) ∧ u.get R.TB_STATUS_STATE = 3 ∧ u.tb.rPrev = none ∧
        u.get R.TB_RATE_NOW = s.get R.TB_RATE_NOW ∧ u.get (R.TB_CNT_COUNT 5) = (s.get (R.TB_CNT_COUNT 5) + 1) % 2 ^ 64)) ∧
  (∀ (s : State) (src r : Nat) (m : Int), s.flag R.TB_CTRL_SERVO_EN = false → s.sample src m r = s) ∧
  (∀ (s : State) (src r : Nat) (m : Int), s.flag R.TB_CTRL_SERVO_EN = true →
    let fresh := (∀ q, s.tb.stepRaw = some q → q ≤ r) ∧ r ≤ s.raw
    let new := ∀ q, s.tb.rLast = some q → q < r
    let d := m - s.localAt r
    (¬fresh → s.sample src m r = s.inc (R.TB_CNT_COUNT 1)) ∧
    (fresh → s.get R.TB_CTRL_SOURCE ≠ src → s.sample src m r = s) ∧
    (fresh → s.get R.TB_CTRL_SOURCE = src → ¬new → s.sample src m r = s.inc (R.TB_CNT_COUNT 1)) ∧
    (fresh → s.get R.TB_CTRL_SOURCE = src → new → s.tb.followStep = false → Sys2Proof.Spec.fits d → Sys2Proof.Spec.fits (s.getSigned R.TB_OFFSET + d) →
      let steps := s.flag R.TB_STATUS_STEP_USED = false ∧ s.flag R.TB_CTRL_AUTO_STEP = true ∧ s.get R.TB_THRESH_STEP_MIN_NS < d.natAbs
      let back := d < -(1000 * s.get R.TB_THRESH_BACK_THRESH_US : Int)
      let marked := fun (t : State) => t.getSigned R.TB_LAST_OFFSET_S = d ∧ t.tb.rLast = some r ∧ t.get (R.TB_CNT_COUNT 0) = (s.get (R.TB_CNT_COUNT 0) + 1) % 2 ^ 64
      (steps → marked (s.sample src m r) ∧ (s.sample src m r).now = s.now + d ∧ (s.sample src m r).get R.TB_STATUS_STATE = 1 ∧
        (s.sample src m r).flag R.TB_STATUS_STEP_USED = true ∧ (s.sample src m r).tb.rPrev = none) ∧
      (¬steps → back → s.get R.TB_STATUS_STATE ≠ 4 → ∃ u : State, s.sample src m r = { u.report 18 0 with tb := { (u.report 18 0).tb with rPrev := none } } ∧ marked u ∧
        u.get R.TB_STATUS_STATE = 4 ∧ u.flag R.TB_STATUS_JUMP_SEEN = true ∧ u.get (R.TB_CNT_COUNT 4) = (s.get (R.TB_CNT_COUNT 4) + 1) % 2 ^ 64 ∧
        u.get R.TB_RATE_NOW = s.get R.TB_RATE_NOW) ∧
      (¬steps → ¬back → s.tb.rPrev = none → marked (s.sample src m r) ∧ (s.sample src m r).tb.rPrev = some r ∧
        (s.sample src m r).get R.TB_STATUS_STATE = 1 ∧ (s.sample src m r).get R.TB_RATE_NOW = s.get R.TB_RATE_NOW) ∧
      (¬steps → ¬back → ∀ rp, s.tb.rPrev = some rp → (Sys2Proof.Spec.servo s d ((r : Int) - rp)).2.natAbs ≤ 219902325 →
        let t := s.sample src m r
        let lock := s.get R.TB_SERVO_LOCK_NS
        marked t ∧ t.tb.rPrev = some r ∧ t.tb.i = (Sys2Proof.Spec.servo s d ((r : Int) - rp)).1 ∧
        t.getSigned R.TB_RATE_NOW = (Sys2Proof.Spec.servo s d ((r : Int) - rp)).2 ∧ t.tb.good = (if d.natAbs ≤ lock then s.tb.good + 1 else 0) ∧
        t.get R.TB_STATUS_STATE = (if s.get R.TB_STATUS_STATE = 2 then (if 4 * lock < d.natAbs then 1 else 2)
          else if 16 ≤ t.tb.good then 2 else s.get R.TB_STATUS_STATE))))

/-- PG_ENABLE of a generator that is not enabled: periodic with PERIOD at least 1000 ns and above WIDTH, it is enabled and its next pulse is the first
T_k at least 1000 ns after now; periodic otherwise, ERR is set and ENABLE stays 0; one-shot with START at least 1000 ns ahead it is enabled for pulse
0; nearer, MISSED is set, source 22 is reported and ENABLE stays 0. PULSE_DUE once local time has reached T_k counts the pulse and makes the next one
due, and with a WIDTH above 0 the output is high; a one-shot of WIDTH 0 is over (the generator not being armed for the audio start). PULSE_END, once
WIDTH ns of local time have passed since the rise, or WIDTH ns of raw time where a step came between, leaves the output low, and clears a one-shot's
ENABLE. A step by software leaves every enabled periodic generator at the first T_k at or after the new local time and counts it in TB_PG_RESYNC.
(R512, R513, R514) -/
def Obligations.PulseGenerators : Prop :=
  (∀ (g : Fin 8) (now : Nat) (s : State), s.up = true → s.halted = false → s.flag (R.TB_PG_CTRL_ENABLE g) = false →
    let l := (s.advance now).now
    let good := 1000 * 2 ^ 32 ≤ s.pgPeriod g ∧ s.get (R.TB_PG_WIDTH_NS g) * 2 ^ 32 < s.pgPeriod g
    (s.flag (R.TB_PG_CTRL_PERIODIC g) = true → good → ∃ t, exec (.pgEnable g now) s = .next t ∧ t.flag (R.TB_PG_CTRL_ENABLE g) = true ∧
      t.flag (R.TB_PG_STATUS_ERR g) = false ∧ (l + 1000) * 2 ^ 32 ≤ Sys2Proof.Spec.pulseTime s g (t.pg g).k ∧
      ∀ j < (t.pg g).k, Sys2Proof.Spec.pulseTime s g j < (l + 1000) * 2 ^ 32) ∧
    (s.flag (R.TB_PG_CTRL_PERIODIC g) = true → ¬good → ∃ t, exec (.pgEnable g now) s = .next t ∧ t.flag (R.TB_PG_CTRL_ENABLE g) = false ∧
      t.flag (R.TB_PG_STATUS_ERR g) = true) ∧
    (s.flag (R.TB_PG_CTRL_PERIODIC g) = false → (l + 1000) * 2 ^ 32 ≤ s.pgStart g → ∃ t, exec (.pgEnable g now) s = .next t ∧
      t.flag (R.TB_PG_CTRL_ENABLE g) = true ∧ t.flag (R.TB_PG_STATUS_ERR g) = false ∧ (t.pg g).k = 0) ∧
    (s.flag (R.TB_PG_CTRL_PERIODIC g) = false → (s.pgStart g : Int) < (l + 1000) * 2 ^ 32 → ∃ u : State, exec (.pgEnable g now) s = .next (u.report 22 0) ∧
      u.flag (R.TB_PG_CTRL_ENABLE g) = false ∧ u.flag (R.TB_PG_STATUS_MISSED g) = true)) ∧
  (∀ (g : Fin 8) (now : Nat) (s : State), s.up = true → s.flag (R.TB_PG_CTRL_ENABLE g) = true → s.flag R.AUD_START_ARM = false →
    s.flag (R.TB_PG_CTRL_PERIODIC g) = true ∨ (s.pg g).k = 0 → Sys2Proof.Spec.pulseTime s g (s.pg g).k ≤ (s.advance now).now * 2 ^ 32 →
    ∃ t, exec (.pulseDue g now) s = .next t ∧ t.get (R.TB_PG_PULSES_COUNT g) = (s.get (R.TB_PG_PULSES_COUNT g) + 1) % 2 ^ 64 ∧ (t.pg g).k = (s.pg g).k + 1 ∧
      (0 < s.get (R.TB_PG_WIDTH_NS g) → t.flag (R.TB_PG_STATUS_OUTPUT g) = true ∧ (t.pg g).rose = some (max s.raw now, (s.advance now).now) ∧
        t.flag (R.TB_PG_CTRL_ENABLE g) = true) ∧
      (s.get (R.TB_PG_WIDTH_NS g) = 0 → t.flag (R.TB_PG_STATUS_OUTPUT g) = s.flag (R.TB_PG_STATUS_OUTPUT g) ∧
        t.flag (R.TB_PG_CTRL_ENABLE g) = s.flag (R.TB_PG_CTRL_PERIODIC g))) ∧
  (∀ (g : Fin 8) (now r : Nat) (l : Int) (s : State), s.up = true → (s.pg g).rose = some (r, l) →
    (if (s.pg g).stepped = true then r + s.get (R.TB_PG_WIDTH_NS g) ≤ max s.raw now else l + s.get (R.TB_PG_WIDTH_NS g) ≤ (s.advance now).now) →
    ∃ t, exec (.pulseEnd g now) s = .next t ∧ t.flag (R.TB_PG_STATUS_OUTPUT g) = false ∧ (t.pg g).rose = none ∧
      t.flag (R.TB_PG_CTRL_ENABLE g) = (s.flag (R.TB_PG_CTRL_ENABLE g) && s.flag (R.TB_PG_CTRL_PERIODIC g))) ∧
  (∀ (s : State) (d : Word) (now : Nat) (g : Fin 8), s.up = true → s.halted = false → s.flag R.TB_STATUS_STEP_USED = false →
    s.flag (R.TB_PG_CTRL_ENABLE g) = true → s.flag (R.TB_PG_CTRL_PERIODIC g) = true → 0 < s.pgPeriod g →
    ∃ t, exec (.tbStep d now) s = .next t ∧ t.get (R.TB_PG_RESYNC_COUNT g) = (s.get (R.TB_PG_RESYNC_COUNT g) + 1) % 2 ^ 64 ∧
      t.now * 2 ^ 32 ≤ Sys2Proof.Spec.pulseTime s g (t.pg g).k ∧ ∀ j < (t.pg g).k, Sys2Proof.Spec.pulseTime s g j < t.now * 2 ^ 32)

/-! ### Frame memory -/

namespace Sys2Proof.Spec

/-- Stack and rank that serve an address. -/
def home (s : State) (a : Nat) : Nat × Nat := s.servedBy (s.place a)

/-- A request at addresses a to a + n − 1 that a stack outside self-refresh serves: frame memory is enabled and holds every byte. -/
def serves (s : State) (a n : Nat) : Prop :=
  0 < n ∧ s.flag R.MEM_CTRL_ENABLE = true ∧ a + n ≤ 0x2100000000 ∧ s.flag (R.MEM_SR_CTRL_IN_SR (s.place a).stack) = false

end Sys2Proof.Spec

/-- MEMORY_WRITE of a non-empty list of bytes inside frame memory, with it enabled and the stack not in self-refresh, makes every byte of the range
read as written, leaves what every other address reads as, ends the poison of exactly the bursts that it covers whole, and answers. MEMORY_READ there,
with nothing found in error and no poisoned burst in the range, answers the bytes that the addresses read as and changes no memory; a read of one
burst enters the queue of its pseudo-channel, bank and rank and, where a write ahead of it there names its row, makes all ahead of it in order,
counted in INORDER if the queue was not in that mode. While MEM_CTRL.ENABLE is 0 both get an error response and change no memory. A request to a stack
in self-refresh waits, unanswered; one to a stack about to enter it ends that entry and counts SR_ABORTS. (R524, R525, R526, R527, R532, R540, R541,
R546) -/
def Obligations.MemoryRequests : Prop :=
  ∀ (q : Requester) (a : BitVec 48) (now : Nat) (s : State), s.up = true →
    let k := (s.place a.toNat).stack
    (∀ data : List (BitVec 8), Sys2Proof.Spec.serves s a.toNat data.length → ∃ t, exec (.memoryWrite q a data now) s = .next t ∧
      t.out = .memResp q a.toNat (some []) :: s.out ∧
      (∀ b, t.dByte b = if a.toNat ≤ b ∧ b < a.toNat + data.length then data.getD (b - a.toNat) 0 else s.dByte b) ∧
      (∀ b, b ∈ t.poison ↔ b ∈ s.poison ∧ ¬(a.toNat ≤ 32 * b ∧ 32 * b + 32 ≤ a.toNat + data.length))) ∧
    (∀ (n : BitVec 12) (served : List MemServed), Sys2Proof.Spec.serves s a.toNat n.toNat →
      (∀ b ∈ s.poison, 32 * b + 32 ≤ a.toNat ∨ a.toNat + n.toNat ≤ 32 * b) →
      ∃ t, exec (.memoryRead q a n .clean served now) s = .next t ∧
        t.out = .memResp q a.toNat (some (s.dBytes a.toNat n.toNat)) :: s.out ∧ t.mem = s.mem ∧ t.poison = s.poison ∧
        (served = [] → a.toNat % 32 + n.toNat ≤ 32 →
          let x := (Sys2Proof.Spec.home s a.toNat).1
          let r := (Sys2Proof.Spec.home s a.toNat).2
          let p := s.place a.toNat
          let old := s.memQueue x (p.ch * 2 + p.pc) r p.bank
          let new := t.memQueue x (p.ch * 2 + p.pc) r p.bank
          let hit := ∃ e ∈ old.reqs, e.write = true ∧ e.row = p.row
          new.reqs = old.reqs ++ [⟨false, p.row⟩] ∧ (hit → new.ahead = old.reqs.length) ∧ (¬hit → new.ahead = old.ahead) ∧
          t.get (R.MEM_CNT_COUNT x 0) = (s.get (R.MEM_CNT_COUNT x 0) + if hit ∧ old.ahead = 0 then 1 else 0) % 2 ^ 64)) ∧
    (∀ (n : BitVec 12) (ecc : EccResult) (served : List MemServed) (data : List (BitVec 8)),
      (s.flag R.MEM_CTRL_ENABLE = false → s.flag (R.MEM_SR_CTRL_IN_SR k) = false →
        (∃ t, exec (.memoryRead q a n ecc served now) s = .next t ∧ t.out = .memResp q a.toNat none :: s.out ∧ t.mem = s.mem) ∧
        ∃ t, exec (.memoryWrite q a data now) s = .next t ∧ t.out = .memResp q a.toNat none :: s.out ∧ t.mem = s.mem) ∧
      (s.flag (R.MEM_SR_CTRL_IN_SR k) = true → ∃ t, exec (.memoryWrite q a data now) s = .next t ∧ t.mem = s.mem ∧ t.out = s.out ∧
        ∃ r : MemReq, (t.memSt k).waiting = (s.memSt k).waiting ++ [r] ∧ r.q = q ∧ r.addr = a.toNat ∧ r.data = some data) ∧
      (s.flag (R.MEM_SR_CTRL_IN_SR k) = false → ∃ t, exec (.memoryWrite q a data now) s = .next t ∧ (t.memSt k).srWanted = false ∧
        (t.memSt k).lastReq = max s.raw now ∧
        t.get (R.MEM_CNT_COUNT k 1) = (s.get (R.MEM_CNT_COUNT k 1) + if (s.memSt k).srWanted = true then 1 else 0) % 2 ^ 64))

/-- For a read served at a, by stack k and rank r. With a correctable error found (CE_LIMIT 0, nothing poisoned) it answers the bytes and counts
MEM_CNT_CE. With an uncorrectable one in SERVICE mode and the spare free: the error is counted, a's burst is poisoned, the rank's migration to the
spare begins, source 94 + 4k is reported with the rank as suspect, and a media-path requester gets the data as read, counted in POISON_READS, any
other an error response. In START_UP mode it is counted and logged at MEM_UE_LOG's TAIL with its address and syndrome, or counted in UE_LOG_LOST where
the ring is full; source 95 + 4k is reported, nothing is poisoned or retired, and the answer is an error response. SCRUB_READ of a burst without error
moves the scrub on by one burst and counts SCRUB_PASSES at the last; in a rank that is not retired, a correctable error counts MEM_CNT_CE. (R529,
R530, R531, R532, R533, R535, R536, R537, R545) -/
def Obligations.MemoryErrors : Prop :=
  (∀ (q : Requester) (a : BitVec 48) (n : BitVec 12) (now : Nat) (s : State), s.up = true → Sys2Proof.Spec.serves s a.toNat n.toNat →
    let k := (Sys2Proof.Spec.home s a.toNat).1
    let r := (Sys2Proof.Spec.home s a.toNat).2
    (s.get (R.MEM_SCRUB_CE_LIMIT k) = 0 → s.poison = [] → ∃ t, exec (.memoryRead q a n .correctable [] now) s = .next t ∧
      t.out = .memResp q a.toNat (some (s.dBytes a.toNat n.toNat)) :: s.out ∧ t.mem = s.mem ∧
      t.get (R.MEM_CNT_CE_COUNT k r) = (s.get (R.MEM_CNT_CE_COUNT k r) + 1) % 2 ^ 64) ∧
    (∀ syn : BitVec 44, s.flag R.MEM_CTRL_MODE = true → s.get R.MEM_MIG_STATUS_STATE = 0 →
      ∃ u : State, u.get (R.MEM_CNT_UE_COUNT k r) = (s.get (R.MEM_CNT_UE_COUNT k r) + 1) % 2 ^ 64 ∧ a.toNat / 32 ∈ u.poison ∧ u.get R.MEM_MIG_STATUS_STATE = 1 ∧
        u.get R.MEM_REMAP_STATE = 1 ∧ u.get R.MEM_REMAP_STACK = k ∧ u.get R.MEM_REMAP_RANK = r ∧ u.mem = s.mem ∧
        let v := u.report (94 + 4 * k) (suspect kRank (4 * k + r))
        exec (.memoryRead q a n (.uncorrectable syn) [] now) s = .next
          (if mediaPath q = true then (v.inc (R.MEM_CNT_COUNT k 3)).emit (.memResp q a.toNat (some (v.dBytes a.toNat n.toNat)))
           else v.emit (.memResp q a.toNat none))) ∧
    (∀ syn : BitVec 44, s.flag R.MEM_CTRL_MODE = false →
      ∃ u : State, u.get (R.MEM_CNT_UE_COUNT k r) = (s.get (R.MEM_CNT_UE_COUNT k r) + 1) % 2 ^ 64 ∧ u.poison = s.poison ∧
        u.get R.MEM_MIG_STATUS_STATE = s.get R.MEM_MIG_STATUS_STATE ∧
        (let i := s.get (R.MEM_UE_CTRL_TAIL k)
         if (i + 1) % 16 = s.get (R.MEM_UE_CTRL_HEAD k) then u.get (R.MEM_CNT_COUNT k 4) = (s.get (R.MEM_CNT_COUNT k 4) + 1) % 2 ^ 64
         else u.get (R.MEM_UE_CTRL_TAIL k) = (i + 1) % 16 ∧ u.get (R.MEM_UE_LOG_WORD k i 0) % 2 ^ 48 = a.toNat ∧
           u.get (R.MEM_UE_LOG_WORD k i 1) / 2 ^ 20 = syn.toNat) ∧
        exec (.memoryRead q a n (.uncorrectable syn) [] now) s = .next ((u.report (95 + 4 * k) 0).emit (.memResp q a.toNat none)))) ∧
  (∀ (k : StackId) (now : Nat) (s : State), s.up = true →
    let i := (s.memSt k).scrub % (3 * rankBursts)
    (∃ t, exec (.scrubRead k .clean now) s = .next t ∧ t.mem = s.mem ∧ (t.memSt k).scrub = (i + 1) % (3 * rankBursts) ∧
      t.get (R.MEM_CNT_COUNT k 5) = (s.get (R.MEM_CNT_COUNT k 5) + if i + 1 = 3 * rankBursts then 1 else 0) % 2 ^ 64) ∧
    (s.get (R.MEM_SCRUB_CE_LIMIT k) = 0 → s.get R.MEM_REMAP_STATE ≠ 2 → ∃ t, exec (.scrubRead k .correctable now) s = .next t ∧ t.mem = s.mem ∧
      t.get (R.MEM_CNT_CE_COUNT k (i / rankBursts)) = (s.get (R.MEM_CNT_CE_COUNT k (i / rankBursts)) + 1) % 2 ^ 64))

/-- MIGRATION_COPY_UNIT while MIGRATING adds 1 to PROGRESS: a place of the retired rank below it is then served by the spare (stack 3, rank 2) and the
others by their own rank; at the last unit of 12 GB MEM_REMAP is RETIRED, the spare is used, every place of the rank is served by the spare and source
97 + 4 × stack is reported. BANK_REFRESH counts one refresh and changes no memory. In PS2 without held ingest: SELF_REFRESH_ENTRY of a stack that is
to enter leaves IN_SR 1; SELF_REFRESH_RETRY, when the stack has had no request for IDLE_US, makes it one that is to enter. SELF_REFRESH_EXIT, 480 ns
or more after the first request began to wait, with one waiting write leaves IN_SR 0, makes the write and counts SR_WAITED; with any waiting writes it
leaves none and counts each. (R533, R538, R539, R540, R541, R651) -/
def Obligations.MigrationAndSelfRefresh : Prop :=
  (∀ (now : Nat) (s : State), s.up = true → s.get R.MEM_MIG_STATUS_STATE = 1 → s.get R.MEM_REMAP_STATE = 1 →
    let n := s.get R.MEM_MIG_STATUS_PROGRESS + 1
    let hit := fun (p : Place) => p.stack = s.get R.MEM_REMAP_STACK ∧ p.rank = s.get R.MEM_REMAP_RANK
    (n < 3145728 → ∃ t, exec (.migrationCopyUnit now) s = .next t ∧ t.get R.MEM_MIG_STATUS_PROGRESS = n ∧ t.mem = s.mem ∧
      ∀ p, hit p → t.servedBy p = if p.unit < n then (3, 2) else (p.stack, p.rank)) ∧
    (n = 3145728 → ∃ u : State, exec (.migrationCopyUnit now) s = .next (u.report (97 + 4 * s.get R.MEM_REMAP_STACK) 0) ∧
      u.get R.MEM_REMAP_STATE = 2 ∧ u.get R.MEM_MIG_STATUS_STATE = 2 ∧ ∀ p, hit p → u.servedBy p = (3, 2))) ∧
  (∀ (k : StackId) (now : Nat) (s : State), s.up = true →
    (∃ t, exec (.bankRefresh k now) s = .next t ∧ (t.memSt k).refreshes = (s.memSt k).refreshes + 1 ∧ t.mem = s.mem ∧ t.regs = s.regs) ∧
    (s.get R.HTH_PS_STATUS_STATE = 2 → s.flag R.HTH_PS_STATUS_INGEST_HELD = false →
      ((s.memSt k).srWanted = true → ∃ t, exec (.selfRefreshEntry k now) s = .next t ∧ t.flag (R.MEM_SR_CTRL_IN_SR k) = true ∧ (t.memSt k).srWanted = false) ∧
      (s.flag (R.MEM_SR_CTRL_IN_SR k) = false → (s.memSt k).lastReq + 1000 * s.get (R.MEM_SR_CTRL_IDLE_US k) ≤ max s.raw now →
        ∃ t, exec (.selfRefreshRetry k now) s = .next t ∧ (t.memSt k).srWanted = true)) ∧
    (s.flag (R.MEM_SR_CTRL_IN_SR k) = true → (∀ r, (s.memSt k).waiting.head? = some r → r.since + 480 ≤ max s.raw now) →
      (∀ (r : MemReq) (d : List (BitVec 8)), (s.memSt k).waiting = [r] → r.data = some d → d ≠ [] → s.flag R.MEM_CTRL_ENABLE = true →
        r.addr + d.length ≤ 0x2100000000 → ∃ t, exec (.selfRefreshExit k now) s = .next t ∧
          t.out = .memResp r.q r.addr (some []) :: s.out ∧
          ∀ b, t.dByte b = if r.addr ≤ b ∧ b < r.addr + d.length then d.getD (b - r.addr) 0 else s.dByte b) ∧
      ((s.memSt k).waiting ≠ [] → (∀ r ∈ (s.memSt k).waiting, r.data.isSome = true) → ∃ t, exec (.selfRefreshExit k now) s = .next t ∧
        t.flag (R.MEM_SR_CTRL_IN_SR k) = false ∧ (t.memSt k).waiting = [] ∧
        t.get (R.MEM_CNT_COUNT k 2) = (s.get (R.MEM_CNT_COUNT k 2) + (s.memSt k).waiting.length) % 2 ^ 64)))

/-! ### Sieve -/

namespace Sys2Proof.Spec

/-- A real report of a class and a suspect at raw time `raw` folds into a record (R635). -/
def folds (s : State) (raw cls sus : Nat) (r : SieveRec) : Prop :=
  r.cls = cls ∧ r.suspect = sus ∧ (r.acked = true → slowCycles raw ≤ slowCycles r.ackAt) ∧ r.injected = false ∧ slowCycles raw - slowCycles r.raw ≤ 375 * s.get R.SIEVE_CTRL_WINDOW_US

/-- A record counts as unacknowledged for a report at raw time `raw` (R638). -/
def counts (raw cls : Nat) (r : SieveRec) : Prop := r.cls = cls ∧ (r.acked = true → slowCycles raw ≤ slowCycles r.ackAt)

/-- The severity of a new record of a class from a source of severity v, reported at raw time `raw` (R637, R638). -/
def severity (s : State) (raw cls v sev : Nat) : Prop :=
  ((∀ p ∈ s.recs, ¬counts raw cls p.2) ∧ sev = v) ∨
  ∃ h, (∃ p ∈ s.recs, counts raw cls p.2 ∧ p.2.sev = h) ∧ (∀ p ∈ s.recs, counts raw cls p.2 → p.2.sev ≤ h) ∧
    sev = max v (min (max v h + 1) (s.get (R.SIEVE_CLASS_CFG_ESC_LIMIT cls)))

/-- The class state and the status show a state's unacknowledged records (R637, R650). -/
def classShown (t : State) (c : Nat) : Prop :=
  t.get (R.SIEVE_CLASS_STATE_HIGHEST c) = maxSev (t.unacked.filter (fun r => r.cls = c)) % 4 ∧
  t.get (R.SIEVE_CLASS_STATE_UNACKED c) = (t.unacked.filter (fun r => r.cls = c)).length % 1024 ∧
  t.get R.SIEVE_STATUS_LEVEL = maxSev t.unacked % 4 ∧ t.get R.SIEVE_STATUS_UNACKED = t.unacked.length % 1024

end Sys2Proof.Spec

/-- SIEVE_REPORT of a connected source that folds into no record, with the ring not full, at R637's severity below S2: by the source's configuration
at the end of the preceding CLK_SLOW cycle: a record of it stands at the old TAIL with the next record number, every other ring place is as before,
TAIL moves on, the report and the record are counted, and the class state shows the records. One that folds into the only record it may fold into, of
no lower severity: that record's COUNT rises (to 0xFFFF at most) with LAST_DELTA, and TAIL stays. At S2 an engine without a task is ISOLATED, in its
tray too; at S3 the device is halted, with the count of S3 halts and the kept record. A record acknowledged in the cycle of a report still counts for
it. SIEVE_INJECT with a source up to 447 makes an injected report in the next CLK_SLOW cycle, above it nothing. SIEVE_RESTORE returns an isolated
engine to IDLE where no unacknowledged record names it, and else sets ACK_MISS and restores nothing. SIEVE_LOCK sets LOCK. (R633, R635, R636, R637,
R638, R641, R642, R643, R645, R649, R630) -/
def Obligations.SieveReports : Prop :=
  (∀ (n : Fin 768) (sus : BitVec 16) (detail : Word) (now : Nat) (s : State), s.up = true → n.val ≤ 447 →
    let raw := max s.raw now
    let cls := ({ s with raw := raw } : State).getBefore slowCycles (R.SIEVE_SRC_CFG_CLASS n)
    let v := ({ s with raw := raw } : State).getBefore slowCycles (R.SIEVE_SRC_CFG_SEV n)
    let tail := s.get R.SIEVE_RING_TAIL_TAIL
    let counted := fun (t : State) => t.get (R.SIEVE_CNT_COUNT 0) = (s.get (R.SIEVE_CNT_COUNT 0) + 1) % 2 ^ 64
    ((∀ p ∈ s.recs, ¬Sys2Proof.Spec.folds s raw cls sus.toNat p.2) → (tail + 512 - s.get R.SIEVE_RING_HEAD_HEAD) % 512 ≠ 511 →
      ∀ sev, Sys2Proof.Spec.severity s raw cls v sev →
      let rec' : SieveRec := ⟨raw, s.recno + 1, n, cls, sev, v, decide (v < sev), false, false, false, sus.toNat, 1, 0, detail, 0⟩
      (sev < 2 → ∃ t, exec (.sieveReport n sus detail now) s = .next t ∧ counted t ∧ t.recAt tail = some rec' ∧ (∀ j, j ≠ tail → t.recAt j = s.recAt j) ∧
        t.recno = s.recno + 1 ∧ t.get R.SIEVE_RING_TAIL_TAIL = (tail + 1) % 512 ∧ t.get (R.SIEVE_CNT_COUNT 1) = (s.get (R.SIEVE_CNT_COUNT 1) + 1) % 2 ^ 64 ∧
        Sys2Proof.Spec.classShown t cls ∧ t.threads = s.threads ∧ t.mem = s.mem) ∧
      (sev = 2 → s.halted = false → ∀ e : Eng, sus.toNat = suspect kEngine e → tget (fun _ => 0) s.busy e = 0 →
        ∃ t, exec (.sieveReport n sus detail now) s = .next t ∧ counted t ∧ t.recAt tail = some rec' ∧ t.get (R.ENG_STATUS_STATE e) = 5 ∧
          (t.get (R.TRAY_STATUS_ISOLATED (e / 8))).testBit (e % 8) = true) ∧
      (sev = 3 → s.halted = false → ∃ t, exec (.sieveReport n sus detail now) s = .next t ∧ counted t ∧ t.recAt tail = some rec' ∧ t.halted = true ∧
        t.get R.HTH_S3_STATUS_COUNT = min (s.get R.HTH_S3_STATUS_COUNT + 1) 0xFFFF ∧ t.flag R.HTH_S3_STATUS_VALID = true ∧
        (s.flag R.HTH_S3_STATUS_VALID = false → ∀ i < 4, t.get (R.HTH_S3_RECORD_WORD i) = rec'.words.getD i 0 % 2 ^ 64))) ∧
    (∀ i r, (i, r) ∈ s.recs → Sys2Proof.Spec.folds s raw cls sus.toNat r → (∀ p ∈ s.recs, Sys2Proof.Spec.folds s raw cls sus.toNat p.2 → p = (i, r)) → v ≤ r.sev →
      ∃ t, exec (.sieveReport n sus detail now) s = .next t ∧ counted t ∧ (∀ j, j ≠ i → t.recAt j = s.recAt j) ∧ t.get R.SIEVE_RING_TAIL_TAIL = tail ∧
        t.recAt i = some { r with count := min (r.count + 1) 0xFFFF, lastDelta := min (slowCycles raw - slowCycles r.raw) 0xFFFFFFFF } ∧
        Sys2Proof.Spec.classShown t cls)) ∧
  (∀ (source : BitVec 10) (sus : BitVec 16) (e : Eng) (s : State), s.up = true → s.halted = false →
    (source.toNat ≤ 447 → ∃ u : State, u.recs = s.recs ∧ u.recno = s.recno ∧ u.get R.SIEVE_INJECT_SOURCE = source.toNat ∧
      u.get R.SIEVE_INJECT_SUSPECT = sus.toNat ∧ slowCycles u.raw = slowCycles s.raw + 1 ∧ exec (.sieveInject source sus) s = .next (u.report source.toNat sus.toNat 0 true)) ∧
    (447 < source.toNat → exec (.sieveInject source sus) s = .next s) ∧
    ((∀ r ∈ s.unacked, r.suspect ≠ suspect kEngine e) → s.get (R.ENG_STATUS_STATE e) = 5 → ∃ t, exec (.sieveRestore (BitVec.ofNat 16 (suspect kEngine e))) s = .next t ∧
      t.get (R.ENG_STATUS_STATE e) = 0 ∧ (t.get (R.TRAY_STATUS_ISOLATED (e / 8))).testBit (e % 8) = false) ∧
    ((∃ r ∈ s.unacked, r.suspect = suspect kEngine e) → ∃ t, exec (.sieveRestore (BitVec.ofNat 16 (suspect kEngine e))) s = .next t ∧
      t.get (R.ENG_STATUS_STATE e) = s.get (R.ENG_STATUS_STATE e) ∧ t.flag R.SIEVE_STATUS_ACK_MISS = true) ∧
    ∃ t, exec .sieveLock s = .next t ∧ t.flag R.SIEVE_CTRL_LOCK = true)

/-- SIEVE_ACK of the number of one unacknowledged record at ring place i sets ACKED in it, leaves every other place as it was, and the class state
then shows the records that are still unacknowledged. Where no unacknowledged record has the number, it changes no record and sets ACK_MISS.
SIEVE_RING_HEAD_WRITE of a HEAD that passes only acknowledged records and not TAIL frees exactly the records it passes and leaves HEAD at the value
written. One that would pass TAIL, or an unacknowledged record, changes neither the ring nor HEAD and sets ACK_MISS. (R639, R640) -/
def Obligations.SieveAcknowledgement : Prop :=
  (∀ (n : BitVec 32) (s : State), s.up = true →
    (∀ i r, (i, r) ∈ s.recs → r.recno = n.toNat → r.acked = false → (∀ p ∈ s.recs, p.2.recno = n.toNat → p = (i, r)) →
      ∃ t, exec (.sieveAck n) s = .next t ∧ t.recAt i = some { r with acked := true, ackAt := s.raw } ∧ (∀ j, j ≠ i → t.recAt j = s.recAt j) ∧
        Sys2Proof.Spec.classShown t r.cls) ∧
    ((∀ p ∈ s.recs, p.2.recno = n.toNat → p.2.acked = true) →
      ∃ t, exec (.sieveAck n) s = .next t ∧ t.recs = s.recs ∧ t.flag R.SIEVE_STATUS_ACK_MISS = true ∧
        ∀ c, t.get (R.SIEVE_CLASS_STATE_HIGHEST c) = s.get (R.SIEVE_CLASS_STATE_HIGHEST c) ∧
          t.get (R.SIEVE_CLASS_STATE_UNACKED c) = s.get (R.SIEVE_CLASS_STATE_UNACKED c))) ∧
  (∀ (v : BitVec 9) (s : State), s.up = true →
    let head := s.get R.SIEVE_RING_HEAD_HEAD
    let n := (v.toNat + 512 - head) % 512
    let used := (s.get R.SIEVE_RING_TAIL_TAIL + 512 - head) % 512
    (n ≤ used → (∀ i < n, ∃ r, s.recAt ((head + i) % 512) = some r ∧ r.acked = true) →
      ∃ t, exec (.sieveRingHeadWrite v) s = .next t ∧ t.get R.SIEVE_RING_HEAD_HEAD = v.toNat ∧
        ∀ j, t.recAt j = if ∃ i < n, j = (head + i) % 512 then none else s.recAt j) ∧
    (used < n ∨ (∃ i < n, ∃ r, s.recAt ((head + i) % 512) = some r ∧ r.acked = false) →
      ∃ t, exec (.sieveRingHeadWrite v) s = .next t ∧ t.recs = s.recs ∧ t.get R.SIEVE_RING_HEAD_HEAD = head ∧ t.flag R.SIEVE_STATUS_ACK_MISS = true))

/-! ### Media ports and ingest -/

/-- MAC_FRAME_RECEIVE on an active, enabled MAC with its link up counts exactly one of runt, long, bad FCS, pause and good frames; only a good one
goes on to ingest, last, with the receive time-stamp. EYE_WINDOW of a powered lane shows its margin, and the sixteenth window in a row below the floor
with AUTO_DFE at 1 and no decision feedback yet makes it active, with an S0 notice that names the block; before that, or above the floor, it does not.
FORCE_CTLE ends decision feedback. LANE_LOCK_LOSS of a locked lane clears LOCK, sets LOCK_LOST, takes its port's link down and reports source 110 + l,
which names no suspect; a frame in reception counts in RX_FCS, and so does one that an isolation of the port cuts off. PORT_UP of an active port that
is down and not held brings its link and every lane of it up without decision feedback. (R196, R197, R199, R200, R201, R202, R203, R204, R205, R206,
R207, R244) -/
def Obligations.MediaPorts : Prop :=
  (∀ (m : MPort) (f : EthFrame) (now : Nat) (s : State), s.ingestOn = true → s.lanesOf m ≠ [] → s.flag (R.MAC_CTRL_ENABLE m) = true →
    s.flag (R.MAC_STATUS_LINK_UP m) = true →
    let i := if f.len < 64 then 2 else if 9216 < f.len then 3 else if f.fcsOk = false then 1 else if f.pause = true then 4 else 0
    ∃ t, exec (.macFrameReceive m f now) s = .next t ∧ (∀ j < 8, t.get (R.MAC_CNT_COUNT m j) = (s.get (R.MAC_CNT_COUNT m j) + if j = i then 1 else 0) % 2 ^ 64) ∧
      t.ingFifo = s.ingFifo ++ (if i = 0 then [⟨m, s.rxStamp m (max s.raw now), max s.raw now, f⟩] else []) ∧ t.mem = s.mem) ∧
  (∀ (m : MPort) (f : EthFrame) (now : Nat) (s : State) (p : PortSt), s.ingestOn = true → s.lanesOf m ≠ [] → s.flag (R.MAC_CTRL_ENABLE m) = true →
    s.flag (R.MAC_STATUS_LINK_UP m) = false → tget (fun _ => {}) s.ports m = p → p.cut = true →
    ∃ t, exec (.macFrameReceive m f now) s = .next t ∧ t.get (R.MAC_CNT_COUNT m 1) = (s.get (R.MAC_CNT_COUNT m 1) + 1) % 2 ^ 64 ∧
      tget (fun _ => {}) t.ports m = { p with cut := false } ∧ t.ingFifo = s.ingFifo) ∧
  (∀ (l : MPort) (mv now : Nat) (s : State), s.ingestOn = true → (s.portOfLane l).isSome = true →
    let low := mv < s.get (R.MP_LANE_EQ_EYE_FLOOR_MV l)
    let due := low ∧ 15 ≤ (s.lane l).low ∧ s.flag (R.MP_LANE_EQ_AUTO_DFE l) = true ∧ s.flag (R.MP_LANE_STATUS_DFE_ACTIVE l) = false
    ∃ u : State, u.get (R.MP_LANE_STATUS_EYE_MV l) = min mv 255 ∧ (u.lane l).low = (if low then min ((s.lane l).low + 1) 16 else 0) ∧
      u.flag (R.MP_LANE_STATUS_LOCK l) = s.flag (R.MP_LANE_STATUS_LOCK l) ∧
      (due → u.flag (R.MP_LANE_STATUS_DFE_ACTIVE l) = true ∧ exec (.eyeWindow l mv now) s = .next (u.blockNotice 0x000C)) ∧
      (¬due → u.flag (R.MP_LANE_STATUS_DFE_ACTIVE l) = s.flag (R.MP_LANE_STATUS_DFE_ACTIVE l) ∧ exec (.eyeWindow l mv now) s = .next u)) ∧
  (∀ (l : MPort) (s : State), s.up = true → s.halted = false → ∃ t, exec (.forceCtle l) s = .next t ∧ t.flag (R.MP_LANE_STATUS_DFE_ACTIVE l) = false ∧
    t.flag (R.MP_LANE_STATUS_LOCK l) = s.flag (R.MP_LANE_STATUS_LOCK l)) ∧
  (∀ (l m : MPort) (mid : Bool) (now : Nat) (s : State), s.ingestOn = true → s.portOfLane l = some m.val → s.flag (R.MP_LANE_STATUS_LOCK l) = true →
    ∃ u : State, exec (.laneLockLoss l mid now) s = .next (u.report (110 + l) 0) ∧ u.flag (R.MP_LANE_STATUS_LOCK l) = false ∧
      u.flag (R.MP_LANE_STATUS_LOCK_LOST l) = true ∧ u.flag (R.MAC_STATUS_LINK_UP m) = false ∧
      (∀ j : MPort, j ≠ m → u.flag (R.MAC_STATUS_LINK_UP j) = s.flag (R.MAC_STATUS_LINK_UP j)) ∧
      u.get (R.MAC_CNT_COUNT m 1) = (s.get (R.MAC_CNT_COUNT m 1) + if mid = true ∧ s.flag (R.MAC_STATUS_LINK_UP m) = true then 1 else 0) % 2 ^ 64) ∧
  (∀ (m : MPort) (now : Nat) (s : State), s.ingestOn = true → s.lanesOf m ≠ [] → s.flag (R.MAC_STATUS_LINK_UP m) = false → s.portHeld m = false →
    ∃ t, exec (.portUp m now) s = .next t ∧ t.flag (R.MAC_STATUS_LINK_UP m) = true ∧
      ∀ l ∈ s.lanesOf m, t.flag (R.MP_LANE_STATUS_LOCK l) = true ∧ t.flag (R.MP_LANE_STATUS_DFE_ACTIVE l) = false)

namespace Sys2Proof.Spec

/-- INGEST_PACKET examines a frame that its MAC passed on, the oldest but for R235, which carries a UDP packet that Flow Table entry e matches. -/
def ingested (s : State) (now : Nat) (r : RxFrame) (u : UdpPacket) (e : Nat) : Prop :=
  s.ingestOn = true ∧ s.raw ≤ now ∧ (∃ x rest, s.ingFifo = x :: rest ∧ (s.advance now).nextFrame x rest = r) ∧ r.frame.body = .udp u ∧ s.flag R.ING_CTRL_ENABLE = true ∧
    s.lookup r.frame.vlan u = some e

/-- The flow of a Flow Table entry. -/
def flowOf (s : State) (e : Nat) : Nat := s.ft e 0 / 2 ^ 16 % 16384

/-- Tokens and remainder of a compact entry's bucket after its refill at raw time `now` (R223). -/
def refilled (s : State) (e now : Nat) : Nat × Nat :=
  let n := s.ft e 2 % 2 ^ 24 * ((now % 2 ^ 32 + 2 ^ 32 - s.ft e 6) % 2 ^ 32) + s.ft e 5 % 2 ^ 23
  let t := min (s.ft e 3 % 2 ^ 24) (s.ft e 4 % 2 ^ 24 + n / 8000000)
  (t, if t = s.ft e 3 % 2 ^ 24 then 0 else n % 8000000)

end Sys2Proof.Spec

/-- INGEST_PACKET of a packet that a compact, not colour-aware entry of flow f matches counts RECEIVED and records LAST_TS. Longer than MAX_PKT it
leaves as OVERSIZED. Else the bucket is refilled by R223 (kept in the entry): with fewer tokens than its B bytes it leaves as POLICED; else B tokens
go, and malformed it leaves as MALFORMED, well-formed it goes on to the merge. Each such exit counts that one counter beside RECEIVED and no other of
the flow, and writes no memory. A packet of no flow and of no control protocol counts RX_UNCLASS. POLICER_SWEEP refills the bucket of a valid compact
entry that is not in error by the same rule. PATH_SILENT of an enabled pair whose path has been silent for 10 ms, since the enable where it never
delivered, while the other delivered later reports source 127 once, with pair and path. FLOW_TABLE_ECC of a compact entry makes it match nothing and
reports source 129 with its number. ING_IND_SEL shows a snapshot of the flow's counters. (R208, R222, R223, R224, R225, R227, R231, R242, R243, R244,
R247) -/
def Obligations.IngestPackets : Prop :=
  (∀ (r : RxFrame) (u : UdpPacket) (e : Nat) (full : Bool) (now : Nat) (s : State), Sys2Proof.Spec.ingested s now r u e → bitAt (s.ft e 0) 1 = false →
    bitAt (s.ft e 0) 5 = false →
    let f := Sys2Proof.Spec.flowOf s e
    let b := u.ipHeader + 8 + u.payload.length
    let left := fun (t : State) (i : Nat) => t.get (R.ING_FLOW_LAST_TS_RAW f) = r.stamp % 2 ^ 64 ∧ t.mem = s.mem ∧ t.ingFifo = s.ingFifo.erase r ∧
      ∀ j < 10, t.get (R.ING_FLOW_CNT_COUNT f j) = (s.get (R.ING_FLOW_CNT_COUNT f j) + if j = 0 ∨ j = i then 1 else 0) % 2 ^ 64
    let bucket := fun (t : State) (k : Nat) => t.ft e 4 = k ∧ t.ft e 5 = (Sys2Proof.Spec.refilled s e now).2 ∧ t.ft e 6 = now % 2 ^ 32
    let k := (Sys2Proof.Spec.refilled s e now).1
    (s.get (R.ING_FLOW_KIND_MAX_PKT f) < b → ∃ t, exec (.ingestPacket full now) s = .next t ∧ left t 1) ∧
    (b ≤ s.get (R.ING_FLOW_KIND_MAX_PKT f) →
      (k < b → ∃ t, exec (.ingestPacket full now) s = .next t ∧ left t 2 ∧ bucket t k) ∧
      (b ≤ k → s.parse f u = none → ∃ t, exec (.ingestPacket full now) s = .next t ∧ left t 3 ∧ bucket t (k - b)) ∧
      (b ≤ k → ∀ p, s.parse f u = some p → ∃ v : State, exec (.ingestPacket full now) s = .next (v.mergeAndDeliver f p) ∧ left v 0 ∧ bucket v (k - b)))) ∧
  (∀ (r : RxFrame) (full : Bool) (now : Nat) (s : State), s.ingestOn = true → (∃ x rest, s.ingFifo = x :: rest ∧ (s.advance now).nextFrame x rest = r) → s.flag R.ING_CTRL_ENABLE = true →
    r.frame.body = .other ∨ (∃ u, r.frame.body = .udp u ∧ u.dport ≠ 319 ∧ u.dport ≠ 320 ∧ s.lookup r.frame.vlan u = none) →
    ∃ t, exec (.ingestPacket full now) s = .next t ∧ t.ingFifo = s.ingFifo.erase r ∧ t.mem = s.mem ∧
      t.get (R.MAC_CNT_COUNT r.mac 5) = (s.get (R.MAC_CNT_COUNT r.mac 5) + 1) % 2 ^ 64) ∧
  (∀ (now : Nat) (s : State), s.ingestOn = true → s.raw ≤ now → ∃ t, exec (.policerSweep now) s = .next t ∧ t.mem = s.mem ∧
    ∀ e < 32768, e ∉ s.flowBad → bitAt (s.ft e 0) 0 = true → bitAt (s.ft e 0) 1 = false → (e % 2 = 1 → bitAt (s.ft (e - 1) 0) 1 = false) →
      t.ft e 4 = (Sys2Proof.Spec.refilled s e now).1 ∧ t.ft e 5 = (Sys2Proof.Spec.refilled s e now).2 ∧ t.ft e 6 = now % 2 ^ 32) ∧
  (∀ (p : Fin 2048) (now a o : Nat) (s : State), s.ingestOn = true → s.flag (R.ING_PAIR_CFG_ENABLE p) = true → (s.pair p).silent = none →
    (s.pair p).lastA.getD (s.pair p).since = a → (s.pair p).lastB = some o → a + 10000000 ≤ max s.raw now → a < o →
    ∃ u : State, exec (.pathSilent p false now) s = .next (u.report 127 0 (BitVec.ofNat 64 p)) ∧ (u.pair p).silent = some false) ∧
  (∀ (e : Fin 32768) (now : Nat) (s : State), s.ingestOn = true → (e.val % 2 = 1 → bitAt (s.ft (e - 1) 0) 1 = false) →
    ∃ u : State, exec (.flowTableEcc e now) s = .next (u.report 129 0 (BitVec.ofNat 64 e)) ∧ ∀ p tag key, u.entryMatches e p tag key = false) ∧
  (∀ (w : Fin 4) (f : FlowId) (s : State), s.up = true → s.halted = false → ∃ t, exec (.ingIndSel w f) s = .next t ∧ t.get (R.ING_IND_SEL_FLOW w) = f ∧
    ∀ i < 10, t.get (R.ING_WIN_CNT_SNAPSHOT w i) = s.get (R.ING_FLOW_CNT_COUNT f i))

/-- For a packet with extended number q on a path of an enabled pair whose highest number is h, d being q − h modulo 2^32 as signed: d above 2^20
accepts it and counts RESETS; d above 0 accepts it and makes it the highest; −d below WINDOW accepts a number that is not marked and marks it, and
finds a marked one a duplicate; else it is stale. The first packet of a pair is accepted. A duplicate counts DUPLICATE, a stale one STALE, and neither
writes memory nor goes further; an accepted one is delivered. Writing a run of pixel groups of a frame that holds a token puts its bytes at token base
+ line × line bytes + offset × group bytes ÷ group pixels, leaves what every other address reads as, and marks the run's bytes in the line, no other
line. Where the copies of one number on both paths of a pair came in the same CLK_FAB cycle, that of path A is examined first. (R206, R229, R230,
R233, R234, R235) -/
def Obligations.MergeAndPlacement : Prop :=
  (∀ (p q : Nat) (b : Bool) (s : State),
    let t := (s.mergePacket p b q).1
    ((s.pair p).highest = none → (s.mergePacket p b q).2 = .accept ∧ (t.pair p).highest = some q) ∧
    ∀ h, (s.pair p).highest = some h →
      let d := signedOf ((q + 2 ^ 32 - h) % 2 ^ 32) 32
      let w := s.get (R.ING_PAIR_CFG_WINDOW p)
      let marked := ∃ m ∈ (s.pair p).marks, m.1 = q
      (2 ^ 20 < d → (s.mergePacket p b q).2 = .accept ∧ (t.pair p).highest = some q ∧
        (p < 2048 → t.get (R.ING_PAIR_RESETS_COUNT p) = (s.get (R.ING_PAIR_RESETS_COUNT p) + 1) % 2 ^ 64)) ∧
      (0 < d → d ≤ 2 ^ 20 → (s.mergePacket p b q).2 = .accept ∧ (t.pair p).highest = some q ∧ ∃ m ∈ (t.pair p).marks, m.1 = q) ∧
      (d ≤ 0 → -d < w → (t.pair p).highest = some h ∧ (∃ m ∈ (t.pair p).marks, m.1 = q) ∧ ((s.mergePacket p b q).2 = if marked then .duplicate else .accept)) ∧
      (d ≤ 0 → (w : Int) ≤ -d → (s.mergePacket p b q).2 = .stale ∧ (t.pair p).highest = some h)) ∧
  (∀ (s : State) (f : FlowId) (ts q : Nat) (runs : List Srd), s.merges f = true →
    let p := s.get (R.ING_FLOW_MERGE_PAIR f)
    let m := s.mergePacket p (s.flag (R.ING_FLOW_MERGE_PATH_B f)) q
    let t := s.mergeAndDeliver f (.video ts q runs)
    (m.2 = .accept → t = m.1.deliver f (.video ts q runs)) ∧
    (m.2 = .duplicate → t.mem = s.mem ∧ t.chans = s.chans ∧ t.get (R.ING_FLOW_CNT_COUNT f 4) = (s.get (R.ING_FLOW_CNT_COUNT f 4) + 1) % 2 ^ 64) ∧
    (m.2 = .stale → t.mem = s.mem ∧ t.chans = s.chans ∧ t.get (R.ING_FLOW_CNT_COUNT f 5) = (s.get (R.ING_FLOW_CNT_COUNT f 5) + 1) % 2 ^ 64)) ∧
  (∀ (s : State) (f ch n i : Nat) (fr : FrameSt) (r : Srd), s.frameSt ch n = some fr → fr.token = some i →
    let pg := s.pgroup f
    let a := s.tokenBase ch i + r.line * (s.get (R.ING_FLOW_VIDEO_WIDTH f) * pg.1 / pg.2) + r.offset * pg.1 / pg.2
    let t := s.writeRun f ch n r
    (∀ b, t.dByte b = if a ≤ b ∧ b < a + r.data.length then r.data.getD (b - a) 0 else s.dByte b) ∧
    ∃ g, t.frameSt ch n = some g ∧ g.token = some i ∧ (∀ l, l ≠ r.line → tget (fun _ => 0) g.lines l = tget (fun _ => 0) fr.lines l) ∧
      ∀ j, (tget (fun _ => 0) g.lines r.line).testBit j =
        ((tget (fun _ => 0) fr.lines r.line).testBit j || (decide (r.offset * pg.1 / pg.2 ≤ j) && decide (j < r.offset * pg.1 / pg.2 + r.data.length)))) ∧
  (∀ (s : State) (r x : RxFrame) (rest : List RxFrame) (p q : Nat), s.mergeKey r = some (p, true, q) → x ∈ rest → s.mergeKey x = some (p, false, q) →
    fabCycle x.came = fabCycle r.came →
    ∃ y ∈ rest, s.nextFrame r rest = y ∧ s.mergeKey y = some (p, false, q) ∧ fabCycle y.came = fabCycle r.came)

/-! ### Proofing, scaling and encoding -/

namespace Sys2Proof.Spec

/-- The seed block of R253 with its two costs and a motion vector. -/
def cost (b : SeedBlock) : Nat := min b.intra.toNat b.inter.toNat

/-- An event is a READY task of a channel's bound thread. -/
def posted (t : State) (ch e : Nat) : Prop := ∀ n, t.boundThread ch = some n → ∃ q ∈ t.hwSeq, q.thread = n ∧ q.event = e

/-- The sum of the custom set's taps of a phase (R273). -/
def phaseSum (s : State) (first taps : Nat) : Int := (List.range taps).foldl (fun (a : Int) i => a + signedOf (s.get (R.SCL_COEF_COEF (first + i))) 10) 0

end Sys2Proof.Spec

/-- PROOFING_SLOT_START of a running sub-frame channel with a frame grid, at the slot's time, begins it, as a repeat slice exactly if proofing is off
or a line of the band is missing. PROOFING_SLOT_END at the end of a slot whose blocks were all analysed shows in PRF_SLICE the band, the repeat flag,
and a scene cut exactly if SC_EN is 1, the slice is no repeat and 16 × the sum of the analysed blocks' INTER_COST is above SC_THRESH × the sum of
their INTRA_COST; in PRF_SLICE_CPLX the sum of the blocks' smaller costs (0 for a repeat), and the snapshot; it posts PROOF, and SCENE_CUT with a cut;
it opens one budget unit of the band in every enabled rendition, a repeat unit where the slice is one; the next slot is the next band's, or the next
frame's after the last. SCL_COEF_LOAD takes the custom set, VALID 1, exactly if every phase of it sums to 256. PROOFING_BUF_ECC marks blocks as not to
be analysed and reports source 131; SCALER_BUF_ECC of a pipeline in no use reports source 133. (R29, R31, R255, R256, R258, R260, R273, R282, R355) -/
def Obligations.ProofingSlots : Prop :=
  (∀ (ch : Chan) (now : Nat) (s : State), s.live = true → s.running ch = true → s.subframe ch = true → s.gridOn ch = true → (s.chan ch).slot.on = false →
    (s.advance now).reached (s.slotStart ch (s.chan ch).slot.n (s.chan ch).slot.k) = true →
    ∃ t, exec (.proofingSlotStart ch now) s = .next t ∧ (t.chan ch).slot.on = true ∧ (t.chan ch).slot.n = (s.chan ch).slot.n ∧ (t.chan ch).slot.k = (s.chan ch).slot.k ∧
      ((t.chan ch).slot.rep = true ↔ s.flag R.PRF_CTRL_ENABLE = false ∨ s.bandIn ch (s.chan ch).slot.n (s.chan ch).slot.k = false)) ∧
  (∀ (ch : Chan) (now : Nat) (s : State),
    let a := s.advance now
    let sl := (s.chan ch).slot
    let snap := s.snapOf ch sl.n
    let lo := sl.k * s.srcBand ch / 64
    let n := (ceilDiv (sl.k * s.srcBand ch + s.bandLen ch sl.k) 64 - lo) * s.blocksWide ch
    let done := List.replicate n true
    let l := a.analyse ch (a.quarterRows ch (((s.frameSt ch sl.n).bind (·.token)).getD 0) (some sl.k)) (a.searched ch) lo n done []
    let m := if sl.rep = true then [] else l
    s.live = true → s.running ch = true → s.gridOn ch = true → sl.on = true → sl.ecc = [] →
    (s.advance now).reached (s.slotStart ch sl.n sl.k + ns (s.tSlot ch)) = true →
    ∃ t, exec (.proofingSlotEnd ch done [] now) s = .next t ∧
      t.get (R.PRF_SLICE ch) % 65536 = sl.k % 65536 ∧ bitAt (t.get (R.PRF_SLICE ch)) 16 = sl.rep ∧
      (bitAt (t.get (R.PRF_SLICE ch)) 17 = true ↔ sl.rep = false ∧ s.getIn (R.PRF_CH_CFG_SC_EN ch) snap = 1 ∧
        s.getIn (R.PRF_CH_CFG_SC_THRESH ch) snap * (l.map (fun b => b.intra.toNat)).sum < 16 * (l.map (fun b => b.inter.toNat)).sum) ∧
      t.get (R.PRF_SLICE_CPLX_CPLX ch) = (m.map Sys2Proof.Spec.cost).sum % 2 ^ 64 ∧ t.get (R.PRF_SLICE_SNAP_SNAP ch) = snap % 2 ^ 64 ∧
      Sys2Proof.Spec.posted t ch 4 ∧ (bitAt (t.get (R.PRF_SLICE ch)) 17 = true → Sys2Proof.Spec.posted t ch 9) ∧
      t.units.length = s.units.length + (s.rendsOn ch).length ∧
      (∀ r ∈ s.rendsOn ch, ∃ u ∈ t.units, u.ch = ch ∧ u.rend = r ∧ u.idx = sl.n ∧ u.band = sl.k ∧ u.snap = snap ∧ (sl.rep = true → u.rep = true)) ∧
      (t.chan ch).slot.n = (if s.bandCount ch ≤ sl.k + 1 then sl.n + 1 else sl.n) ∧ (t.chan ch).slot.k = (if s.bandCount ch ≤ sl.k + 1 then 0 else sl.k + 1) ∧
      (t.chan ch).slot.on = false) ∧
  (∀ s : State, s.up = true → s.halted = false → ∃ t, exec .sclCoefLoad s = .next t ∧ t.mem = s.mem ∧
    (t.flag R.SCL_COEF_CTRL_VALID = true ↔ ∀ p < 64, Sys2Proof.Spec.phaseSum s (8 * p) 8 = 256 ∧ Sys2Proof.Spec.phaseSum s (512 + 8 * p) 4 = 256)) ∧
  (∀ (ch : Chan) (l : List Nat) (now : Nat) (s : State), s.live = true →
    ∃ u : State, exec (.proofingBufEcc ch l now) s = .next (u.report 131 (suspect kBlock 0x0F)) ∧ (u.chan ch).slot.ecc = (s.chan ch).slot.ecc ++ l) ∧
  (∀ (p : Fin 8) (r : Rend) (now : Nat) (s : State), s.live = true → tget (fun _ => 0) s.busy (2000 + p) = 0 → tget (fun _ => 0) s.sclOwn p = 0 →
    exec (.scalerBufEcc p r now) s = .next ((s.advance now).report 133 (suspect kBlock 0x10)))

/-- For the unit and column that an engine's task codes, the unit not yet assembled: CTU_START puts a CTU in flight, in crust mode exactly if one more
CTU at T_ctu and the rest at T_crust would pass the deadline (the column not yet in crust mode, no CTU of the unit failed). CTU_COMPLETE of a CTU in
flight of b bits counts it for the engine; a normal one is committed with its bits if they leave the reserve for every CTU left in the window; else
nothing is committed, the unit is rolled back once more and the column is in crust mode; a crust CTU is committed with at most its cap. A motion
vector that a search finds lies within 32 samples across and 16 down of its candidate, and no block of the clean area uses a vector that leaves the
clean area of its reference by its right edge. CODING_DEADLINE of a sub-frame rendition leaves its next unit as it is before the deadline; at it the
unit is assembled and complete, with its bits and no late CTU if all its CTUs were committed. A read that the reference cache holds counts a hit; else
a miss, and the line is held from then on. TRAY_INVALIDATE drops every line; REF_CACHE_ECC counts and reports source 390 + tray. (R287, R288, R348,
R368, R369, R370, R371, R374, R375, R377, R312, R329) -/
def Obligations.CodedTreeUnits : Prop :=
  (∀ (e : Eng) (u : UnitSt) (c : Nat) (k : ColSt) (now : Nat) (s : State), s.live = true → s.engineWork e = some (u, c, k) → u.staged = false →
    let size := s.ctuSize u.ch u.rend
    let late := s.deadline u.ch u.idx u.band < (s.advance now).now * 2 ^ 32 + ns (tCtu size + (k.total - k.done - 1) * tCrust size)
    (k.inflight = false → k.done < k.total → k.crust = false → k.rep = false → u.rolled = false →
      ∃ t v k', exec (.ctuStart e now) s = .next t ∧ v ∈ t.units ∧ v.same u = true ∧ v.committed = u.committed ∧ v.cols[c]? = some k' ∧
        k'.inflight = true ∧ k'.done = k.done ∧ (k'.crust = true ↔ late)) ∧
    (k.inflight = true → k.rep = false → ∀ (b : Nat) (w : CtuWork),
      let fits := (b : Int) ≤ (u.window : Int) - u.committed - (u.left - 1) * s.reserve u
      ∃ t v k', exec (.ctuComplete e b w now) s = .next t ∧ v ∈ t.units ∧ v.same u = true ∧ v.cols[c]? = some k' ∧ k'.inflight = false ∧
        t.get (R.ENG_CNT_COUNT e 2) = (s.get (R.ENG_CNT_COUNT e 2) + 1) % 2 ^ 64 ∧
        (k.crust = false → fits → v.committed = u.committed + b ∧ k'.done = k.done + 1 ∧ k'.bits = k.bits + b ∧ k'.crust = false ∧ v.rollbacks = u.rollbacks) ∧
        (k.crust = false → ¬fits → v.committed = u.committed ∧ k'.done = k.done ∧ k'.crust = true ∧ v.rolled = true ∧ v.rollbacks = u.rollbacks + 1) ∧
        (k.crust = true → v.committed = u.committed + min b (if u.irap = true then 96 else 32) ∧ k'.done = k.done + 1 ∧ k'.crust = true ∧
          v.crustN = u.crustN + 1))) ∧
  (∀ (u : UnitSt) (p : CtuPlace) (ref : Nat) (m : Motion) (v : Int × Int) (s : State), s.vectorOf u p ref m = some v →
    (s.inClean u p = true → 4 * ((p.x * s.ctuSize u.ch u.rend + m.x + m.w : Nat) : Int) + v.1 ≤ 4 * s.cleanEdge u ref) ∧
    (∀ c dx dy, m.found = .searched c dx dy → ∃ b, s.startVector u p c = some b ∧ b.1 - 128 ≤ v.1 ∧ v.1 ≤ b.1 + 128 ∧ b.2 - 64 ≤ v.2 ∧ v.2 ≤ b.2 + 64) ∧
    (∀ x y, m.found = .temporal x y → s.flag (R.CTX_REND_CODEC_TMVP u.ch u.rend) = true)) ∧
  (∀ (ch : Chan) (r : Rend) (a : Assembly) (u : UnitSt) (now : Nat) (s : State), s.live = true → s.running ch = true → s.flag (R.CTX_REND_CODEC_ENABLE ch r) = true →
    s.subframe ch = true → s.gridOn ch = true → (s.unitsOf ch r).find? (fun v => !v.staged) = some u →
    ((s.advance now).reached (s.deadline ch u.idx u.band) = false → exec (.codingDeadline ch r a now) s = .next (s.advance now)) ∧
    ((s.advance now).reached (s.deadline ch u.idx u.band) = true → ∃ t v, exec (.codingDeadline ch r a now) s = .next t ∧ v ∈ t.units ∧ v.same u = true ∧
      v.staged = true ∧ v.complete = true ∧ (u.left = 0 → v.committed = u.committed ∧ v.lateN = 0 ∧ v.rep = u.rep))) ∧
  (∀ (i : TrayId) (a : Nat) (s : State), s.flag (R.TRAY_CTRL_CACHE_EN i) = true →
    let l := tget (fun _ => []) s.trayLines i
    let t := s.trayRead i a
    (a / 256 ∈ l → t.get (R.TRAY_CNT_COUNT i 0) = (s.get (R.TRAY_CNT_COUNT i 0) + 1) % 2 ^ 64 ∧ t.trayLines = s.trayLines) ∧
    (a / 256 ∉ l → t.get (R.TRAY_CNT_COUNT i 1) = (s.get (R.TRAY_CNT_COUNT i 1) + 1) % 2 ^ 64 ∧ a / 256 ∈ tget (fun _ => []) t.trayLines i ∧
      (l.length ≤ 8192 → (tget (fun _ => []) t.trayLines i).length ≤ 8192))) ∧
  (∀ (i : TrayId) (now : Nat) (s : State), s.live = true →
    (∃ t, exec (.trayInvalidate i) s = .next t ∧ tget (fun _ => []) t.trayLines i = [] ∧ ∀ j, j ≠ i.val → tget (fun _ => []) t.trayLines j = tget (fun _ => []) s.trayLines j) ∧
    ∃ u : State, exec (.refCacheEcc i now) s = .next (u.report (390 + i) (suspect kTray i)) ∧
      u.get (R.TRAY_CNT_COUNT i 2) = (s.get (R.TRAY_CNT_COUNT i 2) + 1) % 2 ^ 64)

/-- ENGINE_SRAM_ECC, and ENGINE_TIMEOUT beyond four times the worst-case time, on an engine with a task note the cause, end the task so that the
engine is busy with none, and report source 134 + 2e with the engine as suspect; a proof ends so too, and waits for another engine; without a task or
a proof the first only reports and the second does nothing. ENGINE_ISOLATE of an idle engine leaves it ISOLATED, in its tray too; ENGINE_RESTORE
returns it to IDLE unless an unacknowledged record names it. PROOF_END of a first proof that gives the coder's CRC counts it proved and drops it;
another CRC keeps it for a second engine, counted. At the end of a second proof, the coder's CRC blames the first prover, the first prover's CRC
blames the coder, and a third CRC blames both (counted for the engine, source 135 + 2e); the proof is over. PROOF_AGE_EXPIRY drops the first proof
that waited PROOF_AGE frame periods without an engine: counted, or the coder is blamed if one proof had failed. (R290, R324, R341, R342, R343, R344,
R345, R346) -/
def Obligations.EnginesAndProofs : Prop :=
  (∀ (e : Eng) (now : Nat) (s : State), s.live = true →
    let b := tget (fun _ => 0) s.busy e
    (b = 0 → s.proofs.find? (fun q => decide (q.runner = some e.val)) = none →
      exec (.engineSramEcc e now) s = .next ((s.advance now).report (134 + 2 * e) (suspect kEngine e)) ∧
      exec (.engineTimeout e now) s = .next (s.advance now)) ∧
    (∀ p, b = 0 → s.proofs.find? (fun q => decide (q.runner = some e.val)) = some p → ∃ u : State, { p with runner := none } ∈ u.proofs ∧
      u.get (R.ENG_LAST_ERR_CODE e) = 5 ∧ exec (.engineSramEcc e now) s = .next (u.report (134 + 2 * e) (suspect kEngine e))) ∧
    (∀ p a n, b = 0 → s.proofs.find? (fun q => decide (q.runner = some e.val)) = some p → s.worstNs e = some (a, n) → a + 4 * n < max s.raw now →
      ∃ u : State, { p with runner := none } ∈ u.proofs ∧ u.get (R.ENG_LAST_ERR_CODE e) = 6 ∧
        exec (.engineTimeout e now) s = .next (u.report (134 + 2 * e) (suspect kEngine e))) ∧
    (b ≠ 0 → (s.task (b - 1)).unit = e →
      (∃ u : State, exec (.engineSramEcc e now) s = .next ((u.breakTask e 4).report (134 + 2 * e) (suspect kEngine e)) ∧ u.get (R.ENG_LAST_ERR_CODE e) = 5 ∧
        u.flag (R.ENG_LAST_ERR_VALID e) = true ∧ tget (fun _ => 0) (u.breakTask e 4).busy e = 0) ∧
      (∀ a n, s.worstNs e = some (a, n) → max s.raw now ≤ a + 4 * n → exec (.engineTimeout e now) s = .next (s.advance now)) ∧
      (∀ a n, s.worstNs e = some (a, n) → a + 4 * n < max s.raw now → ∃ u : State,
        exec (.engineTimeout e now) s = .next ((u.breakTask e 4).report (134 + 2 * e) (suspect kEngine e)) ∧ u.get (R.ENG_LAST_ERR_CODE e) = 6 ∧
        u.flag (R.ENG_LAST_ERR_VALID e) = true ∧ tget (fun _ => 0) (u.breakTask e 4).busy e = 0)) ∧
    (b = 0 → (∃ t, exec (.engineIsolate e) s = .next t ∧ t.get (R.ENG_STATUS_STATE e) = 5 ∧
        (t.get (R.TRAY_STATUS_ISOLATED (e / 8))).testBit (e % 8) = true)) ∧
    (s.get (R.ENG_STATUS_STATE e) = 5 →
      ((∀ r ∈ s.unacked, r.suspect ≠ suspect kEngine e) → ∃ t, exec (.engineRestore e) s = .next t ∧ t.get (R.ENG_STATUS_STATE e) = 0 ∧
        (t.get (R.TRAY_STATUS_ISOLATED (e / 8))).testBit (e % 8) = false) ∧
      ((∃ r ∈ s.unacked, r.suspect = suspect kEngine e) → exec (.engineRestore e) s = .next s))) ∧
  (∀ (e : Eng) (crc : Word) (p : Proof) (now : Nat) (s : State), s.live = true → s.proofs.find? (fun q => decide (q.runner = some e.val)) = some p →
    p.ch < 256 → p.rend < 8 →
    (p.first = none → crc = p.crc → ∃ t, exec (.proofEnd e crc [] now) s = .next t ∧ (∀ q ∈ t.proofs, q.same p = false) ∧
      t.get (R.ENC_CNT_COUNT p.ch 0) = (s.get (R.ENC_CNT_COUNT p.ch 0) + 1) % 2 ^ 64) ∧
    (p.first = none → crc ≠ p.crc → ∃ t, exec (.proofEnd e crc [] now) s = .next t ∧ { p with runner := none, first := some (e.val, crc) } ∈ t.proofs ∧
      t.get (R.ENC_CNT_COUNT p.ch 2) = (s.get (R.ENC_CNT_COUNT p.ch 2) + 1) % 2 ^ 64) ∧
    (∀ e1 c1, p.first = some (e1, c1) → ∃ u : State, (∀ q ∈ u.proofs, q.same p = false) ∧ u.units = s.units ∧
      exec (.proofEnd e crc [] now) s = .next (if crc = p.crc then u.blameEngine e1 else if crc = c1 then u.blameEngine p.coder
        else (u.blameEngine e1).blameEngine p.coder))) ∧
  (∀ (e : Eng) (s : State), ∃ u : State, s.blameEngine e = u.report (135 + 2 * e) (suspect kEngine e) ∧
    u.get (R.ENG_CNT_COUNT e 7) = (s.get (R.ENG_CNT_COUNT e 7) + 1) % 2 ^ 64 ∧ u.proofs = s.proofs) ∧
  (∀ (p : Proof) (now : Nat) (s : State), s.live = true → p.ch < 256 → p.rend < 8 → s.proofs.find? (fun q => q.runner.isNone &&
      decide ((q.emitted : Int) * 2 ^ 32 + s.getIn (R.CTX_QUALITY_PROOF_AGE q.ch) q.snap * s.period q.ch ≤ (max s.raw now : Nat) * 2 ^ 32)) = some p →
    ∃ u : State, (∀ q ∈ u.proofs, q.same p = false) ∧ u.get (R.ENC_CNT_COUNT p.ch 1) = s.get (R.ENC_CNT_COUNT p.ch 1) ∧
      exec (.proofAgeExpiry now) s = .next (if p.first.isSome = true then u.blameEngine p.coder else u.inc (R.ENC_CNT_COUNT p.ch 1)))

/-! ### Decoding and audio -/

/-- DECODE_OUTPUT_FRAME of a running decode channel before T_frame of its next output frame n changes nothing but the time. At it, with no access unit
in the ring: where some decoded picture is due (T_pres + D at or before T_frame(n)) and p, the one of latest T_pres, is ready (its last part ended in
a CLK_FAB cycle before that of T_frame(n)), p is shown, the due ones leave, the others stay, and FRAMES, SHOWN and DROPPED count the frame, p and the
other due ones; where none is due, or the one of latest T_pres is not ready, nothing leaves and the frame repeats the picture shown last, counted as
repeated, or as grey if none was shown. Either way frame n + 1 is next. AU_TIMEOUT of a running channel closes an open access unit that has had no
packet for TIMEOUT_US, and counts it. DEC_HOST_ACK ends the host's hold of the buffer it names and of no other, and a buffer that nothing else holds
is free. (R394, R400, R401, R405, R406, R409) -/
def Obligations.DecodeChannels : Prop :=
  (∀ (ch : Chan) (now : Nat) (s : State), s.live = true → s.running ch = true → s.flag (R.DEC_CFG_ENABLE ch) = true →
    let d := s.decOf ch
    let time := s.tFrame ch d.outN
    let due := fun (p : Pic) => p.pres + ns (s.delayNs ch) ≤ time
    let w := s.advance now
    let ready := fun (p : Pic) => fabCycle p.endedAt < fabCycle ((w.raw : Int) - (w.now - time / 2 ^ 32)).toNat
    let counts := fun (t : State) (i n : Nat) => t.get (R.DEC_CNT_COUNT ch i) = (s.get (R.DEC_CNT_COUNT ch i) + n) % 2 ^ 64
    ((s.advance now).reached time = false → exec (.decodeOutputFrame ch now) s = .next (s.advance now)) ∧
    ((s.advance now).reached time = true → d.aus = [] →
      (∀ p ∈ d.pics, due p → ready p → (∀ x ∈ d.pics, due x → x ≠ p → x.pres < p.pres) →
        ∃ t, exec (.decodeOutputFrame ch now) s = .next t ∧ (t.decOf ch).shown = some p ∧ (t.decOf ch).outN = d.outN + 1 ∧
          (∀ x, x ∈ (t.decOf ch).pics ↔ x ∈ d.pics ∧ ¬due x) ∧ counts t 10 1 ∧ counts t 11 1 ∧
          counts t 9 (d.pics.filter (fun x => decide (due x) && decide (x ≠ p))).length) ∧
      ((∀ x ∈ d.pics, ¬due x) ∨ (∃ p ∈ d.pics, due p ∧ ¬ready p ∧ ∀ x ∈ d.pics, due x → x ≠ p → x.pres < p.pres) → ∃ t, exec (.decodeOutputFrame ch now) s = .next t ∧ (t.decOf ch).shown = d.shown ∧ (t.decOf ch).outN = d.outN + 1 ∧
          (t.decOf ch).pics = d.pics ∧ counts t 10 1 ∧ counts t (if d.shown.isSome = true then 12 else 13) 1))) ∧
  (∀ (ch : Chan) (u : Au) (now : Nat) (s : State), s.live = true → s.running ch = true → (s.decOf ch).aus.getLast? = some u → u.closed = none →
    u.lastPkt + 1000 * s.get (R.DEC_AU_TIMEOUT_US ch) ≤ max s.raw now →
    ∃ t, exec (.auTimeout ch now) s = .next t ∧ (t.decOf ch).aus = (s.decOf ch).aus.dropLast ++ [{ u with closed := some (s.advance now).now, timeout := true }] ∧
      t.get (R.DEC_CNT_COUNT ch 5) = (s.get (R.DEC_CNT_COUNT ch 5) + 1) % 2 ^ 64) ∧
  (∀ (ch : Chan) (ix : BitVec 6) (s : State), s.up = true → s.halted = false → ∃ t, exec (.decHostAck ch ix) s = .next t ∧
    (∀ b ∈ (t.decOf ch).bufs, b.ix = ix.toNat → b.host = false) ∧
    (∀ b ∈ (s.decOf ch).bufs, b.ix ≠ ix.toNat → b.host = true → b ∈ (t.decOf ch).bufs) ∧
    ((∀ b ∈ (s.decOf ch).bufs, b.ix = ix.toNat → b.ref = false ∧ b.done = true ∧ b.trans = false) → (s.decOf ch).shown.map (·.buf) ≠ some ix.toNat →
      ∀ b ∈ (t.decOf ch).bufs, b.ix ≠ ix.toNat))

/-- A write of sample N, channel c, to a buffer in use is LATE before the read position, OVERRUN at DEPTH or more after it, COLLIDED where the sample
is valid, else WRITTEN, valid, and reads back as its 24 bits in every packing. MEDIA_SAMPLE_PERIOD with no port running reads, in a buffer of its rate
whose position has moved to R ≥ 0, every live channel once: READ rises by their number, REPEATED by that of those not valid, whose last value stays,
and a valid one's sample is delivered. TDM_PIN_FRAME of a running port with nothing waiting sends the oldest transmit frame bit by bit from the bit
time that DELAY gives, MSB first, masked slots 0 or in high impedance, with FS high in the first bit time, or while slot 1 lasts in I²S, and appends
the received one, sampled at the edge BCLK_INV chooses, while fewer than 8 wait; its frames are counted. AUD_PORT_MASK_WRITE shows the mask, which
applies at a frame boundary of a later CLK_FAB cycle and, where none waited, not at one of its own. AUD_START_ARM claims a free generator, and is
refused for one owned. PORT_NO_CLOCK of a follower without FS for two frames sets NO_CLOCK and reports source 407. VCXO_LOOP_RUN leaves DUTY within
its limits by R431's arithmetic. (R416, R417, R418, R422, R423, R425, R426, R428, R431, R432, R433, R438) -/
def Obligations.AudioBuffersAndPorts : Prop :=
  (∀ (s : State) (b c v : Nat) (n : Int), b < 512 → s.sbOn b = true → c < s.get (R.AUD_SB_CFG_CHANNELS b) → v < 2 ^ 24 → 0 ≤ s.readPos b →
    let t := s.writeSample b n c v
    let r := s.readPos b
    let valid := bitAt (tget (fun _ => 0) (s.sb b).valid n.toNat) c
    let i := if n < r then 1 else if r + s.get (R.AUD_SB_CFG_DEPTH b) ≤ n then 2 else if valid = true then 3 else 0
    (∀ j < 6, t.get (R.AUD_SB_CNT_COUNT b j) = (s.get (R.AUD_SB_CNT_COUNT b j) + if j = i then 1 else 0) % 2 ^ 64) ∧
    (i ≠ 0 → t.mem = s.mem) ∧ (i = 0 → t.sampleAt b n.toNat c = v ∧ bitAt (tget (fun _ => 0) (t.sb b).valid n.toNat) c = true)) ∧
  (∀ (r96 : Bool) (now : Nat) (s : State), s.live = true → s.flag R.AUD_CTRL_ENABLE = true → (∀ p < 8, s.flag (R.AUD_PORT_STATUS_RUNNING p) = false) →
    ∃ t u : State, exec (.mediaSamplePeriod r96 now) s = .next t ∧
      (∃ f i : List Nat, t = i.foldl (fun s k => s.audioStream k) (f.foldl (fun s k => s.audioFlow k) u)) ∧
      ∀ b < 512, s.sbOn b = true → s.flag (R.AUD_SB_CFG_RATE96 b) = r96 → (s.sb b).lastR ≠ some ((s.advance now).readPos b) → 0 ≤ (s.advance now).readPos b →
        (∀ q ∈ (s.sb b).valid, (s.advance now).readPos b ≤ q.1) →
        let r := (s.advance now).readPos b
        let live := (List.range 64).filter (fun c => bitAt (s.liveMask b) c)
        let has := fun c => bitAt (tget (fun _ => 0) (s.sb b).valid r.toNat) c
        (u.sb b).lastR = some r ∧ u.get (R.AUD_SB_CNT_COUNT b 4) = (s.get (R.AUD_SB_CNT_COUNT b 4) + live.length) % 2 ^ 64 ∧
        u.get (R.AUD_SB_CNT_COUNT b 5) = (s.get (R.AUD_SB_CNT_COUNT b 5) + (live.filter (fun c => !has c)).length) % 2 ^ 64 ∧
        ∀ c ∈ live, tget (fun _ => 0) (u.sb b).last c = if has c = true then s.sampleAt b r.toNat c else tget (fun _ => 0) (s.sb b).last c) ∧
  (∀ (p : Fin 8) (din : List PinBit) (now : Nat) (s : State), s.live = true → s.flag (R.AUD_PORT_STATUS_RUNNING p) = true → s.flag R.AUD_CTRL_ENABLE = true →
    s.flag (R.AUD_PORT_CFG_ENABLE p) = true →
    let x := s.tdm p
    x.startAt = none → x.pendRx = false → x.pendTx = false → x.rx.length < 8 → ∀ f rest, x.tx = f :: rest →
    let d := s.get (R.AUD_PORT_CFG_DELAY p)
    let inverted := s.flag (R.AUD_PORT_CFG_BCLK_INV p)
    ∃ t q w, exec (.tdmPinFrame p din now) s = .next t ∧ (t.tdm p).tx = rest ∧ (t.tdm p).rx = x.rx ++ [q] ∧ q.length = s.slots p ∧
      (∀ i < s.slots p, q.getD i 0 < 2 ^ 24 ∧ ∀ j < 24, (q.getD i 0).testBit (23 - j) =
        if inverted = true then (din.getD (32 * i + d + j) {}).falling else (din.getD (32 * i + d + j) {}).rising) ∧
      t.out = .tdm p w :: s.out ∧ w.length = 32 * s.slots p ∧
      (∀ i < s.slots p, ∀ j < 32, 32 * i + d + j < 32 * s.slots p → ∃ y, w[32 * i + d + j]? = some y ∧
        y.dout = if (s.slotOf x.maskTx x.mapTx i).isSome = true then some (decide (j < 24) && (f.getD i 0).testBit (23 - j))
          else if s.flag (R.AUD_PORT_CFG_TX_HIZ p) = true then none else some false) ∧
      (∀ y ∈ w, y.launchRising = inverted) ∧
      (∀ i < 32 * s.slots p, (w[i]?).bind (·.fs) = if s.flag (R.AUD_PORT_CFG_CLK_OUT p) = true then
        some (if s.flag (R.AUD_PORT_CFG_I2S p) = true then decide (32 ≤ i) else decide (i = 0)) else none) ∧
      (∀ j < 6, t.get (R.AUD_PORT_CNT_COUNT p j) = (s.get (R.AUD_PORT_CNT_COUNT p j) + if j < 2 then 1 else 0) % 2 ^ 64)) ∧
  (∀ (p : Fin 8) (tx : Bool) (m : BitVec 32) (s : State), s.up = true → s.halted = false → ∃ t, exec (.audPortMaskWrite p tx m) s = .next t ∧
    t.get (R.AUD_PORT_MASK_MASK p (if tx = true then 1 else 0)) = m.toNat ∧ (if tx = true then (t.tdm p).pendTx else (t.tdm p).pendRx) = true ∧
    (t.tdm p).maskTx = (s.tdm p).maskTx ∧ (t.tdm p).maskRx = (s.tdm p).maskRx ∧ (t.frameBoundary p).mem = s.mem ∧
    (∀ r, fabCycle s.raw < fabCycle r → let u := ({ t with raw := r } : State).frameBoundary p
      (if tx = true then (u.tdm p).maskTx else (u.tdm p).maskRx) = m.toNat) ∧
    ((if tx = true then (s.tdm p).pendTx else (s.tdm p).pendRx) = false →
      (if tx = true then ((t.frameBoundary p).tdm p).maskTx = (s.tdm p).maskTx else ((t.frameBoundary p).tdm p).maskRx = (s.tdm p).maskRx))) ∧
  (∀ (set : BitVec 8) (pg : BitVec 3) (s : State), s.up = true → s.halted = false → s.flag R.AUD_START_ARM = false →
    (s.pgOwner pg.toNat = none → ∃ t, exec (.audStartArm set pg) s = .next t ∧ t.flag R.AUD_START_ARM = true ∧ t.get R.AUD_START_STATE = 1 ∧
      t.get R.AUD_START_SET = set.toNat ∧ t.get R.AUD_START_PG = pg.toNat ∧ t.get (R.TB_PG_STATUS_STATE pg.toNat) = 1) ∧
    (∀ o, s.pgOwner pg.toNat = some o → ∃ u : State, exec (.audStartArm set pg) s = .next (u.refuse K.AUD_START claimPg o) ∧ u.flag R.AUD_START_ARM = false ∧
      u.get R.AUD_START_STATE = 2)) ∧
  (∀ (p : Fin 8) (now : Nat) (s : State), s.live = true → s.flag (R.AUD_PORT_STATUS_RUNNING p) = true → s.flag (R.AUD_PORT_CFG_CLK_OUT p) = false →
    s.flag (R.AUD_PORT_STATUS_NO_CLOCK p) = false →
    (s.tdm p).lastFs * rateOf (s.flag (R.AUD_PORT_CFG_RATE96 p)) + 2000000000 ≤ max s.raw now * rateOf (s.flag (R.AUD_PORT_CFG_RATE96 p)) →
    ∃ u : State, exec (.portNoClock p now) s = .next (u.report 407 0 (BitVec.ofNat 64 p)) ∧ u.flag (R.AUD_PORT_STATUS_NO_CLOCK p) = true) ∧
  (∀ (sub : BitVec 8) (now : Nat) (s : State), s.live = true → s.flag R.AUD_VCXO_CFG_ENABLE = true → (s.advance now).now / 1000000 ≠ s.vcxo.lastMs →
    s.flag R.AUD_VCXO_STATUS_LOCKED = false → s.vcxo.limit < 999 → s.get R.AUD_VCXO_GAIN_DUTY_MIN ≤ s.get R.AUD_VCXO_GAIN_DUTY_MAX →
    let x := s.tdm (s.get R.AUD_VCXO_CFG_REF_PORT)
    let e : Int := if s.flag R.AUD_VCXO_CFG_REF_TX = true then (x.tx.length * 256 + sub.toNat : Nat) - 1024 else 1024 - (x.rx.length * 256 + sub.toNat : Nat)
    let acc := min (max (s.vcxo.acc + s.get R.AUD_VCXO_GAIN_KI * e) (-(2 ^ 31))) (2 ^ 31 - 1)
    let u : Int := s.get R.AUD_VCXO_CFG_CENTRE + Int.tdiv (s.get R.AUD_VCXO_GAIN_KP * e + acc) 65536
    ∃ t, exec (.vcxoLoopRun sub now) s = .next t ∧ t.vcxo.acc = acc ∧
      (t.get R.AUD_VCXO_STATUS_DUTY : Int) = min (max u (s.get R.AUD_VCXO_GAIN_DUTY_MIN)) (s.get R.AUD_VCXO_GAIN_DUTY_MAX) ∧
      (t.flag R.AUD_VCXO_STATUS_LOCKED = true ↔ e.natAbs ≤ s.get R.AUD_VCXO_CFG_LOCK_TOL ∧ 63 ≤ s.vcxo.good))

/-! ### Egress and transport -/

namespace Sys2Proof.Spec

/-- Packets of path A or B of a flow that are accounted for: sent, lost to a port that is down, discarded (R487). -/
def accounted (s : State) (f path : Nat) : Nat :=
  s.get (R.EGR_FLOW_CNT_COUNT f (2 + path)) + s.get (R.EGR_FLOW_CNT_COUNT f (4 + path)) + s.get (R.EGR_FLOW_CNT_COUNT f (6 + path))

/-- What the release command of a rendition's mode answers for its next unit `u`, not overdue, with nothing of a peer staged: before the release time
nothing; at it, the unit leaves if it is assembled, and its bits leave the buffer model's fullness, else it is overdue. -/
def leaves (ch : Chan) (r : Rend) (u : UnitSt) (now : Nat) (s : State) (o : Host.Outcome State Fault Refusal) : Prop :=
  ((s.advance now).reached (s.unitRelease u) = false → o = .next (s.advance now)) ∧
  ((s.advance now).reached (s.unitRelease u) = true → u.staged = true → ∃ t h, o = .next t ∧ (∀ v ∈ t.units, v.same u = false) ∧
    Output.unit ch r u.idx u.band h ∈ t.out ∧ (t.rend ch r).lastRel = some (s.unitRelease u) ∧ (t.rend ch r).units = (s.rend ch r).units + 1 ∧
    (t.rend ch r).f = (s.rend ch r).lastRel.elim (s.rend ch r).f (fun l => s.cpbFill ch r (s.rend ch r).f (s.unitRelease u - l)) - (u.committed + u.filler) * 65536) ∧
  ((s.advance now).reached (s.unitRelease u) = true → u.staged = false → ∃ t, o = .next t ∧ { u with overdue := true } ∈ t.units ∧
    t.units.length = s.units.length ∧ t.regs = s.regs)

end Sys2Proof.Spec

/-- Sending a unit adds as much to BUILT as to PACKETS + LINK_DOWN + QUEUE_DROP of path A, and of path B where DUAL is 1. EGRESS_FRAME_START of an
enabled, idle port with its link up and gates disabled starts the head of the first queue of SP0 to SP3 that is not empty, unless R450 holds it, and
counts it; EGRESS_FRAME_DONE at the frame's end frees the port and sends the frame, with a time-stamp exactly from SP0; before it nothing changes.
GATE_CHANGE with nothing pending and LENGTH not 0 sets PENDING and CHANGE_TIME to the first base + n × cycle at least 2000 ns ahead; with one pending
or LENGTH 0 it does nothing. GATE_LIST_ACTIVATE at the change time swaps the lists, from entry 0, PENDING 0; before it nothing. GATE_ENTRY_ADVANCE
keeps the entry in force. EGR_IND_SEL snapshots the flow's counters. SRTP_LOAD of a slot with no users and a suite makes it VALID; SRTP_SLOT_WRITE of
a slot that is not VALID to an enabled flow is discarded, of a VALID one taken. The releases of units, datagrams, ancillary and video packets complete
when due and are counted (RELEASED, RELEASE_LATE, PCR); a splice section whose release time lies ahead is sent again. (R470, R471, R472, R475, R476,
R480, R482, R487, R489, R506) -/
def Obligations.EgressScheduling : Prop :=
  (∀ (s : State) (f : FlowId) (l : List TxFrame),
    let t := s.sendUnit f l
    (t.get (R.EGR_FLOW_CNT_COUNT f 1) + Sys2Proof.Spec.accounted s f 0) % 2 ^ 64 = (s.get (R.EGR_FLOW_CNT_COUNT f 1) + Sys2Proof.Spec.accounted t f 0) % 2 ^ 64 ∧
    (s.flag (R.EGR_FLOW_CTRL_DUAL f) = true →
      (t.get (R.EGR_FLOW_CNT_COUNT f 1) + Sys2Proof.Spec.accounted s f 1) % 2 ^ 64 = (s.get (R.EGR_FLOW_CNT_COUNT f 1) + Sys2Proof.Spec.accounted t f 1) % 2 ^ 64)) ∧
  (∀ (p : MPort) (now q : Nat) (f : TxFrame) (rest : List TxFrame) (s : State), s.live = true → s.flag R.EGR_CTRL_ENABLE = true →
    s.flag (R.MAC_STATUS_LINK_UP p) = true → (s.txPort p).cur = none → s.flag (R.EGR_GATE_CTRL_ENABLE p) = false → q < 4 →
    (∀ j < q, (s.txPort p).spq j = []) → (s.txPort p).spq q = f :: rest → (s.advance now).heldForSp1 p q f.len = false →
    ∃ t, exec (.egressFrameStart p now) s = .next t ∧ (t.txPort p).cur = some (q, f, max s.raw now + s.wireNs p f.len) ∧ (t.txPort p).spq q = rest ∧
      t.get (R.EGR_PORT_CNT_COUNT p q) = (s.get (R.EGR_PORT_CNT_COUNT p q) + 1) % 2 ^ 64) ∧
  (∀ (p : MPort) (now q e : Nat) (f : TxFrame) (s : State), s.live = true → (s.txPort p).cur = some (q, f, e) →
    (e ≤ max s.raw now → ∃ t st, exec (.egressFrameDone p now) s = .next t ∧ (t.txPort p).cur = none ∧ t.out = .txFrame p q f st :: s.out ∧
      (st.isSome = true ↔ q = 0)) ∧
    (max s.raw now < e → exec (.egressFrameDone p now) s = .next (s.advance now))) ∧
  (∀ (p : MPort) (now : Nat) (s : State), s.live = true →
    let l := (s.advance now).now
    let due := fun (n : Nat) => (s.get (R.EGR_GATE_BASE_NS p) + n * s.get (R.EGR_GATE_CYCLE_NS p) : Nat)
    (s.flag (R.EGR_GATE_CTRL_PENDING p) = false → s.get (R.EGR_GATE_CTRL_LENGTH p) ≠ 0 → 0 < s.get (R.EGR_GATE_CYCLE_NS p) →
      ∃ t n, exec (.gateChange p now) s = .next t ∧ t.flag (R.EGR_GATE_CTRL_PENDING p) = true ∧ t.get (R.EGR_GATE_CHANGE_TIME_NS p) = due n % 2 ^ 64 ∧
        l + 2000 ≤ due n ∧ ∀ m < n, (due m : Int) < l + 2000) ∧
    (s.flag (R.EGR_GATE_CTRL_PENDING p) = true ∨ s.get (R.EGR_GATE_CTRL_LENGTH p) = 0 → exec (.gateChange p now) s = .next (s.advance now)) ∧
    (s.flag (R.EGR_GATE_CTRL_PENDING p) = true → s.get (R.EGR_GATE_CHANGE_TIME_NS p) ≤ l → ∃ t, exec (.gateListActivate p now) s = .next t ∧
      t.flag (R.EGR_GATE_CTRL_PENDING p) = false ∧ t.get (R.EGR_GATE_CTRL_OPER_LIST p) = 1 - s.get (R.EGR_GATE_CTRL_OPER_LIST p) ∧
      (t.txPort p).entry = 0 ∧ (t.txPort p).operLen = s.get (R.EGR_GATE_CTRL_LENGTH p) ∧ (t.txPort p).operAt = some (s.get (R.EGR_GATE_CHANGE_TIME_NS p) : Int)) ∧
    (s.flag (R.EGR_GATE_CTRL_PENDING p) = false ∨ l < s.get (R.EGR_GATE_CHANGE_TIME_NS p) → exec (.gateListActivate p now) s = .next (s.advance now)) ∧
    (s.gatesOn p = true → ∃ t, exec (.gateEntryAdvance p now) s = .next t ∧ (t.txPort p).entry = (segAt (s.gateSegs p) 0 (s.gateOffset p l)).1 ∧
      t.regs = s.regs)) ∧
  (∀ (w : Fin 4) (f : FlowId) (k : Fin 512) (s : State), s.up = true → s.halted = false →
    (∃ t, exec (.egrIndSel w f) s = .next t ∧ t.get (R.EGR_IND_SEL_FLOW w) = f ∧ ∀ i < 10, t.get (R.EGR_WIN_CNT_SNAPSHOT w i) = s.get (R.EGR_FLOW_CNT_COUNT f i)) ∧
    (s.get (R.MUX_SRTP_CFG_USERS k) = 0 → s.get (R.MUX_SRTP_CFG_SUITE k) = 1 ∨ s.get (R.MUX_SRTP_CFG_SUITE k) = 2 →
      ∃ t, exec (.srtpLoad k) s = .next t ∧ t.flag (R.MUX_SRTP_CFG_VALID k) = true) ∧
    (s.flag (R.EGR_FLOW_CTRL_ENABLE f) = true → s.flag (R.MUX_SRTP_CFG_VALID k) = false → exec (.srtpSlotWrite f k) s = .next s) ∧
    (s.flag (R.EGR_FLOW_CTRL_ENABLE f) = false ∨ s.flag (R.MUX_SRTP_CFG_VALID k) = true → ∃ t, exec (.srtpSlotWrite f k) s = .next t ∧
      t.get (R.EGR_FLOW_CTRL_SRTP_SLOT f) = k)) ∧
  (∀ (ch : Chan) (r : Rend) (n : UnitNals) (u : UnitSt) (now : Nat) (s : State), s.live = true → (s.unitsOf ch r).head? = some u → u.staged = true →
    let counted := fun (t : State) (f : Field) => t.get f = (s.get f + 1) % 2 ^ 64
    (u.overdue = false → s.staged = [] → (s.advance now).reached (s.unitRelease u) = true →
      (s.subframe ch = true → ∃ t, exec (.sliceRelease ch r n now) s = .next t ∧ counted t R.RC_CNT_RELEASED_COUNT) ∧
      (s.subframe ch = false → ∃ t, exec (.pictureRelease ch r n now) s = .next t ∧ counted t R.RC_CNT_RELEASED_COUNT)) ∧
    (u.overdue = true → ∃ t, exec (.lateRelease ch r n now) s = .next t ∧ counted t R.RC_CNT_RELEASED_COUNT ∧ counted t R.RC_CNT_RELEASE_LATE_COUNT)) ∧
  (∀ (ch : Chan) (now : Nat) (s : State), s.live = true →
    (∀ e, (s.chan ch).sctes.find? (fun e => decide (e.sentAt + 1000000000 ≤ max s.raw now)) = some e →
      (s.advance now).now * 2 ^ 32 < (s.advance now).releaseTime ch ((s.advance now).frameOfSnap ch e.snap) 0 →
      ∃ t, exec (.scte35Resend ch now) s = .next t ∧ { e with sentAt := max s.raw now } ∈ (t.chan ch).sctes) ∧
    (s.staged = [] → s.running ch = true → s.flag R.MUX_CTRL_ENABLE = true → (s.advance now).reached (s.tFrame ch (s.chan ch).ancN + ns (s.delayNs ch)) = true →
      (s.chan ch).ancN < (s.chan ch).handed + (s.chan ch).first → ∃ t, exec (.ancPacketRelease ch now) s = .next t ∧ t.mem = s.mem)) ∧
  (∀ (i : Fin 2048) (now : Nat) (s : State), s.live = true → s.staged = [] → s.tsOn i = true → (s.str i).t0.isSome = true →
    s.get (R.MUX_STR_RATE_TS_RATE_KBPS i) ≠ 0 → s.cadence i (s.str i) ≤ max s.raw now * 2 ^ 32 → (s.str i).pcrAt = none →
    ∃ t, exec (.tsDatagramRelease i now) s = .next t ∧ t.get (R.MUX_CNT_COUNT 3) = (s.get (R.MUX_CNT_COUNT 3) + 1) % 2 ^ 64) ∧
  (∀ (f : FlowId) (per bytes now n : Nat) (buf : Option Nat) (s : State), s.live = true → (s.flowTx f).vid = some (n, buf) → s.flag (R.EGR_FLOW_CTRL_ENABLE f) = true →
    s.egKind f = 4 → (s.flowTx f).vidI < per → bytes ≤ s.get (R.EGR_FLOW_SRC_MAX_PAYLOAD f) →
    (s.advance now).reached (s.tFrame (s.get (R.EGR_FLOW_SRC_STREAM f) / 8) n + ((s.flowTx f).vidI * s.period (s.get (R.EGR_FLOW_SRC_STREAM f) / 8) / per : Nat)) = true →
    ∃ t, exec (.videoPacketPacing f per bytes now) s = .next t ∧ (t.flowTx f).vidPer = per)

/-- SLICE_RELEASE in sub-frame mode and PICTURE_RELEASE in frame mode, no peer's unit being staged, for a rendition's next unit not yet overdue:
before its release time nothing changes; at it, an assembled unit leaves and its bits and filler leave the buffer model's fullness, one not assembled
becomes overdue. LATE_RELEASE of an overdue unit that is assembled releases it, counts it, and reports source 406 with the channel. SKIP_UNIT_EMIT for
an enabled, gated coded-video flow at a release time for which nothing was emitted (of a transport stream, no datagram since two of its intervals
before, log 34) counts SKIP_EMITTED and makes it the latest release. TS_DATAGRAM_RELEASE at datagram j's cadence time moves on to j + 1; a datagram's
filling adds exactly its number of packets. SCTE35_RESEND of a target whose release time has come removes it. ANC_PACKET_RELEASE at its time moves on
to the next frame. VIDEO_PACKET_PACING at its time moves on to the next packet, or ends the frame at the last. (R26, R36, R357, R385, R449, R456,
R462, R463, R465, R467, R485) -/
def Obligations.TransportReleases : Prop :=
  (∀ (ch : Chan) (r : Rend) (n : UnitNals) (u : UnitSt) (now : Nat) (s : State), s.live = true → s.staged = [] → (s.unitsOf ch r).head? = some u → u.overdue = false →
    (s.subframe ch = true → Sys2Proof.Spec.leaves ch r u now s (exec (.sliceRelease ch r n now) s)) ∧
    (s.subframe ch = false → Sys2Proof.Spec.leaves ch r u now s (exec (.pictureRelease ch r n now) s))) ∧
  (∀ (ch : Chan) (r : Rend) (n : UnitNals) (u : UnitSt) (now : Nat) (s : State), s.live = true → (s.unitsOf ch r).head? = some u → u.overdue = true → u.staged = true →
    ∃ t w : State, exec (.lateRelease ch r n now) s = .next t ∧ t = w.report 406 kNone (BitVec.ofNat 64 ch) ∧ (∀ v ∈ w.units, v.same u = false) ∧
      w.get R.RC_CNT_RELEASE_LATE_COUNT = (s.get R.RC_CNT_RELEASE_LATE_COUNT + 1) % 2 ^ 64 ∧
      w.flag R.RC_STATUS_VALID = true ∧ (s.flag R.RC_STATUS_VALID = false → w.get R.RC_STATUS_LATE_CHANNEL = ch)) ∧
  (∀ (f : FlowId) (n k : Nat) (m : UnitNals) (now : Nat) (s : State), s.live = true → s.staged = [] → s.flag (R.EGR_FLOW_CTRL_ENABLE f) = true →
    s.flag (R.EGR_FLOW_CTRL_GATED f) = true → s.egKind f ≤ 3 →
    let time := s.releaseTime (s.get (R.EGR_FLOW_SRC_STREAM f) / 8) n k
    let gap : Int := if s.egKind f ≤ 1 then 1 else (2 * s.dgramTime (s.get (R.EGR_FLOW_SRC_STREAM f)) : Nat)
    (s.advance now).reached time = true → (∀ l, (s.flowTx f).lastRel = some l → l + gap ≤ time) →
    ∃ t, exec (.skipUnitEmit f n k m now) s = .next t ∧ (t.flowTx f).lastRel = some time ∧
      t.get (R.EGR_FLOW_CNT_COUNT f 9) = (s.get (R.EGR_FLOW_CNT_COUNT f 9) + 1) % 2 ^ 64) ∧
  (∀ (i : Fin 2048) (now : Nat) (s : State), s.live = true → s.tsOn i = true → (s.str i).t0.isSome = true → s.get (R.MUX_STR_RATE_TS_RATE_KBPS i) ≠ 0 →
    (max s.raw now * 2 ^ 32 < s.cadence i (s.str i) → exec (.tsDatagramRelease i now) s = .next (s.advance now)) ∧
    (s.cadence i (s.str i) ≤ max s.raw now * 2 ^ 32 → ∃ t, exec (.tsDatagramRelease i now) s = .next t ∧ (t.str i).j = (s.str i).j + 1 ∧ (t.str i).t0 = (s.str i).t0)) ∧
  (∀ (n : Nat) (f : Fill), (f.run n).pkts.length = f.pkts.length + n) ∧
  (∀ (ch : Chan) (now : Nat) (s : State), s.live = true →
    (∀ e, (s.chan ch).sctes.find? (fun e => decide (e.sentAt + 1000000000 ≤ max s.raw now)) = some e →
      s.releaseTime ch (s.frameOfSnap ch e.snap) 0 ≤ (s.advance now).now * 2 ^ 32 →
      ∃ t, exec (.scte35Resend ch now) s = .next t ∧ (t.chan ch).sctes = (s.chan ch).sctes.erase e) ∧
    (s.running ch = true → s.flag R.MUX_CTRL_ENABLE = true → (s.advance now).reached (s.tFrame ch (s.chan ch).ancN + ns (s.delayNs ch)) = true →
      (s.chan ch).ancN < (s.chan ch).handed + (s.chan ch).first → ∃ t, exec (.ancPacketRelease ch now) s = .next t ∧ (t.chan ch).ancN = (s.chan ch).ancN + 1)) ∧
  (∀ (f : FlowId) (per bytes now n : Nat) (buf : Option Nat) (s : State), s.live = true → (s.flowTx f).vid = some (n, buf) → s.flag (R.EGR_FLOW_CTRL_ENABLE f) = true →
    s.egKind f = 4 → (s.flowTx f).vidI < per → bytes ≤ s.get (R.EGR_FLOW_SRC_MAX_PAYLOAD f) →
    let ch := s.get (R.EGR_FLOW_SRC_STREAM f) / 8
    (s.advance now).reached (s.tFrame ch n + ((s.flowTx f).vidI * s.period ch / per : Nat)) = true →
    ∃ t, exec (.videoPacketPacing f per bytes now) s = .next t ∧ (t.flowTx f).vidI = (s.flowTx f).vidI + 1 ∧
      (t.flowTx f).vid = if (s.flowTx f).vidI + 1 = per then none else some (n, buf))

/-! ### The host and the DMA engine -/

namespace Sys2Proof.Spec

/-- The firmware answers the command at the front of ring r: the record, the indices, the vector, then any unknown opcode behind it (R553, R554). -/
def answer (w : State) (r : Nat) (c : HostCmd) (a : CmdAns) : State := (w.complete r c a).drainBad r 4096

/-- The host commands, their opcodes, and whether they name a channel (R554). -/
def hostRows (r : RingId) : List (Nat × Instr × Bool) :=
  [(0x0001, .nop r, false), (0x0010, .recipeLoad r, true), (0x0011, .channelStart r, true), (0x0012, .channelStop r, true),
    (0x0020, .ptpConfig r, false), (0x0021, .mcastJoin r, false), (0x0022, .mcastLeave r, false)]

/-- Bytes of the accepted descriptors of a channel are all accounted for (R565). -/
def balanced (s : State) (c : Nat) : Prop :=
  let d := s.dma c
  d.accepted % 2 ^ 64 = (s.get (R.DMA_CH_CNT_BYTES c 0) + s.get (R.DMA_CH_CNT_BYTES c 1) + s.get (R.DMA_CH_CNT_BYTES c 2) + d.held +
    (if d.aborted || d.failed then 0 else d.unissued)) % 2 ^ 64

end Sys2Proof.Spec

/-- A doorbell within limits moves the tail and raises line 1 of every core; the current tail changes nothing but a wake-up; any other sets DB_ERR and
raises a notice. COMMAND_FETCH appends a command of known opcode while the completion ring has room, completes one of unknown opcode with BAD_OPCODE,
and without room sets STALLED. An answer writes TAG, STATUS, SQ_HEAD and RESULT at the completion tail, moves both indices by 1, removes the command
and sends vector FIRST_MSIX + r. A command row acts only for a command of its opcode at the front; with a bad reserved field or channel it answers
BAD_PARAM and changes nothing else. NOP answers OK. PTP_CONFIG takes its parameters; MCAST_JOIN and MCAST_LEAVE add and remove one group and report
it. Unmasking a pending vector sends its message once. A BAR2 access of a disabled window aborts or is discarded with a notice; one to the shared SRAM
reads and writes its bytes. (R548, R551, R552, R553, R554, R555, R556, R557, R558) -/
def Obligations.HostRings : Prop :=
  (∀ (r : RingId) (v : BitVec 32) (s : State), s.up = true → s.halted = false →
    let w := s.wakeFrom 3
    let h := s.hcr r
    let size := s.hcrSize r
    let ok := s.hcrOn r = true ∧ v.toNat < size ∧ around size (s.get (R.HCR_SQ_HEAD_HEAD r)) h.tail + around size h.tail v.toNat ≤ size - 1
    (ok → v.toNat ≠ h.tail → ∃ t, exec (.hcrDoorbell r v) s = .next t ∧ t.hcr r = { h with tail := v.toNat } ∧ t.regs = w.regs ∧
      ∀ k < 4, bitAt (t.core k).linePend 1 = true) ∧
    (ok → v.toNat = h.tail → exec (.hcrDoorbell r v) s = .next w) ∧
    (¬ok → ∃ u : State, exec (.hcrDoorbell r v) s = .next (u.blockNotice 7) ∧ u.flag (R.HCR_STATUS_DB_ERR r) = true ∧ u.hcrs = s.hcrs)) ∧
  (∀ (r : RingId) (b : List (BitVec 8)) (s : State), s.firmware = true → s.hcrOn r = true → (s.hcr r).fetched ≠ (s.hcr r).tail →
    let h := s.hcr r
    let h' : HcrSt := { h with fetched := (h.fetched + 1) % s.hcrSize r, cmds := h.cmds ++ [hostCmd b] }
    (s.cqRoom r = true → (∀ c ∈ h'.cmds.head?, opcodes.contains c.opcode = true) → ∃ t, exec (.commandFetch r b) s = .next t ∧ t.hcr r = h' ∧
      t.flag (R.HCR_STATUS_STALLED r) = false ∧ t.out = s.out) ∧
    (s.cqRoom r = true → h.cmds = [] → opcodes.contains (hostCmd b).opcode = false → ∃ u : State, u.hcr r = h' ∧
      exec (.commandFetch r b) s = .next (u.complete r (hostCmd b) (1, 0))) ∧
    (s.cqRoom r = false → ∃ t, exec (.commandFetch r b) s = .next t ∧ t.flag (R.HCR_STATUS_STALLED r) = true ∧ t.hcrs = s.hcrs ∧ t.out = s.out)) ∧
  (∀ (r : RingId) (c : HostCmd) (rest : List HostCmd) (a : CmdAns) (w : State), (w.hcr r).cmds = c :: rest → 2 ≤ w.hcrSize r →
    (∀ d ∈ rest.head?, opcodes.contains d.opcode = true) →
    let head := (w.get (R.HCR_SQ_HEAD_HEAD r) + 1) % w.hcrSize r
    ∃ u : State, Sys2Proof.Spec.answer w r c a = u.msix (Config.firstMsixPcie + r) ∧ (u.hcr r).cmds = rest ∧ u.get (R.HCR_SQ_HEAD_HEAD r) = head ∧
      u.get (R.HCR_CQ_TAIL_TAIL r) = (w.get (R.HCR_CQ_TAIL_TAIL r) + 1) % w.hcrSize r ∧
      u.out = .hostWrite ((w.reg (K.HCR_CQ_BASE r)).toNat + 16 * w.get (R.HCR_CQ_TAIL_TAIL r))
        (leBytes 4 c.tag ++ leBytes 2 a.1 ++ leBytes 2 head ++ leBytes 8 a.2) :: w.out) ∧
  (∀ (r : RingId) (s : State), ∀ p ∈ Sys2Proof.Spec.hostRows r,
    (s.firmware = false ∨ (∀ c ∈ (s.hcr r).cmds.head?, c.opcode ≠ p.1) → exec p.2.1 s = .next s) ∧
    ∀ c rest, s.firmware = true → (s.hcr r).cmds = c :: rest → c.opcode = p.1 → c.badHead p.2.2 = true →
      exec p.2.1 s = .next (Sys2Proof.Spec.answer s r c (2, 0))) ∧
  (∀ (r : RingId) (c : HostCmd) (rest : List HostCmd) (s : State), s.firmware = true → (s.hcr r).cmds = c :: rest → c.badHead false = false →
    (c.opcode = 0x0001 → c.zero 0 48 = true → exec (.nop r) s = .next (Sys2Proof.Spec.answer s r c (0, 0))) ∧
    (c.opcode = 0x0001 → c.zero 0 48 = false → exec (.nop r) s = .next (Sys2Proof.Spec.answer s r c (2, 0))) ∧
    (c.opcode = 0x0020 → c.zero 3 4 = true → c.zero 6 48 = true → c.num 0 1 ≤ 127 → c.num 1 1 ≤ 1 → ∃ w : State, w = { s with ptp := w.ptp } ∧
      exec (.ptpConfig r) s = .next (Sys2Proof.Spec.answer w r c (0, 0)) ∧ w.ptp.domain = c.num 0 1 ∧ (w.ptp.ipv6 = true ↔ c.num 1 1 = 1) ∧
      w.ptp.macs = c.num 4 2 ∧ w.ptp.logDelay = if c.num 2 1 < 128 then (c.num 2 1 : Int) else (c.num 2 1 : Int) - 256) ∧
    (c.zero 2 4 = true → c.zero 36 48 = true → c.num 0 1 ≤ 15 → c.num 1 1 ≤ 1 →
      let m := mcastOf c
      (c.opcode = 0x0021 → ∃ w : State, exec (.mcastJoin r) s = .next (Sys2Proof.Spec.answer w r c (0, 0)) ∧ w.regs = s.regs ∧
        (∀ x, x ∈ w.mcasts ↔ x = m ∨ x ∈ s.mcasts) ∧ w.out = .mcastReport m.mac m.ipv6 m.group m.source true :: s.out) ∧
      (c.opcode = 0x0022 → ∃ w : State, exec (.mcastLeave r) s = .next (Sys2Proof.Spec.answer w r c (0, 0)) ∧ w.regs = s.regs ∧
        (∀ x, x ∈ w.mcasts ↔ x ≠ m ∧ x ∈ s.mcasts) ∧ w.out = .mcastReport m.mac m.ipv6 m.group m.source false :: s.out))) ∧
  (∀ (v : Fin 512) (addr : BitVec 64) (data : BitVec 32) (mask : Bool) (s : State), s.up = true →
    ∃ t, exec (.msixVectorUnmask v addr data mask) s = .next t ∧ t.regs = s.regs ∧
      let e := tget (fun _ => ({} : MsixVec)) s.msixTable v
      tget (fun _ => ({} : MsixVec)) t.msixTable v = ⟨addr.toNat, data.toNat, mask, e.pending && mask⟩ ∧
      t.out = if e.pending = true ∧ mask = false then .msix v addr.toNat data.toNat :: s.out else s.out) ∧
  (∀ (k : Fin 8) (off : BitVec 31) (d : List (BitVec 8)) (n : BitVec 13) (ecc : EccResult) (x : AccessIn) (s : State), s.up = true →
    let w := s.advance x.now
    let a := s.get (R.PCI_WIN_BASE_BASE k) * 2 ^ 31 + off.toNat
    (s.flag (R.PCI_WIN_BASE_ENABLE k) = false → exec (.bar2Access k off (some d) n ecc x) s = .next (w.blockNotice 7) ∧
      exec (.bar2Access k off none n ecc x) s = .next ((w.blockNotice 7).emit (.barRead a none))) ∧
    (s.flag (R.PCI_WIN_BASE_ENABLE k) = true → 0x4000000000 ≤ a →
      (a + d.length ≤ 0x4004000000 → s.halted = false → ∃ t, exec (.bar2Access k off (some d) n ecc x) s = .next t ∧ t.regs = s.regs ∧
        ∀ b, t.byte b = if a ≤ b ∧ b < a + d.length then d.getD (b - a) 0 else s.byte b) ∧
      (a + n.toNat ≤ 0x4004000000 → exec (.bar2Access k off none n ecc x) s = .next (w.emit (.barRead a (some (s.bytes a n.toNat)))))))

/-- For a command of good format at the front of a served ring. RECIPE_LOAD answers STATE if the thread is not IDLE or its partitions clash, LENGTH
for length 0, IMAGE_REJECTED with the first failing condition of R142, each without any other effect; else it answers OK with the sequencer enabled,
PRIO and both maps written, the text and data at their partition bases and the BSS zero, one valid entry slot per record and no other, and the thread
loaded for the channel. CHANNEL_START of a channel with no image loaded, or a running one, answers STATE, and nothing else happens; one with every
test of the start passed answers ADMIT_REFUSED with DSP_ADM_RESULT if the admission is refused, else OK: the loaded thread is bound and RUNNABLE and
the channel runs (a STANDBY's is only bound). CHANNEL_STOP of a running channel answers OK: it is stopping and its admission is being returned; of a
channel neither running nor bound it answers STATE. (R125, R129, R138, R139, R140, R142, R180, R185, R554, R555, R752) -/
def Obligations.RecipesAndChannels : Prop :=
  (∀ (r : RingId) (c : HostCmd) (rest : List HostCmd) (s : State), s.firmware = true → (s.hcr r).cmds = c :: rest → c.opcode = 0x0010 →
    c.badHead true = false → c.zero 15 16 = true → c.zero 24 48 = true → c.num 12 1 ≤ 63 → c.num 13 1 ≤ 3 → c.num 14 1 ≤ 7 →
    let addr := c.num 0 8
    let len := c.num 8 4
    let q := c.num 12 1
    let i := c.num 13 1
    let (ib, il) := (c.num 16 4 % 65536, c.num 16 4 / 65536)
    let (db, dl) := (c.num 20 4 % 65536, c.num 20 4 / 65536)
    ib % 4 = 0 → db % 8 = 0 → il ≤ 32768 → dl ≤ 32768 →
    let clash := (s.thr (4 * q + i)).st ≠ .idle ∨ s.loadClash (4 * q + i) (c.num 16 4) (c.num 20 4) = true
    let img := s.dBytes addr len
    (clash → exec (.recipeLoad r) s = .next (Sys2Proof.Spec.answer s r c (6, 0))) ∧
    (¬clash → len = 0 → exec (.recipeLoad r) s = .next (Sys2Proof.Spec.answer s r c (7, 0))) ∧
    (¬clash → 0 < len → mappedRange addr len = true → regionOf addr = regionOf (addr + len - 1) → inRegs addr = false →
      (s.imageFault img il dl ≠ 0 → exec (.recipeLoad r) s = .next (Sys2Proof.Spec.answer s r c (3, s.imageFault img il dl))) ∧
      (s.imageFault img il dl = 0 → ib + il ≤ 32768 → db + dl ≤ 32768 →
        ∃ w : State, exec (.recipeLoad r) s = .next (Sys2Proof.Spec.answer w r c (0, 0)) ∧ w.mem = s.mem ∧ w.threads = s.threads ∧
        w.flag (R.SEQ_CTRL_ENABLE q) = true ∧ w.get (R.SEQ_TH_CTRL_PRIO q i) = c.num 14 1 ∧
        w.get (R.SEQ_TH_IMAP_BASE q i) = ib ∧ w.get (R.SEQ_TH_IMAP_LEN q i) = il ∧ w.get (R.SEQ_TH_DMAP_BASE q i) = db ∧ w.get (R.SEQ_TH_DMAP_LEN q i) = dl ∧
        (∀ k < num img 0x14 4, w.seqByte (seqKey q (ib + k)) = img.getD (num img 0x10 4 + k) 0) ∧
        (∀ k < num img 0x1C 4, w.seqByte (seqKey q (0x8000 + db + k)) = img.getD (num img 0x18 4 + k) 0) ∧
        (∀ k < num img 0x20 4, w.seqByte (seqKey q (0x8000 + db + num img 0x1C 4 + k)) = 0) ∧
        (∀ v < 16, match (entriesOf img)[v]? with
          | some e => w.flag (R.SEQ_TH_VEC_VALID q i v) = true ∧ w.get (R.SEQ_TH_VEC_EVENT q i v) = e.1 ∧ w.flag (R.SEQ_TH_VEC_VECTORED q i v) = e.2.1 ∧
              w.flag (R.SEQ_TH_VEC_RESUME q i v) = e.2.2.1 ∧ w.get (R.SEQ_TH_VEC_ADDR q i v) = e.2.2.2
          | none => w.flag (R.SEQ_TH_VEC_VALID q i v) = false) ∧
        (w.chan c.channel).loaded = some (4 * q + i) ∧ (w.chan c.channel).decl = addr + num img 0x2C 4))) ∧
  (∀ (r : RingId) (c : HostCmd) (rest : List HostCmd) (s : State), s.firmware = true → (s.hcr r).cmds = c :: rest → c.badHead true = false → c.zero 0 48 = true →
    let ch := c.channel
    let x := s.chan ch
    (c.opcode = 0x0011 →
      (x.loaded = none ∨ s.running ch = true → exec (.channelStart r) s = .next (Sys2Proof.Spec.answer s r c (6, 0))) ∧
      (∀ d t, x.loaded = some t → t < 256 → s.startState ch = none → s.decl x.decl = some d → x.costLen = 16 + 16 * s.dRd (x.decl + 2) 2 →
        let y := s.trial ch d.sub
        let n := y.snapNow ch
        let b := ((s.tsCheck ch n y).1.set R.DSP_ADM_DECL_ADDRESS x.decl).admitCh ch
        (s.encodes ch = true → y.codingBad ch n d.trays.length = false) → (s.tsCheck ch n y).2 = false → s.imageBad ch t = false →
        (s.tsCheck ch n y).1.dRd (x.decl + 2) 2 = s.dRd (x.decl + 2) 2 →
        (b.get R.DSP_ADM_RESULT_RESULT ≠ 0 → exec (.channelStart r) s = .next (Sys2Proof.Spec.answer b r c (4, (b.reg K.DSP_ADM_RESULT).toNat))) ∧
        (b.get R.DSP_ADM_RESULT_RESULT = 0 → ∃ w : State, exec (.channelStart r) s = .next (Sys2Proof.Spec.answer w r c (0, 0)) ∧ w.boundThread ch = some t ∧
          (w.thr t).chan = ch ∧ (b.standby ch = false → w.running ch = true ∧ (w.thr t).st = .runnable)))) ∧
    (c.opcode = 0x0012 →
      (s.running ch = true → ∃ w : State, exec (.channelStop r) s = .next (Sys2Proof.Spec.answer w r c (0, 0)) ∧ (w.chan ch).stopping = true ∧
        ((s.admOf ch).admitted = true → (w.admOf ch).releasing = true ∧ w.flag R.DSP_ADM_CMD_BUSY = true)) ∧
      (s.running ch = false → s.boundThread ch = none → exec (.channelStop r) s = .next (Sys2Proof.Spec.answer s r c (6, 0)))))

/-- DMA_GO of an idle, enabled channel: with a descriptor at fault it only shows the first fault and its index; with COUNT 0 it is DONE; else it is
BUSY with the whole list and nothing issued. A descriptor is DESC_ERR exactly as R560 says. DMA_BURST_ISSUE issues for a channel of the highest
priority among those ready one burst that starts where the last ended, of at most BURST bytes, within 4 KB of HOST_ADDR. DMA_BURST_COMPLETE counts the
oldest burst in DONE, or in OVERRUN if it was in flight at an ABORT; an H2D burst to the SRAM puts each byte at its swapped address, a D2H burst
writes host memory, or raises R47's notice and stops the channel where its device read had an error response. SWAP orders bytes as R566's table.
DMA_ABORT counts what was never issued in WITHDRAWN and ends ABORTED once nothing is in flight. DMA_HOST_ERROR drops the burst, reports source 23 and
ends HOST_ERR. Each of GO, issue, completion and ABORT keeps the account of R565. (R559, R560, R561, R562, R563, R564, R565, R566) -/
def Obligations.DmaLists : Prop :=
  (∀ (c : DmaId) (host : List (BitVec 8)) (s : State), s.up = true → s.halted = false →
    let ds := s.dmaDescs c host
    (s.flag R.DMA_CTRL_ENABLE = false ∨ s.flag (R.DMA_CH_STATUS_BUSY c) = true → exec (.dmaGo c host) s = .next s) ∧
    (s.flag R.DMA_CTRL_ENABLE = true → s.flag (R.DMA_CH_STATUS_BUSY c) = false →
      (∀ i d, ds[i]? = some d → descFault d ≠ 0 → (∀ j < i, ∀ x, ds[j]? = some x → descFault x = 0) → ∃ t, exec (.dmaGo c host) s = .next t ∧
        t = { s with regs := t.regs } ∧ t.get (R.DMA_CH_STATUS_STATUS c) = descFault d ∧ t.get (R.DMA_CH_STATUS_INDEX c) = i ∧
        t.flag (R.DMA_CH_STATUS_BUSY c) = false) ∧
      ((∀ d ∈ ds, descFault d = 0) → ∃ t, exec (.dmaGo c host) s = .next t ∧ t.get (R.DMA_CH_STATUS_STATUS c) = 0 ∧ t.mem = s.mem ∧
        (s.get (R.DMA_CH_COUNT_COUNT c) = 0 → t.flag (R.DMA_CH_STATUS_BUSY c) = false) ∧
        (s.get (R.DMA_CH_COUNT_COUNT c) ≠ 0 → t.flag (R.DMA_CH_STATUS_BUSY c) = true ∧ (t.dma c).descs = ds.map (·.1) ∧ (t.dma c).ix = 0 ∧ (t.dma c).off = 0 ∧
          (t.dma c).inflight = [] ∧
          (Sys2Proof.Spec.balanced s c → (s.dma c).inflight = [] → ((s.dma c).aborted = true ∨ (s.dma c).failed = true ∨ (s.dma c).unissued = 0) →
            Sys2Proof.Spec.balanced t c))))) ∧
  (∀ (d : DmaDesc) (b : Bool), descFault (d, b) = 1 ↔ d.len = 0 ∨ b = true ∨ 5 ≤ d.swap ∨
    (let u := match d.swap with | 0 => 1 | 1 => 2 | 2 => 4 | 3 => 4 | _ => 8
     ¬u ∣ d.len ∨ ¬u ∣ d.dev)) ∧
  ([1, 2, 3, 4].map (fun m => (List.range 8).map (swapAddr m)) =
    [[1, 0, 3, 2, 5, 4, 7, 6], [3, 2, 1, 0, 7, 6, 5, 4], [2, 3, 0, 1, 6, 7, 4, 5], [7, 6, 5, 4, 3, 2, 1, 0]]) ∧
  (∀ (d2h : Bool) (s : State), s.up = true → s.halted = false →
    (s.dmaReady d2h = [] → exec (.dmaBurstIssue d2h) s = .next s) ∧
    (s.dmaReady d2h ≠ [] → ∃ t c b x, exec (.dmaBurstIssue d2h) s = .next t ∧ c ∈ s.dmaReady d2h ∧
      (∀ j ∈ s.dmaReady d2h, s.get (R.DMA_CH_CFG_PRIO j) ≤ s.get (R.DMA_CH_CFG_PRIO c)) ∧ (∀ j, j ≠ c → t.dma j = s.dma j) ∧
      (t.dma c).inflight = (s.dma c).inflight ++ [b] ∧ (s.dma c).descs[(s.dma c).ix]? = some x ∧ b.host = x.host + (s.dma c).off ∧
      b.dev = x.dev + (s.dma c).off ∧ b.len ≤ 512 * 2 ^ s.get (R.DMA_CH_CFG_BURST c) ∧ b.host % 4096 + b.len ≤ 4096 ∧ b.late = false ∧
      (d2h = true → b.data = (List.range b.len).map (fun k => s.dByte (swapAddr x.swap (b.dev + k)))) ∧
      (Sys2Proof.Spec.balanced s c → Sys2Proof.Spec.balanced t c))) ∧
  (∀ (c : DmaId) (b : DmaBurst) (rest : List DmaBurst) (data : List (BitVec 8)) (s : State), s.up = true → s.halted = false → (s.dma c).inflight = b :: rest →
    (b.bad = true → ∃ u : State, exec (.dmaBurstComplete c data) s = .next ((u.addrError (.unit 0x0007)).dmaSettle c) ∧ (u.dma c).inflight = rest ∧
      (u.dma c).failed = true ∧ u.mem = s.mem ∧ u.out = s.out) ∧
    (b.bad = false → s.flag (R.DMA_CH_CFG_D2H c) = true → ∃ t, exec (.dmaBurstComplete c data) s = .next t ∧ (t.dma c).inflight = rest ∧ .hostWrite b.host b.data ∈ t.out ∧
      t.mem = s.mem ∧
      t.get (R.DMA_CH_CNT_BYTES c (if b.late = true then 1 else 0)) = (s.get (R.DMA_CH_CNT_BYTES c (if b.late = true then 1 else 0)) + b.len) % 2 ^ 64 ∧
      (Sys2Proof.Spec.balanced s c → Sys2Proof.Spec.balanced t c)) ∧
    (b.bad = false → s.flag (R.DMA_CH_CFG_D2H c) = false → 0x4000000000 ≤ b.dev → b.dev + b.len ≤ 0x4004000000 → b.swap ≤ 4 → data.length = b.len →
      b.dev % swapUnit b.swap = 0 → b.len % swapUnit b.swap = 0 → ∃ t, exec (.dmaBurstComplete c data) s = .next t ∧ (t.dma c).inflight = rest ∧
      (∀ k < b.len, t.byte (swapAddr b.swap (b.dev + k)) = data.getD k 0) ∧ (∀ a, a < b.dev ∨ b.dev + b.len ≤ a → t.byte a = s.byte a) ∧
      (Sys2Proof.Spec.balanced s c → Sys2Proof.Spec.balanced t c))) ∧
  (∀ (c : DmaId) (s : State), s.up = true → s.halted = false →
    let d := s.dma c
    (s.flag (R.DMA_CH_STATUS_BUSY c) = true → d.aborted = false → d.failed = false → ∃ t, exec (.dmaAbort c) s = .next t ∧
      t.get (R.DMA_CH_CNT_BYTES c 2) = (s.get (R.DMA_CH_CNT_BYTES c 2) + d.unissued) % 2 ^ 64 ∧ t.mem = s.mem ∧
      (t.dma c).inflight = d.inflight.map (fun b : DmaBurst => { b with late := true }) ∧ (t.dma c).aborted = true ∧
      (Sys2Proof.Spec.balanced s c → Sys2Proof.Spec.balanced t c) ∧
      (d.inflight = [] → t.flag (R.DMA_CH_STATUS_BUSY c) = false ∧ t.get (R.DMA_CH_STATUS_STATUS c) = 4) ∧
      (d.inflight ≠ [] → t.flag (R.DMA_CH_STATUS_BUSY c) = true)) ∧
    (s.flag (R.DMA_CH_STATUS_BUSY c) = false → exec (.dmaAbort c) s = .next s) ∧
    (∀ b rest, d.inflight = b :: rest → ∃ u : State, exec (.dmaHostError c) s = .next ((u.report 23 0).dmaSettle c) ∧ (u.dma c).inflight = rest ∧
      (u.dma c).failed = true ∧ u.mem = s.mem)) ∧
  (∀ (c : DmaId) (s : State), s.flag (R.DMA_CH_STATUS_BUSY c) = true → (s.dma c).inflight = [] →
    ((s.dma c).failed = true → (s.dmaSettle c).get (R.DMA_CH_STATUS_STATUS c) = 3 ∧ (s.dmaSettle c).flag (R.DMA_CH_STATUS_BUSY c) = false) ∧
    ((s.dma c).failed = false → (s.dma c).aborted = true → (s.dmaSettle c).get (R.DMA_CH_STATUS_STATUS c) = 4))

/-! ### Weneiren ports -/

namespace Sys2Proof.Spec

/-- A flit leaves port p in t that had not left in s, and nothing else does. -/
def sends (s t : State) (p : Nat) (seq : Option Nat) (f : Flit) : Prop := ∃ ack v n, t.out = .flit p seq ack v n f :: s.out

end Sys2Proof.Spec

/-- A flit at a port that is not up changes nothing but the time. A good header drops the flits it acknowledges, adds its credits and counts FLITS_RX;
NAK replays the rest in order. A sequenced flit with the expected SEQ acts once and its credit is owed to the peer; with another SEQ it acts not at
all. MEM_WRITE into receive windows in the shared SRAM puts its bytes there; one outside is dropped, counted and reported. MEDIA stages a unit only
for a flow that takes its units from the port; MSG joins the inbox; a HEARTBEAT for a STANDBY group restarts its timer; ECHO_REQ is answered; the
sixteenth ECHO_RSP sets LAT to half the median; LANE_MAP names the lane; AUDIT retrains the port if a check of R583 fails; TIME before LAT is known is
dropped and counted, and else gives the follower its sample. An unknown TYPE or a bad CRC is counted, and a bad sequenced flit is NAKed. (R508, R509,
R510, R570, R571, R572, R573, R575, R578, R581, R583, R610) -/
def Obligations.FlitReceipt : Prop :=
  (∀ (p : WlPort) (h : FlitHdr) (now : Nat) (d : List (BitVec 8)) (a : Word) (l : List Nat) (s : State), s.up = true → s.halted = false → s.wlUp p = false →
    ∀ i ∈ ([.memWriteFlit p h a (d.take 236) now, .mediaFlit p h [] now, .msgFlit p h (d.take 244) now, .idleFlit p h false now,
      .heartbeatFlit p h 0 0 0 0 0 now, .echoReq p h now, .echoRsp p h a.toNat now, .laneMap p h 0 0 now, .audit p h l l l now,
      .timeFlitReceive p h a 0 0 false now, .flitCrcFail p true now] : List Instr), exec i s = .next (s.advance now)) ∧
  (∀ (p : WlPort) (h : FlitHdr) (s : State),
    let w := s.wlPort p
    let t := s.takeHeader p h
    let left := w.sent.filter (fun x => !seqLe x.1 h.ack.toNat)
    (t.wlPort p).sent = left ∧ (t.wlPort p).tx = w.tx ∧ (t.wlPort p).rxNext = w.rxNext ∧
    (∀ v, tget (fun _ => 0) (t.wlPort p).credits v = tget (fun _ => 0) w.credits v + if v = h.cvc.toNat ∧ 1 ≤ v ∧ v ≤ 3 then h.credits.toNat else 0) ∧
    t.get (R.WL_CNT_COUNT p 1) = (s.get (R.WL_CNT_COUNT p 1) + 1) % 2 ^ 64 ∧ t.mem = s.mem ∧
    (h.nak = false → t.out = s.out) ∧
    (h.nak = true → t.get (R.WL_CNT_COUNT p 3) = (s.get (R.WL_CNT_COUNT p 3) + left.length) % 2 ^ 64 ∧ ∃ l : List Output, t.out = l ++ s.out ∧
      l.length = left.length ∧ ∀ (i : Nat) (x : Nat × Flit), left[i]? = some x → ∃ ack v n, l.reverse[i]? = some (Output.flit p (some x.1) ack v n x.2))) ∧
  (∀ (p : WlPort) (h : FlitHdr) (now : Nat) (s : State), s.up = true → s.halted = false → s.wlUp p = true →
    let x := (s.advance now).takeHeader p h
    let w := x.wlPort p
    let cnt := fun (t : State) (i : Nat) => t.get (R.WL_CNT_COUNT p i)
    let accepted := fun (t : State) (v : Nat) => (t.wlPort p).rxNext = (w.rxNext + 1) % 4096 ∧
      tget (fun _ => 0) (t.wlPort p).owed v = tget (fun _ => 0) w.owed v + 1 ∧
      t.get (R.WL_CREDIT_COUNT p (v - 1) 2) = (x.get (R.WL_CREDIT_COUNT p (v - 1) 2) + 1) % 2 ^ 64
    (h.seq.toNat ≠ w.rxNext → (∀ a d, d.length ≤ 236 → exec (.memWriteFlit p h a d now) s = .next x) ∧ (∀ u, exec (.mediaFlit p h u now) s = .next x) ∧
      ∀ d, d.length ≤ 244 → exec (.msgFlit p h d now) s = .next x) ∧
    (h.seq.toNat = w.rxNext →
      (∀ (a : Word) (d : List (BitVec 8)), d.length ≤ 236 →
        (0x4000000000 ≤ a.toNat → (∀ i < d.length, s.inRxWindow p (a.toNat + i) = true) → ∃ t, exec (.memWriteFlit p h a d now) s = .next t ∧ accepted t 1 ∧
          (∀ b, t.byte b = if a.toNat ≤ b ∧ b < a.toNat + d.length then d.getD (b - a.toNat) 0 else s.byte b) ∧ cnt t 8 = cnt x 8) ∧
        ((∃ i < d.length, s.inRxWindow p (a.toNat + i) = false) → ∃ u : State, exec (.memWriteFlit p h a d now) s = .next (u.wlReport p 4) ∧
          u.mem = s.mem ∧ cnt u 8 = (cnt x 8 + 1) % 2 ^ 64 ∧ accepted u 1)) ∧
      (∀ u : List MediaUnit, (∀ m ∈ u, s.get (R.EGR_FLOW_CTRL_SOURCE m.flow) ≠ p + 1) → ∃ t, exec (.mediaFlit p h u now) s = .next t ∧ t.staged = s.staged ∧ accepted t 2) ∧
      (∀ u : MediaUnit, s.get (R.EGR_FLOW_CTRL_SOURCE u.flow) = p + 1 → ∃ y : State, accepted y 2 ∧ y.staged = s.staged ++ [u] ∧
        exec (.mediaFlit p h [u] now) s = .next (y.releaseStaged (fun f => decide (f = u.flow.val)))) ∧
      (∀ d : List (BitVec 8), d.length ≤ 244 → ∃ t, exec (.msgFlit p h d now) s = .next t ∧ (t.wlPort p).inbox = w.inbox ++ [d] ∧ accepted t 3 ∧ t.mem = s.mem)) ∧
    (∀ e, ∃ t, exec (.idleFlit p h e now) s = .next t ∧ t.wlPort p = { w with rxIdle := e } ∧ t.regs = x.regs ∧ t.out = x.out) ∧
    (∀ (g : GroupId) u (c : BitVec 32) (sn img : Word), ∃ t, exec (.heartbeatFlit p h g u c sn img now) s = .next t ∧
      let on := s.flag (R.CLB_GRP_CFG_ENABLE g) = true ∧ s.get (R.CLB_GRP_STATUS_ROLE g) = 2
      (on → (t.grp g).th = max s.raw now ∧ (t.grp g).k = 0 ∧ (t.grp g).snap = sn.toNat ∧ t.get (R.CLB_GRP_STATUS_MISSES g) = 0 ∧
        t.get (R.CLB_GRP_CNT_COUNT g 1) = (s.get (R.CLB_GRP_CNT_COUNT g 1) + 1) % 2 ^ 64 ∧ tget (fun _ => 0) t.epochs g = c.toNat / 256) ∧
      (¬on → t.groups = s.groups ∧ t.epochs = s.epochs)) ∧
    (s.wlRuns p = true → (∃ t, exec (.echoReq p h now) s = .next t ∧ Sys2Proof.Spec.sends x t p none .echoRsp) ∧
      ∃ t, exec (.flitCrcFail p true now) s = .next t ∧ Sys2Proof.Spec.sends s t p none (.idle false true) ∧ cnt t 2 = (cnt s 2 + 1) % 2 ^ 64) ∧
    (∃ t, exec (.flitCrcFail p false now) s = .next t ∧ t.out = s.out ∧ t.wl = s.wl ∧ cnt t 2 = (cnt s 2 + 1) % 2 ^ 64) ∧
    (∃ t, exec (.unknownFlitType p) s = .next t ∧ t.out = s.out ∧ t.wl = s.wl ∧ cnt t 2 = (cnt s 2 + 1) % 2 ^ 64) ∧
    (∀ rt : Nat, w.latOk = false → ∃ t, exec (.echoRsp p h rt now) s = .next t ∧ (t.wlPort p).echoes = w.echoes ++ [rt] ∧
      (w.echoes.length < 15 → t.get (R.TB_WL_LAT_LAT p) = s.get (R.TB_WL_LAT_LAT p) ∧ (t.wlPort p).latOk = false) ∧
      (w.echoes.length = 15 → t.get (R.TB_WL_LAT_LAT p) = median (w.echoes ++ [rt]) / 2 % 2 ^ 24 ∧ (t.wlPort p).latOk = true)) ∧
    (∀ l n, ∃ t, exec (.laneMap p h l n now) s = .next t ∧ t.wlPort p = { w with txSpare := some (l.toNat, n.toNat) } ∧ t.regs = x.regs) ∧
    (∀ r q o : List Nat,
      let ok := ∀ v ∈ ([1, 2, 3] : List Nat), x.get (R.WL_CREDIT_COUNT p (v - 1) 0) - (w.sent.filter (fun y => decide (y.2.vc = v))).length = r.getD (v - 1) 0 ∧
        w.init.getD (v - 1) 0 + x.get (R.WL_CREDIT_COUNT p (v - 1) 1) = tget (fun _ => 0) w.credits v + x.get (R.WL_CREDIT_COUNT p (v - 1) 0)
      (ok → exec (.audit p h r q o now) s = .next x) ∧ (¬ok → exec (.audit p h r q o now) s = .next ((x.wlReport p 3).wlFall p))) ∧
    (∀ (m : Word) (e : BitVec 32) (st : BitVec 3) (b : Bool),
      (w.latOk = false → ∃ t, exec (.timeFlitReceive p h m e st b now) s = .next t ∧ cnt t 9 = (cnt x 9 + 1) % 2 ^ 64 ∧ t.tb = s.tb) ∧
      (w.latOk = true → s.get R.TB_CTRL_SOURCE ≠ 1 + p → exec (.timeFlitReceive p h m e st b now) s = .next x) ∧
      (w.latOk = true → s.get R.TB_CTRL_SOURCE = 1 + p → e.toNat = s.get R.TB_EPOCH_EPOCH → exec (.timeFlitReceive p h m e st b now) s =
        .next ((x.setFlag R.TB_STATUS_UP_HOLDOVER (st.toNat = tbHoldover ∨ st.toNat = tbJumped)).sample (1 + p)
          (m.toNat + ((s.get (R.TB_WL_LAT_LAT p) : Int) + s.getSigned (R.TB_WL_LAT_TRIM p) + 8) / 16) (max s.raw now)))))

/-- FLIT_TRANSMIT of a running port sends the oldest queued flit whose VC has a credit, if fewer than 1024 wait for an ACK, under the next SEQ, and
keeps it; with no credit for any, or 1024 waiting, an IDLE flit. AUDIT_SEND carries the counts of R583. TIME_FLIT_SEND sends the local time when TX_EN
is set and 1 ms has passed, else nothing. A training port comes up when its receiver is ready and READY has been seen, in either order, with the
peer's sizes as credits, SEQ 0 and 16 ECHO_REQ; TRAIN_TIMEOUT restarts training; a fall counts every flit lost and reports, RETRAIN and a lost clock
outside idle make the port fall. The first data lane to fail goes to the spare, reported as LANE_SPARED; the next puts the port at half width on the
half that can be whole, LAT 52 sixteenths higher; a lane that regains lock at full width is the new spare. IDLE_ENTRY after ENTER_US with nothing to
send leaves the port IDLE, with a flit waiting it counts an abort; IDLE_EXIT with something to send leaves it running. (R508, R572, R574, R575, R576,
R577, R578, R581, R582, R583, R584, R585) -/
def Obligations.LinksSendAndTrain : Prop :=
  (∀ (p : WlPort) (m : Option TxFlit) (now : Nat) (s : State), s.live = true → s.wlRuns p = true →
    let w := s.wlPort p
    let q := w.tx ++ (m.map (fun f => if f.media = true then Flit.media f.data else Flit.msg f.data)).toList
    (∀ l f r, q = l ++ f :: r → (∀ g ∈ l, tget (fun _ => 0) w.credits g.vc = 0) → tget (fun _ => 0) w.credits f.vc ≠ 0 → w.sent.length < 1024 →
      ∃ t, exec (.flitTransmit p m now) s = .next t ∧ Sys2Proof.Spec.sends s t p (some w.next) f ∧ (t.wlPort p).tx = l ++ r ∧ (t.wlPort p).sent = w.sent ++ [(w.next, f)] ∧ (t.wlPort p).next = (w.next + 1) % 4096 ∧
      tget (fun _ => 0) (t.wlPort p).credits f.vc = tget (fun _ => 0) w.credits f.vc - 1) ∧
    ((∀ f ∈ q, tget (fun _ => 0) w.credits f.vc = 0) ∨ 1024 ≤ w.sent.length → ∃ t, exec (.flitTransmit p m now) s = .next t ∧
      Sys2Proof.Spec.sends s t p none (.idle false false) ∧ (t.wlPort p).tx = q ∧ (t.wlPort p).sent = w.sent) ∧
    (∃ t rec ret occ, exec (.auditSend p now) s = .next t ∧ Sys2Proof.Spec.sends s t p none (.audit ((w.rxNext + 4095) % 4096) rec ret occ) ∧
      ∀ v < 3, rec.getD v 0 = s.get (R.WL_CREDIT_COUNT p v 2) ∧ ret.getD v 0 % 2 ^ 64 = t.get (R.WL_CREDIT_COUNT p v 3) ∧
        occ.getD v 0 = tget (fun _ => 0) (t.wlPort p).owed (v + 1))) ∧
  (∀ (p : WlPort) (now : Nat) (s : State), s.live = true → s.wlRuns p = true →
    let a := s.advance now
    let due := (s.get R.TB_FWD_CTRL_TX_EN).testBit p = true ∧ ∀ t, tfind s.tb.flitLast p = some t → t + 1000000 ≤ max s.raw now
    (due → ∃ t, exec (.timeFlitSend p now) s = .next t ∧
      Sys2Proof.Spec.sends s t p none (.time a.now (s.get R.TB_EPOCH_EPOCH) (s.get R.TB_STATUS_STATE) (s.flag R.TB_STATUS_STEP_USED)) ∧
      tfind t.tb.flitLast p = some (max s.raw now)) ∧
    (¬due → exec (.timeFlitSend p now) s = .next a) ∧
    (s.flag (R.WL_CTRL_ENABLE p) = true → exec (.wlRetrain p now) s = .next (a.wlFall p)) ∧
    ((s.wlPort p).rxIdle = false → exec (.wlLaneLockLoss p [] true now) s = .next (a.wlFall p)) ∧
    ((s.wlPort p).rxIdle = true → exec (.wlLaneLockLoss p [] true now) s = .next a) ∧
    (∃ u : State, s.wlFall p = u.wlReport p 2 ∧ (u.wlPort p).tx = [] ∧ (u.wlPort p).sent = [] ∧ u.flag (R.WL_STATUS_LINK_DOWN_SEEN p) = true ∧
      u.get (R.WL_CNT_COUNT p 4) = (s.get (R.WL_CNT_COUNT p 4) + ((s.wlPort p).tx.length + (s.wlPort p).sent.length)) % 2 ^ 64 ∧
      u.wlState p = if s.flag (R.WL_CTRL_ENABLE p) = true ∧ (s.wlPort p).held = false then 1 else 0)) ∧
  (∀ (p : WlPort) (now : Nat) (s : State), s.live = true → s.wlState p = 1 →
    let w := s.wlPort p
    let rises := fun (t : State) (bufs : List Nat) => t.wlState p = 2 ∧ (∀ v < 3, tget (fun _ => 0) (t.wlPort p).credits (v + 1) = bufs.getD v 0) ∧
      (t.wlPort p).next = 0 ∧ (t.wlPort p).rxNext = 0 ∧ (t.wlPort p).tx = [] ∧
      ∃ l : List Output, t.out = l ++ s.out ∧ l.length = 16 ∧ ∀ o ∈ l, ∃ ack v n, o = .flit p none ack v n .echoReq
    (∀ (b q : BitVec 2) (bufs : List Nat) (ready : Bool),
      (w.ready = true → ready = true ∨ w.peerReady = true → ∃ t, exec (.trainingBlockReceive p b q bufs ready now) s = .next t ∧ rises t bufs ∧
        t.get (R.WL_STATUS_PEER_ID p) = b.toNat ∧ t.get (R.WL_STATUS_PEER_PORT p) = q.toNat) ∧
      (w.ready = false ∨ (ready = false ∧ w.peerReady = false) → ∃ t, exec (.trainingBlockReceive p b q bufs ready now) s = .next t ∧ t.wlState p = 1 ∧
        t.wlPort p = { w with peerBuf := bufs, peerReady := w.peerReady || ready })) ∧
    (∀ (rev : Bool) (invd : BitVec 17), ∃ t, exec (.receiverReady p rev invd now) s = .next t ∧ t.flag (R.WL_STATUS_REVERSED p) = rev ∧
      (∀ l < 17, t.flag (R.WL_LANE_STATUS_LOCK p l) = true ∧ t.get (R.WL_LANE_STATUS_LOGICAL p l) = l ∧
        t.flag (R.WL_LANE_STATUS_IS_SPARE p l) = decide (l = 16) ∧ t.flag (R.WL_LANE_STATUS_INVERTED p l) = invd.getLsbD l) ∧
      (w.peerReady = true → rises t w.peerBuf) ∧ (w.peerReady = false → t.wlState p = 1 ∧ t.wlPort p = { w with ready := true })) ∧
    (w.trainAt + 1000 * s.get (R.WL_CTRL_TIMEOUT_US p) ≤ max s.raw now → s.flag (R.WL_CTRL_ENABLE p) = true → w.held = false →
      ∃ t, exec (.trainTimeout p now) s = .next t ∧ t.wlState p = 1 ∧ (t.wlPort p).trainAt = max s.raw now ∧
        t.get (R.WL_CNT_COUNT p 6) = (s.get (R.WL_CNT_COUNT p 6) + 1) % 2 ^ 64 ∧ t.get (R.WL_CNT_COUNT p 7) = (s.get (R.WL_CNT_COUNT p 7) + 1) % 2 ^ 64) ∧
    (max s.raw now < w.trainAt + 1000 * s.get (R.WL_CTRL_TIMEOUT_US p) → exec (.trainTimeout p now) s = .next (s.advance now))) ∧
  (∀ (p : WlPort) (l : Fin 17) (now sp : Nat) (s : State), s.live = true → s.wlState p = 2 → s.flag (R.WL_LANE_STATUS_LOCK p l) = true →
    s.spareLane p = some sp → sp ≠ l → (s.wlPort p).spareDead = false →
    let x := s.get (R.WL_LANE_STATUS_LOGICAL p l)
    let lost := fun (u : State) => u.flag (R.WL_LANE_STATUS_LOCK p l) = false ∧ u.flag (R.WL_LANE_STATUS_LOCK_LOST p l) = true
    (s.flag (R.WL_STATUS_SPARE_IN_USE p) = false → (s.wlPort p).failed = [] → ∃ u : State, exec (.wlLaneLockLoss p [l.val] false now) s = .next (u.wlReport p 0) ∧ lost u ∧
      u.flag (R.WL_STATUS_SPARE_IN_USE p) = true ∧ u.get (R.WL_LANE_STATUS_LOGICAL p sp) = x ∧ u.get (R.TB_WL_LAT_LAT p) = s.get (R.TB_WL_LAT_LAT p) ∧
      u.get (R.WL_CNT_COUNT p 5) = (s.get (R.WL_CNT_COUNT p 5) + 1) % 2 ^ 64 ∧ Sys2Proof.Spec.sends s u p none (.laneMap x (s.wlPort p).rxNext)) ∧
    (∀ y, s.flag (R.WL_STATUS_SPARE_IN_USE p) = true → (s.wlPort p).failed = [y] → y < 16 → x < 16 → x ≠ y → (s.wlPort p).half = false →
      ∃ u : State, exec (.wlLaneLockLoss p [l.val] false now) s = .next ((List.range 16).foldl (fun s _ => s.sendControl p .echoReq) (u.wlReport p 1)) ∧ lost u ∧
        u.wlState p = 3 ∧ u.get (R.WL_STATUS_HALF p) = (if x < 8 ∧ y < 8 then 1 else 0) ∧ (u.wlPort p).latOk = false ∧
        u.get (R.TB_WL_LAT_LAT p) = (s.get (R.TB_WL_LAT_LAT p) + 52) % 2 ^ 24)) ∧
  (∀ (p : WlPort) (l : Fin 17) (s : State), s.live = true → s.wlUp p = true → s.flag (R.WL_LANE_STATUS_LOCK p l) = false → (s.wlPort p).half = false →
    ∃ t, exec (.wlLaneRegainsLock p l) s = .next t ∧ t.flag (R.WL_LANE_STATUS_LOCK p l) = true ∧ t.get (R.WL_LANE_STATUS_LOGICAL p l) = 16 ∧
      t.flag (R.WL_STATUS_SPARE_IN_USE p) = false ∧ (∀ i < 17, t.flag (R.WL_LANE_STATUS_IS_SPARE p i) = decide (i = l.val)) ∧
      ∀ i < 17, i ≠ l.val → t.get (R.WL_LANE_STATUS_LOGICAL p i) = s.get (R.WL_LANE_STATUS_LOGICAL p i)) ∧
  (∀ (p : WlPort) (now : Nat) (s : State), s.live = true →
    let w := s.wlPort p
    let still := s.flag (R.WL_CTRL_IDLE_EN p) = true ∧ w.lastTx + 1000 * s.get (R.WL_IDLE_ENTER_US p) ≤ max s.raw now
    (s.wlRuns p = true → still → w.tx = [] → ∃ t, exec (.idleEntry p now) s = .next t ∧ t.wlState p = 4 ∧ Sys2Proof.Spec.sends s t p none (.idle true false) ∧
      t.get (R.WL_CNT_COUNT p 10) = (s.get (R.WL_CNT_COUNT p 10) + 1) % 2 ^ 64) ∧
    (s.wlRuns p = true → still → w.tx ≠ [] → ∃ t, exec (.idleEntry p now) s = .next t ∧ t.wlState p = s.wlState p ∧ t.wl = s.wl ∧ t.out = s.out ∧
      t.get (R.WL_CNT_COUNT p 11) = (s.get (R.WL_CNT_COUNT p 11) + 1) % 2 ^ 64) ∧
    (¬still → exec (.idleEntry p now) s = .next (s.advance now)) ∧
    (s.wlState p = 4 → w.tx ≠ [] → w.ctl = [] → ∃ t, exec (.idleExit p now) s = .next t ∧ t.wlState p = (if w.half = true then 3 else 2) ∧ t.wlPort p = w ∧ t.out = s.out) ∧
    (s.wlState p = 4 → w.tx = [] → w.ctl = [] → exec (.idleExit p now) s = .next (s.advance now)))

/-! ### The Claim Bus and protection groups -/

/-- The winner of a cycle is the highest claim and, of equal claims, the highest UNIT: it is what is sampled on CLB_DAT, and the device emits the bits
that it drives; every complete cycle is recorded in WIN. HEARTBEAT_CYCLE: an ACTIVE unit that wins keeps its role, one that loses becomes STANDBY,
reports DEMOTED and its channel is told to stop; a STANDBY's miss count returns to 0. CHALLENGE_CYCLE: a challenger that wins becomes ACTIVE and
reports TAKEOVER, and starts its admitted channel, CLAIM posted last; one that loses counts a false alarm; an ACTIVE unit that wins keeps its role.
CLAIM_BUS_FAULT sets FAULT and reports once; a faulted bus makes no cycle and counts no miss; BUS_FAULT_CLEAR after 1 ms clears it and every standby's
misses. HEARTBEAT_MISS at its time counts a miss, the Hth makes a challenge pending or reports the epoch limit. YIELD_GROUP acts on an ACTIVE unit
only. STANDBY_TOKEN_RETURN drops the oldest due frame. The newest valid image slot has the higher SEQ. (R591, R597, R598, R599, R600, R601, R602,
R603, R610, R611, R616, R618) -/
def Obligations.ClaimBusCycles : Prop :=
  (∀ l : List (Nat × Nat), (l = [] → winner l = none) ∧ (l ≠ [] → ∃ w, winner l = some w ∧ w ∈ l ∧ ∀ b ∈ l, b.1 < w.1 ∨ (b.1 = w.1 ∧ b.2 ≤ w.2))) ∧
  (∀ (l : List (Nat × Nat)) (w : Nat × Nat), (∀ b ∈ l, b.1 < 2 ^ 32 ∧ b.2 < 8) → winner l = some w → sampled 35 (l.map bidBits) = bidBits w) ∧
  (∀ (g : GroupId) (bids : List Bid) (now ready : Nat) (s : State), s.up = true → s.halted = false → s.clbOn = false →
    exec (.heartbeatCycle g bids now) s = .next (s.advance now) ∧ exec (.challengeCycle g bids ready now) s = .next (s.advance now) ∧
    exec (.heartbeatMiss g now) s = .next (s.advance now)) ∧
  (∀ (g : GroupId) (bids : List Bid) (now : Nat) (w : Nat × Nat) (s : State), s.up = true → s.halted = false → s.clbOn = true →
    s.flag (R.CLB_GRP_CFG_ENABLE g) = true → winner (s.hbBid g ++ bidPairs bids) = some w →
    let seen := fun (u : State) => u.get (R.CLB_GRP_WIN_CLAIM g) = w.1 % 2 ^ 32 ∧ u.get (R.CLB_GRP_WIN_UNIT g) = w.2 % 8 ∧ u.flag (R.CLB_GRP_WIN_VALID g) = true ∧
      tget (fun _ => 0) u.epochs g = w.1 / 256
    let bus := Output.claimBus ((s.advance now).busBits g false ((s.advance now).hbBid g) (bidPairs bids))
    (s.get (R.CLB_GRP_STATUS_ROLE g) = 1 → w.2 = s.get R.CLB_CTRL_UNIT_ID → ∃ t, exec (.heartbeatCycle g bids now) s = .next t ∧ seen t ∧
      t.get (R.CLB_GRP_STATUS_ROLE g) = 1 ∧ (t.grp g).hb = false ∧ t.out = bus :: s.out) ∧
    (s.get (R.CLB_GRP_STATUS_ROLE g) = 1 → w.2 ≠ s.get R.CLB_CTRL_UNIT_ID → ∃ u v : State, exec (.heartbeatCycle g bids now) s =
        .next ((v.haltChannel (v.get (R.CLB_GRP_CFG_CHANNEL g))).emit bus) ∧ v = u.report 428 (suspect kGroup g) ∧ seen u ∧ u.get (R.CLB_GRP_STATUS_ROLE g) = 2 ∧
        u.flag (R.CLB_GRP_STATUS_YIELDING g) = false ∧ u.get (R.CLB_CNT_COUNT 3) = (s.get (R.CLB_CNT_COUNT 3) + 1) % 2 ^ 64) ∧
    (s.get (R.CLB_GRP_STATUS_ROLE g) = 2 → ∃ t, exec (.heartbeatCycle g bids now) s = .next t ∧ seen t ∧ t.get (R.CLB_GRP_STATUS_ROLE g) = 2 ∧
      t.get (R.CLB_GRP_STATUS_MISSES g) = 0 ∧ (t.grp g).th = max s.raw now ∧ (t.grp g).k = 0)) ∧
  (∀ (g : GroupId) (bids : List Bid) (ready now : Nat) (w : Nat × Nat) (s : State), s.up = true → s.halted = false → s.clbOn = true →
    s.flag (R.CLB_GRP_CFG_ENABLE g) = true → winner (s.chBid g ++ bidPairs bids) = some w →
    let seen := fun (u : State) => u.get (R.CLB_GRP_WIN_CLAIM g) = w.1 % 2 ^ 32 ∧ u.get (R.CLB_GRP_WIN_UNIT g) = w.2 % 8 ∧ u.flag (R.CLB_GRP_WIN_VALID g) = true ∧
      tget (fun _ => 0) u.epochs g = w.1 / 256
    let bus := Output.claimBus ((s.advance now).busBits g true ((s.advance now).chBid g) (bidPairs bids))
    let mine := w.2 = s.get R.CLB_CTRL_UNIT_ID ∧ s.chBid g ≠ []
    let ch := s.get (R.CLB_GRP_CFG_CHANNEL g)
    (s.get (R.CLB_GRP_STATUS_ROLE g) = 1 → mine → ∃ t, exec (.challengeCycle g bids ready now) s = .next t ∧ seen t ∧ t.get (R.CLB_GRP_STATUS_ROLE g) = 1 ∧ t.out = bus :: s.out) ∧
    (s.get (R.CLB_GRP_STATUS_ROLE g) = 1 → ¬mine → ∃ u v : State, exec (.challengeCycle g bids ready now) s =
        .next ((v.haltChannel (v.get (R.CLB_GRP_CFG_CHANNEL g))).emit bus) ∧ v = u.report 428 (suspect kGroup g) ∧ seen u ∧ u.get (R.CLB_GRP_STATUS_ROLE g) = 2) ∧
    (s.get (R.CLB_GRP_STATUS_ROLE g) = 2 → (s.grp g).challenge = true →
      (mine → ∃ u v : State, v = u.report 427 (suspect kGroup g) ∧ seen u ∧ u.get (R.CLB_GRP_STATUS_ROLE g) = 1 ∧
        u.get (R.CLB_GRP_CNT_COUNT g 5) = (s.get (R.CLB_GRP_CNT_COUNT g 5) + 1) % 2 ^ 64 ∧
        (v.boundThread ch = none → (v.chan ch).loaded = none → exec (.challengeCycle g bids ready now) s = .next (v.emit bus)) ∧
        (∀ t, (v.boundThread ch).orElse (fun _ => (v.chan ch).loaded) = some t → (v.admOf ch).admitted = true → v.running ch = false → ∃ at',
          at' ≤ (s.grp g).td + 1900000 ∧ exec (.challengeCycle g bids ready now) s = .next (((v.bindThread ch t).startStandby g ch t at').emit bus))) ∧
      (¬mine → ∃ t, exec (.challengeCycle g bids ready now) s = .next t ∧ seen t ∧ t.get (R.CLB_GRP_STATUS_ROLE g) = 2 ∧ (t.grp g).challenge = false ∧
        t.get (R.CLB_GRP_STATUS_MISSES g) = 0 ∧ t.get (R.CLB_GRP_CNT_COUNT g 4) = (s.get (R.CLB_GRP_CNT_COUNT g 4) + 1) % 2 ^ 64))) ∧
  (∀ (g : GroupId) (ch : Chan) (t : Thr) (at' : Nat) (s : State),
    (∃ v w : State, s.startStandby g ch t at' = (if w.mapOk t = true then w.startThread t else w).postThread t 15 ∧ w.running ch = true ∧ (w.chan ch).handed = 0 ∧
      (w.chan ch).first = v.takeoverFrame ch (max s.raw at')) ∧
    ∀ i q, s.newestSlot g = some (i, q) → s.slotSeq g i = some q ∧ ∀ j < 2, ∀ r, s.slotSeq g j = some r → r ≤ q) ∧
  (∀ (k : Fin 3) (b : Bool) (now : Nat) (s : State), s.up = true → s.halted = false →
    (s.flag R.CLB_CTRL_ENABLE = false → exec (.claimBusFault k b now) s = .next (s.advance now)) ∧
    (s.flag R.CLB_CTRL_ENABLE = true → s.flag R.CLB_STATUS_FAULT = false → ∃ u : State, exec (.claimBusFault k b now) s = .next (u.report 426 0) ∧
      u.flag R.CLB_STATUS_FAULT = true ∧ u.get R.CLB_STATUS_FAULT_KIND = k ∧ u.flag R.CLB_STATUS_FAULT_SEEN = true ∧ u.busFaultAt = max s.raw now ∧ u.clbOn = false ∧
      u.get (R.CLB_CNT_COUNT 1) = (s.get (R.CLB_CNT_COUNT 1) + 1) % 2 ^ 64 ∧
      u.get (R.CLB_CNT_COUNT 2) = (s.get (R.CLB_CNT_COUNT 2) + if b = true then 1 else 0) % 2 ^ 64) ∧
    (s.flag R.CLB_CTRL_ENABLE = true → s.flag R.CLB_STATUS_FAULT = true → ∃ t, exec (.claimBusFault k b now) s = .next t ∧ t.busFaultAt = max s.raw now ∧ t.out = s.out ∧
      t.flag R.CLB_STATUS_FAULT = true) ∧
    (s.flag R.CLB_STATUS_FAULT = true → s.busFaultAt + 1000000 ≤ max s.raw now → ∃ t, exec (.busFaultClear now) s = .next t ∧ t.flag R.CLB_STATUS_FAULT = false ∧
      ∀ g ∈ s.standbyGroups, t.get (R.CLB_GRP_STATUS_MISSES g) = 0 ∧ (t.grp g).th = max s.raw now ∧ (t.grp g).k = 0) ∧
    (max s.raw now < s.busFaultAt + 1000000 → exec (.busFaultClear now) s = .next (s.advance now))) ∧
  (∀ (g : GroupId) (now : Nat) (s : State), s.up = true → s.halted = false → s.clbOn = true → s.flag (R.CLB_GRP_CFG_ENABLE g) = true →
    s.get (R.CLB_GRP_STATUS_ROLE g) = 2 →
    let due := ((s.grp g).th + 100000) * 2 ^ 32 + ((s.grp g).k + 1) * s.period (s.get (R.CLB_GRP_CFG_CHANNEL g)) ≤ max s.raw now * 2 ^ 32
    let m := s.get (R.CLB_GRP_STATUS_MISSES g)
    let last := m + 1 = s.get (R.CLB_GRP_CFG_H g) ∧ (s.grp g).challenge = false
    (¬due → exec (.heartbeatMiss g now) s = .next (s.advance now)) ∧
    (due → ¬(last ∧ tget (fun _ => 0) s.epochs g = 0xFFFFFF) → ∃ t, exec (.heartbeatMiss g now) s = .next t ∧ (t.grp g).k = (s.grp g).k + 1 ∧
      t.get (R.CLB_GRP_STATUS_MISSES g) = min (m + 1) 15 ∧ t.get (R.CLB_GRP_CNT_COUNT g 2) = (s.get (R.CLB_GRP_CNT_COUNT g 2) + 1) % 2 ^ 64 ∧
      (last → (t.grp g).challenge = true ∧ (t.grp g).td = max s.raw now ∧ t.flag (R.CLB_GRP_STATUS_PENDING g) = true ∧
        t.get (R.CLB_GRP_CNT_COUNT g 3) = (s.get (R.CLB_GRP_CNT_COUNT g 3) + 1) % 2 ^ 64) ∧
      (¬last → (t.grp g).challenge = (s.grp g).challenge)) ∧
    (due → last → tget (fun _ => 0) s.epochs g = 0xFFFFFF → ∃ u : State, exec (.heartbeatMiss g now) s = .next (u.report 430 (suspect kGroup g)) ∧
      (u.grp g).challenge = false)) ∧
  (∀ (g : GroupId) (s : State), s.up = true → s.halted = false →
    (s.get (R.CLB_GRP_STATUS_ROLE g) = 1 → ∃ t, exec (.yieldGroup g) s = .next t ∧ t.flag (R.CLB_GRP_STATUS_YIELDING g) = true ∧ t.hbBid g = [] ∧ t.chBid g = [] ∧
      t.get (R.CLB_GRP_STATUS_ROLE g) = 1) ∧
    (s.get (R.CLB_GRP_STATUS_ROLE g) ≠ 1 → exec (.yieldGroup g) s = .next s)) ∧
  (∀ (ch : Chan) (g : GroupId) (f : FrameSt) (now : Nat) (s : State), s.ingestOn = true → s.standby ch = true → s.running ch = false →
    s.standbyGroups.filter (fun g => decide (s.get (R.CLB_GRP_CFG_CHANNEL g) = ch)) = [g.val] →
    (s.chan ch).frames.find? (fun f => (s.advance now).reached (s.tFrame ch (f.n + 1) + ns 12000)) = some f →
    ∃ t, exec (.standbyTokenReturn ch now) s = .next t ∧ (∀ x ∈ (t.chan ch).frames, x.n ≠ f.n) ∧
      t.get (R.CLB_GRP_CNT_COUNT g 8) = (s.get (R.CLB_GRP_CNT_COUNT g 8) + 1) % 2 ^ 64)

/-! ### The Heath island and the health monitor -/

/-- A refused request for PS2 or PS3 sets REFUSED with a notice; an accepted one begins an entry, which a wake before the gates open aborts, and which
else ends in PS2 (PS3 if asked). PS2_EXIT_COMPLETE returns to PS0; PS1_IDLE_ENTRY enters PS1 after the idle time. A wake source acts if enabled, not
tripped, in its states of R658; SCHEDULE and LINK fire as listed. SENSOR_SAMPLE shows the median of five of every sensor, then evaluates the rules,
which fire and re-arm as R661 says; a diode at 115 °C trips to PS3; OFF goes before WAKE before DOZE. WDOG_TIMEOUT restarts the four cores at the
firmware entry and reports; a kick restarts the time. AON_ALIGN, OSC_TRIM_UPDATE and REFCLK_LOST do as R665, R666 and R676 say. MARGIN_SAMPLE shows
the smallest margin; below target the voltage rises one step a ms, at its top the ceiling falls by 25 permille a second, with a report. EYE_SCAN
stores the eye and moves the peaking one step; CE_TREND_HOUR adds the day's errors; SERVICE_ESTIMATE reads 0xFFFF unless the margin falls. (R651,
R653, R654, R655, R657, R658, R661, R664, R666, R671, R672, R675) -/
def Obligations.HeathAndAgeing : Prop :=
  (∀ (g : BitVec 2) (now : Nat) (s : State), 2 ≤ g.toNat →
    let busy := (∃ p ∈ s.chans, p.2.running = true) ∨ (∃ i < 64, s.flag (R.DMA_CH_STATUS_BUSY i) = true) ∨
      ∃ k ∈ s.standbyGroups, s.get (R.CLB_GRP_CFG_H k) = 1 ∨ g.toNat = 3
    (busy → s.ps ≠ 3 → ∃ u : State, exec (.hthPsReq g now) s = .next (u.blockNotice 4) ∧ u.flag R.HTH_PS_STATUS_REFUSED = true ∧ u.ps = s.ps ∧ u.heath = s.heath) ∧
    (¬busy → s.ps ≤ 1 → s.heath.entry = none → ∃ t, exec (.hthPsReq g now) s = .next t ∧ t.heath = { s.heath with entry := some (decide (g.toNat = 3)) } ∧ t.ps = s.ps) ∧
    (¬busy → s.ps = 2 → g.toNat = 3 → ∃ t, exec (.hthPsReq g now) s = .next t ∧ t.ps = 3 ∧ t.heath.wakeOut = false)) ∧
  (∀ (now : Nat) (s : State), s.up = true →
    (s.heath.entry = none → exec (.ps2EntryComplete false now) s = .next (s.advance now)) ∧
    (∀ deep late, s.heath.entry = some deep →
      (s.heath.entryWake.isSome = true → late = false → ∃ t, exec (.ps2EntryComplete late now) s = .next t ∧ t.ps = s.ps ∧ t.heath.entry = none ∧
        t.get R.HTH_CNT_ENTRY_ABORTS_COUNT = (s.get R.HTH_CNT_ENTRY_ABORTS_COUNT + 1) % 2 ^ 64) ∧
      (s.heath.entryWake.isSome = true → late = true → ∃ t, exec (.ps2EntryComplete late now) s = .next t ∧ t.ps = 2 ∧ t.heath.exiting = true) ∧
      (s.heath.entryWake = none → ∃ t, exec (.ps2EntryComplete late now) s = .next t ∧ t.ps = (if deep = true then 3 else 2) ∧ t.heath.entry = none ∧
        t.flag R.HTH_PS_STATUS_INGEST_HELD = (!deep && decide (s.standbyGroups ≠ [])))) ∧
    (s.ps = 2 → s.heath.exiting = true → ∃ w : State, w.ps = 0 ∧ w.heath.exiting = false ∧ w.flag R.HTH_PS_STATUS_INGEST_HELD = false ∧ exec (.ps2ExitComplete now) s =
      .next ((List.range 4).foldl (fun s k => (s.setMemSt k { s.memSt k with srWanted := false }).srExit k) w)) ∧
    (∀ b, s.halted = false → s.ps = 0 → s.flag R.HTH_PS_CTRL_PS1_AUTO = true → s.heath.entry = none → s.ps1Quiet = true →
      (b + 1000 * s.get R.HTH_PS_CTRL_PS1_IDLE_US ≤ max s.raw now → ∃ t, exec (.ps1IdleEntry b now) s = .next t ∧ t.ps = 1) ∧
      (max s.raw now < b + 1000 * s.get R.HTH_PS_CTRL_PS1_IDLE_US → exec (.ps1IdleEntry b now) s = .next (s.advance now)))) ∧
  (∀ (c : Nat) (s : State), c < 6 → s.heath.entry = none →
    (s.wakeOk c = true ↔ (s.get R.HTH_WAKE_EN_EN).testBit c = true ∧ s.heath.tripHold = false ∧
      (s.ps = 1 ∧ c ≤ 3 ∨ s.ps = 2 ∨ s.ps = 3 ∧ c ≠ 3 ∧ c ≠ 4)) ∧
    (s.wakeOk c = false → s.wakeFrom c = s) ∧
    (s.wakeOk c = true → (s.ps = 1 → (s.wakeFrom c).ps = 0) ∧ (s.ps = 2 → (s.wakeFrom c).heath.exiting = true ∧ (s.wakeFrom c).ps = 2) ∧
      (s.ps = 3 → (s.wakeFrom c).heath.wakeOut = true) ∧
      (s.heath.exiting = false → (s.ps = 3 → s.heath.wakeOut = false) → (s.wakeFrom c).get R.HTH_PS_STATUS_WAKE_CAUSE = c))) ∧
  (∀ (i : Fin 7) (s : State), let t0 := s.get R.HTH_WAKE_TIME_TIME
    (t0 ≤ s.get R.HTH_AON_NS_NS → s.heath.schedFired ≠ some t0 →
      exec .wakeSchedule s = .next (({ s with heath := { s.heath with schedFired := some t0 } } : State).wakeFrom 0)) ∧
    (s.get R.HTH_AON_NS_NS < t0 ∨ s.heath.schedFired = some t0 → exec .wakeSchedule s = .next s) ∧
    exec (.linkActivity i) s = .next (if s.get (R.HTH_SENSOR_VALUE (25 + i)) = 0 then s.wakeFrom 5 else s)) ∧
  (∀ (v : List (BitVec 16)) (now : Nat) (s : State), ∃ a : State, a.mem = s.mem ∧
    (∀ i < 33, tget (fun _ => []) a.heath.samples i = ((v.getD i 0).toNat :: tget (fun _ => []) s.heath.samples i).take 5 ∧
      a.get (R.HTH_SENSOR_VALUE i) = medianBy (fun x y => decide (sensorVal i x ≤ sensorVal i y)) (tget (fun _ => []) a.heath.samples i) % 2 ^ 16) ∧
    exec (.sensorSample v now) s = .next ((a.evalRules.1.supplyTest.hotTest.tripTest).powerAction a.evalRules.2
      (decide (s.get (R.HTH_SENSOR_VALUE 24) = 0) && decide (a.get (R.HTH_SENSOR_VALUE 24) ≠ 0)))) ∧
  (∀ (le : Nat → Nat → Bool) (l : List Nat), (∀ a b, le a b = true ∨ le b a = true) → (∀ a b c, le a b = true → le b c = true → le a c = true) →
    l.length = 5 → let m := medianBy le l
    m ∈ l ∧ 3 ≤ (l.filter (fun x => le x m)).length ∧ 3 ≤ (l.filter (fun x => le m x)).length) ∧
  (∀ (i : Nat) (s : State), i < 32 → s.flag (R.HTH_RULE_EN i) = true → s.flag (R.HTH_RULE_ABOVE i) = true →
    let th := sensorVal (s.get (R.HTH_RULE_SENSOR i)) (s.get (R.HTH_RULE_THRESH i))
    let r := s.evalRule i
    (s.flag (R.HTH_RULE_FIRED i) = false → (r.2 = true ↔ th ≤ s.tested i) ∧ (r.1.flag (R.HTH_RULE_FIRED i) = true ↔ th ≤ s.tested i)) ∧
    (s.flag (R.HTH_RULE_FIRED i) = true → r.2 = false ∧ (r.1.flag (R.HTH_RULE_FIRED i) = false ↔ s.tested i < th - s.get (R.HTH_RULE_HYST i)))) ∧
  (∀ (s : State) (acts : List Nat) (rise : Bool),
    ((∃ i < 12, 460 ≤ s.sensor i) → s.heath.tripHold = false → s.ps ≠ 3 → s.tripTest.ps = 3 ∧ s.tripTest.heath.tripHold = true ∧ s.tripTest.flag R.HTH_PS_STATUS_TRIPPED = true) ∧
    (5 ∈ acts → s.powerAction acts rise = s.enterPs3) ∧
    (5 ∉ acts → rise = true → s.wakeOk 1 = true → s.powerAction acts rise = s.wakeFrom 1) ∧
    (5 ∉ acts → rise = false → 3 ∈ acts → s.wakeOk 2 = true → s.powerAction acts rise = s.wakeFrom 2) ∧
    (5 ∉ acts → rise = false → 3 ∉ acts → 4 ∈ acts → s.powerAction acts rise = s.psRequest 2)) ∧
  (∀ (now : Nat) (ppb : BitVec 32) (s : State),
    (∃ t, exec (.wdogKick now) s = .next t ∧ t.heath = { s.heath with kickAt := max s.raw now } ∧ t.regs = s.regs) ∧
    (s.live = true → s.flag R.HTH_WDOG_EN = true → s.heath.kickAt + 1000000 * s.get R.HTH_WDOG_TIMEOUT_MS < max s.raw now →
      ∃ u : State, exec (.wdogTimeout now) s = .next ((u.report 10 (suspect kCore 0)).raiseLines 5) ∧ u.chans = s.chans ∧ u.mem = s.mem ∧
        (∀ k < 4, (u.thr (256 + k)).pc = Config.firmwareEntry ∧ (u.thr (256 + k)).st = .runnable ∧ (u.thr (256 + k)).g = []) ∧ ∀ n < 256, u.thr n = s.thr n) ∧
    (s.flag R.HTH_WDOG_EN = false ∨ max s.raw now ≤ s.heath.kickAt + 1000000 * s.get R.HTH_WDOG_TIMEOUT_MS → s.live = true →
      exec (.wdogTimeout now) s = .next (s.advance now)) ∧
    (s.up = true → (∃ t, exec (.aonAlign now) s = .next t ∧ t.get R.HTH_AON_NS_NS = max s.raw now % 2 ^ 64 ∧ t.heath.aonFrac = 0) ∧
      exec (.refclkLost now) s = .next (((s.advance now).report 14 0).raiseLines 5) ∧
      (-50000 ≤ ppb.toInt → ppb.toInt ≤ 50000 → ∃ t, exec (.oscTrimUpdate ppb) s = .next t ∧ t.getSigned R.HTH_OSC_TRIM_PPB = ppb.toInt) ∧
      (ppb.toInt < -50000 ∨ 50000 < ppb.toInt → exec (.oscTrimUpdate ppb) s = .next ((s.report 15 0).raiseLines 5)))) ∧
  (∀ (v : List (BitVec 16)) (now : Nat) (s : State), s.live = true → (∀ x ∈ v, 0 ≤ x.toInt) → ∃ w m,
    (∀ i : Fin 512, m.num * ((Config.pdmK i).1 + 1) ≤ (v.getD i.val 0).toInt * ((Config.pdmK i).2 + 1) * m.den) ∧
    (∃ i : Fin 512, m.num = (v.getD i.val 0).toInt * ((Config.pdmK i).2 + 1) ∧ m.den = (Config.pdmK i).1 + 1) ∧ (∀ i < 512, w.get (R.HLT_PDM_SLACK i) = (v.getD i 0).toNat) ∧
    w.get R.HLT_STATUS_MARGIN_MV = (Config.wholeMargin m.num m.den % 2 ^ 16).toNat ∧ w.hlt = s.hlt ∧ w.get R.HLT_STATUS_VID = s.get R.HLT_STATUS_VID ∧
    exec (.marginSample v now) s = .next (if s.flag R.HLT_CTRL_ENABLE = true then (w.replanVoltage m).replanCeiling m else w)) ∧
  (∀ (m : Margin) (s : State), m.num < s.get R.HLT_MARGIN_CFG_TARGET_MV * m.den →
    (s.flag R.HLT_CTRL_VID_EN = true → s.get R.HLT_STATUS_VID < 40 → (∀ a, s.hlt.stepAt = some a → a + 1000000 ≤ s.raw) →
      (s.replanVoltage m).get R.HLT_STATUS_VID = s.get R.HLT_STATUS_VID + 1 ∧ (s.replanVoltage m).hlt.stepAt = some s.raw) ∧
    (s.flag R.HLT_CTRL_VID_EN = false ∨ 40 ≤ s.get R.HLT_STATUS_VID → (s.replanVoltage m).regs = s.regs) ∧
    (∀ a, s.flag R.HLT_CTRL_AUTO_CEIL = true → s.get R.HLT_STATUS_VID = 40 → s.hlt.lowSince = some a → a + 1000000000 ≤ s.raw → 500 < s.get R.DSP_ADM_CEIL_PERMILLE →
      ∃ u : State, s.replanCeiling m = u.report 432 0 ∧ u.get R.DSP_ADM_CEIL_PERMILLE = max 500 (s.get R.DSP_ADM_CEIL_PERMILLE - 25))) ∧
  (∀ (l : Fin 67) (mv : BitVec 8) (more : Bool) (now : Nat) (s : State), s.live = true → l.val < 16 →
    let floor := s.get (R.MP_LANE_EQ_EYE_FLOOR_MV l)
    let p := s.get (R.MP_LANE_EQ_CTLE_PEAK l)
    (s.flag (R.MP_LANE_STATUS_LOCK l) = false → exec (.eyeScan l mv more now) s = .next (s.advance now)) ∧
    (s.flag (R.MP_LANE_STATUS_LOCK l) = true → floor ≤ mv.toNat → ∃ t, exec (.eyeScan l mv more now) s = .next t ∧ t.get (R.HLT_EYE_MV l) = mv.toNat ∧
      t.get (R.MP_LANE_EQ_CTLE_PEAK l) = if s.flag R.HLT_CTRL_ENABLE = true ∧ s.flag R.HLT_CTRL_AUTO_EQ = true ∧ mv.toNat < 2 * floor
        then (if more = true then min 31 (p + 1) else p - 1) else p) ∧
    (s.flag (R.MP_LANE_STATUS_LOCK l) = true → mv.toNat < floor → ∃ u w : State, u.get (R.HLT_EYE_MV l) = mv.toNat ∧ w = u.report 434 (suspect kLane l) ∧
      exec (.eyeScan l mv more now) s = .next (if w.flag R.HLT_CTRL_ENABLE = true ∧ w.flag R.HLT_CTRL_AUTO_EQ = true
        then w.set (R.MP_LANE_EQ_CTLE_PEAK l) (if more = true then min 31 (w.get (R.MP_LANE_EQ_CTLE_PEAK l) + 1) else w.get (R.MP_LANE_EQ_CTLE_PEAK l) - 1)
        else w))) ∧
  (∀ (now : Nat) (s : State), s.live = true →
    (s.hlt.hours < 23 → ∃ t, exec (.ceTrendHour now) s = .next t ∧ t.hlt.hours = s.hlt.hours + 1 ∧ t.out = s.out ∧ t.regs = s.regs ∧
      ∀ k < 4, ∀ r < 3, tget (fun _ => 0) t.hlt.ceLast (4 * k + r) = s.get (R.MEM_CNT_CE_COUNT k r) ∧
        tget (fun _ => 0) t.hlt.ceToday (4 * k + r) = tget (fun _ => 0) s.hlt.ceToday (4 * k + r) +
          (s.get (R.MEM_CNT_CE_COUNT k r) - tget (fun _ => 0) s.hlt.ceLast (4 * k + r))) ∧
    (let m := Config.marginAt85 (s.getSigned R.HLT_STATUS_MARGIN_MV) (s.get R.HLT_STATUS_VID)
     (s.hlt.m85 = [] ∨ (∃ x, s.hlt.m85 = [x] ∧ x ≤ m) → ∃ t, exec (.serviceEstimate now) s = .next t ∧ t.get R.HLT_SERVICE_MONTHS = 0xFFFF ∧ t.hlt.m85 = m :: s.hlt.m85) ∧
     (∀ x, s.hlt.m85 = [x] → m < x → (s.get R.HLT_MARGIN_CFG_TARGET_MV : Int) ≤ m → (m - s.get R.HLT_MARGIN_CFG_TARGET_MV) * 100 / ((x - m) * 3044) < 0x10000 →
       ∃ t, exec (.serviceEstimate now) s = .next t ∧ (t.get R.HLT_SERVICE_MONTHS : Int) = (m - s.get R.HLT_MARGIN_CFG_TARGET_MV) * 100 / ((x - m) * 3044)))) ∧
  (∀ l : List Nat, 14 ≤ l.length → (ceTrend l = true ↔ 700 < (l.take 7).sum ∧ 4 * ((l.drop 7).take 7).sum < (l.take 7).sum))

/-! ### The Paddock and the Conservation audit -/

namespace Sys2Proof.Spec

/-- A command of a code waits in the mailbox of a device that works. -/
def inMailbox (s : State) (op : Nat) : Prop := s.pdk.vdd = true ∧ s.up = true ∧ s.flag R.PDK_MB_STATUS_BUSY = true ∧ s.get R.PDK_MB_CMD_OP = op

/-- The mailbox command is answered: RESULT, BUSY clear, and the bytes in the data area. -/
def mailed (t : State) (result : Nat) (b : List (BitVec 8)) : Prop :=
  t.get R.PDK_MB_STATUS_RESULT = result ∧ t.flag R.PDK_MB_STATUS_BUSY = false ∧ ∀ i < b.length, t.byte (mbData + i) = b.getD i 0

/-- A record has closed: it carries the next number, its TYPE and programme, and its 256 bytes begin as R688 says. -/
def closes (s : State) (r : PdkRec) (type prog : Nat) : Prop :=
  r.recno = s.pdk.recno + 1 ∧ r.type = type ∧ r.prog = prog ∧ r.exported = false ∧ r.bytes.length = 256 ∧
  r.bytes.take 7 = [0x50, 0x44, 0x4B, 0x52, 0x00, 0x01, BitVec.ofNat 8 type] ∧ leNat ((r.bytes.drop 8).take 8) = (s.pdk.recno + 1) % 2 ^ 64

end Sys2Proof.Spec

/-- PICTURE_EVENT of a running channel adds its period to the total of its class, the smallest whose limit holds. FEED_TIME notes time and state. A
record that closes takes the next RECNO: USAGE and LOUDNESS each minute in a main store with room (withheld, with STORE_FULL, if nothing may give
way), PROGRAMME_END, SEAL, TAMPER and POWER in the reserved area. PROGRAMME_ENABLE starts a programme with the register's settings; PROGRAMME_END ends
it. READ_RECORD answers the record's bytes, or NOT_FOUND for one that is not stored or closes in the same millisecond; READ_CERT, READ_STATUS and
EXPORTED answer OK. An authority command that verifies changes its parameter, raises SEAL_COUNT and closes a SEAL record; one that does not changes
nothing and answers AUTH_FAIL. LID_OPEN sets TAMPER_SEEN; PDK_SILENT reports after 100 ms. CONS_SNAP_GO freezes the quantities of its SCOPE at the
next CLK_SLOW edge, or shows ERROR, or with SCOPE 0 shows DONE; SNAPSHOT_COMPLETE writes header and body; AUTO_SNAPSHOT takes SCOPE 0xFF when due, or
waits and is counted. (R681, R682, R683, R686, R687, R688, R689, R690, R691, R693, R698, R700) -/
def Obligations.PaddockAndAudit : Prop :=
  (∀ (l : List Nat) (px p : Nat), l.length = 7 →
    let k := classOf l px p
    k ≤ 7 ∧ (k < 7 → px * (1000000000 * 2 ^ 32) ≤ l.getD k 0 * 100000 * p) ∧ ∀ j < k, l.getD j 0 * 100000 * p < px * (1000000000 * 2 ^ 32)) ∧
  (∀ (ch : Chan) (px ms now : Nat) (s : State), s.live = true →
    (s.running ch = true → s.pdk.vdd = true → ∃ t, exec (.pictureEvent ch px) s = .next t ∧ t.regs = s.regs ∧ t.pdk.recno = s.pdk.recno ∧
      ∀ k, tget (fun _ => 0) t.pdk.totals k = tget (fun _ => 0) s.pdk.totals k + if k = s.formatClass ch px then s.period ch else 0) ∧
    (s.running ch = false ∨ s.pdk.vdd = false → exec (.pictureEvent ch px) s = .next s) ∧
    (s.pdk.vdd = true → ∃ t, exec (.feedTime ms now) s = .next t ∧ t.pdk.feedTime = (s.advance now).now.toNat ∧ t.pdk.feedMs = max s.pdk.ms ms ∧
      (t.pdk.noPtp = true ↔ s.get R.TB_STATUS_STATE = tbFree ∨ s.get R.TB_STATUS_STATE = tbHoldover) ∧ t.pdk.totals = s.pdk.totals)) ∧
  (∀ (ms : Nat) (s : State), s.pdk.vdd = true →
    (max s.pdk.ms ms < 60000 * (s.pdk.usageN + 1) → exec (.usageRecordClose ms) s = .next s) ∧
    (60000 * (s.pdk.usageN + 1) ≤ max s.pdk.ms ms →
      (s.pdk.main.length < 15360 → ∃ t r, exec (.usageRecordClose ms) s = .next t ∧ t.pdk.main = s.pdk.main ++ [r] ∧ Sys2Proof.Spec.closes s r 1 0 ∧
        t.pdk.recno = s.pdk.recno + 1 ∧ t.pdk.usageN = s.pdk.usageN + 1 ∧ t.pdk.totals = s.pdk.totals ∧ t.pdk.full = false) ∧
      (15360 ≤ s.pdk.main.length → (∀ d ∈ s.pdk.main, d.exported = false ∧ ¬(d.type = 1 ∧ d.prog = 0) ∧
          ∀ q ∈ s.pdk.main, ¬(q.type = d.type ∧ q.prog = d.prog ∧ d.recno < q.recno)) → ∃ w : State, w.pdk.withheld = true ∧ w.pdk.full = true ∧
        w.pdk.main = s.pdk.main ∧ w.pdk.recno = s.pdk.recno ∧ exec (.usageRecordClose ms) s = .next (if s.pdk.full = true then w else w.pdkAlert))) ∧
    (∀ (i : Nat) (p : PdkProg) (l : List Loudness), s.pdk.progs = [(i, p)] → 60000 * (s.pdk.loudN + 1) ≤ max s.pdk.ms ms → s.pdk.main.length < 15360 →
      ∃ t r, exec (.loudnessRecordClose l ms) s = .next t ∧ t.pdk.main = s.pdk.main ++ [r] ∧ Sys2Proof.Spec.closes s r 2 i ∧ t.pdk.loudN = s.pdk.loudN + 1 ∧
        tfind t.pdk.progs i = some { p with gap := false }) ∧
    (s.pdk.area.length < 512 →
      (∃ u r, exec (.lidOpen ms) s = .next (u : State).pdkAlert ∧ u.pdk.area = s.pdk.area ++ [r] ∧ Sys2Proof.Spec.closes s r 5 0 ∧ u.pdk.tamper = true) ∧
      (∀ (i : Fin 16) (l : Loudness) (p : PdkProg), s.up = true → s.halted = false → tfind s.pdk.progs i = some p → ∃ t r, exec (.programmeEnd i l ms) s = .next t ∧
        t.pdk.area = s.pdk.area ++ [r] ∧ Sys2Proof.Spec.closes s r 3 i ∧ t.flag (R.PDK_PROG_CFG_ENABLE i) = false))) ∧
  (∀ (i : Fin 16) (now : Nat) (gap : Bool) (s : State),
    (s.up = true → s.halted = false → s.pdk.vdd = true → tfind s.pdk.progs i = none → ∃ t, exec (.programmeEnable i) s = .next t ∧ t.flag (R.PDK_PROG_CFG_ENABLE i) = true ∧
      tfind t.pdk.progs i = some ⟨s.get (R.PDK_PROG_CFG_GATING i), s.get (R.PDK_PROG_CFG_LAYOUT i), s.get (R.PDK_PROG_CFG_BUFFER i),
        s.get (R.PDK_PROG_CFG_FIRST_CH i), s.pdk.feedTime, s.pdk.ms, false⟩) ∧
    (s.pdk.area.length < 512 → ∃ t r, exec (.paddockPowerUp gap) s = .next t ∧ t.pdk.vdd = true ∧ t.pdk.ms = 0 ∧ t.pdk.progs = [] ∧
      t.pdk.area = s.pdk.area ++ [r] ∧ Sys2Proof.Spec.closes s r 6 0 ∧ t.pdk.totals = s.pdk.totals ∧ t.pdk.sealCount = s.pdk.sealCount ∧ t.regs = s.regs) ∧
    (s.up = true → s.halted = false → s.flag R.PDK_MB_STATUS_BUSY = true → s.pdk.cmdAt + 100000000 ≤ max s.raw now →
      exec (.pdkSilent now) s = .next ((s.advance now).report 447 0)) ∧
    (max s.raw now < s.pdk.cmdAt + 100000000 → s.up = true → s.halted = false → exec (.pdkSilent now) s = .next (s.advance now))) ∧
  (∀ (ms : Nat) (s : State),
    (Sys2Proof.Spec.inMailbox s 1 →
      let n := s.get R.PDK_MB_CMD_ARG + s.rd mbData 4 * 2 ^ 32
      (∀ r, s.pdkFind n = some r → r.closedMs ≠ max s.pdk.ms ms → ∃ t, exec (.readRecord .mailbox ms) s = .next t ∧ Sys2Proof.Spec.mailed t 0 r.bytes) ∧
      ((∀ r, s.pdkFind n = some r → r.closedMs = max s.pdk.ms ms) → ∃ t, exec (.readRecord .mailbox ms) s = .next t ∧ Sys2Proof.Spec.mailed t 2 [])) ∧
    (∀ a b r, s.pdk.vdd = true → s.pdkFind (BitVec.toNat (a : BitVec 64)) = some r → r.closedMs ≠ max s.pdk.ms ms → ∃ t, exec (.readRecord (.sideband a b) ms) s = .next t ∧
      t.out = .sideband 0 r.bytes :: s.out ∧ t.regs = s.regs) ∧
    (Sys2Proof.Spec.inMailbox s 2 → ∃ t, exec (.readCert .mailbox) s = .next t ∧ Sys2Proof.Spec.mailed t 0 Config.paddockCert) ∧
    (Sys2Proof.Spec.inMailbox s 3 → ∃ t, exec (.readStatus .mailbox) s = .next t ∧ Sys2Proof.Spec.mailed t 0 s.statusBytes) ∧
    (Sys2Proof.Spec.inMailbox s 4 →
      let n := s.get R.PDK_MB_CMD_ARG + s.rd mbData 4 * 2 ^ 32
      ((s.pdkFind n).isSome = true → ∃ t, exec .exported s = .next t ∧ Sys2Proof.Spec.mailed t 0 [] ∧ (∀ r ∈ t.pdk.main ++ t.pdk.area, r.recno = n → r.exported = true) ∧
        t.pdk.recno = s.pdk.recno) ∧
      (s.pdkFind n = none → ∃ t, exec .exported s = .next t ∧ Sys2Proof.Spec.mailed t 2 [] ∧ t.pdk = s.pdk))) ∧
  (∀ (ms : Nat) (s : State), Sys2Proof.Spec.inMailbox s 0x10 → s.pdk.area.length < 512 → s.pdk.sealCount < 2 ^ 32 - 1 →
    let b := fun (c : Nat) => s.bytes mbData (109 + paramBytes c)
    let change : Nat → PdkSt → List (BitVec 8) → Option PdkSt := fun c p v =>
      if c = 1 then installKey p v else if c = 2 then newLimits p v else some { p with tamper := false }
    ∀ q ∈ ([(1, .installAuthority .mailbox ms), (2, .setClassLimits .mailbox ms), (3, .clearTamper .mailbox ms)] : List (Nat × Instr)),
      ((b q.1).headD 0).toNat = q.1 →
      (∀ y, s.authOk q.1 (b q.1) = true → change q.1 (s.pdkAdvance ms).pdk (authParams q.1 (b q.1)) = some y → ∃ t r, exec q.2 s = .next t ∧ Sys2Proof.Spec.mailed t 0 [] ∧
        t.pdk.sealCount = s.pdk.sealCount + 1 ∧ t.pdk.limits = y.limits ∧ t.pdk.authority = y.authority ∧ t.pdk.tamper = y.tamper ∧
        t.pdk.area = s.pdk.area ++ [r] ∧ Sys2Proof.Spec.closes s r 4 0) ∧
      (s.authOk q.1 (b q.1) = false ∨ change q.1 (s.pdkAdvance ms).pdk (authParams q.1 (b q.1)) = none → ∃ t, exec q.2 s = .next t ∧ Sys2Proof.Spec.mailed t 3 [] ∧
        t.pdk = (s.pdkAdvance ms).pdk)) ∧
  (∀ (sc : BitVec 8) (now : Nat) (s : State), s.live = true →
    let n := snapLen sc.toNat
    let a := s.get R.CONS_SNAP_ADDR_ADDR * 4096
    let idle := s.cons.snap = none ∧ s.flag R.CONS_CTRL_ENABLE = true
    let ready := idle ∧ sc ≠ 0
    let y := (s.advance now).advance (s.advance now).nextSlow
    let fits := n ≤ s.get R.CONS_SNAP_SIZE_BYTES ∧ a + n ≤ 0x2100000000
    (ready → fits → ∃ t x, exec (.consSnapGo sc now) s = .next t ∧ t.cons.snap = some x ∧ x.addr = a ∧ x.scope = sc.toNat ∧ max s.raw now < x.raw ∧ slowCycles x.raw = slowCycles (max s.raw now) + 1 ∧
      x.body = (scopeOf sc.toNat).flatMap y.consWords ∧ (∀ q, q ∈ x.failed ↔ q ∈ scopeOf sc.toNat ∧ y.consOk q = false) ∧
      t.flag R.CONS_SNAP_STATUS_BUSY = true) ∧
    (ready → ¬fits → ∃ t, exec (.consSnapGo sc now) s = .next t ∧ t.cons = s.cons ∧ t.get R.CONS_SNAP_STATUS_STATE = 2) ∧
    (¬ready → ∃ t, exec (.consSnapGo sc now) s = .next t ∧ t.cons = s.cons ∧ t.mem = s.mem ∧
      t.get R.CONS_SNAP_STATUS_STATE = if idle then 1 else s.get R.CONS_SNAP_STATUS_STATE)) ∧
  (∀ (now : Nat) (s : State), s.live = true →
    (s.cons.snap = none → exec (.snapshotComplete now) s = .next (s.advance now)) ∧
    (∀ x, s.cons.snap = some x → x.failed = [] → s.cons.autoWaits = false → s.encTags = [] → (∀ j < 16, s.flag (R.MEM_ENC_CFG_ENABLE j) = false) →
      let seq := s.get R.CONS_SNAP_SEQ_SEQ + 1
      ∃ t, exec (.snapshotComplete now) s = .next t ∧ t.cons.snap = none ∧ t.flag R.CONS_SNAP_STATUS_BUSY = false ∧ t.get R.CONS_SNAP_STATUS_STATE = 1 ∧
        t.get R.CONS_SNAP_STATUS_RESULT = 0 ∧ t.get R.CONS_SNAP_SEQ_SEQ = seq % 2 ^ 64 ∧
        t.bytes x.addr 32 = leBytes 4 0x53435A41 ++ leBytes 2 0x0100 ++ leBytes 1 x.scope ++ [0] ++ leBytes 8 seq ++ leBytes 8 x.raw ++ leBytes 4 (snapLen x.scope) ++ [0, 0, 0, 0] ∧
        ∀ i w, x.body[i]? = some w → t.bytes (x.addr + 64 + 8 * i) 8 = leBytes 8 w) ∧
    (let n := s.get R.CONS_CTRL_AUTO_S
     let due := n ≠ 0 ∧ s.cons.autoAt + n * 1000000000 ≤ max s.raw now
     (¬due → exec (.autoSnapshot now) s = .next (s.advance now)) ∧
     (due → s.cons.snap.isSome = true → ∃ t, exec (.autoSnapshot now) s = .next t ∧ t.cons.autoWaits = true ∧ t.cons.snap = s.cons.snap ∧
       t.get R.CONS_CNT_AUTO_DELAYED_COUNT = (s.get R.CONS_CNT_AUTO_DELAYED_COUNT + 1) % 2 ^ 64) ∧
     (due → s.cons.snap = none → s.flag R.CONS_CTRL_ENABLE = true → snapLen 255 ≤ s.get R.CONS_SNAP_SIZE_BYTES →
       s.get R.CONS_SNAP_ADDR_ADDR * 4096 + snapLen 255 ≤ 0x2100000000 → ∃ t x, exec (.autoSnapshot now) s = .next t ∧ t.cons.snap = some x ∧ x.scope = 255 ∧
         t.cons.autoAt = s.cons.autoAt + n * 1000000000)))

/-! ### Startup -/

/-- PWR_GOOD_RISE starts the boot flow on a die whose every register outside the always-on domain has its reset value, with the raw counter at
HTH_AON_NS; PWR_GOOD_FALL leaves such a die. The boot flow takes slot A, else slot B with a report, else waits in RECOVERY; no PLL lock is stage 5; an
accepted image starts the four cores at its entry, and an error of the memory test ends in stage 4. SYS_RST and GCTL_RESET_CORE keep frame memory,
poison, MEM_REMAP, MEM_TESTED and, unless PERST_N is low, the PCIe domain. PERST resets the PCIe domain alone and withdraws DMA; PERST_RELEASE trains
the link and counts the records that were lost. AON_POWER_UP sets AON_LOST. RECOVERY_GO boots an accepted image in stage 3, else sets ERR. SVN_BURN
starts the burn of a larger SVN and SVN_BURN_DONE raises SVN_MIN. DEBUG_RESPONSE opens debug once with a report. RECIPE_KEY_LOAD installs a point of
the curve and clears a slot otherwise. POLICY_LOCK sets LOCK. (R656, R666, R709, R710, R711, R712, R713, R717, R719, R720, R722, R725) -/
def Obligations.Startup : Prop :=
  (∀ (b : BootIn) (s : State),
    (s.pwrGood = false ∨ s.bootPending = true ∨ s.ps = 3 → (s.ps = 3 → s.heath.wakeOut = true) → ∃ w : State, exec (.pwrGoodRise b) s = .next (w.boot b).reportTrip ∧
      w.raw = s.get R.HTH_AON_NS_NS ∧ w.pwrGood = true ∧ w.ps = 0 ∧ w.pdk = s.pdk ∧ w.chans = [] ∧ w.tasks = [] ∧ w.threads = [] ∧ w.mem = [] ∧ w.seqMem = [] ∧
      (∀ k, alwaysOn k = false → w.reg k = State.reset.reg k) ∧ ∀ k, alwaysOn k = true → k ≠ R.HTH_PS_STATUS_STATE.key → w.reg k = s.reg k) ∧
    (s.ps = 3 → s.heath.wakeOut = false → ∃ t, exec (.pwrGoodRise b) s = .next t ∧ t = { s with pwrGood := true }) ∧
    (s.pwrGood = true → ∃ t, exec .pwrGoodFall s = .next t ∧ t.pwrGood = false ∧ t.pdk = s.pdk ∧ t.raw = s.raw ∧ t.chans = [] ∧ t.tasks = [] ∧ t.mem = [] ∧
      (∀ k, alwaysOn k = false → t.reg k = State.reset.reg k) ∧ ∀ k, alwaysOn k = true → t.reg k = s.reg k)) ∧
  (∀ (b : BootIn) (s : State),
    let img := slotImage b.flash
    (b.pll = false → (s.boot b).get R.GCTL_BOOT_STATUS_STAGE = 5) ∧
    (b.pll = true → dirOk b.flash = false ∨ s.imageOk (img 0) = false ∧ s.imageOk (img 1) = false → (s.boot b).get R.GCTL_BOOT_STATUS_STAGE = 3) ∧
    (b.pll = true → dirOk b.flash = true → s.imageOk (img 0) = true →
      (b.errors = [] →
        let t := s.boot b
        t.get R.GCTL_BOOT_STATUS_STAGE = 2 ∧ t.flag R.GCTL_BOOT_STATUS_SLOT_B = false ∧ t.flag R.GCTL_BOOT_STATUS_MEM_TESTED = true ∧ t.get R.MEM_CTRL_MODE = 1 ∧
        t.flag R.MEM_CTRL_ENABLE = true ∧ t.get R.SEC_STATUS_SOURCE = 0 ∧ t.get R.SEC_STATUS_RUN_SVN = num (img 0) 0x0C 4 ∧ t.bytes staging (img 0).length = img 0 ∧
        ∀ k < 4, (t.thr (256 + k)).st = .runnable ∧ (t.thr (256 + k)).pc = staging + num (img 0) 0x10 4) ∧
      (b.errors ≠ [] → s.flag R.GCTL_BOOT_STATUS_MEM_TESTED = false → (s.boot b).get R.GCTL_BOOT_STATUS_STAGE = 4)) ∧
    (b.pll = true → dirOk b.flash = true → s.imageOk (img 0) = false → s.imageOk (img 1) = true → ∃ u : State, s.boot b = u.report 436 0 ∧
      u.flag R.GCTL_BOOT_STATUS_SLOT_B = true ∧ u.get R.SEC_STATUS_SOURCE = 1)) ∧
  (∀ (b : BootIn) (perst : Bool) (now : Nat) (s : State), s.up = true → s.halted = false →
    ∀ q ∈ ([(.sysRst perst b now, perst, 1), (.gctlResetCore b now, false, 2)] : List (Instr × Bool × Nat)), ∃ w : State, exec q.1 s = .next (if b.pll = true then (w.boot b).report 1 0 else w.boot b) ∧
      w.raw = max s.raw now ∧ w.chans = [] ∧ w.tasks = [] ∧ w.poison = s.poison ∧ w.pdk = s.pdk ∧ (∀ a, w.byte a = if inHbm a = true then s.byte a else 0) ∧
      w.reg K.MEM_REMAP = s.reg K.MEM_REMAP ∧ w.flag R.GCTL_BOOT_STATUS_MEM_TESTED = s.flag R.GCTL_BOOT_STATUS_MEM_TESTED ∧ w.get R.GCTL_RESET_CAUSE_CAUSE = q.2.2 ∧
      (∀ k, alwaysOn k = true → k ≠ R.HTH_PS_STATUS_STATE.key → w.reg k = s.reg k) ∧
      (∀ k, pcieKey k = true → w.reg k = if q.2.1 = true then State.reset.reg k else s.reg k) ∧
      ∀ k, alwaysOn k = false → pcieKey k = false → k ≠ K.MEM_REMAP → k ≠ R.GCTL_BOOT_STATUS_STAGE.key → k ≠ R.GCTL_RESET_CAUSE_CAUSE.key → w.reg k = State.reset.reg k) ∧
  (∀ s : State, s.up = true → ∃ t, exec .perst s = .next t ∧ t.get R.GCTL_RESET_CAUSE_CAUSE = 3 ∧ t.hcrs = [] ∧ t.msixTable = [] ∧ t.chans = s.chans ∧
    t.threads = s.threads ∧ t.tasks = s.tasks ∧ t.mem = s.mem ∧ (∀ k, pcieKey k = true → t.reg k = State.reset.reg k) ∧
    ∀ c < 64, (t.dma c).inflight = [] → s.flag (R.DMA_CH_STATUS_BUSY c) = true → (s.dma c).failed = false → (s.dma c).aborted = false →
      t.flag (R.DMA_CH_STATUS_BUSY c) = false ∧ t.get (R.DMA_CH_STATUS_STATUS c) = dmaABORTED) ∧
  (∀ (wd : BitVec 4) (sp : BitVec 3) (s : State), s.up = true → s.flag R.PCI_LINK_STATUS_LINK_UP = false → s.firmware = false ∨ s.lostCmds = [] →
    ∃ t, exec (.perstRelease wd sp) s = .next t ∧ t.get R.PCI_LINK_STATUS_WIDTH = wd.toNat ∧ t.get R.PCI_LINK_STATUS_SPEED = sp.toNat ∧
      t.flag R.PCI_LINK_STATUS_LINK_UP = true ∧ t.lostCmds = [] ∧ t.threads = s.threads ∧
      (s.get R.GCTL_BOOT_STATUS_CQ_LOST ≤ 65535 → t.get R.GCTL_BOOT_STATUS_CQ_LOST = min 65535 (s.get R.GCTL_BOOT_STATUS_CQ_LOST + s.lostCmds.length))) ∧
  (∀ s : State, ∃ t, exec .aonPowerUp s = .next t ∧ t.flag R.HTH_PS_STATUS_AON_LOST = true ∧ t.heath = {} ∧ t.mem = s.mem ∧
    ∀ k, k ≠ R.HTH_PS_STATUS_AON_LOST.key → t.reg k = if alwaysOn k = true then State.reset.reg k else s.reg k) ∧
  (∀ (len : BitVec 23) (s : State), s.up = true → s.halted = false →
    let img := s.bytes staging len.toNat
    let due := len ≠ 0 ∧ len.toNat ≤ 4194304 ∧ s.get R.GCTL_BOOT_STATUS_STAGE = 3
    (¬due → ∀ l, exec (.recoveryGo len l) s = .next (s.set R.SEC_RECOVERY_LENGTH len.toNat)) ∧
    (due → s.imageOk img = true → ∃ t, exec (.recoveryGo len []) s = .next t ∧ t.get R.GCTL_BOOT_STATUS_STAGE = 2 ∧ t.get R.SEC_STATUS_SOURCE = 2 ∧ t.mem = s.mem ∧
      t.get R.SEC_STATUS_RUN_SVN = num img 0x0C 4 ∧ ∀ k < 4, (t.thr (256 + k)).pc = staging + num img 0x10 4) ∧
    (due → s.imageOk img = false → ∀ l, ∃ t, exec (.recoveryGo len l) s = .next t ∧ t.flag R.SEC_STATUS_ERR = true ∧ t.get R.GCTL_BOOT_STATUS_STAGE = 3 ∧
      t.threads = s.threads ∧ t.mem = s.mem)) ∧
  (∀ s : State, s.up = true → s.halted = false →
    (s.flag R.SEC_POLICY_LOCK = false → s.svnFloor < s.get R.SEC_STATUS_RUN_SVN → ∃ t, exec .svnBurn s = .next t ∧ t.flag R.SEC_STATUS_BURNING = true ∧ t.svnMin = s.svnMin) ∧
    (s.flag R.SEC_POLICY_LOCK = true ∨ s.get R.SEC_STATUS_RUN_SVN ≤ s.svnFloor → exec .svnBurn s = .next s) ∧
    (s.flag R.SEC_STATUS_BURNING = true → ∃ t, exec .svnBurnDone s = .next t ∧ t.flag R.SEC_STATUS_BURNING = false ∧ t.svnMin = s.get R.SEC_STATUS_RUN_SVN) ∧
    (∃ t, exec .policyLock s = .next t ∧ t.flag R.SEC_POLICY_LOCK = true ∧ ∀ k, k ≠ R.SEC_POLICY_LOCK.key → t.reg k = s.reg k)) ∧
  (∀ (r : List (BitVec 8)) (s : State), s.up = true → s.halted = false →
    (Config.debugVerify s.boots r = true → s.flag R.SEC_STATUS_DEBUG = false → ∃ u : State, exec (.debugResponse r) s = .next (u.report 437 0) ∧
      u.flag R.SEC_STATUS_DEBUG = true ∧ u.mem = s.mem) ∧
    (Config.debugVerify s.boots r = false ∨ s.flag R.SEC_STATUS_DEBUG = true → exec (.debugResponse r) s = .next s)) ∧
  ∀ (k : Fin 16) (s : State), s.up = true → s.halted = false →
    let x := keyNat ((s.keyWords k).take 48)
    let y := keyNat ((s.keyWords k).drop 48)
    (s.flag R.SEC_POLICY_LOCK = true → exec (.recipeKeyLoad k) s = .next s) ∧
    (s.flag R.SEC_POLICY_LOCK = false → ∃ t, exec (.recipeKeyLoad k) s = .next t ∧
      (onCurve (BitVec.ofNat 384 x) (BitVec.ofNat 384 y) = true → t.flag (R.SEC_RCP_KEY_CFG_VALID k) = true ∧ tfind t.rcpKeys k = some (x, y)) ∧
      (onCurve (BitVec.ofNat 384 x) (BitVec.ofNat 384 y) = false → t.flag (R.SEC_RCP_KEY_CFG_VALID k) = false ∧ tfind t.rcpKeys k = none))

/-! ### The device as a whole -/

/-- State.reset has an empty queue, PWR_GOOD high, power state 0 and is not halted; no channel is bound, no task, thread or ring is active, memory
lists nothing and both memories are canonical; every DMA channel is set to bursts of code 3, TB_RATE_NOW is 0, the timebase is FREE, the raw counter,
the time and the boot stage are 0, and the PCI Express revision ID is 0xA1. The values that the specification does not give are the model's choice
(log 4, 15). (R10, R55, R491, R504, R524, R709, R717) -/
def Obligations.ResetState : Prop :=
  let s := State.reset
  s.pending = [] ∧ s.up = true ∧ s.halted = false ∧ s.live = true ∧ s.ps = 0 ∧ s.raw = 0 ∧ s.now = 0 ∧ s.chans = [] ∧ s.tasks = [] ∧ s.hcrs = [] ∧ s.mem = [] ∧
  s.memoriesWf ∧ (∀ n < 256, (s.thr n).st = .idle) ∧ (∀ c, s.running c = false) ∧ (∀ a, s.byte a = 0) ∧ (∀ c < 64, s.get (R.DMA_CH_CFG_BURST c) = 3) ∧
  s.get R.TB_STATUS_STATE = tbFree ∧ s.getSigned R.TB_RATE_NOW = 0 ∧ s.get R.GCTL_BOOT_STATUS_STAGE = 0 ∧ s.pci.revision = 0xA1

/-- For every command c and state s whose queue is c followed by rest, the step is exec of c on the state whose queue is rest. With an empty queue the
step answers the same state: that is the model's choice (log 50). (95_what_each_step_holds.md) -/
def Obligations.StepRunsTheFrontCommand : Prop :=
  (∀ (c : Instr) (rest : List Instr) (s : State), s.pending = c :: rest → step s = exec c { s with pending := rest }) ∧
  (∀ s : State, s.pending = [] → step s = .next s) ∧
  (∀ (c : Instr) (s : State), step { s with pending := c :: s.pending } = exec c s)

/-- For every state whose device memory and sequencer memories list rising addresses, none with the value that an unlisted address reads as, and for
every command at the front of its queue, the state that the step answers has them in that form too, so that equal contents are equal states. (R2, R42,
R84, R88) -/
def Obligations.MemoriesStayCanonical : Prop := ∀ s t : State, s.memoriesWf → step s = .next t → t.memoriesWf
end

