-- ==== Sys2Proof/Laws/Tables.lean ====
section
/-! SUPPORT. What the operations on sparse tables do: a read after a write, the other keys, and the canonical form. -/

namespace Sys2Proof.Machine

variable {V : Type}

/-! ### Reads after writes -/

theorem tfind_tput_same (t : Table V) (k : Nat) (v : V) : tfind (tput t k v) k = some v := by
  induction t with
  | nil => simp [tput, tfind]
  | cons p t ih =>
    obtain ⟨a, w⟩ := p
    unfold tput
    split
    · simp [tfind]
    · split
      · simp [tfind]
      · simp_all [tfind]

theorem tfind_tput_other (t : Table V) (k j : Nat) (v : V) (h : j ≠ k) : tfind (tput t k v) j = tfind t j := by
  induction t with
  | nil => simp [tput, tfind, Ne.symm h]
  | cons p t ih =>
    obtain ⟨a, w⟩ := p
    unfold tput
    split
    · next e => subst e; simp [tfind, Ne.symm h]
    · split
      · simp [tfind, Ne.symm h]
      · simp [tfind, ih]

theorem tfind_tdel_same (t : Table V) (k : Nat) : tfind (tdel t k) k = none := by
  induction t with
  | nil => rfl
  | cons p t ih =>
    obtain ⟨a, w⟩ := p
    unfold tdel
    split
    · exact ih
    · simp_all [tfind]

theorem tfind_tdel_other (t : Table V) (k j : Nat) (h : j ≠ k) : tfind (tdel t k) j = tfind t j := by
  induction t with
  | nil => rfl
  | cons p t ih =>
    obtain ⟨a, w⟩ := p
    unfold tdel
    split
    · next e => subst e; simp [tfind, Ne.symm h, ih]
    · simp [tfind, ih]

/-- A table read at the key written gives the value written. -/
@[simp] theorem tget_tset_same [DecidableEq V] (d : Nat → V) (t : Table V) (k : Nat) (v : V) : tget d (tset d t k v) k = v := by
  unfold tset tget
  split
  · simp_all [tfind_tdel_same]
  · simp [tfind_tput_same]

/-- A table read at another key gives what it gave before. -/
theorem tget_tset_other [DecidableEq V] (d : Nat → V) (t : Table V) (k j : Nat) (v : V) (h : j ≠ k) :
    tget d (tset d t k v) j = tget d t j := by
  unfold tset tget
  split
  · rw [tfind_tdel_other _ _ _ h]
  · rw [tfind_tput_other _ _ _ _ h]

/-- A table read after a write, by cases on the key. -/
theorem tget_tset [DecidableEq V] (d : Nat → V) (t : Table V) (k j : Nat) (v : V) :
    tget d (tset d t k v) j = if j = k then v else tget d t j := by
  by_cases h : j = k
  · subst h; simp
  · simp [h, tget_tset_other]

/-! ### The canonical form -/

theorem twf_mono [DecidableEq V] (d : Nat → V) (t : Table V) (a b : Nat) (h : b ≤ a) (w : twf d a t = true) : twf d b t = true := by
  cases t with
  | nil => rfl
  | cons p t =>
    obtain ⟨k, v⟩ := p
    simp only [twf, Bool.and_eq_true, decide_eq_true_eq] at w ⊢
    exact ⟨⟨by omega, w.1.2⟩, w.2⟩

theorem twf_tput [DecidableEq V] (d : Nat → V) (t : Table V) (lo k : Nat) (v : V) (hk : lo ≤ k) (hv : v ≠ d k) (w : twf d lo t = true) :
    twf d lo (tput t k v) = true := by
  induction t generalizing lo with
  | nil => simp [tput, twf, hk, hv]
  | cons p t ih =>
    obtain ⟨a, x⟩ := p
    simp only [twf, Bool.and_eq_true, decide_eq_true_eq] at w
    unfold tput
    split
    · next e => subst e; simp [twf, hk, hv, w.2]
    · split
      · next lt => simp [twf, hk, hv, w.1.2, w.2]; omega
      · next ne lt => simp [twf, w.1.1, w.1.2, ih (a + 1) (by omega) w.2]

theorem twf_tdel [DecidableEq V] (d : Nat → V) (t : Table V) (lo k : Nat) (w : twf d lo t = true) : twf d lo (tdel t k) = true := by
  induction t generalizing lo with
  | nil => rfl
  | cons p t ih =>
    obtain ⟨a, x⟩ := p
    simp only [twf, Bool.and_eq_true, decide_eq_true_eq] at w
    unfold tdel
    split
    · exact ih lo (twf_mono d t (a + 1) lo (by omega) w.2)
    · simp [twf, w.1.1, w.1.2, ih (a + 1) w.2]

/-- A write keeps the canonical form. -/
theorem twf_tset [DecidableEq V] (d : Nat → V) (t : Table V) (k : Nat) (v : V) (w : twf d 0 t = true) : twf d 0 (tset d t k v) = true := by
  unfold tset
  split
  · exact twf_tdel d t 0 k w
  · next h => exact twf_tput d t 0 k v (Nat.zero_le k) h w

theorem tget_of_lt [DecidableEq V] (d : Nat → V) (t : Table V) (lo j : Nat) (h : j < lo) (w : twf d lo t = true) : tfind t j = none := by
  induction t generalizing lo with
  | nil => rfl
  | cons p t ih =>
    obtain ⟨a, x⟩ := p
    simp only [twf, Bool.and_eq_true, decide_eq_true_eq] at w
    have hn : a ≠ j := by omega
    simp [tfind, hn, ih (a + 1) (by omega) w.2]

/-- Two tables in canonical form that read alike are equal: equal contents are equal data. -/
theorem table_ext [DecidableEq V] (d : Nat → V) (t u : Table V) (lo : Nat) (wt : twf d lo t = true) (wu : twf d lo u = true)
    (h : ∀ k, tget d t k = tget d u k) : t = u := by
  induction t generalizing u lo with
  | nil =>
    cases u with
    | nil => rfl
    | cons q u =>
      obtain ⟨b, y⟩ := q
      simp only [twf, Bool.and_eq_true, decide_eq_true_eq] at wu
      have := h b
      simp [tget, tfind] at this
      exact absurd this.symm wu.1.2
  | cons p t ih =>
    obtain ⟨a, x⟩ := p
    have wt' := wt
    simp only [twf, Bool.and_eq_true, decide_eq_true_eq] at wt
    cases u with
    | nil =>
      have := h a
      simp [tget, tfind] at this
      exact absurd this wt.1.2
    | cons q u =>
      obtain ⟨b, y⟩ := q
      have wu' := wu
      simp only [twf, Bool.and_eq_true, decide_eq_true_eq] at wu
      have hab : a = b := by
        rcases Nat.lt_trichotomy a b with l | e | l
        · have := h a
          rw [show tget d ((b, y) :: u) a = d a by
            have hn : b ≠ a := by omega
            simp [tget, tfind, hn, tget_of_lt d u (b + 1) a (by omega) wu.2]] at this
          simp [tget, tfind] at this
          exact absurd this wt.1.2
        · exact e
        · have := h b
          rw [show tget d ((a, x) :: t) b = d b by
            have hn : a ≠ b := by omega
            simp [tget, tfind, hn, tget_of_lt d t (a + 1) b (by omega) wt.2]] at this
          simp [tget, tfind] at this
          exact absurd this.symm wu.1.2
      subst hab
      have hxy : x = y := by have := h a; simpa [tget, tfind] using this
      subst hxy
      congr 1
      refine ih u (a + 1) wt.2 wu.2 (fun k => ?_)
      by_cases hk : a = k
      · subst hk
        simp [tget, tget_of_lt d t (a + 1) a (by omega) wt.2, tget_of_lt d u (a + 1) a (by omega) wu.2]
      · have := h k
        simpa [tget, tfind, hk] using this

end Sys2Proof.Machine
end

