-- ==== Sys2Proof/Laws/Registers.lean ====
section
/-! SUPPORT. What reading and writing a register and its fields do. -/

namespace Sys2Proof.Machine

/-! ### Bit fields -/

/-- The number that a word with a replaced field holds. -/
theorem withBits_toNat (v : Word) (lo w x : Nat) (h : lo + w ≤ 64) :
    (withBits v lo w x).toNat = v.toNat % 2 ^ lo + x % 2 ^ w * 2 ^ lo + v.toNat / 2 ^ (lo + w) * 2 ^ (lo + w) := by
  unfold withBits
  rw [BitVec.toNat_ofNat]
  apply Nat.mod_eq_of_lt
  have h1 : v.toNat % 2 ^ lo < 2 ^ lo := Nat.mod_lt _ (by positivity)
  have h2 : x % 2 ^ w < 2 ^ w := Nat.mod_lt _ (by positivity)
  have h3 : v.toNat < 2 ^ 64 := v.isLt
  have h4 : (2 : Nat) ^ 64 = 2 ^ (64 - (lo + w)) * 2 ^ (lo + w) := by rw [← pow_add]; congr 1; omega
  have h5 : v.toNat / 2 ^ (lo + w) < 2 ^ (64 - (lo + w)) := by
    rw [Nat.div_lt_iff_lt_mul (by positivity), ← h4]; exact h3
  have h6 : x % 2 ^ w * 2 ^ lo + 2 ^ lo ≤ 2 ^ (lo + w) := by
    rw [pow_add, Nat.mul_comm (2 ^ lo), ← Nat.succ_mul]; exact Nat.mul_le_mul_right _ h2
  have h7 : v.toNat / 2 ^ (lo + w) * 2 ^ (lo + w) + 2 ^ (lo + w) ≤ 2 ^ (64 - (lo + w)) * 2 ^ (lo + w) := by
    rw [← Nat.succ_mul]; exact Nat.mul_le_mul_right _ h5
  omega

/-- The field replaced reads as the value's low bits. -/
theorem bitsOf_withBits_same (v : Word) (lo w x : Nat) (h : lo + w ≤ 64) : bitsOf (withBits v lo w x) lo w = x % 2 ^ w := by
  unfold bitsOf
  rw [withBits_toNat v lo w x h]
  have e : v.toNat % 2 ^ lo + x % 2 ^ w * 2 ^ lo + v.toNat / 2 ^ (lo + w) * 2 ^ (lo + w) =
      v.toNat % 2 ^ lo + (x % 2 ^ w + 2 ^ w * (v.toNat / 2 ^ (lo + w))) * 2 ^ lo := by rw [pow_add]; ring
  rw [e, Nat.add_mul_div_right _ _ (by positivity), Nat.div_eq_of_lt (Nat.mod_lt _ (by positivity)), Nat.zero_add,
    Nat.add_mul_mod_self_left, Nat.mod_mod]

/-- A field above the one replaced reads as before. -/
theorem bitsOf_withBits_above (v : Word) (lo w x a n : Nat) (h : lo + w ≤ 64) (d : lo + w ≤ a) :
    bitsOf (withBits v lo w x) a n = bitsOf v a n := by
  unfold bitsOf
  rw [withBits_toNat v lo w x h]
  have h1 : v.toNat % 2 ^ lo < 2 ^ lo := Nat.mod_lt _ (by positivity)
  have h2 : x % 2 ^ w < 2 ^ w := Nat.mod_lt _ (by positivity)
  have h6 : x % 2 ^ w * 2 ^ lo + 2 ^ lo ≤ 2 ^ (lo + w) := by
    rw [pow_add, Nat.mul_comm (2 ^ lo), ← Nat.succ_mul]; exact Nat.mul_le_mul_right _ h2
  have e : (2 : Nat) ^ a = 2 ^ (lo + w) * 2 ^ (a - (lo + w)) := by rw [← pow_add]; congr 1; omega
  rw [e, ← Nat.div_div_eq_div_mul, ← Nat.div_div_eq_div_mul, Nat.add_mul_div_right _ _ (by positivity),
    Nat.div_eq_of_lt (show v.toNat % 2 ^ lo + x % 2 ^ w * 2 ^ lo < 2 ^ (lo + w) by omega), Nat.zero_add]

/-- A field below the one replaced reads as before. -/
theorem bitsOf_withBits_below (v : Word) (lo w x a n : Nat) (h : lo + w ≤ 64) (d : a + n ≤ lo) :
    bitsOf (withBits v lo w x) a n = bitsOf v a n := by
  have key : (withBits v lo w x).toNat % 2 ^ (a + n) = v.toNat % 2 ^ (a + n) := by
    rw [withBits_toNat v lo w x h]
    have e1 : x % 2 ^ w * 2 ^ lo = 2 ^ (a + n) * (x % 2 ^ w * 2 ^ (lo - (a + n))) := by
      have : (2 : Nat) ^ lo = 2 ^ (a + n) * 2 ^ (lo - (a + n)) := by rw [← pow_add]; congr 1; omega
      rw [this]; ring
    have e2 : v.toNat / 2 ^ (lo + w) * 2 ^ (lo + w) = 2 ^ (a + n) * (v.toNat / 2 ^ (lo + w) * 2 ^ (lo + w - (a + n))) := by
      have : (2 : Nat) ^ (lo + w) = 2 ^ (a + n) * 2 ^ (lo + w - (a + n)) := by rw [← pow_add]; congr 1; omega
      rw [this, Nat.mul_left_comm, ← this]
    rw [e1, e2, Nat.add_mul_mod_self_left, Nat.add_mul_mod_self_left, Nat.mod_mod_of_dvd _ (pow_dvd_pow 2 (by omega))]
  have f : ∀ y : Nat, y / 2 ^ a % 2 ^ n = y % 2 ^ (a + n) / 2 ^ a := fun y => by rw [pow_add, Nat.mod_mul_right_div_self]
  unfold bitsOf
  rw [f, f, key]

/-! ### Registers -/

/-- A register written reads as the value written. -/
@[simp] theorem reg_setReg_same (s : State) (k : Nat) (v : Word) : (s.setReg k v).reg k = v := by simp [State.reg, State.setReg]

/-- A register written leaves the other registers. -/
theorem reg_setReg_other (s : State) (k j : Nat) (v : Word) (h : j ≠ k) : (s.setReg k v).reg j = s.reg j := by
  simp [State.reg, State.setReg, tget_tset_other _ _ _ _ _ h]

/-- A field set reads as the value's low bits. -/
theorem get_set_same (s : State) (f : Field) (x : Nat) (h : f.lo + f.w ≤ 64) : (s.set f x).get f = x % 2 ^ f.w := by
  simp [State.get, State.set, bitsOf_withBits_same _ _ _ _ h]

/-- A field of another register reads as before. -/
theorem get_set_other (s : State) (f g : Field) (x : Nat) (h : g.key ≠ f.key) : (s.set f x).get g = s.get g := by
  simp [State.get, State.set, reg_setReg_other _ _ _ _ h]

/-- A field beside the one set reads as before. -/
theorem get_set_beside (s : State) (f g : Field) (x : Nat) (h : f.lo + f.w ≤ 64) (k : g.key = f.key) (d : f.lo + f.w ≤ g.lo ∨ g.lo + g.w ≤ f.lo) :
    (s.set f x).get g = s.get g := by
  simp only [State.get, State.set, k, reg_setReg_same]
  rcases d with d | d
  · exact bitsOf_withBits_above _ _ _ _ _ _ h d
  · exact bitsOf_withBits_below _ _ _ _ _ _ h d

/-- A register other than the field's reads as before. -/
theorem reg_set_other (s : State) (f : Field) (x j : Nat) (h : j ≠ f.key) : (s.set f x).reg j = s.reg j := by
  simp [State.set, reg_setReg_other _ _ _ _ h]

/-- A flag set reads as it was set. -/
theorem flag_setFlag_same (s : State) (f : Field) (b : Bool) (h : f.lo + f.w ≤ 64) (w : 0 < f.w) : (s.setFlag f b).flag f = b := by
  have p : 1 < 2 ^ f.w := Nat.one_lt_two_pow (by omega)
  cases b <;> simp [State.flag, State.setFlag, get_set_same _ _ _ h, Nat.mod_eq_of_lt p]

/-! ### Contexts, cores, channels, tasks: a read after a replacement -/

@[simp] theorem thr_setThr_same (s : State) (i : Nat) (t : Thread) : (s.setThr i t).thr i = t := by simp [State.thr, State.setThr]
theorem thr_setThr_other (s : State) (i j : Nat) (t : Thread) (h : j ≠ i) : (s.setThr i t).thr j = s.thr j := by
  simp [State.thr, State.setThr, tget_tset_other _ _ _ _ _ h]
@[simp] theorem turn_setTurn_same (s : State) (t : Nat) (p : IssueSlot) : (s.setTurn t p).turn t = p := by simp [State.turn, State.setTurn]
theorem turn_setTurn_other (s : State) (t j : Nat) (p : IssueSlot) (h : j ≠ t) : (s.setTurn t p).turn j = s.turn j := by
  simp [State.turn, State.setTurn, tget_tset_other _ _ _ _ _ h]
@[simp] theorem core_setCore_same (s : State) (k : Nat) (c : CoreX) : (s.setCore k c).core k = c := by simp [State.core, State.setCore]
theorem core_setCore_other (s : State) (k j : Nat) (c : CoreX) (h : j ≠ k) : (s.setCore k c).core j = s.core j := by
  simp [State.core, State.setCore, tget_tset_other _ _ _ _ _ h]
@[simp] theorem chan_setChan_same (s : State) (ch : Nat) (c : ChanSt) : (s.setChan ch c).chan ch = c := by simp [State.chan, State.setChan]
@[simp] theorem task_setTask_same (s : State) (e : Nat) (t : TaskEntry) : (s.setTask e t).task e = t := by simp [State.task, State.setTask]
theorem task_setTask_other (s : State) (e j : Nat) (t : TaskEntry) (h : j ≠ e) : (s.setTask e t).task j = s.task j := by
  simp [State.task, State.setTask, tget_tset_other _ _ _ _ _ h]

/-- A general register written, by cases: g0 discards and reads as zero (R85). -/
theorem rg_wg (t : Thread) (r j : Nat) (v : Word) : (t.wg r v).rg j = if j = 0 then 0 else if j = r then v else t.rg j := by
  unfold Thread.wg Thread.rg
  by_cases hj : j = 0
  · simp [hj]
  · by_cases hr : r = 0
    · simp [hj, hr]
    · by_cases e : j = r
      · subst e; simp [hj]
      · simp [hj, hr, e, tget_tset_other _ _ _ _ _ e]

/-! ### Memory -/

/-- A byte written reads as written, and every other byte as before. -/
theorem byte_setByte (s : State) (a b : Nat) (v : BitVec 8) : (s.setByte a v).byte b = if b = a then v else s.byte b := by
  simp [State.byte, State.setByte, tget_tset]

/-- Memory operations keep the canonical form. -/
theorem setByte_wf (s : State) (a : Nat) (v : BitVec 8) (h : Memory.wf s.mem) : Memory.wf (s.setByte a v).mem := twf_tset _ _ _ _ h

theorem wr_wf (s : State) (a n v : Nat) (h : Memory.wf s.mem) : Memory.wf (s.wr a n v).mem := by
  induction n generalizing s a v with
  | zero => exact h
  | succ n ih => exact ih _ _ _ (setByte_wf s a _ h)

theorem setBytes_wf (s : State) (a : Nat) (l : List (BitVec 8)) (h : Memory.wf s.mem) : Memory.wf (s.setBytes a l).mem := by
  induction l generalizing s a with
  | nil => exact h
  | cons b t ih => exact ih _ _ (setByte_wf s a b h)

theorem rekey_wf (s : State) (b : Nat) (h : Memory.wf s.mem) : Memory.wf (s.rekey b).mem := by
  unfold State.rekey
  simp only
  split
  · exact setBytes_wf s _ _ h
  · exact h

theorem dSet_wf (s : State) (a : Nat) (v : BitVec 8) (h : Memory.wf s.mem) : Memory.wf (s.dSet a v).mem := setByte_wf _ _ _ (rekey_wf s _ h)

theorem dStore_go_wf (s : State) (a : Nat) (l : List (BitVec 8)) (h : Memory.wf s.mem) : Memory.wf (State.dStore.go s a l).mem := by
  induction l generalizing s a with
  | nil => exact h
  | cons b t ih => exact ih _ _ (dSet_wf s a b h)

theorem dStore_wf (s : State) (a : Nat) (l : List (BitVec 8)) (h : Memory.wf s.mem) : Memory.wf (s.dStore a l).mem := dStore_go_wf s a l h

theorem dWr_wf (s : State) (a n v : Nat) (h : Memory.wf s.mem) : Memory.wf (s.dWr a n v).mem := dStore_wf s a _ h

/-- The same of sequencer memory. -/
theorem setSeqByte_wf (s : State) (k : Nat) (v : BitVec 8) (h : Memory.wf s.seqMem) : Memory.wf (s.setSeqByte k v).seqMem := twf_tset _ _ _ _ h

theorem seqWr_wf (s : State) (k n v : Nat) (h : Memory.wf s.seqMem) : Memory.wf (s.seqWr k n v).seqMem := by
  induction n generalizing s k v with
  | zero => exact h
  | succ n ih => exact ih _ _ _ (setSeqByte_wf s k _ h)

/-- The memories of the reset state are in canonical form. -/
theorem reset_mem_wf : Memory.wf State.reset.mem ∧ Memory.wf State.reset.seqMem := ⟨rfl, rfl⟩

/-- Sequencer memory: a byte written reads as written, and every other byte as before. -/
theorem seqByte_setSeqByte (s : State) (k j : Nat) (v : BitVec 8) : (s.setSeqByte k v).seqByte j = if j = k then v else s.seqByte j := by
  simp [State.seqByte, State.setSeqByte, tget_tset]

end Sys2Proof.Machine
end

