-- ==== Sys2Proof/Laws/State.lean ====
section
/-! SUPPORT. What each named update of the state leaves of its other fields. -/

namespace Sys2Proof.Machine

variable (s : State)

@[simp] theorem setReg_pending (k : Nat) (v : Word) : (s.setReg k v).pending = s.pending := (rfl)
@[simp] theorem setReg_raw (k : Nat) (v : Word) : (s.setReg k v).raw = s.raw := (rfl)
@[simp] theorem setReg_mem (k : Nat) (v : Word) : (s.setReg k v).mem = s.mem := (rfl)
@[simp] theorem setReg_seqMem (k : Nat) (v : Word) : (s.setReg k v).seqMem = s.seqMem := (rfl)
@[simp] theorem setReg_seqBad (k : Nat) (v : Word) : (s.setReg k v).seqBad = s.seqBad := (rfl)
@[simp] theorem setReg_threads (k : Nat) (v : Word) : (s.setReg k v).threads = s.threads := (rfl)
@[simp] theorem setReg_turns (k : Nat) (v : Word) : (s.setReg k v).turns = s.turns := (rfl)
@[simp] theorem setReg_cores (k : Nat) (v : Word) : (s.setReg k v).cores = s.cores := (rfl)
@[simp] theorem setReg_tasks (k : Nat) (v : Word) : (s.setReg k v).tasks = s.tasks := (rfl)
@[simp] theorem setReg_chans (k : Nat) (v : Word) : (s.setReg k v).chans = s.chans := (rfl)
@[simp] theorem setReg_hwSeq (k : Nat) (v : Word) : (s.setReg k v).hwSeq = s.hwSeq := (rfl)
@[simp] theorem setReg_out (k : Nat) (v : Word) : (s.setReg k v).out = s.out := (rfl)
@[simp] theorem setReg_pwrGood (k : Nat) (v : Word) : (s.setReg k v).pwrGood = s.pwrGood := (rfl)
@[simp] theorem setReg_freeCtr (k : Nat) (v : Word) : (s.setReg k v).freeCtr = s.freeCtr := (rfl)
@[simp] theorem setReg_landed (k : Nat) (v : Word) : (s.setReg k v).landed = s.landed := (rfl)

@[simp] theorem set_pending (f : Field) (x : Nat) : (s.set f x).pending = s.pending := (rfl)
@[simp] theorem set_raw (f : Field) (x : Nat) : (s.set f x).raw = s.raw := (rfl)
@[simp] theorem set_mem (f : Field) (x : Nat) : (s.set f x).mem = s.mem := (rfl)
@[simp] theorem set_seqMem (f : Field) (x : Nat) : (s.set f x).seqMem = s.seqMem := (rfl)
@[simp] theorem set_seqBad (f : Field) (x : Nat) : (s.set f x).seqBad = s.seqBad := (rfl)
@[simp] theorem set_threads (f : Field) (x : Nat) : (s.set f x).threads = s.threads := (rfl)
@[simp] theorem set_turns (f : Field) (x : Nat) : (s.set f x).turns = s.turns := (rfl)
@[simp] theorem set_cores (f : Field) (x : Nat) : (s.set f x).cores = s.cores := (rfl)
@[simp] theorem set_tasks (f : Field) (x : Nat) : (s.set f x).tasks = s.tasks := (rfl)
@[simp] theorem set_chans (f : Field) (x : Nat) : (s.set f x).chans = s.chans := (rfl)
@[simp] theorem set_hwSeq (f : Field) (x : Nat) : (s.set f x).hwSeq = s.hwSeq := (rfl)
@[simp] theorem set_out (f : Field) (x : Nat) : (s.set f x).out = s.out := (rfl)
@[simp] theorem set_pwrGood (f : Field) (x : Nat) : (s.set f x).pwrGood = s.pwrGood := (rfl)
@[simp] theorem set_freeCtr (f : Field) (x : Nat) : (s.set f x).freeCtr = s.freeCtr := (rfl)
@[simp] theorem set_landed (f : Field) (x : Nat) : (s.set f x).landed = s.landed := (rfl)

@[simp] theorem setFlag_pending (f : Field) (b : Bool) : (s.setFlag f b).pending = s.pending := (rfl)
@[simp] theorem setFlag_raw (f : Field) (b : Bool) : (s.setFlag f b).raw = s.raw := (rfl)
@[simp] theorem setFlag_mem (f : Field) (b : Bool) : (s.setFlag f b).mem = s.mem := (rfl)
@[simp] theorem setFlag_seqMem (f : Field) (b : Bool) : (s.setFlag f b).seqMem = s.seqMem := (rfl)
@[simp] theorem setFlag_seqBad (f : Field) (b : Bool) : (s.setFlag f b).seqBad = s.seqBad := (rfl)
@[simp] theorem setFlag_threads (f : Field) (b : Bool) : (s.setFlag f b).threads = s.threads := (rfl)
@[simp] theorem setFlag_turns (f : Field) (b : Bool) : (s.setFlag f b).turns = s.turns := (rfl)
@[simp] theorem setFlag_cores (f : Field) (b : Bool) : (s.setFlag f b).cores = s.cores := (rfl)
@[simp] theorem setFlag_tasks (f : Field) (b : Bool) : (s.setFlag f b).tasks = s.tasks := (rfl)
@[simp] theorem setFlag_chans (f : Field) (b : Bool) : (s.setFlag f b).chans = s.chans := (rfl)
@[simp] theorem setFlag_hwSeq (f : Field) (b : Bool) : (s.setFlag f b).hwSeq = s.hwSeq := (rfl)
@[simp] theorem setFlag_out (f : Field) (b : Bool) : (s.setFlag f b).out = s.out := (rfl)
@[simp] theorem setFlag_pwrGood (f : Field) (b : Bool) : (s.setFlag f b).pwrGood = s.pwrGood := (rfl)
@[simp] theorem setFlag_freeCtr (f : Field) (b : Bool) : (s.setFlag f b).freeCtr = s.freeCtr := (rfl)
@[simp] theorem setFlag_landed (f : Field) (b : Bool) : (s.setFlag f b).landed = s.landed := (rfl)

@[simp] theorem add_pending (f : Field) (n : Nat) : (s.add f n).pending = s.pending := (rfl)
@[simp] theorem add_raw (f : Field) (n : Nat) : (s.add f n).raw = s.raw := (rfl)
@[simp] theorem add_mem (f : Field) (n : Nat) : (s.add f n).mem = s.mem := (rfl)
@[simp] theorem add_seqMem (f : Field) (n : Nat) : (s.add f n).seqMem = s.seqMem := (rfl)
@[simp] theorem add_seqBad (f : Field) (n : Nat) : (s.add f n).seqBad = s.seqBad := (rfl)
@[simp] theorem add_threads (f : Field) (n : Nat) : (s.add f n).threads = s.threads := (rfl)
@[simp] theorem add_turns (f : Field) (n : Nat) : (s.add f n).turns = s.turns := (rfl)
@[simp] theorem add_cores (f : Field) (n : Nat) : (s.add f n).cores = s.cores := (rfl)
@[simp] theorem add_tasks (f : Field) (n : Nat) : (s.add f n).tasks = s.tasks := (rfl)
@[simp] theorem add_chans (f : Field) (n : Nat) : (s.add f n).chans = s.chans := (rfl)
@[simp] theorem add_hwSeq (f : Field) (n : Nat) : (s.add f n).hwSeq = s.hwSeq := (rfl)
@[simp] theorem add_out (f : Field) (n : Nat) : (s.add f n).out = s.out := (rfl)
@[simp] theorem add_pwrGood (f : Field) (n : Nat) : (s.add f n).pwrGood = s.pwrGood := (rfl)
@[simp] theorem add_freeCtr (f : Field) (n : Nat) : (s.add f n).freeCtr = s.freeCtr := (rfl)
@[simp] theorem add_landed (f : Field) (n : Nat) : (s.add f n).landed = s.landed := (rfl)

@[simp] theorem inc_pending (f : Field) : (s.inc f).pending = s.pending := (rfl)
@[simp] theorem inc_raw (f : Field) : (s.inc f).raw = s.raw := (rfl)
@[simp] theorem inc_mem (f : Field) : (s.inc f).mem = s.mem := (rfl)
@[simp] theorem inc_seqMem (f : Field) : (s.inc f).seqMem = s.seqMem := (rfl)
@[simp] theorem inc_seqBad (f : Field) : (s.inc f).seqBad = s.seqBad := (rfl)
@[simp] theorem inc_threads (f : Field) : (s.inc f).threads = s.threads := (rfl)
@[simp] theorem inc_turns (f : Field) : (s.inc f).turns = s.turns := (rfl)
@[simp] theorem inc_cores (f : Field) : (s.inc f).cores = s.cores := (rfl)
@[simp] theorem inc_tasks (f : Field) : (s.inc f).tasks = s.tasks := (rfl)
@[simp] theorem inc_chans (f : Field) : (s.inc f).chans = s.chans := (rfl)
@[simp] theorem inc_hwSeq (f : Field) : (s.inc f).hwSeq = s.hwSeq := (rfl)
@[simp] theorem inc_out (f : Field) : (s.inc f).out = s.out := (rfl)
@[simp] theorem inc_pwrGood (f : Field) : (s.inc f).pwrGood = s.pwrGood := (rfl)
@[simp] theorem inc_freeCtr (f : Field) : (s.inc f).freeCtr = s.freeCtr := (rfl)
@[simp] theorem inc_landed (f : Field) : (s.inc f).landed = s.landed := (rfl)

@[simp] theorem dec_pending (f : Field) : (s.dec f).pending = s.pending := (rfl)
@[simp] theorem dec_raw (f : Field) : (s.dec f).raw = s.raw := (rfl)
@[simp] theorem dec_mem (f : Field) : (s.dec f).mem = s.mem := (rfl)
@[simp] theorem dec_seqMem (f : Field) : (s.dec f).seqMem = s.seqMem := (rfl)
@[simp] theorem dec_seqBad (f : Field) : (s.dec f).seqBad = s.seqBad := (rfl)
@[simp] theorem dec_threads (f : Field) : (s.dec f).threads = s.threads := (rfl)
@[simp] theorem dec_turns (f : Field) : (s.dec f).turns = s.turns := (rfl)
@[simp] theorem dec_cores (f : Field) : (s.dec f).cores = s.cores := (rfl)
@[simp] theorem dec_tasks (f : Field) : (s.dec f).tasks = s.tasks := (rfl)
@[simp] theorem dec_chans (f : Field) : (s.dec f).chans = s.chans := (rfl)
@[simp] theorem dec_hwSeq (f : Field) : (s.dec f).hwSeq = s.hwSeq := (rfl)
@[simp] theorem dec_out (f : Field) : (s.dec f).out = s.out := (rfl)
@[simp] theorem dec_pwrGood (f : Field) : (s.dec f).pwrGood = s.pwrGood := (rfl)
@[simp] theorem dec_freeCtr (f : Field) : (s.dec f).freeCtr = s.freeCtr := (rfl)
@[simp] theorem dec_landed (f : Field) : (s.dec f).landed = s.landed := (rfl)

@[simp] theorem setSigned_pending (f : Field) (x : Int) : (s.setSigned f x).pending = s.pending := (rfl)
@[simp] theorem setSigned_raw (f : Field) (x : Int) : (s.setSigned f x).raw = s.raw := (rfl)
@[simp] theorem setSigned_mem (f : Field) (x : Int) : (s.setSigned f x).mem = s.mem := (rfl)
@[simp] theorem setSigned_seqMem (f : Field) (x : Int) : (s.setSigned f x).seqMem = s.seqMem := (rfl)
@[simp] theorem setSigned_seqBad (f : Field) (x : Int) : (s.setSigned f x).seqBad = s.seqBad := (rfl)
@[simp] theorem setSigned_threads (f : Field) (x : Int) : (s.setSigned f x).threads = s.threads := (rfl)
@[simp] theorem setSigned_turns (f : Field) (x : Int) : (s.setSigned f x).turns = s.turns := (rfl)
@[simp] theorem setSigned_cores (f : Field) (x : Int) : (s.setSigned f x).cores = s.cores := (rfl)
@[simp] theorem setSigned_tasks (f : Field) (x : Int) : (s.setSigned f x).tasks = s.tasks := (rfl)
@[simp] theorem setSigned_chans (f : Field) (x : Int) : (s.setSigned f x).chans = s.chans := (rfl)
@[simp] theorem setSigned_hwSeq (f : Field) (x : Int) : (s.setSigned f x).hwSeq = s.hwSeq := (rfl)
@[simp] theorem setSigned_out (f : Field) (x : Int) : (s.setSigned f x).out = s.out := (rfl)
@[simp] theorem setSigned_pwrGood (f : Field) (x : Int) : (s.setSigned f x).pwrGood = s.pwrGood := (rfl)
@[simp] theorem setSigned_freeCtr (f : Field) (x : Int) : (s.setSigned f x).freeCtr = s.freeCtr := (rfl)
@[simp] theorem setSigned_landed (f : Field) (x : Int) : (s.setSigned f x).landed = s.landed := (rfl)

@[simp] theorem setThr_pending (i : Nat) (t : Thread) : (s.setThr i t).pending = s.pending := (rfl)
@[simp] theorem setThr_raw (i : Nat) (t : Thread) : (s.setThr i t).raw = s.raw := (rfl)
@[simp] theorem setThr_regs (i : Nat) (t : Thread) : (s.setThr i t).regs = s.regs := (rfl)
@[simp] theorem setThr_mem (i : Nat) (t : Thread) : (s.setThr i t).mem = s.mem := (rfl)
@[simp] theorem setThr_seqMem (i : Nat) (t : Thread) : (s.setThr i t).seqMem = s.seqMem := (rfl)
@[simp] theorem setThr_seqBad (i : Nat) (t : Thread) : (s.setThr i t).seqBad = s.seqBad := (rfl)
@[simp] theorem setThr_turns (i : Nat) (t : Thread) : (s.setThr i t).turns = s.turns := (rfl)
@[simp] theorem setThr_cores (i : Nat) (t : Thread) : (s.setThr i t).cores = s.cores := (rfl)
@[simp] theorem setThr_tasks (i : Nat) (t : Thread) : (s.setThr i t).tasks = s.tasks := (rfl)
@[simp] theorem setThr_chans (i : Nat) (t : Thread) : (s.setThr i t).chans = s.chans := (rfl)
@[simp] theorem setThr_hwSeq (i : Nat) (t : Thread) : (s.setThr i t).hwSeq = s.hwSeq := (rfl)
@[simp] theorem setThr_out (i : Nat) (t : Thread) : (s.setThr i t).out = s.out := (rfl)
@[simp] theorem setThr_pwrGood (i : Nat) (t : Thread) : (s.setThr i t).pwrGood = s.pwrGood := (rfl)
@[simp] theorem setThr_freeCtr (i : Nat) (t : Thread) : (s.setThr i t).freeCtr = s.freeCtr := (rfl)
@[simp] theorem setThr_landed (i : Nat) (t : Thread) : (s.setThr i t).landed = s.landed := (rfl)

@[simp] theorem setTurn_pending (t : Nat) (p : IssueSlot) : (s.setTurn t p).pending = s.pending := (rfl)
@[simp] theorem setTurn_raw (t : Nat) (p : IssueSlot) : (s.setTurn t p).raw = s.raw := (rfl)
@[simp] theorem setTurn_regs (t : Nat) (p : IssueSlot) : (s.setTurn t p).regs = s.regs := (rfl)
@[simp] theorem setTurn_mem (t : Nat) (p : IssueSlot) : (s.setTurn t p).mem = s.mem := (rfl)
@[simp] theorem setTurn_seqMem (t : Nat) (p : IssueSlot) : (s.setTurn t p).seqMem = s.seqMem := (rfl)
@[simp] theorem setTurn_seqBad (t : Nat) (p : IssueSlot) : (s.setTurn t p).seqBad = s.seqBad := (rfl)
@[simp] theorem setTurn_threads (t : Nat) (p : IssueSlot) : (s.setTurn t p).threads = s.threads := (rfl)
@[simp] theorem setTurn_cores (t : Nat) (p : IssueSlot) : (s.setTurn t p).cores = s.cores := (rfl)
@[simp] theorem setTurn_tasks (t : Nat) (p : IssueSlot) : (s.setTurn t p).tasks = s.tasks := (rfl)
@[simp] theorem setTurn_chans (t : Nat) (p : IssueSlot) : (s.setTurn t p).chans = s.chans := (rfl)
@[simp] theorem setTurn_hwSeq (t : Nat) (p : IssueSlot) : (s.setTurn t p).hwSeq = s.hwSeq := (rfl)
@[simp] theorem setTurn_out (t : Nat) (p : IssueSlot) : (s.setTurn t p).out = s.out := (rfl)
@[simp] theorem setTurn_pwrGood (t : Nat) (p : IssueSlot) : (s.setTurn t p).pwrGood = s.pwrGood := (rfl)
@[simp] theorem setTurn_freeCtr (t : Nat) (p : IssueSlot) : (s.setTurn t p).freeCtr = s.freeCtr := (rfl)
@[simp] theorem setTurn_landed (t : Nat) (p : IssueSlot) : (s.setTurn t p).landed = s.landed := (rfl)

@[simp] theorem setCore_pending (k : Nat) (c : CoreX) : (s.setCore k c).pending = s.pending := (rfl)
@[simp] theorem setCore_raw (k : Nat) (c : CoreX) : (s.setCore k c).raw = s.raw := (rfl)
@[simp] theorem setCore_regs (k : Nat) (c : CoreX) : (s.setCore k c).regs = s.regs := (rfl)
@[simp] theorem setCore_mem (k : Nat) (c : CoreX) : (s.setCore k c).mem = s.mem := (rfl)
@[simp] theorem setCore_seqMem (k : Nat) (c : CoreX) : (s.setCore k c).seqMem = s.seqMem := (rfl)
@[simp] theorem setCore_seqBad (k : Nat) (c : CoreX) : (s.setCore k c).seqBad = s.seqBad := (rfl)
@[simp] theorem setCore_threads (k : Nat) (c : CoreX) : (s.setCore k c).threads = s.threads := (rfl)
@[simp] theorem setCore_turns (k : Nat) (c : CoreX) : (s.setCore k c).turns = s.turns := (rfl)
@[simp] theorem setCore_tasks (k : Nat) (c : CoreX) : (s.setCore k c).tasks = s.tasks := (rfl)
@[simp] theorem setCore_chans (k : Nat) (c : CoreX) : (s.setCore k c).chans = s.chans := (rfl)
@[simp] theorem setCore_hwSeq (k : Nat) (c : CoreX) : (s.setCore k c).hwSeq = s.hwSeq := (rfl)
@[simp] theorem setCore_out (k : Nat) (c : CoreX) : (s.setCore k c).out = s.out := (rfl)
@[simp] theorem setCore_pwrGood (k : Nat) (c : CoreX) : (s.setCore k c).pwrGood = s.pwrGood := (rfl)
@[simp] theorem setCore_freeCtr (k : Nat) (c : CoreX) : (s.setCore k c).freeCtr = s.freeCtr := (rfl)
@[simp] theorem setCore_landed (k : Nat) (c : CoreX) : (s.setCore k c).landed = s.landed := (rfl)

@[simp] theorem setChan_pending (ch : Nat) (c : ChanSt) : (s.setChan ch c).pending = s.pending := (rfl)
@[simp] theorem setChan_raw (ch : Nat) (c : ChanSt) : (s.setChan ch c).raw = s.raw := (rfl)
@[simp] theorem setChan_regs (ch : Nat) (c : ChanSt) : (s.setChan ch c).regs = s.regs := (rfl)
@[simp] theorem setChan_mem (ch : Nat) (c : ChanSt) : (s.setChan ch c).mem = s.mem := (rfl)
@[simp] theorem setChan_seqMem (ch : Nat) (c : ChanSt) : (s.setChan ch c).seqMem = s.seqMem := (rfl)
@[simp] theorem setChan_seqBad (ch : Nat) (c : ChanSt) : (s.setChan ch c).seqBad = s.seqBad := (rfl)
@[simp] theorem setChan_threads (ch : Nat) (c : ChanSt) : (s.setChan ch c).threads = s.threads := (rfl)
@[simp] theorem setChan_turns (ch : Nat) (c : ChanSt) : (s.setChan ch c).turns = s.turns := (rfl)
@[simp] theorem setChan_cores (ch : Nat) (c : ChanSt) : (s.setChan ch c).cores = s.cores := (rfl)
@[simp] theorem setChan_tasks (ch : Nat) (c : ChanSt) : (s.setChan ch c).tasks = s.tasks := (rfl)
@[simp] theorem setChan_hwSeq (ch : Nat) (c : ChanSt) : (s.setChan ch c).hwSeq = s.hwSeq := (rfl)
@[simp] theorem setChan_out (ch : Nat) (c : ChanSt) : (s.setChan ch c).out = s.out := (rfl)
@[simp] theorem setChan_pwrGood (ch : Nat) (c : ChanSt) : (s.setChan ch c).pwrGood = s.pwrGood := (rfl)
@[simp] theorem setChan_freeCtr (ch : Nat) (c : ChanSt) : (s.setChan ch c).freeCtr = s.freeCtr := (rfl)
@[simp] theorem setChan_landed (ch : Nat) (c : ChanSt) : (s.setChan ch c).landed = s.landed := (rfl)

@[simp] theorem setTask_pending (e : Nat) (t : TaskEntry) : (s.setTask e t).pending = s.pending := (rfl)
@[simp] theorem setTask_raw (e : Nat) (t : TaskEntry) : (s.setTask e t).raw = s.raw := (rfl)
@[simp] theorem setTask_regs (e : Nat) (t : TaskEntry) : (s.setTask e t).regs = s.regs := (rfl)
@[simp] theorem setTask_mem (e : Nat) (t : TaskEntry) : (s.setTask e t).mem = s.mem := (rfl)
@[simp] theorem setTask_seqMem (e : Nat) (t : TaskEntry) : (s.setTask e t).seqMem = s.seqMem := (rfl)
@[simp] theorem setTask_seqBad (e : Nat) (t : TaskEntry) : (s.setTask e t).seqBad = s.seqBad := (rfl)
@[simp] theorem setTask_threads (e : Nat) (t : TaskEntry) : (s.setTask e t).threads = s.threads := (rfl)
@[simp] theorem setTask_turns (e : Nat) (t : TaskEntry) : (s.setTask e t).turns = s.turns := (rfl)
@[simp] theorem setTask_cores (e : Nat) (t : TaskEntry) : (s.setTask e t).cores = s.cores := (rfl)
@[simp] theorem setTask_chans (e : Nat) (t : TaskEntry) : (s.setTask e t).chans = s.chans := (rfl)
@[simp] theorem setTask_hwSeq (e : Nat) (t : TaskEntry) : (s.setTask e t).hwSeq = s.hwSeq := (rfl)
@[simp] theorem setTask_out (e : Nat) (t : TaskEntry) : (s.setTask e t).out = s.out := (rfl)
@[simp] theorem setTask_pwrGood (e : Nat) (t : TaskEntry) : (s.setTask e t).pwrGood = s.pwrGood := (rfl)
@[simp] theorem setTask_freeCtr (e : Nat) (t : TaskEntry) : (s.setTask e t).freeCtr = s.freeCtr := (rfl)
@[simp] theorem setTask_landed (e : Nat) (t : TaskEntry) : (s.setTask e t).landed = s.landed := (rfl)

@[simp] theorem setByte_pending (a : Nat) (v : BitVec 8) : (s.setByte a v).pending = s.pending := (rfl)
@[simp] theorem setByte_raw (a : Nat) (v : BitVec 8) : (s.setByte a v).raw = s.raw := (rfl)
@[simp] theorem setByte_regs (a : Nat) (v : BitVec 8) : (s.setByte a v).regs = s.regs := (rfl)
@[simp] theorem setByte_seqMem (a : Nat) (v : BitVec 8) : (s.setByte a v).seqMem = s.seqMem := (rfl)
@[simp] theorem setByte_seqBad (a : Nat) (v : BitVec 8) : (s.setByte a v).seqBad = s.seqBad := (rfl)
@[simp] theorem setByte_threads (a : Nat) (v : BitVec 8) : (s.setByte a v).threads = s.threads := (rfl)
@[simp] theorem setByte_turns (a : Nat) (v : BitVec 8) : (s.setByte a v).turns = s.turns := (rfl)
@[simp] theorem setByte_cores (a : Nat) (v : BitVec 8) : (s.setByte a v).cores = s.cores := (rfl)
@[simp] theorem setByte_tasks (a : Nat) (v : BitVec 8) : (s.setByte a v).tasks = s.tasks := (rfl)
@[simp] theorem setByte_chans (a : Nat) (v : BitVec 8) : (s.setByte a v).chans = s.chans := (rfl)
@[simp] theorem setByte_hwSeq (a : Nat) (v : BitVec 8) : (s.setByte a v).hwSeq = s.hwSeq := (rfl)
@[simp] theorem setByte_out (a : Nat) (v : BitVec 8) : (s.setByte a v).out = s.out := (rfl)
@[simp] theorem setByte_pwrGood (a : Nat) (v : BitVec 8) : (s.setByte a v).pwrGood = s.pwrGood := (rfl)
@[simp] theorem setByte_freeCtr (a : Nat) (v : BitVec 8) : (s.setByte a v).freeCtr = s.freeCtr := (rfl)
@[simp] theorem setByte_landed (a : Nat) (v : BitVec 8) : (s.setByte a v).landed = s.landed := (rfl)

@[simp] theorem setSeqByte_pending (k : Nat) (v : BitVec 8) : (s.setSeqByte k v).pending = s.pending := (rfl)
@[simp] theorem setSeqByte_raw (k : Nat) (v : BitVec 8) : (s.setSeqByte k v).raw = s.raw := (rfl)
@[simp] theorem setSeqByte_regs (k : Nat) (v : BitVec 8) : (s.setSeqByte k v).regs = s.regs := (rfl)
@[simp] theorem setSeqByte_mem (k : Nat) (v : BitVec 8) : (s.setSeqByte k v).mem = s.mem := (rfl)
@[simp] theorem setSeqByte_seqBad (k : Nat) (v : BitVec 8) : (s.setSeqByte k v).seqBad = s.seqBad := (rfl)
@[simp] theorem setSeqByte_threads (k : Nat) (v : BitVec 8) : (s.setSeqByte k v).threads = s.threads := (rfl)
@[simp] theorem setSeqByte_turns (k : Nat) (v : BitVec 8) : (s.setSeqByte k v).turns = s.turns := (rfl)
@[simp] theorem setSeqByte_cores (k : Nat) (v : BitVec 8) : (s.setSeqByte k v).cores = s.cores := (rfl)
@[simp] theorem setSeqByte_tasks (k : Nat) (v : BitVec 8) : (s.setSeqByte k v).tasks = s.tasks := (rfl)
@[simp] theorem setSeqByte_chans (k : Nat) (v : BitVec 8) : (s.setSeqByte k v).chans = s.chans := (rfl)
@[simp] theorem setSeqByte_hwSeq (k : Nat) (v : BitVec 8) : (s.setSeqByte k v).hwSeq = s.hwSeq := (rfl)
@[simp] theorem setSeqByte_out (k : Nat) (v : BitVec 8) : (s.setSeqByte k v).out = s.out := (rfl)
@[simp] theorem setSeqByte_pwrGood (k : Nat) (v : BitVec 8) : (s.setSeqByte k v).pwrGood = s.pwrGood := (rfl)
@[simp] theorem setSeqByte_freeCtr (k : Nat) (v : BitVec 8) : (s.setSeqByte k v).freeCtr = s.freeCtr := (rfl)
@[simp] theorem setSeqByte_landed (k : Nat) (v : BitVec 8) : (s.setSeqByte k v).landed = s.landed := (rfl)

@[simp] theorem emit_pending (o : Output) : (s.emit o).pending = s.pending := (rfl)
@[simp] theorem emit_raw (o : Output) : (s.emit o).raw = s.raw := (rfl)
@[simp] theorem emit_regs (o : Output) : (s.emit o).regs = s.regs := (rfl)
@[simp] theorem emit_mem (o : Output) : (s.emit o).mem = s.mem := (rfl)
@[simp] theorem emit_seqMem (o : Output) : (s.emit o).seqMem = s.seqMem := (rfl)
@[simp] theorem emit_seqBad (o : Output) : (s.emit o).seqBad = s.seqBad := (rfl)
@[simp] theorem emit_threads (o : Output) : (s.emit o).threads = s.threads := (rfl)
@[simp] theorem emit_turns (o : Output) : (s.emit o).turns = s.turns := (rfl)
@[simp] theorem emit_cores (o : Output) : (s.emit o).cores = s.cores := (rfl)
@[simp] theorem emit_tasks (o : Output) : (s.emit o).tasks = s.tasks := (rfl)
@[simp] theorem emit_chans (o : Output) : (s.emit o).chans = s.chans := (rfl)
@[simp] theorem emit_hwSeq (o : Output) : (s.emit o).hwSeq = s.hwSeq := (rfl)
@[simp] theorem emit_pwrGood (o : Output) : (s.emit o).pwrGood = s.pwrGood := (rfl)
@[simp] theorem emit_freeCtr (o : Output) : (s.emit o).freeCtr = s.freeCtr := (rfl)
@[simp] theorem emit_landed (o : Output) : (s.emit o).landed = s.landed := (rfl)

@[simp] theorem took_pending : (s.took).pending = s.pending := (rfl)
@[simp] theorem took_raw : (s.took).raw = s.raw := (rfl)
@[simp] theorem took_regs : (s.took).regs = s.regs := (rfl)
@[simp] theorem took_mem : (s.took).mem = s.mem := (rfl)
@[simp] theorem took_seqMem : (s.took).seqMem = s.seqMem := (rfl)
@[simp] theorem took_seqBad : (s.took).seqBad = s.seqBad := (rfl)
@[simp] theorem took_threads : (s.took).threads = s.threads := (rfl)
@[simp] theorem took_turns : (s.took).turns = s.turns := (rfl)
@[simp] theorem took_cores : (s.took).cores = s.cores := (rfl)
@[simp] theorem took_tasks : (s.took).tasks = s.tasks := (rfl)
@[simp] theorem took_chans : (s.took).chans = s.chans := (rfl)
@[simp] theorem took_hwSeq : (s.took).hwSeq = s.hwSeq := (rfl)
@[simp] theorem took_out : (s.took).out = s.out := (rfl)
@[simp] theorem took_pwrGood : (s.took).pwrGood = s.pwrGood := (rfl)
@[simp] theorem took_landed : (s.took).landed = s.landed := (rfl)

@[simp] theorem advance_pending (now : Nat) : (s.advance now).pending = s.pending := (rfl)
@[simp] theorem advance_regs (now : Nat) : (s.advance now).regs = s.regs := (rfl)
@[simp] theorem advance_mem (now : Nat) : (s.advance now).mem = s.mem := (rfl)
@[simp] theorem advance_seqMem (now : Nat) : (s.advance now).seqMem = s.seqMem := (rfl)
@[simp] theorem advance_seqBad (now : Nat) : (s.advance now).seqBad = s.seqBad := (rfl)
@[simp] theorem advance_threads (now : Nat) : (s.advance now).threads = s.threads := (rfl)
@[simp] theorem advance_turns (now : Nat) : (s.advance now).turns = s.turns := (rfl)
@[simp] theorem advance_cores (now : Nat) : (s.advance now).cores = s.cores := (rfl)
@[simp] theorem advance_tasks (now : Nat) : (s.advance now).tasks = s.tasks := (rfl)
@[simp] theorem advance_chans (now : Nat) : (s.advance now).chans = s.chans := (rfl)
@[simp] theorem advance_hwSeq (now : Nat) : (s.advance now).hwSeq = s.hwSeq := (rfl)
@[simp] theorem advance_out (now : Nat) : (s.advance now).out = s.out := (rfl)
@[simp] theorem advance_pwrGood (now : Nat) : (s.advance now).pwrGood = s.pwrGood := (rfl)
@[simp] theorem advance_freeCtr (now : Nat) : (s.advance now).freeCtr = s.freeCtr := (rfl)
@[simp] theorem advance_landed (now : Nat) : (s.advance now).landed = s.landed := (rfl)

theorem setReg_eq (k : Nat) (v : Word) : s.setReg k v = { s with regs := (s.setReg k v).regs } := (rfl)
theorem set_eq (f : Field) (x : Nat) : s.set f x = { s with regs := (s.set f x).regs } := (rfl)
theorem setFlag_eq (f : Field) (b : Bool) : s.setFlag f b = { s with regs := (s.setFlag f b).regs } := (rfl)
theorem add_eq (f : Field) (n : Nat) : s.add f n = { s with regs := (s.add f n).regs } := (rfl)
theorem inc_eq (f : Field) : s.inc f = { s with regs := (s.inc f).regs } := (rfl)
theorem dec_eq (f : Field) : s.dec f = { s with regs := (s.dec f).regs } := (rfl)
theorem setSigned_eq (f : Field) (x : Int) : s.setSigned f x = { s with regs := (s.setSigned f x).regs } := (rfl)

@[simp] theorem incSat_threads (f : Field) : (s.incSat f).threads = s.threads := by unfold State.incSat; split <;> rfl

end Sys2Proof.Machine
end

