-- ==== Sys2Proof/Laws/Morop.lean ====
section
/-! SUPPORT. The issue of an instruction: the state in which its effect acts, and what a retirement leaves. -/

namespace Sys2Proof.Machine

/-- An instruction that issues has its effect, and completes in a next state. -/
theorem whenIssued_of_issues (s : State) (x : Issue) (w : Nat) (f : State → State) (h : s.issues x w) :
    whenIssued x w s f = .next (f (s.issuing x)) := by
  obtain ⟨h1, h2, h3⟩ := h
  simp [whenIssued, h1, State.issueWord, h2, h3]

@[simp] theorem corrected_thr (s : State) (a : Agent) (c : Check) (i : Nat) : (s.corrected a c).thr i = s.thr i := by
  unfold State.corrected; split
  · simp [State.thr]
  · rfl

@[simp] theorem advance_thr (s : State) (now i : Nat) : (s.advance now).thr i = s.thr i := by simp [State.thr]

@[simp] theorem setTurn_thr (s : State) (t i : Nat) (p : IssueSlot) : (s.setTurn t p).thr i = s.thr i := by simp [State.thr]

@[simp] theorem setThr_turn (s : State) (i j : Nat) (t : Thread) : (s.setThr i t).turn j = s.turn j := by simp [State.turn]

/-! ### An agent's place in the issue: an instruction moves its own, and touches nothing else -/

/-- What an update of the agent's own place in the issue leaves. -/
def State.movesTurn (s t : State) (i : Nat) : Prop := t = { s with turns := t.turns } ∧ ∀ j, j ≠ i → t.turn j = s.turn j

theorem movesTurn_refl (s : State) (i : Nat) : s.movesTurn s i := ⟨rfl, fun _ _ => rfl⟩

theorem movesTurn_setTurn (s : State) (i : Nat) (p : IssueSlot) : s.movesTurn (s.setTurn i p) i :=
  ⟨rfl, fun j hj => turn_setTurn_other s i j p hj⟩

theorem movesTurn_trans {s t u : State} {i : Nat} (h : s.movesTurn t i) (h' : t.movesTurn u i) : s.movesTurn u i :=
  ⟨by rw [h'.1, h.1], fun j hj => (h'.2 j hj).trans (h.2 j hj)⟩

theorem hold_movesTurn (s : State) (i n : Nat) : s.movesTurn (s.hold i n) i := by
  unfold State.hold; split
  · exact movesTurn_setTurn ..
  · exact movesTurn_refl ..

theorem later_movesTurn (s : State) (i rd n : Nat) : s.movesTurn (s.later i rd n) i := by
  unfold State.later; split
  · exact movesTurn_setTurn ..
  · exact movesTurn_refl ..

theorem divides_movesTurn (s : State) (i : Nat) : s.movesTurn (s.divides i) i := by
  unfold State.divides; split
  · exact movesTurn_setTurn ..
  · exact movesTurn_refl ..

theorem issuedNow_movesTurn (s : State) (a : Agent) : s.movesTurn (s.issuedNow a) (agentIx a) := by
  cases a
  · exact movesTurn_setTurn ..
  · exact movesTurn_refl ..

theorem movesTurn_thr {s t : State} {i : Nat} (h : s.movesTurn t i) (j : Nat) : t.thr j = s.thr j := by rw [h.1]; rfl

@[simp] theorem hold_thr (s : State) (i n j : Nat) : (s.hold i n).thr j = s.thr j := movesTurn_thr (hold_movesTurn s i n) j
@[simp] theorem later_thr (s : State) (i rd n j : Nat) : (s.later i rd n).thr j = s.thr j := movesTurn_thr (later_movesTurn s i rd n) j
@[simp] theorem issuedNow_thr (s : State) (a : Agent) (j : Nat) : (s.issuedNow a).thr j = s.thr j := movesTurn_thr (issuedNow_movesTurn s a) j
@[simp] theorem divides_thr (s : State) (i j : Nat) : (s.divides i).thr j = s.thr j := movesTurn_thr (divides_movesTurn s i) j

/-! ### The state in which an instruction's effect acts -/

/-- The agent's context as the effect finds it. -/
@[simp] theorem issuing_own (s : State) (x : Issue) :
    (s.issuing x).thr (agentIx x.agent) = { s.own x with runcount := (s.own x).runcount + 1 } := by
  simp [State.issuing, State.own]

@[simp] theorem issuing_gr (s : State) (x : Issue) (r : Reg) : (s.issuing x).gr (agentIx x.agent) r = (s.own x).rg r := by
  simp [State.gr, Thread.rg]

/-- A corrected error changes the register file alone. -/
theorem corrected_eq (s : State) (a : Agent) (c : Check) : s.corrected a c = { s with regs := (s.corrected a c).regs } := by
  unfold State.corrected
  split
  · exact (inc_eq s _)
  · rfl

theorem corrected_reg (s : State) (x : Issue) (k : Nat) : (s.corrected x.agent x.code).reg k = s.reg k ∨ countsAt x k := by
  unfold State.corrected
  split
  · next n hx hc =>
    by_cases hk : k = (R.SEQ_ECC_COUNT_COUNT (n.val / 4)).key
    · exact .inr ⟨hc, n, hx, hk⟩
    · exact .inl (reg_set_other _ _ _ _ hk)
  · exact .inl rfl

/-- Replacing the agent's own context touches nothing else. -/
theorem sameBut_setThr (s t : State) (x : Issue) (u : Thread) (h : s.sameBut t x) : s.sameBut (t.setThr (agentIx x.agent) u) x := by
  obtain ⟨h1, h2, h3⟩ := h
  refine ⟨?_, fun j hj => ⟨?_, ?_⟩, h3⟩
  · rw [h1]; rfl
  · rw [thr_setThr_other _ _ _ _ hj]; exact (h2 j hj).1
  · simpa using (h2 j hj).2

/-- Nor does moving the agent's own place in the issue. -/
theorem sameBut_moves (s t u : State) (x : Issue) (h : s.sameBut t x) (m : t.movesTurn u (agentIx x.agent)) : s.sameBut u x := by
  obtain ⟨h1, h2, h3⟩ := h
  refine ⟨?_, fun j hj => ⟨?_, ?_⟩, fun k => ?_⟩
  · rw [m.1, h1]
  · rw [movesTurn_thr m]; exact (h2 j hj).1
  · rw [m.2 j hj]; exact (h2 j hj).2
  · rw [m.1]; exact h3 k

theorem sameBut_issuing (s : State) (x : Issue) : s.sameBut (s.issuing x) x := by
  have h : s.sameBut ((s.advance (s.issueAt x)).corrected x.agent x.code) x := by
    refine ⟨?_, fun j _ => ⟨?_, ?_⟩, fun k => corrected_reg _ x k⟩
    · rw [corrected_eq]; rfl
    · simp
    · rw [corrected_eq]; rfl
  exact sameBut_setThr _ _ _ _ (sameBut_moves _ _ _ _ h (issuedNow_movesTurn ..))

/-! ### Retirement -/

/-- A retirement, as a context of the agent. -/
theorem retire_own (s : State) (i c : Nat) (f : Thread → Thread) :
    (s.retire i c f).thr i = f { s.thr i with pc := ((s.thr i).pc + 4) % 2 ^ 64, instret := (s.thr i).instret + 1, cycles := (s.thr i).cycles + c } := by
  simp [State.retire]

theorem sameBut_retire (s : State) (x : Issue) (c : Nat) (f : Thread → Thread) :
    s.sameBut ((s.issuing x).retire (agentIx x.agent) c f) x :=
  sameBut_moves _ _ _ _ (sameBut_setThr _ _ _ _ (sameBut_issuing s x)) (hold_movesTurn ..)

/-- An instruction that leaves a value in rd: its own context, and nothing else. -/
theorem alu_spec (s : State) (x : Issue) (c rd : Nat) (v : Word) :
    ((s.issuing x).retireRd (agentIx x.agent) c rd v).thr (agentIx x.agent) = (s.own x).completed c rd v ∧
    s.sameBut ((s.issuing x).retireRd (agentIx x.agent) c rd v) x := by
  refine ⟨?_, sameBut_moves _ _ _ _ (sameBut_retire s x c _) (later_movesTurn ..)⟩
  simp [State.retireRd, retire_own, Thread.completed]

end Sys2Proof.Machine
end

