-- ==== Sys2Proof/Laws/Traps.lean ====
section
/-! SUPPORT. Reports and traps: what they leave of the contexts, and the context of a thread that has trapped. -/

namespace Sys2Proof.Machine

/-- A fold whose every step keeps a part of the state keeps it. -/
theorem foldl_keeps {α β : Type} (g : State → β) (f : State → α → State) (h : ∀ s a, g (f s a) = g s) (l : List α) (s : State) :
    g (l.foldl f s) = g s := by
  induction l generalizing s with
  | nil => rfl
  | cons a l ih => rw [List.foldl_cons, ih, h]

@[simp] theorem raiseLine_threads (s : State) (k l : Nat) : (s.raiseLine k l).threads = s.threads := by
  unfold State.raiseLine; simp only; split <;> simp

@[simp] theorem raiseLines_threads (s : State) (l : Nat) : (s.raiseLines l).threads = s.threads := by simp [State.raiseLines]

@[simp] theorem msix_threads (s : State) (v : Nat) : (s.msix v).threads = s.threads := by
  unfold State.msix; simp only; split
  · split
    · rfl
    · simp
  · rfl

@[simp] theorem postThread_threads (s : State) (t e : Nat) : (s.postThread t e).threads = s.threads := (rfl)

@[simp] theorem postCh_threads (s : State) (ch e : Nat) : (s.postCh ch e).threads = s.threads := by
  unfold State.postCh; split <;> simp

@[simp] theorem postFault_threads (s : State) (sus : Nat) : (s.postFault sus).threads = s.threads :=
  foldl_keeps State.threads _ (fun s (p : Nat × ChanSt) => postCh_threads s p.1 13) _ s

@[simp] theorem refreshClass_threads (s : State) (c : Nat) : (s.refreshClass c).threads = s.threads := by simp [State.refreshClass]

@[simp] theorem signal_threads (s : State) (w : Bool) (v : Nat) : (s.signal w v).threads = s.threads := by
  unfold State.signal; simp only; split <;> split <;> simp

@[simp] theorem haltDevice_threads (s : State) (r : SieveRec) : (s.haltDevice r).threads = s.threads := by
  unfold State.haltDevice
  simp only
  split
  · simp
  · rw [emit_threads, setFlag_threads, foldl_keeps State.threads _ (fun s i => set_threads s _ _)]; simp

/-- A record's action on suspect `sus`: of the contexts, only that of an isolated thread changes. -/
theorem act_thr (s : State) (r : SieveRec) (t : Nat) (ht : t < 256) (hr : r.suspect = suspect kThread t ∨ r.suspect = 0)
    (h : (s.thr t).st = .trapped ∧ (s.thr t).wait = none ∧ (s.thr t).block = .none) : (s.act r).thr t = s.thr t := by
  unfold State.act
  split
  · rfl
  · split
    · split
      · next _ hi =>
        rcases hr with hr | hr
        · have e1 : suspect kThread t / 4096 = 4 := by simp [suspect, kThread]; omega
          have e2 : suspect kThread t % 4096 = t := by simp [suspect, kThread]; omega
          obtain ⟨h1, h2, h3⟩ := h
          unfold State.thr
          rw [postFault_threads]
          change State.thr _ t = State.thr s t
          rw [hr]
          simp only [State.isolate, e1, e2, thr_setThr_same]
          generalize s.thr t = u at h1 h2 h3 ⊢
          cases u; simp_all
        · rw [hr] at hi; exact absurd hi (by decide)
      · rfl
    · unfold State.thr; rw [haltDevice_threads]
    · rfl

theorem foldTarget_sus (s : State) (cls sus : Nat) (inj : Bool) (p : Nat × SieveRec) (h : s.foldTarget cls sus inj = some p) : p.2.suspect = sus := by
  unfold State.foldTarget at h
  suffices H : ∀ (l : List (Nat × SieveRec)) (b : Option (Nat × SieveRec)), (∀ q, b = some q → q.2.suspect = sus) →
      ∀ q, l.foldl (fun b p => if foldsInto s cls sus inj p.2 then
        match b with
        | some (_, q) => if q.recno < p.2.recno then some p else b
        | none => some p
      else b) b = some q → q.2.suspect = sus from H _ none (by simp) p h
  intro l
  induction l with
  | nil => exact fun b hb q hq => hb q hq
  | cons a l ih =>
    intro b hb q hq
    refine ih _ ?_ q hq
    intro q' hq'
    simp only at hq'
    split at hq'
    · next hf =>
      have ha : a.2.suspect = sus := by simp [foldsInto] at hf; exact hf.1.1.1.2
      split at hq'
      · split at hq'
        · cases hq'; exact ha
        · exact hb _ hq'
      · cases hq'; exact ha
    · exact hb _ hq'

@[simp] theorem set_thr (s : State) (f : Field) (x i : Nat) : (s.set f x).thr i = s.thr i := by simp [State.thr]
@[simp] theorem setFlag_thr (s : State) (f : Field) (b : Bool) (i : Nat) : (s.setFlag f b).thr i = s.thr i := by simp [State.thr]
@[simp] theorem inc_thr (s : State) (f : Field) (i : Nat) : (s.inc f).thr i = s.thr i := by simp [State.thr]
@[simp] theorem incSat_thr (s : State) (f : Field) (i : Nat) : (s.incSat f).thr i = s.thr i := by simp [State.thr]
@[simp] theorem signal_thr (s : State) (w : Bool) (v i : Nat) : (s.signal w v).thr i = s.thr i := by simp [State.thr]
@[simp] theorem refreshClass_thr (s : State) (c i : Nat) : (s.refreshClass c).thr i = s.thr i := by simp [State.thr]
@[simp] theorem setCore_thr (s : State) (k : Nat) (c : CoreX) (i : Nat) : (s.setCore k c).thr i = s.thr i := by simp [State.thr]
@[simp] theorem raiseLines_thr (s : State) (l i : Nat) : (s.raiseLines l).thr i = s.thr i := by simp [State.thr]
@[simp] theorem raiseLine_thr (s : State) (k l i : Nat) : (s.raiseLine k l).thr i = s.thr i := by simp [State.thr]
theorem recs_thr (s : State) (r : Table SieveRec) (n i : Nat) : ({ s with recs := r, recno := n } : State).thr i = s.thr i := (rfl)
theorem recs_only_thr (s : State) (r : Table SieveRec) (i : Nat) : ({ s with recs := r } : State).thr i = s.thr i := (rfl)

/-- A context that a trap has left, which an isolation of the thread leaves as it is. -/
def Thread.stopped (t : Thread) : Prop := t.st = .trapped ∧ t.wait = none ∧ t.block = .none

@[simp] theorem countReport_thr (s : State) (n i : Nat) : (s.countReport n).thr i = s.thr i := by simp [State.countReport]

theorem foldIn_thr (s : State) (sev cls i : Nat) (r : SieveRec) (t : Nat) (ht : t < 256) (hr : r.suspect = suspect kThread t ∨ r.suspect = 0)
    (h : (s.thr t).stopped) : (s.foldIn sev cls i r).thr t = s.thr t := by
  unfold State.foldIn
  simp only
  split
  · rw [signal_thr, act_thr _ _ t ht (by exact hr)]
    · simp [recs_only_thr]
    · simpa [recs_only_thr, Thread.stopped] using h
  · simp [recs_only_thr]

theorem pushRec_thr (s : State) (r : SieveRec) (i : Nat) : (s.pushRec r).thr i = s.thr i := by
  unfold State.pushRec; simp only; split <;> simp [recs_thr]

theorem newRec_thr (s : State) (r : SieveRec) (t : Nat) (ht : t < 256) (hr : r.suspect = suspect kThread t ∨ r.suspect = 0)
    (h : (s.thr t).stopped) : (s.newRec r).thr t = s.thr t := by
  unfold State.newRec
  simp only
  split
  · rw [signal_thr, act_thr _ _ t ht hr]
    · simp
    · simpa [Thread.stopped] using h
  · rw [signal_thr, act_thr _ _ t ht hr]
    · simp [pushRec_thr]
    · simpa [pushRec_thr, Thread.stopped] using h

/-- One report that names a thread, or nothing, leaves a TRAPPED thread as it is. -/
theorem reportOne_thr (s : State) (source sus : Nat) (d : Word) (inj : Bool) (t : Nat) (ht : t < 256) (hs : sus = suspect kThread t ∨ sus = 0)
    (h : (s.thr t).stopped) : (s.reportOne source sus d inj).thr t = s.thr t := by
  unfold State.reportOne State.makeRec
  cases e : (s.countReport source).foldTarget (s.getBefore slowCycles (R.SIEVE_SRC_CFG_CLASS source)) sus inj with
  | none => rw [Option.elim_none, newRec_thr _ _ t ht hs (by simpa using h), countReport_thr]
  | some p =>
    rw [Option.elim_some, foldIn_thr _ _ _ _ _ t ht (by rw [foldTarget_sus _ _ _ _ _ e]; exact hs) (by simpa using h), countReport_thr]

/-- A report that names a thread leaves that thread as it is, if it is TRAPPED. -/
theorem report_thr (s : State) (source : Nat) (d : Word) (inj : Bool) (t : Nat) (ht : t < 256)
    (h : (s.thr t).stopped) :
    (s.report source (suspect kThread t) d inj).thr t = s.thr t := by
  have h1 := reportOne_thr s source _ d inj t ht (.inl rfl) h
  unfold State.report
  simp only
  split
  · rw [reportOne_thr _ _ _ _ _ t ht (.inr rfl)]
    · simp [h1]
    · simpa [h1] using h
  · exact h1

/-- A notice concerns a core's context only. -/
theorem notice_thr (s : State) (kind t : Nat) (ht : t < 256) : (s.notice kind).thr t = s.thr t := by
  unfold State.notice State.setEvent
  simp only [raiseLine_thr, setCore_thr]
  exact thr_setThr_other _ _ _ _ (by omega)

/-- A thread that traps: its context. -/
theorem trapThread_own (s : State) (t cause : Nat) (tval : Word) (ht : t < 256) :
    (s.trapThread t cause tval).thr t = { s.thr t with st := .trapped, tpc := (s.thr t).pc, cause := cause, tval := tval, wait := none, block := .none, halting := false } := by
  unfold State.trapThread State.noteTrap
  simp only
  rw [raiseLines_thr, notice_thr _ _ _ ht, report_thr _ _ _ _ _ ht]
  · split <;> simp
  · split <;> simp [Thread.stopped]

end Sys2Proof.Machine
end

