-- ==== Sys2Proof/Laws/Units.lean ====
section
/-! SUPPORT. What the update of one unit leaves of the other fields of the state. -/

namespace Sys2Proof.Machine

variable (s : State)

@[simp] theorem setSb_pending (b : Nat) (x : SbSt) : (s.setSb b x).pending = s.pending := (rfl)
@[simp] theorem setSb_raw (b : Nat) (x : SbSt) : (s.setSb b x).raw = s.raw := (rfl)
@[simp] theorem setSb_regs (b : Nat) (x : SbSt) : (s.setSb b x).regs = s.regs := (rfl)
@[simp] theorem setSb_landed (b : Nat) (x : SbSt) : (s.setSb b x).landed = s.landed := (rfl)
@[simp] theorem setSb_srwPend (b : Nat) (x : SbSt) : (s.setSb b x).srwPend = s.srwPend := (rfl)
@[simp] theorem setSb_shadowNow (b : Nat) (x : SbSt) : (s.setSb b x).shadowNow = s.shadowNow := (rfl)
@[simp] theorem setSb_rdLatch (b : Nat) (x : SbSt) : (s.setSb b x).rdLatch = s.rdLatch := (rfl)
@[simp] theorem setSb_claimAt (b : Nat) (x : SbSt) : (s.setSb b x).claimAt = s.claimAt := (rfl)
@[simp] theorem setSb_before (b : Nat) (x : SbSt) : (s.setSb b x).before = s.before := (rfl)
@[simp] theorem setSb_pci (b : Nat) (x : SbSt) : (s.setSb b x).pci = s.pci := (rfl)
@[simp] theorem setSb_wrHold (b : Nat) (x : SbSt) : (s.setSb b x).wrHold = s.wrHold := (rfl)
@[simp] theorem setSb_mem (b : Nat) (x : SbSt) : (s.setSb b x).mem = s.mem := (rfl)
@[simp] theorem setSb_poison (b : Nat) (x : SbSt) : (s.setSb b x).poison = s.poison := (rfl)
@[simp] theorem setSb_seqMem (b : Nat) (x : SbSt) : (s.setSb b x).seqMem = s.seqMem := (rfl)
@[simp] theorem setSb_seqBad (b : Nat) (x : SbSt) : (s.setSb b x).seqBad = s.seqBad := (rfl)
@[simp] theorem setSb_threads (b : Nat) (x : SbSt) : (s.setSb b x).threads = s.threads := (rfl)
@[simp] theorem setSb_turns (b : Nat) (x : SbSt) : (s.setSb b x).turns = s.turns := (rfl)
@[simp] theorem setSb_cores (b : Nat) (x : SbSt) : (s.setSb b x).cores = s.cores := (rfl)
@[simp] theorem setSb_tasks (b : Nat) (x : SbSt) : (s.setSb b x).tasks = s.tasks := (rfl)
@[simp] theorem setSb_readyCtr (b : Nat) (x : SbSt) : (s.setSb b x).readyCtr = s.readyCtr := (rfl)
@[simp] theorem setSb_mpcHeld (b : Nat) (x : SbSt) : (s.setSb b x).mpcHeld = s.mpcHeld := (rfl)
@[simp] theorem setSb_hwSeq (b : Nat) (x : SbSt) : (s.setSb b x).hwSeq = s.hwSeq := (rfl)
@[simp] theorem setSb_drrGroup (b : Nat) (x : SbSt) : (s.setSb b x).drrGroup = s.drrGroup := (rfl)
@[simp] theorem setSb_drrOpen (b : Nat) (x : SbSt) : (s.setSb b x).drrOpen = s.drrOpen := (rfl)
@[simp] theorem setSb_tickPend (b : Nat) (x : SbSt) : (s.setSb b x).tickPend = s.tickPend := (rfl)
@[simp] theorem setSb_lastTick (b : Nat) (x : SbSt) : (s.setSb b x).lastTick = s.lastTick := (rfl)
@[simp] theorem setSb_tickFrom (b : Nat) (x : SbSt) : (s.setSb b x).tickFrom = s.tickFrom := (rfl)
@[simp] theorem setSb_moved (b : Nat) (x : SbSt) : (s.setSb b x).moved = s.moved := (rfl)
@[simp] theorem setSb_relWait (b : Nat) (x : SbSt) : (s.setSb b x).relWait = s.relWait := (rfl)
@[simp] theorem setSb_busy (b : Nat) (x : SbSt) : (s.setSb b x).busy = s.busy := (rfl)
@[simp] theorem setSb_adm (b : Nat) (x : SbSt) : (s.setSb b x).adm = s.adm := (rfl)
@[simp] theorem setSb_chans (b : Nat) (x : SbSt) : (s.setSb b x).chans = s.chans := (rfl)
@[simp] theorem setSb_tb (b : Nat) (x : SbSt) : (s.setSb b x).tb = s.tb := (rfl)
@[simp] theorem setSb_pgs (b : Nat) (x : SbSt) : (s.setSb b x).pgs = s.pgs := (rfl)
@[simp] theorem setSb_encTags (b : Nat) (x : SbSt) : (s.setSb b x).encTags = s.encTags := (rfl)
@[simp] theorem setSb_encWords (b : Nat) (x : SbSt) : (s.setSb b x).encWords = s.encWords := (rfl)
@[simp] theorem setSb_memSts (b : Nat) (x : SbSt) : (s.setSb b x).memSts = s.memSts := (rfl)
@[simp] theorem setSb_lanes (b : Nat) (x : SbSt) : (s.setSb b x).lanes = s.lanes := (rfl)
@[simp] theorem setSb_ports (b : Nat) (x : SbSt) : (s.setSb b x).ports = s.ports := (rfl)
@[simp] theorem setSb_pairs (b : Nat) (x : SbSt) : (s.setSb b x).pairs = s.pairs := (rfl)
@[simp] theorem setSb_ingFifo (b : Nat) (x : SbSt) : (s.setSb b x).ingFifo = s.ingFifo := (rfl)
@[simp] theorem setSb_ctl (b : Nat) (x : SbSt) : (s.setSb b x).ctl = s.ctl := (rfl)
@[simp] theorem setSb_flowBad (b : Nat) (x : SbSt) : (s.setSb b x).flowBad = s.flowBad := (rfl)
@[simp] theorem setSb_pools (b : Nat) (x : SbSt) : (s.setSb b x).pools = s.pools := (rfl)
@[simp] theorem setSb_decs (b : Nat) (x : SbSt) : (s.setSb b x).decs = s.decs := (rfl)
@[simp] theorem setSb_tdms (b : Nat) (x : SbSt) : (s.setSb b x).tdms = s.tdms := (rfl)
@[simp] theorem setSb_vcxo (b : Nat) (x : SbSt) : (s.setSb b x).vcxo = s.vcxo := (rfl)
@[simp] theorem setSb_units (b : Nat) (x : SbSt) : (s.setSb b x).units = s.units := (rfl)
@[simp] theorem setSb_engCtx (b : Nat) (x : SbSt) : (s.setSb b x).engCtx = s.engCtx := (rfl)
@[simp] theorem setSb_rends (b : Nat) (x : SbSt) : (s.setSb b x).rends = s.rends := (rfl)
@[simp] theorem setSb_prfOwn (b : Nat) (x : SbSt) : (s.setSb b x).prfOwn = s.prfOwn := (rfl)
@[simp] theorem setSb_sclOwn (b : Nat) (x : SbSt) : (s.setSb b x).sclOwn = s.sclOwn := (rfl)
@[simp] theorem setSb_coefs (b : Nat) (x : SbSt) : (s.setSb b x).coefs = s.coefs := (rfl)
@[simp] theorem setSb_sclHeld (b : Nat) (x : SbSt) : (s.setSb b x).sclHeld = s.sclHeld := (rfl)
@[simp] theorem setSb_proofs (b : Nat) (x : SbSt) : (s.setSb b x).proofs = s.proofs := (rfl)
@[simp] theorem setSb_trayLines (b : Nat) (x : SbSt) : (s.setSb b x).trayLines = s.trayLines := (rfl)
@[simp] theorem setSb_egPorts (b : Nat) (x : SbSt) : (s.setSb b x).egPorts = s.egPorts := (rfl)
@[simp] theorem setSb_egFlows (b : Nat) (x : SbSt) : (s.setSb b x).egFlows = s.egFlows := (rfl)
@[simp] theorem setSb_strs (b : Nat) (x : SbSt) : (s.setSb b x).strs = s.strs := (rfl)
@[simp] theorem setSb_srtps (b : Nat) (x : SbSt) : (s.setSb b x).srtps = s.srtps := (rfl)
@[simp] theorem setSb_epochs (b : Nat) (x : SbSt) : (s.setSb b x).epochs = s.epochs := (rfl)
@[simp] theorem setSb_wl (b : Nat) (x : SbSt) : (s.setSb b x).wl = s.wl := (rfl)
@[simp] theorem setSb_groups (b : Nat) (x : SbSt) : (s.setSb b x).groups = s.groups := (rfl)
@[simp] theorem setSb_busFaultAt (b : Nat) (x : SbSt) : (s.setSb b x).busFaultAt = s.busFaultAt := (rfl)
@[simp] theorem setSb_staged (b : Nat) (x : SbSt) : (s.setSb b x).staged = s.staged := (rfl)
@[simp] theorem setSb_flowPort (b : Nat) (x : SbSt) : (s.setSb b x).flowPort = s.flowPort := (rfl)
@[simp] theorem setSb_recs (b : Nat) (x : SbSt) : (s.setSb b x).recs = s.recs := (rfl)
@[simp] theorem setSb_recno (b : Nat) (x : SbSt) : (s.setSb b x).recno = s.recno := (rfl)
@[simp] theorem setSb_msixTable (b : Nat) (x : SbSt) : (s.setSb b x).msixTable = s.msixTable := (rfl)
@[simp] theorem setSb_out (b : Nat) (x : SbSt) : (s.setSb b x).out = s.out := (rfl)
@[simp] theorem setSb_freeCtr (b : Nat) (x : SbSt) : (s.setSb b x).freeCtr = s.freeCtr := (rfl)
@[simp] theorem setSb_heath (b : Nat) (x : SbSt) : (s.setSb b x).heath = s.heath := (rfl)
@[simp] theorem setSb_hlt (b : Nat) (x : SbSt) : (s.setSb b x).hlt = s.hlt := (rfl)
@[simp] theorem setSb_pdk (b : Nat) (x : SbSt) : (s.setSb b x).pdk = s.pdk := (rfl)
@[simp] theorem setSb_cons (b : Nat) (x : SbSt) : (s.setSb b x).cons = s.cons := (rfl)
@[simp] theorem setSb_hcrs (b : Nat) (x : SbSt) : (s.setSb b x).hcrs = s.hcrs := (rfl)
@[simp] theorem setSb_dmas (b : Nat) (x : SbSt) : (s.setSb b x).dmas = s.dmas := (rfl)
@[simp] theorem setSb_dmaTurn (b : Nat) (x : SbSt) : (s.setSb b x).dmaTurn = s.dmaTurn := (rfl)
@[simp] theorem setSb_ptp (b : Nat) (x : SbSt) : (s.setSb b x).ptp = s.ptp := (rfl)
@[simp] theorem setSb_mcasts (b : Nat) (x : SbSt) : (s.setSb b x).mcasts = s.mcasts := (rfl)
@[simp] theorem setSb_lostCmds (b : Nat) (x : SbSt) : (s.setSb b x).lostCmds = s.lostCmds := (rfl)
@[simp] theorem setSb_rcpKeys (b : Nat) (x : SbSt) : (s.setSb b x).rcpKeys = s.rcpKeys := (rfl)
@[simp] theorem setSb_svnMin (b : Nat) (x : SbSt) : (s.setSb b x).svnMin = s.svnMin := (rfl)
@[simp] theorem setSb_boots (b : Nat) (x : SbSt) : (s.setSb b x).boots = s.boots := (rfl)
@[simp] theorem setSb_bootPending (b : Nat) (x : SbSt) : (s.setSb b x).bootPending = s.bootPending := (rfl)
@[simp] theorem setSb_pwrGood (b : Nat) (x : SbSt) : (s.setSb b x).pwrGood = s.pwrGood := (rfl)

@[simp] theorem setTdm_pending (p : Nat) (x : TdmSt) : (s.setTdm p x).pending = s.pending := (rfl)
@[simp] theorem setTdm_raw (p : Nat) (x : TdmSt) : (s.setTdm p x).raw = s.raw := (rfl)
@[simp] theorem setTdm_regs (p : Nat) (x : TdmSt) : (s.setTdm p x).regs = s.regs := (rfl)
@[simp] theorem setTdm_landed (p : Nat) (x : TdmSt) : (s.setTdm p x).landed = s.landed := (rfl)
@[simp] theorem setTdm_srwPend (p : Nat) (x : TdmSt) : (s.setTdm p x).srwPend = s.srwPend := (rfl)
@[simp] theorem setTdm_shadowNow (p : Nat) (x : TdmSt) : (s.setTdm p x).shadowNow = s.shadowNow := (rfl)
@[simp] theorem setTdm_rdLatch (p : Nat) (x : TdmSt) : (s.setTdm p x).rdLatch = s.rdLatch := (rfl)
@[simp] theorem setTdm_claimAt (p : Nat) (x : TdmSt) : (s.setTdm p x).claimAt = s.claimAt := (rfl)
@[simp] theorem setTdm_before (p : Nat) (x : TdmSt) : (s.setTdm p x).before = s.before := (rfl)
@[simp] theorem setTdm_pci (p : Nat) (x : TdmSt) : (s.setTdm p x).pci = s.pci := (rfl)
@[simp] theorem setTdm_wrHold (p : Nat) (x : TdmSt) : (s.setTdm p x).wrHold = s.wrHold := (rfl)
@[simp] theorem setTdm_mem (p : Nat) (x : TdmSt) : (s.setTdm p x).mem = s.mem := (rfl)
@[simp] theorem setTdm_poison (p : Nat) (x : TdmSt) : (s.setTdm p x).poison = s.poison := (rfl)
@[simp] theorem setTdm_seqMem (p : Nat) (x : TdmSt) : (s.setTdm p x).seqMem = s.seqMem := (rfl)
@[simp] theorem setTdm_seqBad (p : Nat) (x : TdmSt) : (s.setTdm p x).seqBad = s.seqBad := (rfl)
@[simp] theorem setTdm_threads (p : Nat) (x : TdmSt) : (s.setTdm p x).threads = s.threads := (rfl)
@[simp] theorem setTdm_turns (p : Nat) (x : TdmSt) : (s.setTdm p x).turns = s.turns := (rfl)
@[simp] theorem setTdm_cores (p : Nat) (x : TdmSt) : (s.setTdm p x).cores = s.cores := (rfl)
@[simp] theorem setTdm_tasks (p : Nat) (x : TdmSt) : (s.setTdm p x).tasks = s.tasks := (rfl)
@[simp] theorem setTdm_readyCtr (p : Nat) (x : TdmSt) : (s.setTdm p x).readyCtr = s.readyCtr := (rfl)
@[simp] theorem setTdm_mpcHeld (p : Nat) (x : TdmSt) : (s.setTdm p x).mpcHeld = s.mpcHeld := (rfl)
@[simp] theorem setTdm_hwSeq (p : Nat) (x : TdmSt) : (s.setTdm p x).hwSeq = s.hwSeq := (rfl)
@[simp] theorem setTdm_drrGroup (p : Nat) (x : TdmSt) : (s.setTdm p x).drrGroup = s.drrGroup := (rfl)
@[simp] theorem setTdm_drrOpen (p : Nat) (x : TdmSt) : (s.setTdm p x).drrOpen = s.drrOpen := (rfl)
@[simp] theorem setTdm_tickPend (p : Nat) (x : TdmSt) : (s.setTdm p x).tickPend = s.tickPend := (rfl)
@[simp] theorem setTdm_lastTick (p : Nat) (x : TdmSt) : (s.setTdm p x).lastTick = s.lastTick := (rfl)
@[simp] theorem setTdm_tickFrom (p : Nat) (x : TdmSt) : (s.setTdm p x).tickFrom = s.tickFrom := (rfl)
@[simp] theorem setTdm_moved (p : Nat) (x : TdmSt) : (s.setTdm p x).moved = s.moved := (rfl)
@[simp] theorem setTdm_relWait (p : Nat) (x : TdmSt) : (s.setTdm p x).relWait = s.relWait := (rfl)
@[simp] theorem setTdm_busy (p : Nat) (x : TdmSt) : (s.setTdm p x).busy = s.busy := (rfl)
@[simp] theorem setTdm_adm (p : Nat) (x : TdmSt) : (s.setTdm p x).adm = s.adm := (rfl)
@[simp] theorem setTdm_chans (p : Nat) (x : TdmSt) : (s.setTdm p x).chans = s.chans := (rfl)
@[simp] theorem setTdm_tb (p : Nat) (x : TdmSt) : (s.setTdm p x).tb = s.tb := (rfl)
@[simp] theorem setTdm_pgs (p : Nat) (x : TdmSt) : (s.setTdm p x).pgs = s.pgs := (rfl)
@[simp] theorem setTdm_encTags (p : Nat) (x : TdmSt) : (s.setTdm p x).encTags = s.encTags := (rfl)
@[simp] theorem setTdm_encWords (p : Nat) (x : TdmSt) : (s.setTdm p x).encWords = s.encWords := (rfl)
@[simp] theorem setTdm_memSts (p : Nat) (x : TdmSt) : (s.setTdm p x).memSts = s.memSts := (rfl)
@[simp] theorem setTdm_lanes (p : Nat) (x : TdmSt) : (s.setTdm p x).lanes = s.lanes := (rfl)
@[simp] theorem setTdm_ports (p : Nat) (x : TdmSt) : (s.setTdm p x).ports = s.ports := (rfl)
@[simp] theorem setTdm_pairs (p : Nat) (x : TdmSt) : (s.setTdm p x).pairs = s.pairs := (rfl)
@[simp] theorem setTdm_ingFifo (p : Nat) (x : TdmSt) : (s.setTdm p x).ingFifo = s.ingFifo := (rfl)
@[simp] theorem setTdm_ctl (p : Nat) (x : TdmSt) : (s.setTdm p x).ctl = s.ctl := (rfl)
@[simp] theorem setTdm_flowBad (p : Nat) (x : TdmSt) : (s.setTdm p x).flowBad = s.flowBad := (rfl)
@[simp] theorem setTdm_pools (p : Nat) (x : TdmSt) : (s.setTdm p x).pools = s.pools := (rfl)
@[simp] theorem setTdm_decs (p : Nat) (x : TdmSt) : (s.setTdm p x).decs = s.decs := (rfl)
@[simp] theorem setTdm_sbs (p : Nat) (x : TdmSt) : (s.setTdm p x).sbs = s.sbs := (rfl)
@[simp] theorem setTdm_vcxo (p : Nat) (x : TdmSt) : (s.setTdm p x).vcxo = s.vcxo := (rfl)
@[simp] theorem setTdm_units (p : Nat) (x : TdmSt) : (s.setTdm p x).units = s.units := (rfl)
@[simp] theorem setTdm_engCtx (p : Nat) (x : TdmSt) : (s.setTdm p x).engCtx = s.engCtx := (rfl)
@[simp] theorem setTdm_rends (p : Nat) (x : TdmSt) : (s.setTdm p x).rends = s.rends := (rfl)
@[simp] theorem setTdm_prfOwn (p : Nat) (x : TdmSt) : (s.setTdm p x).prfOwn = s.prfOwn := (rfl)
@[simp] theorem setTdm_sclOwn (p : Nat) (x : TdmSt) : (s.setTdm p x).sclOwn = s.sclOwn := (rfl)
@[simp] theorem setTdm_coefs (p : Nat) (x : TdmSt) : (s.setTdm p x).coefs = s.coefs := (rfl)
@[simp] theorem setTdm_sclHeld (p : Nat) (x : TdmSt) : (s.setTdm p x).sclHeld = s.sclHeld := (rfl)
@[simp] theorem setTdm_proofs (p : Nat) (x : TdmSt) : (s.setTdm p x).proofs = s.proofs := (rfl)
@[simp] theorem setTdm_trayLines (p : Nat) (x : TdmSt) : (s.setTdm p x).trayLines = s.trayLines := (rfl)
@[simp] theorem setTdm_egPorts (p : Nat) (x : TdmSt) : (s.setTdm p x).egPorts = s.egPorts := (rfl)
@[simp] theorem setTdm_egFlows (p : Nat) (x : TdmSt) : (s.setTdm p x).egFlows = s.egFlows := (rfl)
@[simp] theorem setTdm_strs (p : Nat) (x : TdmSt) : (s.setTdm p x).strs = s.strs := (rfl)
@[simp] theorem setTdm_srtps (p : Nat) (x : TdmSt) : (s.setTdm p x).srtps = s.srtps := (rfl)
@[simp] theorem setTdm_epochs (p : Nat) (x : TdmSt) : (s.setTdm p x).epochs = s.epochs := (rfl)
@[simp] theorem setTdm_wl (p : Nat) (x : TdmSt) : (s.setTdm p x).wl = s.wl := (rfl)
@[simp] theorem setTdm_groups (p : Nat) (x : TdmSt) : (s.setTdm p x).groups = s.groups := (rfl)
@[simp] theorem setTdm_busFaultAt (p : Nat) (x : TdmSt) : (s.setTdm p x).busFaultAt = s.busFaultAt := (rfl)
@[simp] theorem setTdm_staged (p : Nat) (x : TdmSt) : (s.setTdm p x).staged = s.staged := (rfl)
@[simp] theorem setTdm_flowPort (p : Nat) (x : TdmSt) : (s.setTdm p x).flowPort = s.flowPort := (rfl)
@[simp] theorem setTdm_recs (p : Nat) (x : TdmSt) : (s.setTdm p x).recs = s.recs := (rfl)
@[simp] theorem setTdm_recno (p : Nat) (x : TdmSt) : (s.setTdm p x).recno = s.recno := (rfl)
@[simp] theorem setTdm_msixTable (p : Nat) (x : TdmSt) : (s.setTdm p x).msixTable = s.msixTable := (rfl)
@[simp] theorem setTdm_out (p : Nat) (x : TdmSt) : (s.setTdm p x).out = s.out := (rfl)
@[simp] theorem setTdm_freeCtr (p : Nat) (x : TdmSt) : (s.setTdm p x).freeCtr = s.freeCtr := (rfl)
@[simp] theorem setTdm_heath (p : Nat) (x : TdmSt) : (s.setTdm p x).heath = s.heath := (rfl)
@[simp] theorem setTdm_hlt (p : Nat) (x : TdmSt) : (s.setTdm p x).hlt = s.hlt := (rfl)
@[simp] theorem setTdm_pdk (p : Nat) (x : TdmSt) : (s.setTdm p x).pdk = s.pdk := (rfl)
@[simp] theorem setTdm_cons (p : Nat) (x : TdmSt) : (s.setTdm p x).cons = s.cons := (rfl)
@[simp] theorem setTdm_hcrs (p : Nat) (x : TdmSt) : (s.setTdm p x).hcrs = s.hcrs := (rfl)
@[simp] theorem setTdm_dmas (p : Nat) (x : TdmSt) : (s.setTdm p x).dmas = s.dmas := (rfl)
@[simp] theorem setTdm_dmaTurn (p : Nat) (x : TdmSt) : (s.setTdm p x).dmaTurn = s.dmaTurn := (rfl)
@[simp] theorem setTdm_ptp (p : Nat) (x : TdmSt) : (s.setTdm p x).ptp = s.ptp := (rfl)
@[simp] theorem setTdm_mcasts (p : Nat) (x : TdmSt) : (s.setTdm p x).mcasts = s.mcasts := (rfl)
@[simp] theorem setTdm_lostCmds (p : Nat) (x : TdmSt) : (s.setTdm p x).lostCmds = s.lostCmds := (rfl)
@[simp] theorem setTdm_rcpKeys (p : Nat) (x : TdmSt) : (s.setTdm p x).rcpKeys = s.rcpKeys := (rfl)
@[simp] theorem setTdm_svnMin (p : Nat) (x : TdmSt) : (s.setTdm p x).svnMin = s.svnMin := (rfl)
@[simp] theorem setTdm_boots (p : Nat) (x : TdmSt) : (s.setTdm p x).boots = s.boots := (rfl)
@[simp] theorem setTdm_bootPending (p : Nat) (x : TdmSt) : (s.setTdm p x).bootPending = s.bootPending := (rfl)
@[simp] theorem setTdm_pwrGood (p : Nat) (x : TdmSt) : (s.setTdm p x).pwrGood = s.pwrGood := (rfl)

@[simp] theorem setDma_pending (c : Nat) (d : DmaSt) : (s.setDma c d).pending = s.pending := (rfl)
@[simp] theorem setDma_raw (c : Nat) (d : DmaSt) : (s.setDma c d).raw = s.raw := (rfl)
@[simp] theorem setDma_regs (c : Nat) (d : DmaSt) : (s.setDma c d).regs = s.regs := (rfl)
@[simp] theorem setDma_landed (c : Nat) (d : DmaSt) : (s.setDma c d).landed = s.landed := (rfl)
@[simp] theorem setDma_srwPend (c : Nat) (d : DmaSt) : (s.setDma c d).srwPend = s.srwPend := (rfl)
@[simp] theorem setDma_shadowNow (c : Nat) (d : DmaSt) : (s.setDma c d).shadowNow = s.shadowNow := (rfl)
@[simp] theorem setDma_rdLatch (c : Nat) (d : DmaSt) : (s.setDma c d).rdLatch = s.rdLatch := (rfl)
@[simp] theorem setDma_claimAt (c : Nat) (d : DmaSt) : (s.setDma c d).claimAt = s.claimAt := (rfl)
@[simp] theorem setDma_before (c : Nat) (d : DmaSt) : (s.setDma c d).before = s.before := (rfl)
@[simp] theorem setDma_pci (c : Nat) (d : DmaSt) : (s.setDma c d).pci = s.pci := (rfl)
@[simp] theorem setDma_wrHold (c : Nat) (d : DmaSt) : (s.setDma c d).wrHold = s.wrHold := (rfl)
@[simp] theorem setDma_mem (c : Nat) (d : DmaSt) : (s.setDma c d).mem = s.mem := (rfl)
@[simp] theorem setDma_poison (c : Nat) (d : DmaSt) : (s.setDma c d).poison = s.poison := (rfl)
@[simp] theorem setDma_seqMem (c : Nat) (d : DmaSt) : (s.setDma c d).seqMem = s.seqMem := (rfl)
@[simp] theorem setDma_seqBad (c : Nat) (d : DmaSt) : (s.setDma c d).seqBad = s.seqBad := (rfl)
@[simp] theorem setDma_threads (c : Nat) (d : DmaSt) : (s.setDma c d).threads = s.threads := (rfl)
@[simp] theorem setDma_turns (c : Nat) (d : DmaSt) : (s.setDma c d).turns = s.turns := (rfl)
@[simp] theorem setDma_cores (c : Nat) (d : DmaSt) : (s.setDma c d).cores = s.cores := (rfl)
@[simp] theorem setDma_tasks (c : Nat) (d : DmaSt) : (s.setDma c d).tasks = s.tasks := (rfl)
@[simp] theorem setDma_readyCtr (c : Nat) (d : DmaSt) : (s.setDma c d).readyCtr = s.readyCtr := (rfl)
@[simp] theorem setDma_mpcHeld (c : Nat) (d : DmaSt) : (s.setDma c d).mpcHeld = s.mpcHeld := (rfl)
@[simp] theorem setDma_hwSeq (c : Nat) (d : DmaSt) : (s.setDma c d).hwSeq = s.hwSeq := (rfl)
@[simp] theorem setDma_drrGroup (c : Nat) (d : DmaSt) : (s.setDma c d).drrGroup = s.drrGroup := (rfl)
@[simp] theorem setDma_drrOpen (c : Nat) (d : DmaSt) : (s.setDma c d).drrOpen = s.drrOpen := (rfl)
@[simp] theorem setDma_tickPend (c : Nat) (d : DmaSt) : (s.setDma c d).tickPend = s.tickPend := (rfl)
@[simp] theorem setDma_lastTick (c : Nat) (d : DmaSt) : (s.setDma c d).lastTick = s.lastTick := (rfl)
@[simp] theorem setDma_tickFrom (c : Nat) (d : DmaSt) : (s.setDma c d).tickFrom = s.tickFrom := (rfl)
@[simp] theorem setDma_moved (c : Nat) (d : DmaSt) : (s.setDma c d).moved = s.moved := (rfl)
@[simp] theorem setDma_relWait (c : Nat) (d : DmaSt) : (s.setDma c d).relWait = s.relWait := (rfl)
@[simp] theorem setDma_busy (c : Nat) (d : DmaSt) : (s.setDma c d).busy = s.busy := (rfl)
@[simp] theorem setDma_adm (c : Nat) (d : DmaSt) : (s.setDma c d).adm = s.adm := (rfl)
@[simp] theorem setDma_chans (c : Nat) (d : DmaSt) : (s.setDma c d).chans = s.chans := (rfl)
@[simp] theorem setDma_tb (c : Nat) (d : DmaSt) : (s.setDma c d).tb = s.tb := (rfl)
@[simp] theorem setDma_pgs (c : Nat) (d : DmaSt) : (s.setDma c d).pgs = s.pgs := (rfl)
@[simp] theorem setDma_encTags (c : Nat) (d : DmaSt) : (s.setDma c d).encTags = s.encTags := (rfl)
@[simp] theorem setDma_encWords (c : Nat) (d : DmaSt) : (s.setDma c d).encWords = s.encWords := (rfl)
@[simp] theorem setDma_memSts (c : Nat) (d : DmaSt) : (s.setDma c d).memSts = s.memSts := (rfl)
@[simp] theorem setDma_lanes (c : Nat) (d : DmaSt) : (s.setDma c d).lanes = s.lanes := (rfl)
@[simp] theorem setDma_ports (c : Nat) (d : DmaSt) : (s.setDma c d).ports = s.ports := (rfl)
@[simp] theorem setDma_pairs (c : Nat) (d : DmaSt) : (s.setDma c d).pairs = s.pairs := (rfl)
@[simp] theorem setDma_ingFifo (c : Nat) (d : DmaSt) : (s.setDma c d).ingFifo = s.ingFifo := (rfl)
@[simp] theorem setDma_ctl (c : Nat) (d : DmaSt) : (s.setDma c d).ctl = s.ctl := (rfl)
@[simp] theorem setDma_flowBad (c : Nat) (d : DmaSt) : (s.setDma c d).flowBad = s.flowBad := (rfl)
@[simp] theorem setDma_pools (c : Nat) (d : DmaSt) : (s.setDma c d).pools = s.pools := (rfl)
@[simp] theorem setDma_decs (c : Nat) (d : DmaSt) : (s.setDma c d).decs = s.decs := (rfl)
@[simp] theorem setDma_sbs (c : Nat) (d : DmaSt) : (s.setDma c d).sbs = s.sbs := (rfl)
@[simp] theorem setDma_tdms (c : Nat) (d : DmaSt) : (s.setDma c d).tdms = s.tdms := (rfl)
@[simp] theorem setDma_vcxo (c : Nat) (d : DmaSt) : (s.setDma c d).vcxo = s.vcxo := (rfl)
@[simp] theorem setDma_units (c : Nat) (d : DmaSt) : (s.setDma c d).units = s.units := (rfl)
@[simp] theorem setDma_engCtx (c : Nat) (d : DmaSt) : (s.setDma c d).engCtx = s.engCtx := (rfl)
@[simp] theorem setDma_rends (c : Nat) (d : DmaSt) : (s.setDma c d).rends = s.rends := (rfl)
@[simp] theorem setDma_prfOwn (c : Nat) (d : DmaSt) : (s.setDma c d).prfOwn = s.prfOwn := (rfl)
@[simp] theorem setDma_sclOwn (c : Nat) (d : DmaSt) : (s.setDma c d).sclOwn = s.sclOwn := (rfl)
@[simp] theorem setDma_coefs (c : Nat) (d : DmaSt) : (s.setDma c d).coefs = s.coefs := (rfl)
@[simp] theorem setDma_sclHeld (c : Nat) (d : DmaSt) : (s.setDma c d).sclHeld = s.sclHeld := (rfl)
@[simp] theorem setDma_proofs (c : Nat) (d : DmaSt) : (s.setDma c d).proofs = s.proofs := (rfl)
@[simp] theorem setDma_trayLines (c : Nat) (d : DmaSt) : (s.setDma c d).trayLines = s.trayLines := (rfl)
@[simp] theorem setDma_egPorts (c : Nat) (d : DmaSt) : (s.setDma c d).egPorts = s.egPorts := (rfl)
@[simp] theorem setDma_egFlows (c : Nat) (d : DmaSt) : (s.setDma c d).egFlows = s.egFlows := (rfl)
@[simp] theorem setDma_strs (c : Nat) (d : DmaSt) : (s.setDma c d).strs = s.strs := (rfl)
@[simp] theorem setDma_srtps (c : Nat) (d : DmaSt) : (s.setDma c d).srtps = s.srtps := (rfl)
@[simp] theorem setDma_epochs (c : Nat) (d : DmaSt) : (s.setDma c d).epochs = s.epochs := (rfl)
@[simp] theorem setDma_wl (c : Nat) (d : DmaSt) : (s.setDma c d).wl = s.wl := (rfl)
@[simp] theorem setDma_groups (c : Nat) (d : DmaSt) : (s.setDma c d).groups = s.groups := (rfl)
@[simp] theorem setDma_busFaultAt (c : Nat) (d : DmaSt) : (s.setDma c d).busFaultAt = s.busFaultAt := (rfl)
@[simp] theorem setDma_staged (c : Nat) (d : DmaSt) : (s.setDma c d).staged = s.staged := (rfl)
@[simp] theorem setDma_flowPort (c : Nat) (d : DmaSt) : (s.setDma c d).flowPort = s.flowPort := (rfl)
@[simp] theorem setDma_recs (c : Nat) (d : DmaSt) : (s.setDma c d).recs = s.recs := (rfl)
@[simp] theorem setDma_recno (c : Nat) (d : DmaSt) : (s.setDma c d).recno = s.recno := (rfl)
@[simp] theorem setDma_msixTable (c : Nat) (d : DmaSt) : (s.setDma c d).msixTable = s.msixTable := (rfl)
@[simp] theorem setDma_out (c : Nat) (d : DmaSt) : (s.setDma c d).out = s.out := (rfl)
@[simp] theorem setDma_freeCtr (c : Nat) (d : DmaSt) : (s.setDma c d).freeCtr = s.freeCtr := (rfl)
@[simp] theorem setDma_heath (c : Nat) (d : DmaSt) : (s.setDma c d).heath = s.heath := (rfl)
@[simp] theorem setDma_hlt (c : Nat) (d : DmaSt) : (s.setDma c d).hlt = s.hlt := (rfl)
@[simp] theorem setDma_pdk (c : Nat) (d : DmaSt) : (s.setDma c d).pdk = s.pdk := (rfl)
@[simp] theorem setDma_cons (c : Nat) (d : DmaSt) : (s.setDma c d).cons = s.cons := (rfl)
@[simp] theorem setDma_hcrs (c : Nat) (d : DmaSt) : (s.setDma c d).hcrs = s.hcrs := (rfl)
@[simp] theorem setDma_dmaTurn (c : Nat) (d : DmaSt) : (s.setDma c d).dmaTurn = s.dmaTurn := (rfl)
@[simp] theorem setDma_ptp (c : Nat) (d : DmaSt) : (s.setDma c d).ptp = s.ptp := (rfl)
@[simp] theorem setDma_mcasts (c : Nat) (d : DmaSt) : (s.setDma c d).mcasts = s.mcasts := (rfl)
@[simp] theorem setDma_lostCmds (c : Nat) (d : DmaSt) : (s.setDma c d).lostCmds = s.lostCmds := (rfl)
@[simp] theorem setDma_rcpKeys (c : Nat) (d : DmaSt) : (s.setDma c d).rcpKeys = s.rcpKeys := (rfl)
@[simp] theorem setDma_svnMin (c : Nat) (d : DmaSt) : (s.setDma c d).svnMin = s.svnMin := (rfl)
@[simp] theorem setDma_boots (c : Nat) (d : DmaSt) : (s.setDma c d).boots = s.boots := (rfl)
@[simp] theorem setDma_bootPending (c : Nat) (d : DmaSt) : (s.setDma c d).bootPending = s.bootPending := (rfl)
@[simp] theorem setDma_pwrGood (c : Nat) (d : DmaSt) : (s.setDma c d).pwrGood = s.pwrGood := (rfl)

@[simp] theorem setFlowTx_pending (f : Nat) (x : FlowTx) : (s.setFlowTx f x).pending = s.pending := (rfl)
@[simp] theorem setFlowTx_raw (f : Nat) (x : FlowTx) : (s.setFlowTx f x).raw = s.raw := (rfl)
@[simp] theorem setFlowTx_regs (f : Nat) (x : FlowTx) : (s.setFlowTx f x).regs = s.regs := (rfl)
@[simp] theorem setFlowTx_landed (f : Nat) (x : FlowTx) : (s.setFlowTx f x).landed = s.landed := (rfl)
@[simp] theorem setFlowTx_srwPend (f : Nat) (x : FlowTx) : (s.setFlowTx f x).srwPend = s.srwPend := (rfl)
@[simp] theorem setFlowTx_shadowNow (f : Nat) (x : FlowTx) : (s.setFlowTx f x).shadowNow = s.shadowNow := (rfl)
@[simp] theorem setFlowTx_rdLatch (f : Nat) (x : FlowTx) : (s.setFlowTx f x).rdLatch = s.rdLatch := (rfl)
@[simp] theorem setFlowTx_claimAt (f : Nat) (x : FlowTx) : (s.setFlowTx f x).claimAt = s.claimAt := (rfl)
@[simp] theorem setFlowTx_before (f : Nat) (x : FlowTx) : (s.setFlowTx f x).before = s.before := (rfl)
@[simp] theorem setFlowTx_pci (f : Nat) (x : FlowTx) : (s.setFlowTx f x).pci = s.pci := (rfl)
@[simp] theorem setFlowTx_wrHold (f : Nat) (x : FlowTx) : (s.setFlowTx f x).wrHold = s.wrHold := (rfl)
@[simp] theorem setFlowTx_mem (f : Nat) (x : FlowTx) : (s.setFlowTx f x).mem = s.mem := (rfl)
@[simp] theorem setFlowTx_poison (f : Nat) (x : FlowTx) : (s.setFlowTx f x).poison = s.poison := (rfl)
@[simp] theorem setFlowTx_seqMem (f : Nat) (x : FlowTx) : (s.setFlowTx f x).seqMem = s.seqMem := (rfl)
@[simp] theorem setFlowTx_seqBad (f : Nat) (x : FlowTx) : (s.setFlowTx f x).seqBad = s.seqBad := (rfl)
@[simp] theorem setFlowTx_threads (f : Nat) (x : FlowTx) : (s.setFlowTx f x).threads = s.threads := (rfl)
@[simp] theorem setFlowTx_turns (f : Nat) (x : FlowTx) : (s.setFlowTx f x).turns = s.turns := (rfl)
@[simp] theorem setFlowTx_cores (f : Nat) (x : FlowTx) : (s.setFlowTx f x).cores = s.cores := (rfl)
@[simp] theorem setFlowTx_tasks (f : Nat) (x : FlowTx) : (s.setFlowTx f x).tasks = s.tasks := (rfl)
@[simp] theorem setFlowTx_readyCtr (f : Nat) (x : FlowTx) : (s.setFlowTx f x).readyCtr = s.readyCtr := (rfl)
@[simp] theorem setFlowTx_mpcHeld (f : Nat) (x : FlowTx) : (s.setFlowTx f x).mpcHeld = s.mpcHeld := (rfl)
@[simp] theorem setFlowTx_hwSeq (f : Nat) (x : FlowTx) : (s.setFlowTx f x).hwSeq = s.hwSeq := (rfl)
@[simp] theorem setFlowTx_drrGroup (f : Nat) (x : FlowTx) : (s.setFlowTx f x).drrGroup = s.drrGroup := (rfl)
@[simp] theorem setFlowTx_drrOpen (f : Nat) (x : FlowTx) : (s.setFlowTx f x).drrOpen = s.drrOpen := (rfl)
@[simp] theorem setFlowTx_tickPend (f : Nat) (x : FlowTx) : (s.setFlowTx f x).tickPend = s.tickPend := (rfl)
@[simp] theorem setFlowTx_lastTick (f : Nat) (x : FlowTx) : (s.setFlowTx f x).lastTick = s.lastTick := (rfl)
@[simp] theorem setFlowTx_tickFrom (f : Nat) (x : FlowTx) : (s.setFlowTx f x).tickFrom = s.tickFrom := (rfl)
@[simp] theorem setFlowTx_moved (f : Nat) (x : FlowTx) : (s.setFlowTx f x).moved = s.moved := (rfl)
@[simp] theorem setFlowTx_relWait (f : Nat) (x : FlowTx) : (s.setFlowTx f x).relWait = s.relWait := (rfl)
@[simp] theorem setFlowTx_busy (f : Nat) (x : FlowTx) : (s.setFlowTx f x).busy = s.busy := (rfl)
@[simp] theorem setFlowTx_adm (f : Nat) (x : FlowTx) : (s.setFlowTx f x).adm = s.adm := (rfl)
@[simp] theorem setFlowTx_chans (f : Nat) (x : FlowTx) : (s.setFlowTx f x).chans = s.chans := (rfl)
@[simp] theorem setFlowTx_tb (f : Nat) (x : FlowTx) : (s.setFlowTx f x).tb = s.tb := (rfl)
@[simp] theorem setFlowTx_pgs (f : Nat) (x : FlowTx) : (s.setFlowTx f x).pgs = s.pgs := (rfl)
@[simp] theorem setFlowTx_encTags (f : Nat) (x : FlowTx) : (s.setFlowTx f x).encTags = s.encTags := (rfl)
@[simp] theorem setFlowTx_encWords (f : Nat) (x : FlowTx) : (s.setFlowTx f x).encWords = s.encWords := (rfl)
@[simp] theorem setFlowTx_memSts (f : Nat) (x : FlowTx) : (s.setFlowTx f x).memSts = s.memSts := (rfl)
@[simp] theorem setFlowTx_lanes (f : Nat) (x : FlowTx) : (s.setFlowTx f x).lanes = s.lanes := (rfl)
@[simp] theorem setFlowTx_ports (f : Nat) (x : FlowTx) : (s.setFlowTx f x).ports = s.ports := (rfl)
@[simp] theorem setFlowTx_pairs (f : Nat) (x : FlowTx) : (s.setFlowTx f x).pairs = s.pairs := (rfl)
@[simp] theorem setFlowTx_ingFifo (f : Nat) (x : FlowTx) : (s.setFlowTx f x).ingFifo = s.ingFifo := (rfl)
@[simp] theorem setFlowTx_ctl (f : Nat) (x : FlowTx) : (s.setFlowTx f x).ctl = s.ctl := (rfl)
@[simp] theorem setFlowTx_flowBad (f : Nat) (x : FlowTx) : (s.setFlowTx f x).flowBad = s.flowBad := (rfl)
@[simp] theorem setFlowTx_pools (f : Nat) (x : FlowTx) : (s.setFlowTx f x).pools = s.pools := (rfl)
@[simp] theorem setFlowTx_decs (f : Nat) (x : FlowTx) : (s.setFlowTx f x).decs = s.decs := (rfl)
@[simp] theorem setFlowTx_sbs (f : Nat) (x : FlowTx) : (s.setFlowTx f x).sbs = s.sbs := (rfl)
@[simp] theorem setFlowTx_tdms (f : Nat) (x : FlowTx) : (s.setFlowTx f x).tdms = s.tdms := (rfl)
@[simp] theorem setFlowTx_vcxo (f : Nat) (x : FlowTx) : (s.setFlowTx f x).vcxo = s.vcxo := (rfl)
@[simp] theorem setFlowTx_units (f : Nat) (x : FlowTx) : (s.setFlowTx f x).units = s.units := (rfl)
@[simp] theorem setFlowTx_engCtx (f : Nat) (x : FlowTx) : (s.setFlowTx f x).engCtx = s.engCtx := (rfl)
@[simp] theorem setFlowTx_rends (f : Nat) (x : FlowTx) : (s.setFlowTx f x).rends = s.rends := (rfl)
@[simp] theorem setFlowTx_prfOwn (f : Nat) (x : FlowTx) : (s.setFlowTx f x).prfOwn = s.prfOwn := (rfl)
@[simp] theorem setFlowTx_sclOwn (f : Nat) (x : FlowTx) : (s.setFlowTx f x).sclOwn = s.sclOwn := (rfl)
@[simp] theorem setFlowTx_coefs (f : Nat) (x : FlowTx) : (s.setFlowTx f x).coefs = s.coefs := (rfl)
@[simp] theorem setFlowTx_sclHeld (f : Nat) (x : FlowTx) : (s.setFlowTx f x).sclHeld = s.sclHeld := (rfl)
@[simp] theorem setFlowTx_proofs (f : Nat) (x : FlowTx) : (s.setFlowTx f x).proofs = s.proofs := (rfl)
@[simp] theorem setFlowTx_trayLines (f : Nat) (x : FlowTx) : (s.setFlowTx f x).trayLines = s.trayLines := (rfl)
@[simp] theorem setFlowTx_egPorts (f : Nat) (x : FlowTx) : (s.setFlowTx f x).egPorts = s.egPorts := (rfl)
@[simp] theorem setFlowTx_strs (f : Nat) (x : FlowTx) : (s.setFlowTx f x).strs = s.strs := (rfl)
@[simp] theorem setFlowTx_srtps (f : Nat) (x : FlowTx) : (s.setFlowTx f x).srtps = s.srtps := (rfl)
@[simp] theorem setFlowTx_epochs (f : Nat) (x : FlowTx) : (s.setFlowTx f x).epochs = s.epochs := (rfl)
@[simp] theorem setFlowTx_wl (f : Nat) (x : FlowTx) : (s.setFlowTx f x).wl = s.wl := (rfl)
@[simp] theorem setFlowTx_groups (f : Nat) (x : FlowTx) : (s.setFlowTx f x).groups = s.groups := (rfl)
@[simp] theorem setFlowTx_busFaultAt (f : Nat) (x : FlowTx) : (s.setFlowTx f x).busFaultAt = s.busFaultAt := (rfl)
@[simp] theorem setFlowTx_staged (f : Nat) (x : FlowTx) : (s.setFlowTx f x).staged = s.staged := (rfl)
@[simp] theorem setFlowTx_flowPort (f : Nat) (x : FlowTx) : (s.setFlowTx f x).flowPort = s.flowPort := (rfl)
@[simp] theorem setFlowTx_recs (f : Nat) (x : FlowTx) : (s.setFlowTx f x).recs = s.recs := (rfl)
@[simp] theorem setFlowTx_recno (f : Nat) (x : FlowTx) : (s.setFlowTx f x).recno = s.recno := (rfl)
@[simp] theorem setFlowTx_msixTable (f : Nat) (x : FlowTx) : (s.setFlowTx f x).msixTable = s.msixTable := (rfl)
@[simp] theorem setFlowTx_out (f : Nat) (x : FlowTx) : (s.setFlowTx f x).out = s.out := (rfl)
@[simp] theorem setFlowTx_freeCtr (f : Nat) (x : FlowTx) : (s.setFlowTx f x).freeCtr = s.freeCtr := (rfl)
@[simp] theorem setFlowTx_heath (f : Nat) (x : FlowTx) : (s.setFlowTx f x).heath = s.heath := (rfl)
@[simp] theorem setFlowTx_hlt (f : Nat) (x : FlowTx) : (s.setFlowTx f x).hlt = s.hlt := (rfl)
@[simp] theorem setFlowTx_pdk (f : Nat) (x : FlowTx) : (s.setFlowTx f x).pdk = s.pdk := (rfl)
@[simp] theorem setFlowTx_cons (f : Nat) (x : FlowTx) : (s.setFlowTx f x).cons = s.cons := (rfl)
@[simp] theorem setFlowTx_hcrs (f : Nat) (x : FlowTx) : (s.setFlowTx f x).hcrs = s.hcrs := (rfl)
@[simp] theorem setFlowTx_dmas (f : Nat) (x : FlowTx) : (s.setFlowTx f x).dmas = s.dmas := (rfl)
@[simp] theorem setFlowTx_dmaTurn (f : Nat) (x : FlowTx) : (s.setFlowTx f x).dmaTurn = s.dmaTurn := (rfl)
@[simp] theorem setFlowTx_ptp (f : Nat) (x : FlowTx) : (s.setFlowTx f x).ptp = s.ptp := (rfl)
@[simp] theorem setFlowTx_mcasts (f : Nat) (x : FlowTx) : (s.setFlowTx f x).mcasts = s.mcasts := (rfl)
@[simp] theorem setFlowTx_lostCmds (f : Nat) (x : FlowTx) : (s.setFlowTx f x).lostCmds = s.lostCmds := (rfl)
@[simp] theorem setFlowTx_rcpKeys (f : Nat) (x : FlowTx) : (s.setFlowTx f x).rcpKeys = s.rcpKeys := (rfl)
@[simp] theorem setFlowTx_svnMin (f : Nat) (x : FlowTx) : (s.setFlowTx f x).svnMin = s.svnMin := (rfl)
@[simp] theorem setFlowTx_boots (f : Nat) (x : FlowTx) : (s.setFlowTx f x).boots = s.boots := (rfl)
@[simp] theorem setFlowTx_bootPending (f : Nat) (x : FlowTx) : (s.setFlowTx f x).bootPending = s.bootPending := (rfl)
@[simp] theorem setFlowTx_pwrGood (f : Nat) (x : FlowTx) : (s.setFlowTx f x).pwrGood = s.pwrGood := (rfl)

@[simp] theorem setTxPort_pending (p : Nat) (x : TxPort) : (s.setTxPort p x).pending = s.pending := (rfl)
@[simp] theorem setTxPort_raw (p : Nat) (x : TxPort) : (s.setTxPort p x).raw = s.raw := (rfl)
@[simp] theorem setTxPort_regs (p : Nat) (x : TxPort) : (s.setTxPort p x).regs = s.regs := (rfl)
@[simp] theorem setTxPort_landed (p : Nat) (x : TxPort) : (s.setTxPort p x).landed = s.landed := (rfl)
@[simp] theorem setTxPort_srwPend (p : Nat) (x : TxPort) : (s.setTxPort p x).srwPend = s.srwPend := (rfl)
@[simp] theorem setTxPort_shadowNow (p : Nat) (x : TxPort) : (s.setTxPort p x).shadowNow = s.shadowNow := (rfl)
@[simp] theorem setTxPort_rdLatch (p : Nat) (x : TxPort) : (s.setTxPort p x).rdLatch = s.rdLatch := (rfl)
@[simp] theorem setTxPort_claimAt (p : Nat) (x : TxPort) : (s.setTxPort p x).claimAt = s.claimAt := (rfl)
@[simp] theorem setTxPort_before (p : Nat) (x : TxPort) : (s.setTxPort p x).before = s.before := (rfl)
@[simp] theorem setTxPort_pci (p : Nat) (x : TxPort) : (s.setTxPort p x).pci = s.pci := (rfl)
@[simp] theorem setTxPort_wrHold (p : Nat) (x : TxPort) : (s.setTxPort p x).wrHold = s.wrHold := (rfl)
@[simp] theorem setTxPort_mem (p : Nat) (x : TxPort) : (s.setTxPort p x).mem = s.mem := (rfl)
@[simp] theorem setTxPort_poison (p : Nat) (x : TxPort) : (s.setTxPort p x).poison = s.poison := (rfl)
@[simp] theorem setTxPort_seqMem (p : Nat) (x : TxPort) : (s.setTxPort p x).seqMem = s.seqMem := (rfl)
@[simp] theorem setTxPort_seqBad (p : Nat) (x : TxPort) : (s.setTxPort p x).seqBad = s.seqBad := (rfl)
@[simp] theorem setTxPort_threads (p : Nat) (x : TxPort) : (s.setTxPort p x).threads = s.threads := (rfl)
@[simp] theorem setTxPort_turns (p : Nat) (x : TxPort) : (s.setTxPort p x).turns = s.turns := (rfl)
@[simp] theorem setTxPort_cores (p : Nat) (x : TxPort) : (s.setTxPort p x).cores = s.cores := (rfl)
@[simp] theorem setTxPort_tasks (p : Nat) (x : TxPort) : (s.setTxPort p x).tasks = s.tasks := (rfl)
@[simp] theorem setTxPort_readyCtr (p : Nat) (x : TxPort) : (s.setTxPort p x).readyCtr = s.readyCtr := (rfl)
@[simp] theorem setTxPort_mpcHeld (p : Nat) (x : TxPort) : (s.setTxPort p x).mpcHeld = s.mpcHeld := (rfl)
@[simp] theorem setTxPort_hwSeq (p : Nat) (x : TxPort) : (s.setTxPort p x).hwSeq = s.hwSeq := (rfl)
@[simp] theorem setTxPort_drrGroup (p : Nat) (x : TxPort) : (s.setTxPort p x).drrGroup = s.drrGroup := (rfl)
@[simp] theorem setTxPort_drrOpen (p : Nat) (x : TxPort) : (s.setTxPort p x).drrOpen = s.drrOpen := (rfl)
@[simp] theorem setTxPort_tickPend (p : Nat) (x : TxPort) : (s.setTxPort p x).tickPend = s.tickPend := (rfl)
@[simp] theorem setTxPort_lastTick (p : Nat) (x : TxPort) : (s.setTxPort p x).lastTick = s.lastTick := (rfl)
@[simp] theorem setTxPort_tickFrom (p : Nat) (x : TxPort) : (s.setTxPort p x).tickFrom = s.tickFrom := (rfl)
@[simp] theorem setTxPort_moved (p : Nat) (x : TxPort) : (s.setTxPort p x).moved = s.moved := (rfl)
@[simp] theorem setTxPort_relWait (p : Nat) (x : TxPort) : (s.setTxPort p x).relWait = s.relWait := (rfl)
@[simp] theorem setTxPort_busy (p : Nat) (x : TxPort) : (s.setTxPort p x).busy = s.busy := (rfl)
@[simp] theorem setTxPort_adm (p : Nat) (x : TxPort) : (s.setTxPort p x).adm = s.adm := (rfl)
@[simp] theorem setTxPort_chans (p : Nat) (x : TxPort) : (s.setTxPort p x).chans = s.chans := (rfl)
@[simp] theorem setTxPort_tb (p : Nat) (x : TxPort) : (s.setTxPort p x).tb = s.tb := (rfl)
@[simp] theorem setTxPort_pgs (p : Nat) (x : TxPort) : (s.setTxPort p x).pgs = s.pgs := (rfl)
@[simp] theorem setTxPort_encTags (p : Nat) (x : TxPort) : (s.setTxPort p x).encTags = s.encTags := (rfl)
@[simp] theorem setTxPort_encWords (p : Nat) (x : TxPort) : (s.setTxPort p x).encWords = s.encWords := (rfl)
@[simp] theorem setTxPort_memSts (p : Nat) (x : TxPort) : (s.setTxPort p x).memSts = s.memSts := (rfl)
@[simp] theorem setTxPort_lanes (p : Nat) (x : TxPort) : (s.setTxPort p x).lanes = s.lanes := (rfl)
@[simp] theorem setTxPort_ports (p : Nat) (x : TxPort) : (s.setTxPort p x).ports = s.ports := (rfl)
@[simp] theorem setTxPort_pairs (p : Nat) (x : TxPort) : (s.setTxPort p x).pairs = s.pairs := (rfl)
@[simp] theorem setTxPort_ingFifo (p : Nat) (x : TxPort) : (s.setTxPort p x).ingFifo = s.ingFifo := (rfl)
@[simp] theorem setTxPort_ctl (p : Nat) (x : TxPort) : (s.setTxPort p x).ctl = s.ctl := (rfl)
@[simp] theorem setTxPort_flowBad (p : Nat) (x : TxPort) : (s.setTxPort p x).flowBad = s.flowBad := (rfl)
@[simp] theorem setTxPort_pools (p : Nat) (x : TxPort) : (s.setTxPort p x).pools = s.pools := (rfl)
@[simp] theorem setTxPort_decs (p : Nat) (x : TxPort) : (s.setTxPort p x).decs = s.decs := (rfl)
@[simp] theorem setTxPort_sbs (p : Nat) (x : TxPort) : (s.setTxPort p x).sbs = s.sbs := (rfl)
@[simp] theorem setTxPort_tdms (p : Nat) (x : TxPort) : (s.setTxPort p x).tdms = s.tdms := (rfl)
@[simp] theorem setTxPort_vcxo (p : Nat) (x : TxPort) : (s.setTxPort p x).vcxo = s.vcxo := (rfl)
@[simp] theorem setTxPort_units (p : Nat) (x : TxPort) : (s.setTxPort p x).units = s.units := (rfl)
@[simp] theorem setTxPort_engCtx (p : Nat) (x : TxPort) : (s.setTxPort p x).engCtx = s.engCtx := (rfl)
@[simp] theorem setTxPort_rends (p : Nat) (x : TxPort) : (s.setTxPort p x).rends = s.rends := (rfl)
@[simp] theorem setTxPort_prfOwn (p : Nat) (x : TxPort) : (s.setTxPort p x).prfOwn = s.prfOwn := (rfl)
@[simp] theorem setTxPort_sclOwn (p : Nat) (x : TxPort) : (s.setTxPort p x).sclOwn = s.sclOwn := (rfl)
@[simp] theorem setTxPort_coefs (p : Nat) (x : TxPort) : (s.setTxPort p x).coefs = s.coefs := (rfl)
@[simp] theorem setTxPort_sclHeld (p : Nat) (x : TxPort) : (s.setTxPort p x).sclHeld = s.sclHeld := (rfl)
@[simp] theorem setTxPort_proofs (p : Nat) (x : TxPort) : (s.setTxPort p x).proofs = s.proofs := (rfl)
@[simp] theorem setTxPort_trayLines (p : Nat) (x : TxPort) : (s.setTxPort p x).trayLines = s.trayLines := (rfl)
@[simp] theorem setTxPort_egFlows (p : Nat) (x : TxPort) : (s.setTxPort p x).egFlows = s.egFlows := (rfl)
@[simp] theorem setTxPort_strs (p : Nat) (x : TxPort) : (s.setTxPort p x).strs = s.strs := (rfl)
@[simp] theorem setTxPort_srtps (p : Nat) (x : TxPort) : (s.setTxPort p x).srtps = s.srtps := (rfl)
@[simp] theorem setTxPort_epochs (p : Nat) (x : TxPort) : (s.setTxPort p x).epochs = s.epochs := (rfl)
@[simp] theorem setTxPort_wl (p : Nat) (x : TxPort) : (s.setTxPort p x).wl = s.wl := (rfl)
@[simp] theorem setTxPort_groups (p : Nat) (x : TxPort) : (s.setTxPort p x).groups = s.groups := (rfl)
@[simp] theorem setTxPort_busFaultAt (p : Nat) (x : TxPort) : (s.setTxPort p x).busFaultAt = s.busFaultAt := (rfl)
@[simp] theorem setTxPort_staged (p : Nat) (x : TxPort) : (s.setTxPort p x).staged = s.staged := (rfl)
@[simp] theorem setTxPort_flowPort (p : Nat) (x : TxPort) : (s.setTxPort p x).flowPort = s.flowPort := (rfl)
@[simp] theorem setTxPort_recs (p : Nat) (x : TxPort) : (s.setTxPort p x).recs = s.recs := (rfl)
@[simp] theorem setTxPort_recno (p : Nat) (x : TxPort) : (s.setTxPort p x).recno = s.recno := (rfl)
@[simp] theorem setTxPort_msixTable (p : Nat) (x : TxPort) : (s.setTxPort p x).msixTable = s.msixTable := (rfl)
@[simp] theorem setTxPort_out (p : Nat) (x : TxPort) : (s.setTxPort p x).out = s.out := (rfl)
@[simp] theorem setTxPort_freeCtr (p : Nat) (x : TxPort) : (s.setTxPort p x).freeCtr = s.freeCtr := (rfl)
@[simp] theorem setTxPort_heath (p : Nat) (x : TxPort) : (s.setTxPort p x).heath = s.heath := (rfl)
@[simp] theorem setTxPort_hlt (p : Nat) (x : TxPort) : (s.setTxPort p x).hlt = s.hlt := (rfl)
@[simp] theorem setTxPort_pdk (p : Nat) (x : TxPort) : (s.setTxPort p x).pdk = s.pdk := (rfl)
@[simp] theorem setTxPort_cons (p : Nat) (x : TxPort) : (s.setTxPort p x).cons = s.cons := (rfl)
@[simp] theorem setTxPort_hcrs (p : Nat) (x : TxPort) : (s.setTxPort p x).hcrs = s.hcrs := (rfl)
@[simp] theorem setTxPort_dmas (p : Nat) (x : TxPort) : (s.setTxPort p x).dmas = s.dmas := (rfl)
@[simp] theorem setTxPort_dmaTurn (p : Nat) (x : TxPort) : (s.setTxPort p x).dmaTurn = s.dmaTurn := (rfl)
@[simp] theorem setTxPort_ptp (p : Nat) (x : TxPort) : (s.setTxPort p x).ptp = s.ptp := (rfl)
@[simp] theorem setTxPort_mcasts (p : Nat) (x : TxPort) : (s.setTxPort p x).mcasts = s.mcasts := (rfl)
@[simp] theorem setTxPort_lostCmds (p : Nat) (x : TxPort) : (s.setTxPort p x).lostCmds = s.lostCmds := (rfl)
@[simp] theorem setTxPort_rcpKeys (p : Nat) (x : TxPort) : (s.setTxPort p x).rcpKeys = s.rcpKeys := (rfl)
@[simp] theorem setTxPort_svnMin (p : Nat) (x : TxPort) : (s.setTxPort p x).svnMin = s.svnMin := (rfl)
@[simp] theorem setTxPort_boots (p : Nat) (x : TxPort) : (s.setTxPort p x).boots = s.boots := (rfl)
@[simp] theorem setTxPort_bootPending (p : Nat) (x : TxPort) : (s.setTxPort p x).bootPending = s.bootPending := (rfl)
@[simp] theorem setTxPort_pwrGood (p : Nat) (x : TxPort) : (s.setTxPort p x).pwrGood = s.pwrGood := (rfl)

@[simp] theorem setHcr_pending (r : Nat) (h : HcrSt) : (s.setHcr r h).pending = s.pending := (rfl)
@[simp] theorem setHcr_raw (r : Nat) (h : HcrSt) : (s.setHcr r h).raw = s.raw := (rfl)
@[simp] theorem setHcr_regs (r : Nat) (h : HcrSt) : (s.setHcr r h).regs = s.regs := (rfl)
@[simp] theorem setHcr_landed (r : Nat) (h : HcrSt) : (s.setHcr r h).landed = s.landed := (rfl)
@[simp] theorem setHcr_srwPend (r : Nat) (h : HcrSt) : (s.setHcr r h).srwPend = s.srwPend := (rfl)
@[simp] theorem setHcr_shadowNow (r : Nat) (h : HcrSt) : (s.setHcr r h).shadowNow = s.shadowNow := (rfl)
@[simp] theorem setHcr_rdLatch (r : Nat) (h : HcrSt) : (s.setHcr r h).rdLatch = s.rdLatch := (rfl)
@[simp] theorem setHcr_claimAt (r : Nat) (h : HcrSt) : (s.setHcr r h).claimAt = s.claimAt := (rfl)
@[simp] theorem setHcr_before (r : Nat) (h : HcrSt) : (s.setHcr r h).before = s.before := (rfl)
@[simp] theorem setHcr_pci (r : Nat) (h : HcrSt) : (s.setHcr r h).pci = s.pci := (rfl)
@[simp] theorem setHcr_wrHold (r : Nat) (h : HcrSt) : (s.setHcr r h).wrHold = s.wrHold := (rfl)
@[simp] theorem setHcr_mem (r : Nat) (h : HcrSt) : (s.setHcr r h).mem = s.mem := (rfl)
@[simp] theorem setHcr_poison (r : Nat) (h : HcrSt) : (s.setHcr r h).poison = s.poison := (rfl)
@[simp] theorem setHcr_seqMem (r : Nat) (h : HcrSt) : (s.setHcr r h).seqMem = s.seqMem := (rfl)
@[simp] theorem setHcr_seqBad (r : Nat) (h : HcrSt) : (s.setHcr r h).seqBad = s.seqBad := (rfl)
@[simp] theorem setHcr_threads (r : Nat) (h : HcrSt) : (s.setHcr r h).threads = s.threads := (rfl)
@[simp] theorem setHcr_turns (r : Nat) (h : HcrSt) : (s.setHcr r h).turns = s.turns := (rfl)
@[simp] theorem setHcr_cores (r : Nat) (h : HcrSt) : (s.setHcr r h).cores = s.cores := (rfl)
@[simp] theorem setHcr_tasks (r : Nat) (h : HcrSt) : (s.setHcr r h).tasks = s.tasks := (rfl)
@[simp] theorem setHcr_readyCtr (r : Nat) (h : HcrSt) : (s.setHcr r h).readyCtr = s.readyCtr := (rfl)
@[simp] theorem setHcr_mpcHeld (r : Nat) (h : HcrSt) : (s.setHcr r h).mpcHeld = s.mpcHeld := (rfl)
@[simp] theorem setHcr_hwSeq (r : Nat) (h : HcrSt) : (s.setHcr r h).hwSeq = s.hwSeq := (rfl)
@[simp] theorem setHcr_drrGroup (r : Nat) (h : HcrSt) : (s.setHcr r h).drrGroup = s.drrGroup := (rfl)
@[simp] theorem setHcr_drrOpen (r : Nat) (h : HcrSt) : (s.setHcr r h).drrOpen = s.drrOpen := (rfl)
@[simp] theorem setHcr_tickPend (r : Nat) (h : HcrSt) : (s.setHcr r h).tickPend = s.tickPend := (rfl)
@[simp] theorem setHcr_lastTick (r : Nat) (h : HcrSt) : (s.setHcr r h).lastTick = s.lastTick := (rfl)
@[simp] theorem setHcr_tickFrom (r : Nat) (h : HcrSt) : (s.setHcr r h).tickFrom = s.tickFrom := (rfl)
@[simp] theorem setHcr_moved (r : Nat) (h : HcrSt) : (s.setHcr r h).moved = s.moved := (rfl)
@[simp] theorem setHcr_relWait (r : Nat) (h : HcrSt) : (s.setHcr r h).relWait = s.relWait := (rfl)
@[simp] theorem setHcr_busy (r : Nat) (h : HcrSt) : (s.setHcr r h).busy = s.busy := (rfl)
@[simp] theorem setHcr_adm (r : Nat) (h : HcrSt) : (s.setHcr r h).adm = s.adm := (rfl)
@[simp] theorem setHcr_chans (r : Nat) (h : HcrSt) : (s.setHcr r h).chans = s.chans := (rfl)
@[simp] theorem setHcr_tb (r : Nat) (h : HcrSt) : (s.setHcr r h).tb = s.tb := (rfl)
@[simp] theorem setHcr_pgs (r : Nat) (h : HcrSt) : (s.setHcr r h).pgs = s.pgs := (rfl)
@[simp] theorem setHcr_encTags (r : Nat) (h : HcrSt) : (s.setHcr r h).encTags = s.encTags := (rfl)
@[simp] theorem setHcr_encWords (r : Nat) (h : HcrSt) : (s.setHcr r h).encWords = s.encWords := (rfl)
@[simp] theorem setHcr_memSts (r : Nat) (h : HcrSt) : (s.setHcr r h).memSts = s.memSts := (rfl)
@[simp] theorem setHcr_lanes (r : Nat) (h : HcrSt) : (s.setHcr r h).lanes = s.lanes := (rfl)
@[simp] theorem setHcr_ports (r : Nat) (h : HcrSt) : (s.setHcr r h).ports = s.ports := (rfl)
@[simp] theorem setHcr_pairs (r : Nat) (h : HcrSt) : (s.setHcr r h).pairs = s.pairs := (rfl)
@[simp] theorem setHcr_ingFifo (r : Nat) (h : HcrSt) : (s.setHcr r h).ingFifo = s.ingFifo := (rfl)
@[simp] theorem setHcr_ctl (r : Nat) (h : HcrSt) : (s.setHcr r h).ctl = s.ctl := (rfl)
@[simp] theorem setHcr_flowBad (r : Nat) (h : HcrSt) : (s.setHcr r h).flowBad = s.flowBad := (rfl)
@[simp] theorem setHcr_pools (r : Nat) (h : HcrSt) : (s.setHcr r h).pools = s.pools := (rfl)
@[simp] theorem setHcr_decs (r : Nat) (h : HcrSt) : (s.setHcr r h).decs = s.decs := (rfl)
@[simp] theorem setHcr_sbs (r : Nat) (h : HcrSt) : (s.setHcr r h).sbs = s.sbs := (rfl)
@[simp] theorem setHcr_tdms (r : Nat) (h : HcrSt) : (s.setHcr r h).tdms = s.tdms := (rfl)
@[simp] theorem setHcr_vcxo (r : Nat) (h : HcrSt) : (s.setHcr r h).vcxo = s.vcxo := (rfl)
@[simp] theorem setHcr_units (r : Nat) (h : HcrSt) : (s.setHcr r h).units = s.units := (rfl)
@[simp] theorem setHcr_engCtx (r : Nat) (h : HcrSt) : (s.setHcr r h).engCtx = s.engCtx := (rfl)
@[simp] theorem setHcr_rends (r : Nat) (h : HcrSt) : (s.setHcr r h).rends = s.rends := (rfl)
@[simp] theorem setHcr_prfOwn (r : Nat) (h : HcrSt) : (s.setHcr r h).prfOwn = s.prfOwn := (rfl)
@[simp] theorem setHcr_sclOwn (r : Nat) (h : HcrSt) : (s.setHcr r h).sclOwn = s.sclOwn := (rfl)
@[simp] theorem setHcr_coefs (r : Nat) (h : HcrSt) : (s.setHcr r h).coefs = s.coefs := (rfl)
@[simp] theorem setHcr_sclHeld (r : Nat) (h : HcrSt) : (s.setHcr r h).sclHeld = s.sclHeld := (rfl)
@[simp] theorem setHcr_proofs (r : Nat) (h : HcrSt) : (s.setHcr r h).proofs = s.proofs := (rfl)
@[simp] theorem setHcr_trayLines (r : Nat) (h : HcrSt) : (s.setHcr r h).trayLines = s.trayLines := (rfl)
@[simp] theorem setHcr_egPorts (r : Nat) (h : HcrSt) : (s.setHcr r h).egPorts = s.egPorts := (rfl)
@[simp] theorem setHcr_egFlows (r : Nat) (h : HcrSt) : (s.setHcr r h).egFlows = s.egFlows := (rfl)
@[simp] theorem setHcr_strs (r : Nat) (h : HcrSt) : (s.setHcr r h).strs = s.strs := (rfl)
@[simp] theorem setHcr_srtps (r : Nat) (h : HcrSt) : (s.setHcr r h).srtps = s.srtps := (rfl)
@[simp] theorem setHcr_epochs (r : Nat) (h : HcrSt) : (s.setHcr r h).epochs = s.epochs := (rfl)
@[simp] theorem setHcr_wl (r : Nat) (h : HcrSt) : (s.setHcr r h).wl = s.wl := (rfl)
@[simp] theorem setHcr_groups (r : Nat) (h : HcrSt) : (s.setHcr r h).groups = s.groups := (rfl)
@[simp] theorem setHcr_busFaultAt (r : Nat) (h : HcrSt) : (s.setHcr r h).busFaultAt = s.busFaultAt := (rfl)
@[simp] theorem setHcr_staged (r : Nat) (h : HcrSt) : (s.setHcr r h).staged = s.staged := (rfl)
@[simp] theorem setHcr_flowPort (r : Nat) (h : HcrSt) : (s.setHcr r h).flowPort = s.flowPort := (rfl)
@[simp] theorem setHcr_recs (r : Nat) (h : HcrSt) : (s.setHcr r h).recs = s.recs := (rfl)
@[simp] theorem setHcr_recno (r : Nat) (h : HcrSt) : (s.setHcr r h).recno = s.recno := (rfl)
@[simp] theorem setHcr_msixTable (r : Nat) (h : HcrSt) : (s.setHcr r h).msixTable = s.msixTable := (rfl)
@[simp] theorem setHcr_out (r : Nat) (h : HcrSt) : (s.setHcr r h).out = s.out := (rfl)
@[simp] theorem setHcr_freeCtr (r : Nat) (h : HcrSt) : (s.setHcr r h).freeCtr = s.freeCtr := (rfl)
@[simp] theorem setHcr_heath (r : Nat) (h : HcrSt) : (s.setHcr r h).heath = s.heath := (rfl)
@[simp] theorem setHcr_hlt (r : Nat) (h : HcrSt) : (s.setHcr r h).hlt = s.hlt := (rfl)
@[simp] theorem setHcr_pdk (r : Nat) (h : HcrSt) : (s.setHcr r h).pdk = s.pdk := (rfl)
@[simp] theorem setHcr_cons (r : Nat) (h : HcrSt) : (s.setHcr r h).cons = s.cons := (rfl)
@[simp] theorem setHcr_dmas (r : Nat) (h : HcrSt) : (s.setHcr r h).dmas = s.dmas := (rfl)
@[simp] theorem setHcr_dmaTurn (r : Nat) (h : HcrSt) : (s.setHcr r h).dmaTurn = s.dmaTurn := (rfl)
@[simp] theorem setHcr_ptp (r : Nat) (h : HcrSt) : (s.setHcr r h).ptp = s.ptp := (rfl)
@[simp] theorem setHcr_mcasts (r : Nat) (h : HcrSt) : (s.setHcr r h).mcasts = s.mcasts := (rfl)
@[simp] theorem setHcr_lostCmds (r : Nat) (h : HcrSt) : (s.setHcr r h).lostCmds = s.lostCmds := (rfl)
@[simp] theorem setHcr_rcpKeys (r : Nat) (h : HcrSt) : (s.setHcr r h).rcpKeys = s.rcpKeys := (rfl)
@[simp] theorem setHcr_svnMin (r : Nat) (h : HcrSt) : (s.setHcr r h).svnMin = s.svnMin := (rfl)
@[simp] theorem setHcr_boots (r : Nat) (h : HcrSt) : (s.setHcr r h).boots = s.boots := (rfl)
@[simp] theorem setHcr_bootPending (r : Nat) (h : HcrSt) : (s.setHcr r h).bootPending = s.bootPending := (rfl)
@[simp] theorem setHcr_pwrGood (r : Nat) (h : HcrSt) : (s.setHcr r h).pwrGood = s.pwrGood := (rfl)

@[simp] theorem setPair_pending (p : Nat) (x : PairSt) : (s.setPair p x).pending = s.pending := (rfl)
@[simp] theorem setPair_raw (p : Nat) (x : PairSt) : (s.setPair p x).raw = s.raw := (rfl)
@[simp] theorem setPair_regs (p : Nat) (x : PairSt) : (s.setPair p x).regs = s.regs := (rfl)
@[simp] theorem setPair_landed (p : Nat) (x : PairSt) : (s.setPair p x).landed = s.landed := (rfl)
@[simp] theorem setPair_srwPend (p : Nat) (x : PairSt) : (s.setPair p x).srwPend = s.srwPend := (rfl)
@[simp] theorem setPair_shadowNow (p : Nat) (x : PairSt) : (s.setPair p x).shadowNow = s.shadowNow := (rfl)
@[simp] theorem setPair_rdLatch (p : Nat) (x : PairSt) : (s.setPair p x).rdLatch = s.rdLatch := (rfl)
@[simp] theorem setPair_claimAt (p : Nat) (x : PairSt) : (s.setPair p x).claimAt = s.claimAt := (rfl)
@[simp] theorem setPair_before (p : Nat) (x : PairSt) : (s.setPair p x).before = s.before := (rfl)
@[simp] theorem setPair_pci (p : Nat) (x : PairSt) : (s.setPair p x).pci = s.pci := (rfl)
@[simp] theorem setPair_wrHold (p : Nat) (x : PairSt) : (s.setPair p x).wrHold = s.wrHold := (rfl)
@[simp] theorem setPair_mem (p : Nat) (x : PairSt) : (s.setPair p x).mem = s.mem := (rfl)
@[simp] theorem setPair_poison (p : Nat) (x : PairSt) : (s.setPair p x).poison = s.poison := (rfl)
@[simp] theorem setPair_seqMem (p : Nat) (x : PairSt) : (s.setPair p x).seqMem = s.seqMem := (rfl)
@[simp] theorem setPair_seqBad (p : Nat) (x : PairSt) : (s.setPair p x).seqBad = s.seqBad := (rfl)
@[simp] theorem setPair_threads (p : Nat) (x : PairSt) : (s.setPair p x).threads = s.threads := (rfl)
@[simp] theorem setPair_turns (p : Nat) (x : PairSt) : (s.setPair p x).turns = s.turns := (rfl)
@[simp] theorem setPair_cores (p : Nat) (x : PairSt) : (s.setPair p x).cores = s.cores := (rfl)
@[simp] theorem setPair_tasks (p : Nat) (x : PairSt) : (s.setPair p x).tasks = s.tasks := (rfl)
@[simp] theorem setPair_readyCtr (p : Nat) (x : PairSt) : (s.setPair p x).readyCtr = s.readyCtr := (rfl)
@[simp] theorem setPair_mpcHeld (p : Nat) (x : PairSt) : (s.setPair p x).mpcHeld = s.mpcHeld := (rfl)
@[simp] theorem setPair_hwSeq (p : Nat) (x : PairSt) : (s.setPair p x).hwSeq = s.hwSeq := (rfl)
@[simp] theorem setPair_drrGroup (p : Nat) (x : PairSt) : (s.setPair p x).drrGroup = s.drrGroup := (rfl)
@[simp] theorem setPair_drrOpen (p : Nat) (x : PairSt) : (s.setPair p x).drrOpen = s.drrOpen := (rfl)
@[simp] theorem setPair_tickPend (p : Nat) (x : PairSt) : (s.setPair p x).tickPend = s.tickPend := (rfl)
@[simp] theorem setPair_lastTick (p : Nat) (x : PairSt) : (s.setPair p x).lastTick = s.lastTick := (rfl)
@[simp] theorem setPair_tickFrom (p : Nat) (x : PairSt) : (s.setPair p x).tickFrom = s.tickFrom := (rfl)
@[simp] theorem setPair_moved (p : Nat) (x : PairSt) : (s.setPair p x).moved = s.moved := (rfl)
@[simp] theorem setPair_relWait (p : Nat) (x : PairSt) : (s.setPair p x).relWait = s.relWait := (rfl)
@[simp] theorem setPair_busy (p : Nat) (x : PairSt) : (s.setPair p x).busy = s.busy := (rfl)
@[simp] theorem setPair_adm (p : Nat) (x : PairSt) : (s.setPair p x).adm = s.adm := (rfl)
@[simp] theorem setPair_chans (p : Nat) (x : PairSt) : (s.setPair p x).chans = s.chans := (rfl)
@[simp] theorem setPair_tb (p : Nat) (x : PairSt) : (s.setPair p x).tb = s.tb := (rfl)
@[simp] theorem setPair_pgs (p : Nat) (x : PairSt) : (s.setPair p x).pgs = s.pgs := (rfl)
@[simp] theorem setPair_encTags (p : Nat) (x : PairSt) : (s.setPair p x).encTags = s.encTags := (rfl)
@[simp] theorem setPair_encWords (p : Nat) (x : PairSt) : (s.setPair p x).encWords = s.encWords := (rfl)
@[simp] theorem setPair_memSts (p : Nat) (x : PairSt) : (s.setPair p x).memSts = s.memSts := (rfl)
@[simp] theorem setPair_lanes (p : Nat) (x : PairSt) : (s.setPair p x).lanes = s.lanes := (rfl)
@[simp] theorem setPair_ports (p : Nat) (x : PairSt) : (s.setPair p x).ports = s.ports := (rfl)
@[simp] theorem setPair_ingFifo (p : Nat) (x : PairSt) : (s.setPair p x).ingFifo = s.ingFifo := (rfl)
@[simp] theorem setPair_ctl (p : Nat) (x : PairSt) : (s.setPair p x).ctl = s.ctl := (rfl)
@[simp] theorem setPair_flowBad (p : Nat) (x : PairSt) : (s.setPair p x).flowBad = s.flowBad := (rfl)
@[simp] theorem setPair_pools (p : Nat) (x : PairSt) : (s.setPair p x).pools = s.pools := (rfl)
@[simp] theorem setPair_decs (p : Nat) (x : PairSt) : (s.setPair p x).decs = s.decs := (rfl)
@[simp] theorem setPair_sbs (p : Nat) (x : PairSt) : (s.setPair p x).sbs = s.sbs := (rfl)
@[simp] theorem setPair_tdms (p : Nat) (x : PairSt) : (s.setPair p x).tdms = s.tdms := (rfl)
@[simp] theorem setPair_vcxo (p : Nat) (x : PairSt) : (s.setPair p x).vcxo = s.vcxo := (rfl)
@[simp] theorem setPair_units (p : Nat) (x : PairSt) : (s.setPair p x).units = s.units := (rfl)
@[simp] theorem setPair_engCtx (p : Nat) (x : PairSt) : (s.setPair p x).engCtx = s.engCtx := (rfl)
@[simp] theorem setPair_rends (p : Nat) (x : PairSt) : (s.setPair p x).rends = s.rends := (rfl)
@[simp] theorem setPair_prfOwn (p : Nat) (x : PairSt) : (s.setPair p x).prfOwn = s.prfOwn := (rfl)
@[simp] theorem setPair_sclOwn (p : Nat) (x : PairSt) : (s.setPair p x).sclOwn = s.sclOwn := (rfl)
@[simp] theorem setPair_coefs (p : Nat) (x : PairSt) : (s.setPair p x).coefs = s.coefs := (rfl)
@[simp] theorem setPair_sclHeld (p : Nat) (x : PairSt) : (s.setPair p x).sclHeld = s.sclHeld := (rfl)
@[simp] theorem setPair_proofs (p : Nat) (x : PairSt) : (s.setPair p x).proofs = s.proofs := (rfl)
@[simp] theorem setPair_trayLines (p : Nat) (x : PairSt) : (s.setPair p x).trayLines = s.trayLines := (rfl)
@[simp] theorem setPair_egPorts (p : Nat) (x : PairSt) : (s.setPair p x).egPorts = s.egPorts := (rfl)
@[simp] theorem setPair_egFlows (p : Nat) (x : PairSt) : (s.setPair p x).egFlows = s.egFlows := (rfl)
@[simp] theorem setPair_strs (p : Nat) (x : PairSt) : (s.setPair p x).strs = s.strs := (rfl)
@[simp] theorem setPair_srtps (p : Nat) (x : PairSt) : (s.setPair p x).srtps = s.srtps := (rfl)
@[simp] theorem setPair_epochs (p : Nat) (x : PairSt) : (s.setPair p x).epochs = s.epochs := (rfl)
@[simp] theorem setPair_wl (p : Nat) (x : PairSt) : (s.setPair p x).wl = s.wl := (rfl)
@[simp] theorem setPair_groups (p : Nat) (x : PairSt) : (s.setPair p x).groups = s.groups := (rfl)
@[simp] theorem setPair_busFaultAt (p : Nat) (x : PairSt) : (s.setPair p x).busFaultAt = s.busFaultAt := (rfl)
@[simp] theorem setPair_staged (p : Nat) (x : PairSt) : (s.setPair p x).staged = s.staged := (rfl)
@[simp] theorem setPair_flowPort (p : Nat) (x : PairSt) : (s.setPair p x).flowPort = s.flowPort := (rfl)
@[simp] theorem setPair_recs (p : Nat) (x : PairSt) : (s.setPair p x).recs = s.recs := (rfl)
@[simp] theorem setPair_recno (p : Nat) (x : PairSt) : (s.setPair p x).recno = s.recno := (rfl)
@[simp] theorem setPair_msixTable (p : Nat) (x : PairSt) : (s.setPair p x).msixTable = s.msixTable := (rfl)
@[simp] theorem setPair_out (p : Nat) (x : PairSt) : (s.setPair p x).out = s.out := (rfl)
@[simp] theorem setPair_freeCtr (p : Nat) (x : PairSt) : (s.setPair p x).freeCtr = s.freeCtr := (rfl)
@[simp] theorem setPair_heath (p : Nat) (x : PairSt) : (s.setPair p x).heath = s.heath := (rfl)
@[simp] theorem setPair_hlt (p : Nat) (x : PairSt) : (s.setPair p x).hlt = s.hlt := (rfl)
@[simp] theorem setPair_pdk (p : Nat) (x : PairSt) : (s.setPair p x).pdk = s.pdk := (rfl)
@[simp] theorem setPair_cons (p : Nat) (x : PairSt) : (s.setPair p x).cons = s.cons := (rfl)
@[simp] theorem setPair_hcrs (p : Nat) (x : PairSt) : (s.setPair p x).hcrs = s.hcrs := (rfl)
@[simp] theorem setPair_dmas (p : Nat) (x : PairSt) : (s.setPair p x).dmas = s.dmas := (rfl)
@[simp] theorem setPair_dmaTurn (p : Nat) (x : PairSt) : (s.setPair p x).dmaTurn = s.dmaTurn := (rfl)
@[simp] theorem setPair_ptp (p : Nat) (x : PairSt) : (s.setPair p x).ptp = s.ptp := (rfl)
@[simp] theorem setPair_mcasts (p : Nat) (x : PairSt) : (s.setPair p x).mcasts = s.mcasts := (rfl)
@[simp] theorem setPair_lostCmds (p : Nat) (x : PairSt) : (s.setPair p x).lostCmds = s.lostCmds := (rfl)
@[simp] theorem setPair_rcpKeys (p : Nat) (x : PairSt) : (s.setPair p x).rcpKeys = s.rcpKeys := (rfl)
@[simp] theorem setPair_svnMin (p : Nat) (x : PairSt) : (s.setPair p x).svnMin = s.svnMin := (rfl)
@[simp] theorem setPair_boots (p : Nat) (x : PairSt) : (s.setPair p x).boots = s.boots := (rfl)
@[simp] theorem setPair_bootPending (p : Nat) (x : PairSt) : (s.setPair p x).bootPending = s.bootPending := (rfl)
@[simp] theorem setPair_pwrGood (p : Nat) (x : PairSt) : (s.setPair p x).pwrGood = s.pwrGood := (rfl)

@[simp] theorem setLane_pending (l : Nat) (x : LaneSt) : (s.setLane l x).pending = s.pending := (rfl)
@[simp] theorem setLane_raw (l : Nat) (x : LaneSt) : (s.setLane l x).raw = s.raw := (rfl)
@[simp] theorem setLane_regs (l : Nat) (x : LaneSt) : (s.setLane l x).regs = s.regs := (rfl)
@[simp] theorem setLane_landed (l : Nat) (x : LaneSt) : (s.setLane l x).landed = s.landed := (rfl)
@[simp] theorem setLane_srwPend (l : Nat) (x : LaneSt) : (s.setLane l x).srwPend = s.srwPend := (rfl)
@[simp] theorem setLane_shadowNow (l : Nat) (x : LaneSt) : (s.setLane l x).shadowNow = s.shadowNow := (rfl)
@[simp] theorem setLane_rdLatch (l : Nat) (x : LaneSt) : (s.setLane l x).rdLatch = s.rdLatch := (rfl)
@[simp] theorem setLane_claimAt (l : Nat) (x : LaneSt) : (s.setLane l x).claimAt = s.claimAt := (rfl)
@[simp] theorem setLane_before (l : Nat) (x : LaneSt) : (s.setLane l x).before = s.before := (rfl)
@[simp] theorem setLane_pci (l : Nat) (x : LaneSt) : (s.setLane l x).pci = s.pci := (rfl)
@[simp] theorem setLane_wrHold (l : Nat) (x : LaneSt) : (s.setLane l x).wrHold = s.wrHold := (rfl)
@[simp] theorem setLane_mem (l : Nat) (x : LaneSt) : (s.setLane l x).mem = s.mem := (rfl)
@[simp] theorem setLane_poison (l : Nat) (x : LaneSt) : (s.setLane l x).poison = s.poison := (rfl)
@[simp] theorem setLane_seqMem (l : Nat) (x : LaneSt) : (s.setLane l x).seqMem = s.seqMem := (rfl)
@[simp] theorem setLane_seqBad (l : Nat) (x : LaneSt) : (s.setLane l x).seqBad = s.seqBad := (rfl)
@[simp] theorem setLane_threads (l : Nat) (x : LaneSt) : (s.setLane l x).threads = s.threads := (rfl)
@[simp] theorem setLane_turns (l : Nat) (x : LaneSt) : (s.setLane l x).turns = s.turns := (rfl)
@[simp] theorem setLane_cores (l : Nat) (x : LaneSt) : (s.setLane l x).cores = s.cores := (rfl)
@[simp] theorem setLane_tasks (l : Nat) (x : LaneSt) : (s.setLane l x).tasks = s.tasks := (rfl)
@[simp] theorem setLane_readyCtr (l : Nat) (x : LaneSt) : (s.setLane l x).readyCtr = s.readyCtr := (rfl)
@[simp] theorem setLane_mpcHeld (l : Nat) (x : LaneSt) : (s.setLane l x).mpcHeld = s.mpcHeld := (rfl)
@[simp] theorem setLane_hwSeq (l : Nat) (x : LaneSt) : (s.setLane l x).hwSeq = s.hwSeq := (rfl)
@[simp] theorem setLane_drrGroup (l : Nat) (x : LaneSt) : (s.setLane l x).drrGroup = s.drrGroup := (rfl)
@[simp] theorem setLane_drrOpen (l : Nat) (x : LaneSt) : (s.setLane l x).drrOpen = s.drrOpen := (rfl)
@[simp] theorem setLane_tickPend (l : Nat) (x : LaneSt) : (s.setLane l x).tickPend = s.tickPend := (rfl)
@[simp] theorem setLane_lastTick (l : Nat) (x : LaneSt) : (s.setLane l x).lastTick = s.lastTick := (rfl)
@[simp] theorem setLane_tickFrom (l : Nat) (x : LaneSt) : (s.setLane l x).tickFrom = s.tickFrom := (rfl)
@[simp] theorem setLane_moved (l : Nat) (x : LaneSt) : (s.setLane l x).moved = s.moved := (rfl)
@[simp] theorem setLane_relWait (l : Nat) (x : LaneSt) : (s.setLane l x).relWait = s.relWait := (rfl)
@[simp] theorem setLane_busy (l : Nat) (x : LaneSt) : (s.setLane l x).busy = s.busy := (rfl)
@[simp] theorem setLane_adm (l : Nat) (x : LaneSt) : (s.setLane l x).adm = s.adm := (rfl)
@[simp] theorem setLane_chans (l : Nat) (x : LaneSt) : (s.setLane l x).chans = s.chans := (rfl)
@[simp] theorem setLane_tb (l : Nat) (x : LaneSt) : (s.setLane l x).tb = s.tb := (rfl)
@[simp] theorem setLane_pgs (l : Nat) (x : LaneSt) : (s.setLane l x).pgs = s.pgs := (rfl)
@[simp] theorem setLane_encTags (l : Nat) (x : LaneSt) : (s.setLane l x).encTags = s.encTags := (rfl)
@[simp] theorem setLane_encWords (l : Nat) (x : LaneSt) : (s.setLane l x).encWords = s.encWords := (rfl)
@[simp] theorem setLane_memSts (l : Nat) (x : LaneSt) : (s.setLane l x).memSts = s.memSts := (rfl)
@[simp] theorem setLane_ports (l : Nat) (x : LaneSt) : (s.setLane l x).ports = s.ports := (rfl)
@[simp] theorem setLane_pairs (l : Nat) (x : LaneSt) : (s.setLane l x).pairs = s.pairs := (rfl)
@[simp] theorem setLane_ingFifo (l : Nat) (x : LaneSt) : (s.setLane l x).ingFifo = s.ingFifo := (rfl)
@[simp] theorem setLane_ctl (l : Nat) (x : LaneSt) : (s.setLane l x).ctl = s.ctl := (rfl)
@[simp] theorem setLane_flowBad (l : Nat) (x : LaneSt) : (s.setLane l x).flowBad = s.flowBad := (rfl)
@[simp] theorem setLane_pools (l : Nat) (x : LaneSt) : (s.setLane l x).pools = s.pools := (rfl)
@[simp] theorem setLane_decs (l : Nat) (x : LaneSt) : (s.setLane l x).decs = s.decs := (rfl)
@[simp] theorem setLane_sbs (l : Nat) (x : LaneSt) : (s.setLane l x).sbs = s.sbs := (rfl)
@[simp] theorem setLane_tdms (l : Nat) (x : LaneSt) : (s.setLane l x).tdms = s.tdms := (rfl)
@[simp] theorem setLane_vcxo (l : Nat) (x : LaneSt) : (s.setLane l x).vcxo = s.vcxo := (rfl)
@[simp] theorem setLane_units (l : Nat) (x : LaneSt) : (s.setLane l x).units = s.units := (rfl)
@[simp] theorem setLane_engCtx (l : Nat) (x : LaneSt) : (s.setLane l x).engCtx = s.engCtx := (rfl)
@[simp] theorem setLane_rends (l : Nat) (x : LaneSt) : (s.setLane l x).rends = s.rends := (rfl)
@[simp] theorem setLane_prfOwn (l : Nat) (x : LaneSt) : (s.setLane l x).prfOwn = s.prfOwn := (rfl)
@[simp] theorem setLane_sclOwn (l : Nat) (x : LaneSt) : (s.setLane l x).sclOwn = s.sclOwn := (rfl)
@[simp] theorem setLane_coefs (l : Nat) (x : LaneSt) : (s.setLane l x).coefs = s.coefs := (rfl)
@[simp] theorem setLane_sclHeld (l : Nat) (x : LaneSt) : (s.setLane l x).sclHeld = s.sclHeld := (rfl)
@[simp] theorem setLane_proofs (l : Nat) (x : LaneSt) : (s.setLane l x).proofs = s.proofs := (rfl)
@[simp] theorem setLane_trayLines (l : Nat) (x : LaneSt) : (s.setLane l x).trayLines = s.trayLines := (rfl)
@[simp] theorem setLane_egPorts (l : Nat) (x : LaneSt) : (s.setLane l x).egPorts = s.egPorts := (rfl)
@[simp] theorem setLane_egFlows (l : Nat) (x : LaneSt) : (s.setLane l x).egFlows = s.egFlows := (rfl)
@[simp] theorem setLane_strs (l : Nat) (x : LaneSt) : (s.setLane l x).strs = s.strs := (rfl)
@[simp] theorem setLane_srtps (l : Nat) (x : LaneSt) : (s.setLane l x).srtps = s.srtps := (rfl)
@[simp] theorem setLane_epochs (l : Nat) (x : LaneSt) : (s.setLane l x).epochs = s.epochs := (rfl)
@[simp] theorem setLane_wl (l : Nat) (x : LaneSt) : (s.setLane l x).wl = s.wl := (rfl)
@[simp] theorem setLane_groups (l : Nat) (x : LaneSt) : (s.setLane l x).groups = s.groups := (rfl)
@[simp] theorem setLane_busFaultAt (l : Nat) (x : LaneSt) : (s.setLane l x).busFaultAt = s.busFaultAt := (rfl)
@[simp] theorem setLane_staged (l : Nat) (x : LaneSt) : (s.setLane l x).staged = s.staged := (rfl)
@[simp] theorem setLane_flowPort (l : Nat) (x : LaneSt) : (s.setLane l x).flowPort = s.flowPort := (rfl)
@[simp] theorem setLane_recs (l : Nat) (x : LaneSt) : (s.setLane l x).recs = s.recs := (rfl)
@[simp] theorem setLane_recno (l : Nat) (x : LaneSt) : (s.setLane l x).recno = s.recno := (rfl)
@[simp] theorem setLane_msixTable (l : Nat) (x : LaneSt) : (s.setLane l x).msixTable = s.msixTable := (rfl)
@[simp] theorem setLane_out (l : Nat) (x : LaneSt) : (s.setLane l x).out = s.out := (rfl)
@[simp] theorem setLane_freeCtr (l : Nat) (x : LaneSt) : (s.setLane l x).freeCtr = s.freeCtr := (rfl)
@[simp] theorem setLane_heath (l : Nat) (x : LaneSt) : (s.setLane l x).heath = s.heath := (rfl)
@[simp] theorem setLane_hlt (l : Nat) (x : LaneSt) : (s.setLane l x).hlt = s.hlt := (rfl)
@[simp] theorem setLane_pdk (l : Nat) (x : LaneSt) : (s.setLane l x).pdk = s.pdk := (rfl)
@[simp] theorem setLane_cons (l : Nat) (x : LaneSt) : (s.setLane l x).cons = s.cons := (rfl)
@[simp] theorem setLane_hcrs (l : Nat) (x : LaneSt) : (s.setLane l x).hcrs = s.hcrs := (rfl)
@[simp] theorem setLane_dmas (l : Nat) (x : LaneSt) : (s.setLane l x).dmas = s.dmas := (rfl)
@[simp] theorem setLane_dmaTurn (l : Nat) (x : LaneSt) : (s.setLane l x).dmaTurn = s.dmaTurn := (rfl)
@[simp] theorem setLane_ptp (l : Nat) (x : LaneSt) : (s.setLane l x).ptp = s.ptp := (rfl)
@[simp] theorem setLane_mcasts (l : Nat) (x : LaneSt) : (s.setLane l x).mcasts = s.mcasts := (rfl)
@[simp] theorem setLane_lostCmds (l : Nat) (x : LaneSt) : (s.setLane l x).lostCmds = s.lostCmds := (rfl)
@[simp] theorem setLane_rcpKeys (l : Nat) (x : LaneSt) : (s.setLane l x).rcpKeys = s.rcpKeys := (rfl)
@[simp] theorem setLane_svnMin (l : Nat) (x : LaneSt) : (s.setLane l x).svnMin = s.svnMin := (rfl)
@[simp] theorem setLane_boots (l : Nat) (x : LaneSt) : (s.setLane l x).boots = s.boots := (rfl)
@[simp] theorem setLane_bootPending (l : Nat) (x : LaneSt) : (s.setLane l x).bootPending = s.bootPending := (rfl)
@[simp] theorem setLane_pwrGood (l : Nat) (x : LaneSt) : (s.setLane l x).pwrGood = s.pwrGood := (rfl)

@[simp] theorem setMemSt_pending (k : Nat) (m : MemSt) : (s.setMemSt k m).pending = s.pending := (rfl)
@[simp] theorem setMemSt_raw (k : Nat) (m : MemSt) : (s.setMemSt k m).raw = s.raw := (rfl)
@[simp] theorem setMemSt_regs (k : Nat) (m : MemSt) : (s.setMemSt k m).regs = s.regs := (rfl)
@[simp] theorem setMemSt_landed (k : Nat) (m : MemSt) : (s.setMemSt k m).landed = s.landed := (rfl)
@[simp] theorem setMemSt_srwPend (k : Nat) (m : MemSt) : (s.setMemSt k m).srwPend = s.srwPend := (rfl)
@[simp] theorem setMemSt_shadowNow (k : Nat) (m : MemSt) : (s.setMemSt k m).shadowNow = s.shadowNow := (rfl)
@[simp] theorem setMemSt_rdLatch (k : Nat) (m : MemSt) : (s.setMemSt k m).rdLatch = s.rdLatch := (rfl)
@[simp] theorem setMemSt_claimAt (k : Nat) (m : MemSt) : (s.setMemSt k m).claimAt = s.claimAt := (rfl)
@[simp] theorem setMemSt_before (k : Nat) (m : MemSt) : (s.setMemSt k m).before = s.before := (rfl)
@[simp] theorem setMemSt_pci (k : Nat) (m : MemSt) : (s.setMemSt k m).pci = s.pci := (rfl)
@[simp] theorem setMemSt_wrHold (k : Nat) (m : MemSt) : (s.setMemSt k m).wrHold = s.wrHold := (rfl)
@[simp] theorem setMemSt_mem (k : Nat) (m : MemSt) : (s.setMemSt k m).mem = s.mem := (rfl)
@[simp] theorem setMemSt_poison (k : Nat) (m : MemSt) : (s.setMemSt k m).poison = s.poison := (rfl)
@[simp] theorem setMemSt_seqMem (k : Nat) (m : MemSt) : (s.setMemSt k m).seqMem = s.seqMem := (rfl)
@[simp] theorem setMemSt_seqBad (k : Nat) (m : MemSt) : (s.setMemSt k m).seqBad = s.seqBad := (rfl)
@[simp] theorem setMemSt_threads (k : Nat) (m : MemSt) : (s.setMemSt k m).threads = s.threads := (rfl)
@[simp] theorem setMemSt_turns (k : Nat) (m : MemSt) : (s.setMemSt k m).turns = s.turns := (rfl)
@[simp] theorem setMemSt_cores (k : Nat) (m : MemSt) : (s.setMemSt k m).cores = s.cores := (rfl)
@[simp] theorem setMemSt_tasks (k : Nat) (m : MemSt) : (s.setMemSt k m).tasks = s.tasks := (rfl)
@[simp] theorem setMemSt_readyCtr (k : Nat) (m : MemSt) : (s.setMemSt k m).readyCtr = s.readyCtr := (rfl)
@[simp] theorem setMemSt_mpcHeld (k : Nat) (m : MemSt) : (s.setMemSt k m).mpcHeld = s.mpcHeld := (rfl)
@[simp] theorem setMemSt_hwSeq (k : Nat) (m : MemSt) : (s.setMemSt k m).hwSeq = s.hwSeq := (rfl)
@[simp] theorem setMemSt_drrGroup (k : Nat) (m : MemSt) : (s.setMemSt k m).drrGroup = s.drrGroup := (rfl)
@[simp] theorem setMemSt_drrOpen (k : Nat) (m : MemSt) : (s.setMemSt k m).drrOpen = s.drrOpen := (rfl)
@[simp] theorem setMemSt_tickPend (k : Nat) (m : MemSt) : (s.setMemSt k m).tickPend = s.tickPend := (rfl)
@[simp] theorem setMemSt_lastTick (k : Nat) (m : MemSt) : (s.setMemSt k m).lastTick = s.lastTick := (rfl)
@[simp] theorem setMemSt_tickFrom (k : Nat) (m : MemSt) : (s.setMemSt k m).tickFrom = s.tickFrom := (rfl)
@[simp] theorem setMemSt_moved (k : Nat) (m : MemSt) : (s.setMemSt k m).moved = s.moved := (rfl)
@[simp] theorem setMemSt_relWait (k : Nat) (m : MemSt) : (s.setMemSt k m).relWait = s.relWait := (rfl)
@[simp] theorem setMemSt_busy (k : Nat) (m : MemSt) : (s.setMemSt k m).busy = s.busy := (rfl)
@[simp] theorem setMemSt_adm (k : Nat) (m : MemSt) : (s.setMemSt k m).adm = s.adm := (rfl)
@[simp] theorem setMemSt_chans (k : Nat) (m : MemSt) : (s.setMemSt k m).chans = s.chans := (rfl)
@[simp] theorem setMemSt_tb (k : Nat) (m : MemSt) : (s.setMemSt k m).tb = s.tb := (rfl)
@[simp] theorem setMemSt_pgs (k : Nat) (m : MemSt) : (s.setMemSt k m).pgs = s.pgs := (rfl)
@[simp] theorem setMemSt_encTags (k : Nat) (m : MemSt) : (s.setMemSt k m).encTags = s.encTags := (rfl)
@[simp] theorem setMemSt_encWords (k : Nat) (m : MemSt) : (s.setMemSt k m).encWords = s.encWords := (rfl)
@[simp] theorem setMemSt_lanes (k : Nat) (m : MemSt) : (s.setMemSt k m).lanes = s.lanes := (rfl)
@[simp] theorem setMemSt_ports (k : Nat) (m : MemSt) : (s.setMemSt k m).ports = s.ports := (rfl)
@[simp] theorem setMemSt_pairs (k : Nat) (m : MemSt) : (s.setMemSt k m).pairs = s.pairs := (rfl)
@[simp] theorem setMemSt_ingFifo (k : Nat) (m : MemSt) : (s.setMemSt k m).ingFifo = s.ingFifo := (rfl)
@[simp] theorem setMemSt_ctl (k : Nat) (m : MemSt) : (s.setMemSt k m).ctl = s.ctl := (rfl)
@[simp] theorem setMemSt_flowBad (k : Nat) (m : MemSt) : (s.setMemSt k m).flowBad = s.flowBad := (rfl)
@[simp] theorem setMemSt_pools (k : Nat) (m : MemSt) : (s.setMemSt k m).pools = s.pools := (rfl)
@[simp] theorem setMemSt_decs (k : Nat) (m : MemSt) : (s.setMemSt k m).decs = s.decs := (rfl)
@[simp] theorem setMemSt_sbs (k : Nat) (m : MemSt) : (s.setMemSt k m).sbs = s.sbs := (rfl)
@[simp] theorem setMemSt_tdms (k : Nat) (m : MemSt) : (s.setMemSt k m).tdms = s.tdms := (rfl)
@[simp] theorem setMemSt_vcxo (k : Nat) (m : MemSt) : (s.setMemSt k m).vcxo = s.vcxo := (rfl)
@[simp] theorem setMemSt_units (k : Nat) (m : MemSt) : (s.setMemSt k m).units = s.units := (rfl)
@[simp] theorem setMemSt_engCtx (k : Nat) (m : MemSt) : (s.setMemSt k m).engCtx = s.engCtx := (rfl)
@[simp] theorem setMemSt_rends (k : Nat) (m : MemSt) : (s.setMemSt k m).rends = s.rends := (rfl)
@[simp] theorem setMemSt_prfOwn (k : Nat) (m : MemSt) : (s.setMemSt k m).prfOwn = s.prfOwn := (rfl)
@[simp] theorem setMemSt_sclOwn (k : Nat) (m : MemSt) : (s.setMemSt k m).sclOwn = s.sclOwn := (rfl)
@[simp] theorem setMemSt_coefs (k : Nat) (m : MemSt) : (s.setMemSt k m).coefs = s.coefs := (rfl)
@[simp] theorem setMemSt_sclHeld (k : Nat) (m : MemSt) : (s.setMemSt k m).sclHeld = s.sclHeld := (rfl)
@[simp] theorem setMemSt_proofs (k : Nat) (m : MemSt) : (s.setMemSt k m).proofs = s.proofs := (rfl)
@[simp] theorem setMemSt_trayLines (k : Nat) (m : MemSt) : (s.setMemSt k m).trayLines = s.trayLines := (rfl)
@[simp] theorem setMemSt_egPorts (k : Nat) (m : MemSt) : (s.setMemSt k m).egPorts = s.egPorts := (rfl)
@[simp] theorem setMemSt_egFlows (k : Nat) (m : MemSt) : (s.setMemSt k m).egFlows = s.egFlows := (rfl)
@[simp] theorem setMemSt_strs (k : Nat) (m : MemSt) : (s.setMemSt k m).strs = s.strs := (rfl)
@[simp] theorem setMemSt_srtps (k : Nat) (m : MemSt) : (s.setMemSt k m).srtps = s.srtps := (rfl)
@[simp] theorem setMemSt_epochs (k : Nat) (m : MemSt) : (s.setMemSt k m).epochs = s.epochs := (rfl)
@[simp] theorem setMemSt_wl (k : Nat) (m : MemSt) : (s.setMemSt k m).wl = s.wl := (rfl)
@[simp] theorem setMemSt_groups (k : Nat) (m : MemSt) : (s.setMemSt k m).groups = s.groups := (rfl)
@[simp] theorem setMemSt_busFaultAt (k : Nat) (m : MemSt) : (s.setMemSt k m).busFaultAt = s.busFaultAt := (rfl)
@[simp] theorem setMemSt_staged (k : Nat) (m : MemSt) : (s.setMemSt k m).staged = s.staged := (rfl)
@[simp] theorem setMemSt_flowPort (k : Nat) (m : MemSt) : (s.setMemSt k m).flowPort = s.flowPort := (rfl)
@[simp] theorem setMemSt_recs (k : Nat) (m : MemSt) : (s.setMemSt k m).recs = s.recs := (rfl)
@[simp] theorem setMemSt_recno (k : Nat) (m : MemSt) : (s.setMemSt k m).recno = s.recno := (rfl)
@[simp] theorem setMemSt_msixTable (k : Nat) (m : MemSt) : (s.setMemSt k m).msixTable = s.msixTable := (rfl)
@[simp] theorem setMemSt_out (k : Nat) (m : MemSt) : (s.setMemSt k m).out = s.out := (rfl)
@[simp] theorem setMemSt_freeCtr (k : Nat) (m : MemSt) : (s.setMemSt k m).freeCtr = s.freeCtr := (rfl)
@[simp] theorem setMemSt_heath (k : Nat) (m : MemSt) : (s.setMemSt k m).heath = s.heath := (rfl)
@[simp] theorem setMemSt_hlt (k : Nat) (m : MemSt) : (s.setMemSt k m).hlt = s.hlt := (rfl)
@[simp] theorem setMemSt_pdk (k : Nat) (m : MemSt) : (s.setMemSt k m).pdk = s.pdk := (rfl)
@[simp] theorem setMemSt_cons (k : Nat) (m : MemSt) : (s.setMemSt k m).cons = s.cons := (rfl)
@[simp] theorem setMemSt_hcrs (k : Nat) (m : MemSt) : (s.setMemSt k m).hcrs = s.hcrs := (rfl)
@[simp] theorem setMemSt_dmas (k : Nat) (m : MemSt) : (s.setMemSt k m).dmas = s.dmas := (rfl)
@[simp] theorem setMemSt_dmaTurn (k : Nat) (m : MemSt) : (s.setMemSt k m).dmaTurn = s.dmaTurn := (rfl)
@[simp] theorem setMemSt_ptp (k : Nat) (m : MemSt) : (s.setMemSt k m).ptp = s.ptp := (rfl)
@[simp] theorem setMemSt_mcasts (k : Nat) (m : MemSt) : (s.setMemSt k m).mcasts = s.mcasts := (rfl)
@[simp] theorem setMemSt_lostCmds (k : Nat) (m : MemSt) : (s.setMemSt k m).lostCmds = s.lostCmds := (rfl)
@[simp] theorem setMemSt_rcpKeys (k : Nat) (m : MemSt) : (s.setMemSt k m).rcpKeys = s.rcpKeys := (rfl)
@[simp] theorem setMemSt_svnMin (k : Nat) (m : MemSt) : (s.setMemSt k m).svnMin = s.svnMin := (rfl)
@[simp] theorem setMemSt_boots (k : Nat) (m : MemSt) : (s.setMemSt k m).boots = s.boots := (rfl)
@[simp] theorem setMemSt_bootPending (k : Nat) (m : MemSt) : (s.setMemSt k m).bootPending = s.bootPending := (rfl)
@[simp] theorem setMemSt_pwrGood (k : Nat) (m : MemSt) : (s.setMemSt k m).pwrGood = s.pwrGood := (rfl)

@[simp] theorem setRend_pending (ch r : Nat) (x : RendSt) : (s.setRend ch r x).pending = s.pending := (rfl)
@[simp] theorem setRend_raw (ch r : Nat) (x : RendSt) : (s.setRend ch r x).raw = s.raw := (rfl)
@[simp] theorem setRend_regs (ch r : Nat) (x : RendSt) : (s.setRend ch r x).regs = s.regs := (rfl)
@[simp] theorem setRend_landed (ch r : Nat) (x : RendSt) : (s.setRend ch r x).landed = s.landed := (rfl)
@[simp] theorem setRend_srwPend (ch r : Nat) (x : RendSt) : (s.setRend ch r x).srwPend = s.srwPend := (rfl)
@[simp] theorem setRend_shadowNow (ch r : Nat) (x : RendSt) : (s.setRend ch r x).shadowNow = s.shadowNow := (rfl)
@[simp] theorem setRend_rdLatch (ch r : Nat) (x : RendSt) : (s.setRend ch r x).rdLatch = s.rdLatch := (rfl)
@[simp] theorem setRend_claimAt (ch r : Nat) (x : RendSt) : (s.setRend ch r x).claimAt = s.claimAt := (rfl)
@[simp] theorem setRend_before (ch r : Nat) (x : RendSt) : (s.setRend ch r x).before = s.before := (rfl)
@[simp] theorem setRend_pci (ch r : Nat) (x : RendSt) : (s.setRend ch r x).pci = s.pci := (rfl)
@[simp] theorem setRend_wrHold (ch r : Nat) (x : RendSt) : (s.setRend ch r x).wrHold = s.wrHold := (rfl)
@[simp] theorem setRend_mem (ch r : Nat) (x : RendSt) : (s.setRend ch r x).mem = s.mem := (rfl)
@[simp] theorem setRend_poison (ch r : Nat) (x : RendSt) : (s.setRend ch r x).poison = s.poison := (rfl)
@[simp] theorem setRend_seqMem (ch r : Nat) (x : RendSt) : (s.setRend ch r x).seqMem = s.seqMem := (rfl)
@[simp] theorem setRend_seqBad (ch r : Nat) (x : RendSt) : (s.setRend ch r x).seqBad = s.seqBad := (rfl)
@[simp] theorem setRend_threads (ch r : Nat) (x : RendSt) : (s.setRend ch r x).threads = s.threads := (rfl)
@[simp] theorem setRend_turns (ch r : Nat) (x : RendSt) : (s.setRend ch r x).turns = s.turns := (rfl)
@[simp] theorem setRend_cores (ch r : Nat) (x : RendSt) : (s.setRend ch r x).cores = s.cores := (rfl)
@[simp] theorem setRend_tasks (ch r : Nat) (x : RendSt) : (s.setRend ch r x).tasks = s.tasks := (rfl)
@[simp] theorem setRend_readyCtr (ch r : Nat) (x : RendSt) : (s.setRend ch r x).readyCtr = s.readyCtr := (rfl)
@[simp] theorem setRend_mpcHeld (ch r : Nat) (x : RendSt) : (s.setRend ch r x).mpcHeld = s.mpcHeld := (rfl)
@[simp] theorem setRend_hwSeq (ch r : Nat) (x : RendSt) : (s.setRend ch r x).hwSeq = s.hwSeq := (rfl)
@[simp] theorem setRend_drrGroup (ch r : Nat) (x : RendSt) : (s.setRend ch r x).drrGroup = s.drrGroup := (rfl)
@[simp] theorem setRend_drrOpen (ch r : Nat) (x : RendSt) : (s.setRend ch r x).drrOpen = s.drrOpen := (rfl)
@[simp] theorem setRend_tickPend (ch r : Nat) (x : RendSt) : (s.setRend ch r x).tickPend = s.tickPend := (rfl)
@[simp] theorem setRend_lastTick (ch r : Nat) (x : RendSt) : (s.setRend ch r x).lastTick = s.lastTick := (rfl)
@[simp] theorem setRend_tickFrom (ch r : Nat) (x : RendSt) : (s.setRend ch r x).tickFrom = s.tickFrom := (rfl)
@[simp] theorem setRend_moved (ch r : Nat) (x : RendSt) : (s.setRend ch r x).moved = s.moved := (rfl)
@[simp] theorem setRend_relWait (ch r : Nat) (x : RendSt) : (s.setRend ch r x).relWait = s.relWait := (rfl)
@[simp] theorem setRend_busy (ch r : Nat) (x : RendSt) : (s.setRend ch r x).busy = s.busy := (rfl)
@[simp] theorem setRend_adm (ch r : Nat) (x : RendSt) : (s.setRend ch r x).adm = s.adm := (rfl)
@[simp] theorem setRend_chans (ch r : Nat) (x : RendSt) : (s.setRend ch r x).chans = s.chans := (rfl)
@[simp] theorem setRend_tb (ch r : Nat) (x : RendSt) : (s.setRend ch r x).tb = s.tb := (rfl)
@[simp] theorem setRend_pgs (ch r : Nat) (x : RendSt) : (s.setRend ch r x).pgs = s.pgs := (rfl)
@[simp] theorem setRend_encTags (ch r : Nat) (x : RendSt) : (s.setRend ch r x).encTags = s.encTags := (rfl)
@[simp] theorem setRend_encWords (ch r : Nat) (x : RendSt) : (s.setRend ch r x).encWords = s.encWords := (rfl)
@[simp] theorem setRend_memSts (ch r : Nat) (x : RendSt) : (s.setRend ch r x).memSts = s.memSts := (rfl)
@[simp] theorem setRend_lanes (ch r : Nat) (x : RendSt) : (s.setRend ch r x).lanes = s.lanes := (rfl)
@[simp] theorem setRend_ports (ch r : Nat) (x : RendSt) : (s.setRend ch r x).ports = s.ports := (rfl)
@[simp] theorem setRend_pairs (ch r : Nat) (x : RendSt) : (s.setRend ch r x).pairs = s.pairs := (rfl)
@[simp] theorem setRend_ingFifo (ch r : Nat) (x : RendSt) : (s.setRend ch r x).ingFifo = s.ingFifo := (rfl)
@[simp] theorem setRend_ctl (ch r : Nat) (x : RendSt) : (s.setRend ch r x).ctl = s.ctl := (rfl)
@[simp] theorem setRend_flowBad (ch r : Nat) (x : RendSt) : (s.setRend ch r x).flowBad = s.flowBad := (rfl)
@[simp] theorem setRend_pools (ch r : Nat) (x : RendSt) : (s.setRend ch r x).pools = s.pools := (rfl)
@[simp] theorem setRend_decs (ch r : Nat) (x : RendSt) : (s.setRend ch r x).decs = s.decs := (rfl)
@[simp] theorem setRend_sbs (ch r : Nat) (x : RendSt) : (s.setRend ch r x).sbs = s.sbs := (rfl)
@[simp] theorem setRend_tdms (ch r : Nat) (x : RendSt) : (s.setRend ch r x).tdms = s.tdms := (rfl)
@[simp] theorem setRend_vcxo (ch r : Nat) (x : RendSt) : (s.setRend ch r x).vcxo = s.vcxo := (rfl)
@[simp] theorem setRend_units (ch r : Nat) (x : RendSt) : (s.setRend ch r x).units = s.units := (rfl)
@[simp] theorem setRend_engCtx (ch r : Nat) (x : RendSt) : (s.setRend ch r x).engCtx = s.engCtx := (rfl)
@[simp] theorem setRend_prfOwn (ch r : Nat) (x : RendSt) : (s.setRend ch r x).prfOwn = s.prfOwn := (rfl)
@[simp] theorem setRend_sclOwn (ch r : Nat) (x : RendSt) : (s.setRend ch r x).sclOwn = s.sclOwn := (rfl)
@[simp] theorem setRend_coefs (ch r : Nat) (x : RendSt) : (s.setRend ch r x).coefs = s.coefs := (rfl)
@[simp] theorem setRend_sclHeld (ch r : Nat) (x : RendSt) : (s.setRend ch r x).sclHeld = s.sclHeld := (rfl)
@[simp] theorem setRend_proofs (ch r : Nat) (x : RendSt) : (s.setRend ch r x).proofs = s.proofs := (rfl)
@[simp] theorem setRend_trayLines (ch r : Nat) (x : RendSt) : (s.setRend ch r x).trayLines = s.trayLines := (rfl)
@[simp] theorem setRend_egPorts (ch r : Nat) (x : RendSt) : (s.setRend ch r x).egPorts = s.egPorts := (rfl)
@[simp] theorem setRend_egFlows (ch r : Nat) (x : RendSt) : (s.setRend ch r x).egFlows = s.egFlows := (rfl)
@[simp] theorem setRend_strs (ch r : Nat) (x : RendSt) : (s.setRend ch r x).strs = s.strs := (rfl)
@[simp] theorem setRend_srtps (ch r : Nat) (x : RendSt) : (s.setRend ch r x).srtps = s.srtps := (rfl)
@[simp] theorem setRend_epochs (ch r : Nat) (x : RendSt) : (s.setRend ch r x).epochs = s.epochs := (rfl)
@[simp] theorem setRend_wl (ch r : Nat) (x : RendSt) : (s.setRend ch r x).wl = s.wl := (rfl)
@[simp] theorem setRend_groups (ch r : Nat) (x : RendSt) : (s.setRend ch r x).groups = s.groups := (rfl)
@[simp] theorem setRend_busFaultAt (ch r : Nat) (x : RendSt) : (s.setRend ch r x).busFaultAt = s.busFaultAt := (rfl)
@[simp] theorem setRend_staged (ch r : Nat) (x : RendSt) : (s.setRend ch r x).staged = s.staged := (rfl)
@[simp] theorem setRend_flowPort (ch r : Nat) (x : RendSt) : (s.setRend ch r x).flowPort = s.flowPort := (rfl)
@[simp] theorem setRend_recs (ch r : Nat) (x : RendSt) : (s.setRend ch r x).recs = s.recs := (rfl)
@[simp] theorem setRend_recno (ch r : Nat) (x : RendSt) : (s.setRend ch r x).recno = s.recno := (rfl)
@[simp] theorem setRend_msixTable (ch r : Nat) (x : RendSt) : (s.setRend ch r x).msixTable = s.msixTable := (rfl)
@[simp] theorem setRend_out (ch r : Nat) (x : RendSt) : (s.setRend ch r x).out = s.out := (rfl)
@[simp] theorem setRend_freeCtr (ch r : Nat) (x : RendSt) : (s.setRend ch r x).freeCtr = s.freeCtr := (rfl)
@[simp] theorem setRend_heath (ch r : Nat) (x : RendSt) : (s.setRend ch r x).heath = s.heath := (rfl)
@[simp] theorem setRend_hlt (ch r : Nat) (x : RendSt) : (s.setRend ch r x).hlt = s.hlt := (rfl)
@[simp] theorem setRend_pdk (ch r : Nat) (x : RendSt) : (s.setRend ch r x).pdk = s.pdk := (rfl)
@[simp] theorem setRend_cons (ch r : Nat) (x : RendSt) : (s.setRend ch r x).cons = s.cons := (rfl)
@[simp] theorem setRend_hcrs (ch r : Nat) (x : RendSt) : (s.setRend ch r x).hcrs = s.hcrs := (rfl)
@[simp] theorem setRend_dmas (ch r : Nat) (x : RendSt) : (s.setRend ch r x).dmas = s.dmas := (rfl)
@[simp] theorem setRend_dmaTurn (ch r : Nat) (x : RendSt) : (s.setRend ch r x).dmaTurn = s.dmaTurn := (rfl)
@[simp] theorem setRend_ptp (ch r : Nat) (x : RendSt) : (s.setRend ch r x).ptp = s.ptp := (rfl)
@[simp] theorem setRend_mcasts (ch r : Nat) (x : RendSt) : (s.setRend ch r x).mcasts = s.mcasts := (rfl)
@[simp] theorem setRend_lostCmds (ch r : Nat) (x : RendSt) : (s.setRend ch r x).lostCmds = s.lostCmds := (rfl)
@[simp] theorem setRend_rcpKeys (ch r : Nat) (x : RendSt) : (s.setRend ch r x).rcpKeys = s.rcpKeys := (rfl)
@[simp] theorem setRend_svnMin (ch r : Nat) (x : RendSt) : (s.setRend ch r x).svnMin = s.svnMin := (rfl)
@[simp] theorem setRend_boots (ch r : Nat) (x : RendSt) : (s.setRend ch r x).boots = s.boots := (rfl)
@[simp] theorem setRend_bootPending (ch r : Nat) (x : RendSt) : (s.setRend ch r x).bootPending = s.bootPending := (rfl)
@[simp] theorem setRend_pwrGood (ch r : Nat) (x : RendSt) : (s.setRend ch r x).pwrGood = s.pwrGood := (rfl)

@[simp] theorem setWlPort_pending (p : Nat) (w : WlSt) : (s.setWlPort p w).pending = s.pending := (rfl)
@[simp] theorem setWlPort_raw (p : Nat) (w : WlSt) : (s.setWlPort p w).raw = s.raw := (rfl)
@[simp] theorem setWlPort_regs (p : Nat) (w : WlSt) : (s.setWlPort p w).regs = s.regs := (rfl)
@[simp] theorem setWlPort_landed (p : Nat) (w : WlSt) : (s.setWlPort p w).landed = s.landed := (rfl)
@[simp] theorem setWlPort_srwPend (p : Nat) (w : WlSt) : (s.setWlPort p w).srwPend = s.srwPend := (rfl)
@[simp] theorem setWlPort_shadowNow (p : Nat) (w : WlSt) : (s.setWlPort p w).shadowNow = s.shadowNow := (rfl)
@[simp] theorem setWlPort_rdLatch (p : Nat) (w : WlSt) : (s.setWlPort p w).rdLatch = s.rdLatch := (rfl)
@[simp] theorem setWlPort_claimAt (p : Nat) (w : WlSt) : (s.setWlPort p w).claimAt = s.claimAt := (rfl)
@[simp] theorem setWlPort_before (p : Nat) (w : WlSt) : (s.setWlPort p w).before = s.before := (rfl)
@[simp] theorem setWlPort_pci (p : Nat) (w : WlSt) : (s.setWlPort p w).pci = s.pci := (rfl)
@[simp] theorem setWlPort_wrHold (p : Nat) (w : WlSt) : (s.setWlPort p w).wrHold = s.wrHold := (rfl)
@[simp] theorem setWlPort_mem (p : Nat) (w : WlSt) : (s.setWlPort p w).mem = s.mem := (rfl)
@[simp] theorem setWlPort_poison (p : Nat) (w : WlSt) : (s.setWlPort p w).poison = s.poison := (rfl)
@[simp] theorem setWlPort_seqMem (p : Nat) (w : WlSt) : (s.setWlPort p w).seqMem = s.seqMem := (rfl)
@[simp] theorem setWlPort_seqBad (p : Nat) (w : WlSt) : (s.setWlPort p w).seqBad = s.seqBad := (rfl)
@[simp] theorem setWlPort_threads (p : Nat) (w : WlSt) : (s.setWlPort p w).threads = s.threads := (rfl)
@[simp] theorem setWlPort_turns (p : Nat) (w : WlSt) : (s.setWlPort p w).turns = s.turns := (rfl)
@[simp] theorem setWlPort_cores (p : Nat) (w : WlSt) : (s.setWlPort p w).cores = s.cores := (rfl)
@[simp] theorem setWlPort_tasks (p : Nat) (w : WlSt) : (s.setWlPort p w).tasks = s.tasks := (rfl)
@[simp] theorem setWlPort_readyCtr (p : Nat) (w : WlSt) : (s.setWlPort p w).readyCtr = s.readyCtr := (rfl)
@[simp] theorem setWlPort_mpcHeld (p : Nat) (w : WlSt) : (s.setWlPort p w).mpcHeld = s.mpcHeld := (rfl)
@[simp] theorem setWlPort_hwSeq (p : Nat) (w : WlSt) : (s.setWlPort p w).hwSeq = s.hwSeq := (rfl)
@[simp] theorem setWlPort_drrGroup (p : Nat) (w : WlSt) : (s.setWlPort p w).drrGroup = s.drrGroup := (rfl)
@[simp] theorem setWlPort_drrOpen (p : Nat) (w : WlSt) : (s.setWlPort p w).drrOpen = s.drrOpen := (rfl)
@[simp] theorem setWlPort_tickPend (p : Nat) (w : WlSt) : (s.setWlPort p w).tickPend = s.tickPend := (rfl)
@[simp] theorem setWlPort_lastTick (p : Nat) (w : WlSt) : (s.setWlPort p w).lastTick = s.lastTick := (rfl)
@[simp] theorem setWlPort_tickFrom (p : Nat) (w : WlSt) : (s.setWlPort p w).tickFrom = s.tickFrom := (rfl)
@[simp] theorem setWlPort_moved (p : Nat) (w : WlSt) : (s.setWlPort p w).moved = s.moved := (rfl)
@[simp] theorem setWlPort_relWait (p : Nat) (w : WlSt) : (s.setWlPort p w).relWait = s.relWait := (rfl)
@[simp] theorem setWlPort_busy (p : Nat) (w : WlSt) : (s.setWlPort p w).busy = s.busy := (rfl)
@[simp] theorem setWlPort_adm (p : Nat) (w : WlSt) : (s.setWlPort p w).adm = s.adm := (rfl)
@[simp] theorem setWlPort_chans (p : Nat) (w : WlSt) : (s.setWlPort p w).chans = s.chans := (rfl)
@[simp] theorem setWlPort_tb (p : Nat) (w : WlSt) : (s.setWlPort p w).tb = s.tb := (rfl)
@[simp] theorem setWlPort_pgs (p : Nat) (w : WlSt) : (s.setWlPort p w).pgs = s.pgs := (rfl)
@[simp] theorem setWlPort_encTags (p : Nat) (w : WlSt) : (s.setWlPort p w).encTags = s.encTags := (rfl)
@[simp] theorem setWlPort_encWords (p : Nat) (w : WlSt) : (s.setWlPort p w).encWords = s.encWords := (rfl)
@[simp] theorem setWlPort_memSts (p : Nat) (w : WlSt) : (s.setWlPort p w).memSts = s.memSts := (rfl)
@[simp] theorem setWlPort_lanes (p : Nat) (w : WlSt) : (s.setWlPort p w).lanes = s.lanes := (rfl)
@[simp] theorem setWlPort_ports (p : Nat) (w : WlSt) : (s.setWlPort p w).ports = s.ports := (rfl)
@[simp] theorem setWlPort_pairs (p : Nat) (w : WlSt) : (s.setWlPort p w).pairs = s.pairs := (rfl)
@[simp] theorem setWlPort_ingFifo (p : Nat) (w : WlSt) : (s.setWlPort p w).ingFifo = s.ingFifo := (rfl)
@[simp] theorem setWlPort_ctl (p : Nat) (w : WlSt) : (s.setWlPort p w).ctl = s.ctl := (rfl)
@[simp] theorem setWlPort_flowBad (p : Nat) (w : WlSt) : (s.setWlPort p w).flowBad = s.flowBad := (rfl)
@[simp] theorem setWlPort_pools (p : Nat) (w : WlSt) : (s.setWlPort p w).pools = s.pools := (rfl)
@[simp] theorem setWlPort_decs (p : Nat) (w : WlSt) : (s.setWlPort p w).decs = s.decs := (rfl)
@[simp] theorem setWlPort_sbs (p : Nat) (w : WlSt) : (s.setWlPort p w).sbs = s.sbs := (rfl)
@[simp] theorem setWlPort_tdms (p : Nat) (w : WlSt) : (s.setWlPort p w).tdms = s.tdms := (rfl)
@[simp] theorem setWlPort_vcxo (p : Nat) (w : WlSt) : (s.setWlPort p w).vcxo = s.vcxo := (rfl)
@[simp] theorem setWlPort_units (p : Nat) (w : WlSt) : (s.setWlPort p w).units = s.units := (rfl)
@[simp] theorem setWlPort_engCtx (p : Nat) (w : WlSt) : (s.setWlPort p w).engCtx = s.engCtx := (rfl)
@[simp] theorem setWlPort_rends (p : Nat) (w : WlSt) : (s.setWlPort p w).rends = s.rends := (rfl)
@[simp] theorem setWlPort_prfOwn (p : Nat) (w : WlSt) : (s.setWlPort p w).prfOwn = s.prfOwn := (rfl)
@[simp] theorem setWlPort_sclOwn (p : Nat) (w : WlSt) : (s.setWlPort p w).sclOwn = s.sclOwn := (rfl)
@[simp] theorem setWlPort_coefs (p : Nat) (w : WlSt) : (s.setWlPort p w).coefs = s.coefs := (rfl)
@[simp] theorem setWlPort_sclHeld (p : Nat) (w : WlSt) : (s.setWlPort p w).sclHeld = s.sclHeld := (rfl)
@[simp] theorem setWlPort_proofs (p : Nat) (w : WlSt) : (s.setWlPort p w).proofs = s.proofs := (rfl)
@[simp] theorem setWlPort_trayLines (p : Nat) (w : WlSt) : (s.setWlPort p w).trayLines = s.trayLines := (rfl)
@[simp] theorem setWlPort_egPorts (p : Nat) (w : WlSt) : (s.setWlPort p w).egPorts = s.egPorts := (rfl)
@[simp] theorem setWlPort_egFlows (p : Nat) (w : WlSt) : (s.setWlPort p w).egFlows = s.egFlows := (rfl)
@[simp] theorem setWlPort_strs (p : Nat) (w : WlSt) : (s.setWlPort p w).strs = s.strs := (rfl)
@[simp] theorem setWlPort_srtps (p : Nat) (w : WlSt) : (s.setWlPort p w).srtps = s.srtps := (rfl)
@[simp] theorem setWlPort_epochs (p : Nat) (w : WlSt) : (s.setWlPort p w).epochs = s.epochs := (rfl)
@[simp] theorem setWlPort_groups (p : Nat) (w : WlSt) : (s.setWlPort p w).groups = s.groups := (rfl)
@[simp] theorem setWlPort_busFaultAt (p : Nat) (w : WlSt) : (s.setWlPort p w).busFaultAt = s.busFaultAt := (rfl)
@[simp] theorem setWlPort_staged (p : Nat) (w : WlSt) : (s.setWlPort p w).staged = s.staged := (rfl)
@[simp] theorem setWlPort_flowPort (p : Nat) (w : WlSt) : (s.setWlPort p w).flowPort = s.flowPort := (rfl)
@[simp] theorem setWlPort_recs (p : Nat) (w : WlSt) : (s.setWlPort p w).recs = s.recs := (rfl)
@[simp] theorem setWlPort_recno (p : Nat) (w : WlSt) : (s.setWlPort p w).recno = s.recno := (rfl)
@[simp] theorem setWlPort_msixTable (p : Nat) (w : WlSt) : (s.setWlPort p w).msixTable = s.msixTable := (rfl)
@[simp] theorem setWlPort_out (p : Nat) (w : WlSt) : (s.setWlPort p w).out = s.out := (rfl)
@[simp] theorem setWlPort_freeCtr (p : Nat) (w : WlSt) : (s.setWlPort p w).freeCtr = s.freeCtr := (rfl)
@[simp] theorem setWlPort_heath (p : Nat) (w : WlSt) : (s.setWlPort p w).heath = s.heath := (rfl)
@[simp] theorem setWlPort_hlt (p : Nat) (w : WlSt) : (s.setWlPort p w).hlt = s.hlt := (rfl)
@[simp] theorem setWlPort_pdk (p : Nat) (w : WlSt) : (s.setWlPort p w).pdk = s.pdk := (rfl)
@[simp] theorem setWlPort_cons (p : Nat) (w : WlSt) : (s.setWlPort p w).cons = s.cons := (rfl)
@[simp] theorem setWlPort_hcrs (p : Nat) (w : WlSt) : (s.setWlPort p w).hcrs = s.hcrs := (rfl)
@[simp] theorem setWlPort_dmas (p : Nat) (w : WlSt) : (s.setWlPort p w).dmas = s.dmas := (rfl)
@[simp] theorem setWlPort_dmaTurn (p : Nat) (w : WlSt) : (s.setWlPort p w).dmaTurn = s.dmaTurn := (rfl)
@[simp] theorem setWlPort_ptp (p : Nat) (w : WlSt) : (s.setWlPort p w).ptp = s.ptp := (rfl)
@[simp] theorem setWlPort_mcasts (p : Nat) (w : WlSt) : (s.setWlPort p w).mcasts = s.mcasts := (rfl)
@[simp] theorem setWlPort_lostCmds (p : Nat) (w : WlSt) : (s.setWlPort p w).lostCmds = s.lostCmds := (rfl)
@[simp] theorem setWlPort_rcpKeys (p : Nat) (w : WlSt) : (s.setWlPort p w).rcpKeys = s.rcpKeys := (rfl)
@[simp] theorem setWlPort_svnMin (p : Nat) (w : WlSt) : (s.setWlPort p w).svnMin = s.svnMin := (rfl)
@[simp] theorem setWlPort_boots (p : Nat) (w : WlSt) : (s.setWlPort p w).boots = s.boots := (rfl)
@[simp] theorem setWlPort_bootPending (p : Nat) (w : WlSt) : (s.setWlPort p w).bootPending = s.bootPending := (rfl)
@[simp] theorem setWlPort_pwrGood (p : Nat) (w : WlSt) : (s.setWlPort p w).pwrGood = s.pwrGood := (rfl)

@[simp] theorem setPg_pending (g : Nat) (p : Pg) : (s.setPg g p).pending = s.pending := (rfl)
@[simp] theorem setPg_raw (g : Nat) (p : Pg) : (s.setPg g p).raw = s.raw := (rfl)
@[simp] theorem setPg_regs (g : Nat) (p : Pg) : (s.setPg g p).regs = s.regs := (rfl)
@[simp] theorem setPg_landed (g : Nat) (p : Pg) : (s.setPg g p).landed = s.landed := (rfl)
@[simp] theorem setPg_srwPend (g : Nat) (p : Pg) : (s.setPg g p).srwPend = s.srwPend := (rfl)
@[simp] theorem setPg_shadowNow (g : Nat) (p : Pg) : (s.setPg g p).shadowNow = s.shadowNow := (rfl)
@[simp] theorem setPg_rdLatch (g : Nat) (p : Pg) : (s.setPg g p).rdLatch = s.rdLatch := (rfl)
@[simp] theorem setPg_claimAt (g : Nat) (p : Pg) : (s.setPg g p).claimAt = s.claimAt := (rfl)
@[simp] theorem setPg_before (g : Nat) (p : Pg) : (s.setPg g p).before = s.before := (rfl)
@[simp] theorem setPg_pci (g : Nat) (p : Pg) : (s.setPg g p).pci = s.pci := (rfl)
@[simp] theorem setPg_wrHold (g : Nat) (p : Pg) : (s.setPg g p).wrHold = s.wrHold := (rfl)
@[simp] theorem setPg_mem (g : Nat) (p : Pg) : (s.setPg g p).mem = s.mem := (rfl)
@[simp] theorem setPg_poison (g : Nat) (p : Pg) : (s.setPg g p).poison = s.poison := (rfl)
@[simp] theorem setPg_seqMem (g : Nat) (p : Pg) : (s.setPg g p).seqMem = s.seqMem := (rfl)
@[simp] theorem setPg_seqBad (g : Nat) (p : Pg) : (s.setPg g p).seqBad = s.seqBad := (rfl)
@[simp] theorem setPg_threads (g : Nat) (p : Pg) : (s.setPg g p).threads = s.threads := (rfl)
@[simp] theorem setPg_turns (g : Nat) (p : Pg) : (s.setPg g p).turns = s.turns := (rfl)
@[simp] theorem setPg_cores (g : Nat) (p : Pg) : (s.setPg g p).cores = s.cores := (rfl)
@[simp] theorem setPg_tasks (g : Nat) (p : Pg) : (s.setPg g p).tasks = s.tasks := (rfl)
@[simp] theorem setPg_readyCtr (g : Nat) (p : Pg) : (s.setPg g p).readyCtr = s.readyCtr := (rfl)
@[simp] theorem setPg_mpcHeld (g : Nat) (p : Pg) : (s.setPg g p).mpcHeld = s.mpcHeld := (rfl)
@[simp] theorem setPg_hwSeq (g : Nat) (p : Pg) : (s.setPg g p).hwSeq = s.hwSeq := (rfl)
@[simp] theorem setPg_drrGroup (g : Nat) (p : Pg) : (s.setPg g p).drrGroup = s.drrGroup := (rfl)
@[simp] theorem setPg_drrOpen (g : Nat) (p : Pg) : (s.setPg g p).drrOpen = s.drrOpen := (rfl)
@[simp] theorem setPg_tickPend (g : Nat) (p : Pg) : (s.setPg g p).tickPend = s.tickPend := (rfl)
@[simp] theorem setPg_lastTick (g : Nat) (p : Pg) : (s.setPg g p).lastTick = s.lastTick := (rfl)
@[simp] theorem setPg_tickFrom (g : Nat) (p : Pg) : (s.setPg g p).tickFrom = s.tickFrom := (rfl)
@[simp] theorem setPg_moved (g : Nat) (p : Pg) : (s.setPg g p).moved = s.moved := (rfl)
@[simp] theorem setPg_relWait (g : Nat) (p : Pg) : (s.setPg g p).relWait = s.relWait := (rfl)
@[simp] theorem setPg_busy (g : Nat) (p : Pg) : (s.setPg g p).busy = s.busy := (rfl)
@[simp] theorem setPg_adm (g : Nat) (p : Pg) : (s.setPg g p).adm = s.adm := (rfl)
@[simp] theorem setPg_chans (g : Nat) (p : Pg) : (s.setPg g p).chans = s.chans := (rfl)
@[simp] theorem setPg_tb (g : Nat) (p : Pg) : (s.setPg g p).tb = s.tb := (rfl)
@[simp] theorem setPg_encTags (g : Nat) (p : Pg) : (s.setPg g p).encTags = s.encTags := (rfl)
@[simp] theorem setPg_encWords (g : Nat) (p : Pg) : (s.setPg g p).encWords = s.encWords := (rfl)
@[simp] theorem setPg_memSts (g : Nat) (p : Pg) : (s.setPg g p).memSts = s.memSts := (rfl)
@[simp] theorem setPg_lanes (g : Nat) (p : Pg) : (s.setPg g p).lanes = s.lanes := (rfl)
@[simp] theorem setPg_ports (g : Nat) (p : Pg) : (s.setPg g p).ports = s.ports := (rfl)
@[simp] theorem setPg_pairs (g : Nat) (p : Pg) : (s.setPg g p).pairs = s.pairs := (rfl)
@[simp] theorem setPg_ingFifo (g : Nat) (p : Pg) : (s.setPg g p).ingFifo = s.ingFifo := (rfl)
@[simp] theorem setPg_ctl (g : Nat) (p : Pg) : (s.setPg g p).ctl = s.ctl := (rfl)
@[simp] theorem setPg_flowBad (g : Nat) (p : Pg) : (s.setPg g p).flowBad = s.flowBad := (rfl)
@[simp] theorem setPg_pools (g : Nat) (p : Pg) : (s.setPg g p).pools = s.pools := (rfl)
@[simp] theorem setPg_decs (g : Nat) (p : Pg) : (s.setPg g p).decs = s.decs := (rfl)
@[simp] theorem setPg_sbs (g : Nat) (p : Pg) : (s.setPg g p).sbs = s.sbs := (rfl)
@[simp] theorem setPg_tdms (g : Nat) (p : Pg) : (s.setPg g p).tdms = s.tdms := (rfl)
@[simp] theorem setPg_vcxo (g : Nat) (p : Pg) : (s.setPg g p).vcxo = s.vcxo := (rfl)
@[simp] theorem setPg_units (g : Nat) (p : Pg) : (s.setPg g p).units = s.units := (rfl)
@[simp] theorem setPg_engCtx (g : Nat) (p : Pg) : (s.setPg g p).engCtx = s.engCtx := (rfl)
@[simp] theorem setPg_rends (g : Nat) (p : Pg) : (s.setPg g p).rends = s.rends := (rfl)
@[simp] theorem setPg_prfOwn (g : Nat) (p : Pg) : (s.setPg g p).prfOwn = s.prfOwn := (rfl)
@[simp] theorem setPg_sclOwn (g : Nat) (p : Pg) : (s.setPg g p).sclOwn = s.sclOwn := (rfl)
@[simp] theorem setPg_coefs (g : Nat) (p : Pg) : (s.setPg g p).coefs = s.coefs := (rfl)
@[simp] theorem setPg_sclHeld (g : Nat) (p : Pg) : (s.setPg g p).sclHeld = s.sclHeld := (rfl)
@[simp] theorem setPg_proofs (g : Nat) (p : Pg) : (s.setPg g p).proofs = s.proofs := (rfl)
@[simp] theorem setPg_trayLines (g : Nat) (p : Pg) : (s.setPg g p).trayLines = s.trayLines := (rfl)
@[simp] theorem setPg_egPorts (g : Nat) (p : Pg) : (s.setPg g p).egPorts = s.egPorts := (rfl)
@[simp] theorem setPg_egFlows (g : Nat) (p : Pg) : (s.setPg g p).egFlows = s.egFlows := (rfl)
@[simp] theorem setPg_strs (g : Nat) (p : Pg) : (s.setPg g p).strs = s.strs := (rfl)
@[simp] theorem setPg_srtps (g : Nat) (p : Pg) : (s.setPg g p).srtps = s.srtps := (rfl)
@[simp] theorem setPg_epochs (g : Nat) (p : Pg) : (s.setPg g p).epochs = s.epochs := (rfl)
@[simp] theorem setPg_wl (g : Nat) (p : Pg) : (s.setPg g p).wl = s.wl := (rfl)
@[simp] theorem setPg_groups (g : Nat) (p : Pg) : (s.setPg g p).groups = s.groups := (rfl)
@[simp] theorem setPg_busFaultAt (g : Nat) (p : Pg) : (s.setPg g p).busFaultAt = s.busFaultAt := (rfl)
@[simp] theorem setPg_staged (g : Nat) (p : Pg) : (s.setPg g p).staged = s.staged := (rfl)
@[simp] theorem setPg_flowPort (g : Nat) (p : Pg) : (s.setPg g p).flowPort = s.flowPort := (rfl)
@[simp] theorem setPg_recs (g : Nat) (p : Pg) : (s.setPg g p).recs = s.recs := (rfl)
@[simp] theorem setPg_recno (g : Nat) (p : Pg) : (s.setPg g p).recno = s.recno := (rfl)
@[simp] theorem setPg_msixTable (g : Nat) (p : Pg) : (s.setPg g p).msixTable = s.msixTable := (rfl)
@[simp] theorem setPg_out (g : Nat) (p : Pg) : (s.setPg g p).out = s.out := (rfl)
@[simp] theorem setPg_freeCtr (g : Nat) (p : Pg) : (s.setPg g p).freeCtr = s.freeCtr := (rfl)
@[simp] theorem setPg_heath (g : Nat) (p : Pg) : (s.setPg g p).heath = s.heath := (rfl)
@[simp] theorem setPg_hlt (g : Nat) (p : Pg) : (s.setPg g p).hlt = s.hlt := (rfl)
@[simp] theorem setPg_pdk (g : Nat) (p : Pg) : (s.setPg g p).pdk = s.pdk := (rfl)
@[simp] theorem setPg_cons (g : Nat) (p : Pg) : (s.setPg g p).cons = s.cons := (rfl)
@[simp] theorem setPg_hcrs (g : Nat) (p : Pg) : (s.setPg g p).hcrs = s.hcrs := (rfl)
@[simp] theorem setPg_dmas (g : Nat) (p : Pg) : (s.setPg g p).dmas = s.dmas := (rfl)
@[simp] theorem setPg_dmaTurn (g : Nat) (p : Pg) : (s.setPg g p).dmaTurn = s.dmaTurn := (rfl)
@[simp] theorem setPg_ptp (g : Nat) (p : Pg) : (s.setPg g p).ptp = s.ptp := (rfl)
@[simp] theorem setPg_mcasts (g : Nat) (p : Pg) : (s.setPg g p).mcasts = s.mcasts := (rfl)
@[simp] theorem setPg_lostCmds (g : Nat) (p : Pg) : (s.setPg g p).lostCmds = s.lostCmds := (rfl)
@[simp] theorem setPg_rcpKeys (g : Nat) (p : Pg) : (s.setPg g p).rcpKeys = s.rcpKeys := (rfl)
@[simp] theorem setPg_svnMin (g : Nat) (p : Pg) : (s.setPg g p).svnMin = s.svnMin := (rfl)
@[simp] theorem setPg_boots (g : Nat) (p : Pg) : (s.setPg g p).boots = s.boots := (rfl)
@[simp] theorem setPg_bootPending (g : Nat) (p : Pg) : (s.setPg g p).bootPending = s.bootPending := (rfl)
@[simp] theorem setPg_pwrGood (g : Nat) (p : Pg) : (s.setPg g p).pwrGood = s.pwrGood := (rfl)

@[simp] theorem setDec_pending (ch : Nat) (d : DecSt) : (s.setDec ch d).pending = s.pending := (rfl)
@[simp] theorem setDec_raw (ch : Nat) (d : DecSt) : (s.setDec ch d).raw = s.raw := (rfl)
@[simp] theorem setDec_regs (ch : Nat) (d : DecSt) : (s.setDec ch d).regs = s.regs := (rfl)
@[simp] theorem setDec_landed (ch : Nat) (d : DecSt) : (s.setDec ch d).landed = s.landed := (rfl)
@[simp] theorem setDec_srwPend (ch : Nat) (d : DecSt) : (s.setDec ch d).srwPend = s.srwPend := (rfl)
@[simp] theorem setDec_shadowNow (ch : Nat) (d : DecSt) : (s.setDec ch d).shadowNow = s.shadowNow := (rfl)
@[simp] theorem setDec_rdLatch (ch : Nat) (d : DecSt) : (s.setDec ch d).rdLatch = s.rdLatch := (rfl)
@[simp] theorem setDec_claimAt (ch : Nat) (d : DecSt) : (s.setDec ch d).claimAt = s.claimAt := (rfl)
@[simp] theorem setDec_before (ch : Nat) (d : DecSt) : (s.setDec ch d).before = s.before := (rfl)
@[simp] theorem setDec_pci (ch : Nat) (d : DecSt) : (s.setDec ch d).pci = s.pci := (rfl)
@[simp] theorem setDec_wrHold (ch : Nat) (d : DecSt) : (s.setDec ch d).wrHold = s.wrHold := (rfl)
@[simp] theorem setDec_mem (ch : Nat) (d : DecSt) : (s.setDec ch d).mem = s.mem := (rfl)
@[simp] theorem setDec_poison (ch : Nat) (d : DecSt) : (s.setDec ch d).poison = s.poison := (rfl)
@[simp] theorem setDec_seqMem (ch : Nat) (d : DecSt) : (s.setDec ch d).seqMem = s.seqMem := (rfl)
@[simp] theorem setDec_seqBad (ch : Nat) (d : DecSt) : (s.setDec ch d).seqBad = s.seqBad := (rfl)
@[simp] theorem setDec_threads (ch : Nat) (d : DecSt) : (s.setDec ch d).threads = s.threads := (rfl)
@[simp] theorem setDec_turns (ch : Nat) (d : DecSt) : (s.setDec ch d).turns = s.turns := (rfl)
@[simp] theorem setDec_cores (ch : Nat) (d : DecSt) : (s.setDec ch d).cores = s.cores := (rfl)
@[simp] theorem setDec_tasks (ch : Nat) (d : DecSt) : (s.setDec ch d).tasks = s.tasks := (rfl)
@[simp] theorem setDec_readyCtr (ch : Nat) (d : DecSt) : (s.setDec ch d).readyCtr = s.readyCtr := (rfl)
@[simp] theorem setDec_mpcHeld (ch : Nat) (d : DecSt) : (s.setDec ch d).mpcHeld = s.mpcHeld := (rfl)
@[simp] theorem setDec_hwSeq (ch : Nat) (d : DecSt) : (s.setDec ch d).hwSeq = s.hwSeq := (rfl)
@[simp] theorem setDec_drrGroup (ch : Nat) (d : DecSt) : (s.setDec ch d).drrGroup = s.drrGroup := (rfl)
@[simp] theorem setDec_drrOpen (ch : Nat) (d : DecSt) : (s.setDec ch d).drrOpen = s.drrOpen := (rfl)
@[simp] theorem setDec_tickPend (ch : Nat) (d : DecSt) : (s.setDec ch d).tickPend = s.tickPend := (rfl)
@[simp] theorem setDec_lastTick (ch : Nat) (d : DecSt) : (s.setDec ch d).lastTick = s.lastTick := (rfl)
@[simp] theorem setDec_tickFrom (ch : Nat) (d : DecSt) : (s.setDec ch d).tickFrom = s.tickFrom := (rfl)
@[simp] theorem setDec_moved (ch : Nat) (d : DecSt) : (s.setDec ch d).moved = s.moved := (rfl)
@[simp] theorem setDec_relWait (ch : Nat) (d : DecSt) : (s.setDec ch d).relWait = s.relWait := (rfl)
@[simp] theorem setDec_busy (ch : Nat) (d : DecSt) : (s.setDec ch d).busy = s.busy := (rfl)
@[simp] theorem setDec_adm (ch : Nat) (d : DecSt) : (s.setDec ch d).adm = s.adm := (rfl)
@[simp] theorem setDec_chans (ch : Nat) (d : DecSt) : (s.setDec ch d).chans = s.chans := (rfl)
@[simp] theorem setDec_tb (ch : Nat) (d : DecSt) : (s.setDec ch d).tb = s.tb := (rfl)
@[simp] theorem setDec_pgs (ch : Nat) (d : DecSt) : (s.setDec ch d).pgs = s.pgs := (rfl)
@[simp] theorem setDec_encTags (ch : Nat) (d : DecSt) : (s.setDec ch d).encTags = s.encTags := (rfl)
@[simp] theorem setDec_encWords (ch : Nat) (d : DecSt) : (s.setDec ch d).encWords = s.encWords := (rfl)
@[simp] theorem setDec_memSts (ch : Nat) (d : DecSt) : (s.setDec ch d).memSts = s.memSts := (rfl)
@[simp] theorem setDec_lanes (ch : Nat) (d : DecSt) : (s.setDec ch d).lanes = s.lanes := (rfl)
@[simp] theorem setDec_ports (ch : Nat) (d : DecSt) : (s.setDec ch d).ports = s.ports := (rfl)
@[simp] theorem setDec_pairs (ch : Nat) (d : DecSt) : (s.setDec ch d).pairs = s.pairs := (rfl)
@[simp] theorem setDec_ingFifo (ch : Nat) (d : DecSt) : (s.setDec ch d).ingFifo = s.ingFifo := (rfl)
@[simp] theorem setDec_ctl (ch : Nat) (d : DecSt) : (s.setDec ch d).ctl = s.ctl := (rfl)
@[simp] theorem setDec_flowBad (ch : Nat) (d : DecSt) : (s.setDec ch d).flowBad = s.flowBad := (rfl)
@[simp] theorem setDec_pools (ch : Nat) (d : DecSt) : (s.setDec ch d).pools = s.pools := (rfl)
@[simp] theorem setDec_sbs (ch : Nat) (d : DecSt) : (s.setDec ch d).sbs = s.sbs := (rfl)
@[simp] theorem setDec_tdms (ch : Nat) (d : DecSt) : (s.setDec ch d).tdms = s.tdms := (rfl)
@[simp] theorem setDec_vcxo (ch : Nat) (d : DecSt) : (s.setDec ch d).vcxo = s.vcxo := (rfl)
@[simp] theorem setDec_units (ch : Nat) (d : DecSt) : (s.setDec ch d).units = s.units := (rfl)
@[simp] theorem setDec_engCtx (ch : Nat) (d : DecSt) : (s.setDec ch d).engCtx = s.engCtx := (rfl)
@[simp] theorem setDec_rends (ch : Nat) (d : DecSt) : (s.setDec ch d).rends = s.rends := (rfl)
@[simp] theorem setDec_prfOwn (ch : Nat) (d : DecSt) : (s.setDec ch d).prfOwn = s.prfOwn := (rfl)
@[simp] theorem setDec_sclOwn (ch : Nat) (d : DecSt) : (s.setDec ch d).sclOwn = s.sclOwn := (rfl)
@[simp] theorem setDec_coefs (ch : Nat) (d : DecSt) : (s.setDec ch d).coefs = s.coefs := (rfl)
@[simp] theorem setDec_sclHeld (ch : Nat) (d : DecSt) : (s.setDec ch d).sclHeld = s.sclHeld := (rfl)
@[simp] theorem setDec_proofs (ch : Nat) (d : DecSt) : (s.setDec ch d).proofs = s.proofs := (rfl)
@[simp] theorem setDec_trayLines (ch : Nat) (d : DecSt) : (s.setDec ch d).trayLines = s.trayLines := (rfl)
@[simp] theorem setDec_egPorts (ch : Nat) (d : DecSt) : (s.setDec ch d).egPorts = s.egPorts := (rfl)
@[simp] theorem setDec_egFlows (ch : Nat) (d : DecSt) : (s.setDec ch d).egFlows = s.egFlows := (rfl)
@[simp] theorem setDec_strs (ch : Nat) (d : DecSt) : (s.setDec ch d).strs = s.strs := (rfl)
@[simp] theorem setDec_srtps (ch : Nat) (d : DecSt) : (s.setDec ch d).srtps = s.srtps := (rfl)
@[simp] theorem setDec_epochs (ch : Nat) (d : DecSt) : (s.setDec ch d).epochs = s.epochs := (rfl)
@[simp] theorem setDec_wl (ch : Nat) (d : DecSt) : (s.setDec ch d).wl = s.wl := (rfl)
@[simp] theorem setDec_groups (ch : Nat) (d : DecSt) : (s.setDec ch d).groups = s.groups := (rfl)
@[simp] theorem setDec_busFaultAt (ch : Nat) (d : DecSt) : (s.setDec ch d).busFaultAt = s.busFaultAt := (rfl)
@[simp] theorem setDec_staged (ch : Nat) (d : DecSt) : (s.setDec ch d).staged = s.staged := (rfl)
@[simp] theorem setDec_flowPort (ch : Nat) (d : DecSt) : (s.setDec ch d).flowPort = s.flowPort := (rfl)
@[simp] theorem setDec_recs (ch : Nat) (d : DecSt) : (s.setDec ch d).recs = s.recs := (rfl)
@[simp] theorem setDec_recno (ch : Nat) (d : DecSt) : (s.setDec ch d).recno = s.recno := (rfl)
@[simp] theorem setDec_msixTable (ch : Nat) (d : DecSt) : (s.setDec ch d).msixTable = s.msixTable := (rfl)
@[simp] theorem setDec_out (ch : Nat) (d : DecSt) : (s.setDec ch d).out = s.out := (rfl)
@[simp] theorem setDec_freeCtr (ch : Nat) (d : DecSt) : (s.setDec ch d).freeCtr = s.freeCtr := (rfl)
@[simp] theorem setDec_heath (ch : Nat) (d : DecSt) : (s.setDec ch d).heath = s.heath := (rfl)
@[simp] theorem setDec_hlt (ch : Nat) (d : DecSt) : (s.setDec ch d).hlt = s.hlt := (rfl)
@[simp] theorem setDec_pdk (ch : Nat) (d : DecSt) : (s.setDec ch d).pdk = s.pdk := (rfl)
@[simp] theorem setDec_cons (ch : Nat) (d : DecSt) : (s.setDec ch d).cons = s.cons := (rfl)
@[simp] theorem setDec_hcrs (ch : Nat) (d : DecSt) : (s.setDec ch d).hcrs = s.hcrs := (rfl)
@[simp] theorem setDec_dmas (ch : Nat) (d : DecSt) : (s.setDec ch d).dmas = s.dmas := (rfl)
@[simp] theorem setDec_dmaTurn (ch : Nat) (d : DecSt) : (s.setDec ch d).dmaTurn = s.dmaTurn := (rfl)
@[simp] theorem setDec_ptp (ch : Nat) (d : DecSt) : (s.setDec ch d).ptp = s.ptp := (rfl)
@[simp] theorem setDec_mcasts (ch : Nat) (d : DecSt) : (s.setDec ch d).mcasts = s.mcasts := (rfl)
@[simp] theorem setDec_lostCmds (ch : Nat) (d : DecSt) : (s.setDec ch d).lostCmds = s.lostCmds := (rfl)
@[simp] theorem setDec_rcpKeys (ch : Nat) (d : DecSt) : (s.setDec ch d).rcpKeys = s.rcpKeys := (rfl)
@[simp] theorem setDec_svnMin (ch : Nat) (d : DecSt) : (s.setDec ch d).svnMin = s.svnMin := (rfl)
@[simp] theorem setDec_boots (ch : Nat) (d : DecSt) : (s.setDec ch d).boots = s.boots := (rfl)
@[simp] theorem setDec_bootPending (ch : Nat) (d : DecSt) : (s.setDec ch d).bootPending = s.bootPending := (rfl)
@[simp] theorem setDec_pwrGood (ch : Nat) (d : DecSt) : (s.setDec ch d).pwrGood = s.pwrGood := (rfl)

@[simp] theorem setStr_pending (i : Nat) (x : StrSt) : (s.setStr i x).pending = s.pending := (rfl)
@[simp] theorem setStr_raw (i : Nat) (x : StrSt) : (s.setStr i x).raw = s.raw := (rfl)
@[simp] theorem setStr_regs (i : Nat) (x : StrSt) : (s.setStr i x).regs = s.regs := (rfl)
@[simp] theorem setStr_landed (i : Nat) (x : StrSt) : (s.setStr i x).landed = s.landed := (rfl)
@[simp] theorem setStr_srwPend (i : Nat) (x : StrSt) : (s.setStr i x).srwPend = s.srwPend := (rfl)
@[simp] theorem setStr_shadowNow (i : Nat) (x : StrSt) : (s.setStr i x).shadowNow = s.shadowNow := (rfl)
@[simp] theorem setStr_rdLatch (i : Nat) (x : StrSt) : (s.setStr i x).rdLatch = s.rdLatch := (rfl)
@[simp] theorem setStr_claimAt (i : Nat) (x : StrSt) : (s.setStr i x).claimAt = s.claimAt := (rfl)
@[simp] theorem setStr_before (i : Nat) (x : StrSt) : (s.setStr i x).before = s.before := (rfl)
@[simp] theorem setStr_pci (i : Nat) (x : StrSt) : (s.setStr i x).pci = s.pci := (rfl)
@[simp] theorem setStr_wrHold (i : Nat) (x : StrSt) : (s.setStr i x).wrHold = s.wrHold := (rfl)
@[simp] theorem setStr_mem (i : Nat) (x : StrSt) : (s.setStr i x).mem = s.mem := (rfl)
@[simp] theorem setStr_poison (i : Nat) (x : StrSt) : (s.setStr i x).poison = s.poison := (rfl)
@[simp] theorem setStr_seqMem (i : Nat) (x : StrSt) : (s.setStr i x).seqMem = s.seqMem := (rfl)
@[simp] theorem setStr_seqBad (i : Nat) (x : StrSt) : (s.setStr i x).seqBad = s.seqBad := (rfl)
@[simp] theorem setStr_threads (i : Nat) (x : StrSt) : (s.setStr i x).threads = s.threads := (rfl)
@[simp] theorem setStr_turns (i : Nat) (x : StrSt) : (s.setStr i x).turns = s.turns := (rfl)
@[simp] theorem setStr_cores (i : Nat) (x : StrSt) : (s.setStr i x).cores = s.cores := (rfl)
@[simp] theorem setStr_tasks (i : Nat) (x : StrSt) : (s.setStr i x).tasks = s.tasks := (rfl)
@[simp] theorem setStr_readyCtr (i : Nat) (x : StrSt) : (s.setStr i x).readyCtr = s.readyCtr := (rfl)
@[simp] theorem setStr_mpcHeld (i : Nat) (x : StrSt) : (s.setStr i x).mpcHeld = s.mpcHeld := (rfl)
@[simp] theorem setStr_hwSeq (i : Nat) (x : StrSt) : (s.setStr i x).hwSeq = s.hwSeq := (rfl)
@[simp] theorem setStr_drrGroup (i : Nat) (x : StrSt) : (s.setStr i x).drrGroup = s.drrGroup := (rfl)
@[simp] theorem setStr_drrOpen (i : Nat) (x : StrSt) : (s.setStr i x).drrOpen = s.drrOpen := (rfl)
@[simp] theorem setStr_tickPend (i : Nat) (x : StrSt) : (s.setStr i x).tickPend = s.tickPend := (rfl)
@[simp] theorem setStr_lastTick (i : Nat) (x : StrSt) : (s.setStr i x).lastTick = s.lastTick := (rfl)
@[simp] theorem setStr_tickFrom (i : Nat) (x : StrSt) : (s.setStr i x).tickFrom = s.tickFrom := (rfl)
@[simp] theorem setStr_moved (i : Nat) (x : StrSt) : (s.setStr i x).moved = s.moved := (rfl)
@[simp] theorem setStr_relWait (i : Nat) (x : StrSt) : (s.setStr i x).relWait = s.relWait := (rfl)
@[simp] theorem setStr_busy (i : Nat) (x : StrSt) : (s.setStr i x).busy = s.busy := (rfl)
@[simp] theorem setStr_adm (i : Nat) (x : StrSt) : (s.setStr i x).adm = s.adm := (rfl)
@[simp] theorem setStr_chans (i : Nat) (x : StrSt) : (s.setStr i x).chans = s.chans := (rfl)
@[simp] theorem setStr_tb (i : Nat) (x : StrSt) : (s.setStr i x).tb = s.tb := (rfl)
@[simp] theorem setStr_pgs (i : Nat) (x : StrSt) : (s.setStr i x).pgs = s.pgs := (rfl)
@[simp] theorem setStr_encTags (i : Nat) (x : StrSt) : (s.setStr i x).encTags = s.encTags := (rfl)
@[simp] theorem setStr_encWords (i : Nat) (x : StrSt) : (s.setStr i x).encWords = s.encWords := (rfl)
@[simp] theorem setStr_memSts (i : Nat) (x : StrSt) : (s.setStr i x).memSts = s.memSts := (rfl)
@[simp] theorem setStr_lanes (i : Nat) (x : StrSt) : (s.setStr i x).lanes = s.lanes := (rfl)
@[simp] theorem setStr_ports (i : Nat) (x : StrSt) : (s.setStr i x).ports = s.ports := (rfl)
@[simp] theorem setStr_pairs (i : Nat) (x : StrSt) : (s.setStr i x).pairs = s.pairs := (rfl)
@[simp] theorem setStr_ingFifo (i : Nat) (x : StrSt) : (s.setStr i x).ingFifo = s.ingFifo := (rfl)
@[simp] theorem setStr_ctl (i : Nat) (x : StrSt) : (s.setStr i x).ctl = s.ctl := (rfl)
@[simp] theorem setStr_flowBad (i : Nat) (x : StrSt) : (s.setStr i x).flowBad = s.flowBad := (rfl)
@[simp] theorem setStr_pools (i : Nat) (x : StrSt) : (s.setStr i x).pools = s.pools := (rfl)
@[simp] theorem setStr_decs (i : Nat) (x : StrSt) : (s.setStr i x).decs = s.decs := (rfl)
@[simp] theorem setStr_sbs (i : Nat) (x : StrSt) : (s.setStr i x).sbs = s.sbs := (rfl)
@[simp] theorem setStr_tdms (i : Nat) (x : StrSt) : (s.setStr i x).tdms = s.tdms := (rfl)
@[simp] theorem setStr_vcxo (i : Nat) (x : StrSt) : (s.setStr i x).vcxo = s.vcxo := (rfl)
@[simp] theorem setStr_units (i : Nat) (x : StrSt) : (s.setStr i x).units = s.units := (rfl)
@[simp] theorem setStr_engCtx (i : Nat) (x : StrSt) : (s.setStr i x).engCtx = s.engCtx := (rfl)
@[simp] theorem setStr_rends (i : Nat) (x : StrSt) : (s.setStr i x).rends = s.rends := (rfl)
@[simp] theorem setStr_prfOwn (i : Nat) (x : StrSt) : (s.setStr i x).prfOwn = s.prfOwn := (rfl)
@[simp] theorem setStr_sclOwn (i : Nat) (x : StrSt) : (s.setStr i x).sclOwn = s.sclOwn := (rfl)
@[simp] theorem setStr_coefs (i : Nat) (x : StrSt) : (s.setStr i x).coefs = s.coefs := (rfl)
@[simp] theorem setStr_sclHeld (i : Nat) (x : StrSt) : (s.setStr i x).sclHeld = s.sclHeld := (rfl)
@[simp] theorem setStr_proofs (i : Nat) (x : StrSt) : (s.setStr i x).proofs = s.proofs := (rfl)
@[simp] theorem setStr_trayLines (i : Nat) (x : StrSt) : (s.setStr i x).trayLines = s.trayLines := (rfl)
@[simp] theorem setStr_egPorts (i : Nat) (x : StrSt) : (s.setStr i x).egPorts = s.egPorts := (rfl)
@[simp] theorem setStr_egFlows (i : Nat) (x : StrSt) : (s.setStr i x).egFlows = s.egFlows := (rfl)
@[simp] theorem setStr_srtps (i : Nat) (x : StrSt) : (s.setStr i x).srtps = s.srtps := (rfl)
@[simp] theorem setStr_epochs (i : Nat) (x : StrSt) : (s.setStr i x).epochs = s.epochs := (rfl)
@[simp] theorem setStr_wl (i : Nat) (x : StrSt) : (s.setStr i x).wl = s.wl := (rfl)
@[simp] theorem setStr_groups (i : Nat) (x : StrSt) : (s.setStr i x).groups = s.groups := (rfl)
@[simp] theorem setStr_busFaultAt (i : Nat) (x : StrSt) : (s.setStr i x).busFaultAt = s.busFaultAt := (rfl)
@[simp] theorem setStr_staged (i : Nat) (x : StrSt) : (s.setStr i x).staged = s.staged := (rfl)
@[simp] theorem setStr_flowPort (i : Nat) (x : StrSt) : (s.setStr i x).flowPort = s.flowPort := (rfl)
@[simp] theorem setStr_recs (i : Nat) (x : StrSt) : (s.setStr i x).recs = s.recs := (rfl)
@[simp] theorem setStr_recno (i : Nat) (x : StrSt) : (s.setStr i x).recno = s.recno := (rfl)
@[simp] theorem setStr_msixTable (i : Nat) (x : StrSt) : (s.setStr i x).msixTable = s.msixTable := (rfl)
@[simp] theorem setStr_out (i : Nat) (x : StrSt) : (s.setStr i x).out = s.out := (rfl)
@[simp] theorem setStr_freeCtr (i : Nat) (x : StrSt) : (s.setStr i x).freeCtr = s.freeCtr := (rfl)
@[simp] theorem setStr_heath (i : Nat) (x : StrSt) : (s.setStr i x).heath = s.heath := (rfl)
@[simp] theorem setStr_hlt (i : Nat) (x : StrSt) : (s.setStr i x).hlt = s.hlt := (rfl)
@[simp] theorem setStr_pdk (i : Nat) (x : StrSt) : (s.setStr i x).pdk = s.pdk := (rfl)
@[simp] theorem setStr_cons (i : Nat) (x : StrSt) : (s.setStr i x).cons = s.cons := (rfl)
@[simp] theorem setStr_hcrs (i : Nat) (x : StrSt) : (s.setStr i x).hcrs = s.hcrs := (rfl)
@[simp] theorem setStr_dmas (i : Nat) (x : StrSt) : (s.setStr i x).dmas = s.dmas := (rfl)
@[simp] theorem setStr_dmaTurn (i : Nat) (x : StrSt) : (s.setStr i x).dmaTurn = s.dmaTurn := (rfl)
@[simp] theorem setStr_ptp (i : Nat) (x : StrSt) : (s.setStr i x).ptp = s.ptp := (rfl)
@[simp] theorem setStr_mcasts (i : Nat) (x : StrSt) : (s.setStr i x).mcasts = s.mcasts := (rfl)
@[simp] theorem setStr_lostCmds (i : Nat) (x : StrSt) : (s.setStr i x).lostCmds = s.lostCmds := (rfl)
@[simp] theorem setStr_rcpKeys (i : Nat) (x : StrSt) : (s.setStr i x).rcpKeys = s.rcpKeys := (rfl)
@[simp] theorem setStr_svnMin (i : Nat) (x : StrSt) : (s.setStr i x).svnMin = s.svnMin := (rfl)
@[simp] theorem setStr_boots (i : Nat) (x : StrSt) : (s.setStr i x).boots = s.boots := (rfl)
@[simp] theorem setStr_bootPending (i : Nat) (x : StrSt) : (s.setStr i x).bootPending = s.bootPending := (rfl)
@[simp] theorem setStr_pwrGood (i : Nat) (x : StrSt) : (s.setStr i x).pwrGood = s.pwrGood := (rfl)

@[simp] theorem setGrp_pending (g : Nat) (x : GrpSt) : (s.setGrp g x).pending = s.pending := (rfl)
@[simp] theorem setGrp_raw (g : Nat) (x : GrpSt) : (s.setGrp g x).raw = s.raw := (rfl)
@[simp] theorem setGrp_regs (g : Nat) (x : GrpSt) : (s.setGrp g x).regs = s.regs := (rfl)
@[simp] theorem setGrp_landed (g : Nat) (x : GrpSt) : (s.setGrp g x).landed = s.landed := (rfl)
@[simp] theorem setGrp_srwPend (g : Nat) (x : GrpSt) : (s.setGrp g x).srwPend = s.srwPend := (rfl)
@[simp] theorem setGrp_shadowNow (g : Nat) (x : GrpSt) : (s.setGrp g x).shadowNow = s.shadowNow := (rfl)
@[simp] theorem setGrp_rdLatch (g : Nat) (x : GrpSt) : (s.setGrp g x).rdLatch = s.rdLatch := (rfl)
@[simp] theorem setGrp_claimAt (g : Nat) (x : GrpSt) : (s.setGrp g x).claimAt = s.claimAt := (rfl)
@[simp] theorem setGrp_before (g : Nat) (x : GrpSt) : (s.setGrp g x).before = s.before := (rfl)
@[simp] theorem setGrp_pci (g : Nat) (x : GrpSt) : (s.setGrp g x).pci = s.pci := (rfl)
@[simp] theorem setGrp_wrHold (g : Nat) (x : GrpSt) : (s.setGrp g x).wrHold = s.wrHold := (rfl)
@[simp] theorem setGrp_mem (g : Nat) (x : GrpSt) : (s.setGrp g x).mem = s.mem := (rfl)
@[simp] theorem setGrp_poison (g : Nat) (x : GrpSt) : (s.setGrp g x).poison = s.poison := (rfl)
@[simp] theorem setGrp_seqMem (g : Nat) (x : GrpSt) : (s.setGrp g x).seqMem = s.seqMem := (rfl)
@[simp] theorem setGrp_seqBad (g : Nat) (x : GrpSt) : (s.setGrp g x).seqBad = s.seqBad := (rfl)
@[simp] theorem setGrp_threads (g : Nat) (x : GrpSt) : (s.setGrp g x).threads = s.threads := (rfl)
@[simp] theorem setGrp_turns (g : Nat) (x : GrpSt) : (s.setGrp g x).turns = s.turns := (rfl)
@[simp] theorem setGrp_cores (g : Nat) (x : GrpSt) : (s.setGrp g x).cores = s.cores := (rfl)
@[simp] theorem setGrp_tasks (g : Nat) (x : GrpSt) : (s.setGrp g x).tasks = s.tasks := (rfl)
@[simp] theorem setGrp_readyCtr (g : Nat) (x : GrpSt) : (s.setGrp g x).readyCtr = s.readyCtr := (rfl)
@[simp] theorem setGrp_mpcHeld (g : Nat) (x : GrpSt) : (s.setGrp g x).mpcHeld = s.mpcHeld := (rfl)
@[simp] theorem setGrp_hwSeq (g : Nat) (x : GrpSt) : (s.setGrp g x).hwSeq = s.hwSeq := (rfl)
@[simp] theorem setGrp_drrGroup (g : Nat) (x : GrpSt) : (s.setGrp g x).drrGroup = s.drrGroup := (rfl)
@[simp] theorem setGrp_drrOpen (g : Nat) (x : GrpSt) : (s.setGrp g x).drrOpen = s.drrOpen := (rfl)
@[simp] theorem setGrp_tickPend (g : Nat) (x : GrpSt) : (s.setGrp g x).tickPend = s.tickPend := (rfl)
@[simp] theorem setGrp_lastTick (g : Nat) (x : GrpSt) : (s.setGrp g x).lastTick = s.lastTick := (rfl)
@[simp] theorem setGrp_tickFrom (g : Nat) (x : GrpSt) : (s.setGrp g x).tickFrom = s.tickFrom := (rfl)
@[simp] theorem setGrp_moved (g : Nat) (x : GrpSt) : (s.setGrp g x).moved = s.moved := (rfl)
@[simp] theorem setGrp_relWait (g : Nat) (x : GrpSt) : (s.setGrp g x).relWait = s.relWait := (rfl)
@[simp] theorem setGrp_busy (g : Nat) (x : GrpSt) : (s.setGrp g x).busy = s.busy := (rfl)
@[simp] theorem setGrp_adm (g : Nat) (x : GrpSt) : (s.setGrp g x).adm = s.adm := (rfl)
@[simp] theorem setGrp_chans (g : Nat) (x : GrpSt) : (s.setGrp g x).chans = s.chans := (rfl)
@[simp] theorem setGrp_tb (g : Nat) (x : GrpSt) : (s.setGrp g x).tb = s.tb := (rfl)
@[simp] theorem setGrp_pgs (g : Nat) (x : GrpSt) : (s.setGrp g x).pgs = s.pgs := (rfl)
@[simp] theorem setGrp_encTags (g : Nat) (x : GrpSt) : (s.setGrp g x).encTags = s.encTags := (rfl)
@[simp] theorem setGrp_encWords (g : Nat) (x : GrpSt) : (s.setGrp g x).encWords = s.encWords := (rfl)
@[simp] theorem setGrp_memSts (g : Nat) (x : GrpSt) : (s.setGrp g x).memSts = s.memSts := (rfl)
@[simp] theorem setGrp_lanes (g : Nat) (x : GrpSt) : (s.setGrp g x).lanes = s.lanes := (rfl)
@[simp] theorem setGrp_ports (g : Nat) (x : GrpSt) : (s.setGrp g x).ports = s.ports := (rfl)
@[simp] theorem setGrp_pairs (g : Nat) (x : GrpSt) : (s.setGrp g x).pairs = s.pairs := (rfl)
@[simp] theorem setGrp_ingFifo (g : Nat) (x : GrpSt) : (s.setGrp g x).ingFifo = s.ingFifo := (rfl)
@[simp] theorem setGrp_ctl (g : Nat) (x : GrpSt) : (s.setGrp g x).ctl = s.ctl := (rfl)
@[simp] theorem setGrp_flowBad (g : Nat) (x : GrpSt) : (s.setGrp g x).flowBad = s.flowBad := (rfl)
@[simp] theorem setGrp_pools (g : Nat) (x : GrpSt) : (s.setGrp g x).pools = s.pools := (rfl)
@[simp] theorem setGrp_decs (g : Nat) (x : GrpSt) : (s.setGrp g x).decs = s.decs := (rfl)
@[simp] theorem setGrp_sbs (g : Nat) (x : GrpSt) : (s.setGrp g x).sbs = s.sbs := (rfl)
@[simp] theorem setGrp_tdms (g : Nat) (x : GrpSt) : (s.setGrp g x).tdms = s.tdms := (rfl)
@[simp] theorem setGrp_vcxo (g : Nat) (x : GrpSt) : (s.setGrp g x).vcxo = s.vcxo := (rfl)
@[simp] theorem setGrp_units (g : Nat) (x : GrpSt) : (s.setGrp g x).units = s.units := (rfl)
@[simp] theorem setGrp_engCtx (g : Nat) (x : GrpSt) : (s.setGrp g x).engCtx = s.engCtx := (rfl)
@[simp] theorem setGrp_rends (g : Nat) (x : GrpSt) : (s.setGrp g x).rends = s.rends := (rfl)
@[simp] theorem setGrp_prfOwn (g : Nat) (x : GrpSt) : (s.setGrp g x).prfOwn = s.prfOwn := (rfl)
@[simp] theorem setGrp_sclOwn (g : Nat) (x : GrpSt) : (s.setGrp g x).sclOwn = s.sclOwn := (rfl)
@[simp] theorem setGrp_coefs (g : Nat) (x : GrpSt) : (s.setGrp g x).coefs = s.coefs := (rfl)
@[simp] theorem setGrp_sclHeld (g : Nat) (x : GrpSt) : (s.setGrp g x).sclHeld = s.sclHeld := (rfl)
@[simp] theorem setGrp_proofs (g : Nat) (x : GrpSt) : (s.setGrp g x).proofs = s.proofs := (rfl)
@[simp] theorem setGrp_trayLines (g : Nat) (x : GrpSt) : (s.setGrp g x).trayLines = s.trayLines := (rfl)
@[simp] theorem setGrp_egPorts (g : Nat) (x : GrpSt) : (s.setGrp g x).egPorts = s.egPorts := (rfl)
@[simp] theorem setGrp_egFlows (g : Nat) (x : GrpSt) : (s.setGrp g x).egFlows = s.egFlows := (rfl)
@[simp] theorem setGrp_strs (g : Nat) (x : GrpSt) : (s.setGrp g x).strs = s.strs := (rfl)
@[simp] theorem setGrp_srtps (g : Nat) (x : GrpSt) : (s.setGrp g x).srtps = s.srtps := (rfl)
@[simp] theorem setGrp_epochs (g : Nat) (x : GrpSt) : (s.setGrp g x).epochs = s.epochs := (rfl)
@[simp] theorem setGrp_wl (g : Nat) (x : GrpSt) : (s.setGrp g x).wl = s.wl := (rfl)
@[simp] theorem setGrp_busFaultAt (g : Nat) (x : GrpSt) : (s.setGrp g x).busFaultAt = s.busFaultAt := (rfl)
@[simp] theorem setGrp_staged (g : Nat) (x : GrpSt) : (s.setGrp g x).staged = s.staged := (rfl)
@[simp] theorem setGrp_flowPort (g : Nat) (x : GrpSt) : (s.setGrp g x).flowPort = s.flowPort := (rfl)
@[simp] theorem setGrp_recs (g : Nat) (x : GrpSt) : (s.setGrp g x).recs = s.recs := (rfl)
@[simp] theorem setGrp_recno (g : Nat) (x : GrpSt) : (s.setGrp g x).recno = s.recno := (rfl)
@[simp] theorem setGrp_msixTable (g : Nat) (x : GrpSt) : (s.setGrp g x).msixTable = s.msixTable := (rfl)
@[simp] theorem setGrp_out (g : Nat) (x : GrpSt) : (s.setGrp g x).out = s.out := (rfl)
@[simp] theorem setGrp_freeCtr (g : Nat) (x : GrpSt) : (s.setGrp g x).freeCtr = s.freeCtr := (rfl)
@[simp] theorem setGrp_heath (g : Nat) (x : GrpSt) : (s.setGrp g x).heath = s.heath := (rfl)
@[simp] theorem setGrp_hlt (g : Nat) (x : GrpSt) : (s.setGrp g x).hlt = s.hlt := (rfl)
@[simp] theorem setGrp_pdk (g : Nat) (x : GrpSt) : (s.setGrp g x).pdk = s.pdk := (rfl)
@[simp] theorem setGrp_cons (g : Nat) (x : GrpSt) : (s.setGrp g x).cons = s.cons := (rfl)
@[simp] theorem setGrp_hcrs (g : Nat) (x : GrpSt) : (s.setGrp g x).hcrs = s.hcrs := (rfl)
@[simp] theorem setGrp_dmas (g : Nat) (x : GrpSt) : (s.setGrp g x).dmas = s.dmas := (rfl)
@[simp] theorem setGrp_dmaTurn (g : Nat) (x : GrpSt) : (s.setGrp g x).dmaTurn = s.dmaTurn := (rfl)
@[simp] theorem setGrp_ptp (g : Nat) (x : GrpSt) : (s.setGrp g x).ptp = s.ptp := (rfl)
@[simp] theorem setGrp_mcasts (g : Nat) (x : GrpSt) : (s.setGrp g x).mcasts = s.mcasts := (rfl)
@[simp] theorem setGrp_lostCmds (g : Nat) (x : GrpSt) : (s.setGrp g x).lostCmds = s.lostCmds := (rfl)
@[simp] theorem setGrp_rcpKeys (g : Nat) (x : GrpSt) : (s.setGrp g x).rcpKeys = s.rcpKeys := (rfl)
@[simp] theorem setGrp_svnMin (g : Nat) (x : GrpSt) : (s.setGrp g x).svnMin = s.svnMin := (rfl)
@[simp] theorem setGrp_boots (g : Nat) (x : GrpSt) : (s.setGrp g x).boots = s.boots := (rfl)
@[simp] theorem setGrp_bootPending (g : Nat) (x : GrpSt) : (s.setGrp g x).bootPending = s.bootPending := (rfl)
@[simp] theorem setGrp_pwrGood (g : Nat) (x : GrpSt) : (s.setGrp g x).pwrGood = s.pwrGood := (rfl)

end Sys2Proof.Machine
end

