-- ==== Sys2Proof/WellFormed.lean ====
section
/-! DEFINITION. Which commands are well formed: what the operands' types do not already say. -/

namespace Sys2Proof

/-- Whether a command's operands are such as the spec allows a command to have. -/
def wellFormed : Instr → Bool

  | .registerWrite _ _ _ _ _ => true
  | .rcRegisterRead _ _ _ _ => true
  | .lowWordRead _ _ _ => true
  | .lowWordWrite _ _ _ _ => true
  | .srwWrite _ _ _ _ _ => true
  | .ctxShadowCtrlWrite _ _ _ => true
  | .handover _ _ => true
  | .proofingSlotStart _ _ => true
  | .proofingSlotEnd _ _ _ _ => true
  | .codingDeadline _ _ _ _ => true
  | .sliceRelease _ _ _ _ => true
  | .pictureRelease _ _ _ _ => true
  | .lateRelease _ _ _ _ => true
  | .skipUnitEmit _ _ _ _ _ => true
  | .add _ _ _ _ => true
  | .sub _ _ _ _ => true
  | .and _ _ _ _ => true
  | .or _ _ _ _ => true
  | .xor _ _ _ _ => true
  | .shl _ _ _ _ => true
  | .shr _ _ _ _ => true
  | .sra _ _ _ _ => true
  | .slt _ _ _ _ => true
  | .sltu _ _ _ _ => true
  | .min _ _ _ _ => true
  | .max _ _ _ _ => true
  | .minu _ _ _ _ => true
  | .maxu _ _ _ _ => true
  | .adds _ _ _ _ => true
  | .subs _ _ _ _ => true
  | .mul _ _ _ _ => true
  | .mulhu _ _ _ _ => true
  | .mulq _ _ _ _ => true
  | .divu _ _ _ _ => true
  | .remu _ _ _ _ => true
  | .clz _ _ _ _ => true
  | .popc _ _ _ _ => true
  | .addi _ _ _ _ => true
  | .andi _ _ _ _ => true
  | .ori _ _ _ _ => true
  | .xori _ _ _ _ => true
  | .slti _ _ _ _ => true
  | .sltiu _ _ _ _ => true
  | .shli _ _ _ _ => true
  | .shri _ _ _ _ => true
  | .srai _ _ _ _ => true
  | .insi _ _ _ _ => true
  | .lb _ _ _ _ _ => true
  | .lh _ _ _ _ _ => true
  | .lw _ _ _ _ _ => true
  | .lws _ _ _ _ _ => true
  | .ld _ _ _ _ _ => true
  | .lwf _ _ _ _ => true
  | .ldf _ _ _ _ => true
  | .sb _ _ _ _ => true
  | .sh _ _ _ _ => true
  | .sw _ _ _ _ => true
  | .sd _ _ _ _ => true
  | .swf _ _ _ _ => true
  | .sdf _ _ _ _ => true
  | .farAccessComplete _ _ _ => true
  | .aadd _ _ _ _ _ => true
  | .aswp _ _ _ _ _ => true
  | .acas _ _ _ _ _ => true
  | .beq _ _ _ _ => true
  | .bne _ _ _ _ => true
  | .blt _ _ _ _ => true
  | .bge _ _ _ _ => true
  | .bltu _ _ _ _ => true
  | .bgeu _ _ _ _ => true
  | .jal _ _ _ => true
  | .jalr _ _ _ _ => true
  | .issue _ _ _ _ => true
  | .issued _ _ _ _ => true
  | .issueUnblock _ _ => true
  | .cancel _ _ _ _ => true
  | .wait _ _ _ _ _ => true
  | .waitReturn _ _ => true
  | .sig _ _ _ _ => true
  | .time _ _ _ _ => true
  | .traw _ _ _ _ => true
  | .tepoch _ _ _ _ => true
  | .mfs _ _ _ _ => true
  | .mts _ _ _ _ => true
  | .fence _ _ _ _ => true
  | .fenceComplete _ _ => true
  | .yield _ _ _ _ => true
  | .halt _ _ _ _ => true
  | .haltComplete _ _ => true
  | .retv _ _ _ _ => true
  | .bkpt _ _ _ _ => true
  | .trap _ _ _ _ => true
  | .undefinedInstruction _ _ => true
  | .vectorEntry _ => true
  | .rdk _ _ _ _ => true
  | .wrk _ _ _ _ => true
  | .retk _ _ _ _ => true
  | .sleep _ _ _ _ => true
  | .coreSleepWake _ => true
  | .dcinv _ _ _ _ => true
  | .dcwb _ _ _ _ => true
  | .dcwball _ _ _ _ => true
  | .icinv _ _ _ _ => true
  | .coreHandlerEntry _ => true
  | .ctxDoorbell _ _ => true
  | .threadStart _ => true
  | .threadStop _ => true
  | .threadResume _ => true
  | .stopTimeout _ _ => true
  | .seqMemDataWrite _ _ => true
  | .seqMemDataRead _ => true
  | .seqTaskPost => true
  | .mpcTaskDispatch _ => true
  | .directDispatch _ _ _ => true
  | .taskDispatch _ _ => true
  | .taskEnd _ _ _ _ => true
  | .heldRecordWrite _ => true
  | .dispatcherTick _ => true
  | .dspTickWrite _ => true
  | .dspCancel _ => true
  | .admitChannel _ => true
  | .release _ => true
  | .releaseComplete _ => true
  | .mpcAge _ => true
  | .entryEcc _ _ => true
  | .macFrameReceive _ _ _ => true
  | .ingestPacket _ _ => true
  | .policerSweep _ => true
  | .pathSilent _ _ _ => true
  | .flowTableEcc _ _ => true
  | .ingIndSel _ _ => true
  | .eyeWindow _ _ _ => true
  | .forceCtle _ => true
  | .laneLockLoss _ _ _ => true
  | .portUp _ _ => true
  | .sclCoefLoad => true
  | .proofingBufEcc _ _ _ => true
  | .scalerBufEcc _ _ _ => true
  | .ctuStart _ _ => true
  | .ctuComplete _ _ _ _ => true
  | .engineSramEcc _ _ => true
  | .engineTimeout _ _ => true
  | .refCacheEcc _ _ => true
  | .proofStart _ _ => true
  | .proofEnd _ _ _ _ => true
  | .proofAgeExpiry _ => true
  | .engineIsolate _ => true
  | .engineRestore _ => true
  | .trayInvalidate _ => true
  | .auTimeout _ _ => true
  | .decodeOutputFrame _ _ => true
  | .decHostAck _ _ => true
  | .mediaSamplePeriod _ _ => true
  | .tdmPinFrame _ _ _ => true
  | .portNoClock _ _ => true
  | .audPortMaskWrite _ _ _ => true
  | .vcxoLoopRun _ _ => true
  | .audStartArm _ _ => true
  | .egressFrameStart _ _ => true
  | .egressFrameDone _ _ => true
  | .tsDatagramRelease _ _ => true
  | .ancPacketRelease _ _ => true
  | .videoPacketPacing _ _ _ _ => true
  | .scte35Resend _ _ => true
  | .srtpLoad _ => true
  | .srtpSlotWrite _ _ => true
  | .gateChange _ _ => true
  | .gateListActivate _ _ => true
  | .gateEntryAdvance _ _ => true
  | .egrIndSel _ _ => true
  | .tbSnap _ => true
  | .newEpoch _ => true
  | .tbStep _ _ => true
  | .timebaseSample _ _ _ => true
  | .rateFold _ => true
  | .tbRateWrite _ _ => true
  | .tbGmIdWrite _ => true
  | .holdoverTimeout _ => true
  | .timeFlitSend _ _ => true
  | .timeFlitReceive _ _ _ _ _ _ _ => true
  | .ppsEdge _ => true
  | .pgEnable _ _ => true
  | .pulseDue _ _ => true
  | .pulseEnd _ _ => true
  | .memoryRead _ _ _ _ _ _ => true
  | .memoryWrite _ _ _ _ => true
  | .scrubRead _ _ _ => true
  | .migrationCopyUnit _ => true
  | .bankRefresh _ _ => true
  | .selfRefreshEntry _ _ => true
  | .selfRefreshRetry _ _ => true
  | .selfRefreshExit _ _ => true
  | .bar2Access _ _ _ _ _ _ => true
  | .msixVectorUnmask _ _ _ _ => true
  | .hcrDoorbell _ _ => true
  | .commandFetch _ _ => true
  | .nop _ => true
  | .recipeLoad _ => true
  | .channelStart _ => true
  | .channelStop _ => true
  | .ptpConfig _ => true
  | .mcastJoin _ => true
  | .mcastLeave _ => true
  | .dmaGo _ _ => true
  | .dmaAbort _ => true
  | .dmaBurstIssue _ => true
  | .dmaBurstComplete _ _ => true
  | .dmaHostError _ => true
  | .memWriteFlit _ _ _ data _ => decide (data.length ≤ 236)
  | .mediaFlit _ _ _ _ => true
  | .msgFlit _ _ data _ => decide (data.length ≤ 244)
  | .idleFlit _ _ _ _ => true
  | .heartbeatFlit _ _ _ _ _ _ _ _ => true
  | .echoReq _ _ _ => true
  | .echoRsp _ _ _ _ => true
  | .laneMap _ _ _ _ _ => true
  | .audit _ _ _ _ _ _ => true
  | .unknownFlitType _ => true
  | .flitTransmit _ _ _ => true
  | .auditSend _ _ => true
  | .trainingBlockReceive _ _ _ _ _ _ => true
  | .receiverReady _ _ _ _ => true
  | .trainTimeout _ _ => true
  | .wlLaneLockLoss _ _ _ _ => true
  | .wlRetrain _ _ => true
  | .idleEntry _ _ => true
  | .idleExit _ _ => true
  | .heartbeatCycle _ _ _ => true
  | .challengeCycle _ _ _ _ => true
  | .claimBusFault _ _ _ => true
  | .busFaultClear _ => true
  | .heartbeatMiss _ _ => true
  | .yieldGroup _ => true
  | .standbyTokenReturn _ _ => true
  | .sieveReport _ _ _ _ => true
  | .sieveAck _ => true
  | .sieveRingHeadWrite _ => true
  | .sieveRestore _ => true
  | .sieveInject _ _ => true
  | .sieveLock => true
  | .sensorSample _ _ => true
  | .hthPsReq _ _ => true
  | .ps1IdleEntry _ _ => true
  | .ps2EntryComplete _ _ => true
  | .ps2ExitComplete _ => true
  | .wakeSchedule => true
  | .linkActivity _ => true
  | .wdogKick _ => true
  | .wdogTimeout _ => true
  | .aonAlign _ => true
  | .oscTrimUpdate _ => true
  | .refclkLost _ => true
  | .marginSample _ _ => true
  | .eyeScan _ _ _ _ => true
  | .ceTrendHour _ => true
  | .serviceEstimate _ => true
  | .pictureEvent _ _ => true
  | .feedTime _ _ => true
  | .usageRecordClose _ => true
  | .loudnessRecordClose _ _ => true
  | .programmeEnable _ => true
  | .programmeEnd _ _ _ => true
  | .readRecord _ _ => true
  | .readCert _ => true
  | .readStatus _ => true
  | .exported => true
  | .installAuthority _ _ => true
  | .setClassLimits _ _ => true
  | .clearTamper _ _ => true
  | .lidOpen _ => true
  | .paddockPowerUp _ => true
  | .pdkSilent _ => true
  | .consSnapGo _ _ => true
  | .snapshotComplete _ => true
  | .autoSnapshot _ => true
  | .pwrGoodRise _ => true
  | .pwrGoodFall => true
  | .sysRst _ _ _ => true
  | .gctlResetCore _ _ => true
  | .perst => true
  | .aonPowerUp => true
  | .recoveryGo _ _ => true
  | .svnBurn => true
  | .svnBurnDone => true
  | .debugResponse _ => true
  | .recipeKeyLoad _ => true
  | .policyLock => true
  | .perstRelease _ _ => true
  | .wlLaneRegainsLock _ _ => true
  | .flitCrcFail _ _ _ => true

end Sys2Proof
end

