-- ==== Sys2Proof/Tests/Slice0.lean ====
section
/-! SUPPORT. Tests: for every statement a state and operands that meet its hypotheses, at boundary values; ill-formed terms; values that the specification's
examples and tables give. -/

open Sys2Proof Sys2Proof.Machine

set_option Elab.async false

namespace Sys2Proof.Tests

/-! ### Helpers -/

/-- An issue by thread 0 at time 0, and by core 0. -/
def by0 : Issue := ⟨.thread 0, .clean, 0⟩
def byCore : Issue := ⟨.core 0, .clean, 0⟩

/-- Thread 0 runs, with word `w` at its PC, 1 KB of text and 1 KB of data. -/
def runner (w : Nat) : State :=
  (((State.reset.setThr 0 { ({} : Thread) with st := .runnable }).set (R.SEQ_TH_IMAP_LEN 0 0) 1024).set (R.SEQ_TH_DMAP_LEN 0 0) 1024).seqWr (seqKey 0 0) 4 w

/-- As `runner`, with some fields of the context set. -/
def runnerWith (w : Nat) (f : Thread → Thread) : State := (runner w).setThr 0 (f ((runner w).thr 0))

/-! ### Morop: arithmetic and logic -/

theorem witness_RegisterFormResults : ∀ p ∈ Spec.aluTable, (runner (encR 0x00 1 2 3 p.2.1)).issues by0 (encR 0x00 1 2 3 p.2.1) := by
  unfold State.issues; decide +kernel

theorem witness_ImmediateFormResults :
    (∀ p ∈ Spec.immTable, (runner (encI p.2.1 1 2 0xFFFF)).issues by0 (encI p.2.1 1 2 0xFFFF)) ∧
    (∀ p ∈ Spec.shiftTable, (0x3F : BitVec 16).toNat < 64 ∧ (runner (encI p.2.1 1 2 0x3F)).issues by0 (encI p.2.1 1 2 0x3F)) ∧
    (runner (encN 0x0B 1 3 0xFFFF)).issues by0 (encN 0x0B 1 3 0xFFFF) := by
  unfold State.issues; decide +kernel

/-! ### Morop: memory -/

/-- Thread 0 with word `w` at its PC and address `a` in g2, bound to channel `ch`, with far window 0 over the first 64 KB of the shared SRAM. -/
def accessing (w a ch : Nat) : State :=
  let s := runnerWith w (fun t => { t.wg 2 (BitVec.ofNat 64 a) with chan := ch })
  (s.set (R.SEQ_TH_FWIN_BASE 0 0 0) 0x400000).set (R.SEQ_TH_FWIN_SIZE 0 0 0) 1

theorem witness_DataPartitionLoads : ∀ p ∈ Spec.loadTable, let w := encI p.2.1 1 2 0
    let s := accessing w (1024 - p.2.2.1) 0xFFFF
    let a := Spec.address s by0 2 0
    by0.agent = .thread 0 ∧ s.issues by0 w ∧ Spec.inData s 0 a p.2.2.1 ∧ a % p.2.2.1 = 0 ∧ Check.corrected ≠ .bad ∧ s.seqBadAt (s.dataKey 0 a) p.2.2.1 = false := by
  unfold State.issues Spec.inData; decide +kernel

theorem witness_DataPartitionStores : ∀ p ∈ Spec.storeTable, let w := encI p.2.1 1 2 0
    let s := accessing w (1024 - p.2.2) 0xFFFF
    let a := Spec.address s by0 2 0
    by0.agent = .thread 0 ∧ s.issues by0 w ∧ Spec.inData s 0 a p.2.2 ∧ a % p.2.2 = 0 := by
  unfold State.issues Spec.inData; decide +kernel

theorem witness_AtomicOperations : ∀ p ∈ Spec.atomicTable, let w := encR 0x1F 1 2 3 p.2.1
    let s := accessing w 1016 0xFFFF
    let a := ((s.own by0).rg 2).toNat
    by0.agent = .thread 0 ∧ s.issues by0 w ∧ Spec.inData s 0 a 8 ∧ a % 8 = 0 ∧ Check.clean ≠ .bad ∧ s.seqBadAt (s.dataKey 0 a) 8 = false := by
  unfold State.issues Spec.inData; decide +kernel

theorem witness_ContextWindowAccesses :
    (∀ p ∈ Spec.loadTable, let w := encI p.2.1 1 2 0
      let s := accessing w (if p.2.2.1 < 4 then 0x20000 - p.2.2.1 else 0x40000 - p.2.2.1) 255
      let a := Spec.address s by0 2 0
      by0.agent = .thread 0 ∧ s.issues by0 w ∧ ¬Spec.inData s 0 a p.2.2.1 ∧ Spec.inWindow s 0 a p.2.2.1 ∧ a % p.2.2.1 = 0) ∧
    (∀ p ∈ Spec.storeTable, let w := encI p.2.1 1 2 0
      let s := accessing w (if p.2.2 < 4 then 0x18000 else 0x10000) 255
      let a := Spec.address s by0 2 0
      by0.agent = .thread 0 ∧ s.issues by0 w ∧ ¬Spec.inData s 0 a p.2.2 ∧ Spec.inWindow s 0 a p.2.2 ∧ a % p.2.2 = 0) := by
  unfold State.issues Spec.inData Spec.inWindow; decide +kernel

theorem witness_AccessTraps :
    (∀ p ∈ Spec.loadTable, let w := encI p.2.1 1 2 0
      let b := accessing w 1024 0xFFFF
      let m := accessing w 1 0xFFFF
      let ab := Spec.address b by0 2 0
      let am := Spec.address m by0 2 0
      by0.agent = .thread 0 ∧ b.issues by0 w ∧ ¬Spec.inData b 0 ab p.2.2.1 ∧ ¬Spec.inWindow b 0 ab p.2.2.1 ∧
      (1 < p.2.2.1 → m.issues by0 w ∧ Spec.inData m 0 am p.2.2.1 ∧ am % p.2.2.1 ≠ 0)) ∧
    (∀ p ∈ Spec.storeTable, let w := encI p.2.1 1 2 0
      let b := accessing w 0x40000 255
      let m := accessing w 0x18001 255
      let ab := Spec.address b by0 2 0
      let am := Spec.address m by0 2 0
      b.issues by0 w ∧ ¬Spec.inData b 0 ab p.2.2 ∧ ¬Spec.inWindow b 0 ab p.2.2 ∧
      (1 < p.2.2 → m.issues by0 w ∧ Spec.inWindow m 0 am p.2.2 ∧ am % p.2.2 ≠ 0)) ∧
    (∀ p ∈ Spec.farTable, let w := encI p.2.1 1 2 0
      let f := accessing w 0x4000010000 0xFFFF
      let m := accessing w 0x4000000001 0xFFFF
      f.issues by0 w ∧ f.farOk 0 (Spec.address f by0 2 0) p.2.2.1 = false ∧ m.issues by0 w ∧ m.farOk 0 (Spec.address m by0 2 0) p.2.2.1 = true ∧
      Spec.address m by0 2 0 % p.2.2.1 ≠ 0) := by
  unfold State.issues Spec.inData Spec.inWindow; refine ⟨?_, ?_, ?_⟩ <;> decide +kernel

theorem witness_FarAccesses :
    (∀ p ∈ Spec.farTable, let w := encI p.2.1 1 2 0
      let s := accessing w (0x4000010000 - p.2.2.1) 0xFFFF
      s.issues by0 w ∧ (∀ n, by0.agent = .thread n → s.farOk n (Spec.address s by0 2 0) p.2.2.1 = true) ∧ Spec.address s by0 2 0 % p.2.2.1 = 0) ∧
    (let blocked := fun (op : MemOp) a => runnerWith 0 (fun t => { t with st := .blocked, block := .far op 8 1 a 7 })
     ∀ q ∈ ([(.load false, 0x4003FFFFF8, true), (.store, 0x4000000000, true), (.load false, 0x4003FFFFF9, false)] : List (MemOp × Nat × Bool)),
       let s := blocked q.1 q.2.1
       s.runs (.thread 0) = true ∧ (s.thr (agentIx (.thread 0))).block = .far q.1 8 1 q.2.1 7 ∧ inHbm q.2.1 = false ∧ inRegs q.2.1 = false ∧
       mappedRange q.2.1 8 = q.2.2) := by
  unfold State.issues; refine ⟨?_, by decide +kernel⟩
  simp only [by0, Agent.thread.injEq, forall_eq']; decide +kernel

/-- As `runner`, for a thread that is about to issue `w` with `bad` in the word, a run limit of `lim` and ILEN `len`. -/
def limited (w len lim : Nat) : State := ((runner w).set (R.SEQ_TH_IMAP_LEN 0 0) len).set (R.SEQ_TH_RUNLIM_LIMIT 0 0) lim

theorem witness_ThreadTraps :
    (by0.agent = .thread 0 ∧ undefinedWord (0xFFFFFFFF : BitVec 32).toNat = true ∧ (runner 0xFFFFFFFF).issues by0 0xFFFFFFFF ∧
      (∀ p ∈ Spec.shiftTable, 64 ≤ (64 : BitVec 16).toNat ∧ (runner (encI p.2.1 1 2 64)).issues by0 (encI p.2.1 1 2 64)) ∧
      (runner (encR 0x2C 1 2 3 0)).issues by0 (encR 0x2C 1 2 3 0) ∧
      (∀ p ∈ [0x2E, 0x2F], (runner (encI p 0 2 0x014)).issues by0 (encI p 0 2 0x014)) ∧
      (runner (encI 0x2F 1 2 0x013)).issues by0 (encI 0x2F 1 2 0x013) ∧ (runner (encI 0x31 0 0 5)).issues by0 (encI 0x31 0 0 5) ∧
      (runner (encI 0x31 0 1 5)).issues by0 (encI 0x31 0 1 5) ∧ (runner (encR 0x30 0 0 0 5)).issues by0 (encR 0x30 0 0 0 5) ∧
      (∀ p ∈ [0x38, 0x39], (runner (encI p 1 2 0)).issues by0 (encI p 1 2 0)) ∧
      (∀ p ∈ [1, 2, 3, 4, 5, 6], (runner (encR 0x3E 1 2 3 p)).issues by0 (encR 0x3E 1 2 3 p))) ∧
    ((limited 0 0 65536).mayIssue by0 = true ∧ (limited 0 0 65536).get (R.SEQ_TH_IMAP_LEN 0 0) ≤ ((limited 0 0 65536).own by0).pc ∧
      (limited 0 4 0).mayIssue by0 = true ∧ ¬(limited 0 4 0).get (R.SEQ_TH_IMAP_LEN 0 0) ≤ ((limited 0 4 0).own by0).pc ∧
      (limited 0 4 0).flag (R.SEQ_TH_CTRL_RUNLIM_EN 0 0) = true ∧ (limited 0 4 0).get (R.SEQ_TH_RUNLIM_LIMIT 0 0) < ((limited 0 4 0).own by0).runcount + 1 ∧
      ¬(limited 0 4 1).get (R.SEQ_TH_RUNLIM_LIMIT 0 0) < ((limited 0 4 1).own by0).runcount + 1 ∧ (limited 0 4 1).seqBadAt ((limited 0 4 1).pcKey 0) 4 = false) ∧
    (∀ p ∈ Spec.loadTable, let w := encI p.2.1 1 2 0
      let s := accessing w 0 0xFFFF
      let a := Spec.address s by0 2 0
      s.issues by0 w ∧ Spec.inData s 0 a p.2.2.1 ∧ a % p.2.2.1 = 0) := by
  unfold State.issues Spec.inData; decide +kernel

/-! ### Morop: control, tasks, events and special registers -/

theorem witness_BranchesAndJumps :
    (∀ p ∈ Spec.branchTable, (runner (encB p.2.1 1 2 0x8000)).issues by0 (encB p.2.1 1 2 0x8000)) ∧
    ((runner (encJ 0x26 1 0x100000)).issues by0 (encJ 0x26 1 0x100000)) ∧
    (let w := encI 0x27 1 2 0
     (accessing w 4 0xFFFF).issues by0 w ∧ Spec.address (accessing w 4 0xFFFF) by0 2 0 % 4 = 0 ∧
     (accessing w 5 0xFFFF).issues by0 w ∧ Spec.address (accessing w 5 0xFFFF) by0 2 0 % 4 ≠ 0 ∧ by0.agent = .thread 0) := by
  unfold State.issues; decide +kernel

/-- Thread 0 about to issue `w` with mask `m` in g2, the time 0 in g3 and the events `e` pending. -/
def waiter (w : Nat) (m e : Word) : State := runnerWith w (fun t => { t.wg 2 m with epend := e })

/-- Thread 0 waiting with mask `m` and deadline `d`, with the events `e` pending. -/
def waiting (m e : Word) (d : Option Int) : State := runnerWith 0 (fun t => { t with st := .waiting, wait := some ⟨m, d, 1⟩, epend := e })

theorem witness_WaitTakesTheLowestEvent :
    (let w := encR 0x2B 1 2 3 0
     let m : Word := 0x8000000000000000
     by0.agent = .thread 0 ∧ (waiter w m m).issues by0 w ∧
     (((waiter w m m).thr 0).epend &&& ((waiter w m m).own by0).rg 2 &&& ~~~((waiter w m m).vecMask 0)).getLsbD 63 = true ∧
     (∀ j < 63, (((waiter w m m).thr 0).epend &&& ((waiter w m m).own by0).rg 2 &&& ~~~((waiter w m m).vecMask 0)).getLsbD j = false) ∧
     (waiter w 1 2).issues by0 w ∧ ((waiter w 1 2).own by0).rg 2 ≠ 0 ∧
     ((waiter w 1 2).thr 0).epend &&& ((waiter w 1 2).own by0).rg 2 &&& ~~~((waiter w 1 2).vecMask 0) = 0 ∧
     (waiter w 0 1).issues by0 w ∧ ((waiter w 0 1).own by0).rg 2 = 0) ∧
    (let s := waiting 6 7 none
     s.runs (.thread 0) = true ∧ s.vecMask 0 = 0 ∧ (s.thr 0).wait = some ⟨6, none, 1⟩ ∧ (7 &&& 6 &&& ~~~(s.vecMask 0)).getLsbD 1 = true ∧
     (7 &&& 6 &&& ~~~(s.vecMask 0)).getLsbD 0 = false) := by
  unfold State.issues; decide +kernel

theorem witness_TimedWaitReturnsMinusOne :
    (let w := encR 0x2B 1 2 3 1
     let s := waiter w 1 2
     let f := s.setThr 0 ((s.thr 0).wg 3 1)
     by0.agent = .thread 0 ∧ s.issues by0 w ∧ (s.own by0).epend &&& (s.own by0).rg 2 &&& ~~~(s.vecMask 0) = 0 ∧
     (((s.own by0).rg 3).toNat : Int) ≤ (s.issuing by0).now ∧ f.issues by0 w ∧ (f.issuing by0).now < (((f.own by0).rg 3).toNat : Int)) ∧
    (let s := waiting 6 1 (some 0)
     s.runs (.thread 0) = true ∧ s.vecMask 0 = 0 ∧ (s.thr 0).wait = some ⟨6, some 0, 1⟩ ∧ (s.thr 0).epend &&& 6 &&& ~~~(s.vecMask 0) = 0 ∧ 0 ≤ s.lastTick) := by
  unfold State.issues; decide +kernel

/-- Slot `v` of thread 0 takes event `e` as a vector or an entry, at address 0x40. -/
def State.slot0 (s : State) (v e : Nat) (vectored : Bool) : State :=
  (((s.setFlag (R.SEQ_TH_VEC_VALID 0 0 v) true).setFlag (R.SEQ_TH_VEC_VECTORED 0 0 v) vectored).set (R.SEQ_TH_VEC_EVENT 0 0 v) e).set (R.SEQ_TH_VEC_ADDR 0 0 v) 0x40

theorem witness_VectorEntrySavesThePc :
    (∀ st ∈ [ThState.runnable, .waiting], let s := State.slot0 (runnerWith 0 (fun t => { t with st := st, ven := true, epend := 0x8000000000000001 })) 15 63 true
      s.runs (.thread 0) = true ∧ s.vectorDue 0 = true ∧ (s.thr 0).st = st ∧ (s.vecPending 0).getLsbD 63 = true ∧ (∀ j < 63, (s.vecPending 0).getLsbD j = false) ∧
      s.flag (R.SEQ_TH_VEC_VALID 0 0 15) = true ∧ s.flag (R.SEQ_TH_VEC_VECTORED 0 0 15) = true ∧ s.get (R.SEQ_TH_VEC_EVENT 0 0 15) = 63 ∧
      ∀ j < 15, s.flag (R.SEQ_TH_VEC_VALID 0 0 j) = false) ∧
    (let w := encR 0x30 0 0 0 4
     by0.agent = .thread 0 ∧ (runner w).issues by0 w ∧ ((runner w).own by0).ven = false ∧ (runnerWith w (fun t => { t with ven := true })).issues by0 w ∧
     ((runnerWith w (fun t => { t with ven := true })).own by0).ven = true) := by
  unfold State.issues; decide +kernel

theorem witness_ClocksAndSpecialRegisters :
    (∀ f ∈ [1, 2, 3], (runner (encR 0x2D 1 2 3 f)).issues by0 (encR 0x2D 1 2 3 f)) ∧
    (∀ w ∈ [0x000, 0x001, 0x007, 0x013].map (encI 0x2E 1 0), (runner w).issues by0 w) ∧
    ((accessing (encI 0x2E 1 0 0x010) 0 255).issues by0 (encI 0x2E 1 0 0x010) ∧ ((accessing (encI 0x2E 1 0 0x010) 0 255).own by0).chan < 256) ∧
    (∀ w ∈ [0x000, 0x004, 0x013].map (encI 0x2F 0 2), (runner w).issues by0 w) ∧
    (let s := runnerWith (encI 0x2F 0 2 0x00D) (fun t => { t.wg 2 4 with cqLen := 5 })
     s.issues by0 (encI 0x2F 0 2 0x00D) ∧ ((s.own by0).rg 2).toNat < (s.own by0).cqLen) ∧
    (let s := runnerWith (encI 0x2F 0 2 0x00D) (fun t => { t.wg 2 5 with cqLen := 5 })
     s.issues by0 (encI 0x2F 0 2 0x00D) ∧ (s.own by0).cqLen ≤ ((s.own by0).rg 2).toNat) := by
  unfold State.issues; decide +kernel

theorem witness_RingMovesOnlyWhileEmpty :
    (by0.agent = .thread 0 ∧ ∀ w ∈ [0x00B, 0x00C, 0x00D].map (encI 0x2F 0 2), (runner w).issues by0 w) ∧
    (let s := State.slot0 (((State.reset.setFlag (R.SEQ_CTRL_ENABLE 0) true).set (R.SEQ_TH_IMAP_LEN 0 0) 0x44)) 0 0 false
     s.up = true ∧ s.halted = false ∧ (s.thr 0).st = .idle ∧ s.flag (R.SEQ_CTRL_ENABLE 0) = true ∧ s.hasTasks 0 = false ∧ s.mapOk 0 = true) := by
  unfold State.issues; decide +kernel

theorem witness_TaskAndEventInstructions :
    (let s := accessing (encI 0x28 1 2 0) 960 0xFFFF
     by0.agent = .thread 0 ∧ s.issues by0 (encI 0x28 1 2 0) ∧ Spec.address s by0 2 0 = 960 ∧ 960 + 64 ≤ s.dataLen 0 ∧ s.seqBadAt (s.dataKey 0 960) 64 = false) ∧
    (let s := accessing (encR 0x29 1 2 3 0) 960 0xFFFF
     s.issues by0 (encR 0x29 1 2 3 0) ∧ ((s.own by0).rg 2).toNat = 960) ∧
    (let s := (runnerWith 0 (fun t => { t with st := .blocked, block := .issue 1 {} none false })).setFlag R.DSP_CTRL_ENABLE true
     s.runs (.thread 0) = true ∧ (s.thr 0).block = .issue 1 {} none false ∧
     ((s.advance 0).issue (agentIx (.thread 0)) {} none false).2 = .done (BitVec.allOnes 64)) ∧
    ((runner (encR 0x2A 1 2 3 0)).issues by0 (encR 0x2A 1 2 3 0)) ∧
    (∀ e ∈ [47, 48, 63, 64], let s := runnerWith (encR 0x2C 0 2 3 0) (fun t => (t.wg 2 255).wg 3 (BitVec.ofNat 64 e))
      s.issues by0 (encR 0x2C 0 2 3 0) ∧ ((s.own by0).rg 3).toNat = e ∧ ((s.own by0).rg 2).toNat ≤ 255) := by
  unfold State.issues; decide +kernel

theorem witness_FenceYieldHalt :
    (∀ f ∈ [1, 2, 3], (runner (encR 0x30 0 0 0 f)).issues by0 (encR 0x30 0 0 0 f)) ∧
    (let s := (accessing (encR 0x30 0 0 0 3) 0 255).setChan 255 { ({} : ChanSt) with running := true }
     s.issues by0 (encR 0x30 0 0 0 3) ∧ (s.own by0).chan < 256 ∧ s.running (s.own by0).chan = true ∧ (s.own by0).stopBy = none) ∧
    (256 ≤ ((runner (encR 0x30 0 0 0 3)).own by0).chan) ∧
    (∀ g ∈ [Agent.thread 0, .core 0], let s := State.reset.setThr (agentIx g) { ({} : Thread) with st := .blocked, block := .fence, storesUntil := 6 }
      s.runs g = true ∧ (s.thr (agentIx g)).block = .fence ∧ (s.thr (agentIx g)).storesUntil ≤ max s.raw 6) ∧
    (let s := State.reset.setThr 0 { ({} : Thread) with st := .blocked, halting := true, storesUntil := 6 }
     s.runs (.thread 0) = true ∧ (s.thr 0).halting = true ∧ (s.thr 0).storesUntil ≤ max s.raw 6 ∧ 256 ≤ (s.thr 0).chan) := by
  unfold State.issues; decide +kernel

/-! ### Management cores -/

/-- Core 0 runs, with word `w` at its PC in its instruction cache. -/
def coreRunner (w : Nat) : State :=
  (State.reset.setThr 256 { ({} : Thread) with st := .runnable }).setCore 0 { ({} : CoreX) with icache := [(0, leBytes 4 w ++ List.replicate 60 0)] }

/-- As `coreRunner`, with other fields of its context and of the rest of the core. -/
def coreWith (w : Nat) (f : Thread → Thread) (g : CoreX → CoreX) : State :=
  ((coreRunner w).setThr 256 (f ((coreRunner w).thr 256))).setCore 0 (g ((coreRunner w).core 0))

theorem witness_CoreControlRegisters :
    byCore.agent = .core 0 ∧
    (∀ w ∈ [0x000, 0x007, 0x010, 0x012, 0x008, 0x1000].map (encI 0x38 1 0), (coreRunner w).issues byCore w) ∧
    (∀ w ∈ [0x000, 0x001, 0x004, 0x005, 0x012, 0x013].map (encI 0x39 0 2), (coreRunner w).issues byCore w) ∧
    ((coreRunner 0).core 0).inHandler = false := by
  unfold State.issues; decide +kernel

theorem witness_HandlerEntryAndReturn :
    (let w := encR 0x30 0 0 0 5
     byCore.agent = .core 0 ∧ (coreRunner w).issues byCore w ∧ ((coreRunner w).core 0).inHandler = false ∧
     (coreWith w id (fun c => { c with inHandler := true })).issues byCore w) ∧
    (∀ st ∈ [ThState.runnable, .waiting], let s := coreWith 0 (fun t => { t with st := st }) (fun c => { c with irqOn := true, lineEn := 0x90, linePend := 0xFF })
      s.runs (.core 0) = true ∧ s.lineDue 0 = true ∧ (s.thr 256).st = st ∧ (s.core 0).linePend.testBit 4 = true ∧ (s.core 0).lineEn.testBit 4 = true ∧
      ∀ j < 4, ((s.core 0).linePend.testBit j && (s.core 0).lineEn.testBit j) = false) ∧
    (let w := encR 0x3E 0 0 0 1
     (coreWith w id (fun c => { c with inHandler := true })).issues byCore w ∧ (coreRunner w).issues byCore w) := by
  unfold State.issues; decide +kernel

/-- A line of 64 zero bytes, dirty. -/
def zeroLine : CacheLine := ⟨List.replicate 64 0, true⟩

theorem witness_SleepAndCaches :
    (∀ f ∈ [2, 3, 4, 5, 6], byCore.agent = .core 0 ∧ (coreRunner (encR 0x3E 0 2 0 f)).issues byCore (encR 0x3E 0 2 0 f)) ∧
    (let s := coreWith (encR 0x3E 0 2 0 4) (fun t => t.wg 2 0x400000003F) (fun c => { c with dcache := [(0x100000000, zeroLine)] })
     s.issues byCore (encR 0x3E 0 2 0 4) ∧ tfind (s.core 0).dcache (((s.own byCore).rg 2).toNat / 64) = some zeroLine ∧ zeroLine.dirty = true ∧
     zeroLine.bytes.length = 64 ∧ mappedRange (((s.own byCore).rg 2).toNat / 64 * 64) 64 = true ∧ inHbm (((s.own byCore).rg 2).toNat / 64 * 64) = false) ∧
    (let s := coreWith 0 (fun t => { t with st := .blocked, block := .sleep }) (fun c => { c with lineEn := 0x80, linePend := 0x80 })
     s.runs (.core 0) = true ∧ (s.thr 256).block = .sleep ∧ (s.core 0).linePend &&& (s.core 0).lineEn ≠ 0) := by
  unfold State.issues; decide +kernel

/-- Core 0 about to issue `w` with address `a` in g2, its data cache holding line `l`. -/
def coreAccess (w a l : Nat) : State := coreWith w (fun t => t.wg 2 (BitVec.ofNat 64 a)) (fun c => { c with dcache := [(l, zeroLine)] })

theorem witness_CoreMemoryAccesses :
    (∀ p ∈ Spec.loadTable, let w := encI p.2.1 1 2 0
      let hit := coreAccess w (64 - p.2.2.1) 0
      let io := coreAccess w 0x5000000000 0
      let odd := coreAccess w 1 0
      byCore.agent = .core 0 ∧ hit.issues byCore w ∧ Spec.address hit byCore 2 0 % p.2.2.1 = 0 ∧ mappedRange (Spec.address hit byCore 2 0) p.2.2.1 = true ∧
      inRegs (Spec.address hit byCore 2 0) = false ∧ tfind (hit.core 0).dcache (Spec.address hit byCore 2 0 / 64) = some zeroLine ∧
      tfind ((coreAccess w 64 0).core 0).dcache (Spec.address (coreAccess w 64 0) byCore 2 0 / 64) = none ∧ (coreAccess w 64 0).issues byCore w ∧
      io.issues byCore w ∧ mappedRange (Spec.address io byCore 2 0) p.2.2.1 = true ∧ inRegs (Spec.address io byCore 2 0) = true ∧
      odd.issues byCore w ∧ (1 < p.2.2.1 → Spec.address odd byCore 2 0 % p.2.2.1 ≠ 0)) ∧
    (∀ p ∈ Spec.storeTable, let w := encI p.2.1 1 2 0
      let s := coreAccess w (64 - p.2.2) 0
      let a := Spec.address s byCore 2 0
      s.issues byCore w ∧ a % p.2.2 = 0 ∧ mappedRange a p.2.2 = true ∧ inRegs a = false ∧ tfind (s.core 0).dcache (a / 64) = some zeroLine) ∧
    (∀ p ∈ Spec.atomicTable, let w := encR 0x1F 1 2 3 p.2.1
      let s := coreAccess w 56 0
      let b := ((s.own byCore).rg 2).toNat
      s.issues byCore w ∧ b % 8 = 0 ∧ mappedRange b 8 = true ∧ inRegs b = false ∧ tfind (s.core 0).dcache (b / 64) = some zeroLine) := by
  unfold State.issues; refine ⟨?_, ?_, ?_⟩ <;> decide +kernel

/-! ### Threads from outside, and the dispatcher -/

/-- Thread 0 IDLE with a START entry at slot 0 and a RESUME entry at slot 1, in an enabled sequencer. -/
def startable : State :=
  let s := State.slot0 (((State.reset.setFlag (R.SEQ_CTRL_ENABLE 0) true).set (R.SEQ_TH_IMAP_LEN 0 0) 0x44)) 0 0 false
  (State.slot0 s 1 0 false).setFlag (R.SEQ_TH_VEC_RESUME 0 0 1) true

/-- Two threads of the last sequencer may issue in cycle 0: the one of the higher priority has the slot. -/
theorem witness_ThreadStartStopResume_slot :
    let s : State := { State.reset.set (R.SEQ_TH_CTRL_PRIO 63 3) 7 with threads := [(252, { ({} : Thread) with st := .runnable }), (255, { ({} : Thread) with st := .runnable })] }
    (∀ i ∈ [0, 3], (s.thr (4 * (63 : Fin 64) + i)).st = .runnable ∧ s.ownCycle (4 * (63 : Fin 64) + i) ≤ 0) ∧
    s.hasSlot 255 0 = true ∧ s.hasSlot 252 0 = false := by decide +kernel

theorem witness_ThreadStartStopResume :
    (startable.up = true ∧ startable.halted = false ∧ (startable.thr 0).st = .idle ∧ startable.flag (R.SEQ_CTRL_ENABLE 0) = true ∧ startable.hasTasks 0 = false ∧
      startable.mapOk 0 = true) ∧
    ((State.reset.setFlag (R.SEQ_CTRL_ENABLE 0) true).mapOk 0 = false ∧ (State.reset.setFlag (R.SEQ_CTRL_ENABLE 0) true).flag (R.SEQ_CTRL_ENABLE 0) = true) ∧
    (State.reset.flag (R.SEQ_CTRL_ENABLE 0) = false ∧ State.hasTasks { State.reset with tasks := [(0, { ({} : TaskEntry) with st := .ended })] } 0 = true) ∧
    (let s := startable.setThr 0 { ({} : Thread) with st := .trapped }
     (s.thr 0).st = .trapped ∧ s.entrySlot 0 0 true = some 1 ∧ s.up = true ∧ s.halted = false) ∧
    ((runner 0).entrySlot 0 0 true = none ∧ (runner 0).up = true ∧ (runner 0).halted = false ∧ ((runner 0).thr 0).st ≠ .trapped) ∧
    (let s := runnerWith 0 (fun t => { t with stopBy := some 5 })
     s.live = true ∧ s.up = true ∧ s.halted = false ∧ (s.thr 0).stopBy = some 5 ∧ 5 ≤ max s.raw 5 ∧ (s.thr 0).halting = false ∧ (s.thr 0).st ≠ .idle) := by
  decide +kernel

theorem witness_SequencerMemoryPort :
    (∀ i ∈ [0, 0xFFF, 0x1000, 0x1FFF], let s := State.reset.set (R.SEQ_MEM_ADDR_ADDR 63) i
      s.up = true ∧ s.halted = false ∧ s.get (R.SEQ_MEM_ADDR_ADDR 63) = i ∧ ∀ j < 4, (s.thr (4 * 63 + j)).st = .idle) ∧
    (let s := (runner 0).set (R.SEQ_MEM_ADDR_ADDR 0) 0xFFF
     s.up = true ∧ s.halted = false ∧ 8 * s.get (R.SEQ_MEM_ADDR_ADDR 0) < 0x8000 ∧ (s.thr 0).st ≠ .idle) := by
  decide +kernel

/-- The dispatcher is enabled, and its entries are `l`. -/
def tasked (l : List (Nat × TaskEntry)) : State := { State.reset.setFlag R.DSP_CTRL_ENABLE true with tasks := l }

theorem witness_EventsReachThreads :
    (let s := State.reset.setFlag (R.CTX_BIND_VALID 255) true
     s.up = true ∧ s.halted = false ∧ 48 ≤ (48 : BitVec 6).toNat ∧ s.flag (R.CTX_BIND_VALID 255) = true ∧ (47 : BitVec 6).toNat < 48 ∧
     State.reset.flag (R.CTX_BIND_VALID 255) = false) ∧
    (∀ st ∈ [ThState.idle, .runnable],
      let s : State := { State.reset.setThr 3 { ({} : Thread) with st := st } with hwSeq := [⟨7, 1, 0⟩, ⟨3, 63, 2⟩, ⟨3, 2, 5⟩] }
      s.live = true ∧ s.flag R.DSP_CTRL_ENABLE = false ∧ (⟨3, 63, 2⟩ : SeqPost) ∈ s.hwSeq ∧ (s.thr 3).st = st ∧
      ∀ q ∈ s.hwSeq, q ≠ ⟨3, 63, 2⟩ → s.postsFirst (3, 2) (q.thread, q.order) = true ∧ s.postsFirst (q.thread, q.order) (3, 2) = false) ∧
    (let s := tasked [(4096, { ({} : TaskEntry) with st := .ready, d := { ({} : Desc) with cls := 8, engine := 3, event := 63 } })]
     s.live = true ∧ s.flag R.DSP_CTRL_ENABLE = true ∧ (s.task 4096).d.event < 64 ∧
     (s.readyBy (fun t => decide (t.d.cls = 8))).find? (fun e => (s.mpcCore (s.task e).d).isSome) = some 4096 ∧ s.mpcCore (s.task 4096).d = some 3) := by
  decide +kernel

/-- A DEC task of channel 0 for engine 5, whose access unit is closed. -/
def decoding (direct : Bool) : State :=
  { tasked [(0, { ({} : TaskEntry) with st := .ready, ch := some 0, direct := direct, d := { ({} : Desc) with cls := 2, engine := 5, cost := 640, payload := [0, 0, 0, 0] } })] with
    adm := [(0, { ({} : Adm) with admitted := true, trays := [(0, 0, 0)] })],
    decs := [(0, { ({} : DecSt) with aus := [{ no := 0, ts := 0, arrival := 0, lastPkt := 0, bytes := 100, closed := some 0 }] })] }

/-- A context with one held record and room in its ring. -/
def holding : State :=
  (runnerWith 0 (fun t => { t with cqLen := 2, cqBase := 992, held := [⟨4096, 4096, 0, 3, 100⟩] }))

theorem witness_TasksRunAndEnd :
    (let s := decoding true
     s.live = true ∧ s.flag R.DSP_CTRL_ENABLE = true ∧ ((s.advance 1).readyBy (fun t => t.direct && decide (t.d.engine = 5))).head? = some 0 ∧ (s.advance 1).unitFor 0 = some 5) ∧
    (let s := (decoding false).set (R.DSP_GROUP_WEIGHT_WEIGHT 0) 10
     (s.advance 1).eligible [] ((s.advance 1).groupReady s.drrGroup) = some (0, 5) ∧
     (s.task 0).d.cost ≤ s.get (R.DSP_GROUP_DEFICIT_CU s.drrGroup) + (if s.drrOpen then 0 else 64 * s.get (R.DSP_GROUP_WEIGHT_WEIGHT s.drrGroup))) ∧
    (∀ c ∈ [3, 4, 6], let s := tasked [(0, { ({} : TaskEntry) with st := .running, ch := some 0, d := { ({} : Desc) with cls := c } })]
      s.live = true ∧ (s.task 0).st = .running ∧ (s.task 0).d.cls = c) ∧
    (let s := State.reset.setFlag (R.ENG_CTRL_PROOF_HOST 127) true
     s.live = true ∧ s.flag (R.ENG_CTRL_PROOF_HOST 127) = true ∧ (s.advance 0).engFree 127 = true ∧ (s.advance 0).codingWaits 127 = false) ∧
    (holding.live = true ∧ (holding.thr 0).held = [⟨4096, 4096, 0, 3, 100⟩] ∧ (holding.thr 0).ringRoom = true) := by
  decide +kernel

/-- A declaration of one record of resource 1 with `n` cost units per second, at the start of the shared SRAM. -/
def declared (n : Nat) : State :=
  { State.reset.set R.DSP_ADM_DECL_ADDRESS 0x4000000000 with
    mem := [(0x4000000001, 1), (0x4000000002, 1), (0x4000000010, 1)] ++ (if n = 0 then [] else [(0x400000001F, BitVec.ofNat 8 n)]) }

theorem witness_CancelAndAdmission :
    (∀ q ∈ [(TaskSt.free, 1), (.running, 1), (.ended, 1), (.delayed, 1), (.ready, 1)],
      let s := tasked [(16383, { ({} : TaskEntry) with st := q.1, gen := q.2 })]
      s.up = true ∧ s.halted = false ∧ (s.task 16383).st = q.1 ∧ (s.task ((0x7FFF : BitVec 32).toNat % 16384)).gen = (0x7FFF : BitVec 32).toNat / 16384) ∧
    (2 ^ 31 ≤ (0x80000000 : BitVec 32).toNat ∧ (0x7FFF : BitVec 32).toNat < 2 ^ 31) ∧
    (let s := State.reset.setFlag R.DSP_ADM_CMD_BUSY true
     s.up = true ∧ s.halted = false ∧ s.flag R.DSP_ADM_CMD_BUSY = true) ∧
    (State.reset.flag R.DSP_ADM_CMD_BUSY = false ∧ (State.reset.set R.DSP_ADM_CMD_CHANNEL 255).decl (State.reset.get R.DSP_ADM_DECL_ADDRESS) = none ∧
      (State.reset.admOf 255).admitted = false) ∧
    (let s := (declared 0).set R.DSP_ADM_CMD_CHANNEL 255
     s.decl ((declared 0).get R.DSP_ADM_DECL_ADDRESS) = some ⟨false, 0, [⟨1, 0, 0, 0, 0, 0⟩]⟩ ∧ ((declared 0).admOf 255).admitted = false ∧
     s.refusal 255 ⟨false, 0, [⟨1, 0, 0, 0, 0, 0⟩]⟩ = none) ∧
    (let s := (declared 1).set R.DSP_ADM_CMD_CHANNEL 255
     s.decl ((declared 1).get R.DSP_ADM_DECL_ADDRESS) = some ⟨false, 0, [⟨1, 0, 0, 0, 2 ^ 56, 0⟩]⟩ ∧ ((declared 1).admOf 255).admitted = false ∧
     s.refusal 255 ⟨false, 0, [⟨1, 0, 0, 0, 2 ^ 56, 0⟩]⟩ = some (1, 0)) ∧
    (let s : State := { State.reset with adm := [(0, { ({} : Adm) with admitted := true, releasing := true })] }
     (s.admOf 0).admitted = true ∧ (s.admOf 0).releasing = true ∧ s.get (R.DSP_CH_ENTRIES_COUNT 0) = 0) := by
  decide +kernel

theorem witness_TicksAndDispatcherReports :
    (let s := { tasked [(0, { ({} : TaskEntry) with st := .delayed, release := 1000 })] with tickPend := some 10000 }
     s.live = true ∧ (s.advance 1000).tickTime ≠ s.lastTick ∧ (s.task 0).st = .delayed ∧ ((s.task 0).release : Int) ≤ (s.advance 1000).tickTime ∧
     s.tickPend = some 10000 ∧ 10000 < 2 ^ 14) ∧
    (let s := (tasked [(4096, { ({} : TaskEntry) with st := .ready, gen := 7, d := { ({} : Desc) with cls := 8 } })]).set R.DSP_MPC_AGE_LIMIT_US 1
     s.live = true ∧ ((s.advance 1001).readyBy (fun t => decide (t.d.cls = 8) && !t.aged && decide (s.get R.DSP_MPC_AGE_LIMIT_US ≠ 0) &&
       decide (t.readyAt + 1000 * s.get R.DSP_MPC_AGE_LIMIT_US < (s.advance 1001).raw))).head? = some 4096) ∧
    (∀ st ∈ [TaskSt.free, .delayed, .ready, .running], let s := tasked [(16383, { ({} : TaskEntry) with st := st, ch := some 255 })]
      s.live = true ∧ (s.task 16383).st = st ∧ (s.task 16383).ch = some 255) := by
  decide +kernel

/-! ### The register region -/

/-- The register that lies at `off` has key `k` and satisfies `p`. -/
def regIs (off k : Nat) (p : RegRow → Bool) : Bool := (regAt off).any (fun x => decide (x.2 = k) && p x.1)

theorem witness_SplitAccessesOfWideRegisters :
    (∀ off ∈ [0x80100, 0x80104, 0x200020, 0x200024], let s := State.reset
      s.up = true ∧ off % 4 = 0 ∧ plainAt off = false ∧ 0x10000 ≤ off ∧ regIs (s.target off) (off / 8 * 8) (fun r => decide (r.bytes = 8)) = true) ∧
    (State.reset.target 0x80100 = 0x80100 ∧ State.reset.target 0x80104 = 0x80100 + 4 ∧ idx1 K.SEQ_MEM_DATA 64 0x80100 = none ∧
      tfind ({ State.reset with wrHold := [(0x80100, 1)] } : State).wrHold 0x80100 = some 1 ∧ tfind State.reset.wrHold 0x80100 = none) := by
  decide +kernel

theorem witness_RegisterAccessCodes :
    (∀ q ∈ [(0x80101, 4), (0x80104, 8), (0x80100, 2), (0x51001, 2)], State.reset.up = true ∧ busOk q.1 q.2 = false) ∧
    (∀ off ∈ [0x8400C, 0x84014], let s := State.reset
      s.up = true ∧ off % 4 = 0 ∧ plainAt off = false ∧ 0x10000 ≤ off ∧ regIs (s.target off) off (fun r => decide (r.bytes = 4)) = true) ∧
    (State.reset.halted = false ∧ regIs 0x8400C 0x8400C (fun r => !r.readOnly && !r.shadowed) = true) ∧
    (plainAt 0x10010 = false ∧ regAt (State.reset.target 0x10010) = none) ∧
    (regIs 0x40004 0x40004 (fun r => decide (r.mask (fun a => a = .rw ∨ a = .srw ∨ a = .wo) < 2 ^ 64) && decide (r.mask (fun a => a = .rw1c) < 2 ^ 64) &&
      (r.mask (fun a => a = .rw1c)).testBit 5) = true) ∧
    (∀ q ∈ [(0x51FFF, 1), (0x51FF8, 8), (0x1008000, 8)], q.1 % q.2 = 0 ∧ plainAt q.1 = true) ∧
    (let off := 0x1001018 + 255 * 0x30000
     plainAt off = false ∧ State.reset.target off = off ∧ regIs off off (fun r => decide (r.bytes = 4) && !r.readOnly && r.shadowed) = true) ∧
    (let s := State.reset.setChan 255 { ({} : ChanSt) with running := true, anchor := some 0 }
     s.up = true ∧ s.halted = false ∧ s.running 255 = true ∧ s.gridOn 255 = true ∧
     (s.advance 0).reached ((s.advance 0).tFrame 255 ((s.chan 255).first + (s.chan 255).handed)) = true) := by
  decide +kernel

theorem witness_ShadowedWritesLand :
    (let s := State.reset.setFlag (R.CTX_SHADOW_CTRL_HOLD 255) true
     let off := 0x1001018 + 255 * 0x30000
     s.up = true ∧ s.halted = false ∧ off % 4 = 0 ∧ plainAt off = false ∧ s.target off = off ∧
     regIs off off (fun r => decide (r.bytes = 2 ^ (2 : Fin 4).val) && r.shadowed && !r.readOnly && ((s.advance 0).srwRanged off (merge r (s.reg off).toNat 0x20001)).isSome) = true ∧
     srwChan off = 255 ∧ off ≠ (R.CTX_SHADOW_CTRL_PENDING 255).key ∧ off ≠ (R.CTX_COMMIT_SEQ_SEQ 255).key ∧ off ≠ (landedField .host 255).key ∧
     s.flag (R.CTX_SHADOW_CTRL_HOLD 255) = true) ∧
    (let s := State.reset
     let off := K.PRF_CH_CFG 255
     s.target off = off ∧ regIs off off (fun r => decide (r.bytes = 2 ^ (2 : Fin 4).val) && r.shadowed && !r.readOnly &&
       decide ((s.advance 0).srwRanged off (merge r (s.reg off).toNat (2 ^ 32 - 1)) = none)) = true) ∧
    (let s := State.reset
     let off := 0x1002000 + 255 * 0x30000
     s.target off = off ∧ regIs off off (fun r => decide (r.bytes = 2 ^ (3 : Fin 4).val) && r.shadowed && !r.readOnly &&
       ((s.advance 0).srwRanged off (merge r (s.reg off).toNat (s.reg off).toNat)).isSome) = true) ∧
    (let s : State := { State.reset with srwPend := [0x1001018] }
     (s.shadowLog 0).hold (s.flag (R.CTX_SHADOW_CTRL_HOLD 0)) = false ∧ 0x1001018 ∈ s.srwPend ∧ srwChan 0x1001018 = 0 ∧
     (s.shadowLog 0).prior 0x1001018 = none ∧ (s.shadowLog 0).writes = [] ∧ (s.shadowLog 0).holds = [] ∧ 0x1001018 ∉ (landedFields 0).map (·.key)) ∧
    (let s : State := { State.reset with srwPend := [0x1001018], shadowNow := [(0, { writes := [(0x1001018, 0, some 5)] })] }
     (s.shadowLog 0).hold (s.flag (R.CTX_SHADOW_CTRL_HOLD 0)) = false ∧ (s.shadowLog 0).prior 0x1001018 = some (some 5)) ∧
    (let s := State.reset.setFlag (R.CTX_SHADOW_CTRL_HOLD 0) true
     (s.shadowLog 0).hold (s.flag (R.CTX_SHADOW_CTRL_HOLD 0)) = true) ∧
    (∀ p ∈ (tget (fun _ => {}) State.reset.shadowNow 0).holds, p.1 < seqCycle State.reset.raw) ∧ (State.reset.shadowLog 255).prior 0 = none ∧
    (let s := State.reset.setChan 255 { ({} : ChanSt) with running := true, anchor := some 0 }
     s.live = true ∧ s.running 255 = true ∧ s.gridOn 255 = true) ∧
    (State.reset.up = true ∧ State.reset.halted = false ∧ State.reset.flag (R.CTX_SHADOW_CTRL_HOLD 255) = false) := by
  decide +kernel

/-! ### Timebase -/

theorem witness_EpochsStepsAndRates :
    (let s := (State.reset.setFlag (R.CTX_BIND_VALID 255) true).set (R.CTX_BIND_THREAD 255) 9
     s.up = true ∧ s.halted = false ∧ s.boundThread 255 = some 9) ∧
    (Spec.fits (State.reset.getSigned R.TB_OFFSET + (BitVec.allOnes 64 >>> 1).toInt) ∧ State.reset.flag R.TB_STATUS_STEP_USED = false ∧
      (State.reset.setFlag R.TB_STATUS_STEP_USED true).flag R.TB_STATUS_STEP_USED = true) ∧
    (let s := State.reset
     Spec.fits (s.getSigned R.TB_OFFSET + ((s.tb.a : Int) + s.getSigned R.TB_RATE_NOW * ((max s.raw 7 : Nat) - s.tb.ra)) / 2 ^ 40) ∧
     (s.setFlag R.TB_CTRL_SERVO_EN true).flag R.TB_CTRL_SERVO_EN = true ∧ s.flag R.TB_CTRL_SERVO_EN = false ∧
     (BitVec.ofInt 64 (-219902325)).toInt.natAbs ≤ 219902325 ∧ 219902325 < (BitVec.ofInt 64 219902326).toInt.natAbs) := by
  unfold Spec.fits; decide +kernel

/-- The servo runs from source 0 at raw time 2 s, with the rate 0. -/
def steered (st : Nat) (used auto : Bool) (prev : Option Nat) : State :=
  { (((((State.reset.setFlag R.TB_CTRL_SERVO_EN true).set R.TB_CTRL_SOURCE 0).set R.TB_STATUS_STATE st).setFlag R.TB_STATUS_STEP_USED used).setFlag
      R.TB_CTRL_AUTO_STEP auto) with raw := 2000000000, tb := { ({} : TbState) with rPrev := prev, rLast := prev } }

/-- A sample at raw time 2 s whose master time lies `d` ns after local time meets the conditions that all processed samples meet. -/
def sampled (s : State) (d : Int) : Prop :=
  s.flag R.TB_CTRL_SERVO_EN = true ∧ s.tb.stepRaw = none ∧ 2000000000 ≤ s.raw ∧ s.get R.TB_CTRL_SOURCE = 0 ∧ s.tb.followStep = false ∧
  (∀ q ∈ s.tb.rLast.toList, q < 2000000000) ∧ 2000000000 + d - s.localAt 2000000000 = d ∧ Spec.fits d ∧ Spec.fits (s.getSigned R.TB_OFFSET + d)

theorem witness_ServoSamples :
    (State.reset.up = true ∧ State.reset.halted = false ∧ State.reset.flag R.TB_CTRL_SERVO_EN = false) ∧
    (∀ st ∈ [1, 2], let s := steered st false false none
      s.up = true ∧ s.get R.TB_STATUS_STATE = st ∧ s.tb.procRaw + 1000000 * s.get R.TB_THRESH_HOLD_MS ≤ max s.raw 10000000000) ∧
    (let s := steered 1 true true none
     ¬((∀ q ∈ s.tb.stepRaw.toList, q ≤ 2000000001) ∧ 2000000001 ≤ s.raw) ∧ s.get R.TB_CTRL_SOURCE ≠ 4 ∧
     ¬(∀ q ∈ (steered 1 true true (some 2000000000)).tb.rLast.toList, q < 2000000000)) ∧
    (let s := steered 1 false true none
     let d := ((s.get R.TB_THRESH_STEP_MIN_NS : Int) + 1)
     sampled s d ∧ s.flag R.TB_STATUS_STEP_USED = false ∧ s.flag R.TB_CTRL_AUTO_STEP = true ∧ s.get R.TB_THRESH_STEP_MIN_NS < d.natAbs) ∧
    (let s := steered 1 true true none
     let d := -(1000 * s.get R.TB_THRESH_BACK_THRESH_US : Int) - 1
     sampled s d ∧ s.flag R.TB_STATUS_STEP_USED = true ∧ d < -(1000 * s.get R.TB_THRESH_BACK_THRESH_US : Int) ∧ s.get R.TB_STATUS_STATE ≠ 4) ∧
    (let s := steered 1 true true none
     sampled s (-(1000 * s.get R.TB_THRESH_BACK_THRESH_US : Int)) ∧ s.tb.rPrev = none) ∧
    (let s := steered 1 true true (some 1000000000)
     sampled s 1000 ∧ s.tb.rPrev = some 1000000000 ∧ ¬((1000 : Int) < -(1000 * s.get R.TB_THRESH_BACK_THRESH_US : Int)) ∧
     (Spec.servo s 1000 ((2000000000 : Int) - 1000000000)).2.natAbs ≤ 219902325) := by
  unfold sampled Spec.fits; refine ⟨?_, ?_, ?_, ?_, ?_, ?_, ?_⟩ <;> decide +kernel

/-- Generator 7 with START and PERIOD in ns, WIDTH and the flag PERIODIC. -/
def generator (start period width : Nat) (periodic enabled : Bool) : State :=
  ((((State.reset.set (R.TB_PG_START_NS 7) start).set (R.TB_PG_PERIOD_NS 7) period).set (R.TB_PG_WIDTH_NS 7) width).setFlag (R.TB_PG_CTRL_PERIODIC 7)
    periodic).setFlag (R.TB_PG_CTRL_ENABLE 7) enabled

theorem witness_PulseGenerators :
    (∀ q ∈ [(generator 0 1000 999 true false, true), (generator 0 999 10 true false, false), (generator 0 1000 1000 true false, false)],
      q.1.up = true ∧ q.1.halted = false ∧ q.1.flag (R.TB_PG_CTRL_ENABLE 7) = false ∧ q.1.flag (R.TB_PG_CTRL_PERIODIC 7) = true ∧
      decide (1000 * 2 ^ 32 ≤ q.1.pgPeriod 7 ∧ q.1.get (R.TB_PG_WIDTH_NS 7) * 2 ^ 32 < q.1.pgPeriod 7) = q.2) ∧
    ((generator 1000 0 0 false false).flag (R.TB_PG_CTRL_PERIODIC 7) = false ∧
      ((State.reset.advance 0).now + 1000) * 2 ^ 32 ≤ ((generator 1000 0 0 false false).pgStart 7 : Int) ∧
      ((generator 999 0 0 false false).pgStart 7 : Int) < ((State.reset.advance 0).now + 1000) * 2 ^ 32) ∧
    (∀ w ∈ [0, 1], let s := generator 1000 0 w false true
      s.up = true ∧ s.flag (R.TB_PG_CTRL_ENABLE 7) = true ∧ s.flag R.AUD_START_ARM = false ∧ (s.pg 7).k = 0 ∧
      Spec.pulseTime s 7 (s.pg 7).k ≤ (s.advance 1000).now * 2 ^ 32) ∧
    (∀ st ∈ [true, false], let s : State := { generator 1000 0 10 false true with pgs := [(7, { ({} : Pg) with rose := some (1000, 1000), stepped := st })] }
      s.up = true ∧ (s.pg 7).rose = some (1000, 1000) ∧
      (if (s.pg 7).stepped = true then 1000 + s.get (R.TB_PG_WIDTH_NS 7) ≤ max s.raw 1010 else (1000 : Int) + s.get (R.TB_PG_WIDTH_NS 7) ≤ (s.advance 1010).now)) ∧
    (let s := generator 0 1000 10 true true
     s.flag R.TB_STATUS_STEP_USED = false ∧ s.flag (R.TB_PG_CTRL_ENABLE 7) = true ∧ s.flag (R.TB_PG_CTRL_PERIODIC 7) = true ∧ 0 < s.pgPeriod 7) := by
  decide +kernel

/-! ### Frame memory -/

/-- Frame memory works, in the mode SERVICE or not. -/
def memoryOn (service : Bool) : State := (State.reset.setFlag R.MEM_CTRL_ENABLE true).setFlag R.MEM_CTRL_MODE service

theorem witness_MemoryRequests :
    (∀ q ∈ [(0, 1), (0x20FFFFFFFF, 1)], Spec.serves (memoryOn false) q.1 q.2 ∧ (memoryOn false).up = true ∧
      ∀ b ∈ (memoryOn false).poison, 32 * b + 32 ≤ q.1 ∨ q.1 + q.2 ≤ 32 * b) ∧
    (Spec.serves { memoryOn true with poison := [1, 3] } 64 32 ∧ ∀ b ∈ [1, 3], 32 * b + 32 ≤ 64 ∨ 64 + 32 ≤ 32 * b) ∧
    (State.reset.flag R.MEM_CTRL_ENABLE = false ∧ State.reset.flag (R.MEM_SR_CTRL_IN_SR (State.reset.place 0).stack) = false) ∧
    (let s := (memoryOn true).setFlag (R.MEM_SR_CTRL_IN_SR 0) true
     s.up = true ∧ s.flag (R.MEM_SR_CTRL_IN_SR (s.place 0).stack) = true) := by
  unfold Spec.serves; decide +kernel

theorem witness_MemoryErrors :
    (∀ m ∈ [true, false], let s := (memoryOn m).set (R.MEM_SCRUB_CE_LIMIT (Spec.home (memoryOn m) 0x20FFFFFFE0).1) 0
      s.up = true ∧ Spec.serves s 0x20FFFFFFE0 32 ∧ s.get (R.MEM_SCRUB_CE_LIMIT (Spec.home s 0x20FFFFFFE0).1) = 0 ∧ s.poison = [] ∧
      s.flag R.MEM_CTRL_MODE = m ∧ s.get R.MEM_MIG_STATUS_STATE = 0) ∧
    ((State.reset.set (R.MEM_SCRUB_CE_LIMIT 3) 0).get (R.MEM_SCRUB_CE_LIMIT 3) = 0 ∧ State.reset.get R.MEM_REMAP_STATE ≠ 2) := by
  unfold Spec.serves; decide +kernel

/-- Rank 0 of stack 0 is migrating, with n units copied. -/
def migrating (n : Nat) : State := ((State.reset.set R.MEM_MIG_STATUS_STATE 1).set R.MEM_REMAP_STATE 1).set R.MEM_MIG_STATUS_PROGRESS n

theorem witness_MigrationAndSelfRefresh :
    (∀ n ∈ [3145726, 3145727], (migrating n).up = true ∧ (migrating n).get R.MEM_MIG_STATUS_STATE = 1 ∧ (migrating n).get R.MEM_REMAP_STATE = 1 ∧
      (migrating n).get R.MEM_MIG_STATUS_PROGRESS = n) ∧
    (let s := (State.reset.set R.HTH_PS_STATUS_STATE 2).setMemSt 3 { ({} : MemSt) with srWanted := true }
     s.up = true ∧ s.get R.HTH_PS_STATUS_STATE = 2 ∧ s.flag R.HTH_PS_STATUS_INGEST_HELD = false ∧ (s.memSt 3).srWanted = true ∧
     s.flag (R.MEM_SR_CTRL_IN_SR 3) = false ∧ (s.memSt 3).lastReq + 1000 * s.get (R.MEM_SR_CTRL_IDLE_US 3) ≤ max s.raw 1000000000) ∧
    (let r : MemReq := { q := .host, addr := 0x20FFFFFFFF, n := 1, data := some [7] }
     let s := ((memoryOn true).setFlag (R.MEM_SR_CTRL_IN_SR 0) true).setMemSt 0 { ({} : MemSt) with waiting := [r] }
     s.up = true ∧ s.flag (R.MEM_SR_CTRL_IN_SR 0) = true ∧ (s.memSt 0).waiting = [r] ∧ r.data = some [7] ∧ s.flag R.MEM_CTRL_ENABLE = true ∧
     r.addr + 1 ≤ 0x2100000000 ∧ r.since + 480 ≤ max s.raw 480) := by
  decide +kernel

/-! ### Sieve -/

/-- A record of class 5 with severity `sev` at raw time 1000, with suspect `sus`. -/
def rec5 (no sev sus : Nat) (acked : Bool) : SieveRec := ⟨1000, no, 94, 5, sev, sev, false, acked, false, false, sus, 1, 0, 0, 0⟩

/-- Source 447 has class 5 and severity v; the ring holds `l` in places 0 up. -/
def sieved (v : Nat) (l : List SieveRec) : State :=
  { ((State.reset.set (R.SIEVE_SRC_CFG_CLASS 447) 5).set (R.SIEVE_SRC_CFG_SEV 447) v).set R.SIEVE_RING_TAIL_TAIL l.length with
    recs := l.zipIdx.map (fun p => (p.2, p.1)), recno := l.length }

theorem witness_SieveReports :
    (∀ v ∈ [0, 1, 2, 3], let s := sieved v []
      s.up = true ∧ s.get (R.SIEVE_SRC_CFG_CLASS 447) = 5 ∧ s.get (R.SIEVE_SRC_CFG_SEV 447) = v ∧ s.recs = [] ∧ s.unacked = [] ∧ s.halted = false ∧
      (s.get R.SIEVE_RING_TAIL_TAIL + 512 - s.get R.SIEVE_RING_HEAD_HEAD) % 512 ≠ 511 ∧ tget (fun _ => 0) s.busy 127 = 0) ∧
    (let s := sieved 1 [rec5 1 1 0 false]
     (∀ p ∈ s.recs, p.2.suspect ≠ suspect kEngine 127) ∧ (∃ p ∈ s.recs, Spec.counts 1000 5 p.2 ∧ p.2.sev = 1) ∧
     (∀ p ∈ s.recs, Spec.counts 1000 5 p.2 → p.2.sev ≤ 1) ∧
     2 = max 1 (min (max 1 1 + 1) (s.get (R.SIEVE_CLASS_CFG_ESC_LIMIT 5)))) ∧
    (let s := sieved 1 [rec5 1 1 0 false]
     (0, rec5 1 1 0 false) ∈ s.recs ∧ Spec.folds s 101000 5 0 (rec5 1 1 0 false) ∧ ¬Spec.folds s 101003 5 0 (rec5 1 1 0 false) ∧ 1 ≤ (rec5 1 1 0 false).sev) ∧
    (let s := State.reset.set (R.ENG_STATUS_STATE 127) 5
     s.up = true ∧ s.halted = false ∧ (∀ r ∈ s.unacked, r.suspect ≠ suspect kEngine 127) ∧ s.get (R.ENG_STATUS_STATE 127) = 5) ∧
    ((447 : BitVec 10).toNat ≤ 447 ∧ 447 < (448 : BitVec 10).toNat) ∧
    (∃ r ∈ (sieved 0 [rec5 1 1 (suspect kEngine 127) false]).unacked, r.suspect = suspect kEngine 127) := by
  unfold Spec.folds Spec.counts; decide +kernel

theorem witness_SieveAcknowledgement :
    (let s := sieved 0 [rec5 1 1 0 false, rec5 2 1 0 true]
     s.up = true ∧ (0, rec5 1 1 0 false) ∈ s.recs ∧ (rec5 1 1 0 false).recno = (1 : BitVec 32).toNat ∧ (∀ p ∈ s.recs, p.2.recno = 1 → p = (0, rec5 1 1 0 false)) ∧
     ∀ p ∈ s.recs, p.2.recno = (2 : BitVec 32).toNat → p.2.acked = true) ∧
    (let s := sieved 0 [rec5 1 1 0 true, rec5 2 1 0 false]
     let head := s.get R.SIEVE_RING_HEAD_HEAD
     let used := (s.get R.SIEVE_RING_TAIL_TAIL + 512 - head) % 512
     (1 + 512 - head) % 512 ≤ used ∧ (∀ i < (1 + 512 - head) % 512, ∃ r ∈ s.recAt ((head + i) % 512), r.acked = true) ∧
     used < (3 + 512 - head) % 512 ∧ ∃ i < (2 + 512 - head) % 512, ∃ r ∈ s.recAt ((head + i) % 512), r.acked = false) := by
  decide +kernel

/-! ### Media ports and ingest -/

/-- Quad 3 works as one port (MODE 1) or four (MODE 3), and MAC 12 is enabled with its link `up`. -/
def ported (mode : Nat) (up : Bool) : State :=
  (((State.reset.set (R.MP_QUAD_CFG_MODE 3) mode).setFlag (R.MAC_CTRL_ENABLE 12) true).setFlag (R.MAC_STATUS_LINK_UP 12) up)

theorem witness_MediaPorts :
    (let s := ported 1 true
     s.ingestOn = true ∧ s.lanesOf 12 ≠ [] ∧ s.flag (R.MAC_CTRL_ENABLE 12) = true ∧ s.flag (R.MAC_STATUS_LINK_UP 12) = true) ∧
    (let s : State := { ported 1 false with ports := [(12, { held := true, cut := true })] }
     s.ingestOn = true ∧ s.lanesOf 12 ≠ [] ∧ s.flag (R.MAC_CTRL_ENABLE 12) = true ∧ s.flag (R.MAC_STATUS_LINK_UP 12) = false ∧
     (tget (fun _ => ({} : PortSt)) s.ports 12).cut = true) ∧
    (let s := (ported 3 true).setLane 15 { low := 15 }
     (s.portOfLane 15).isSome = true ∧ 11 < s.get (R.MP_LANE_EQ_EYE_FLOOR_MV 15) ∧ ¬12 < s.get (R.MP_LANE_EQ_EYE_FLOOR_MV 15) ∧ 15 ≤ (s.lane 15).low ∧
     s.flag (R.MP_LANE_EQ_AUTO_DFE 15) = true ∧ s.flag (R.MP_LANE_STATUS_DFE_ACTIVE 15) = false) ∧
    (let s := (ported 1 true).setFlag (R.MP_LANE_STATUS_LOCK 15) true
     s.portOfLane 15 = some 12 ∧ s.flag (R.MP_LANE_STATUS_LOCK 15) = true ∧ s.up = true ∧ s.halted = false) ∧
    (let s := ported 1 false
     s.ingestOn = true ∧ s.lanesOf 12 ≠ [] ∧ s.flag (R.MAC_STATUS_LINK_UP 12) = false ∧ s.portHeld 12 = false) := by
  decide +kernel

/-- A UDP packet to port 5004 with one transport packet, and its frame. -/
def packet : UdpPacket := ⟨false, [], [], 5004, 0, 0, 20, 0x47 :: List.replicate 187 0⟩
def frame0 (b : FrameBody) : RxFrame := ⟨0, 500, 500, ⟨64, true, false, none, b⟩⟩

/-- Flow 0 of KIND 4, bare UDP, is enabled under profile 7 for `packet`; entry 24876 is its compact entry, with n tokens. -/
def ingesting (kind maxPkt n : Nat) : State :=
  { (((((((((State.reset.setFlag R.ING_CTRL_ENABLE true).set R.ING_LOOKUP_CTRL_PROFILE_EN 0x80).set (R.ING_FLOW_KEYCTL_ENABLE 0) 1).setFlag
      (R.ING_FLOW_KEYCTL_SRC_ANY 0) true).set (R.ING_FLOW_PORTS_DPORT 0) 5004).set (R.ING_FLOW_KIND_KIND 0) kind).setFlag (R.ING_FLOW_KIND_BARE_UDP 0)
      true).set (R.ING_FLOW_KIND_MAX_PKT 0) maxPkt).setFt 24876 0 17).setFt 24876 1 3111647217 with ingFifo := [frame0 (.udp packet)] }.setFt 24876 4 n |>.setFt 24876 3 n

theorem witness_IngestPackets :
    (∀ q ∈ [(4, 215, 0), (4, 216, 215), (5, 216, 216), (4, 216, 216)], let s := ingesting q.1 q.2.1 q.2.2
      s.ingestOn = true ∧ s.raw ≤ 600 ∧ s.ingFifo = [frame0 (.udp packet)] ∧ (s.advance 600).nextFrame (frame0 (.udp packet)) [] = frame0 (.udp packet) ∧ s.flag R.ING_CTRL_ENABLE = true ∧
      s.lookup none packet = some 24876 ∧ bitAt (s.ft 24876 0) 1 = false ∧ bitAt (s.ft 24876 0) 5 = false ∧ Spec.flowOf s 24876 = 0 ∧
      s.get (R.ING_FLOW_KIND_MAX_PKT 0) = q.2.1 ∧ (Spec.refilled s 24876 600).1 = q.2.2 ∧ (s.parse 0 packet).isSome = decide (q.1 = 4)) ∧
    (let s : State := { State.reset.setFlag R.ING_CTRL_ENABLE true with ingFifo := [frame0 .other] }
     s.ingestOn = true ∧ s.ingFifo = [frame0 .other] ∧ (s.advance 0).nextFrame (frame0 .other) [] = frame0 .other ∧ s.flag R.ING_CTRL_ENABLE = true ∧ (frame0 .other).frame.body = .other ∧ packet.dport ≠ 319 ∧
     packet.dport ≠ 320 ∧ s.lookup none packet = none) ∧
    (let s := (State.reset.setFt 32767 0 1)
     s.ingestOn = true ∧ bitAt (s.ft 32767 0) 0 = true ∧ bitAt (s.ft 32767 0) 1 = false ∧ bitAt (s.ft 32766 0) 1 = false ∧ 32767 ∉ s.flowBad) ∧
    (let s := (State.reset.setFlag (R.ING_PAIR_CFG_ENABLE 2047) true).setPair 2047 { ({} : PairSt) with lastA := some 0, lastB := some 1 }
     s.ingestOn = true ∧ s.flag (R.ING_PAIR_CFG_ENABLE 2047) = true ∧ (s.pair 2047).silent = none ∧ (s.pair 2047).lastA.getD (s.pair 2047).since = 0 ∧
     (s.pair 2047).lastB = some 1 ∧ 0 + 10000000 ≤ max s.raw 10000000) := by
  decide +kernel

/-- Pair 0 with highest number h and number h marked by path A. -/
def paired (h : Nat) : State := State.reset.setPair 0 { ({} : PairSt) with highest := some h, marks := [(h, 1)] }

/-- Flows 0 and 1 are paths B and A of pair 0; entry 5416 finds flow 1 for a packet to port 5005. -/
def twoPaths : State :=
  let s := (ingesting 4 216 216).setFlag (R.ING_PAIR_CFG_ENABLE 0) true
  let s := ((s.setFlag (R.ING_FLOW_MERGE_IN_PAIR 0) true).setFlag (R.ING_FLOW_MERGE_PATH_B 0) true).setFlag (R.ING_FLOW_MERGE_IN_PAIR 1) true
  let s := ((s.set (R.ING_FLOW_KEYCTL_ENABLE 1) 1).setFlag (R.ING_FLOW_KEYCTL_SRC_ANY 1) true).set (R.ING_FLOW_PORTS_DPORT 1) 5005
  (((s.set (R.ING_FLOW_KIND_KIND 1) 4).setFlag (R.ING_FLOW_KIND_BARE_UDP 1) true).setFt 5416 0 (17 + 65536)).setFt 5416 1 9186329

theorem witness_MergeAndPlacement_paths :
    let r := frame0 (.udp packet)
    let x := frame0 (.udp { packet with dport := 5005 })
    twoPaths.mergeKey r = some (0, true, 0) ∧ x ∈ [x] ∧ twoPaths.mergeKey x = some (0, false, 0) ∧ fabCycle x.came = fabCycle r.came ∧
    twoPaths.nextFrame r [x] = x := by
  decide +kernel

theorem witness_MergeAndPlacement :
    ((State.reset.pair 0).highest = none ∧ ((paired 5).pair 0).highest = some 5 ∧ (paired 5).get (R.ING_PAIR_CFG_WINDOW 0) = 1024 ∧
      (∃ m ∈ ((paired 5).pair 0).marks, m.1 = 5)) ∧
    (∀ q ∈ [(5, 1048582, 1048577), (5, 1048581, 1048576), (5, 6, 1), (5, 5, 0), (1023, 0, -1023), (1024, 0, -1024)],
      signedOf ((q.2.1 + 2 ^ 32 - q.1) % 2 ^ 32) 32 = q.2.2) ∧
    (let s := (State.reset.setFlag (R.ING_FLOW_MERGE_IN_PAIR 0) true).setFlag (R.ING_PAIR_CFG_ENABLE 0) true
     s.merges 0 = true) ∧
    (∀ q ∈ [(5, 6, Merge.accept), (5, 5, .duplicate), (1024, 0, .stale)], ((paired q.1).mergePacket 0 true q.2.1).2 = q.2.2) ∧
    (let fr : FrameSt := { n := 3, inst := 0, rtp := 0, token := some 2 }
     let s := State.reset.setChan 255 { ({} : ChanSt) with frames := [fr] }
     s.frameSt 255 3 = some fr ∧ fr.token = some 2) := by
  decide +kernel

/-! ### Proofing and scaling -/

/-- Channel 0 runs in sub-frame mode with the source 64 by 128 pixels of flow 0, its grid anchored at 0, rendition 0 enabled, and the proofing slot `sl` of a
channel that has analysed a picture. -/
def slotted (sl : SlotRec) : State :=
  { (((((State.reset.setFlag (R.ING_FLOW_KEYCTL_ENABLE 0) true).set (R.ING_FLOW_VIDEO_WIDTH 0) 64).set (R.ING_FLOW_VIDEO_HEIGHT 0) 128).setFlag
      (R.CTX_REND_CODEC_ENABLE 0 0) true).setFlag R.PRF_CTRL_ENABLE true) with
    adm := [(0, { ({} : Adm) with admitted := true, subframe := true })],
    chans := [(0, { ({} : ChanSt) with running := true, anchor := some 0, slot := sl, hist := true })] }

theorem witness_ProofingSlots :
    (let s := slotted {}
     s.live = true ∧ s.running 0 = true ∧ s.subframe 0 = true ∧ s.gridOn 0 = true ∧ (s.chan 0).slot.on = false ∧ (s.advance 12000).reached (s.slotStart 0 0 0) = true) ∧
    (∀ r ∈ [true, false], let s := slotted { ({} : SlotRec) with on := true, rep := r }
      s.running 0 = true ∧ (s.chan 0).slot.on = true ∧ (s.chan 0).slot.rep = r ∧ (s.chan 0).slot.ecc = [] ∧
      (s.advance 12000).reached (s.slotStart 0 0 0 + ns (s.tSlot 0)) = true ∧ s.rendsOn 0 = [0]) ∧
    (State.reset.up = true ∧ State.reset.halted = false ∧ tget (fun _ => 0) State.reset.busy 2007 = 0 ∧ tget (fun _ => 0) State.reset.sclOwn 7 = 0) := by
  decide +kernel

/-! ### Encoding and proof -/

/-- Engine 127 works for task 0 on column 0 of a unit of channel 0, rendition 0. -/
def coding (k : ColSt) (window : Nat) : State :=
  { State.reset with
    busy := [(127, 1)], tasks := [(0, { ({} : TaskEntry) with st := .running, unit := 127 })],
    units := [{ ch := 0, rend := 0, idx := 0, src := 0, band := 0, snap := 1, window := window, cols := [{ k with task := some 0 }] }] }

theorem witness_CodedTreeUnits :
    (∀ n ∈ [1, 3], let s := coding { ({} : ColSt) with total := n } 100
      s.live = true ∧ ∃ w ∈ (s.engineWork 127).toList, w.1.staged = false ∧ w.2.2.inflight = false ∧ w.2.2.done < w.2.2.total ∧ w.2.2.crust = false ∧ w.2.2.rep = false ∧
        w.1.rolled = false) ∧
    (∀ c ∈ [true, false], let s := coding { ({} : ColSt) with total := 1, inflight := true, crust := c } 100
      ∃ w ∈ (s.engineWork 127).toList, w.1.staged = false ∧ w.2.2.inflight = true ∧ w.2.2.rep = false ∧ w.2.2.crust = c ∧
        ((100 : Nat) : Int) ≤ (w.1.window : Int) - w.1.committed - (w.1.left - 1) * s.reserve w.1 ∧
        ¬((101 : Nat) : Int) ≤ (w.1.window : Int) - w.1.committed - (w.1.left - 1) * s.reserve w.1) ∧
    (let s : State := { slotted {} with units := (coding {} 100).units }
     s.live = true ∧ s.running 0 = true ∧ s.flag (R.CTX_REND_CODEC_ENABLE 0 0) = true ∧ s.subframe 0 = true ∧
     ∃ u ∈ ((s.unitsOf 0 0).find? (fun v => !v.staged)).toList, u.left = 0 ∧ s.gridOn 0 = true ∧ (s.advance 11999).reached (s.deadline 0 u.idx u.band) = false ∧
       (s.advance 12000).reached (s.deadline 0 u.idx u.band) = true) ∧
    (let s : State := { State.reset.setFlag (R.TRAY_CTRL_CACHE_EN 15) true with trayLines := [(15, [1])] }
     s.flag (R.TRAY_CTRL_CACHE_EN 15) = true ∧ 511 / 256 ∈ tget (fun _ => []) s.trayLines 15 ∧ 512 / 256 ∉ tget (fun _ => []) s.trayLines 15) := by
  decide +kernel

/-- The vectors of blocks in a clean area 128 samples wide, of which no block may use the last 8. -/
theorem witness_CodedTreeUnits_motion :
    let u : UnitSt := { ch := 0, rend := 0, idx := 0, src := 0, band := 0, snap := 0, window := 0, cols := [] }
    let s : State := { slotted {} with landed := [⟨(R.CTX_REFRESH_PERIOD 0).key, 0, BitVec.ofNat 64 (4 * 2 ^ (R.CTX_REFRESH_PERIOD 0).lo)⟩] }
    let s := s.setRend 0 0 { ({} : RendSt) with pos := 2, slots := [(0, { ({} : RefSlot) with mark := 1, pos := 3 })] }
    s.inClean u ⟨0, 0⟩ = true ∧
    ∀ q ∈ [(MotionFound.searched .zero 500 5, (128, 5)), (.searched .zero (-3) (-500), (-3, -64)), (.merged 448 3, (448, 3)), (.temporal 2 2, (2, 2))],
      s.vectorOf u ⟨0, 0⟩ 0 ⟨0, 0, 8, 8, 0, q.1⟩ = some q.2 := by
  decide +kernel

/-- A proof of channel 0 whose first run, if any, is `first`, run by engine 5 or waiting. -/
def proof0 (runner : Option Nat) (first : Option (Nat × Word)) : Proof :=
  { ch := 0, rend := 0, column := 0, band := 0, snap := 1, coder := 3, crc := 7, ctus := 4, slots := [], emitted := 0, runner := runner, first := first }

theorem witness_EnginesAndProofs :
    (let s := coding {} 0
     s.live = true ∧ tget (fun _ => 0) s.busy 127 ≠ 0 ∧ (s.task (tget (fun _ => 0) s.busy 127 - 1)).unit = 127 ∧ tget (fun _ => 0) s.busy 0 = 0) ∧
    (∀ l ∈ [[], [rec5 1 1 (suspect kEngine 127) false]], let s := (sieved 0 l).set (R.ENG_STATUS_STATE 127) 5
      s.live = true ∧ s.get (R.ENG_STATUS_STATE 127) = 5 ∧ (l = [] → ∀ r ∈ s.unacked, r.suspect ≠ suspect kEngine 127) ∧
      (l ≠ [] → ∃ r ∈ s.unacked, r.suspect = suspect kEngine 127)) ∧
    (∀ f ∈ [none, some (4, 9)], let s : State := { State.reset with proofs := [proof0 (some 5) (f.map (fun p => (p.1, BitVec.ofNat 64 p.2)))] }
      s.live = true ∧ s.proofs.find? (fun q => decide (q.runner = some (5 : Eng).val)) = some (proof0 (some 5) (f.map (fun p => (p.1, BitVec.ofNat 64 p.2))))) ∧
    (let s : State := { State.reset with proofs := [proof0 (some 5) none] }
     tget (fun _ => 0) s.busy 5 = 0 ∧ ∃ w ∈ (s.worstNs 5).toList, w.1 + 4 * w.2 < max s.raw (w.1 + 4 * w.2 + 1)) ∧
    (let s := coding {} 0
     ∃ w ∈ (s.worstNs 127).toList, max s.raw (w.1 + 4 * w.2) ≤ w.1 + 4 * w.2 ∧ w.1 + 4 * w.2 < max s.raw (w.1 + 4 * w.2 + 1)) ∧
    (let s : State := { State.reset with proofs := [proof0 none none] }
     s.proofs.find? (fun q => q.runner.isNone &&
       decide ((q.emitted : Int) * 2 ^ 32 + s.getIn (R.CTX_QUALITY_PROOF_AGE q.ch) q.snap * s.period q.ch ≤ (max s.raw 0 : Nat) * 2 ^ 32)) = some (proof0 none none)) := by
  decide +kernel

/-! ### Decoding -/

/-- Channel 0 decodes; its pictures are `l` and its access units `a`. -/
def decoder (l : List Pic) (a : List Au) (b : List OutBuf) : State :=
  { (State.reset.setFlag (R.DEC_CFG_ENABLE 0) true).set (R.RC_CH_DELAY_D 0) 0 with
    chans := [(0, { ({} : ChanSt) with running := true })],
    decs := [(0, { ({} : DecSt) with pics := l, aus := a, bufs := b })] }

theorem witness_DecodeChannels :
    (let s := (decoder [] [] []).set (R.DEC_GRID_BASE_NS 0) 100
     s.live = true ∧ s.running 0 = true ∧ s.flag (R.DEC_CFG_ENABLE 0) = true ∧ (s.advance 99).reached (s.tFrame 0 (s.decOf 0).outN) = false ∧
     (s.advance 100).reached (s.tFrame 0 (s.decOf 0).outN) = true ∧ (s.decOf 0).aus = []) ∧
    (let l : List Pic := [⟨1, -5, 1, false, 0⟩, ⟨2, 0, 1, false, 3⟩, ⟨3, 2 ^ 39, 1, false, 0⟩]
     let s := (decoder l [] []).set (R.DEC_GRID_BASE_NS 0) 100
     let p : Pic := ⟨2, 0, 1, false, 3⟩
     let time := s.tFrame 0 (s.decOf 0).outN
     let cycle := fabCycle (((s.advance 100).raw : Int) - ((s.advance 100).now - time / 2 ^ 32)).toNat
     p ∈ (s.decOf 0).pics ∧ p.pres + ns (s.delayNs 0) ≤ time ∧ fabCycle p.endedAt < cycle ∧ ¬fabCycle 100 < cycle ∧
     (∀ x ∈ (s.decOf 0).pics, x.pres + ns (s.delayNs 0) ≤ time → x ≠ p → x.pres < 0) ∧
     ∀ x ∈ ((decoder [⟨3, 2 ^ 39, 1, false, 0⟩] [] []).decOf 0).pics, ¬x.pres + ns (s.delayNs 0) ≤ time) ∧
    (let u : Au := { no := 0, ts := 0, arrival := 0, lastPkt := 0, bytes := 1 }
     let s := decoder [] [u] []
     (s.decOf 0).aus.getLast? = some u ∧ u.closed = none ∧ u.lastPkt + 1000 * s.get (R.DEC_AU_TIMEOUT_US 0) ≤ max s.raw 100000000) ∧
    (let s := decoder [] [] [{ ix := 63, ref := false, done := true, host := true }]
     s.up = true ∧ s.halted = false ∧ (∀ b ∈ (s.decOf 0).bufs, b.ix = (63 : BitVec 6).toNat → b.ref = false ∧ b.done = true ∧ b.trans = false) ∧
     (s.decOf 0).shown.map (·.buf) ≠ some (63 : BitVec 6).toNat) := by
  decide +kernel

/-! ### Audio -/

/-- Audio runs with buffer 511 (RATE96 as given) of 64 channels and DEPTH 48, whose channels 0 and 63 an enabled ingest flow of one or 64 channels writes. -/
def buffered (r96 : Bool) (x : SbSt) : State :=
  { (((((((((State.reset.setFlag R.AUD_CTRL_ENABLE true).setFlag (R.AUD_SB_CFG_ENABLE 511) true).setFlag (R.AUD_SB_CFG_RATE96 511) r96).set (R.AUD_SB_CFG_CHANNELS 511) 64).set
      (R.AUD_SB_CFG_DEPTH 511) 48).set (R.AUD_SB_CFG_READ_LAT 511) 0).set (R.ING_FLOW_KEYCTL_ENABLE 2047) 1).set (R.ING_FLOW_KIND_KIND 2047) 1).set (R.ING_FLOW_KIND_DEST 2047) 511).set
      (R.AUD_FLOW_MAP_CHANNELS 2047) 64 with
    sbs := [(511, x)] }

/-- TDM port 7 runs with the parts `x`. -/
def clocked (x : TdmSt) : State :=
  { ((State.reset.setFlag R.AUD_CTRL_ENABLE true).setFlag (R.AUD_PORT_CFG_ENABLE 7) true).setFlag (R.AUD_PORT_STATUS_RUNNING 7) true with
    tdms := [(7, x)] }

theorem witness_AudioBuffersAndPorts :
    (∀ m ∈ [0, 1], ∀ n ∈ [-1, 0, 47, 48], let s := buffered false { valid := [(47, m * 2 ^ 63)] }
      511 < 512 ∧ s.sbOn 511 = true ∧ 63 < s.get (R.AUD_SB_CFG_CHANNELS 511) ∧ 0xFFFFFF < 2 ^ 24 ∧ 0 ≤ s.readPos 511 ∧
      (n < s.readPos 511 ↔ n = -1) ∧ (s.readPos 511 + s.get (R.AUD_SB_CFG_DEPTH 511) ≤ n ↔ n = 48) ∧
      (bitAt (tget (fun _ => 0) (s.sb 511).valid n.toNat) 63 = true ↔ n = 47 ∧ m = 1)) ∧
    (∀ r ∈ [true, false], let s := buffered r { valid := [(1, 2 ^ 63)] }
      s.live = true ∧ s.flag R.AUD_CTRL_ENABLE = true ∧ (∀ p < 8, s.flag (R.AUD_PORT_STATUS_RUNNING p) = false) ∧ s.sbOn 511 = true ∧
      s.flag (R.AUD_SB_CFG_RATE96 511) = r ∧ (s.sb 511).lastR ≠ some ((s.advance (if r then 10417 else 20834)).readPos 511) ∧
      (s.advance (if r then 10417 else 20834)).readPos 511 = 1 ∧ (∀ q ∈ (s.sb 511).valid, (1 : Int) ≤ q.1) ∧
      bitAt (s.liveMask 511) 0 = true ∧ bitAt (s.liveMask 511) 63 = true) ∧
    (∀ d ∈ [0, 1], ∀ inv ∈ [true, false], let s := ((clocked { tx := [[1, 2]], rx := List.replicate 7 [] }).set (R.AUD_PORT_CFG_DELAY 7) d).setFlag (R.AUD_PORT_CFG_BCLK_INV 7) inv
     let x := s.tdm 7
     s.get (R.AUD_PORT_CFG_DELAY 7) = d ∧ s.flag (R.AUD_PORT_CFG_BCLK_INV 7) = inv ∧ 32 * 0 + d + 31 < 32 * s.slots 7 ∧
     s.live = true ∧ s.flag (R.AUD_PORT_STATUS_RUNNING 7) = true ∧ s.flag R.AUD_CTRL_ENABLE = true ∧ s.flag (R.AUD_PORT_CFG_ENABLE 7) = true ∧ x.startAt = none ∧
     x.pendRx = false ∧ x.pendTx = false ∧ x.rx.length < 8 ∧ x.tx = [1, 2] :: []) ∧
    (fabCycle State.reset.raw < fabCycle 10 ∧ (State.reset.tdm 7).pendTx = false ∧ (State.reset.tdm 0).pendRx = false) ∧
    (State.reset.up = true ∧ State.reset.halted = false ∧ State.reset.flag R.AUD_START_ARM = false ∧ State.reset.pgOwner (7 : BitVec 3).toNat = none ∧
      (State.reset.setFlag (R.TB_PG_CTRL_PIN_EN 7) true).pgOwner (7 : BitVec 3).toNat = some (K.TB_PG_CTRL 7) ∧
      (State.reset.setFlag (R.TB_PG_CTRL_PIN_EN 7) true).flag R.AUD_START_ARM = false) ∧
    (let s := clocked { lastFs := 1000 }
     s.live = true ∧ s.flag (R.AUD_PORT_STATUS_RUNNING 7) = true ∧ s.flag (R.AUD_PORT_CFG_CLK_OUT 7) = false ∧ s.flag (R.AUD_PORT_STATUS_NO_CLOCK 7) = false ∧
     (s.tdm 7).lastFs * rateOf (s.flag (R.AUD_PORT_CFG_RATE96 7)) + 2000000000 ≤ max s.raw 42667 * rateOf (s.flag (R.AUD_PORT_CFG_RATE96 7)) ∧
     ¬(s.tdm 7).lastFs * rateOf (s.flag (R.AUD_PORT_CFG_RATE96 7)) + 2000000000 ≤ max s.raw 42666 * rateOf (s.flag (R.AUD_PORT_CFG_RATE96 7))) ∧
    (∀ d ∈ [0, 65535], let s := (State.reset.setFlag R.AUD_VCXO_CFG_ENABLE true).set R.AUD_VCXO_GAIN_DUTY_MAX d
      s.live = true ∧ s.flag R.AUD_VCXO_CFG_ENABLE = true ∧ (s.advance 0).now / 1000000 ≠ s.vcxo.lastMs ∧ s.flag R.AUD_VCXO_STATUS_LOCKED = false ∧
      s.vcxo.limit < 999 ∧ s.get R.AUD_VCXO_GAIN_DUTY_MIN ≤ s.get R.AUD_VCXO_GAIN_DUTY_MAX) := by
  refine ⟨?_, ?_, ?_, ?_, ?_, ?_, ?_⟩ <;> decide +kernel

/-! ### Egress and transport -/

/-- Media port 15 is up, egress runs, and its scheduler holds `x`. -/
def wired (x : TxPort) : State :=
  { (State.reset.setFlag R.EGR_CTRL_ENABLE true).setFlag (R.MAC_STATUS_LINK_UP 15) true with egPorts := [(15, x)] }

/-- A frame of flow 16383. -/
def frame1 : TxFrame := { flow := 16383, len := 1518, body := .nal 0 1400 }

theorem witness_EgressScheduling :
    (State.reset.setFlag (R.EGR_FLOW_CTRL_DUAL 16383) true).flag (R.EGR_FLOW_CTRL_DUAL 16383) = true ∧
    (∀ q ∈ [0, 1, 3], let s := wired { sp := [(q, [frame1])] }
      s.live = true ∧ s.flag R.EGR_CTRL_ENABLE = true ∧ s.flag (R.MAC_STATUS_LINK_UP 15) = true ∧ (s.txPort 15).cur = none ∧ s.flag (R.EGR_GATE_CTRL_ENABLE 15) = false ∧
      q < 4 ∧ (∀ j < q, (s.txPort 15).spq j = []) ∧ (s.txPort 15).spq q = frame1 :: [] ∧ (s.advance 9).heldForSp1 15 q frame1.len = false) ∧
    (let s := wired { cur := some (0, frame1, 500) }
     s.live = true ∧ (s.txPort 15).cur = some (0, frame1, 500) ∧ 500 ≤ max s.raw 500 ∧ max s.raw 499 < 500) ∧
    (let s := ((wired {}).set (R.EGR_GATE_CTRL_LENGTH 15) 256).set (R.EGR_GATE_CYCLE_NS 15) 1
     s.flag (R.EGR_GATE_CTRL_PENDING 15) = false ∧ s.get (R.EGR_GATE_CTRL_LENGTH 15) ≠ 0 ∧ 0 < s.get (R.EGR_GATE_CYCLE_NS 15)) ∧
    (wired {}).get (R.EGR_GATE_CTRL_LENGTH 15) = 0 ∧
    (let s := ((wired {}).setFlag (R.EGR_GATE_CTRL_PENDING 15) true).set (R.EGR_GATE_CHANGE_TIME_NS 15) 500
     s.flag (R.EGR_GATE_CTRL_PENDING 15) = true ∧ (s.get (R.EGR_GATE_CHANGE_TIME_NS 15) : Int) ≤ (s.advance 500).now ∧
     (s.advance 499).now < s.get (R.EGR_GATE_CHANGE_TIME_NS 15)) ∧
    ((wired { operAt := some 0, operCycle := 1000, operLen := 2 }).setFlag (R.EGR_GATE_CTRL_ENABLE 15) true).gatesOn 15 = true ∧
    (∀ u ∈ [1, 2], let s := (State.reset.set (R.MUX_SRTP_CFG_SUITE 511) u).setFlag (R.EGR_FLOW_CTRL_ENABLE 16383) true
      s.up = true ∧ s.halted = false ∧ s.get (R.MUX_SRTP_CFG_USERS 511) = 0 ∧ s.get (R.MUX_SRTP_CFG_SUITE 511) = u ∧
      s.flag (R.EGR_FLOW_CTRL_ENABLE 16383) = true ∧ s.flag (R.MUX_SRTP_CFG_VALID 511) = false ∧
      (s.setFlag (R.MUX_SRTP_CFG_VALID 511) true).flag (R.MUX_SRTP_CFG_VALID 511) = true ∧ State.reset.flag (R.EGR_FLOW_CTRL_ENABLE 16383) = false) := by
  decide +kernel

/-- Channel 0 in frame or sub-frame mode with the unit `u` of rendition 0. -/
def leaving (sub : Bool) (u : UnitSt) : State :=
  { slotted {} with
    adm := [(0, { ({} : Adm) with admitted := true, subframe := sub })], units := [u] }

/-- A unit of channel 0, rendition 0. -/
def unit0 : UnitSt := { ch := 0, rend := 0, idx := 0, src := 0, band := 0, snap := 1, committed := 800 }

theorem witness_TransportReleases :
    (∀ b ∈ [true, false], ∀ g ∈ [true, false], let s := leaving b { unit0 with staged := g }
      s.live = true ∧ s.staged = [] ∧ (s.unitsOf 0 0).head? = some { unit0 with staged := g } ∧ ({ unit0 with staged := g } : UnitSt).overdue = false ∧ s.subframe 0 = b ∧
      (s.advance 499999).reached (s.unitRelease { unit0 with staged := g }) = false ∧ (s.advance 500000).reached (s.unitRelease { unit0 with staged := g }) = true) ∧
    (let u : UnitSt := { unit0 with staged := true, overdue := true }
     let s := leaving true u
     s.live = true ∧ (s.unitsOf 0 0).head? = some u ∧ u.overdue = true ∧ u.staged = true ∧ s.flag R.RC_STATUS_VALID = false) ∧
    (∀ k ∈ [0, 3], ∀ l ∈ [none, some 5], let s : State :=
        { (((slotted {}).setFlag (R.EGR_FLOW_CTRL_ENABLE 16383) true).setFlag (R.EGR_FLOW_CTRL_GATED 16383) true).set (R.EGR_FLOW_CTRL_KIND 16383) k with
          egFlows := [(16383, { ({} : FlowTx) with lastRel := l })] }
      s.live = true ∧ s.staged = [] ∧ s.flag (R.EGR_FLOW_CTRL_ENABLE 16383) = true ∧ s.flag (R.EGR_FLOW_CTRL_GATED 16383) = true ∧ s.egKind 16383 ≤ 3 ∧
      (s.advance 500000).reached (s.releaseTime (s.get (R.EGR_FLOW_SRC_STREAM 16383) / 8) 0 0) = true ∧
      (s.flowTx 16383).lastRel = l ∧ (5 : Int) + (if s.egKind 16383 ≤ 1 then 1 else (2 * s.dgramTime (s.get (R.EGR_FLOW_SRC_STREAM 16383)) : Nat) : Int) ≤
        s.releaseTime (s.get (R.EGR_FLOW_SRC_STREAM 16383) / 8) 0 0) ∧
    (let s : State := { (((State.reset.setFlag R.MUX_CTRL_ENABLE true).setFlag (R.MUX_STR_CFG_ENABLE 2047) true).set (R.MUX_STR_CFG_FORMAT 2047) 1).set
        (R.MUX_STR_RATE_TS_RATE_KBPS 2047) 10528 with
        strs := [(2047, { ({} : StrSt) with t0 := some 0, j := 1 })] }
     s.live = true ∧ s.staged = [] ∧ (s.str 2047).pcrAt = none ∧ s.tsOn 2047 = true ∧ (s.str 2047).t0.isSome = true ∧ s.get (R.MUX_STR_RATE_TS_RATE_KBPS 2047) ≠ 0 ∧
     max s.raw 999999 * 2 ^ 32 < s.cadence 2047 (s.str 2047) ∧ s.cadence 2047 (s.str 2047) ≤ max s.raw 1000000 * 2 ^ 32) ∧
    (let e : Scte := { snap := 1, id := 0, prog := 0, outNet := false, sentAt := 0 }
     let s : State := { slotted {} with chans := [(0, { ({} : ChanSt) with running := true, anchor := some 0, sctes := [e], handed := 1 })] }
     let t := s.setFlag R.MUX_CTRL_ENABLE true
     s.live = true ∧ (s.chan 0).sctes.find? (fun e => decide (e.sentAt + 1000000000 ≤ max s.raw 1000000000)) = some e ∧
     s.releaseTime 0 (s.frameOfSnap 0 e.snap) 0 ≤ (s.advance 1000000000).now * 2 ^ 32 ∧
     (let s := s.setChan 0 { s.chan 0 with anchor := some (2 ^ 64) }
      (s.advance 1000000000).now * 2 ^ 32 < (s.advance 1000000000).releaseTime 0 ((s.advance 1000000000).frameOfSnap 0 e.snap) 0) ∧ s.staged = [] ∧
     t.live = true ∧ t.running 0 = true ∧ t.flag R.MUX_CTRL_ENABLE = true ∧ (t.advance 500000).reached (t.tFrame 0 (t.chan 0).ancN + ns (t.delayNs 0)) = true ∧
     (t.chan 0).ancN < (t.chan 0).handed + (t.chan 0).first) ∧
    (∀ i ∈ [0, 3], let s : State := { ((slotted {}).setFlag (R.EGR_FLOW_CTRL_ENABLE 16383) true).set (R.EGR_FLOW_CTRL_KIND 16383) 4 with
          egFlows := [(16383, { ({} : FlowTx) with vid := some (0, none), vidI := i })] }
      s.live = true ∧ (s.flowTx 16383).vid = some (0, none) ∧ s.flag (R.EGR_FLOW_CTRL_ENABLE 16383) = true ∧ s.egKind 16383 = 4 ∧ (s.flowTx 16383).vidI < 4 ∧
      1400 ≤ s.get (R.EGR_FLOW_SRC_MAX_PAYLOAD 16383) ∧
      (s.advance 0).reached (s.tFrame (s.get (R.EGR_FLOW_SRC_STREAM 16383) / 8) 0 + ((s.flowTx 16383).vidI * s.period (s.get (R.EGR_FLOW_SRC_STREAM 16383) / 8) / 4 : Nat)) = true) := by
  refine ⟨?_, ?_, ?_, ?_, ?_, ?_⟩ <;> decide +kernel

/-! ### The host and the DMA engine -/

/-- Firmware runs and ring 15 of `size` entries is served; it holds `h`. -/
def ringed (size : Nat) (h : HcrSt) : State :=
  { ((State.reset.set R.GCTL_BOOT_STATUS_STAGE 2).set (R.HCR_CFG_SIZE 15) size).setFlag (R.HCR_CFG_ENABLE 15) true with hcrs := [(15, h)] }

/-- A command of an opcode for a channel, with PARAMS `p` and zeros after. -/
def order (op ch : Nat) (p : List Nat) (bad : Bool := false) : HostCmd := ⟨op, 7, ch, padTo 48 (p.map (BitVec.ofNat 8)), bad⟩

/-- No channel (R555). -/
def noCh : Nat := 0xFFFFFFFF

theorem witness_HostRings :
    (∀ v ∈ [0, 3, 5], let s := ringed 4 { tail := 0 }
      s.up = true ∧ s.halted = false ∧
      ((s.hcrOn 15 = true ∧ (BitVec.ofNat 32 v).toNat < s.hcrSize 15 ∧
        around (s.hcrSize 15) (s.get (R.HCR_SQ_HEAD_HEAD 15)) (s.hcr 15).tail + around (s.hcrSize 15) (s.hcr 15).tail (BitVec.ofNat 32 v).toNat ≤ s.hcrSize 15 - 1) ↔ v ≠ 5) ∧
      ((BitVec.ofNat 32 v).toNat = (s.hcr 15).tail ↔ v = 0)) ∧
    (∀ op ∈ [1, 2], let s := ringed 4 { tail := 1, fetched := 0 }
      s.firmware = true ∧ s.hcrOn 15 = true ∧ (s.hcr 15).fetched ≠ (s.hcr 15).tail ∧ s.cqRoom 15 = true ∧ (s.hcr 15).cmds = [] ∧
      (opcodes.contains (hostCmd [BitVec.ofNat 8 op]).opcode = true ↔ op = 1)) ∧
    (let s := ringed 4 { tail := 3, fetched := 2, cmds := [order 1 noCh [], order 1 noCh [], order 1 noCh []] }
     s.firmware = true ∧ s.hcrOn 15 = true ∧ (s.hcr 15).fetched ≠ (s.hcr 15).tail ∧ s.cqRoom 15 = false) ∧
    (∀ rest ∈ [[], [order 0x22 noCh []]], let w := ringed 2 { cmds := order 1 noCh [] :: rest }
      (w.hcr 15).cmds = order 1 noCh [] :: rest ∧ 2 ≤ w.hcrSize 15 ∧ ∀ d ∈ rest.head?, opcodes.contains d.opcode = true) ∧
    (∀ p ∈ [(0x0001, false), (0x0010, true), (0x0011, true), (0x0012, true), (0x0020, false), (0x0021, false), (0x0022, false)],
      let s := ringed 2 { cmds := [order p.1 256 []] }
      s.firmware = true ∧ (s.hcr 15).cmds = order p.1 256 [] :: [] ∧ (order p.1 256 []).badHead p.2 = true) ∧
    (State.reset.firmware = false ∧ ∀ c ∈ ((ringed 2 { cmds := [order 0x22 noCh []] }).hcr 15).cmds.head?, c.opcode ≠ 0x21) ∧
    (∀ op ∈ [0x0001, 0x0020, 0x0021, 0x0022], let c := order op noCh (if op = 0x20 then [127, 1, 255, 0, 3] else if op = 1 then [] else [15, 1])
      let s := ringed 2 { cmds := [c] }
      s.firmware = true ∧ (s.hcr 15).cmds = c :: [] ∧ c.badHead false = false ∧ c.opcode = op ∧ (op = 1 → c.zero 0 48 = true) ∧
      (op = 0x20 → c.zero 3 4 = true ∧ c.zero 6 48 = true ∧ c.num 0 1 ≤ 127 ∧ c.num 1 1 ≤ 1) ∧
      (0x20 < op → c.zero 2 4 = true ∧ c.zero 36 48 = true ∧ c.num 0 1 ≤ 15 ∧ c.num 1 1 ≤ 1)) ∧
    (let c := order 1 noCh (List.replicate 47 0 ++ [1])
     let s := ringed 2 { cmds := [c] }
     s.firmware = true ∧ (s.hcr 15).cmds = c :: [] ∧ c.badHead false = false ∧ c.opcode = 1 ∧ c.zero 0 48 = false) ∧
    (let s := (State.reset.setFlag (R.PCI_WIN_BASE_ENABLE 7) true).set (R.PCI_WIN_BASE_BASE 7) 128
     State.reset.flag (R.PCI_WIN_BASE_ENABLE 7) = false ∧ s.up = true ∧ s.halted = false ∧ s.flag (R.PCI_WIN_BASE_ENABLE 7) = true ∧
     0x4000000000 ≤ s.get (R.PCI_WIN_BASE_BASE 7) * 2 ^ 31 + (0x3FFFFFF : BitVec 31).toNat ∧
     s.get (R.PCI_WIN_BASE_BASE 7) * 2 ^ 31 + (0x3FFFFFF : BitVec 31).toNat + ([1] : List (BitVec 8)).length ≤ 0x4004000000) := by
  refine ⟨?_, ?_, ?_, ?_, ?_, ?_, ?_, ?_, ?_⟩ <;> decide +kernel

/-- A recipe image of one instruction and a START entry, with its CRC (R139). -/
def image0 (crc : Nat) : List (BitVec 8) :=
  leBytes 4 0x4550524D ++ leBytes 2 0x0100 ++ leBytes 2 0 ++ leBytes 4 76 ++ leBytes 2 0x0100 ++ leBytes 2 0 ++ leBytes 4 64 ++ leBytes 4 4 ++
  leBytes 4 0 ++ leBytes 4 0 ++ leBytes 4 8 ++ leBytes 2 1 ++ leBytes 2 0 ++ leBytes 4 68 ++ leBytes 4 0 ++ leBytes 4 0 ++ leBytes 4 0 ++ leBytes 4 0 ++
  leBytes 4 crc ++ leBytes 4 0 ++ leBytes 8 0

/-- The parameters of RECIPE_LOAD: `len` bytes at the start of the SRAM to thread 3 of sequencer 63, priority 7, partitions at the end of each memory. -/
def loadParams (len : Nat) : List Nat :=
  [0, 0, 0, 0, 0x40, 0, 0, 0, len, 0, 0, 0, 63, 3, 7, 0, 0xFC, 0x7F, 4, 0, 0xF8, 0x7F, 8, 0]

/-- Thread 255 is of state `st`, and the SRAM begins with `b`. -/
def loading (st : ThState) (len : Nat) (b : List (BitVec 8)) : State :=
  ({ ringed 2 { cmds := [order 0x10 255 (loadParams len)] } with threads := [(255, { ({} : Thread) with st := st })] } : State).setBytes 0x4000000000 b

/-- The parts that depend on no key: a clash, an empty image, an image with a bad magic number. -/
theorem witness_RecipesAndChannels_load :
    (∀ st ∈ [ThState.idle, .runnable], ∀ len ∈ [0, 1, 76], let s := loading st len []
      let c := order 0x10 255 (loadParams len)
      s.firmware = true ∧ (s.hcr 15).cmds = c :: [] ∧ c.opcode = 0x0010 ∧ c.badHead true = false ∧ c.zero 15 16 = true ∧ c.zero 24 48 = true ∧
      c.num 12 1 ≤ 63 ∧ c.num 13 1 ≤ 3 ∧ c.num 14 1 ≤ 7 ∧ c.num 16 4 % 65536 % 4 = 0 ∧ c.num 20 4 % 65536 % 8 = 0 ∧ c.num 16 4 / 65536 ≤ 32768 ∧
      c.num 20 4 / 65536 ≤ 32768 ∧ c.num 16 4 % 65536 + c.num 16 4 / 65536 = 32768 ∧ c.num 20 4 % 65536 + c.num 20 4 / 65536 = 32768 ∧
      ((s.thr (4 * c.num 12 1 + c.num 13 1)).st ≠ .idle ↔ st = .runnable) ∧ s.loadClash (4 * c.num 12 1 + c.num 13 1) (c.num 16 4) (c.num 20 4) = false ∧
      c.num 0 8 = 0x4000000000 ∧ c.num 8 4 = len ∧ mappedRange 0x4000000000 len = true ∧
      (0 < len → regionOf 0x4000000000 = regionOf (0x4000000000 + len - 1)) ∧ inRegs 0x4000000000 = false ∧
      s.imageFault (s.dBytes 0x4000000000 len) 4 8 ≠ 0) := by
  decide +kernel

/-- A good unsigned image, on a device whose fuse does not ask for signatures: that fuse is a constant of the configuration. -/
theorem witness_RecipesAndChannels_image (h : Config.fusedRecipeSigned = false) :
    (loading .idle 76 (image0 (imageCrc (image0 0)))).imageFault ((loading .idle 76 (image0 (imageCrc (image0 0)))).dBytes 0x4000000000 76) 4 8 = 0 := by
  have e : (loading .idle 76 (image0 (imageCrc (image0 0)))).dBytes 0x4000000000 76 = image0 (imageCrc (image0 0)) := by decide +kernel
  have m : (loading .idle 76 (image0 (imageCrc (image0 0)))).mustSign = false := by
    have f : (loading .idle 76 (image0 (imageCrc (image0 0)))).flag R.SEC_POLICY_RECIPE_SIGNED = false := by decide +kernel
    simp [State.mustSign, f, h]
  have g : imageSigned (image0 (imageCrc (image0 0))) = false := by decide +kernel
  rw [e]
  unfold State.imageFault
  rw [if_neg, if_neg, if_neg, if_neg, if_neg, if_neg]
  · simp [m, g]
  all_goals decide +kernel

/-- Decode channel 255 with thread 255 loaded and a declaration of `n` units of resource 5 per second. -/
def started (n : Nat) (x : ChanSt) : State :=
  { (((((((ringed 2 { cmds := [order 0x11 255 []] }).setFlag (R.DEC_CFG_ENABLE 255) true).set (R.DSP_CH_CFG_CLASS_MASK 255) 1).setFlag R.RC_CTRL_ENABLE true).setFlag
      (R.SEQ_CTRL_ENABLE 63) true).set (R.SEQ_TH_IMAP_LEN 63 3) 4).setFlag (R.SEQ_TH_VEC_VALID 63 3 15) true).setBytes 0x4000000000
      (leBytes 2 0x100 ++ leBytes 2 1 ++ leBytes 12 0 ++ [5] ++ leBytes 7 0 ++ leBytes 8 n) with
    chans := [(255, x)] }

theorem witness_RecipesAndChannels :
    (∀ x ∈ [({} : ChanSt), { ({} : ChanSt) with running := true }], let s := started 0 x
      s.firmware = true ∧ (s.hcr 15).cmds = order 0x11 255 [] :: [] ∧ (order 0x11 255 []).badHead true = false ∧ (order 0x11 255 []).zero 0 48 = true ∧
      (order 0x11 255 []).channel = 255 ∧ ((s.chan 255).loaded = none ∨ s.running 255 = true)) ∧
    (∀ n ∈ [0, 2 ^ 64 - 1], let s := started n { ({} : ChanSt) with loaded := some 255, decl := 0x4000000000, costLen := 32 }
      let y := s.trial 255 false
      let z := (s.tsCheck 255 (y.snapNow 255) y)
      (s.chan 255).loaded = some 255 ∧ s.startState 255 = none ∧ s.decl 0x4000000000 = some ⟨false, 0, [⟨5, 0, 0, 0, n, 0⟩]⟩ ∧
      (s.chan 255).costLen = 16 + 16 * s.dRd (0x4000000000 + 2) 2 ∧ s.encodes 255 = false ∧ z.2 = false ∧ s.imageBad 255 255 = false ∧
      z.1.dRd (0x4000000000 + 2) 2 = s.dRd (0x4000000000 + 2) 2 ∧ s.standby 255 = false ∧
      (((z.1.set R.DSP_ADM_DECL_ADDRESS 0x4000000000).admitCh 255).get R.DSP_ADM_RESULT_RESULT = 0 ↔ n = 0)) ∧
    (∀ r ∈ [true, false], let s : State :=
        { ringed 2 { cmds := [order 0x12 255 []] } with
          chans := [(255, { ({} : ChanSt) with running := r })], adm := [(255, { ({} : Adm) with admitted := true })] }
      s.firmware = true ∧ (s.hcr 15).cmds = order 0x12 255 [] :: [] ∧ (order 0x12 255 []).opcode = 0x12 ∧ s.running 255 = r ∧ (s.admOf 255).admitted = true ∧
      s.boundThread 255 = none) := by
  refine ⟨?_, ?_, ?_⟩ <;> decide +kernel

/-- DMA runs with its buffer; channel 63 has COUNT `n`, is busy or not, and holds `d`. -/
def moving (n : Nat) (busy : Bool) (d : DmaSt) : State :=
  { (((State.reset.setFlag R.DMA_CTRL_ENABLE true).setFlag R.DMA_BUF_BASE_ENABLE true).set (R.DMA_CH_COUNT_COUNT 63) n).setFlag (R.DMA_CH_STATUS_BUSY 63) busy with
    dmas := [(63, d)] }

/-- A descriptor of `len` bytes from device address `dev` with SWAP mode `m`. -/
def descBytes (dev len m : Nat) : List (BitVec 8) := leBytes 8 0x1000 ++ leBytes 8 dev ++ leBytes 4 len ++ leBytes 4 m ++ leBytes 8 0

theorem witness_DmaLists :
    (State.reset.flag R.DMA_CTRL_ENABLE = false ∧ (moving 0 true {}).flag (R.DMA_CH_STATUS_BUSY 63) = true) ∧
    (∀ m ∈ [0, 4], ∀ len ∈ [64, 63, 0], let s := moving 2 false {}
      let host := descBytes 0x4000000000 64 0 ++ descBytes 0x4000000000 len m
      s.up = true ∧ s.halted = false ∧ s.flag R.DMA_CTRL_ENABLE = true ∧ s.flag (R.DMA_CH_STATUS_BUSY 63) = false ∧
      ((∀ d ∈ s.dmaDescs 63 host, descFault d = 0) ↔ len = 64 ∨ (len = 63 ∧ m = 0)) ∧
      (∀ d ∈ ((s.dmaDescs 63 host)[0]?).toList, descFault d = 0) ∧ (∃ d ∈ ((s.dmaDescs 63 host)[1]?).toList, descFault d ≠ 0 ↔ ¬(len = 64 ∨ (len = 63 ∧ m = 0)))) ∧
    ((∀ d ∈ (moving 0 false {}).dmaDescs 63 [], descFault d = 0) ∧ (moving 0 false {}).get (R.DMA_CH_COUNT_COUNT 63) = 0) ∧
    (Sys2Proof.Spec.balanced (moving 2 false {}) 63 ∧ ((moving 2 false {}).dma 63).inflight = [] ∧ ((moving 2 false {}).dma 63).unissued = 0) ∧
    (∀ b ∈ [true, false], let s := (moving 1 true { descs := [⟨0x1FFF, 0x4000000000, 64, 0, false⟩], accepted := 64 }).setFlag (R.DMA_CH_CFG_D2H 63) b
      s.up = true ∧ s.halted = false ∧ s.dmaReady b = [63] ∧ s.dmaReady (!b) = [] ∧ Sys2Proof.Spec.balanced s 63) ∧
    (∀ m ∈ [0, 4], ∀ l ∈ [true, false], let b : DmaBurst := { host := 0x1000, dev := 0x4003FFFFF8, len := 8, swap := m, data := leBytes 8 7, late := l }
      let s := moving 1 true { descs := [⟨0x1000, 0x4003FFFFF8, 8, m, false⟩], ix := 1, inflight := [b], accepted := 8 }
      s.up = true ∧ s.halted = false ∧ (s.dma 63).inflight = b :: [] ∧ s.flag (R.DMA_CH_CFG_D2H 63) = false ∧ 0x4000000000 ≤ b.dev ∧
      b.dev + b.len ≤ 0x4004000000 ∧ b.swap ≤ 4 ∧ (leBytes 8 7).length = b.len ∧ b.dev % swapUnit b.swap = 0 ∧ b.len % swapUnit b.swap = 0 ∧
      (s.setFlag (R.DMA_CH_CFG_D2H 63) true).flag (R.DMA_CH_CFG_D2H 63) = true ∧ Sys2Proof.Spec.balanced s 63 ∧
      s.flag (R.DMA_CH_STATUS_BUSY 63) = true ∧ (s.dma 63).aborted = false ∧ (s.dma 63).failed = false) ∧
    (∀ f ∈ [true, false], let s := moving 1 true { failed := f, aborted := !f }
      s.flag (R.DMA_CH_STATUS_BUSY 63) = true ∧ (s.dma 63).inflight = [] ∧ (s.dma 63).failed = f ∧ (s.dma 63).aborted = !f) := by
  unfold Sys2Proof.Spec.balanced
  refine ⟨?_, ?_, ?_, ?_, ?_, ?_, ?_⟩ <;> decide +kernel

/-! ### Weneiren ports -/

/-- Port 2 is in state `st` with the parts `w`. -/
def linked (st : Nat) (w : WlSt) : State :=
  { State.reset.set (R.WL_STATUS_STATE 2) st with wl := [(2, w)] }

/-- A header with SEQ `n` that acknowledges `a`. -/
def header (n a : Nat) (nak : Bool) : FlitHdr := ⟨BitVec.ofNat 12 n, BitVec.ofNat 12 a, nak, 1, 5⟩

theorem witness_FlitReceipt :
    (∀ st ∈ [0, 1], (linked st {}).up = true ∧ (linked st {}).halted = false ∧ (linked st {}).wlUp 2 = false) ∧
    ((∀ n ∈ [true, false], (header 0 4095 n).nak = n) ∧
      ((linked 2 { sent := [(4094, .echoReq), (0, .echoReq)] }).wlPort 2).sent.filter (fun x => !seqLe x.1 (header 0 4095 true).ack.toNat) = [(0, .echoReq)]) ∧
    (∀ st ∈ [2, 3, 4], let s := linked st { rxNext := 4095 }
      s.up = true ∧ s.halted = false ∧ s.wlUp 2 = true ∧ (s.wlRuns 2 = true ↔ st ≠ 4) ∧
      (header 4095 0 false).seq.toNat = (((s.advance 9).takeHeader 2 (header 4095 0 false)).wlPort 2).rxNext ∧
      (header 0 0 false).seq.toNat ≠ (((s.advance 9).takeHeader 2 (header 0 0 false)).wlPort 2).rxNext) ∧
    (let s := ((linked 2 {}).set (R.WL_RX_WIN_BASE 2 3) 0x400000).set (R.WL_RX_WIN_SIZE 2 3) 1
     0x4000000000 ≤ (BitVec.ofNat 64 0x400000FFFE).toNat ∧ (∀ i < 2, s.inRxWindow 2 (0x400000FFFE + i) = true) ∧ s.inRxWindow 2 (0x400000FFFF + 1) = false) ∧
    (let u : MediaUnit := ⟨16383, 0, 0, 0, .data 0 []⟩
     let s := linked 2 {}
     s.get (R.EGR_FLOW_CTRL_SOURCE u.flow) ≠ 2 + 1 ∧ (s.set (R.EGR_FLOW_CTRL_SOURCE u.flow) 3).get (R.EGR_FLOW_CTRL_SOURCE u.flow) = 2 + 1) ∧
    (let s := linked 2 {}
     ((s.setFlag (R.CLB_GRP_CFG_ENABLE 63) true).set (R.CLB_GRP_STATUS_ROLE 63) 2).flag (R.CLB_GRP_CFG_ENABLE 63) = true ∧
     ((s.setFlag (R.CLB_GRP_CFG_ENABLE 63) true).set (R.CLB_GRP_STATUS_ROLE 63) 2).get (R.CLB_GRP_STATUS_ROLE 63) = 2 ∧ s.flag (R.CLB_GRP_CFG_ENABLE 63) = false) ∧
    (∀ n ∈ [0, 14, 15], (((linked 2 { echoes := List.replicate n 16 }).takeHeader 2 (header 0 0 false)).wlPort 2).latOk = false ∧
      (((linked 2 { echoes := List.replicate n 16 }).takeHeader 2 (header 0 0 false)).wlPort 2).echoes.length = n) ∧
    (∀ r ∈ [0, 1], let x := ((linked 2 { credits := [(1, 12)], init := [12] }).advance 9).takeHeader 2 (header 0 0 false)
      let w := x.wlPort 2
      (∀ v ∈ ([1, 2, 3] : List Nat), x.get (R.WL_CREDIT_COUNT 2 (v - 1) 0) - (w.sent.filter (fun y => decide (y.2.vc = v))).length = ([r] : List Nat).getD (v - 1) 0 ∧
        w.init.getD (v - 1) 0 + x.get (R.WL_CREDIT_COUNT 2 (v - 1) 1) = tget (fun _ => 0) w.credits v + x.get (R.WL_CREDIT_COUNT 2 (v - 1) 0)) ↔ r = 0) ∧
    (∀ k ∈ [0, 3], let s := (linked 2 { latOk := true }).set R.TB_CTRL_SOURCE k
      (((s.advance 9).takeHeader 2 (header 0 0 false)).wlPort 2).latOk = true ∧ (s.get R.TB_CTRL_SOURCE = 1 + 2 ↔ k = 3) ∧
      (BitVec.ofNat 32 0).toNat = s.get R.TB_EPOCH_EPOCH) := by
  refine ⟨?_, ?_, ?_, ?_, ?_, ?_, ?_, ?_, ?_⟩ <;> decide +kernel

theorem witness_LinksSendAndTrain :
    (∀ st ∈ [2, 3], ∀ c ∈ [0, 1], let s := linked st { tx := [.memWrite 0 []], credits := [(1, c)] }
      s.live = true ∧ s.wlRuns 2 = true ∧ (s.wlPort 2).tx = .memWrite 0 [] :: [] ∧
      (tget (fun _ => 0) (s.wlPort 2).credits (Flit.memWrite 0 []).vc ≠ 0 ↔ c = 1)) ∧
    (let s := linked 2 { tx := [.memWrite 0 [], .msg []], credits := [(3, 1)] }
     s.live = true ∧ s.wlRuns 2 = true ∧ (s.wlPort 2).tx = [.memWrite 0 []] ++ .msg [] :: [] ∧ (s.wlPort 2).sent.length < 1024 ∧
     tget (fun _ => 0) (s.wlPort 2).credits (Flit.memWrite 0 []).vc = 0 ∧ tget (fun _ => 0) (s.wlPort 2).credits (Flit.msg []).vc ≠ 0) ∧
    (let s : State := { (linked 2 {}).set R.TB_FWD_CTRL_TX_EN 4 with tb := { flitLast := [(2, 5)] } }
     s.live = true ∧ s.wlRuns 2 = true ∧ (s.get R.TB_FWD_CTRL_TX_EN).testBit 2 = true ∧ (∀ t ∈ (tfind s.tb.flitLast 2).toList, t + 1000000 ≤ max s.raw 1000005) ∧
     (∃ t ∈ (tfind s.tb.flitLast 2).toList, ¬t + 1000000 ≤ max s.raw 1000004) ∧ (s.setFlag (R.WL_CTRL_ENABLE 2) true).flag (R.WL_CTRL_ENABLE 2) = true) ∧
    (∀ b ∈ [true, false], ((linked 2 { rxIdle := b }).wlPort 2).rxIdle = b) ∧
    (∀ a ∈ [true, false], ∀ b ∈ [true, false], let s := (linked 1 { ready := a, peerReady := b, trainAt := 5 }).setFlag (R.WL_CTRL_ENABLE 2) true
      s.live = true ∧ s.wlState 2 = 1 ∧ (s.wlPort 2).ready = a ∧ (s.wlPort 2).peerReady = b ∧ s.flag (R.WL_CTRL_ENABLE 2) = true ∧ (s.wlPort 2).held = false ∧
      (s.wlPort 2).trainAt + 1000 * s.get (R.WL_CTRL_TIMEOUT_US 2) ≤ max s.raw 1000005 ∧
      max s.raw 1000004 < (s.wlPort 2).trainAt + 1000 * s.get (R.WL_CTRL_TIMEOUT_US 2)) ∧
    (∀ u ∈ [true, false], let s := ((((linked 2 { failed := if u then [15] else [] }).setFlag (R.WL_LANE_STATUS_LOCK 2 0) true).setFlag
        (R.WL_LANE_STATUS_IS_SPARE 2 16) true).setFlag (R.WL_STATUS_SPARE_IN_USE 2) u)
      s.live = true ∧ s.wlState 2 = 2 ∧ s.flag (R.WL_LANE_STATUS_LOCK 2 (0 : Fin 17)) = true ∧ s.spareLane 2 = some 16 ∧ 16 ≠ (0 : Fin 17).val ∧
      (s.wlPort 2).spareDead = false ∧ s.flag (R.WL_STATUS_SPARE_IN_USE 2) = u ∧ (s.wlPort 2).failed = (if u then [15] else []) ∧
      s.get (R.WL_LANE_STATUS_LOGICAL 2 0) = 0 ∧ (s.wlPort 2).half = false ∧ s.wlUp 2 = true ∧ s.flag (R.WL_LANE_STATUS_LOCK 2 16) = false) ∧
    (∀ q ∈ [[], [Flit.memWrite 0 []]], ∀ st ∈ [2, 4], let s := (linked st { tx := q, lastTx := 5 }).setFlag (R.WL_CTRL_IDLE_EN 2) true
      s.live = true ∧ s.flag (R.WL_CTRL_IDLE_EN 2) = true ∧ (s.wlPort 2).lastTx + 1000 * s.get (R.WL_IDLE_ENTER_US 2) ≤ max s.raw 50005 ∧
      ¬(s.wlPort 2).lastTx + 1000 * s.get (R.WL_IDLE_ENTER_US 2) ≤ max s.raw 50004 ∧ (s.wlRuns 2 = true ↔ st = 2) ∧ (s.wlPort 2).tx = q ∧
      (s.wlState 2 = 4 ↔ st = 4) ∧ (s.wlPort 2).ctl = []) := by
  refine ⟨?_, ?_, ?_, ?_, ?_, ?_, ?_⟩ <;> decide +kernel

/-! ### The Claim Bus and protection groups -/

/-- The Claim Bus works; this device is unit 5, in group 63 of channel 0 with role `r` and the parts `x`. -/
def grouped (r : Nat) (x : GrpSt) : State :=
  { (((State.reset.setFlag R.CLB_CTRL_ENABLE true).set R.CLB_CTRL_UNIT_ID 5).setFlag (R.CLB_GRP_CFG_ENABLE 63) true).set (R.CLB_GRP_STATUS_ROLE 63) r with
    groups := [(63, x)] }

theorem witness_ClaimBusCycles :
    (([(5, 7)] : List (Nat × Nat)) ≠ [] ∧ State.reset.up = true ∧ State.reset.halted = false ∧ State.reset.clbOn = false) ∧
    (∀ l ∈ ([[(2 ^ 32 - 1, 7)], [(5, 0), (5, 7), (2, 1)]] : List (List (Nat × Nat))), (∀ b ∈ l, b.1 < 2 ^ 32 ∧ b.2 < 8) ∧ (winner l).isSome = true) ∧
    (let v : State := { grouped 1 {} with chans := [(0, { ({} : ChanSt) with loaded := some 255 })], adm := [(0, { ({} : Adm) with admitted := true })] }
     (v.boundThread 0).orElse (fun _ => (v.chan 0).loaded) = some 255 ∧ (v.admOf 0).admitted = true ∧ v.running 0 = false) ∧
    (∀ r ∈ [1, 2], ∀ u ∈ [0, 5], let s := grouped r {}
      let bids : List Bid := if u = 5 then [] else [⟨0xFFFFFFFF, BitVec.ofNat 3 u⟩]
      s.up = true ∧ s.halted = false ∧ s.clbOn = true ∧ s.flag (R.CLB_GRP_CFG_ENABLE 63) = true ∧ s.get (R.CLB_GRP_STATUS_ROLE 63) = r ∧
      (u = 0 → winner (s.hbBid 63 ++ bidPairs bids) = some (0xFFFFFFFF, u)) ∧ (u = 5 → r = 1 → ∃ w ∈ (winner (s.hbBid 63 ++ bidPairs bids)).toList, w.2 = 5) ∧
      s.get R.CLB_CTRL_UNIT_ID = 5) ∧
    (∀ r ∈ [1, 2], ∀ u ∈ [0, 5], let s := grouped r { challenge := true }
      let bids : List Bid := if u = 5 then [] else [⟨0xFFFFFFFF, BitVec.ofNat 3 u⟩]
      s.flag (R.CLB_GRP_CFG_ENABLE 63) = true ∧ s.get (R.CLB_GRP_STATUS_ROLE 63) = r ∧ (s.grp 63).challenge = true ∧ s.chBid 63 ≠ [] ∧
      ∃ w ∈ (winner (s.chBid 63 ++ bidPairs bids)).toList, w.2 = u) ∧
    (let v : State := { (grouped 1 {}).setFlag (R.CTX_BIND_VALID 0) true with adm := [(0, { ({} : Adm) with admitted := true })] }
     (grouped 1 {}).boundThread 0 = none ∧ v.boundThread 0 = some 0 ∧ (v.admOf 0).admitted = true ∧ v.running 0 = false) ∧
    (∀ f ∈ [true, false], let s : State := { (grouped 2 {}).setFlag R.CLB_STATUS_FAULT f with busFaultAt := 5 }
      s.flag R.CLB_CTRL_ENABLE = true ∧ s.flag R.CLB_STATUS_FAULT = f ∧ s.busFaultAt + 1000000 ≤ max s.raw 1000005 ∧ max s.raw 1000004 < s.busFaultAt + 1000000 ∧
      s.standbyGroups = [63]) ∧
    (∀ m ∈ [0, 1, 15], ∀ e ∈ [7, 0xFFFFFF], let s : State := { (grouped 2 { th := 5 }).set (R.CLB_GRP_STATUS_MISSES 63) m with epochs := [(63, e)] }
      s.clbOn = true ∧ s.get (R.CLB_GRP_STATUS_ROLE 63) = 2 ∧
      (((s.grp 63).th + 100000) * 2 ^ 32 + ((s.grp 63).k + 1) * s.period (s.get (R.CLB_GRP_CFG_CHANNEL 63)) ≤ max s.raw 100005 * 2 ^ 32) ∧
      ¬(((s.grp 63).th + 100000) * 2 ^ 32 + ((s.grp 63).k + 1) * s.period (s.get (R.CLB_GRP_CFG_CHANNEL 63)) ≤ max s.raw 100004 * 2 ^ 32) ∧
      ((s.get (R.CLB_GRP_STATUS_MISSES 63) + 1 = s.get (R.CLB_GRP_CFG_H 63) ∧ (s.grp 63).challenge = false) ↔ m = 1) ∧ tget (fun _ => 0) s.epochs 63 = e) ∧
    (let f : FrameSt := { n := 0, inst := 0, rtp := 0, token := none }
     let s : State := { grouped 2 {} with chans := [(0, { ({} : ChanSt) with anchor := some 0, frames := [f] })] }
     s.ingestOn = true ∧ s.standby 0 = true ∧ s.running 0 = false ∧ s.standbyGroups.filter (fun g => decide (s.get (R.CLB_GRP_CFG_CHANNEL g) = 0)) = [63] ∧
     (s.chan 0).frames.find? (fun f => (s.advance 12000).reached (s.tFrame 0 (f.n + 1) + ns 12000)) = some f) := by
  refine ⟨?_, ?_, ?_, ?_, ?_, ?_, ?_, ?_, ?_⟩ <;> decide +kernel

/-! ### The Heath island and the health monitor -/

/-- Power state `p`, all wake sources enabled, with the parts `h`. -/
def warmed (p : Nat) (h : HeathSt) : State :=
  { (State.reset.set R.HTH_WAKE_EN_EN 63).set R.HTH_PS_STATUS_STATE p with heath := h }

theorem witness_HeathAndAgeing :
    (∀ g ∈ [2, 3], 2 ≤ (BitVec.ofNat 2 g).toNat) ∧
    (∃ p ∈ (started 0 { ({} : ChanSt) with running := true }).chans, p.2.running = true) ∧
    (∃ i < 64, (moving 0 true {}).flag (R.DMA_CH_STATUS_BUSY i) = true) ∧ 63 ∈ (grouped 2 {}).standbyGroups ∧
    (∀ p ∈ [0, 1, 2], let s := warmed p {}
      ¬((∃ q ∈ s.chans, q.2.running = true) ∨ (∃ i < 64, s.flag (R.DMA_CH_STATUS_BUSY i) = true) ∨
        ∃ k ∈ s.standbyGroups, s.get (R.CLB_GRP_CFG_H k) = 1 ∨ (3 : BitVec 2).toNat = 3) ∧ s.ps = p ∧ s.heath.entry = none ∧ s.up = true) ∧
    (∀ d ∈ [true, false], ∀ w ∈ [none, some 0], let s := warmed 0 { entry := some d, entryWake := w }
      s.up = true ∧ s.heath.entry = some d ∧ s.heath.entryWake = w) ∧
    (let s := warmed 2 { exiting := true }
     s.up = true ∧ s.ps = 2 ∧ s.heath.exiting = true) ∧
    (let s := (warmed 0 {}).setFlag R.HTH_PS_CTRL_PS1_AUTO true
     s.halted = false ∧ s.ps = 0 ∧ s.flag R.HTH_PS_CTRL_PS1_AUTO = true ∧ s.heath.entry = none ∧ s.ps1Quiet = true ∧
     5 + 1000 * s.get R.HTH_PS_CTRL_PS1_IDLE_US ≤ max s.raw 100005 ∧ max s.raw 100004 < 5 + 1000 * s.get R.HTH_PS_CTRL_PS1_IDLE_US) ∧
    (∀ p ∈ [0, 1, 2, 3], ∀ c < 6, let s := warmed p {}
      s.heath.entry = none ∧ (s.wakeOk c = true ↔ p = 1 ∧ c ≤ 3 ∨ p = 2 ∨ p = 3 ∧ c ≠ 3 ∧ c ≠ 4)) ∧
    (∀ n ∈ [4, 5], let s := (State.reset.set R.HTH_WAKE_TIME_TIME 5).set R.HTH_AON_NS_NS n
      (s.get R.HTH_WAKE_TIME_TIME ≤ s.get R.HTH_AON_NS_NS ↔ n = 5) ∧ s.heath.schedFired ≠ some (s.get R.HTH_WAKE_TIME_TIME)) := by
  refine ⟨?_, ?_, ?_, ?_, ?_, ?_, ?_, ?_, ?_, ?_⟩ <;> decide +kernel

/-- Rule 31 on diode 0 at 4 °C with hysteresis 8 and whether it has fired; the diode shows `v` quarter degrees. -/
def ruled (fired : Bool) (v : Nat) : State :=
  ((((State.reset.setFlag (R.HTH_RULE_EN 31) true).set (R.HTH_RULE_THRESH 31) 16).set (R.HTH_RULE_HYST 31) 8).setFlag (R.HTH_RULE_FIRED 31) fired).set
    (R.HTH_SENSOR_VALUE 0) v

theorem witness_HeathAndAgeing_rules :
    (∀ a < 8, ∀ b < 8, (decide (a ≤ b) || decide (b ≤ a)) = true) ∧ [3, 1, 2, 5, 4].length = 5 ∧
    (∀ f ∈ [true, false], ∀ v ∈ [7, 8, 15, 16, 65535], let s := ruled f v
      s.flag (R.HTH_RULE_EN 31) = true ∧ s.flag (R.HTH_RULE_ABOVE 31) = true ∧ s.flag (R.HTH_RULE_FIRED 31) = f ∧
      sensorVal (s.get (R.HTH_RULE_SENSOR 31)) (s.get (R.HTH_RULE_THRESH 31)) = 16 ∧ s.tested 31 = (if v = 65535 then -1 else (v : Int))) ∧
    ((∃ i < 12, 460 ≤ (State.reset.set (R.HTH_SENSOR_VALUE 11) 460).sensor i) ∧ State.reset.heath.tripHold = false ∧ State.reset.ps ≠ 3) ∧
    ((warmed 2 {}).wakeOk 1 = true ∧ (warmed 2 {}).wakeOk 2 = true) ∧
    (let s : State := { State.reset.setFlag R.HTH_WDOG_EN true with heath := { kickAt := 5 } }
     s.live = true ∧ s.flag R.HTH_WDOG_EN = true ∧ s.heath.kickAt + 1000000 * s.get R.HTH_WDOG_TIMEOUT_MS < max s.raw 1000000006 ∧
     max s.raw 1000000005 ≤ s.heath.kickAt + 1000000 * s.get R.HTH_WDOG_TIMEOUT_MS ∧ State.reset.flag R.HTH_WDOG_EN = false) ∧
    ((-50000 ≤ (-50000 : BitVec 32).toInt ∧ (50000 : BitVec 32).toInt ≤ 50000) ∧ 50000 < (50001 : BitVec 32).toInt ∧ (-50001 : BitVec 32).toInt < -50000) ∧
    (State.reset.live = true ∧ ∀ x ∈ ([0, 0x7FFF] : List Nat), 0 ≤ (BitVec.ofNat 16 x).toInt) := by
  refine ⟨?_, ?_, ?_, ?_, ?_, ?_, ?_, ?_⟩ <;> decide +kernel

/-- The core supply's code is `vid`, with the monitor's parts `h`, at raw time `now`. -/
def aged (vid now : Nat) (h : HltSt) : State :=
  { (((State.reset.setFlag R.HLT_CTRL_VID_EN true).setFlag R.HLT_CTRL_AUTO_CEIL true).set R.HLT_STATUS_VID vid) with
    hlt := h, raw := now }

theorem witness_HeathAndAgeing_margins :
    ((49 : Int) < State.reset.get R.HLT_MARGIN_CFG_TARGET_MV * (2 : Nat)) ∧
    (∀ a ∈ [none, some 5], let s := aged 39 1000005 { stepAt := a }
      s.flag R.HLT_CTRL_VID_EN = true ∧ s.get R.HLT_STATUS_VID < 40 ∧ (∀ a ∈ s.hlt.stepAt.toList, a + 1000000 ≤ s.raw)) ∧
    ((aged 40 0 {}).get R.HLT_STATUS_VID = 40 ∧ State.reset.flag R.HLT_CTRL_VID_EN = false) ∧
    (let s := aged 40 1000000005 { lowSince := some 5 }
     s.flag R.HLT_CTRL_AUTO_CEIL = true ∧ s.get R.HLT_STATUS_VID = 40 ∧ s.hlt.lowSince = some 5 ∧ 5 + 1000000000 ≤ s.raw ∧ 500 < s.get R.DSP_ADM_CEIL_PERMILLE) ∧
    (∀ k ∈ [true, false], ∀ v ∈ [11, 12, 23, 24], let s := State.reset.setFlag (R.MP_LANE_STATUS_LOCK 15) k
      s.live = true ∧ s.flag (R.MP_LANE_STATUS_LOCK 15) = k ∧ (s.get (R.MP_LANE_EQ_EYE_FLOOR_MV 15) ≤ (BitVec.ofNat 8 v).toNat ↔ 12 ≤ v)) ∧
    (State.reset.live = true ∧ State.reset.hlt.hours < 23 ∧ State.reset.hlt.m85 = [] ∧ 14 ≤ (List.replicate 14 100).length) := by
  refine ⟨?_, ?_, ?_, ?_, ?_, ?_⟩ <;> decide +kernel

/-- A falling margin, for a die whose margin at 85 °C (a function of the configuration) is between the target and 65 535 mV. -/
theorem witness_HeathAndAgeing_months (s : State) (h : s = State.reset)
    (m : Int) (hm : m = Config.marginAt85 (s.getSigned R.HLT_STATUS_MARGIN_MV) (s.get R.HLT_STATUS_VID)) (lo : 25 ≤ m) (hi : m ≤ 65535) :
    let t : State := { s with hlt := { s.hlt with m85 := [m + 1] } }
    t.live = true ∧ t.hlt.m85 = [m + 1] ∧ m < m + 1 ∧ (t.get R.HLT_MARGIN_CFG_TARGET_MV : Int) ≤ m ∧
      (m - t.get R.HLT_MARGIN_CFG_TARGET_MV) * 100 / ((m + 1 - m) * 3044) < 0x10000 := by
  subst h
  have e : (State.reset.get R.HLT_MARGIN_CFG_TARGET_MV) = 25 := by decide +kernel
  have l : State.reset.live = true := by decide +kernel
  refine ⟨l, rfl, by omega, ?_, ?_⟩
  · show ((State.reset.get R.HLT_MARGIN_CFG_TARGET_MV : Nat) : Int) ≤ m
    rw [e]; exact lo
  · show (m - ((State.reset.get R.HLT_MARGIN_CFG_TARGET_MV : Nat) : Int)) * 100 / ((m + 1 - m) * 3044) < 0x10000
    have d : m + 1 - m = 1 := by omega
    rw [e, d]; omega

/-! ### The Paddock and the Conservation audit -/

/-- The Paddock works with the parts `p`, and mailbox command `op` with argument `a` waits. -/
def stabled (op a : Nat) (p : PdkSt) : State :=
  { ((State.reset.setFlag R.PDK_MB_STATUS_BUSY true).set R.PDK_MB_CMD_OP op).set R.PDK_MB_CMD_ARG a with pdk := { p with vdd := true } }

/-- Record `n`, not yet exported. -/
def record (n ms : Nat) : PdkRec := ⟨n, 2, 0, [], ms, false⟩

theorem witness_PaddockAndAudit :
    ([623, 1245, 2490, 4980, 9960, 19910, 39820].length = 7 ∧
      ∀ x ∈ [0, 2 ^ 40], classOf [623, 1245, 2490, 4980, 9960, 19910, 39820] x (2 ^ 32) = if x = 0 then 0 else 7) ∧
    (∀ r ∈ [true, false], let s : State := { stabled 0 0 {} with chans := [(255, { ({} : ChanSt) with running := r })] }
      s.live = true ∧ s.running 255 = r ∧ s.pdk.vdd = true) ∧
    (∀ n ∈ [[], List.replicate 3 (record 1 0)], let s := stabled 0 0 { main := n }
      s.pdk.vdd = true ∧ max s.pdk.ms 59999 < 60000 * (s.pdk.usageN + 1) ∧ 60000 * (s.pdk.usageN + 1) ≤ max s.pdk.ms 60000 ∧ s.pdk.main.length < 15360 ∧
      s.pdk.area.length < 512) ∧
    (let s := stabled 0 0 { progs := [(15, ⟨1, 0, 511, 0, 0, 0, false⟩)] }
     s.pdk.progs = [(15, ⟨1, 0, 511, 0, 0, 0, false⟩)] ∧ 60000 * (s.pdk.loudN + 1) ≤ max s.pdk.ms 60000 ∧ s.pdk.main.length < 15360 ∧ s.pdk.area.length < 512 ∧
     s.up = true ∧ s.halted = false ∧ tfind s.pdk.progs 15 = some ⟨1, 0, 511, 0, 0, 0, false⟩ ∧ tfind s.pdk.progs 0 = none) ∧
    (let s := stabled 1 9 { cmdAt := 5 }
     s.flag R.PDK_MB_STATUS_BUSY = true ∧ s.pdk.cmdAt + 100000000 ≤ max s.raw 100000005 ∧ max s.raw 100000004 < s.pdk.cmdAt + 100000000) ∧
    (∀ op ∈ [1, 2, 3, 4], ∀ a ∈ [9, 8], let s := stabled op a { area := [record 9 4] }
      Sys2Proof.Spec.inMailbox s op ∧ s.pdkFind (s.get R.PDK_MB_CMD_ARG + s.rd mbData 4 * 2 ^ 32) = (if a = 9 then some (record 9 4) else none) ∧
      (record 9 4).closedMs = max s.pdk.ms 4 ∧ (record 9 4).closedMs ≠ max s.pdk.ms 5 ∧ s.pdkFind (BitVec.toNat (9 : BitVec 64)) = some (record 9 4)) ∧
    (let s : State := { stabled 0x10 0 {} with mem := [(mbData, 2)] }
     Sys2Proof.Spec.inMailbox s 0x10 ∧ s.pdk.area.length < 512 ∧ s.pdk.sealCount < 2 ^ 32 - 1 ∧ ((s.bytes mbData (109 + paramBytes 2)).headD 0).toNat = 2 ∧
     (newLimits (s.pdkAdvance 0).pdk (authParams 2 (s.bytes mbData (109 + paramBytes 2)))).isNone = true) := by
  unfold Sys2Proof.Spec.inMailbox
  refine ⟨?_, ?_, ?_, ?_, ?_, ?_, ?_⟩ <;> decide +kernel

/-- A full main store: of 15 360 copies of a LOUDNESS record that is not exported, none may give way. -/
theorem witness_PaddockAndAudit_full :
    let s := stabled 0 0 { main := List.replicate 15360 (record 1 0) }
    15360 ≤ s.pdk.main.length ∧ ∀ d ∈ s.pdk.main, d.exported = false ∧ ¬(d.type = 1 ∧ d.prog = 0) ∧
      ∀ q ∈ s.pdk.main, ¬(q.type = d.type ∧ q.prog = d.prog ∧ d.recno < q.recno) := by
  intro s
  have m : s.pdk.main = List.replicate 15360 (record 1 0) := rfl
  rw [m]
  refine ⟨List.length_replicate.symm ▸ Nat.le_refl _, fun d hd => ?_⟩
  obtain rfl := List.eq_of_mem_replicate hd
  refine ⟨rfl, by decide, fun q hq => ?_⟩
  obtain rfl := List.eq_of_mem_replicate hq
  decide

/-- An authority command whose signature verifies, where the device's serial number and keys (constants of the configuration) let one verify. -/
theorem witness_PaddockAndAudit_authority (m : Table (BitVec 8)) (h : ({ stabled 0x10 0 {} with mem := m } : State).authOk 3
      (({ stabled 0x10 0 {} with mem := m } : State).bytes mbData 109) = true) :
    let s : State := { stabled 0x10 0 {} with mem := m }
    Sys2Proof.Spec.inMailbox s 0x10 ∧ s.authOk 3 (s.bytes mbData (109 + paramBytes 3)) = true := by
  have i : Sys2Proof.Spec.inMailbox (stabled 0x10 0 {}) 0x10 := by unfold Sys2Proof.Spec.inMailbox; decide +kernel
  exact ⟨i, h⟩

theorem witness_PaddockAndAudit_snapshots :
    (∀ z ∈ [0, snapLen 1], let s := (State.reset.setFlag R.CONS_CTRL_ENABLE true).set R.CONS_SNAP_SIZE_BYTES z
      s.live = true ∧ s.cons.snap = none ∧ s.flag R.CONS_CTRL_ENABLE = true ∧ (1 : BitVec 8) ≠ 0 ∧
      ((snapLen (1 : BitVec 8).toNat ≤ s.get R.CONS_SNAP_SIZE_BYTES ∧ s.get R.CONS_SNAP_ADDR_ADDR * 4096 + snapLen (1 : BitVec 8).toNat ≤ 0x2100000000) ↔ z ≠ 0)) ∧
    (let x : ConsSnap := ⟨0, 1, 5, [7], []⟩
     let s : State := { State.reset with cons := { snap := some x } }
     s.live = true ∧ s.cons.snap = some x ∧ x.failed = [] ∧ s.cons.autoWaits = false ∧ s.encTags = [] ∧ (∀ j < 16, s.flag (R.MEM_ENC_CFG_ENABLE j) = false) ∧
     x.body[0]? = some 7) ∧
    (∀ x ∈ [none, some (⟨0, 1, 5, [7], []⟩ : ConsSnap)], let s : State :=
        { ((State.reset.setFlag R.CONS_CTRL_ENABLE true).set R.CONS_CTRL_AUTO_S 1).set R.CONS_SNAP_SIZE_BYTES (snapLen 255) with cons := { snap := x, autoAt := 5 } }
      s.get R.CONS_CTRL_AUTO_S ≠ 0 ∧ s.cons.autoAt + s.get R.CONS_CTRL_AUTO_S * 1000000000 ≤ max s.raw 1000000005 ∧
      ¬s.cons.autoAt + s.get R.CONS_CTRL_AUTO_S * 1000000000 ≤ max s.raw 1000000004 ∧ s.cons.snap = x ∧ s.flag R.CONS_CTRL_ENABLE = true ∧
      snapLen 255 ≤ s.get R.CONS_SNAP_SIZE_BYTES ∧ s.get R.CONS_SNAP_ADDR_ADDR * 4096 + snapLen 255 ≤ 0x2100000000) := by
  refine ⟨?_, ?_, ?_⟩ <;> decide +kernel

/-! ### Startup -/

/-- A boot directory whose slots both begin at byte 32 (R718). -/
def directory : List (BitVec 8) :=
  let d := leBytes 4 0x42465A41 ++ leBytes 2 0x0100 ++ leBytes 2 0 ++ leBytes 4 32 ++ leBytes 4 32 ++ leBytes 12 0
  d ++ leBytes 4 (crcTag d)

theorem witness_Startup :
    (let s := State.reset
     (s.pwrGood = false ∨ s.bootPending = true ∨ s.ps = 3) ∧ (s.ps = 3 → s.heath.wakeOut = true) ∧ s.pwrGood = true ∧ s.up = true ∧ s.halted = false ∧
     s.flag R.GCTL_BOOT_STATUS_MEM_TESTED = false ∧ s.flag R.PCI_LINK_STATUS_LINK_UP = false ∧ s.lostCmds = [] ∧ s.flag R.SEC_POLICY_LOCK = false ∧
     s.flag R.SEC_STATUS_DEBUG = false) ∧
    (let s := warmed 3 { wakeOut := false }
     s.ps = 3 ∧ s.heath.wakeOut = false) ∧
    (dirOk [] = false ∧ dirOk directory = true ∧ ∀ i ∈ [0, 1], State.reset.imageOk (slotImage directory i) = false) ∧
    (let s := moving 1 true {}
     s.flag (R.DMA_CH_STATUS_BUSY 63) = true ∧ (s.dma 63).inflight = [] ∧ (s.dma 63).failed = false ∧ (s.dma 63).aborted = false) ∧
    (let s := State.reset.set R.GCTL_BOOT_STATUS_STAGE 3
     (4194304 : BitVec 23) ≠ 0 ∧ (4194304 : BitVec 23).toNat ≤ 4194304 ∧ s.get R.GCTL_BOOT_STATUS_STAGE = 3 ∧
     (1 : BitVec 23) ≠ 0 ∧ s.imageOk (s.bytes staging (1 : BitVec 23).toNat) = false) ∧
    ((State.reset.setFlag R.SEC_POLICY_LOCK true).flag R.SEC_POLICY_LOCK = true ∧ (State.reset.setFlag R.SEC_STATUS_BURNING true).flag R.SEC_STATUS_BURNING = true ∧
      (State.reset.setFlag R.SEC_STATUS_DEBUG true).flag R.SEC_STATUS_DEBUG = true ∧ State.reset.get R.SEC_STATUS_RUN_SVN = 0) := by
  refine ⟨?_, ?_, ?_, ?_, ?_, ?_⟩ <;> decide +kernel

/-- Where an image passes the checks of R718, which rest on the fuses and the signature (constants of the configuration), a flash that holds it boots it. -/
theorem witness_Startup_image (img : List (BitVec 8)) (n : num img 8 4 = img.length) (l : img.length ≤ 4194304) (h : State.reset.imageOk img = true) :
    dirOk (directory ++ img) = true ∧ State.reset.imageOk (slotImage (directory ++ img) 0) = true := by
  have d : dirOk (directory ++ img) = true := by
    have e : ∀ a b, a + b ≤ 32 → num (directory ++ img) a b = num directory a b := by
      intro a b k
      have z : directory.length = 32 := by decide +kernel
      unfold num
      rw [List.drop_append_of_le_length (by omega), List.take_append_of_le_length (by rw [List.length_drop]; omega)]
    have t : (directory ++ img).take 28 = directory.take 28 := by
      have z : directory.length = 32 := by decide +kernel
      rw [List.take_append_of_le_length (by omega)]
    unfold dirOk
    rw [e 0 4 (by omega), e 4 2 (by omega), e 28 4 (by omega), t]
    decide +kernel
  have i : slotImage (directory ++ img) 0 = img := by
    have z : directory.length = 32 := by decide +kernel
    have o : num (directory ++ img) (8 + 4 * 0) 4 = 32 := by
      unfold num
      rw [List.drop_append_of_le_length (by omega), List.take_append_of_le_length (by rw [List.length_drop]; omega)]
      decide +kernel
    unfold slotImage
    rw [o, ← z, List.drop_left]
    show img.take (min (num img 8 4) 4194304) = img
    rw [n, Nat.min_eq_left l, List.take_length]
  rw [i]
  exact ⟨d, h⟩

/-- An SVN above the floor of R720, for a device whose fused minimum is not the largest number. -/
theorem witness_Startup_svn (h : Config.fusedSvnMin.toNat < 65535) :
    let s := State.reset.set R.SEC_STATUS_RUN_SVN 65535
    s.flag R.SEC_POLICY_LOCK = false ∧ s.svnFloor < s.get R.SEC_STATUS_RUN_SVN := by
  have a : (State.reset.set R.SEC_STATUS_RUN_SVN 65535).flag R.SEC_POLICY_LOCK = false := by decide +kernel
  have b : (State.reset.set R.SEC_STATUS_RUN_SVN 65535).get R.SEC_STATUS_RUN_SVN = 65535 := by decide +kernel
  have c : (State.reset.set R.SEC_STATUS_RUN_SVN 65535).svnMin = 0 := by decide +kernel
  refine ⟨a, ?_⟩
  unfold State.svnFloor
  rw [b, c]
  omega

/-! ### The device as a whole -/

theorem witness_StepRunsTheFrontCommand :
    ({ State.reset with pending := [.policyLock] } : State).pending = .policyLock :: [] ∧ State.reset.pending = [] := ⟨rfl, rfl⟩

theorem witness_MemoriesStayCanonical :
    ({ State.reset with pending := [.policyLock], mem := [(5, 1), (6, 255)] } : State).memoriesWf ∧
    ∃ t, step { State.reset with pending := [.policyLock], mem := [(5, 1), (6, 255)] } = .next t := by
  unfold State.memoriesWf
  exact ⟨by decide +kernel, _, rfl⟩

/-! ### Well-formedness: an ill-formed term for each check, and the fault that names it -/

theorem test_ill_formed_memory_write_flit : wellFormed (.memWriteFlit 0 (header 0 0 false) 0 (List.replicate 237 0) 0) = false ∧
    wellFormed (.memWriteFlit 0 (header 0 0 false) 0 (List.replicate 236 0) 0) = true := by decide +kernel

theorem test_ill_formed_message_flit : wellFormed (.msgFlit 0 (header 0 0 false) (List.replicate 245 0) 0) = false ∧
    wellFormed (.msgFlit 0 (header 0 0 false) (List.replicate 244 0) 0) = true := by decide +kernel

/-- Whether an outcome is a next state with a property. -/
def goes (o : Out) (p : State → Bool) : Bool :=
  match o with
  | .next t => p t
  | _ => false

/-- Whether an outcome is a fault. -/
def faults (o : Out) : Bool :=
  match o with
  | .fault _ => true
  | _ => false

theorem test_ill_formed_flits_fault : faults (exec (.memWriteFlit 0 (header 0 0 false) 0 (List.replicate 237 0) 0) State.reset) = true ∧
    faults (exec (.msgFlit 0 (header 0 0 false) (List.replicate 245 0) 0) State.reset) = true := by decide +kernel

/-! ### Values that the specification's own examples and tables give -/

/-- The two encodings after R109. -/
theorem test_instruction_words : encI 0x01 10 0 8 = 0x05400008 ∧ encR 0x2B 1 22 0 0 = 0xAC360000 := by decide

/-- R110: division by zero returns all ones. -/
theorem test_divu_by_zero : goes (exec (.divu by0 1 2 3) (runner (encR 0 1 2 3 0x14))) (fun t => (t.thr 0).rg 1 == BitVec.allOnes 64) = true := by decide +kernel

/-- R109: g0 reads 0 and `addi g10, g0, 8` writes 8, at the word of the example. -/
theorem test_addi : goes (exec (.addi by0 10 0 8) (runner 0x05400008)) (fun t => (t.thr 0).rg 10 == 8 && (t.thr 0).pc == 4) = true := by decide +kernel

/-- The example of 13_frame_memory.md after R523. -/
theorem test_placement : place 12 0x1801234567 = { stack := 1, rank := 2, pc := 0, ch := 10, row := 3, bank := 1, column := 359, p := 0x30567 } := by decide

/-- Flow Table entry 0 valid and compact, RATE 10 000, BURST 4 000, as the example after R227 leaves it at raw time `at'`. -/
def policed (tokens frac at' : Nat) : State :=
  ((((((State.reset.setFlag R.ING_CTRL_ENABLE true).setFt 0 0 1).setFt 0 2 10000).setFt 0 3 4000).setFt 0 4 tokens).setFt 0 5 frac).setFt 0 6 at'

/-- The example after R227, its second, third and fifth line. -/
theorem test_policer :
    goes (exec (.policerSweep 1000000) (policed 2808 0 0)) (fun t => t.ft 0 4 == 4000 && t.ft 0 5 == 0) = true ∧
    goes (exec (.policerSweep 1001000) (policed 2808 0 1000000)) (fun t => t.ft 0 4 == 2809 && t.ft 0 5 == 2000000) = true ∧
    goes (exec (.policerSweep 1003000) (policed 426 4000000 1002000)) (fun t => t.ft 0 4 == 427 && t.ft 0 5 == 6000000 &&
      (t.mark 0 0 1192).2 == .red && ((t.setFt 0 4 1618).mark 0 0 1192).2 == .green && ((t.setFt 0 4 1618).mark 0 0 1192).1.ft 0 4 == 426) = true := by
  refine ⟨?_, ?_, ?_⟩ <;> decide +kernel

/-- The example of the servo's arithmetic before R501. -/
theorem test_servo : let s := ((State.reset.set R.TB_SERVO_KP_SHIFT 2).set R.TB_SERVO_KI_SHIFT 6).servoRun 800 125000000 0
    s.tb.i = 109951 ∧ s.getSigned R.TB_RATE_NOW = 109951 + 1759218 := by decide +kernel

/-- The frame pulse of the example after R516: T_3, and the first edge at or after the local time that the example starts from. -/
theorem test_frame_pulse :
    let s := (((State.reset.set (R.TB_PG_START_NS 0) 1700000000014983333).set (R.TB_PG_START_FRAC_FRAC 0) 0x55555555).set (R.TB_PG_PERIOD_NS 0) 16683333).set
      (R.TB_PG_PERIOD_FRAC_FRAC 0) 0x55555555
    s.pgStart 0 + 3 * s.pgPeriod 0 = 1700000000065033333 * 2 ^ 32 + 0x55555554 ∧ s.pgFirst 0 1700000000031666666 = 1 ∧ s.pgFirst 0 1700000000031666667 = 2 := by
  decide +kernel

/-- The head of an access unit that says nothing. -/
def noHead : AuHead := ⟨false, false, ⟨false, 0, false, 0, 0, 0, 0, 0, 0, [], 0, false⟩, false⟩

/-- Round 1 of group 4 in the example after R165: weight 32, a task of 1 846 CU, 202 CU left. -/
theorem test_deficit :
    let s := (({ tasked [(0, { ({} : TaskEntry) with st := .ready, d := { cls := 5, group := 4, cost := 1846 } })] with drrGroup := 4 } : State).set
      (R.DSP_GROUP_WEIGHT_WEIGHT 4) 32)
    goes (exec (.taskDispatch noHead 0) s) (fun t => t.get (R.DSP_GROUP_DEFICIT_CU 4) == 202) = true := by
  decide +kernel

/-- A Sieve record of the example after R638, at raw time `at'`. -/
def rec638 (at' no source cls sev sus : Nat) : SieveRec := ⟨at', no, source, cls, sev, sev, false, false, false, false, sus, 1, 0, 0, 0⟩

/-- Records 1 and 2 of the example are in the ring; the window is 10 µs; the raw time is `at'`. -/
def sieve638 (at' : Nat) : State :=
  { State.reset.set R.SIEVE_CTRL_WINDOW_US 10 with
    recs := [(0, rec638 0 1 144 13 2 (suspect kEngine 5)), (1, rec638 0 2 423 19 1 (suspect kWlPort 2))], recno := 2, raw := at' }

/-- The example: at 2 µs the report of CE5 finds record 1 to fold into, at 50 µs that of CE9 none and makes a record of S2 that is not escalated, and at 51 µs that
of WL0 makes one that is escalated to S2. Classes and severities of the sources are those of the catalogue. -/
theorem test_sieve_example :
    ((sieve638 2000).foldTarget 13 (suspect kEngine 5) false).map (·.1) = some 0 ∧ slowCycles 2000 = 750 ∧
    ((sieve638 50000).foldTarget 13 (suspect kEngine 9) false).isNone = true ∧
    ([144, 152, 423, 413, 426].map (fun i => (State.reset.get (R.SIEVE_SRC_CFG_SEV i), State.reset.get (R.SIEVE_SRC_CFG_CLASS i)))) =
      [(2, 13), (2, 13), (1, 19), (1, 19), (1, 20)] ∧
    (let r := (sieve638 50000).recordOf 152 13 2 (suspect kEngine 9) 0 false
     (r.sev, r.escalated) = (2, false)) ∧
    (let r := (sieve638 51000).recordOf 413 19 1 (suspect kWlPort 0) 0 false
     (r.sev, r.escalated) = (2, true)) := by
  refine ⟨?_, ?_, ?_, ?_, ?_, ?_⟩ <;> decide +kernel

/-! ### Cryptography: published vectors of the standards that R141, R542 and R718 name -/

/-- SHA-384 of "abc": the example of FIPS 180-4. -/
theorem test_sha384_abc : sha384 [0x61, 0x62, 0x63] =
    0xcb00753f45a35e8bb5a03d699ac65007272c32ab0eded1631a8b605a43ff5bed8086072ba1e7cc2358baeca134c825a7 := by decide +kernel

/-- A signature of "sample" by the key of RFC 6979, A.2.6. -/
theorem test_ecdsa_p384 : ecdsaVerify 0xEC3A4E415B4E19A4568618029F427FA5DA9A8BC4AE92E02E06AAE5286B300C64DEF8F0EA9055866064A254515480BC13
    0x8015D9B72D7D57244EA8EF9AC0C621896708A59367F9DFB9F54CA84B3F1C9DB1288B231C3AE0D4FE7344FD2533264720 (sha384 [0x73, 0x61, 0x6D, 0x70, 0x6C, 0x65])
    0x94EDBB92A5ECB8AAD4736E56C691916B3F88140666CE9FA73D64C4EA95AD133C81A648152E44ACF96E36DD1E80FABE46
    0x99EF4AEB15F178CEA1FE40DB2603138F130E740A19624526203B6351D0A3A94FA329C145786E679E7B82C71A38628AC8 = true := by decide +kernel

/-- AES-256: the example of FIPS 197, appendix C.3. -/
theorem test_aes256 : aesEncrypt (aesKeys (List.range 32)) ((List.range 16).map (fun i => 17 * i)) =
    [0x8E, 0xA2, 0xB7, 0xCA, 0x51, 0x67, 0x45, 0xBF, 0xEA, 0xFC, 0x49, 0x90, 0x4B, 0x49, 0x60, 0x89] ∧
    aesDecrypt (aesKeys (List.range 32)) [0x8E, 0xA2, 0xB7, 0xCA, 0x51, 0x67, 0x45, 0xBF, 0xEA, 0xFC, 0x49, 0x90, 0x4B, 0x49, 0x60, 0x89] =
    (List.range 16).map (fun i => 17 * i) := by decide +kernel

end Sys2Proof.Tests
end

section
/-! The memories stay in canonical form: no function of the model writes a byte but by `State.setByte` and `State.setSeqByte`. A lemma `f_mems` says
that `f` leaves both memories as they are, for every property of them; a lemma `f_canonical` that it keeps their form. -/

namespace Sys2Proof.Machine

/-- The device memory and the sequencer memories of a state have a property. -/
def State.Mems (P : Memory → Memory → Prop) (s : State) : Prop := P s.mem s.seqMem

/-- The state that an outcome answers, where it answers one, has memories with a property. -/
def Out.Mems (P : Memory → Memory → Prop) (o : Out) : Prop := ∀ s, o = .next s → s.Mems P

/-- Both memories are in canonical form. -/
def Canonical (m q : Memory) : Prop := Memory.wf m = true ∧ Memory.wf q = true

variable {P : Memory → Memory → Prop}

/-- An update of other fields keeps what the memories have. -/
@[simp] theorem update_mems (s : State)
    {pending raw regs landed srwPend shadowNow rdLatch claimAt before pci wrHold poison seqBad threads turns cores tasks readyCtr mpcHeld hwSeq
      drrGroup drrOpen tickPend lastTick tickFrom moved relWait busy adm chans tb pgs encTags encWords memSts lanes ports pairs ingFifo ctl flowBad
      pools decs sbs tdms vcxo units engCtx rends prfOwn sclOwn coefs sclHeld proofs trayLines egPorts egFlows strs srtps epochs wl groups busFaultAt
      staged flowPort recs recno msixTable out freeCtr heath hlt pdk cons hcrs dmas dmaTurn ptp mcasts lostCmds rcpKeys svnMin boots bootPending
      pwrGood} :
    (State.mk pending raw regs landed srwPend shadowNow rdLatch claimAt before pci wrHold s.mem poison s.seqMem seqBad threads turns cores tasks
      readyCtr mpcHeld hwSeq drrGroup drrOpen tickPend lastTick tickFrom moved relWait busy adm chans tb pgs encTags encWords memSts lanes ports pairs
      ingFifo ctl flowBad pools decs sbs tdms vcxo units engCtx rends prfOwn sclOwn coefs sclHeld proofs trayLines egPorts egFlows strs srtps epochs wl
      groups busFaultAt staged flowPort recs recno msixTable out freeCtr heath hlt pdk cons hcrs dmas dmaTurn ptp mcasts lostCmds rcpKeys svnMin
      boots bootPending pwrGood).Mems P ↔ s.Mems P := Iff.rfl

@[simp] theorem next_mems {s : State} : Out.Mems P (.next s) ↔ s.Mems P := ⟨fun h => h s rfl, fun h _ e => Host.Outcome.next.inj e ▸ h⟩

@[simp] theorem ite_mems (c : Prop) [Decidable c] (s t : State) : (if c then s else t).Mems P ↔ if c then s.Mems P else t.Mems P := by
  split <;> rfl

/-- What a step keeps of every property, it keeps both ways. -/
theorem mems_iff_of_keeps {s t : State} (h : ∀ Q : Memory → Memory → Prop, s.Mems Q → t.Mems Q) : t.Mems P ↔ s.Mems P :=
  h (fun m q => P m q ↔ P s.mem s.seqMem) Iff.rfl

theorem elim_keeps_mems {α : Type} {o : Option α} {s : State} {f : α → State} (hs : s.Mems P) (hf : ∀ a, (f a).Mems P) :
    (o.elim s f).Mems P := by
  cases o with
  | none => exact hs
  | some a => exact hf a

theorem getD_keeps_mems {o : Option State} {s : State} (ho : ∀ t, o = some t → t.Mems P) (hs : s.Mems P) : (o.getD s).Mems P := by
  cases o with
  | none => exact hs
  | some t => exact ho t rfl

theorem ite_keeps_mems {c : Prop} [Decidable c] {s t : State} (hs : s.Mems P) (ht : t.Mems P) : (if c then s else t).Mems P := by
  split <;> assumption

@[simp] theorem foldl_mems {α : Type} {f : State → α → State} (h : ∀ s a, (f s a).Mems P ↔ s.Mems P) (l : List α) (s : State) :
    (l.foldl f s).Mems P ↔ s.Mems P := by
  induction l generalizing s with
  | nil => rfl
  | cons a l ih => exact (ih (f s a)).trans (h s a)

/-- A fold whose every step keeps what the memories have keeps it. -/
theorem foldl_keeps_mems {α : Type} {f : State → α → State} (h : ∀ s a, s.Mems P → (f s a).Mems P) (l : List α) {s : State}
    (hs : s.Mems P) : (l.foldl f s).Mems P := by
  induction l generalizing s with
  | nil => exact hs
  | cons a l ih => exact ih (h s a hs)

/-- The same of a fold that carries a value with the state. -/
theorem foldl_fst_keeps_mems {α β : Type} {f : State × β → α → State × β} (h : ∀ q a, q.1.Mems P → (f q a).1.Mems P) (l : List α)
    {q : State × β} (hq : q.1.Mems P) : (l.foldl f q).1.Mems P := by
  induction l generalizing q with
  | nil => exact hq
  | cons a l ih => exact ih (h q a hq)

/-- The state in a pair that a function answers. -/
theorem fst_mems {α : Type} {p : State × α} {t : State} {a : α} (e : p = (t, a)) (h : p.1.Mems P) : t.Mems P := by
  subst e; exact h

theorem snd_mems {α : Type} {p : α × State} {t : State} {a : α} (e : p = (a, t)) (h : p.2.Mems P) : t.Mems P := by
  subst e; exact h

section
variable {s : State} {f : State → State}

@[simp] theorem fault_mems {r : Fault} : Out.Mems P (.fault r) := by
  intro s e; cases e

theorem whenUp_mems (h : s.Mems P) (hf : (f s).Mems P) : (whenUp s f).Mems P := by
  unfold whenUp; split <;> simpa
theorem whenLive_mems (h : s.Mems P) (hf : (f s).Mems P) : (whenLive s f).Mems P := by
  unfold whenLive; split <;> simpa
theorem whenIngest_mems (h : s.Mems P) (hf : (f s).Mems P) : (whenIngest s f).Mems P := by
  unfold whenIngest; split <;> simpa
theorem whenWr_mems (h : s.Mems P) (hf : (f s).Mems P) : (whenWr s f).Mems P := by
  unfold whenWr; split <;> simpa

@[simp] theorem setByte_canonical (h : s.Mems Canonical) {a v} : (s.setByte a v).Mems Canonical := ⟨setByte_wf s a v h.1, h.2⟩
@[simp] theorem setSeqByte_canonical (h : s.Mems Canonical) {k v} : (s.setSeqByte k v).Mems Canonical := ⟨h.1, setSeqByte_wf s k v h.2⟩
end

section
variable {s : State}

/-! ### Shared operations -/

@[simp] theorem setReg_mems {k v} : (s.setReg k v).Mems P ↔ s.Mems P := by unfold State.setReg; simp
@[simp] theorem set_mems {f x} : (s.set f x).Mems P ↔ s.Mems P := by unfold State.set; simp
@[simp] theorem setFlag_mems {f b} : (s.setFlag f b).Mems P ↔ s.Mems P := by unfold State.setFlag; simp
@[simp] theorem markBefore_mems {cyc k} : (s.markBefore cyc k).Mems P ↔ s.Mems P := by unfold State.markBefore; simp
@[simp] theorem setTimed_mems {cyc k v} : (s.setTimed cyc k v).Mems P ↔ s.Mems P := by unfold State.setTimed; simp
@[simp] theorem add_mems {f n} : (s.add f n).Mems P ↔ s.Mems P := by unfold State.add; simp
@[simp] theorem inc_mems {f} : (s.inc f).Mems P ↔ s.Mems P := by unfold State.inc; simp
@[simp] theorem dec_mems {f} : (s.dec f).Mems P ↔ s.Mems P := by unfold State.dec; simp
@[simp] theorem incSat_mems {f} : (s.incSat f).Mems P ↔ s.Mems P := by unfold State.incSat; simp
@[simp] theorem setSigned_mems {f x} : (s.setSigned f x).Mems P ↔ s.Mems P := by unfold State.setSigned; simp
@[simp] theorem took_mems : (s.took).Mems P ↔ s.Mems P := by unfold State.took; simp

@[simp] theorem wr_canonical (h : s.Mems Canonical) {a n v} : (s.wr a n v).Mems Canonical := by
  induction n generalizing s a v with
  | zero => exact h
  | succ n ih => exact ih (setByte_canonical h)

@[simp] theorem setBytes_canonical (h : s.Mems Canonical) {a l} : (s.setBytes a l).Mems Canonical := by
  induction l generalizing s a with
  | nil => exact h
  | cons b l ih => exact ih (setByte_canonical h)

@[simp] theorem seqStore_canonical (h : s.Mems Canonical) {n half off l} : (s.seqStore n half off l).Mems Canonical :=
  foldl_keeps_mems (fun _ _ h => setSeqByte_canonical h) _ h

@[simp] theorem seqWr_canonical (h : s.Mems Canonical) {k n v} : (s.seqWr k n v).Mems Canonical := by
  induction n generalizing s k v with
  | zero => exact h
  | succ n ih => exact ih (setSeqByte_canonical h)

@[simp] theorem advance_mems {now} : (s.advance now).Mems P ↔ s.Mems P := by unfold State.advance; simp
@[simp] theorem emit_mems {o} : (s.emit o).Mems P ↔ s.Mems P := by unfold State.emit; simp
@[simp] theorem msix_mems {v} : (s.msix v).Mems P ↔ s.Mems P := by unfold State.msix; simp
@[simp] theorem setTurn_mems {t p} : (s.setTurn t p).Mems P ↔ s.Mems P := by unfold State.setTurn; simp
@[simp] theorem setThr_mems {i t} : (s.setThr i t).Mems P ↔ s.Mems P := by unfold State.setThr; simp
@[simp] theorem setCore_mems {k c} : (s.setCore k c).Mems P ↔ s.Mems P := by unfold State.setCore; simp
@[simp] theorem raiseLine_mems {k l} : (s.raiseLine k l).Mems P ↔ s.Mems P := by unfold State.raiseLine; simp
@[simp] theorem raiseLines_mems {l} : (s.raiseLines l).Mems P ↔ s.Mems P := by unfold State.raiseLines; simp
@[simp] theorem setEvent_mems {i e} : (s.setEvent i e).Mems P ↔ s.Mems P := by unfold State.setEvent; simp
@[simp] theorem postThread_mems {t e} : (s.postThread t e).Mems P ↔ s.Mems P := by unfold State.postThread; simp
@[simp] theorem postCh_mems {ch e} : (s.postCh ch e).Mems P ↔ s.Mems P := by unfold State.postCh; split <;> simp
@[simp] theorem notice_mems {kind} : (s.notice kind).Mems P ↔ s.Mems P := by unfold State.notice; simp
@[simp] theorem setChan_mems {ch c} : (s.setChan ch c).Mems P ↔ s.Mems P := by unfold State.setChan; simp
@[simp] theorem setTask_mems {e t} : (s.setTask e t).Mems P ↔ s.Mems P := by unfold State.setTask; simp
@[simp] theorem freeTask_mems {e} : (s.freeTask e).Mems P ↔ s.Mems P := by unfold State.freeTask; simp only; split <;> simp

@[simp] theorem ringWr_canonical (h : s.Mems Canonical) {i off r} : (s.ringWr i off r).Mems Canonical := by
  unfold State.ringWr
  extract_lets t v k
  split
  · exact (update_mems _).2 (seqWr_canonical h)
  · exact wr_canonical h

@[simp] theorem writeRec_canonical (h : s.Mems Canonical) {i r} : (s.writeRec i r).Mems Canonical := by
  unfold State.writeRec
  extract_lets t s1 s2 s3
  have h3 : s3.Mems Canonical := by simp [s3, s2, s1, h]
  split <;> simp [h3]

@[simp] theorem postErr_mems {i status} : (s.postErr i status).Mems P ↔ s.Mems P := by unfold State.postErr; simp

@[simp] theorem endTask_canonical (h : s.Mems Canonical) {e status cost} : (s.endTask e status cost).Mems Canonical := by
  unfold State.endTask; simp only; split <;> simp [h]

@[simp] theorem unlist_mems {e} : (s.unlist e).Mems P ↔ s.Mems P := by unfold State.unlist; simp only; split <;> simp
@[simp] theorem dropTask_canonical (h : s.Mems Canonical) {e status} : (s.dropTask e status).Mems Canonical := by unfold State.dropTask; simp [h]

@[simp] theorem stopTasks_canonical (h : s.Mems Canonical) {ch} : (s.stopTasks ch).Mems Canonical :=
  foldl_keeps_mems (fun _ _ h => dropTask_canonical h) _ h

@[simp] theorem toIdle_canonical (h : s.Mems Canonical) {t} : (s.toIdle t).Mems Canonical := by unfold State.toIdle; simp [h]

@[simp] theorem endBlockedIssue_mems {ch} : (s.endBlockedIssue ch).Mems P ↔ s.Mems P := by
  unfold State.endBlockedIssue
  refine foldl_mems (fun s p => ?_) _ s
  split <;> simp

@[simp] theorem beginRelease_mems {ch} : (s.beginRelease ch).Mems P ↔ s.Mems P := by unfold State.beginRelease; simp
@[simp] theorem askRelease_mems {ch} : (s.askRelease ch).Mems P ↔ s.Mems P := by unfold State.askRelease; simp

@[simp] theorem haltChannel_canonical (h : s.Mems Canonical) {ch} : (s.haltChannel ch).Mems Canonical := by
  unfold State.haltChannel
  simp only
  repeat' split
  all_goals simp [h]

@[simp] theorem stopChannel_canonical (h : s.Mems Canonical) {ch} : (s.stopChannel ch).Mems Canonical := by unfold State.stopChannel; simp [h]

/-! ### Memory accesses -/

@[simp] theorem rekey_canonical (h : s.Mems Canonical) {b} : (s.rekey b).Mems Canonical := by simp [State.rekey, h]
@[simp] theorem dSet_canonical (h : s.Mems Canonical) {a v} : (s.dSet a v).Mems Canonical := setByte_canonical (rekey_canonical h)

theorem dStore_go_canonical (h : s.Mems Canonical) {a l} : (State.dStore.go s a l).Mems Canonical := by
  induction l generalizing s a with
  | nil => exact h
  | cons b l ih => exact ih (dSet_canonical h)

@[simp] theorem dStore_canonical (h : s.Mems Canonical) {a l} : (s.dStore a l).Mems Canonical := update_mems _ |>.2 (dStore_go_canonical h)
@[simp] theorem dWr_canonical (h : s.Mems Canonical) {a n v} : (s.dWr a n v).Mems Canonical := dStore_canonical h
@[simp] theorem startRetire_mems {stack rank} : (s.startRetire stack rank).Mems P ↔ s.Mems P := by unfold State.startRetire; simp
@[simp] theorem setMemSt_mems {k m} : (s.setMemSt k m).Mems P ↔ s.Mems P := by unfold State.setMemSt; simp

/-! ### Tokens -/

@[simp] theorem setPool_mems {ch p} : (s.setPool ch p).Mems P ↔ s.Mems P := by unfold State.setPool; simp

theorem takeToken_mems {ch i t} (h : s.takeToken ch = some (i, t)) : t.Mems P ↔ s.Mems P := by
  unfold State.takeToken at h
  split at h
  · split at h
    · cases h; simp
    · cases h
  · cases h

@[simp] theorem returnToken_mems {ch i} : (s.returnToken ch i).Mems P ↔ s.Mems P := by unfold State.returnToken; simp
@[simp] theorem setDec_mems {ch d} : (s.setDec ch d).Mems P ↔ s.Mems P := by unfold State.setDec; simp
@[simp] theorem decPartLost_mems {ch no} : (s.decPartLost ch no).Mems P ↔ s.Mems P := by unfold State.decPartLost; simp

@[simp] theorem frameDone_mems {ch n} : (s.frameDone ch n).Mems P ↔ s.Mems P := by
  unfold State.frameDone
  simp only
  repeat' split
  all_goals simp

@[simp] theorem columnOver_mems {ch n r col} : (s.columnOver ch n r col).Mems P ↔ s.Mems P := by unfold State.columnOver; simp only; split <;> simp
@[simp] theorem sweepStopped_mems {ch} : (s.sweepStopped ch).Mems P ↔ s.Mems P := by unfold State.sweepStopped; simp

@[simp] theorem taskOver_canonical (h : s.Mems Canonical) {e status cost} : (s.taskOver e status cost).Mems Canonical := by
  unfold State.taskOver
  cases (s.task e).ch <;> simp [h]

/-! ### Reports and recovery -/

@[simp] theorem trayIdle_mems {u} : (s.trayIdle u).Mems P ↔ s.Mems P := by unfold State.trayIdle; simp
@[simp] theorem trayBusy_mems {u} : (s.trayBusy u).Mems P ↔ s.Mems P := by unfold State.trayBusy; simp

@[simp] theorem chargeNs_mems {u i a ch} : (s.chargeNs u i a ch).Mems P ↔ s.Mems P := by
  unfold State.chargeNs
  repeat' split
  all_goals simp

@[simp] theorem engIdle_mems {u} : (s.engIdle u).Mems P ↔ s.Mems P := by unfold State.engIdle; simp
@[simp] theorem freeUnit_mems {e} : (s.freeUnit e).Mems P ↔ s.Mems P := by unfold State.freeUnit; simp
@[simp] theorem substitute_mems {e} : (s.substitute e).Mems P ↔ s.Mems P := by unfold State.substitute; split <;> simp

@[simp] theorem breakTask_canonical (h : s.Mems Canonical) {e status} : (s.breakTask e status).Mems Canonical := by
  unfold State.breakTask
  simp only
  repeat' split
  all_goals simp [h]

@[simp] theorem isolateEngine_canonical (h : s.Mems Canonical) {e} : (s.isolateEngine e).Mems Canonical := by unfold State.isolateEngine; simp [h]
@[simp] theorem portDown_mems {m} : (s.portDown m).Mems P ↔ s.Mems P := by unfold State.portDown; simp
@[simp] theorem yieldGroup_mems {g} : (s.yieldGroup g).Mems P ↔ s.Mems P := by unfold State.yieldGroup; simp
@[simp] theorem wlCount_mems {p i n} : (s.wlCount p i n).Mems P ↔ s.Mems P := by unfold State.wlCount; simp
@[simp] theorem setWlPort_mems {p w} : (s.setWlPort p w).Mems P ↔ s.Mems P := by unfold State.setWlPort; simp
@[simp] theorem wlTrain_mems {p} : (s.wlTrain p).Mems P ↔ s.Mems P := by unfold State.wlTrain; simp
@[simp] theorem wlLose_mems {p} : (s.wlLose p).Mems P ↔ s.Mems P := by unfold State.wlLose; simp
@[simp] theorem wlHold_mems {p} : (s.wlHold p).Mems P ↔ s.Mems P := by unfold State.wlHold; simp

@[simp] theorem isolate_canonical (h : s.Mems Canonical) {sus} : (s.isolate sus).Mems Canonical := by
  unfold State.isolate
  extract_lets ix t s1
  split
  · exact isolateEngine_canonical h
  · exact foldl_keeps_mems (fun _ _ h => isolateEngine_canonical h) _ h
  · simp [s1, h]
  · split
    · simp [h]
    · exact h
  · simp [h]
  · simp [h]
  · exact stopChannel_canonical h
  · simp [h]
  · simp [h]
  · exact h

@[simp] theorem postFault_mems {sus} : (s.postFault sus).Mems P ↔ s.Mems P := by unfold State.postFault; simp
@[simp] theorem refreshClass_mems {c} : (s.refreshClass c).Mems P ↔ s.Mems P := by unfold State.refreshClass; simp
@[simp] theorem signal_mems {was v} : (s.signal was v).Mems P ↔ s.Mems P := by unfold State.signal; simp
@[simp] theorem haltDevice_mems {r} : (s.haltDevice r).Mems P ↔ s.Mems P := by unfold State.haltDevice; simp

@[simp] theorem act_canonical (h : s.Mems Canonical) {r} : (s.act r).Mems Canonical := by
  unfold State.act
  split
  · exact h
  · split <;> simp [h]

@[simp] theorem countReport_mems {source} : (s.countReport source).Mems P ↔ s.Mems P := by unfold State.countReport; simp
@[simp] theorem foldIn_canonical (h : s.Mems Canonical) {sev cls i r} : (s.foldIn sev cls i r).Mems Canonical := by unfold State.foldIn; simp [h]
@[simp] theorem pushRec_mems {r} : (s.pushRec r).Mems P ↔ s.Mems P := by unfold State.pushRec; simp
@[simp] theorem newRec_canonical (h : s.Mems Canonical) {r} : (s.newRec r).Mems Canonical := by unfold State.newRec; simp [h]

@[simp] theorem makeRec_canonical (h : s.Mems Canonical) {source sev cls sus detail inj} :
    (s.makeRec source sev cls sus detail inj).Mems Canonical := by
  unfold State.makeRec
  cases s.foldTarget cls sus inj <;> simp [h]

@[simp] theorem reportOne_canonical (h : s.Mems Canonical) {source sus detail inj} : (s.reportOne source sus detail inj).Mems Canonical := by
  unfold State.reportOne; simp [h]

@[simp] theorem report_canonical (h : s.Mems Canonical) {source sus detail inj} : (s.report source sus detail inj).Mems Canonical := by
  unfold State.report; simp [h]

@[simp] theorem blockNotice_canonical (h : s.Mems Canonical) {typeId} : (s.blockNotice typeId).Mems Canonical := by
  unfold State.blockNotice; simp [h]

@[simp] theorem addrError_canonical (h : s.Mems Canonical) {q} : (s.addrError q).Mems Canonical := by unfold State.addrError; simp [h]
@[simp] theorem unitStore_canonical (h : s.Mems Canonical) {t a l} : (s.unitStore t a l).Mems Canonical := by unfold State.unitStore; simp [h]
@[simp] theorem sieveAck_mems {recno} : (s.sieveAck recno).Mems P ↔ s.Mems P := by unfold State.sieveAck; split <;> simp
@[simp] theorem sieveHead_mems {v} : (s.sieveHead v).Mems P ↔ s.Mems P := by unfold State.sieveHead; simp
@[simp] theorem disown_mems {e} : (s.disown e).Mems P ↔ s.Mems P := by unfold State.disown; simp
@[simp] theorem disownLost_mems {e} : (s.disownLost e).Mems P ↔ s.Mems P := by unfold State.disownLost; simp

@[simp] theorem restoreEngine_mems {e} : (s.restoreEngine e).Mems P ↔ s.Mems P := by
  unfold State.restoreEngine
  cases tfind s.cons.iso e <;> simp

@[simp] theorem sieveRestore_mems {sus} : (s.sieveRestore sus).Mems P ↔ s.Mems P := by
  unfold State.sieveRestore
  simp only
  repeat' split
  all_goals simp

@[simp] theorem sieveInject_canonical (h : s.Mems Canonical) {source sus} : (s.sieveInject source sus).Mems Canonical := by
  unfold State.sieveInject; simp [h]

theorem execSieveReport_canonical (h : s.Mems Canonical) {source sus detail now} : (execSieveReport source sus detail now s).Mems Canonical := by
  unfold execSieveReport; exact whenUp_mems h (by simp [h])

theorem execSieveAck_mems (h : s.Mems P) {recno} : (execSieveAck recno s).Mems P := by unfold execSieveAck; exact whenUp_mems h (by simp [h])

theorem execSieveRingHeadWrite_mems (h : s.Mems P) {head} : (execSieveRingHeadWrite head s).Mems P := by
  unfold execSieveRingHeadWrite; exact whenUp_mems h (by simp [h])

theorem execSieveRestore_mems (h : s.Mems P) {sus} : (execSieveRestore sus s).Mems P := by
  unfold execSieveRestore; exact whenUp_mems h (by simp [h])

theorem execSieveInject_canonical (h : s.Mems Canonical) {source sus} : (execSieveInject source sus s).Mems Canonical := by
  unfold execSieveInject; exact whenUp_mems h (by simp [h])

theorem execSieveLock_mems (h : s.Mems P) : (execSieveLock s).Mems P := by unfold execSieveLock; exact whenUp_mems h (by simp [h])

/-! ### Timebase -/

@[simp] theorem fold_mems : (s.fold).Mems P ↔ s.Mems P := by unfold State.fold; simp
@[simp] theorem setRate_canonical (h : s.Mems Canonical) {x} : (s.setRate x).Mems Canonical := by unfold State.setRate; simp [h]
@[simp] theorem setPg_mems {g p} : (s.setPg g p).Mems P ↔ s.Mems P := by unfold State.setPg; simp
@[simp] theorem pgEnable_canonical (h : s.Mems Canonical) {g} : (s.pgEnable g).Mems Canonical := by unfold State.pgEnable; simp [h]
@[simp] theorem pgDisable_mems {g} : (s.pgDisable g).Mems P ↔ s.Mems P := by unfold State.pgDisable; simp
@[simp] theorem pgStep_mems {g} : (s.pgStep g).Mems P ↔ s.Mems P := by unfold State.pgStep; simp
@[simp] theorem newEpoch_mems : (s.newEpoch).Mems P ↔ s.Mems P := by unfold State.newEpoch; simp
@[simp] theorem applyStep_mems {d} : (s.applyStep d).Mems P ↔ s.Mems P := by unfold State.applyStep; simp
@[simp] theorem softStep_canonical (h : s.Mems Canonical) {d} : (s.softStep d).Mems Canonical := by unfold State.softStep; simp [h]
@[simp] theorem servoRun_canonical (h : s.Mems Canonical) {d r rp} : (s.servoRun d r rp).Mems Canonical := by unfold State.servoRun; simp [h]

@[simp] theorem servoSample_canonical (h : s.Mems Canonical) {m r} : (s.servoSample m r).Mems Canonical := by
  unfold State.servoSample
  simp only
  repeat' split
  all_goals simp [h]

@[simp] theorem sample_canonical (h : s.Mems Canonical) {source m r} : (s.sample source m r).Mems Canonical := by unfold State.sample; simp [h]
@[simp] theorem writeRate_canonical (h : s.Mems Canonical) {v} : (s.writeRate v).Mems Canonical := by unfold State.writeRate; simp [h]
@[simp] theorem writeGmId_mems {v} : (s.writeGmId v).Mems P ↔ s.Mems P := by unfold State.writeGmId; simp
@[simp] theorem tbSnap_mems : (s.tbSnap).Mems P ↔ s.Mems P := by unfold State.tbSnap; simp
theorem execTbSnap_mems (h : s.Mems P) {now} : (execTbSnap now s).Mems P := by unfold execTbSnap; exact whenWr_mems h (by simp [h])
theorem execNewEpoch_mems (h : s.Mems P) {now} : (execNewEpoch now s).Mems P := by unfold execNewEpoch; exact whenWr_mems h (by simp [h])

theorem execTbStep_canonical (h : s.Mems Canonical) {d now} : (execTbStep d now s).Mems Canonical := by
  unfold execTbStep; exact whenWr_mems h (by simp [h])

theorem execTimebaseSample_canonical (h : s.Mems Canonical) {m r now} : (execTimebaseSample m r now s).Mems Canonical := by
  unfold execTimebaseSample; exact whenWr_mems h (by simp [h])

theorem execRateFold_mems (h : s.Mems P) {now} : (execRateFold now s).Mems P := by unfold execRateFold; exact whenUp_mems h (by simp [h])

theorem execTbRateWrite_canonical (h : s.Mems Canonical) {v now} : (execTbRateWrite v now s).Mems Canonical := by
  unfold execTbRateWrite; exact whenWr_mems h (by simp [h])

theorem execTbGmIdWrite_mems (h : s.Mems P) {v} : (execTbGmIdWrite v s).Mems P := by unfold execTbGmIdWrite; exact whenWr_mems h (by simp [h])

theorem execHoldoverTimeout_canonical (h : s.Mems Canonical) {now} : (execHoldoverTimeout now s).Mems Canonical := by
  unfold execHoldoverTimeout; exact whenUp_mems h (by simp [h])

theorem execPpsEdge_canonical (h : s.Mems Canonical) {now} : (execPpsEdge now s).Mems Canonical := by
  unfold execPpsEdge; exact whenUp_mems h (by simp [h])

theorem execPgEnable_canonical (h : s.Mems Canonical) {g now} : (execPgEnable g now s).Mems Canonical := by
  unfold execPgEnable; exact whenWr_mems h (by simp [h])

theorem execPulseEnd_mems (h : s.Mems P) {g now} : (execPulseEnd g now s).Mems P := by
  unfold execPulseEnd
  refine whenUp_mems h ?_
  simp only
  split <;> simp [h]

/-! ### Frame memory -/

@[simp] theorem countCe_canonical (h : s.Mems Canonical) {stack rank} : (s.countCe stack rank).Mems Canonical := by unfold State.countCe; simp [h]
@[simp] theorem logUe_mems {stack rank a p syn} : (s.logUe stack rank a p syn).Mems P ↔ s.Mems P := by unfold State.logUe; simp
@[simp] theorem ue_canonical (h : s.Mems Canonical) {a stack rank syn} : (s.ue a stack rank syn).Mems Canonical := by unfold State.ue; simp [h]

@[simp] theorem setMemQueue_mems {stack pc rank bank q} : (s.setMemQueue stack pc rank bank q).Mems P ↔ s.Mems P := by
  unfold State.setMemQueue; simp

@[simp] theorem memServed_mems {l} : (s.memServed l).Mems P ↔ s.Mems P := by unfold State.memServed; simp
@[simp] theorem memEnqueue_mems {write a} : (s.memEnqueue write a).Mems P ↔ s.Mems P := by unfold State.memEnqueue; simp
@[simp] theorem memAccept_mems {write a n} : (s.memAccept write a n).Mems P ↔ s.Mems P := by unfold State.memAccept; simp

theorem memServe_canonical (h : s.Mems Canonical) {q a n ecc served} : (s.memServe q a n ecc served).1.Mems Canonical := by
  unfold State.memServe
  split
  · simp [h]
  split
  · exact h
  extract_lets p s1 svc err
  split
  next stack rank _ =>
  extract_lets s2 data bad
  have h2 : s2.Mems Canonical := by
    simp only [s2]
    split <;> simp [s1, h]
  simp [apply_ite Prod.fst, h2]

@[simp] theorem memRead_canonical (h : s.Mems Canonical) {q a n ecc served} : (s.memRead q a n ecc served).Mems Canonical := by
  unfold State.memRead
  split
  next t r e => simp [fst_mems e (memServe_canonical h)]

@[simp] theorem memWrite_canonical (h : s.Mems Canonical) {q a data} : (s.memWrite q a data).Mems Canonical := by unfold State.memWrite; simp [h]
@[simp] theorem touchStack_mems {k} : (s.touchStack k).Mems P ↔ s.Mems P := by unfold State.touchStack; simp

theorem memRequest_mems (h : s.Mems P) {r} {f : State → State} (hf : ∀ u : State, u.Mems P → (f u).Mems P) : (s.memRequest r f).Mems P := by
  unfold State.memRequest
  extract_lets k
  split
  · simp [h]
  · exact hf _ (by simp [h])

@[simp] theorem srExit_canonical (h : s.Mems Canonical) {k} : (s.srExit k).Mems Canonical := by
  unfold State.srExit
  extract_lets m s1
  have h1 : s1.Mems Canonical := by simp [s1, h]
  split
  · refine foldl_keeps_mems (fun s r h => ?_) _ h1
    extract_lets s1
    split <;> simp [s1, h]
  · exact h

theorem execMemoryRead_canonical (h : s.Mems Canonical) {q a n ecc served now} : (execMemoryRead q a n ecc served now s).Mems Canonical :=
  whenUp_mems h (memRequest_mems (advance_mems.2 h) fun _ hu => memRead_canonical hu)

theorem execMemoryWrite_canonical (h : s.Mems Canonical) {q a data now} : (execMemoryWrite q a data now s).Mems Canonical :=
  whenUp_mems h (memRequest_mems (advance_mems.2 h) fun _ hu => memWrite_canonical hu)

theorem execScrubRead_canonical (h : s.Mems Canonical) {k ecc now} : (execScrubRead k ecc now s).Mems Canonical := by
  unfold execScrubRead
  refine whenUp_mems h ?_
  split <;> simp [h]

theorem execMigrationCopyUnit_canonical (h : s.Mems Canonical) {now} : (execMigrationCopyUnit now s).Mems Canonical := by
  unfold execMigrationCopyUnit; exact whenUp_mems h (by simp [h])

theorem execBankRefresh_mems (h : s.Mems P) {k now} : (execBankRefresh k now s).Mems P := by
  unfold execBankRefresh; exact whenUp_mems h (by simp [h])

theorem execSelfRefreshEntry_mems (h : s.Mems P) {k now} : (execSelfRefreshEntry k now s).Mems P := by
  unfold execSelfRefreshEntry; exact whenUp_mems h (by simp [h])

theorem execSelfRefreshRetry_mems (h : s.Mems P) {k now} : (execSelfRefreshRetry k now s).Mems P := by
  unfold execSelfRefreshRetry; exact whenUp_mems h (by simp [h])

theorem execSelfRefreshExit_canonical (h : s.Mems Canonical) {k now} : (execSelfRefreshExit k now s).Mems Canonical := by
  unfold execSelfRefreshExit; exact whenUp_mems h (by simp [h])

/-! ### Media ports -/

@[simp] theorem setLane_mems {l x} : (s.setLane l x).Mems P ↔ s.Mems P := by unfold State.setLane; simp
@[simp] theorem eyeWindow_canonical (h : s.Mems Canonical) {l mv} : (s.eyeWindow l mv).Mems Canonical := by unfold State.eyeWindow; simp [h]

theorem execEyeWindow_canonical (h : s.Mems Canonical) {l mv now} : (execEyeWindow l mv now s).Mems Canonical := by
  unfold execEyeWindow; exact whenIngest_mems h (by simp [h])

theorem execForceCtle_mems (h : s.Mems P) {l} : (execForceCtle l s).Mems P := by unfold execForceCtle; exact whenWr_mems h (by simp [h])

theorem execLaneLockLoss_canonical (h : s.Mems Canonical) {l midFrame now} : (execLaneLockLoss l midFrame now s).Mems Canonical := by
  unfold execLaneLockLoss
  refine whenIngest_mems h ?_
  simp only
  repeat' split
  all_goals simp [h]

theorem execPortUp_mems (h : s.Mems P) {m now} : (execPortUp m now s).Mems P := by unfold execPortUp; exact whenIngest_mems h (by simp [h])
@[simp] theorem macReceive_mems {m f} : (s.macReceive m f).Mems P ↔ s.Mems P := by unfold State.macReceive; simp
@[simp] theorem macCut_mems {m} : (s.macCut m).Mems P ↔ s.Mems P := by unfold State.macCut; simp

theorem execMacFrameReceive_mems (h : s.Mems P) {m f now} : (execMacFrameReceive m f now s).Mems P := by
  unfold execMacFrameReceive; exact whenIngest_mems h (by simp [h])

/-! ### Claims -/

@[simp] theorem refuse_canonical (h : s.Mems Canonical) {off kind owner} : (s.refuse off kind owner).Mems Canonical := by
  unfold State.refuse; simp [h]

@[simp] theorem claimed_mems {off} : (s.claimed off).Mems P ↔ s.Mems P := by unfold State.claimed; simp

@[simp] theorem revoke_mems {o} : (s.revoke o).Mems P ↔ s.Mems P := by
  unfold State.revoke
  repeat' split
  all_goals simp

@[simp] theorem claim_canonical (h : s.Mems Canonical) {off owners} {no yes : State → State}
    (hno : ∀ u : State, (no u).Mems Canonical ↔ u.Mems Canonical) (hyes : ∀ u : State, (yes u).Mems Canonical ↔ u.Mems Canonical) :
    (s.claim off owners no yes).Mems Canonical := by
  unfold State.claim
  split
  · exact refuse_canonical ((hno _).2 h)
  · exact claimed_mems.2 ((hyes _).2 (foldl_keeps_mems (fun _ _ h => refuse_canonical (by simp [h])) _ h))

/-! ### Audio -/

@[simp] theorem setSb_mems {b x} : (s.setSb b x).Mems P ↔ s.Mems P := by unfold State.setSb; simp

@[simp] theorem writeSample_canonical (h : s.Mems Canonical) {b n c v inserted} : (s.writeSample b n c v inserted).Mems Canonical := by
  unfold State.writeSample; simp [h]

@[simp] theorem keepVuc_mems {b n c v} : (s.keepVuc b n c v).Mems P ↔ s.Mems P := by unfold State.keepVuc; simp
@[simp] theorem setTdm_mems {p x} : (s.setTdm p x).Mems P ↔ s.Mems P := by unfold State.setTdm; simp
@[simp] theorem sbPeriod_mems {b} : (s.sbPeriod b).Mems P ↔ s.Mems P := by unfold State.sbPeriod; simp
@[simp] theorem showFill_mems {p} : (s.showFill p).Mems P ↔ s.Mems P := by unfold State.showFill; simp
@[simp] theorem refSlip_canonical (h : s.Mems Canonical) {p tx} : (s.refSlip p tx).Mems Canonical := by unfold State.refSlip; simp [h]

@[simp] theorem portMediaRx_canonical (h : s.Mems Canonical) {p} : (s.portMediaRx p).Mems Canonical := by
  unfold State.portMediaRx
  extract_lets x
  split
  · exact h
  split
  next frame ins rest _ =>
  extract_lets s1 s2
  have h1 : s1.Mems Canonical := by simp [s1, h]
  have h2 : s2.Mems Canonical := foldl_keeps_mems (fun s i h => by split <;> simp [h]) _ h1
  simp [h2]

@[simp] theorem portMediaTx_canonical (h : s.Mems Canonical) {p} : (s.portMediaTx p).Mems Canonical := by unfold State.portMediaTx; simp [h]

@[simp] theorem mediaPeriod_canonical (h : s.Mems Canonical) {r96} : (s.mediaPeriod r96).Mems Canonical := by
  unfold State.mediaPeriod
  split
  · exact h
  extract_lets ports s1 s2
  have h1 : s1.Mems Canonical := foldl_keeps_mems (fun _ _ h => portMediaRx_canonical h) _ h
  have h2 : s2.Mems Canonical := foldl_keeps_mems (fun _ _ h => by simp [h]) _ h1
  exact foldl_keeps_mems (fun _ _ h => by simp [h]) _ h2

@[simp] theorem portStart_mems {p n0} : (s.portStart p n0).Mems P ↔ s.Mems P := by unfold State.portStart; simp
@[simp] theorem frameBoundary_mems {p} : (s.frameBoundary p).Mems P ↔ s.Mems P := by unfold State.frameBoundary; simp
@[simp] theorem pinFrame_canonical (h : s.Mems Canonical) {p din} : (s.pinFrame p din).Mems Canonical := by unfold State.pinFrame; simp [h]

@[simp] theorem audArm_canonical (h : s.Mems Canonical) {set pg arm} : (s.audArm set pg arm).Mems Canonical := by
  unfold State.audArm
  extract_lets s1 s2
  have h2 : s2.Mems Canonical := by simp [s2, s1, h]
  split
  · exact h
  · split <;> simp [h2]

@[simp] theorem audPulse_mems {g} : (s.audPulse g).Mems P ↔ s.Mems P := by unfold State.audPulse; simp
@[simp] theorem vcxoRun_canonical (h : s.Mems Canonical) {sub} : (s.vcxoRun sub).Mems Canonical := by unfold State.vcxoRun; simp [h]

theorem audCopy_canonical (h : s.Mems Canonical) {p} : (s.audCopy p).1.Mems Canonical := by
  unfold State.audCopy
  extract_lets t
  split
  · simp [apply_ite Prod.fst, h]
  · exact foldl_keeps_mems (fun _ _ h => foldl_keeps_mems (fun _ _ h => writeSample_canonical h) _ h) _ h

@[simp] theorem audPacket_canonical (h : s.Mems Canonical) {f ts data} : (s.audPacket f ts data).Mems Canonical := by
  unfold State.audPacket
  extract_lets b w ch n0
  refine foldl_keeps_mems (fun s i h => foldl_keeps_mems (fun s c h => ?_) _ h) _ h
  simp [h]

theorem execTdmPinFrame_canonical (h : s.Mems Canonical) {p din now} : (execTdmPinFrame p din now s).Mems Canonical := by
  unfold execTdmPinFrame
  refine whenLive_mems h ?_
  simp only
  split <;> simp [h]

theorem execPortNoClock_canonical (h : s.Mems Canonical) {p now} : (execPortNoClock p now s).Mems Canonical := by
  unfold execPortNoClock; exact whenLive_mems h (by simp [h])

@[simp] theorem maskWrite_mems {p tx m} : (s.maskWrite p tx m).Mems P ↔ s.Mems P := by unfold State.maskWrite; simp

theorem execAudPortMaskWrite_mems (h : s.Mems P) {p tx m} : (execAudPortMaskWrite p tx m s).Mems P := by
  unfold execAudPortMaskWrite; exact whenWr_mems h (by simp [h])

theorem execVcxoLoopRun_canonical (h : s.Mems Canonical) {sub now} : (execVcxoLoopRun sub now s).Mems Canonical := by
  unfold execVcxoLoopRun; exact whenLive_mems h (by simp [h])

theorem execAudStartArm_canonical (h : s.Mems Canonical) {set pg} : (execAudStartArm set pg s).Mems Canonical := by
  unfold execAudStartArm; exact whenWr_mems h (by simp [h])

theorem execPulseDue_mems (h : s.Mems P) {g now} : (execPulseDue g now s).Mems P := by unfold execPulseDue; exact whenUp_mems h (by simp [h])

/-! ### Decoding -/

@[simp] theorem decFault_mems {ch detail} : (s.decFault ch detail).Mems P ↔ s.Mems P := by unfold State.decFault; simp
@[simp] theorem closeAu_mems {ch timeout} : (s.closeAu ch timeout).Mems P ↔ s.Mems P := by unfold State.closeAu; simp only; split <;> simp

@[simp] theorem auBytes_canonical (h : s.Mems Canonical) {ch ts stamp data head newUnit} :
    (s.auBytes ch ts stamp data head newUnit).Mems Canonical := by
  unfold State.auBytes; simp only; split <;> simp [h]

@[simp] theorem auRtp_canonical (h : s.Mems Canonical) {ch ts stamp marker data} : (s.auRtp ch ts stamp marker data).Mems Canonical := by
  unfold State.auRtp; simp [h]

@[simp] theorem flush302_canonical (h : s.Mems Canonical) {ch} : (s.flush302 ch).Mems Canonical := by
  unfold State.flush302
  extract_lets d b frames ticks x n0 s1
  split
  · exact h
  exact foldl_keeps_mems (fun _ _ h => foldl_keeps_mems (fun _ _ h => writeSample_canonical h) _ h) _ (by simp [s1, h])

@[simp] theorem auTs_canonical (h : s.Mems Canonical) {ch stamp p} : (s.auTs ch stamp p).Mems Canonical := by
  unfold State.auTs
  simp only
  repeat' split
  all_goals simp [h]

@[simp] theorem decBegin_mems {ch u a3} : (s.decBegin ch u a3).Mems P ↔ s.Mems P := by
  unfold State.decBegin
  repeat' split
  all_goals simp

@[simp] theorem decStart_mems {ch p a3} : (s.decStart ch p a3).Mems P ↔ s.Mems P := by unfold State.decStart; simp only; split <;> simp

@[simp] theorem reAnchor_mems {ch u} : (s.reAnchor ch u).Mems P ↔ s.Mems P := by
  unfold State.reAnchor
  repeat' split
  all_goals simp

@[simp] theorem decFaults_mems {ch u} : (s.decFaults ch u).Mems P ↔ s.Mems P := by unfold State.decFaults; simp
@[simp] theorem picDone_mems {ch buf u} : (s.picDone ch buf u).Mems P ↔ s.Mems P := by unfold State.picDone; simp

@[simp] theorem writeOut_canonical (h : s.Mems Canonical) {ch b l} : (s.writeOut ch b l).Mems Canonical := by
  unfold State.writeOut
  exact foldl_keeps_mems (fun s x h => by split <;> simp [h]) _ h

theorem decEnd_canonical (h : s.Mems Canonical) {ch p no r} : (s.decEnd ch p no r).1.Mems Canonical := by
  unfold State.decEnd
  split
  · exact h
  next u _ =>
  extract_lets bad n u1 s1 s2 d
  have h1 : s1.Mems Canonical := by
    simp only [s1]
    split <;> simp [h]
  split
  · simp [h1]
  have h2 : s2.Mems Canonical := by
    simp only [s2]
    split <;> simp [h1]
  simp [h2]

@[simp] theorem sweepLost_mems {ch} : (s.sweepLost ch).Mems P ↔ s.Mems P := by
  unfold State.sweepLost
  refine foldl_mems (fun s u => ?_) _ s
  extract_lets d u1 s1 d1
  have h1 : s1.Mems P ↔ s.Mems P := by
    simp only [s1]
    split <;> simp
  simp [h1]

@[simp] theorem decOutput_mems {ch n pic rep} : (s.decOutput ch n pic rep).Mems P ↔ s.Mems P := by
  unfold State.decOutput
  simp only
  repeat' split
  all_goals simp

@[simp] theorem outputFrame_mems {ch} : (s.outputFrame ch).Mems P ↔ s.Mems P := by unfold State.outputFrame; simp only; split <;> simp
@[simp] theorem hostAck_mems {ch ix} : (s.hostAck ch ix).Mems P ↔ s.Mems P := by unfold State.hostAck; simp

theorem execAuTimeout_mems (h : s.Mems P) {ch now} : (execAuTimeout ch now s).Mems P := by
  unfold execAuTimeout
  refine whenLive_mems h ?_
  simp only
  split <;> simp [h]

theorem execDecodeOutputFrame_mems (h : s.Mems P) {ch now} : (execDecodeOutputFrame ch now s).Mems P := by
  unfold execDecodeOutputFrame; exact whenLive_mems h (by simp [h])

theorem execDecHostAck_mems (h : s.Mems P) {ch ix} : (execDecHostAck ch ix s).Mems P := by unfold execDecHostAck; exact whenWr_mems h (by simp [h])

/-! ### Ingest -/

@[simp] theorem setFt_mems {e i v} : (s.setFt e i v).Mems P ↔ s.Mems P := by unfold State.setFt; simp
@[simp] theorem refillEntry_mems {e} : (s.refillEntry e).Mems P ↔ s.Mems P := by unfold State.refillEntry; simp
theorem mark_mems {e dscp b} : (s.mark e dscp b).1.Mems P ↔ s.Mems P := by unfold State.mark; simp [apply_ite Prod.fst]
@[simp] theorem sweep_mems : (s.sweep).Mems P ↔ s.Mems P := by unfold State.sweep; simp
@[simp] theorem setFrame_mems {ch fr} : (s.setFrame ch fr).Mems P ↔ s.Mems P := by unfold State.setFrame; simp

@[simp] theorem writeRun_canonical (h : s.Mems Canonical) {f ch n r} : (s.writeRun f ch n r).Mems Canonical := by
  unfold State.writeRun; split <;> simp [h]

@[simp] theorem writeVideo_canonical (h : s.Mems Canonical) {f ch n runs} : (s.writeVideo f ch n runs).Mems Canonical := by
  unfold State.writeVideo
  extract_lets k done open0 s1
  have h1 : s1.Mems Canonical := foldl_keeps_mems (fun _ _ h => writeRun_canonical h) _ h
  exact foldl_keeps_mems (fun _ _ h => by simp [h]) _ h1

@[simp] theorem setPair_mems {p x} : (s.setPair p x).Mems P ↔ s.Mems P := by unfold State.setPair; simp
@[simp] theorem leaveWindow_mems {p gone} : (s.leaveWindow p gone).Mems P ↔ s.Mems P := by unfold State.leaveWindow; simp

theorem mergePacket_mems {p b q} : (s.mergePacket p b q).1.Mems P ↔ s.Mems P := by
  unfold State.mergePacket
  extract_lets x x1 x2 me w
  split
  · simp
  · simp [apply_ite Prod.fst]

@[simp] theorem openFrame_canonical (h : s.Mems Canonical) {ch ts} : (s.openFrame ch ts).Mems Canonical := by
  unfold State.openFrame
  extract_lets c inst m n s1
  split
  · simp [h]
  split
  · simp [h]
  split
  · next i t e => simp [(takeToken_mems e).2 h]
  · simp [s1, h]

theorem videoFate_canonical (h : s.Mems Canonical) {ch ts runs} : (s.videoFate ch ts runs).1.Mems Canonical := by
  unfold State.videoFate
  split
  · exact h
  extract_lets c newer s1 c1
  have h1 : s1.Mems Canonical := by simp [s1, h]
  repeat' split
  all_goals exact h1

theorem writeAnc_canonical (h : s.Mems Canonical) {ch ts data} : (s.writeAnc ch ts data).1.Mems Canonical := by
  unfold State.writeAnc
  extract_lets body count m snap a old len n s1
  split
  · exact h
  split
  · exact h
  · exact setBytes_canonical (wr_canonical (wr_canonical (wr_canonical (wr_canonical h))))

@[simp] theorem exit_mems {f i} : (s.exit f i).Mems P ↔ s.Mems P := by unfold State.exit; simp
@[simp] theorem unmatched_canonical (h : s.Mems Canonical) {r full} : (s.unmatched r full).Mems Canonical := by unfold State.unmatched; simp [h]

@[simp] theorem deliver_canonical (h : s.Mems Canonical) {f p} : (s.deliver f p).Mems Canonical := by
  unfold State.deliver
  extract_lets ch d
  split
  · split
    · next t e => simp [fst_mems e (videoFate_canonical h)]
    · next t e => simp [fst_mems e (videoFate_canonical h)]
    · next t n e => simp [fst_mems e (videoFate_canonical h)]
  · simp [h]
  · split
    · next t e => simp [fst_mems e (writeAnc_canonical h)]
    · next t e => simp [fst_mems e (writeAnc_canonical h)]
  · split
    · simp [h]
    · exact exit_mems.2 (foldl_keeps_mems (fun _ _ h => auTs_canonical h) _ h)
  · split <;> simp [h]

@[simp] theorem mergeAndDeliver_canonical (h : s.Mems Canonical) {f p} : (s.mergeAndDeliver f p).Mems Canonical := by
  unfold State.mergeAndDeliver
  extract_lets pr b
  split
  · split
    next q wide _ =>
    generalize (if wide then q else (s.pair pr).extend q) = n
    split
    · next t e => simp [fst_mems e (mergePacket_mems.2 h)]
    · next t e => simp [fst_mems e (mergePacket_mems.2 h)]
    · next t e => simp [fst_mems e (mergePacket_mems.2 h)]
  · simp [h]

@[simp] theorem flowPacket_canonical (h : s.Mems Canonical) {e r u} : (s.flowPacket e r u).Mems Canonical := by
  unfold State.flowPacket
  extract_lets f b s1 s2
  have h2 : s2.Mems Canonical := by simp [s2, s1, h]
  split
  · simp [h2]
  split
  next t col e =>
  have ht : t.Mems Canonical := fst_mems e (mark_mems.2 (by simp [h2]))
  split
  · simp [ht]
  split <;> simp [ht]

@[simp] theorem ingest_canonical (h : s.Mems Canonical) {r full} : (s.ingest r full).Mems Canonical := by
  unfold State.ingest
  split
  · split <;> simp [h]
  · simp [h]

theorem execIngestPacket_canonical (h : s.Mems Canonical) {full now} : (execIngestPacket full now s).Mems Canonical := by
  unfold execIngestPacket
  refine whenIngest_mems h ?_
  simp only
  split <;> simp [h]

theorem execPolicerSweep_mems (h : s.Mems P) {now} : (execPolicerSweep now s).Mems P := by
  unfold execPolicerSweep; exact whenIngest_mems h (by simp [h])

theorem execPathSilent_canonical (h : s.Mems Canonical) {p b now} : (execPathSilent p b now s).Mems Canonical := by
  unfold execPathSilent; exact whenIngest_mems h (by simp [h])

theorem execFlowTableEcc_canonical (h : s.Mems Canonical) {e now} : (execFlowTableEcc e now s).Mems Canonical := by
  unfold execFlowTableEcc; exact whenIngest_mems h (by simp [h])

@[simp] theorem ingSelect_mems {w f} : (s.ingSelect w f).Mems P ↔ s.Mems P := by unfold State.ingSelect; simp
theorem execIngIndSel_mems (h : s.Mems P) {w f} : (execIngIndSel w f s).Mems P := by unfold execIngIndSel; exact whenWr_mems h (by simp [h])

/-! ### Renditions -/

@[simp] theorem setRend_mems {ch r x} : (s.setRend ch r x).Mems P ↔ s.Mems P := by unfold State.setRend; simp
@[simp] theorem showSlots_mems {ch r} : (s.showSlots ch r).Mems P ↔ s.Mems P := by unfold State.showSlots; simp

theorem dropProof_mems {ch r t} (e : s.dropProof ch r = some t) : t.Mems P ↔ s.Mems P := by
  unfold State.dropProof at e
  split at e
  · cases e; simp
  · cases e

theorem needSlot_mems {k ch r} : (State.needSlot k s ch r).2.Mems P ↔ s.Mems P := by
  induction k generalizing s with
  | zero => rfl
  | succ k ih =>
    unfold State.needSlot
    split
    · rfl
    split
    · next t e => exact ih.trans (dropProof_mems e)
    · rfl

theorem pictureStart_canonical (h : s.Mems Canonical) {ch r p eng} : (s.pictureStart ch r p eng).1.Mems Canonical := by
  unfold State.pictureStart
  extract_lets x x1 s1
  have h1 : s1.Mems Canonical := by simp [s1, h]
  split
  · next i t e => simp [snd_mems e (needSlot_mems.2 h1)]
  · next t e => simp [snd_mems e (needSlot_mems.2 h1)]

@[simp] theorem planPic_mems {ch r n b refs used} : (s.planPic ch r n b refs used).Mems P ↔ s.Mems P := by unfold State.planPic; simp
@[simp] theorem planGop_mems {ch r} : (s.planGop ch r).Mems P ↔ s.Mems P := by unfold State.planGop; simp

@[simp] theorem planTo_mems {k ch r j} : (State.planTo k s ch r j).Mems P ↔ s.Mems P := by
  induction k generalizing s with
  | zero => rfl
  | succ k ih =>
    unfold State.planTo
    split
    · rfl
    · exact ih.trans planGop_mems

@[simp] theorem columnCoded_mems {ch r n c} : (s.columnCoded ch r n c).Mems P ↔ s.Mems P := by unfold State.columnCoded; simp
@[simp] theorem repeatPic_mems {ch r q} : (s.repeatPic ch r q).Mems P ↔ s.Mems P := by unfold State.repeatPic; simp
@[simp] theorem pictureEnd_mems {ch r p} : (s.pictureEnd ch r p).Mems P ↔ s.Mems P := by unfold State.pictureEnd; simp

/-! ### Rate control -/

@[simp] theorem cpbAdvance_mems {ch r} : (s.cpbAdvance ch r).Mems P ↔ s.Mems P := by unfold State.cpbAdvance; simp only; split <;> simp
@[simp] theorem cpbClip_mems {ch r} : (s.cpbClip ch r).Mems P ↔ s.Mems P := by unfold State.cpbClip; simp
@[simp] theorem putUnit_mems {u} : (s.putUnit u).Mems P ↔ s.Mems P := by unfold State.putUnit; simp
@[simp] theorem openUnit_mems {u} : (s.openUnit u).Mems P ↔ s.Mems P := by unfold State.openUnit; simp
@[simp] theorem toCrust_mems {u c k budget} : (s.toCrust u c k budget).Mems P ↔ s.Mems P := by unfold State.toCrust; simp
@[simp] theorem ctuStart_mems {e} : (s.ctuStart e).Mems P ↔ s.Mems P := by unfold State.ctuStart; split <;> simp
@[simp] theorem commitCtu_mems {u c k b} : (s.commitCtu u c k b).Mems P ↔ s.Mems P := by unfold State.commitCtu; simp
@[simp] theorem rollBack_mems {u c k} : (s.rollBack u c k).Mems P ↔ s.Mems P := by unfold State.rollBack; simp
@[simp] theorem ctuComplete_mems {e b} : (s.ctuComplete e b).Mems P ↔ s.Mems P := by unfold State.ctuComplete; split <;> simp
@[simp] theorem trayRead_mems {t a} : (s.trayRead t a).Mems P ↔ s.Mems P := by unfold State.trayRead; simp
@[simp] theorem trayReads_mems {e reads} : (s.trayReads e reads).Mems P ↔ s.Mems P := by unfold State.trayReads; simp
@[simp] theorem dropTray_mems {t} : (s.dropTray t).Mems P ↔ s.Mems P := by unfold State.dropTray; simp
@[simp] theorem removeUnit_mems {u} : (s.removeUnit u).Mems P ↔ s.Mems P := by unfold State.removeUnit; simp
@[simp] theorem setGapBits_mems {ch r} : (s.setGapBits ch r).Mems P ↔ s.Mems P := by unfold State.setGapBits; simp
@[simp] theorem cpbStart_mems {ch k t} : (s.cpbStart ch k t).Mems P ↔ s.Mems P := by unfold State.cpbStart; simp

/-! ### Proofing -/

@[simp] theorem writeSeeds_canonical (h : s.Mems Canonical) {ch snap first l} : (s.writeSeeds ch snap first l).Mems Canonical := by
  unfold State.writeSeeds; simp [h]

@[simp] theorem writeQuarter_canonical (h : s.Mems Canonical) {ch snap q} : (s.writeQuarter ch snap q).Mems Canonical := by
  unfold State.writeQuarter; simp [h]

@[simp] theorem keepCplx_mems {ch n first l cut} : (s.keepCplx ch n first l cut).Mems P ↔ s.Mems P := by unfold State.keepCplx; split <;> simp

theorem execProofingSlotStart_mems (h : s.Mems P) {ch now} : (execProofingSlotStart ch now s).Mems P := by
  unfold execProofingSlotStart; exact whenLive_mems h (by simp [h])

@[simp] theorem writeSlice_mems {ch k snap l rep cut} : (s.writeSlice ch k snap l rep cut).Mems P ↔ s.Mems P := by unfold State.writeSlice; simp
@[simp] theorem openBand_mems {ch sl late cut} : (s.openBand ch sl late cut).Mems P ↔ s.Mems P := by unfold State.openBand; simp

@[simp] theorem sclBand_canonical (h : s.Mems Canonical) {ch k snap tok r} : (s.sclBand ch k snap tok r).Mems Canonical := by
  unfold State.sclBand; simp [h]

@[simp] theorem sclBands_canonical (h : s.Mems Canonical) {ch sl tok late} : (s.sclBands ch sl tok late).Mems Canonical :=
  foldl_keeps_mems (fun _ _ h => sclBand_canonical h) _ h

@[simp] theorem slotEnd_canonical (h : s.Mems Canonical) {ch done late} : (s.slotEnd ch done late).Mems Canonical := by
  unfold State.slotEnd
  extract_lets c sl snap lo first n tok q l undone cut s1 s2 s3 s4 s5 s6 s7 last seen c1 new new1
  have h1 : s1.Mems Canonical := by simp [s1, h]
  have h2 : s2.Mems Canonical := by
    simp only [s2]
    cases tok with
    | none => exact h1
    | some t => exact keepCplx_mems.2 (sclBands_canonical (writeQuarter_canonical (writeSeeds_canonical h1)))
  have h4 : s4.Mems Canonical := by simp [s4, s3, h2]
  simp [s7, s6, s5, h4]

theorem execProofingSlotEnd_canonical (h : s.Mems Canonical) {ch blocks late now} : (execProofingSlotEnd ch blocks late now s).Mems Canonical := by
  unfold execProofingSlotEnd; exact whenLive_mems h (by simp [h])

@[simp] theorem setRing_mems {ch snap i v} : (s.setRing ch snap i v).Mems P ↔ s.Mems P := by unfold State.setRing; simp

@[simp] theorem ringRecord_mems {ch snap flags cplx intra inter} : (s.ringRecord ch snap flags cplx intra inter).Mems P ↔ s.Mems P := by
  unfold State.ringRecord; simp

@[simp] theorem decideFlash_mems {ch snap stillCut} : (s.decideFlash ch snap stillCut).Mems P ↔ s.Mems P := by unfold State.decideFlash; simp
@[simp] theorem finalise_mems {ch snap la} : (s.finalise ch snap la).Mems P ↔ s.Mems P := by unfold State.finalise; simp
@[simp] theorem prfRepeat_mems {ch snap} : (s.prfRepeat ch snap).Mems P ↔ s.Mems P := by unfold State.prfRepeat; simp

@[simp] theorem prfRecord_canonical (h : s.Mems Canonical) {ch snap tok flags done} : (s.prfRecord ch snap tok flags done).Mems Canonical := by
  unfold State.prfRecord; simp [h]

@[simp] theorem sclBuild_canonical (h : s.Mems Canonical) {ch p} : (s.sclBuild ch p).Mems Canonical := by
  unfold State.sclBuild; simp only; split <;> simp [h]

@[simp] theorem coefLoad_mems : (s.coefLoad).Mems P ↔ s.Mems P := by unfold State.coefLoad; simp
theorem execSclCoefLoad_mems (h : s.Mems P) : (execSclCoefLoad s).Mems P := by unfold execSclCoefLoad; exact whenWr_mems h (by simp [h])

theorem execProofingBufEcc_canonical (h : s.Mems Canonical) {ch touched now} : (execProofingBufEcc ch touched now s).Mems Canonical := by
  unfold execProofingBufEcc; exact whenLive_mems h (by simp [h])

theorem execScalerBufEcc_canonical (h : s.Mems Canonical) {p r now} : (execScalerBufEcc p r now s).Mems Canonical := by
  unfold execScalerBufEcc; exact whenLive_mems h (by simp [h])

/-! ### Motion -/

@[simp] theorem writeRecon_canonical (h : s.Mems Canonical) {u l} : (s.writeRecon u l).Mems Canonical := by
  unfold State.writeRecon
  split
  · exact h
  · exact foldl_keeps_mems (fun s x h => by split <;> simp [h]) _ h

theorem execCtuStart_mems (h : s.Mems P) {e now} : (execCtuStart e now s).Mems P := by unfold execCtuStart; exact whenLive_mems h (by simp [h])
@[simp] theorem keepVectors_mems {u c k v} : (s.keepVectors u c k v).Mems P ↔ s.Mems P := by unfold State.keepVectors; simp

@[simp] theorem ctuWork_canonical (h : s.Mems Canonical) {e bits w} : (s.ctuWork e bits w).Mems Canonical := by
  unfold State.ctuWork; split <;> simp [h]

theorem execCtuComplete_canonical (h : s.Mems Canonical) {e bits work now} : (execCtuComplete e bits work now s).Mems Canonical := by
  unfold execCtuComplete; exact whenLive_mems h (by simp [h])

/-! ### Encoding -/

@[simp] theorem engError_mems {e code} : (s.engError e code).Mems P ↔ s.Mems P := by unfold State.engError; simp
@[simp] theorem loadCtx_mems {e mode ch r col snap} : (s.loadCtx e mode ch r col snap).Mems P ↔ s.Mems P := by unfold State.loadCtx; simp
@[simp] theorem onEngine_mems {e t st} : (s.onEngine e t st).Mems P ↔ s.Mems P := by unfold State.onEngine; simp

@[simp] theorem endAtOnce_canonical (h : s.Mems Canonical) {t status} : (s.endAtOnce t status).Mems Canonical := by
  unfold State.endAtOnce; simp [h]

@[simp] theorem showSplices_mems {ch} : (s.showSplices ch).Mems P ↔ s.Mems P := by unfold State.showSplices; simp
@[simp] theorem addSplice_mems {ch snap id} : (s.addSplice ch snap id).Mems P ↔ s.Mems P := by unfold State.addSplice; simp
@[simp] theorem dropSplice_mems {ch snap} : (s.dropSplice ch snap).Mems P ↔ s.Mems P := by unfold State.dropSplice; simp
@[simp] theorem missSplices_mems {ch upTo} : (s.missSplices ch upTo).Mems P ↔ s.Mems P := by unfold State.missSplices; simp
@[simp] theorem pictureCoded_mems {ch snap irap} : (s.pictureCoded ch snap irap).Mems P ↔ s.Mems P := by unfold State.pictureCoded; simp
@[simp] theorem encPlan_mems {ch p} : (s.encPlan ch p).Mems P ↔ s.Mems P := by unfold State.encPlan; simp

@[simp] theorem frameUnit_mems {ch r j} : (s.frameUnit ch r j).Mems P ↔ s.Mems P := by
  unfold State.frameUnit
  repeat' split
  all_goals simp

@[simp] theorem takeSlot_canonical (h : s.Mems Canonical) {u e} : (s.takeSlot u e).Mems Canonical := by
  unfold State.takeSlot
  split
  · exact h
  split
  · exact h
  split
  next t ok e =>
  have ht : t.Mems Canonical := fst_mems e (pictureStart_canonical h)
  split <;> simp [ht]

@[simp] theorem repeatOf_mems {u} : (s.repeatOf u).Mems P ↔ s.Mems P := by unfold State.repeatOf; split <;> simp

@[simp] theorem encBegin_canonical (h : s.Mems Canonical) {u c e t p missing} : (s.encBegin u c e t p missing).Mems Canonical := by
  unfold State.encBegin
  simp only
  repeat' split
  all_goals simp [h]

@[simp] theorem encStart_canonical (h : s.Mems Canonical) {e t} : (s.encStart e t).Mems Canonical := by
  unfold State.encStart
  simp only
  repeat' split
  all_goals simp [h]

@[simp] theorem encEnd_canonical (h : s.Mems Canonical) {t} : (s.encEnd t).Mems Canonical := by unfold State.encEnd; simp only; split <;> simp [h]
@[simp] theorem tasteBand_mems {u band flags t} : (s.tasteBand u band flags t).Mems P ↔ s.Mems P := by unfold State.tasteBand; simp
@[simp] theorem tasteSummary_mems {u} : (s.tasteSummary u).Mems P ↔ s.Mems P := by unfold State.tasteSummary; simp
@[simp] theorem tasteUnit_mems {u l} : (s.tasteUnit u l).Mems P ↔ s.Mems P := by unfold State.tasteUnit; simp

@[simp] theorem selectSlice_mems {u c band ctus crc} : (s.selectSlice u c band ctus crc).Mems P ↔ s.Mems P := by
  unfold State.selectSlice; split <;> simp

@[simp] theorem selectUnit_mems {u crcs} : (s.selectUnit u crcs).Mems P ↔ s.Mems P := by
  unfold State.selectUnit
  split
  · rfl
  extract_lets bands
  refine foldl_mems (fun s p => ?_) _ s
  split
  · rfl
  · split <;> simp

@[simp] theorem advanceRefresh_mems {u} : (s.advanceRefresh u).Mems P ↔ s.Mems P := by unfold State.advanceRefresh; simp

@[simp] theorem closePicture_mems {u} : (s.closePicture u).Mems P ↔ s.Mems P := by
  unfold State.closePicture
  simp only
  repeat' split
  all_goals simp

@[simp] theorem countUnit_mems {u} : (s.countUnit u).Mems P ↔ s.Mems P := by unfold State.countUnit; simp
@[simp] theorem assemble_mems {u a} : (s.assemble u a).Mems P ↔ s.Mems P := by unfold State.assemble; simp

theorem dueUnit_mems {ch r} : (s.dueUnit ch r).1.Mems P ↔ s.Mems P := by
  unfold State.dueUnit
  split <;> simp

theorem execCodingDeadline_mems (h : s.Mems P) {ch r a now} : (execCodingDeadline ch r a now s).Mems P := by
  unfold execCodingDeadline
  refine whenLive_mems h ?_
  extract_lets s1
  have h1 : s1.Mems P := by simp [s1, h]
  split
  · exact h1
  split
  · exact h1
  split
  next t u e =>
  have ht : t.Mems P := fst_mems e (dueUnit_mems.2 h1)
  split
  · exact h1
  · split <;> simp [h1, ht]

@[simp] theorem proofBreak_mems {e code} : (s.proofBreak e code).Mems P ↔ s.Mems P := by unfold State.proofBreak; split <;> simp

theorem execEngineSramEcc_canonical (h : s.Mems Canonical) {e now} : (execEngineSramEcc e now s).Mems Canonical := by
  unfold execEngineSramEcc; exact whenLive_mems h (by simp [h])

theorem execEngineTimeout_canonical (h : s.Mems Canonical) {e now} : (execEngineTimeout e now s).Mems Canonical := by
  unfold execEngineTimeout
  refine whenLive_mems h ?_
  simp only
  split <;> simp [h]

theorem execRefCacheEcc_canonical (h : s.Mems Canonical) {t now} : (execRefCacheEcc t now s).Mems Canonical := by
  unfold execRefCacheEcc; exact whenLive_mems h (by simp [h])

theorem execEngineIsolate_canonical (h : s.Mems Canonical) {e} : (execEngineIsolate e s).Mems Canonical := by
  unfold execEngineIsolate; exact whenWr_mems h (by simp [h])

theorem execEngineRestore_mems (h : s.Mems P) {e} : (execEngineRestore e s).Mems P := by
  unfold execEngineRestore; exact whenWr_mems h (by simp [h])

theorem execTrayInvalidate_mems (h : s.Mems P) {t} : (execTrayInvalidate t s).Mems P := by
  unfold execTrayInvalidate; exact whenWr_mems h (by simp [h])

@[simp] theorem proofStart_mems {e} : (s.proofStart e).Mems P ↔ s.Mems P := by unfold State.proofStart; split <;> simp
@[simp] theorem dropRecord_mems {p} : (s.dropRecord p).Mems P ↔ s.Mems P := by unfold State.dropRecord; simp
@[simp] theorem blameEngine_canonical (h : s.Mems Canonical) {e} : (s.blameEngine e).Mems Canonical := by unfold State.blameEngine; simp [h]

@[simp] theorem proofEnd_canonical (h : s.Mems Canonical) {e crc} : (s.proofEnd e crc).Mems Canonical := by
  unfold State.proofEnd
  repeat' split
  all_goals simp [h]

theorem execProofEnd_canonical (h : s.Mems Canonical) {e crc reads now} : (execProofEnd e crc reads now s).Mems Canonical := by
  unfold execProofEnd; exact whenLive_mems h (by simp [h])

@[simp] theorem proofAge_canonical (h : s.Mems Canonical) : (s.proofAge).Mems Canonical := by unfold State.proofAge; split <;> simp [h]

theorem execProofAgeExpiry_canonical (h : s.Mems Canonical) {now} : (execProofAgeExpiry now s).Mems Canonical := by
  unfold execProofAgeExpiry; exact whenLive_mems h (by simp [h])

/-! ### Egress -/

@[simp] theorem setFlowTx_mems {f x} : (s.setFlowTx f x).Mems P ↔ s.Mems P := by unfold State.setFlowTx; simp
@[simp] theorem setTxPort_mems {p x} : (s.setTxPort p x).Mems P ↔ s.Mems P := by unfold State.setTxPort; simp
@[simp] theorem egEnable_mems {f} : (s.egEnable f).Mems P ↔ s.Mems P := by unfold State.egEnable; simp
@[simp] theorem egDisable_mems {f} : (s.egDisable f).Mems P ↔ s.Mems P := by unfold State.egDisable; simp
@[simp] theorem enqueue_mems {p q w f} : (s.enqueue p q w f).Mems P ↔ s.Mems P := by unfold State.enqueue; simp
@[simp] theorem offer_canonical (h : s.Mems Canonical) {f path l} : (s.offer f path l).Mems Canonical := by unfold State.offer; simp [h]
theorem numberFrames_mems {f l} : (s.numberFrames f l).1.Mems P ↔ s.Mems P := by unfold State.numberFrames; simp

@[simp] theorem sendUnit_canonical (h : s.Mems Canonical) {f l} : (s.sendUnit f l).Mems Canonical := by
  unfold State.sendUnit
  extract_lets room lost
  split
  next t l e =>
  have ht : t.Mems Canonical := fst_mems e (numberFrames_mems.2 h)
  extract_lets s1 dual s2 s3 s4
  have h3 : s3.Mems Canonical := by simp [s3, s2, s1, ht]
  have h4 : s4.Mems Canonical := by simp [s4, h3]
  split
  · exact h3
  · exact report_canonical (ite_keeps_mems (by simp [h4]) h4)

@[simp] theorem present_canonical (h : s.Mems Canonical) {f claim unit rel l} : (s.present f claim unit rel l).Mems Canonical := by
  unfold State.present; simp [h]

@[simp] theorem presentLocal_canonical (h : s.Mems Canonical) {f rel l} : (s.presentLocal f rel l).Mems Canonical := by
  unfold State.presentLocal; simp [h]

@[simp] theorem presentStaged_canonical (h : s.Mems Canonical) {u} : (s.presentStaged u).Mems Canonical := by
  unfold State.presentStaged
  split
  · exact h
  · split <;> simp [h]

@[simp] theorem releaseStaged_canonical (h : s.Mems Canonical) {ok} : (s.releaseStaged ok).Mems Canonical := by
  unfold State.releaseStaged; exact foldl_keeps_mems (fun _ _ h => presentStaged_canonical h) _ (by simp [h])

@[simp] theorem gateChange_mems {p} : (s.gateChange p).Mems P ↔ s.Mems P := by unfold State.gateChange; simp
@[simp] theorem gateActivate_mems {p} : (s.gateActivate p).Mems P ↔ s.Mems P := by unfold State.gateActivate; simp
@[simp] theorem gateAdvance_mems {p} : (s.gateAdvance p).Mems P ↔ s.Mems P := by unfold State.gateAdvance; simp

@[simp] theorem markLate_mems {p q} : (s.markLate p q).Mems P ↔ s.Mems P := by
  unfold State.markLate
  simp only
  repeat' split
  all_goals simp

@[simp] theorem dequeue_mems {p q} : (s.dequeue p q).Mems P ↔ s.Mems P := by
  unfold State.dequeue
  simp only
  repeat' split
  all_goals simp

@[simp] theorem frameStart_mems {p} : (s.frameStart p).Mems P ↔ s.Mems P := by
  unfold State.frameStart
  simp only
  repeat' split
  all_goals simp

@[simp] theorem frameDoneTx_mems {p} : (s.frameDoneTx p).Mems P ↔ s.Mems P := by unfold State.frameDoneTx; split <;> simp

theorem execEgressFrameStart_mems (h : s.Mems P) {p now} : (execEgressFrameStart p now s).Mems P := by
  unfold execEgressFrameStart; exact whenLive_mems h (by simp [h])

theorem execEgressFrameDone_mems (h : s.Mems P) {p now} : (execEgressFrameDone p now s).Mems P := by
  unfold execEgressFrameDone; exact whenLive_mems h (by simp [h])

theorem execGateChange_mems (h : s.Mems P) {p now} : (execGateChange p now s).Mems P := by unfold execGateChange; exact whenWr_mems h (by simp [h])

theorem execGateListActivate_mems (h : s.Mems P) {p now} : (execGateListActivate p now s).Mems P := by
  unfold execGateListActivate; exact whenLive_mems h (by simp [h])

theorem execGateEntryAdvance_mems (h : s.Mems P) {p now} : (execGateEntryAdvance p now s).Mems P := by
  unfold execGateEntryAdvance; exact whenLive_mems h (by simp [h])

@[simp] theorem egrSelect_mems {w f} : (s.egrSelect w f).Mems P ↔ s.Mems P := by unfold State.egrSelect; simp
theorem execEgrIndSel_mems (h : s.Mems P) {w f} : (execEgrIndSel w f s).Mems P := by unfold execEgrIndSel; exact whenWr_mems h (by simp [h])
@[simp] theorem srtpLoad_mems {k} : (s.srtpLoad k).Mems P ↔ s.Mems P := by unfold State.srtpLoad; simp
theorem execSrtpLoad_mems (h : s.Mems P) {k} : (execSrtpLoad k s).Mems P := by unfold execSrtpLoad; exact whenWr_mems h (by simp [h])
@[simp] theorem srtpSlot_mems {f k} : (s.srtpSlot f k).Mems P ↔ s.Mems P := by unfold State.srtpSlot; simp

theorem execSrtpSlotWrite_mems (h : s.Mems P) {f k} : (execSrtpSlotWrite f k s).Mems P := by
  unfold execSrtpSlotWrite; exact whenWr_mems h (by simp [h])

/-! ### Transport streams -/

@[simp] theorem setStr_mems {i x} : (s.setStr i x).Mems P ↔ s.Mems P := by unfold State.setStr; simp
@[simp] theorem streamVideo_mems {u n} : (s.streamVideo u n).Mems P ↔ s.Mems P := by unfold State.streamVideo; simp
@[simp] theorem countPicture_mems {u} : (s.countPicture u).Mems P ↔ s.Mems P := by unfold State.countPicture; simp

@[simp] theorem releaseUnit_canonical (h : s.Mems Canonical) {u n} : (s.releaseUnit u n).Mems Canonical := by
  unfold State.releaseUnit
  extract_lets s1 s2 hd s3 x s4 n1 i s5
  have h4 : s4.Mems Canonical := by simp [s4, s3, s2, s1, h]
  have h5 : s5.Mems Canonical := by
    simp only [s5]
    split
    · exact foldl_keeps_mems (fun _ _ h => presentLocal_canonical h) _ h4
    · exact h4
  simp [h5]

@[simp] theorem releaseNext_canonical (h : s.Mems Canonical) {ch r n} : (s.releaseNext ch r n).Mems Canonical := by
  unfold State.releaseNext; split <;> simp [h]

theorem execSliceRelease_canonical (h : s.Mems Canonical) {ch r n now} : (execSliceRelease ch r n now s).Mems Canonical := by
  unfold execSliceRelease; exact whenLive_mems h (by simp [h])

theorem execPictureRelease_canonical (h : s.Mems Canonical) {ch r n now} : (execPictureRelease ch r n now s).Mems Canonical := by
  unfold execPictureRelease; exact whenLive_mems h (by simp [h])

@[simp] theorem lateRelease_canonical (h : s.Mems Canonical) {ch r n} : (s.lateRelease ch r n).Mems Canonical := by
  unfold State.lateRelease; split <;> simp [h]

theorem execLateRelease_canonical (h : s.Mems Canonical) {ch r n now} : (execLateRelease ch r n now s).Mems Canonical := by
  unfold execLateRelease; exact whenLive_mems h (by simp [h])

@[simp] theorem muxStart_mems {t} : (s.muxStart t).Mems P ↔ s.Mems P := by unfold State.muxStart; simp

@[simp] theorem tsDatagram_canonical (h : s.Mems Canonical) {i} : (s.tsDatagram i).Mems Canonical := by
  unfold State.tsDatagram
  extract_lets x raw n next steps disc due tdg v pcr psi f f1 x1 x2 s1 s2 s3 s4
  have h3 : s3.Mems Canonical := by simp [s3, s2, s1, h]
  have h4 : s4.Mems Canonical := foldl_keeps_mems (fun _ _ h => endTask_canonical h) _ h3
  exact foldl_keeps_mems (fun _ _ h => presentLocal_canonical h) _ h4

theorem execTsDatagramRelease_canonical (h : s.Mems Canonical) {i now} : (execTsDatagramRelease i now s).Mems Canonical := by
  unfold execTsDatagramRelease; exact whenLive_mems h (by simp [h])

theorem skipDatagrams_mems {f n k nals} : (s.skipDatagrams f n k nals).1.Mems P ↔ s.Mems P := by unfold State.skipDatagrams; simp

theorem execSkipUnitEmit_canonical (h : s.Mems Canonical) {f n k nals now} : (execSkipUnitEmit f n k nals now s).Mems Canonical := by
  unfold execSkipUnitEmit
  refine whenLive_mems h ?_
  extract_lets s1 ch t last x s2
  have h1 : s1.Mems Canonical := by simp [s1, h]
  have h2 : s2.Mems Canonical := by simp [s2, h1]
  split
  · split
    · simp [h2]
    · split
      next u l e => simp [fst_mems e (skipDatagrams_mems.2 h2)]
  · exact h1

@[simp] theorem scteSend_mems {ch t cancel} : (s.scteSend ch t cancel).Mems P ↔ s.Mems P := by unfold State.scteSend; simp

@[simp] theorem spliceOne_mems {ch snap q} : (s.spliceOne ch snap q).Mems P ↔ s.Mems P := by
  refine mems_iff_of_keeps fun Q h => ?_
  unfold State.spliceOne
  split
  have h1 : ((s.inc (R.MUX_CNT_COUNT 0)).postCh ch 8).Mems Q := by simp [h]
  refine ite_keeps_mems ?_ (ite_keeps_mems h1 ?_)
  · split
    · exact h1
    · exact scteSend_mems.2 (inc_mems.2 (showSplices_mems.2 (setChan_mems.2 h1)))
  · refine ite_keeps_mems (c := 4 ≤ _) (addSplice_mems.2 h1) ?_
    exact scteSend_mems.2 (setChan_mems.2 (addSplice_mems.2 h1))

@[simp] theorem spliceConvert_mems {ch snap} : (s.spliceConvert ch snap).Mems P ↔ s.Mems P := by unfold State.spliceConvert; split <;> simp
@[simp] theorem scteResend_mems {ch} : (s.scteResend ch).Mems P ↔ s.Mems P := by unfold State.scteResend; simp only; split <;> simp

theorem execScte35Resend_mems (h : s.Mems P) {ch now} : (execScte35Resend ch now s).Mems P := by
  unfold execScte35Resend; exact whenLive_mems h (by simp [h])

@[simp] theorem ancRelease_canonical (h : s.Mems Canonical) {ch} : (s.ancRelease ch).Mems Canonical := by
  unfold State.ancRelease
  extract_lets c snap s1
  have h1 : s1.Mems Canonical := by simp [s1, h]
  split
  · exact h1
  · exact foldl_keeps_mems (fun _ _ h => presentLocal_canonical h) _ h1

theorem execAncPacketRelease_canonical (h : s.Mems Canonical) {ch now} : (execAncPacketRelease ch now s).Mems Canonical := by
  unfold execAncPacketRelease; exact whenLive_mems h (by simp [h])

@[simp] theorem audioFlow_canonical (h : s.Mems Canonical) {f} : (s.audioFlow f).Mems Canonical := by unfold State.audioFlow; simp [h]
@[simp] theorem audioPes_mems {i} : (s.audioPes i).Mems P ↔ s.Mems P := by unfold State.audioPes; simp
@[simp] theorem audioStream_mems {i} : (s.audioStream i).Mems P ↔ s.Mems P := by unfold State.audioStream; simp

theorem execMediaSamplePeriod_canonical (h : s.Mems Canonical) {r96 now} : (execMediaSamplePeriod r96 now s).Mems Canonical := by
  unfold execMediaSamplePeriod
  refine whenLive_mems h ?_
  extract_lets s1 s2
  have h1 : s1.Mems Canonical := by simp [s1, h]
  have h2 : s2.Mems Canonical := foldl_keeps_mems (fun _ _ h => audioFlow_canonical h) _ h1
  exact foldl_keeps_mems (fun _ _ h => by simp [h]) _ h2

@[simp] theorem keepFrame_mems {ch n} : (s.keepFrame ch n).Mems P ↔ s.Mems P := by unfold State.keepFrame; simp
@[simp] theorem keepSei_mems {ch snap} : (s.keepSei ch snap).Mems P ↔ s.Mems P := by unfold State.keepSei; simp
@[simp] theorem muxHandover_mems {ch snap} : (s.muxHandover ch snap).Mems P ↔ s.Mems P := by unfold State.muxHandover; simp

theorem execVideoPacketPacing_canonical (h : s.Mems Canonical) {f per bytes now} : (execVideoPacketPacing f per bytes now s).Mems Canonical := by
  unfold execVideoPacketPacing
  refine whenLive_mems h ?_
  simp only
  split <;> simp [h]

/-! ### Dispatcher -/

@[simp] theorem charge_mems {ch b cost} : (s.charge ch b cost).Mems P ↔ s.Mems P := by unfold State.charge; simp
@[simp] theorem makeReady_mems {e cyc} : (s.makeReady e cyc).Mems P ↔ s.Mems P := by unfold State.makeReady; simp

@[simp] theorem accept_mems {i e d ch at'} : (s.accept i e d ch at').Mems P ↔ s.Mems P := by
  unfold State.accept
  extract_lets t s1 s2 s3 s4 s5
  have h1 : s1.Mems P ↔ s.Mems P := by
    simp only [s1]
    split <;> simp
  have h5 : s5.Mems P ↔ s.Mems P := by
    simp only [s5]
    split <;> simp [s4, s3, s2, h1]
  split <;> simp [h5]

theorem issue_mems {i d at' tested} : (s.issue i d at' tested).1.Mems P ↔ s.Mems P := by
  unfold State.issue
  extract_lets ch
  repeat' split
  all_goals simp

@[simp] theorem onUnit_mems {u e} : (s.onUnit u e).Mems P ↔ s.Mems P := by unfold State.onUnit; simp
@[simp] theorem startDec_canonical (h : s.Mems Canonical) {u e a3} : (s.startDec u e a3).Mems Canonical := by unfold State.startDec; simp [h]

@[simp] theorem startPrf_canonical (h : s.Mems Canonical) {u e} : (s.startPrf u e).Mems Canonical := by
  unfold State.startPrf
  simp only
  repeat' split
  all_goals simp [h]

@[simp] theorem startScl_canonical (h : s.Mems Canonical) {u e} : (s.startScl u e).Mems Canonical := by unfold State.startScl; simp [h]
@[simp] theorem startMove_canonical (h : s.Mems Canonical) {u e} : (s.startMove u e).Mems Canonical := by unfold State.startMove; simp [h]

@[simp] theorem dispatch_canonical (h : s.Mems Canonical) {u e a3} : (s.dispatch u e a3).Mems Canonical := by
  unfold State.dispatch; simp only; split <;> simp [h]

theorem drrVisit_canonical (h : s.Mems Canonical) {hd} : (s.drrVisit hd).1.Mems Canonical := by
  unfold State.drrVisit
  extract_lets g next l q0
  split
  · simp [next, h]
  split
  · simp [next, h]
  · extract_lets c s1
    have h1 : s1.Mems Canonical := by simp [s1, h]
    split
    · simp [next, h]
    · exact dispatch_canonical ((update_mems _).2 h1)

@[simp] theorem drrScan_canonical (h : s.Mems Canonical) {hd n} : (s.drrScan hd n).Mems Canonical := by
  induction n generalizing s with
  | zero => exact h
  | succ n ih =>
    unfold State.drrScan
    split
    next t done e =>
    have ht : t.Mems Canonical := fst_mems e (drrVisit_canonical h)
    split
    · exact ht
    · exact ih ht

theorem execTaskDispatch_canonical (h : s.Mems Canonical) {a0 now} : (execTaskDispatch a0 now s).Mems Canonical := by
  unfold execTaskDispatch; exact whenLive_mems h (by simp [h])

theorem execDirectDispatch_canonical (h : s.Mems Canonical) {e a1 now} : (execDirectDispatch e a1 now s).Mems Canonical := by
  unfold execDirectDispatch
  refine whenLive_mems h ?_
  simp only
  repeat' split
  all_goals simp [h]

theorem execProofStart_mems (h : s.Mems P) {e now} : (execProofStart e now s).Mems P := by
  unfold execProofStart; exact whenLive_mems h (by simp [h])

@[simp] theorem wake_mems {t e} : (s.wake t e).Mems P ↔ s.Mems P := by unfold State.wake; simp

theorem execSeqTaskPost_canonical (h : s.Mems Canonical) : (execSeqTaskPost s).Mems Canonical := by
  unfold execSeqTaskPost
  refine whenLive_mems h ?_
  simp only
  split <;> simp [h]

theorem execMpcTaskDispatch_canonical (h : s.Mems Canonical) {now} : (execMpcTaskDispatch now s).Mems Canonical := by
  unfold execMpcTaskDispatch
  refine whenLive_mems h ?_
  simp only
  repeat' split
  all_goals simp [h]

@[simp] theorem taskEnd_canonical (h : s.Mems Canonical) {e r} : (s.taskEnd e r).Mems Canonical := by
  unfold State.taskEnd
  extract_lets t ch cost
  split
  · split <;> simp [h]
  · split
    next u bad n e =>
    have hu : u.Mems Canonical := fst_mems e (decEnd_canonical h)
    extract_lets s1 s2
    have h2 : s2.Mems Canonical := by simp [s2, s1, hu]
    simp [h2]
  · exact taskOver_canonical (freeUnit_mems.2 (prfRecord_canonical h))
  · exact taskOver_canonical (freeUnit_mems.2 (sclBuild_canonical h))
  · split
    next u st e => exact taskOver_canonical (freeUnit_mems.2 (fst_mems e (audCopy_canonical h)))
  · exact h

theorem execTaskEnd_canonical (h : s.Mems Canonical) {e r reads now} : (execTaskEnd e r reads now s).Mems Canonical := by
  unfold execTaskEnd; exact whenLive_mems h (by simp [h])

theorem execHeldRecordWrite_canonical (h : s.Mems Canonical) {a} : (execHeldRecordWrite a s).Mems Canonical := by
  unfold execHeldRecordWrite
  refine whenLive_mems h ?_
  simp only
  split <;> simp [h]

@[simp] theorem moveReady_mems {e} : (s.moveReady e).Mems P ↔ s.Mems P := by unfold State.moveReady; simp

@[simp] theorem tick_mems : (s.tick).Mems P ↔ s.Mems P := by
  unfold State.tick
  simp only
  repeat' split
  all_goals simp

theorem execDispatcherTick_mems (h : s.Mems P) {now} : (execDispatcherTick now s).Mems P := by
  unfold execDispatcherTick; exact whenLive_mems h (by simp [h])

@[simp] theorem writeTick_mems {v} : (s.writeTick v).Mems P ↔ s.Mems P := by unfold State.writeTick; simp
theorem execDspTickWrite_mems (h : s.Mems P) {v} : (execDspTickWrite v s).Mems P := by unfold execDspTickWrite; exact whenWr_mems h (by simp [h])
@[simp] theorem refund_mems {e} : (s.refund e).Mems P ↔ s.Mems P := by unfold State.refund; simp only; split <;> simp
@[simp] theorem withdraw_mems {e} : (s.withdraw e).Mems P ↔ s.Mems P := by unfold State.withdraw; simp only; split <;> simp
@[simp] theorem undispatch_mems {e} : (s.undispatch e).Mems P ↔ s.Mems P := by unfold State.undispatch; simp only; split <;> simp
theorem cancel_canonical (h : s.Mems Canonical) {hd} : (s.cancel hd).1.Mems Canonical := by unfold State.cancel; simp [apply_ite Prod.fst, h]

@[simp] theorem dspCancel_canonical (h : s.Mems Canonical) {hd} : (s.dspCancel hd).Mems Canonical := by
  unfold State.dspCancel
  split
  next t r e => simp [fst_mems e (cancel_canonical h)]

theorem execDspCancel_canonical (h : s.Mems Canonical) {a0} : (execDspCancel a0 s).Mems Canonical := by
  unfold execDspCancel; exact whenWr_mems h (by simp [h])

@[simp] theorem admResult_mems {ch res resource tray} : (s.admResult ch res resource tray).Mems P ↔ s.Mems P := by unfold State.admResult; simp
@[simp] theorem openWindow_mems {ch} : (s.openWindow ch).Mems P ↔ s.Mems P := by unfold State.openWindow; simp
@[simp] theorem ownTray_mems {ch t m} : (s.ownTray ch t m).Mems P ↔ s.Mems P := by unfold State.ownTray; simp
@[simp] theorem admitDecl_mems {ch d} : (s.admitDecl ch d).Mems P ↔ s.Mems P := by unfold State.admitDecl; simp

@[simp] theorem admitCh_canonical (h : s.Mems Canonical) {ch} : (s.admitCh ch).Mems Canonical := by
  unfold State.admitCh
  simp only
  repeat' split
  all_goals simp [h]

@[simp] theorem freePipes_mems {ch} : (s.freePipes ch).Mems P ↔ s.Mems P := by unfold State.freePipes; simp
@[simp] theorem disownTray_mems {ch t m} : (s.disownTray ch t m).Mems P ↔ s.Mems P := by unfold State.disownTray; simp
@[simp] theorem returnAdm_mems {ch} : (s.returnAdm ch).Mems P ↔ s.Mems P := by unfold State.returnAdm; simp only; split <;> simp

@[simp] theorem admCmd_canonical (h : s.Mems Canonical) {ch op} : (s.admCmd ch op).Mems Canonical := by
  unfold State.admCmd
  repeat' split
  all_goals simp [h]

theorem execAdmit_canonical (h : s.Mems Canonical) {ch} : (execAdmit ch s).Mems Canonical := by unfold execAdmit; exact whenWr_mems h (by simp [h])

theorem execRelease_canonical (h : s.Mems Canonical) {ch} : (execRelease ch s).Mems Canonical := by
  unfold execRelease; exact whenWr_mems h (by simp [h])

theorem execReleaseComplete_mems (h : s.Mems P) {ch} : (execReleaseComplete ch s).Mems P := by
  unfold execReleaseComplete; exact whenUp_mems h (by simp [h])

theorem execMpcAge_canonical (h : s.Mems Canonical) {now} : (execMpcAge now s).Mems Canonical := by
  unfold execMpcAge
  refine whenLive_mems h ?_
  simp only
  split <;> simp [h]

@[simp] theorem entryEcc_canonical (h : s.Mems Canonical) {e} : (s.entryEcc e).Mems Canonical := by
  unfold State.entryEcc; simp only; split <;> simp [h]

theorem execEntryEcc_canonical (h : s.Mems Canonical) {e now} : (execEntryEcc e now s).Mems Canonical := by
  unfold execEntryEcc; exact whenLive_mems h (by simp [h])

/-! ### Links -/

@[simp] theorem wlReport_canonical (h : s.Mems Canonical) {p i} : (s.wlReport p i).Mems Canonical := by unfold State.wlReport; simp [h]
@[simp] theorem sendFlit_mems {p seq f} : (s.sendFlit p seq f).Mems P ↔ s.Mems P := by unfold State.sendFlit; simp
@[simp] theorem sendControl_mems {p f} : (s.sendControl p f).Mems P ↔ s.Mems P := by unfold State.sendControl; simp
@[simp] theorem queueFlit_mems {p f} : (s.queueFlit p f).Mems P ↔ s.Mems P := by unfold State.queueFlit; simp
@[simp] theorem transmit_mems {p} : (s.transmit p).Mems P ↔ s.Mems P := by unfold State.transmit; simp only; split <;> simp

theorem execFlitTransmit_mems (h : s.Mems P) {p m now} : (execFlitTransmit p m now s).Mems P := by
  unfold execFlitTransmit
  refine whenLive_mems h ?_
  split <;> simp [h]

@[simp] theorem wlFall_canonical (h : s.Mems Canonical) {p} : (s.wlFall p).Mems Canonical := by unfold State.wlFall; simp [h]
@[simp] theorem wlRise_mems {p} : (s.wlRise p).Mems P ↔ s.Mems P := by unfold State.wlRise; simp
@[simp] theorem wlTryRise_mems {p} : (s.wlTryRise p).Mems P ↔ s.Mems P := by unfold State.wlTryRise; simp

theorem execTrainingBlockReceive_canonical (h : s.Mems Canonical) {p board port bufs ready now} :
    (execTrainingBlockReceive p board port bufs ready now s).Mems Canonical := by
  unfold execTrainingBlockReceive; exact whenLive_mems h (by simp [h])

theorem execReceiverReady_mems (h : s.Mems P) {p reversed inverted now} : (execReceiverReady p reversed inverted now s).Mems P := by
  unfold execReceiverReady; exact whenLive_mems h (by simp [h])

theorem execTrainTimeout_mems (h : s.Mems P) {p now} : (execTrainTimeout p now s).Mems P := by
  unfold execTrainTimeout; exact whenLive_mems h (by simp [h])

theorem execWlRetrain_canonical (h : s.Mems Canonical) {p now} : (execWlRetrain p now s).Mems Canonical := by
  unfold execWlRetrain; exact whenWr_mems h (by simp [h])

@[simp] theorem goHalf_canonical (h : s.Mems Canonical) {p} : (s.goHalf p).Mems Canonical := by unfold State.goHalf; simp [h]

@[simp] theorem laneFails_canonical (h : s.Mems Canonical) {p l} : (s.laneFails p l).Mems Canonical := by
  unfold State.laneFails
  extract_lets s1 w inUse x s2
  have h1 : s1.Mems Canonical := by simp [s1, h]
  have h2 : s2.Mems Canonical := by simp [s2, h1]
  split
  · exact h
  split
  · simp [h1]
  split
  · split <;> simp [h2]
  · simp [h2]

theorem execWlLaneLockLoss_canonical (h : s.Mems Canonical) {p lanes clock now} : (execWlLaneLockLoss p lanes clock now s).Mems Canonical := by
  unfold execWlLaneLockLoss
  refine whenLive_mems h ?_
  extract_lets s1
  have h1 : s1.Mems Canonical := by simp [s1, h]
  split
  · simp [h1]
  · exact foldl_keeps_mems (fun _ _ h => laneFails_canonical h) _ h1

theorem execWlLaneRegainsLock_mems (h : s.Mems P) {p l} : (execWlLaneRegainsLock p l s).Mems P := by
  unfold execWlLaneRegainsLock; exact whenLive_mems h (by simp [h])

@[simp] theorem takeHeader_mems {p a2} : (s.takeHeader p a2).Mems P ↔ s.Mems P := by unfold State.takeHeader; simp

theorem takeSeq_mems (h : s.Mems P) {p v hd} {apply : State → State} (ha : ∀ u : State, u.Mems P → (apply u).Mems P) :
    (s.takeSeq p v hd apply).Mems P := by
  unfold State.takeSeq
  extract_lets s1 w s2
  have h1 : s1.Mems P := by simp [s1, h]
  split
  · exact h1
  · exact ha _ (by simp [s2, h1])

theorem onFlit_mems (h : s.Mems P) {p now} {f : State → State} (hf : ∀ u : State, u.Mems P → (f u).Mems P) : (s.onFlit p now f).Mems P := by
  have ht : (s.advance now).Mems P := by simp [h]
  simp [State.onFlit, h, ht, hf _ ht]

@[simp] theorem applyWrite_canonical (h : s.Mems Canonical) {p a data} : (s.applyWrite p a data).Mems Canonical := by
  unfold State.applyWrite
  split
  · split
    · exact memRequest_mems h fun _ hu => unitStore_canonical hu
    · simp [h]
  · simp [h]

theorem execMemWriteFlit_canonical (h : s.Mems Canonical) {p hd addr data now} : (execMemWriteFlit p hd addr data now s).Mems Canonical := by
  unfold execMemWriteFlit
  split
  · exact onFlit_mems h fun _ hu => takeSeq_mems hu fun _ hv => applyWrite_canonical hv
  · simp

@[simp] theorem stageUnit_canonical (h : s.Mems Canonical) {p u} : (s.stageUnit p u).Mems Canonical := by unfold State.stageUnit; simp [h]

theorem execMediaFlit_canonical (h : s.Mems Canonical) {p hd units now} : (execMediaFlit p hd units now s).Mems Canonical :=
  onFlit_mems h fun _ hu => takeSeq_mems hu fun _ hv => foldl_keeps_mems (fun _ _ h => stageUnit_canonical h) _ hv

theorem execMsgFlit_mems (h : s.Mems P) {p hd data now} : (execMsgFlit p hd data now s).Mems P := by
  unfold execMsgFlit
  split
  · exact onFlit_mems h fun _ hu => takeSeq_mems hu fun _ hv => by simp [hv]
  · simp

theorem execIdleFlit_mems (h : s.Mems P) {p hd entry now} : (execIdleFlit p hd entry now s).Mems P :=
  onFlit_mems h fun _ hu => by simp [hu]

@[simp] theorem setGrp_mems {g x} : (s.setGrp g x).Mems P ↔ s.Mems P := by unfold State.setGrp; simp
@[simp] theorem heartbeat_mems {g} : (s.heartbeat g).Mems P ↔ s.Mems P := by unfold State.heartbeat; simp

theorem execHeartbeatFlit_mems (h : s.Mems P) {p hd g un claim snap img now} : (execHeartbeatFlit p hd g un claim snap img now s).Mems P :=
  onFlit_mems h fun _ hu => by simp [hu]

theorem execEchoReq_mems (h : s.Mems P) {p hd now} : (execEchoReq p hd now s).Mems P :=
  onFlit_mems h fun _ hu => by simp [hu]

theorem execEchoRsp_mems (h : s.Mems P) {p hd rt now} : (execEchoRsp p hd rt now s).Mems P :=
  onFlit_mems h fun _ hu => by simp [hu]

theorem execLaneMap_mems (h : s.Mems P) {p hd lane seq now} : (execLaneMap p hd lane seq now s).Mems P :=
  onFlit_mems h fun _ hu => by simp [hu]

theorem execAudit_canonical (h : s.Mems Canonical) {p hd a b c now} : (execAudit p hd a b c now s).Mems Canonical :=
  onFlit_mems h fun _ hu => by simp [hu]

theorem execUnknownFlitType_mems (h : s.Mems P) {p} : (execUnknownFlitType p s).Mems P :=
  onFlit_mems h fun _ hu => by simp [hu]

theorem execFlitCrcFail_mems (h : s.Mems P) {p sequenced now} : (execFlitCrcFail p sequenced now s).Mems P :=
  onFlit_mems h fun _ hu => by simp [hu]

theorem execAuditSend_mems (h : s.Mems P) {p now} : (execAuditSend p now s).Mems P := by unfold execAuditSend; exact whenLive_mems h (by simp [h])
theorem execIdleEntry_mems (h : s.Mems P) {p now} : (execIdleEntry p now s).Mems P := by unfold execIdleEntry; simp [h]

theorem execIdleExit_mems (h : s.Mems P) {p now} : (execIdleExit p now s).Mems P := by
  unfold execIdleExit
  refine whenLive_mems h ?_
  extract_lets s1 w s2
  have h1 : s1.Mems P := by simp [s1, h]
  have h2 : s2.Mems P := by simp [s2, h1]
  split
  · exact foldl_keeps_mems (fun s f h => by split <;> simp [h]) _ h2
  · exact h1

theorem execTimeFlitSend_mems (h : s.Mems P) {p now} : (execTimeFlitSend p now s).Mems P := by
  unfold execTimeFlitSend; exact whenLive_mems h (by simp [h])

@[simp] theorem followTime_canonical (h : s.Mems Canonical) {p t epoch st} : (s.followTime p t epoch st).Mems Canonical := by
  unfold State.followTime; simp [h]

theorem execTimeFlitReceive_canonical (h : s.Mems Canonical) {p hd t epoch st used now} :
    (execTimeFlitReceive p hd t epoch st used now s).Mems Canonical :=
  onFlit_mems h fun _ hu => by simp [hu]

/-! ### Threads -/

@[simp] theorem noteTrap_canonical (h : s.Mems Canonical) {t cause tval} : (s.noteTrap t cause tval).Mems Canonical := by
  unfold State.noteTrap; simp [h]

@[simp] theorem trapThread_canonical (h : s.Mems Canonical) {t cause tval} : (s.trapThread t cause tval).Mems Canonical := by
  unfold State.trapThread; simp [h]

@[simp] theorem swapBank_mems {k} : (s.swapBank k).Mems P ↔ s.Mems P := by unfold State.swapBank; simp

@[simp] theorem enterHandler_mems {k slot reason detail} : (s.enterHandler k slot reason detail).Mems P ↔ s.Mems P := by
  unfold State.enterHandler; simp

@[simp] theorem coreErr_canonical (h : s.Mems Canonical) {k} : (s.coreErr k).Mems Canonical := by unfold State.coreErr; simp [h]

@[simp] theorem trapCore_canonical (h : s.Mems Canonical) {k cause tval} : (s.trapCore k cause tval).Mems Canonical := by
  unfold State.trapCore; simp [h]

@[simp] theorem trap_canonical (h : s.Mems Canonical) {i cause tval} : (s.trap i cause tval).Mems Canonical := by unfold State.trap; simp [h]
@[simp] theorem startNow_mems {t} : (s.startNow t).Mems P ↔ s.Mems P := by unfold State.startNow; simp
@[simp] theorem startThread_canonical (h : s.Mems Canonical) {t} : (s.startThread t).Mems Canonical := by unfold State.startThread; simp [h]
@[simp] theorem bindThread_mems {ch t} : (s.bindThread ch t).Mems P ↔ s.Mems P := by unfold State.bindThread; simp
@[simp] theorem idle_canonical (h : s.Mems Canonical) {t} : (s.idle t).Mems Canonical := by unfold State.idle; simp [h]
@[simp] theorem stopThread_canonical (h : s.Mems Canonical) {t} : (s.stopThread t).Mems Canonical := by unfold State.stopThread; simp [h]
@[simp] theorem resumeThread_mems {t} : (s.resumeThread t).Mems P ↔ s.Mems P := by unfold State.resumeThread; simp

@[simp] theorem threadCtrl_canonical (h : s.Mems Canonical) {t start stop resume} : (s.threadCtrl t start stop resume).Mems Canonical := by
  unfold State.threadCtrl; simp [h]

theorem execThreadStart_canonical (h : s.Mems Canonical) {t} : (execThreadStart t s).Mems Canonical := by
  unfold execThreadStart; exact whenWr_mems h (by simp [h])

theorem execThreadStop_canonical (h : s.Mems Canonical) {t} : (execThreadStop t s).Mems Canonical := by
  unfold execThreadStop; exact whenWr_mems h (by simp [h])

theorem execThreadResume_canonical (h : s.Mems Canonical) {t} : (execThreadResume t s).Mems Canonical := by
  unfold execThreadResume; exact whenWr_mems h (by simp [h])

theorem execStopTimeout_canonical (h : s.Mems Canonical) {t now} : (execStopTimeout t now s).Mems Canonical := by
  unfold execStopTimeout
  refine whenLive_mems h ?_
  simp only
  split <;> simp [h]

@[simp] theorem doorbell_mems {ch ev} : (s.doorbell ch ev).Mems P ↔ s.Mems P := by unfold State.doorbell; simp

theorem execCtxDoorbell_mems (h : s.Mems P) {ch ev} : (execCtxDoorbell ch ev s).Mems P := by
  unfold execCtxDoorbell; exact whenWr_mems h (by simp [h])

@[simp] theorem seqAdvance_mems {n} : (s.seqAdvance n).Mems P ↔ s.Mems P := by unfold State.seqAdvance; simp
@[simp] theorem seqDataDone_mems {n ecc} : (s.seqDataDone n ecc).Mems P ↔ s.Mems P := by unfold State.seqDataDone; simp
@[simp] theorem seqDataCheck_mems {n ecc} : (s.seqDataCheck n ecc).Mems P ↔ s.Mems P := by unfold State.seqDataCheck; simp
@[simp] theorem seqDataWrite_canonical (h : s.Mems Canonical) {n v} : (s.seqDataWrite n v).Mems Canonical := by unfold State.seqDataWrite; simp [h]

theorem execSeqMemDataWrite_canonical (h : s.Mems Canonical) {n v} : (execSeqMemDataWrite n v s).Mems Canonical := by
  unfold execSeqMemDataWrite; exact whenWr_mems h (by simp [h])

theorem execSeqMemDataRead_mems (h : s.Mems P) {r} : (execSeqMemDataRead r s).Mems P := by
  unfold execSeqMemDataRead; exact whenWr_mems h (by simp [h])

/-! ### Channels -/

@[simp] theorem setShadow_mems {ch l} : (s.setShadow ch l).Mems P ↔ s.Mems P := by unfold State.setShadow; simp
@[simp] theorem srwWrite_mems {q k v} : (s.srwWrite q k v).Mems P ↔ s.Mems P := by unfold State.srwWrite; simp
@[simp] theorem writeHold_mems {q ch hold} : (s.writeHold q ch hold).Mems P ↔ s.Mems P := by unfold State.writeHold; simp

theorem execCtxShadowCtrlWrite_mems (h : s.Mems P) {q ch hold} : (execCtxShadowCtrlWrite q ch hold s).Mems P := by
  unfold execCtxShadowCtrlWrite; exact whenWr_mems h (by simp [h])

@[simp] theorem landBefore_mems {ch n l} : (s.landBefore ch n l).Mems P ↔ s.Mems P := by unfold State.landBefore; simp
@[simp] theorem landAt_mems {ch n} : (s.landAt ch n).Mems P ↔ s.Mems P := by unfold State.landAt; simp
@[simp] theorem sendBytes_mems {p a l} : (s.sendBytes p a l).Mems P ↔ s.Mems P := by unfold State.sendBytes; simp
@[simp] theorem mirror_canonical (h : s.Mems Canonical) {g ch snap} : (s.mirror g ch snap).Mems Canonical := by unfold State.mirror; simp [h]
@[simp] theorem showPending_mems {g} : (s.showPending g).Mems P ↔ s.Mems P := by unfold State.showPending; simp

@[simp] theorem groupHandover_canonical (h : s.Mems Canonical) {ch snap g} : (s.groupHandover ch snap g).Mems Canonical := by
  unfold State.groupHandover; simp [h]

@[simp] theorem modelsStart_mems {ch} : (s.modelsStart ch).Mems P ↔ s.Mems P := by unfold State.modelsStart; simp
@[simp] theorem handoverModels_mems {ch n} : (s.handoverModels ch n).Mems P ↔ s.Mems P := by unfold State.handoverModels; simp

@[simp] theorem handover_canonical (h : s.Mems Canonical) {ch} : (s.handover ch).Mems Canonical := by
  unfold State.handover
  extract_lets n s1 x s2 s3 s4 s5 s6
  have h6 : s6.Mems Canonical := by simp [s6, s5, s4, s3, s2, s1, h]
  exact foldl_keeps_mems (fun _ _ h => groupHandover_canonical h) _ h6

theorem execHandover_canonical (h : s.Mems Canonical) {ch now} : (execHandover ch now s).Mems Canonical := by
  unfold execHandover; exact whenLive_mems h (by simp [h])

theorem tsCheck_mems (h : s.Mems P) {ch n t} : (s.tsCheck ch n t).1.Mems P :=
  foldl_fst_keeps_mems (fun _ _ h => by simp [h]) _ h

@[simp] theorem bindChannelPipes_mems {ch} : (s.bindChannelPipes ch).Mems P ↔ s.Mems P := by unfold State.bindChannelPipes; simp
@[simp] theorem rendsBegin_mems {ch first} : (s.rendsBegin ch first).Mems P ↔ s.Mems P := by unfold State.rendsBegin; simp
@[simp] theorem decBegins_mems {ch first takeover} : (s.decBegins ch first takeover).Mems P ↔ s.Mems P := by unfold State.decBegins; simp
@[simp] theorem chanBegin_mems {ch first takeover} : (s.chanBegin ch first takeover).Mems P ↔ s.Mems P := by unfold State.chanBegin; simp

theorem startChannel_canonical (h : s.Mems Canonical) {ch} : (s.startChannel ch).1.Mems Canonical := by
  unfold State.startChannel
  split
  · exact h
  extract_lets c t d sub y n
  split
  next u ts e =>
  have hu : u.Mems Canonical := fst_mems e (tsCheck_mems h)
  extract_lets s1 s2 s3
  have h2 : s2.Mems Canonical := by simp [s2, s1, hu]
  have h3 : s3.Mems Canonical := by simp [s3, h2]
  rw [apply_ite Prod.fst]
  refine ite_keeps_mems hu ?_
  split
  · split <;> simp [h3]
  · exact h2

/-! ### Heath -/

@[simp] theorem heathReport_canonical (h : s.Mems Canonical) {n sus detail} : (s.heathReport n sus detail).Mems Canonical := by
  unfold State.heathReport; simp [h]

@[simp] theorem wakeFrom_mems {c} : (s.wakeFrom c).Mems P ↔ s.Mems P := by unfold State.wakeFrom; simp
@[simp] theorem enterPs3_mems : (s.enterPs3).Mems P ↔ s.Mems P := by unfold State.enterPs3; simp
@[simp] theorem psRequest_canonical (h : s.Mems Canonical) {target} : (s.psRequest target).Mems Canonical := by unfold State.psRequest; simp [h]
@[simp] theorem psCtrl_canonical (h : s.Mems Canonical) {target req} : (s.psCtrl target req).Mems Canonical := by unfold State.psCtrl; simp [h]
theorem execHthPsReq_canonical (h : s.Mems Canonical) {target now} : (execHthPsReq target now s).Mems Canonical := by unfold execHthPsReq; simp [h]

theorem execPs1IdleEntry_mems (h : s.Mems P) {since now} : (execPs1IdleEntry since now s).Mems P := by
  unfold execPs1IdleEntry; exact whenLive_mems h (by simp [h])

@[simp] theorem doze_mems : (s.doze).Mems P ↔ s.Mems P := by unfold State.doze; simp

theorem execPs2EntryComplete_mems (h : s.Mems P) {late now} : (execPs2EntryComplete late now s).Mems P := by
  unfold execPs2EntryComplete
  refine whenUp_mems h ?_
  simp only
  split <;> simp [h]

theorem execPs2ExitComplete_canonical (h : s.Mems Canonical) {now} : (execPs2ExitComplete now s).Mems Canonical := by
  unfold execPs2ExitComplete
  refine whenUp_mems h ?_
  extract_lets s1 s2 x s3
  have h1 : s1.Mems Canonical := by simp [s1, h]
  have h3 : s3.Mems Canonical := by simp [s3, s2, h1]
  split
  · exact foldl_keeps_mems (fun _ _ h => srExit_canonical (by simp [h])) _ h3
  · exact h1

theorem execWakeSchedule_mems (h : s.Mems P) : (execWakeSchedule s).Mems P := by unfold execWakeSchedule; simp [h]
theorem execLinkActivity_mems (h : s.Mems P) {i} : (execLinkActivity i s).Mems P := by unfold execLinkActivity; simp [h]
@[simp] theorem takeSample_mems {i v} : (s.takeSample i v).Mems P ↔ s.Mems P := by unfold State.takeSample; simp
theorem evalRule_mems {i} : (s.evalRule i).1.Mems P ↔ s.Mems P := by unfold State.evalRule; simp [apply_ite Prod.fst]

theorem evalRules_canonical (h : s.Mems Canonical) : s.evalRules.1.Mems Canonical := by
  unfold State.evalRules
  refine foldl_fst_keeps_mems (fun q i hq => ?_) _ h
  split
  next t acts =>
  split
  next u f e =>
  have hu : u.Mems Canonical := fst_mems e (evalRule_mems.2 hq)
  split <;> simp [hu]

@[simp] theorem tripTest_mems : (s.tripTest).Mems P ↔ s.Mems P := by unfold State.tripTest; simp
@[simp] theorem supplyTest_canonical (h : s.Mems Canonical) : (s.supplyTest).Mems Canonical := by unfold State.supplyTest; simp [h]
@[simp] theorem hotTest_mems : (s.hotTest).Mems P ↔ s.Mems P := by unfold State.hotTest; simp

@[simp] theorem powerAction_canonical (h : s.Mems Canonical) {acts rise} : (s.powerAction acts rise).Mems Canonical := by
  unfold State.powerAction; simp [h]

@[simp] theorem aonTick_mems : (s.aonTick).Mems P ↔ s.Mems P := by unfold State.aonTick; simp

theorem execSensorSample_canonical (h : s.Mems Canonical) {values now} : (execSensorSample values now s).Mems Canonical := by
  unfold execSensorSample
  rw [next_mems]
  extract_lets s1 before s2 rise
  have h2 : s2.Mems Canonical := by simp [s2, s1, h]
  split
  next t acts e => simp [fst_mems e (evalRules_canonical h2)]

@[simp] theorem restartCores_mems {pc} : (s.restartCores pc).Mems P ↔ s.Mems P := by unfold State.restartCores; simp
@[simp] theorem wdogKick_mems : (s.wdogKick).Mems P ↔ s.Mems P := by unfold State.wdogKick; simp
theorem execWdogKick_mems (h : s.Mems P) {now} : (execWdogKick now s).Mems P := by unfold execWdogKick; simp [h]

theorem execWdogTimeout_canonical (h : s.Mems Canonical) {now} : (execWdogTimeout now s).Mems Canonical := by
  unfold execWdogTimeout; exact whenLive_mems h (by simp [h])

theorem execAonAlign_mems (h : s.Mems P) {now} : (execAonAlign now s).Mems P := by unfold execAonAlign; exact whenUp_mems h (by simp [h])

theorem execOscTrimUpdate_canonical (h : s.Mems Canonical) {ppb} : (execOscTrimUpdate ppb s).Mems Canonical := by
  unfold execOscTrimUpdate; exact whenUp_mems h (by simp [h])

theorem execRefclkLost_canonical (h : s.Mems Canonical) {now} : (execRefclkLost now s).Mems Canonical := by
  unfold execRefclkLost; exact whenUp_mems h (by simp [h])

@[simp] theorem vidStep_mems {up} : (s.vidStep up).Mems P ↔ s.Mems P := by unfold State.vidStep; simp
@[simp] theorem replanVoltage_mems {m} : (s.replanVoltage m).Mems P ↔ s.Mems P := by unfold State.replanVoltage; simp
@[simp] theorem setCeiling_mems {x} : (s.setCeiling x).Mems P ↔ s.Mems P := by unfold State.setCeiling; simp
@[simp] theorem replanCeiling_canonical (h : s.Mems Canonical) {m} : (s.replanCeiling m).Mems Canonical := by unfold State.replanCeiling; simp [h]

theorem execMarginSample_canonical (h : s.Mems Canonical) {slacks now} : (execMarginSample slacks now s).Mems Canonical := by
  unfold execMarginSample
  refine whenLive_mems h ?_
  extract_lets s1 s2 m s3
  have h2 : s2.Mems Canonical := foldl_keeps_mems (fun s i h => by simp [h]) _ (by simp [s1, h])
  split <;> simp [s3, h2]

theorem execEyeScan_canonical (h : s.Mems Canonical) {l mv more now} : (execEyeScan l mv more now s).Mems Canonical := by
  unfold execEyeScan; exact whenLive_mems h (by simp [h])

@[simp] theorem rankHour_canonical (h : s.Mems Canonical) {day k r} : (s.rankHour day k r).Mems Canonical := by
  unfold State.rankHour
  simp only
  repeat' split
  all_goals simp [h]

theorem execCeTrendHour_canonical (h : s.Mems Canonical) {now} : (execCeTrendHour now s).Mems Canonical := by
  unfold execCeTrendHour
  refine whenLive_mems h ?_
  exact foldl_keeps_mems (fun _ _ h => rankHour_canonical h) _ (by simp [h])

theorem execServiceEstimate_mems (h : s.Mems P) {now} : (execServiceEstimate now s).Mems P := by
  unfold execServiceEstimate; exact whenLive_mems h (by simp [h])

/-! ### The claim bus -/

@[simp] theorem setRole_mems {g role} : (s.setRole g role).Mems P ↔ s.Mems P := by unfold State.setRole; simp
@[simp] theorem demote_canonical (h : s.Mems Canonical) {g} : (s.demote g).Mems Canonical := by unfold State.demote; simp [h]

@[simp] theorem restoreWindow_mems {ch a} : (s.restoreWindow ch a).Mems P ↔ s.Mems P := by
  unfold State.restoreWindow
  refine foldl_mems (fun s i => ?_) _ s
  extract_lets k
  split
  · split <;> simp
  · rfl

@[simp] theorem restoreQuantisers_mems {ch a} : (s.restoreQuantisers ch a).Mems P ↔ s.Mems P := by unfold State.restoreQuantisers; simp
@[simp] theorem restoreGrid_mems {ch a} : (s.restoreGrid ch a).Mems P ↔ s.Mems P := by unfold State.restoreGrid; simp

@[simp] theorem restoreAnchor_mems {ch a} : (s.restoreAnchor ch a).Mems P ↔ s.Mems P := by
  unfold State.restoreAnchor
  split
  · exact setDec_mems
  · rfl

@[simp] theorem restoreCoding_mems {ch a} : (s.restoreCoding ch a).Mems P ↔ s.Mems P := by unfold State.restoreCoding; simp
@[simp] theorem restoreFlow_mems {ch a} : (s.restoreFlow ch a).Mems P ↔ s.Mems P := by unfold State.restoreFlow; simp
@[simp] theorem loadData_canonical (h : s.Mems Canonical) {t l} : (s.loadData t l).Mems Canonical := by unfold State.loadData; simp [h]

@[simp] theorem takeImage_canonical (h : s.Mems Canonical) {g ch t} : (s.takeImage g ch t).Mems Canonical := by
  unfold State.takeImage
  split
  next i seq _ =>
    extract_lets a s1 x s2 s3 s4 y s5
    have h3 : s3.Mems Canonical := by simp [s3, s2, s1, h]
    have h4 : s4.Mems Canonical := foldl_keeps_mems (fun s j h => restoreFlow_mems.2 h) _ h3
    exact loadData_canonical (setChan_mems.2 h4)
  next =>
    extract_lets s1 x s2
    have h1 : s1.Mems Canonical := by simp [s1, h]
    exact loadData_canonical (setChan_mems.2 h1)

@[simp] theorem startStandby_canonical (h : s.Mems Canonical) {g ch t at'} : (s.startStandby g ch t at').Mems Canonical := by
  unfold State.startStandby
  extract_lets slot s1 n s2 s3
  have h2 : s2.Mems Canonical := chanBegin_mems.2 (takeImage_canonical h)
  have h3 : s3.Mems Canonical := elim_keeps_mems h2 fun p => by simp [h2]
  exact postThread_mems.2 (ite_keeps_mems (startThread_canonical h3) h3)

@[simp] theorem becomeActive_canonical (h : s.Mems Canonical) {g} : (s.becomeActive g).Mems Canonical := by unfold State.becomeActive; simp [h]

@[simp] theorem takeover_canonical (h : s.Mems Canonical) {g ready} : (s.takeover g ready).Mems Canonical := by
  unfold State.takeover
  extract_lets ch u
  have hu : u.Mems Canonical := becomeActive_canonical h
  exact elim_keeps_mems hu fun t => ite_keeps_mems (startStandby_canonical (bindThread_mems.2 hu)) hu

@[simp] theorem recordWin_mems {g w} : (s.recordWin g w).Mems P ↔ s.Mems P := by unfold State.recordWin; simp
@[simp] theorem cycleDone_mems {g challenge} : (s.cycleDone g challenge).Mems P ↔ s.Mems P := by unfold State.cycleDone; simp

@[simp] theorem heartbeatCycle_canonical (h : s.Mems Canonical) {g bids} : (s.heartbeatCycle g bids).Mems Canonical := by
  unfold State.heartbeatCycle; simp only; split <;> simp [h]

@[simp] theorem challengeCycle_canonical (h : s.Mems Canonical) {g ready bids} : (s.challengeCycle g ready bids).Mems Canonical := by
  unfold State.challengeCycle; simp only; split <;> simp [h]

@[simp] theorem busOut_mems {u g challenge own bids} : (s.busOut u g challenge own bids).Mems P ↔ s.Mems P := by unfold State.busOut; simp

theorem execHeartbeatCycle_canonical (h : s.Mems Canonical) {g bids now} : (execHeartbeatCycle g bids now s).Mems Canonical := by
  unfold execHeartbeatCycle; exact whenWr_mems h (by simp [h])

theorem execChallengeCycle_canonical (h : s.Mems Canonical) {g bids ready now} : (execChallengeCycle g bids ready now s).Mems Canonical := by
  unfold execChallengeCycle; exact whenWr_mems h (by simp [h])

theorem execClaimBusFault_canonical (h : s.Mems Canonical) {kind inCycle now} : (execClaimBusFault kind inCycle now s).Mems Canonical := by
  unfold execClaimBusFault; exact whenWr_mems h (by simp [h])

@[simp] theorem restartMisses_mems {g} : (s.restartMisses g).Mems P ↔ s.Mems P := by unfold State.restartMisses; simp

theorem execBusFaultClear_mems (h : s.Mems P) {now} : (execBusFaultClear now s).Mems P := by
  unfold execBusFaultClear; exact whenWr_mems h (by simp [h])

@[simp] theorem challenge_canonical (h : s.Mems Canonical) {g} : (s.challenge g).Mems Canonical := by unfold State.challenge; simp [h]

theorem execHeartbeatMiss_canonical (h : s.Mems Canonical) {g now} : (execHeartbeatMiss g now s).Mems Canonical := by
  unfold execHeartbeatMiss; exact whenWr_mems h (by simp [h])

theorem execYieldGroup_mems (h : s.Mems P) {g} : (execYieldGroup g s).Mems P := by unfold execYieldGroup; exact whenWr_mems h (by simp [h])

theorem execStandbyTokenReturn_mems (h : s.Mems P) {ch now} : (execStandbyTokenReturn ch now s).Mems P := by
  unfold execStandbyTokenReturn
  refine whenIngest_mems h ?_
  simp only
  repeat' split
  all_goals simp [h]

/-! ### Paddock -/

theorem execPictureEvent_mems (h : s.Mems P) {ch px} : (execPictureEvent ch px s).Mems P := by
  unfold execPictureEvent; exact whenLive_mems h (by simp [h])

@[simp] theorem pdkAdvance_mems {ms} : (s.pdkAdvance ms).Mems P ↔ s.Mems P := by unfold State.pdkAdvance; simp
theorem execFeedTime_mems (h : s.Mems P) {ms now} : (execFeedTime ms now s).Mems P := by unfold execFeedTime; exact whenUp_mems h (by simp [h])
@[simp] theorem pdkAlert_canonical (h : s.Mems Canonical) : (s.pdkAlert).Mems Canonical := by unfold State.pdkAlert; simp [h]

@[simp] theorem closeRecord_canonical (h : s.Mems Canonical) {type prog gap body} : (s.closeRecord type prog gap body).Mems Canonical := by
  unfold State.closeRecord
  simp only
  repeat' split
  all_goals simp [h]

theorem execUsageRecordClose_canonical (h : s.Mems Canonical) {ms} : (execUsageRecordClose ms s).Mems Canonical := by
  unfold execUsageRecordClose; simp [h]

@[simp] theorem closeProg_canonical (h : s.Mems Canonical) {type i p l} : (s.closeProg type i p l).Mems Canonical := by
  unfold State.closeProg; simp [h]

theorem execLoudnessRecordClose_canonical (h : s.Mems Canonical) {l ms} : (execLoudnessRecordClose l ms s).Mems Canonical := by
  unfold execLoudnessRecordClose
  rw [next_mems]
  split
  · exact foldl_keeps_mems (fun _ _ h => closeProg_canonical h) _ (by simp [h])
  · exact h

@[simp] theorem progStart_mems {i} : (s.progStart i).Mems P ↔ s.Mems P := by unfold State.progStart; simp

theorem execProgrammeEnable_mems (h : s.Mems P) {i} : (execProgrammeEnable i s).Mems P := by
  unfold execProgrammeEnable; exact whenWr_mems h (by simp [h])

theorem execProgrammeEnd_canonical (h : s.Mems Canonical) {i l ms} : (execProgrammeEnd i l ms s).Mems Canonical := by
  unfold execProgrammeEnd
  refine whenWr_mems h ?_
  simp only
  split <;> simp [h]

@[simp] theorem mbCommand_mems {op arg} : (s.mbCommand op arg).Mems P ↔ s.Mems P := by unfold State.mbCommand; simp

@[simp] theorem pdkAnswer_canonical (h : s.Mems Canonical) {port result data} : (s.pdkAnswer port result data).Mems Canonical := by
  unfold State.pdkAnswer; split <;> simp [h]

theorem execReadRecord_canonical (h : s.Mems Canonical) {port ms} : (execReadRecord port ms s).Mems Canonical := by
  unfold execReadRecord
  simp only
  repeat' split
  all_goals simp [h]

theorem execReadCert_canonical (h : s.Mems Canonical) {port} : (execReadCert port s).Mems Canonical := by unfold execReadCert; simp [h]
theorem execReadStatus_canonical (h : s.Mems Canonical) {port} : (execReadStatus port s).Mems Canonical := by unfold execReadStatus; simp [h]
theorem execExported_canonical (h : s.Mems Canonical) : (execExported s).Mems Canonical := by unfold execExported; simp [h]

@[simp] theorem authority_canonical (h : s.Mems Canonical) {port code change} : (s.authority port code change).Mems Canonical := by
  unfold State.authority
  simp only
  repeat' split
  all_goals simp [h]

theorem execInstallAuthority_canonical (h : s.Mems Canonical) {port ms} : (execInstallAuthority port ms s).Mems Canonical := by
  unfold execInstallAuthority; simp [h]

theorem execSetClassLimits_canonical (h : s.Mems Canonical) {port ms} : (execSetClassLimits port ms s).Mems Canonical := by
  unfold execSetClassLimits; simp [h]

theorem execClearTamper_canonical (h : s.Mems Canonical) {port ms} : (execClearTamper port ms s).Mems Canonical := by
  unfold execClearTamper; simp [h]

theorem execLidOpen_canonical (h : s.Mems Canonical) {ms} : (execLidOpen ms s).Mems Canonical := by unfold execLidOpen; simp [h]

theorem execPaddockPowerUp_canonical (h : s.Mems Canonical) {gap} : (execPaddockPowerUp gap s).Mems Canonical := by
  unfold execPaddockPowerUp; simp [h]

theorem execPdkSilent_canonical (h : s.Mems Canonical) {now} : (execPdkSilent now s).Mems Canonical := by
  unfold execPdkSilent; exact whenWr_mems h (by simp [h])

/-! ### Host queues -/

theorem execMsixVectorUnmask_mems (h : s.Mems P) {v addr data mask} : (execMsixVectorUnmask v addr data mask s).Mems P := by
  unfold execMsixVectorUnmask; exact whenUp_mems h (by simp [h])

@[simp] theorem setHcr_mems {r a2} : (s.setHcr r a2).Mems P ↔ s.Mems P := by unfold State.setHcr; simp
@[simp] theorem doorbellHcr_canonical (h : s.Mems Canonical) {r v} : (s.doorbellHcr r v).Mems Canonical := by unfold State.doorbellHcr; simp [h]

theorem execHcrDoorbell_canonical (h : s.Mems Canonical) {r v} : (execHcrDoorbell r v s).Mems Canonical := by
  unfold execHcrDoorbell; exact whenWr_mems h (by simp [h])

@[simp] theorem complete_mems {r c a} : (s.complete r c a).Mems P ↔ s.Mems P := by unfold State.complete; simp

@[simp] theorem drainBad_mems {r n} : (s.drainBad r n).Mems P ↔ s.Mems P := by
  induction n generalizing s with
  | zero => rfl
  | succ n ih =>
    unfold State.drainBad
    split
    · split
      · rfl
      · exact ih.trans complete_mems
    · rfl

theorem execCommandFetch_mems (h : s.Mems P) {r bytes} : (execCommandFetch r bytes s).Mems P := by unfold execCommandFetch; simp [h]

theorem serve_mems (h : s.Mems P) {r op} {f : HostCmd → State → State × CmdAns} (hf : ∀ c, (f c s).1.Mems P) : (s.serve r op f).Mems P := by
  unfold State.serve
  split
  · next c _ _ =>
    split
    · split
      next t a e => simp [fst_mems e (hf c)]
    · exact h
  · exact h

theorem nopCmd_mems (h : s.Mems P) {c} : (nopCmd c s).1.Mems P := h

theorem ptpConfig_mems (h : s.Mems P) {c} : (ptpConfig c s).1.Mems P := by
  unfold ptpConfig
  split <;> simp [h]

theorem mcastCmd_mems (h : s.Mems P) {join c} : (mcastCmd join c s).1.Mems P := by
  unfold mcastCmd
  split <;> simp [h]

@[simp] theorem loadImage_canonical (h : s.Mems Canonical) {ch t addr imap dmap prio img} :
    (s.loadImage ch t addr imap dmap prio img).Mems Canonical := by
  unfold State.loadImage
  split
  next q i _ =>
  extract_lets data s1 s2 s3 s4 s5 s6
  have h4 : s4.Mems Canonical := by simp [s4, s3, s2, s1, h]
  have h5 : s5.Mems Canonical := foldl_keeps_mems (fun s v h => by split <;> simp [h]) _ h4
  simp [s6, h5]

theorem recipeLoad_canonical (h : s.Mems Canonical) {c} : (recipeLoad c s).1.Mems Canonical := by unfold recipeLoad; simp [apply_ite Prod.fst, h]

theorem channelStart_canonical (h : s.Mems Canonical) {c} : (channelStart c s).1.Mems Canonical := by
  unfold channelStart
  split
  · exact h
  · exact startChannel_canonical h

@[simp] theorem stopWaiting_canonical (h : s.Mems Canonical) {ch} : (s.stopWaiting ch).Mems Canonical := by
  unfold State.stopWaiting
  cases s.boundThread ch <;> simp [h]

theorem channelStop_canonical (h : s.Mems Canonical) {c} : (channelStop c s).1.Mems Canonical := by
  unfold channelStop; simp [apply_ite Prod.fst, h]

theorem hostEffect_canonical (h : s.Mems Canonical) {c} : (hostEffect c s).1.Mems Canonical := by
  unfold hostEffect
  split
  · exact nopCmd_mems h
  · exact recipeLoad_canonical h
  · exact channelStart_canonical h
  · exact channelStop_canonical h
  · exact ptpConfig_mems h
  · exact mcastCmd_mems h
  · exact mcastCmd_mems h
  · exact h

theorem execNop_mems (h : s.Mems P) {r} : (execNop r s).Mems P := next_mems.2 (serve_mems h fun _ => nopCmd_mems h)

theorem execRecipeLoad_canonical (h : s.Mems Canonical) {r} : (execRecipeLoad r s).Mems Canonical :=
  next_mems.2 (serve_mems h fun _ => recipeLoad_canonical h)

theorem execChannelStart_canonical (h : s.Mems Canonical) {r} : (execChannelStart r s).Mems Canonical :=
  next_mems.2 (serve_mems h fun _ => channelStart_canonical h)

theorem execChannelStop_canonical (h : s.Mems Canonical) {r} : (execChannelStop r s).Mems Canonical :=
  next_mems.2 (serve_mems h fun _ => channelStop_canonical h)

theorem execPtpConfig_mems (h : s.Mems P) {r} : (execPtpConfig r s).Mems P := next_mems.2 (serve_mems h fun _ => ptpConfig_mems h)
theorem execMcastJoin_mems (h : s.Mems P) {r} : (execMcastJoin r s).Mems P := next_mems.2 (serve_mems h fun _ => mcastCmd_mems h)
theorem execMcastLeave_mems (h : s.Mems P) {r} : (execMcastLeave r s).Mems P := next_mems.2 (serve_mems h fun _ => mcastCmd_mems h)

/-! ### DMA -/

@[simp] theorem setDma_mems {c d} : (s.setDma c d).Mems P ↔ s.Mems P := by unfold State.setDma; simp

@[simp] theorem scatterBytes_canonical (h : s.Mems Canonical) {m dev l} : (s.scatterBytes m dev l).Mems Canonical := by
  unfold State.scatterBytes
  split
  · simp [h]
  extract_lets s1
  have h1 : s1.Mems Canonical := foldl_keeps_mems (fun _ _ h => dSet_canonical h) _ h
  simp [h1]

@[simp] theorem dmaGo_canonical (h : s.Mems Canonical) {c host} : (s.dmaGo c host).Mems Canonical := by
  unfold State.dmaGo
  simp only
  repeat' split
  all_goals simp [h]

theorem execDmaGo_canonical (h : s.Mems Canonical) {c host} : (execDmaGo c host s).Mems Canonical := by
  unfold execDmaGo; exact whenWr_mems h (by simp [h])

theorem execDmaBurstIssue_mems (h : s.Mems P) {d2h} : (execDmaBurstIssue d2h s).Mems P := by
  unfold execDmaBurstIssue
  refine whenWr_mems h ?_
  simp only
  repeat' split
  all_goals simp [h]

@[simp] theorem dmaSettle_mems {c} : (s.dmaSettle c).Mems P ↔ s.Mems P := by unfold State.dmaSettle; simp

@[simp] theorem deliverBurst_canonical (h : s.Mems Canonical) {c b data} : (s.deliverBurst c b data).Mems Canonical := by
  unfold State.deliverBurst; simp [h]

@[simp] theorem burstFails_mems {c b rest} : (s.burstFails c b rest).Mems P ↔ s.Mems P := by unfold State.burstFails; simp

theorem execDmaBurstComplete_canonical (h : s.Mems Canonical) {c data} : (execDmaBurstComplete c data s).Mems Canonical := by
  unfold execDmaBurstComplete
  refine whenWr_mems h ?_
  split <;> simp [h]

@[simp] theorem dmaAbort_mems {c} : (s.dmaAbort c).Mems P ↔ s.Mems P := by unfold State.dmaAbort; simp
theorem execDmaAbort_mems (h : s.Mems P) {c} : (execDmaAbort c s).Mems P := by unfold execDmaAbort; exact whenWr_mems h (by simp [h])

theorem execDmaHostError_canonical (h : s.Mems Canonical) {c} : (execDmaHostError c s).Mems Canonical := by
  unfold execDmaHostError
  refine whenWr_mems h ?_
  split <;> simp [h]

/-! ### Conservation -/

@[simp] theorem consFreeze_mems {scope} : (s.consFreeze scope).Mems P ↔ s.Mems P := by unfold State.consFreeze; simp
@[simp] theorem consSnap_mems {scope} : (s.consSnap scope).Mems P ↔ s.Mems P := by unfold State.consSnap; simp

theorem execConsSnapGo_mems (h : s.Mems P) {scope now} : (execConsSnapGo scope now s).Mems P := by
  unfold execConsSnapGo; exact whenLive_mems h (by simp [h])

@[simp] theorem keepHeader_mems {a1} : (s.keepHeader a1).Mems P ↔ s.Mems P := by unfold State.keepHeader; simp

theorem execSnapshotComplete_canonical (h : s.Mems Canonical) {now} : (execSnapshotComplete now s).Mems Canonical := by
  unfold execSnapshotComplete
  refine whenLive_mems h ?_
  extract_lets s1 seq
  have h1 : s1.Mems Canonical := by simp [s1, h]
  split
  · exact h1
  extract_lets hd s2 x s3 s4 s5
  have h2 : s2.Mems Canonical := by simp [s2, h1]
  have h4 : s4.Mems Canonical := by simp [s4, s3, h2]
  have h5 : s5.Mems Canonical := foldl_keeps_mems (fun _ _ h => report_canonical h) _ h4
  split <;> simp [h5]

theorem execAutoSnapshot_mems (h : s.Mems P) {now} : (execAutoSnapshot now s).Mems P := by
  unfold execAutoSnapshot
  refine whenLive_mems h ?_
  extract_lets s1 n x s2 y
  have h1 : s1.Mems P := by simp [s1, h]
  have h2 : s2.Mems P := by simp [s2, h1]
  split
  · split <;> simp [h2]
  · exact h1

/-! ### Reset and boot -/

@[simp] theorem coldReset_canonical : s.coldReset.Mems Canonical := ⟨rfl, rfl⟩

/-- A table that keeps a part of its entries keeps its form. -/
theorem twf_filter {V : Type} [DecidableEq V] (d : Nat → V) (f : Nat × V → Bool) (t : Table V) (lo : Nat) (w : twf d lo t = true) :
    twf d lo (t.filter f) = true := by
  induction t generalizing lo with
  | nil => rfl
  | cons p t ih =>
    simp only [twf, Bool.and_eq_true, decide_eq_true_eq] at w
    obtain ⟨⟨hlo, hv⟩, ht⟩ := w
    rw [List.filter_cons]
    split
    · simp [twf, hlo, hv, ih (p.1 + 1) ht]
    · exact twf_mono d _ (p.1 + 1) lo (by omega) (ih (p.1 + 1) ht)

@[simp] theorem warmReset_canonical (h : s.Mems Canonical) {perst cause} : (s.warmReset perst cause).Mems Canonical := by
  unfold State.warmReset
  extract_lets c keep c1 c2
  have h1 : c1.Mems Canonical := ⟨twf_filter _ _ _ 0 h.1, rfl⟩
  simp [c2, h1]

@[simp] theorem testError_canonical (h : s.Mems Canonical) {e} : (s.testError e).Mems Canonical := by unfold State.testError; simp [h]

@[simp] theorem bootMemory_canonical (h : s.Mems Canonical) {errors} : (s.bootMemory errors).Mems Canonical := by
  unfold State.bootMemory
  extract_lets s1 s2
  have h1 : s1.Mems Canonical := by simp [s1, h]
  split
  · simp [h1]
  have h2 : s2.Mems Canonical := foldl_keeps_mems (fun _ _ h => testError_canonical h) _ h1
  split <;> simp [h2]

@[simp] theorem bootFirmware_canonical (h : s.Mems Canonical) {img source errors} : (s.bootFirmware img source errors).Mems Canonical := by
  unfold State.bootFirmware; simp [h]

@[simp] theorem boot_canonical (h : s.Mems Canonical) {b} : (s.boot b).Mems Canonical := by
  unfold State.boot
  extract_lets s1 imgA imgB
  have h1 : s1.Mems Canonical := by simp [s1, h]
  refine ite_keeps_mems (by simp [h1]) (ite_keeps_mems ?_ (ite_keeps_mems ?_ (by simp [h1])))
  · exact bootFirmware_canonical (setBytes_canonical h1)
  · exact report_canonical (bootFirmware_canonical (setBytes_canonical h1))

@[simp] theorem reportTrip_canonical (h : s.Mems Canonical) : (s.reportTrip).Mems Canonical := by unfold State.reportTrip; simp [h]

theorem execPwrGoodRise_canonical (h : s.Mems Canonical) {b} : (execPwrGoodRise b s).Mems Canonical := by
  unfold execPwrGoodRise
  rw [next_mems]
  extract_lets c s1 s2
  split
  · have h2 : s2.Mems Canonical := by simp [s2, s1, c]
    simp [h2]
  · simp [h]

theorem execPwrGoodFall_canonical (h : s.Mems Canonical) : (execPwrGoodFall s).Mems Canonical := by unfold execPwrGoodFall; simp [h]
@[simp] theorem pcieReset_mems : (s.pcieReset).Mems P ↔ s.Mems P := by unfold State.pcieReset; simp

@[simp] theorem warmBoot_canonical (h : s.Mems Canonical) {perst cause b} : (s.warmBoot perst cause b).Mems Canonical := by
  have hb : ((s.warmReset perst cause).boot b).Mems Canonical := boot_canonical (warmReset_canonical h)
  unfold State.warmBoot
  exact ite_keeps_mems (by simp [h]) (ite_keeps_mems (report_canonical hb) hb)

theorem execSysRst_canonical (h : s.Mems Canonical) {perst b now} : (execSysRst perst b now s).Mems Canonical := by unfold execSysRst; simp [h]

theorem execGctlResetCore_canonical (h : s.Mems Canonical) {b now} : (execGctlResetCore b now s).Mems Canonical := by
  unfold execGctlResetCore; simp [h]

theorem execPerst_mems (h : s.Mems P) : (execPerst s).Mems P := by unfold execPerst; exact whenUp_mems h (by simp [h])

theorem execPerstRelease_canonical (h : s.Mems Canonical) {width speed} : (execPerstRelease width speed s).Mems Canonical := by
  unfold execPerstRelease
  refine whenUp_mems h ?_
  extract_lets l s1 s2
  split
  · exact h
  have h1 : s1.Mems Canonical := by simp [s1, h]
  have h2 : s2.Mems Canonical :=
    foldl_keeps_mems (fun s c h => incSat_mems.2 (ite_keeps_mems (hostEffect_canonical h) h)) _ h1
  simp [h2]

theorem execAonPowerUp_mems (h : s.Mems P) : (execAonPowerUp s).Mems P := by unfold execAonPowerUp; simp [h]
@[simp] theorem recover_canonical (h : s.Mems Canonical) {len errors} : (s.recover len errors).Mems Canonical := by unfold State.recover; simp [h]

theorem execRecoveryGo_canonical (h : s.Mems Canonical) {len errors} : (execRecoveryGo len errors s).Mems Canonical := by
  unfold execRecoveryGo; exact whenWr_mems h (by simp [h])

@[simp] theorem svnBurn_mems : (s.svnBurn).Mems P ↔ s.Mems P := by unfold State.svnBurn; simp
theorem execSvnBurn_mems (h : s.Mems P) : (execSvnBurn s).Mems P := by unfold execSvnBurn; exact whenWr_mems h (by simp [h])
theorem execSvnBurnDone_mems (h : s.Mems P) : (execSvnBurnDone s).Mems P := by unfold execSvnBurnDone; exact whenUp_mems h (by simp [h])
@[simp] theorem debugAnswer_canonical (h : s.Mems Canonical) {r} : (s.debugAnswer r).Mems Canonical := by unfold State.debugAnswer; simp [h]

theorem execDebugResponse_canonical (h : s.Mems Canonical) {r} : (execDebugResponse r s).Mems Canonical := by
  unfold execDebugResponse; exact whenWr_mems h (by simp [h])

@[simp] theorem keyLoad_mems {k} : (s.keyLoad k).Mems P ↔ s.Mems P := by unfold State.keyLoad; simp

theorem execRecipeKeyLoad_mems (h : s.Mems P) {k} : (execRecipeKeyLoad k s).Mems P := by
  unfold execRecipeKeyLoad; exact whenWr_mems h (by simp [h])

theorem execPolicyLock_mems (h : s.Mems P) : (execPolicyLock s).Mems P := by unfold execPolicyLock; exact whenWr_mems h (by simp [h])

/-! ### Register writes -/

@[simp] theorem keepUnless_mems {free k n} : (s.keepUnless free k n).Mems P ↔ s.Mems P := by unfold State.keepUnless; simp
@[simp] theorem gpioBit_canonical (h : s.Mems Canonical) {on b} : (s.gpioBit on b).Mems Canonical := by unfold State.gpioBit; simp [h]

@[simp] theorem writeGctl_canonical (h : s.Mems Canonical) {x k n} : (s.writeGctl x k n).Mems Canonical := by
  unfold State.writeGctl
  split
  · split <;> simp [h]
  split
  · exact foldl_keeps_mems (fun _ _ h => gpioBit_canonical h) _ h
  · simp [h]

@[simp] theorem writeSieve_canonical (h : s.Mems Canonical) {k n} : (s.writeSieve k n).Mems Canonical := by unfold State.writeSieve; simp [h]
@[simp] theorem writeHeath_canonical (h : s.Mems Canonical) {k n} : (s.writeHeath k n).Mems Canonical := by unfold State.writeHeath; simp [h]

@[simp] theorem writePdk_mems {k n} : (s.writePdk k n).Mems P ↔ s.Mems P := by
  unfold State.writePdk
  repeat' split
  all_goals simp

@[simp] theorem pinClaim_canonical (h : s.Mems Canonical) {g n} : (s.pinClaim g n).Mems Canonical := by unfold State.pinClaim; simp [h]
@[simp] theorem writePgCtrl_canonical (h : s.Mems Canonical) {g n} : (s.writePgCtrl g n).Mems Canonical := by unfold State.writePgCtrl; simp [h]
@[simp] theorem writePg_canonical (h : s.Mems Canonical) {g k n} : (s.writePg g k n).Mems Canonical := by unfold State.writePg; simp [h]
@[simp] theorem writeTb_canonical (h : s.Mems Canonical) {k n} : (s.writeTb k n).Mems Canonical := by unfold State.writeTb; simp [h]
@[simp] theorem writeDmaBuf_canonical (h : s.Mems Canonical) {n} : (s.writeDmaBuf n).Mems Canonical := by unfold State.writeDmaBuf; simp [h]
@[simp] theorem writeHcr_mems {r k n} : (s.writeHcr r k n).Mems P ↔ s.Mems P := by unfold State.writeHcr; simp
@[simp] theorem writeDma_canonical (h : s.Mems Canonical) {x c k n} : (s.writeDma x c k n).Mems Canonical := by unfold State.writeDma; simp [h]
@[simp] theorem writePcie_canonical (h : s.Mems Canonical) {x k n} : (s.writePcie x k n).Mems Canonical := by unfold State.writePcie; simp [h]

@[simp] theorem writeDsp_canonical (h : s.Mems Canonical) {k n} : (s.writeDsp k n).Mems Canonical := by
  unfold State.writeDsp
  repeat' split
  all_goals simp [h]

@[simp] theorem writeSeq_canonical (h : s.Mems Canonical) {k n} : (s.writeSeq k n).Mems Canonical := by
  unfold State.writeSeq
  extract_lets i t s1 f n1 n2
  have h1 : s1.Mems Canonical := setReg_mems.2 h
  refine ite_keeps_mems (ite_keeps_mems ?_ h1) (ite_keeps_mems ?_ (ite_keeps_mems ?_ (ite_keeps_mems ?_ (ite_keeps_mems ?_ ?_))))
  · exact foldl_keeps_mems (fun _ _ h => idle_canonical h) _ h1
  · exact seqDataWrite_canonical h
  · exact threadCtrl_canonical (setReg_mems.2 h)
  · exact keepUnless_mems.2 h
  · exact keepUnless_mems.2 h
  · split <;> exact setReg_mems.2 h

@[simp] theorem writeEnc_mems {j on} : (s.writeEnc j on).Mems P ↔ s.Mems P := by unfold State.writeEnc; simp
@[simp] theorem writeEncKey_mems {j i k n} : (s.writeEncKey j i k n).Mems P ↔ s.Mems P := by unfold State.writeEncKey; simp

@[simp] theorem writeMem_mems {k n} : (s.writeMem k n).Mems P ↔ s.Mems P := by
  unfold State.writeMem
  repeat' split
  all_goals simp

@[simp] theorem quadDown_mems {q mode} : (s.quadDown q mode).Mems P ↔ s.Mems P := by unfold State.quadDown; simp

@[simp] theorem writeMedia_mems {k n} : (s.writeMedia k n).Mems P ↔ s.Mems P := by
  unfold State.writeMedia
  repeat' split
  all_goals simp

@[simp] theorem ingEnable_mems {f} : (s.ingEnable f).Mems P ↔ s.Mems P := by unfold State.ingEnable; simp
@[simp] theorem keepSize_mems {f} : (s.keepSize f).Mems P ↔ s.Mems P := by unfold State.keepSize; simp
@[simp] theorem writeIngFlow_mems {f k n} : (s.writeIngFlow f k n).Mems P ↔ s.Mems P := by unfold State.writeIngFlow; simp
@[simp] theorem writePool_mems {c k n} : (s.writePool c k n).Mems P ↔ s.Mems P := by unfold State.writePool; simp
@[simp] theorem writePair_mems {p k n} : (s.writePair p k n).Mems P ↔ s.Mems P := by unfold State.writePair; simp
@[simp] theorem writeFlowTable_mems {k n} : (s.writeFlowTable k n).Mems P ↔ s.Mems P := by unfold State.writeFlowTable; simp

@[simp] theorem writeIng_mems {k n} : (s.writeIng k n).Mems P ↔ s.Mems P := by
  unfold State.writeIng
  repeat' split
  all_goals simp

/-! ### Register writes, continued -/

@[simp] theorem writeHist_mems {ch on} : (s.writeHist ch on).Mems P ↔ s.Mems P := by unfold State.writeHist; simp

@[simp] theorem writePrf_mems {k n} : (s.writePrf k n).Mems P ↔ s.Mems P := by
  unfold State.writePrf
  repeat' split
  all_goals simp

theorem writeBuf_mems (h : s.Mems P) {k n en st bad} {begins : State → State} (hb : ∀ u : State, u.Mems P → (begins u).Mems P) :
    (s.writeBuf k n en st bad begins).Mems P := by
  unfold State.writeBuf
  extract_lets s1
  have h1 : s1.Mems P := by simp [s1, h]
  split
  · exact h1
  split
  · simp [h1]
  · exact hb _ (by simp [h1])

@[simp] theorem writeScl_mems {k n} : (s.writeScl k n).Mems P ↔ s.Mems P := by
  refine mems_iff_of_keeps fun Q h => ?_
  unfold State.writeScl
  split
  · split <;> simp [h]
  split
  · exact writeBuf_mems h fun _ hu => hu
  · simp [h]

@[simp] theorem writeEng_canonical (h : s.Mems Canonical) {e n} : (s.writeEng e n).Mems Canonical := by unfold State.writeEng; simp [h]

@[simp] theorem writeEngines_canonical (h : s.Mems Canonical) {k n} : (s.writeEngines k n).Mems Canonical := by
  unfold State.writeEngines
  repeat' split
  all_goals simp [h]

@[simp] theorem writeVcxo_canonical (h : s.Mems Canonical) {n} : (s.writeVcxo n).Mems Canonical := by unfold State.writeVcxo; simp [h]
@[simp] theorem writePort_mems {p k n} : (s.writePort p k n).Mems P ↔ s.Mems P := by unfold State.writePort; simp
@[simp] theorem sbOff_mems {b} : (s.sbOff b).Mems P ↔ s.Mems P := by unfold State.sbOff; simp
@[simp] theorem writeSb_canonical (h : s.Mems Canonical) {b k n} : (s.writeSb b k n).Mems Canonical := by unfold State.writeSb; simp [h]

@[simp] theorem writeAud_canonical (h : s.Mems Canonical) {k n} : (s.writeAud k n).Mems Canonical := by
  unfold State.writeAud
  repeat' split
  all_goals simp [h]

@[simp] theorem writeStr_mems {i k n} : (s.writeStr i k n).Mems P ↔ s.Mems P := by unfold State.writeStr; simp

@[simp] theorem writeAncBase_canonical (h : s.Mems Canonical) {ch k n} : (s.writeAncBase ch k n).Mems Canonical := by
  unfold State.writeAncBase; simp [h]

@[simp] theorem writeMux_canonical (h : s.Mems Canonical) {k n} : (s.writeMux k n).Mems Canonical := by
  unfold State.writeMux
  repeat' split
  all_goals simp [h]

@[simp] theorem writeGate_mems {p k n} : (s.writeGate p k n).Mems P ↔ s.Mems P := by unfold State.writeGate; simp
@[simp] theorem writeGateEntry_mems {p k n} : (s.writeGateEntry p k n).Mems P ↔ s.Mems P := by unfold State.writeGateEntry; simp

@[simp] theorem writeEgr_mems {k n} : (s.writeEgr k n).Mems P ↔ s.Mems P := by
  unfold State.writeEgr
  repeat' split
  all_goals simp

@[simp] theorem writeEgrFlow_mems {f k n} : (s.writeEgrFlow f k n).Mems P ↔ s.Mems P := by unfold State.writeEgrFlow; simp
@[simp] theorem writeWlCtrl_canonical (h : s.Mems Canonical) {p n} : (s.writeWlCtrl p n).Mems Canonical := by unfold State.writeWlCtrl; simp [h]

@[simp] theorem writeWl_canonical (h : s.Mems Canonical) {k n} : (s.writeWl k n).Mems Canonical := by
  unfold State.writeWl
  refine ite_keeps_mems (writeWlCtrl_canonical h) (ite_keeps_mems (keepUnless_mems.2 h) ?_)
  split
  · exact ite_keeps_mems (setFlag_mems.2 (setReg_mems.2 h)) (setReg_mems.2 h)
  · exact setReg_mems.2 h

@[simp] theorem groupBegin_mems {g} : (s.groupBegin g).Mems P ↔ s.Mems P := by unfold State.groupBegin; simp
@[simp] theorem groupEnd_mems {g} : (s.groupEnd g).Mems P ↔ s.Mems P := by unfold State.groupEnd; simp
@[simp] theorem writeGroup_mems {g k n} : (s.writeGroup g k n).Mems P ↔ s.Mems P := by unfold State.writeGroup; simp

@[simp] theorem writeClb_mems {k n} : (s.writeClb k n).Mems P ↔ s.Mems P := by
  unfold State.writeClb
  repeat' split
  all_goals simp

@[simp] theorem writeHlt_canonical (h : s.Mems Canonical) {k n} : (s.writeHlt k n).Mems Canonical := by unfold State.writeHlt; simp [h]
@[simp] theorem writePolicy_mems {n} : (s.writePolicy n).Mems P ↔ s.Mems P := by unfold State.writePolicy; simp

@[simp] theorem writeSec_canonical (h : s.Mems Canonical) {x k n} : (s.writeSec x k n).Mems Canonical := by
  unfold State.writeSec
  repeat' split
  all_goals simp [h]

@[simp] theorem consBegin_mems : (s.consBegin).Mems P ↔ s.Mems P := by unfold State.consBegin; simp
@[simp] theorem consEnd_mems : (s.consEnd).Mems P ↔ s.Mems P := by unfold State.consEnd; simp
@[simp] theorem writeCons_mems {k n} : (s.writeCons k n).Mems P ↔ s.Mems P := by unfold State.writeCons; simp

@[simp] theorem writeCtx_mems {q k n} : (s.writeCtx q k n).Mems P ↔ s.Mems P := by
  refine mems_iff_of_keeps fun Q h => ?_
  unfold State.writeCtx
  extract_lets ch free
  refine ite_keeps_mems ?_ (ite_keeps_mems ?_ (ite_keeps_mems ?_ (ite_keeps_mems h (ite_keeps_mems ?_ (ite_keeps_mems ?_ ?_)))))
  · exact writeHold_mems.2 h
  · exact doorbell_mems.2 h
  · exact hostAck_mems.2 h
  · exact keepUnless_mems.2 h
  · exact writeBuf_mems h fun _ hu => hu
  · exact setReg_mems.2 h

/-! ### The register bus -/

@[simp] theorem writeBlock_canonical (h : s.Mems Canonical) {q x k n} : (s.writeBlock q x k n).Mems Canonical := by
  unfold State.writeBlock; simp [h]

@[simp] theorem writeReg_canonical (h : s.Mems Canonical) {q x r k v} : (s.writeReg q x r k v).Mems Canonical := by
  unfold State.writeReg
  extract_lets n
  split
  · exact h
  split
  · cases s.srwRanged k n <;> simp [h]
  · simp [h]

@[simp] theorem writeWord_canonical (h : s.Mems Canonical) {q x off v} : (s.writeWord q x off v).Mems Canonical := by
  unfold State.writeWord; simp only; split <;> simp [h]

@[simp] theorem busWrite_canonical (h : s.Mems Canonical) {q x off n v} : (s.busWrite q x off n v).Mems Canonical := by
  unfold State.busWrite
  repeat' split
  all_goals simp [h]

@[simp] theorem dataDone_mems {k} : (s.dataDone k).Mems P ↔ s.Mems P := by unfold State.dataDone; split <;> simp
theorem readReg_mems {r k} : (s.readReg r k).1.Mems P ↔ s.Mems P := by unfold State.readReg; simp

theorem readWord_mems (h : s.Mems P) {off} : (s.readWord off).1.Mems P := by
  unfold State.readWord
  extract_lets k
  split
  · exact h
  split
  · exact h
  next r b _ =>
  have hr : (s.readReg r b).1.Mems P := readReg_mems.2 h
  split
  · exact hr
  split
  · simp [hr]
  · split <;> simp [h]

theorem busRead_canonical (h : s.Mems Canonical) {q off n} : (s.busRead q off n).1.Mems Canonical := by
  unfold State.busRead
  split
  · simp [h]
  split
  · exact h
  split
  · exact readWord_mems h
  split
  · simp [readReg_mems, h]
  · exact readWord_mems (readWord_mems h)

@[simp] theorem busAnswer_canonical (h : s.Mems Canonical) {q off n} : (s.busAnswer q off n).Mems Canonical := by
  unfold State.busAnswer
  extract_lets k
  split
  next t v e => simp [fst_mems e (busRead_canonical h)]

theorem execRegisterWrite_canonical (h : s.Mems Canonical) {q off size v x} : (execRegisterWrite q off size v x s).Mems Canonical := by
  unfold execRegisterWrite; exact whenUp_mems h (by simp [h])

theorem execSrwWrite_canonical (h : s.Mems Canonical) {q off size v x} : (execSrwWrite q off size v x s).Mems Canonical := by
  unfold execSrwWrite; exact whenUp_mems h (by simp [h])

theorem execLowWordWrite_canonical (h : s.Mems Canonical) {q off v x} : (execLowWordWrite q off v x s).Mems Canonical := by
  unfold execLowWordWrite; exact whenUp_mems h (by simp [h])

theorem execRcRegisterRead_canonical (h : s.Mems Canonical) {q off size now} : (execRcRegisterRead q off size now s).Mems Canonical := by
  unfold execRcRegisterRead; exact whenUp_mems h (by simp [h])

theorem execLowWordRead_canonical (h : s.Mems Canonical) {q off now} : (execLowWordRead q off now s).Mems Canonical := by
  unfold execLowWordRead; exact whenUp_mems h (by simp [h])

@[simp] theorem barRegWrite_canonical (h : s.Mems Canonical) {x off l} : (s.barRegWrite x off l).Mems Canonical := by
  unfold State.barRegWrite
  split
  · simp [h]
  split
  · exact foldl_keeps_mems (fun _ _ h => busWrite_canonical h) _ h
  · simp [h]

theorem barRegRead_canonical (h : s.Mems Canonical) {off n} : (s.barRegRead off n).1.Mems Canonical := by
  unfold State.barRegRead
  split
  · exact busRead_canonical h
  split
  · refine foldl_fst_keeps_mems (fun q i hq => ?_) _ ?_
    · exact busRead_canonical hq
    · exact h
  · simp [h]

@[simp] theorem barWrite_canonical (h : s.Mems Canonical) {x a l} : (s.barWrite x a l).Mems Canonical := by
  unfold State.barWrite
  split
  · exact h
  split
  · simp [h]
  split
  · simp [h]
  split
  · exact h
  split
  · exact memRequest_mems h fun _ hu => memWrite_canonical hu
  · simp [h]

@[simp] theorem barReads_canonical (h : s.Mems Canonical) {a n ecc} : (s.barReads a n ecc).Mems Canonical := by
  unfold State.barReads
  split
  · simp [h]
  split
  · simp [h]
  split
  · split
    next t l e => simp [fst_mems e (barRegRead_canonical h)]
  split
  · exact memRequest_mems h fun _ hu => memRead_canonical hu
  · simp [h]

theorem execBar2Access_canonical (h : s.Mems Canonical) {win off data n ecc x} : (execBar2Access win off data n ecc x s).Mems Canonical := by
  unfold execBar2Access
  refine whenUp_mems h ?_
  extract_lets s1 a s2
  have h1 : s1.Mems Canonical := by simp [s1, h]
  have h2 : s2.Mems Canonical := by simp [s2, h1]
  split
  · cases data <;> simp [h1]
  · split <;> simp [h2]

/-! ### Operands -/

@[simp] theorem hold_mems {i n} : (s.hold i n).Mems P ↔ s.Mems P := by unfold State.hold; simp
@[simp] theorem later_mems {i rd n} : (s.later i rd n).Mems P ↔ s.Mems P := by unfold State.later; simp
@[simp] theorem divides_mems {i} : (s.divides i).Mems P ↔ s.Mems P := by unfold State.divides; simp
@[simp] theorem retire_mems {i cycles f} : (s.retire i cycles f).Mems P ↔ s.Mems P := by unfold State.retire; simp
@[simp] theorem retireRd_mems {i cycles rd v} : (s.retireRd i cycles rd v).Mems P ↔ s.Mems P := by unfold State.retireRd; simp
@[simp] theorem retireTo_mems {i cycles pc f} : (s.retireTo i cycles pc f).Mems P ↔ s.Mems P := by unfold State.retireTo; simp
@[simp] theorem blockOn_mems {i cycles b} : (s.blockOn i cycles b).Mems P ↔ s.Mems P := by unfold State.blockOn; simp
@[simp] theorem unblock_mems {i f} : (s.unblock i f).Mems P ↔ s.Mems P := by unfold State.unblock; simp
@[simp] theorem writeLine_canonical (h : s.Mems Canonical) {line l} : (s.writeLine line l).Mems Canonical := by unfold State.writeLine; simp [h]

@[simp] theorem dropData_canonical (h : s.Mems Canonical) {k line back} : (s.dropData k line back).Mems Canonical := by
  unfold State.dropData; split <;> simp [h]

@[simp] theorem dataRoom_canonical (h : s.Mems Canonical) {k} : (s.dataRoom k).Mems Canonical := by
  unfold State.dataRoom
  extract_lets l
  split
  · exact h
  · cases l[s.free.toNat % l.length]? <;> simp [h]

@[simp] theorem fillData_canonical (h : s.Mems Canonical) {k line l} : (s.fillData k line l).Mems Canonical := by unfold State.fillData; simp [h]
@[simp] theorem fillInstr_mems {k line l} : (s.fillInstr k line l).Mems P ↔ s.Mems P := by unfold State.fillInstr; simp
@[simp] theorem cacheError_canonical (h : s.Mems Canonical) {k tval} : (s.cacheError k tval).Mems Canonical := by unfold State.cacheError; simp [h]
@[simp] theorem badWord_canonical (h : s.Mems Canonical) {x} : (s.badWord x).Mems Canonical := by unfold State.badWord; split <;> simp [h]
@[simp] theorem corrected_mems {a c} : (s.corrected a c).Mems P ↔ s.Mems P := by unfold State.corrected; split <;> simp
@[simp] theorem issuedNow_mems {x} : (s.issuedNow x).Mems P ↔ s.Mems P := by unfold State.issuedNow; split <;> simp
@[simp] theorem issuing_mems {x} : (s.issuing x).Mems P ↔ s.Mems P := by unfold State.issuing; simp

theorem issueWord_canonical {x w f} (h : s.Mems Canonical) (hf : ∀ u : State, u.Mems Canonical → (f u).Mems Canonical) :
    (s.issueWord x w f).Mems Canonical := by
  have hi := hf (s.issuing x) (by simp [h])
  unfold State.issueWord
  simp only
  split
  · simp [h]
  · simp [h]
  · split
    · simp [h]
    · split
      · exact hi
      · simp [h]

theorem whenIssued_canonical {x w f} (h : s.Mems Canonical) (hf : ∀ u : State, u.Mems Canonical → (f u).Mems Canonical) :
    (whenIssued x w s f).Mems Canonical := by
  have hi : (s.issueWord x w f).Mems Canonical := issueWord_canonical h hf
  unfold whenIssued
  split
  · simpa using hi
  · split
    · simpa using hi
    · simpa using h

@[simp] theorem illegal_canonical (h : s.Mems Canonical) {x w} : (s.illegal x w).Mems Canonical := by unfold State.illegal; simp [h]
@[simp] theorem alu_mems {x cycles rd v} : (s.alu x cycles rd v).Mems P ↔ s.Mems P := by unfold State.alu; simp

theorem execUndefinedInstruction_canonical (h : s.Mems Canonical) {x word} : (execUndefinedInstruction x word s).Mems Canonical := by
  unfold execUndefinedInstruction
  split
  · exact whenIssued_canonical h fun _ hu => illegal_canonical hu
  · simp [h]

/-! ### Arithmetic instructions -/

theorem aluR_canonical (h : s.Mems Canonical) {func latency op x rd rs1 rs2} : (aluR func latency op x rd rs1 rs2 s).Mems Canonical := by
  unfold aluR; exact whenIssued_canonical h fun u hu => by simp [hu]

theorem divR_canonical (h : s.Mems Canonical) {func op x rd rs1 rs2} : (divR func op x rd rs1 rs2 s).Mems Canonical := by
  unfold divR; exact whenIssued_canonical h fun u hu => by simp [hu]

theorem aluI_canonical (h : s.Mems Canonical) {opcode op x rd rs1 imm} : (aluI opcode op x rd rs1 imm s).Mems Canonical := by
  unfold aluI; exact whenIssued_canonical h fun u hu => by simp [hu]

theorem shiftI_canonical (h : s.Mems Canonical) {opcode op x rd rs1 imm} : (shiftI opcode op x rd rs1 imm s).Mems Canonical := by
  unfold shiftI; exact whenIssued_canonical h fun u hu => by simp [hu]

theorem execInsi_canonical (h : s.Mems Canonical) {x rd lane imm} : (execInsi x rd lane imm s).Mems Canonical := by
  unfold execInsi; exact whenIssued_canonical h fun u hu => by simp [hu]

/-! ### Memory instructions -/

@[simp] theorem badData_canonical (h : s.Mems Canonical) {t key} : (s.badData t key).Mems Canonical := by unfold State.badData; simp [h]

@[simp] theorem loadThread_canonical (h : s.Mems Canonical) {t signed n rd a ecc} : (s.loadThread t signed n rd a ecc).Mems Canonical := by
  unfold State.loadThread
  split
  · simp [h]
  · split <;> simp [h]
  · split
    next u v e => simp [fst_mems e (busRead_canonical h)]

@[simp] theorem storeData_canonical (h : s.Mems Canonical) {key n v} : (s.storeData key n v).Mems Canonical := by unfold State.storeData; simp [h]

theorem later4_keeps_mems (h : s.Mems P) {f} (hf : ∀ u : State, u.Mems P → (f u).Mems P) : (s.later4 f).Mems P :=
  (update_mems _).2 (hf _ (advance_mems.2 h))

@[simp] theorem storeThread_canonical (h : s.Mems Canonical) {t n a v} : (s.storeThread t n a v).Mems Canonical := by
  unfold State.storeThread
  split
  · simp [h]
  · simp [h]
  · exact retire_mems.2 (later4_keeps_mems h fun _ hu => busWrite_canonical hu)

@[simp] theorem atomicThread_canonical (h : s.Mems Canonical) {t op rd a b ecc} : (s.atomicThread t op rd a b ecc).Mems Canonical := by
  unfold State.atomicThread; simp [h]

@[simp] theorem cached_mems {k op n rd a data cycles l} : (s.cached k op n rd a data cycles l).Mems P ↔ s.Mems P := by
  refine mems_iff_of_keeps fun Q h => ?_
  unfold State.cached
  extract_lets i
  split
  extract_lets s1
  have h1 : s1.Mems Q := elim_keeps_mems h fun v => by simp [h]
  simp [h1]

@[simp] theorem coreAccess_canonical (h : s.Mems Canonical) {k op n rd a data cycles ecc} :
    (s.coreAccess k op n rd a data cycles ecc).Mems Canonical := by
  unfold State.coreAccess
  repeat' split
  all_goals simp [h]

theorem loadI_canonical (h : s.Mems Canonical) {opcode signed n x rd rs1 imm ecc} : (loadI opcode signed n x rd rs1 imm ecc s).Mems Canonical := by
  unfold loadI
  refine whenIssued_canonical h fun u hu => ?_
  simp only
  split <;> simp [hu]

theorem storeI_canonical (h : s.Mems Canonical) {opcode n x rd rs1 imm} : (storeI opcode n x rd rs1 imm s).Mems Canonical := by
  unfold storeI
  refine whenIssued_canonical h fun u hu => ?_
  simp only
  split <;> simp [hu]

theorem atomicR_canonical (h : s.Mems Canonical) {func op x rd rs1 rs2 ecc} : (atomicR func op x rd rs1 rs2 ecc s).Mems Canonical := by
  unfold atomicR
  refine whenIssued_canonical h fun u hu => ?_
  simp only
  split <;> simp [hu]

theorem farI_canonical (h : s.Mems Canonical) {opcode op n x rd rs1 imm} : (farI opcode op n x rd rs1 imm s).Mems Canonical := by
  unfold farI; exact whenIssued_canonical h fun u hu => by simp [hu]

theorem deviceRead_canonical (h : s.Mems Canonical) {q a n ecc} : (s.deviceRead q a n ecc).1.Mems Canonical := by
  unfold State.deviceRead
  split
  · simp [h]
  split
  · exact busRead_canonical h
  split
  · exact memServe_canonical h
  · exact h

@[simp] theorem deviceWrite_canonical (h : s.Mems Canonical) {q y a n v} : (s.deviceWrite q y a n v).Mems Canonical := by
  unfold State.deviceWrite; simp [h]

@[simp] theorem touch_mems {a} : (s.touch a).Mems P ↔ s.Mems P := by unfold State.touch; simp

@[simp] theorem farDone_canonical (h : s.Mems Canonical) {a op n rd addr data ecc y} : (s.farDone a op n rd addr data ecc y).Mems Canonical := by
  unfold State.farDone
  extract_lets i
  split
  · split <;> simp [h]
  · split
    next u r e =>
    have hu : u.Mems Canonical := fst_mems e (deviceRead_canonical h)
    split
    · simp [hu]
    · split
      exact unblock_mems.2 (elim_keeps_mems hu fun v => deviceWrite_canonical hu)

@[simp] theorem fillDone_canonical (h : s.Mems Canonical) {k instr line ecc} : (s.fillDone k instr line ecc).Mems Canonical := by
  unfold State.fillDone
  extract_lets a n
  split
  next u r e =>
  have hu : u.Mems Canonical := by
    refine fst_mems e ?_
    split
    · simp [h]
    split
    · exact memServe_canonical h
    · exact h
  split
  · simp [hu]
  · exact setThr_mems.2 (ite_keeps_mems (fillInstr_mems.2 hu) (fillData_canonical hu))

theorem execFarAccessComplete_canonical (h : s.Mems Canonical) {a ecc y} : (execFarAccessComplete a ecc y s).Mems Canonical := by
  unfold execFarAccessComplete
  simp only
  repeat' split
  all_goals simp [h]

/-! ### Control instructions -/

theorem branchB_canonical (h : s.Mems Canonical) {opcode cond x rs1 rs2 off} : (branchB opcode cond x rs1 rs2 off s).Mems Canonical := by
  unfold branchB; exact whenIssued_canonical h fun u hu => by simp [hu]

theorem execJal_canonical (h : s.Mems Canonical) {x rd off} : (execJal x rd off s).Mems Canonical := by
  unfold execJal; exact whenIssued_canonical h fun u hu => by simp [hu]

theorem execJalr_canonical (h : s.Mems Canonical) {x rd rs1 imm} : (execJalr x rd rs1 imm s).Mems Canonical := by
  unfold execJalr; exact whenIssued_canonical h fun u hu => by simp [hu]

@[simp] theorem badDesc_mems {g a ecc} : (s.badDesc g a ecc).Mems P ↔ s.Mems P := by unfold State.badDesc; split <;> simp

@[simp] theorem submit_canonical (h : s.Mems Canonical) {g rd a at' ecc} : (s.submit g rd a at' ecc).Mems Canonical := by
  unfold State.submit
  extract_lets i s1
  have h1 : s1.Mems Canonical := by simp [s1, h]
  split
  · simp [h]
  · split
    · next e => simp [fst_mems e (issue_mems.2 h1)]
    · next e => simp [fst_mems e (issue_mems.2 h1)]

theorem execIssue_canonical (h : s.Mems Canonical) {x rd rs1 imm} : (execIssue x rd rs1 imm s).Mems Canonical := by
  unfold execIssue; exact whenIssued_canonical h fun u hu => by simp [hu]

theorem execIssued_canonical (h : s.Mems Canonical) {x rd rs1 rs2} : (execIssued x rd rs1 rs2 s).Mems Canonical := by
  unfold execIssued; exact whenIssued_canonical h fun u hu => by simp [hu]

theorem execIssueUnblock_mems (h : s.Mems P) {a now} : (execIssueUnblock a now s).Mems P := by
  unfold execIssueUnblock
  rw [next_mems]
  extract_lets i t
  have ht : t.Mems P := by simp [t, h]
  split
  · split
    · split
      · next e => simp [fst_mems e (issue_mems.2 ht)]
      · next e => simp [fst_mems e (issue_mems.2 ht)]
    · exact h
  · exact h

theorem execCancel_canonical (h : s.Mems Canonical) {x rd rs1 rs2} : (execCancel x rd rs1 rs2 s).Mems Canonical := by
  refine whenIssued_canonical h fun u hu => ?_
  split
  next e => simp [fst_mems e (cancel_canonical hu)]

@[simp] theorem takeEvent_mems {a e} : (s.takeEvent a e).Mems P ↔ s.Mems P := by unfold State.takeEvent; split <;> simp
@[simp] theorem waited_mems {i cycles rd v} : (s.waited i cycles rd v).Mems P ↔ s.Mems P := by unfold State.waited; simp

theorem waitEnds_mems {a mask finished cycles rd t} (e : s.waitEnds a mask finished cycles rd = some t) : t.Mems P ↔ s.Mems P := by
  unfold State.waitEnds at e
  extract_lets p at e
  split at e
  · cases e; simp
  split at e
  · cases e; simp
  · cases e

@[simp] theorem waitFor_canonical (h : s.Mems Canonical) {a rd mask deadline} : (s.waitFor a rd mask deadline).Mems Canonical := by
  unfold State.waitFor
  extract_lets i t
  refine ite_keeps_mems (trap_canonical h) (getD_keeps_mems (fun u e => (waitEnds_mems e).2 h) ?_)
  simp [h]

theorem execWait_canonical (h : s.Mems Canonical) {x rd rs1 rs2 timed} : (execWait x rd rs1 rs2 timed s).Mems Canonical := by
  unfold execWait; exact whenIssued_canonical h fun u hu => by simp [hu]

theorem execWaitReturn_mems (h : s.Mems P) {a now} : (execWaitReturn a now s).Mems P := by
  unfold execWaitReturn
  rw [next_mems]
  extract_lets t
  have ht : t.Mems P := by simp [t, h]
  refine ite_keeps_mems ?_ h
  split
  · exact getD_keeps_mems (fun u e => (waitEnds_mems e).2 ht) h
  · exact h

theorem execSig_canonical (h : s.Mems Canonical) {x rd rs1 rs2} : (execSig x rd rs1 rs2 s).Mems Canonical := by
  unfold execSig; exact whenIssued_canonical h fun u hu => by simp [hu]

theorem clockR_canonical (h : s.Mems Canonical) {func v x rd rs1 rs2} : (clockR func v x rd rs1 rs2 s).Mems Canonical := by
  unfold clockR; exact whenIssued_canonical h fun u hu => by simp [hu]

theorem execMfs_canonical (h : s.Mems Canonical) {x rd rs1 imm} : (execMfs x rd rs1 imm s).Mems Canonical := by
  refine whenIssued_canonical h fun u hu => ?_
  split
  · simp [hu]
  · split <;> simp [hu]

@[simp] theorem moveRing_mems {a base len} : (s.moveRing a base len).Mems P ↔ s.Mems P := by unfold State.moveRing; simp
@[simp] theorem setSpecial_mems {a n v} : (s.setSpecial a n v).Mems P ↔ s.Mems P := by unfold State.setSpecial; split <;> simp

theorem execMts_canonical (h : s.Mems Canonical) {x rd rs1 imm} : (execMts x rd rs1 imm s).Mems Canonical := by
  unfold execMts; exact whenIssued_canonical h fun u hu => by simp [hu]

theorem threadR_canonical (h : s.Mems Canonical) {func x rd rs1 rs2} {f : State → Nat → State}
    (hf : ∀ (u : State) i, u.Mems Canonical → (f u i).Mems Canonical) : (threadR func x rd rs1 rs2 s f).Mems Canonical :=
  whenIssued_canonical h fun u hu => hf u _ hu

theorem execFence_canonical (h : s.Mems Canonical) {x rd rs1 rs2} : (execFence x rd rs1 rs2 s).Mems Canonical :=
  threadR_canonical h fun u i hu => by split <;> simp [hu]

theorem execFenceComplete_mems (h : s.Mems P) {a now} : (execFenceComplete a now s).Mems P := by unfold execFenceComplete; simp [h]

theorem execYield_canonical (h : s.Mems Canonical) {x rd rs1 rs2} : (execYield x rd rs1 rs2 s).Mems Canonical :=
  threadR_canonical h fun u i hu => by simp [hu]

@[simp] theorem haltThread_canonical (h : s.Mems Canonical) {t} : (s.haltThread t).Mems Canonical := by unfold State.haltThread; simp [h]

theorem execHalt_canonical (h : s.Mems Canonical) {x rd rs1 rs2} : (execHalt x rd rs1 rs2 s).Mems Canonical :=
  threadR_canonical h fun u i hu => by split <;> simp [hu]

theorem execHaltComplete_canonical (h : s.Mems Canonical) {t now} : (execHaltComplete t now s).Mems Canonical := by
  unfold execHaltComplete; simp [h]

theorem execRetv_canonical (h : s.Mems Canonical) {x rd rs1 rs2} : (execRetv x rd rs1 rs2 s).Mems Canonical :=
  threadR_canonical h fun u i hu => by split <;> simp [hu]

theorem execBkpt_canonical (h : s.Mems Canonical) {x rd rs1 rs2} : (execBkpt x rd rs1 rs2 s).Mems Canonical :=
  threadR_canonical h fun u i hu => by simp [hu]

theorem execTrap_canonical (h : s.Mems Canonical) {x rd rs1 imm} : (execTrap x rd rs1 imm s).Mems Canonical := by
  unfold execTrap; exact whenIssued_canonical h fun u hu => by simp [hu]

@[simp] theorem enterVector_mems {t} : (s.enterVector t).Mems P ↔ s.Mems P := by unfold State.enterVector; simp
theorem execVectorEntry_mems (h : s.Mems P) {t} : (execVectorEntry t s).Mems P := by unfold execVectorEntry; simp [h]

/-! ### Management cores -/

theorem supervisor_canonical (h : s.Mems Canonical) {x w} {f : State → Nat → State}
    (hf : ∀ (u : State) k, u.Mems Canonical → (f u k).Mems Canonical) :
    (supervisor x w s f).Mems Canonical := by
  refine whenIssued_canonical h fun u hu => ?_
  split
  · simp [hu]
  · exact hf u _ hu

theorem execRdk_canonical (h : s.Mems Canonical) {x rd rs1 imm} : (execRdk x rd rs1 imm s).Mems Canonical := by
  unfold execRdk
  extract_lets w
  refine supervisor_canonical h fun u k hu => ?_
  split
  · exact illegal_canonical hu
  · split
    · exact alu_mems.2 hu
    · exact illegal_canonical hu

theorem execWrk_canonical (h : s.Mems Canonical) {x rd rs1 imm} : (execWrk x rd rs1 imm s).Mems Canonical := by
  unfold execWrk
  extract_lets w
  refine supervisor_canonical h fun u k hu => ?_
  split
  · exact retire_mems.2 (setCore_mems.2 hu)
  · exact illegal_canonical hu

@[simp] theorem leaveHandler_mems {k} : (s.leaveHandler k).Mems P ↔ s.Mems P := by unfold State.leaveHandler; simp

theorem execRetk_canonical (h : s.Mems Canonical) {x rd rs1 rs2} : (execRetk x rd rs1 rs2 s).Mems Canonical := by
  unfold execRetk
  extract_lets w
  exact supervisor_canonical h fun u k hu => ite_keeps_mems (leaveHandler_mems.2 hu) (illegal_canonical hu)

theorem execSleep_canonical (h : s.Mems Canonical) {x rd rs1 rs2} : (execSleep x rd rs1 rs2 s).Mems Canonical :=
  supervisor_canonical h fun u k hu => by split <;> simp [hu]

theorem execCoreSleepWake_mems (h : s.Mems P) {k} : (execCoreSleepWake k s).Mems P := by unfold execCoreSleepWake; simp [h]
@[simp] theorem takeLine_mems {k} : (s.takeLine k).Mems P ↔ s.Mems P := by unfold State.takeLine; simp
theorem execCoreHandlerEntry_mems (h : s.Mems P) {k} : (execCoreHandlerEntry k s).Mems P := by unfold execCoreHandlerEntry; simp [h]

theorem execDcinv_canonical (h : s.Mems Canonical) {x rd rs1 rs2} : (execDcinv x rd rs1 rs2 s).Mems Canonical :=
  supervisor_canonical h fun u k hu => by simp [hu]

theorem execDcwb_canonical (h : s.Mems Canonical) {x rd rs1 rs2} : (execDcwb x rd rs1 rs2 s).Mems Canonical :=
  supervisor_canonical h fun u k hu => by simp [hu]

@[simp] theorem dropAll_canonical (h : s.Mems Canonical) {k} : (s.dropAll k).Mems Canonical :=
  foldl_keeps_mems (fun _ _ h => dropData_canonical h) _ h

theorem execDcwball_canonical (h : s.Mems Canonical) {x rd rs1 rs2} : (execDcwball x rd rs1 rs2 s).Mems Canonical :=
  supervisor_canonical h fun u k hu => by simp [hu]

theorem execIcinv_canonical (h : s.Mems Canonical) {x rd rs1 rs2} : (execIcinv x rd rs1 rs2 s).Mems Canonical :=
  supervisor_canonical h fun u k hu => by simp [hu]

end

/-- Every command keeps both memories in canonical form. -/
theorem exec_canonical {s : State} (c : Instr) (h : s.Mems Canonical) : Out.Mems Canonical (exec c s) := by
  cases c with
  | registerWrite => exact execRegisterWrite_canonical h
  | rcRegisterRead => exact execRcRegisterRead_canonical h
  | lowWordRead => exact execLowWordRead_canonical h
  | lowWordWrite => exact execLowWordWrite_canonical h
  | srwWrite => exact execSrwWrite_canonical h
  | ctxShadowCtrlWrite => exact execCtxShadowCtrlWrite_mems h
  | handover => exact execHandover_canonical h
  | proofingSlotStart => exact execProofingSlotStart_mems h
  | proofingSlotEnd => exact execProofingSlotEnd_canonical h
  | codingDeadline => exact execCodingDeadline_mems h
  | sliceRelease => exact execSliceRelease_canonical h
  | pictureRelease => exact execPictureRelease_canonical h
  | lateRelease => exact execLateRelease_canonical h
  | skipUnitEmit => exact execSkipUnitEmit_canonical h
  | add | sub | and | or | xor | shl | shr | sra | slt | sltu | min | max | minu | maxu | adds | subs | mul | mulhu
    | mulq | clz | popc => rw [exec]; exact aluR_canonical h
  | divu | remu => rw [exec]; exact divR_canonical h
  | addi | andi | ori | xori | slti | sltiu => rw [exec]; exact aluI_canonical h
  | shli | shri | srai => rw [exec]; exact shiftI_canonical h
  | insi => exact execInsi_canonical h
  | lb | lh | lw | lws | ld => rw [exec]; exact loadI_canonical h
  | lwf | ldf | swf | sdf => rw [exec]; exact farI_canonical h
  | sb | sh | sw | sd => rw [exec]; exact storeI_canonical h
  | farAccessComplete => exact execFarAccessComplete_canonical h
  | aadd | aswp | acas => rw [exec]; exact atomicR_canonical h
  | beq | bne | blt | bge | bltu | bgeu => rw [exec]; exact branchB_canonical h
  | jal => exact execJal_canonical h
  | jalr => exact execJalr_canonical h
  | issue => exact execIssue_canonical h
  | issued => exact execIssued_canonical h
  | issueUnblock => exact execIssueUnblock_mems h
  | cancel => exact execCancel_canonical h
  | wait => exact execWait_canonical h
  | waitReturn => exact execWaitReturn_mems h
  | sig => exact execSig_canonical h
  | time | traw | tepoch => rw [exec]; exact clockR_canonical h
  | mfs => exact execMfs_canonical h
  | mts => exact execMts_canonical h
  | fence => exact execFence_canonical h
  | fenceComplete => exact execFenceComplete_mems h
  | yield => exact execYield_canonical h
  | halt => exact execHalt_canonical h
  | haltComplete => exact execHaltComplete_canonical h
  | retv => exact execRetv_canonical h
  | bkpt => exact execBkpt_canonical h
  | trap => exact execTrap_canonical h
  | undefinedInstruction => exact execUndefinedInstruction_canonical h
  | vectorEntry => exact execVectorEntry_mems h
  | rdk => exact execRdk_canonical h
  | wrk => exact execWrk_canonical h
  | retk => exact execRetk_canonical h
  | sleep => exact execSleep_canonical h
  | coreSleepWake => exact execCoreSleepWake_mems h
  | dcinv => exact execDcinv_canonical h
  | dcwb => exact execDcwb_canonical h
  | dcwball => exact execDcwball_canonical h
  | icinv => exact execIcinv_canonical h
  | coreHandlerEntry => exact execCoreHandlerEntry_mems h
  | ctxDoorbell => exact execCtxDoorbell_mems h
  | threadStart => exact execThreadStart_canonical h
  | threadStop => exact execThreadStop_canonical h
  | threadResume => exact execThreadResume_canonical h
  | stopTimeout => exact execStopTimeout_canonical h
  | seqMemDataWrite => exact execSeqMemDataWrite_canonical h
  | seqMemDataRead => exact execSeqMemDataRead_mems h
  | seqTaskPost => exact execSeqTaskPost_canonical h
  | mpcTaskDispatch => exact execMpcTaskDispatch_canonical h
  | directDispatch => exact execDirectDispatch_canonical h
  | taskDispatch => exact execTaskDispatch_canonical h
  | taskEnd => exact execTaskEnd_canonical h
  | heldRecordWrite => exact execHeldRecordWrite_canonical h
  | dispatcherTick => exact execDispatcherTick_mems h
  | dspTickWrite => exact execDspTickWrite_mems h
  | dspCancel => exact execDspCancel_canonical h
  | admitChannel => exact execAdmit_canonical h
  | release => exact execRelease_canonical h
  | releaseComplete => exact execReleaseComplete_mems h
  | mpcAge => exact execMpcAge_canonical h
  | entryEcc => exact execEntryEcc_canonical h
  | macFrameReceive => exact execMacFrameReceive_mems h
  | ingestPacket => exact execIngestPacket_canonical h
  | policerSweep => exact execPolicerSweep_mems h
  | pathSilent => exact execPathSilent_canonical h
  | flowTableEcc => exact execFlowTableEcc_canonical h
  | ingIndSel => exact execIngIndSel_mems h
  | eyeWindow => exact execEyeWindow_canonical h
  | forceCtle => exact execForceCtle_mems h
  | laneLockLoss => exact execLaneLockLoss_canonical h
  | portUp => exact execPortUp_mems h
  | sclCoefLoad => exact execSclCoefLoad_mems h
  | proofingBufEcc => exact execProofingBufEcc_canonical h
  | scalerBufEcc => exact execScalerBufEcc_canonical h
  | ctuStart => exact execCtuStart_mems h
  | ctuComplete => exact execCtuComplete_canonical h
  | engineSramEcc => exact execEngineSramEcc_canonical h
  | engineTimeout => exact execEngineTimeout_canonical h
  | refCacheEcc => exact execRefCacheEcc_canonical h
  | proofStart => exact execProofStart_mems h
  | proofEnd => exact execProofEnd_canonical h
  | proofAgeExpiry => exact execProofAgeExpiry_canonical h
  | engineIsolate => exact execEngineIsolate_canonical h
  | engineRestore => exact execEngineRestore_mems h
  | trayInvalidate => exact execTrayInvalidate_mems h
  | auTimeout => exact execAuTimeout_mems h
  | decodeOutputFrame => exact execDecodeOutputFrame_mems h
  | decHostAck => exact execDecHostAck_mems h
  | mediaSamplePeriod => exact execMediaSamplePeriod_canonical h
  | tdmPinFrame => exact execTdmPinFrame_canonical h
  | portNoClock => exact execPortNoClock_canonical h
  | audPortMaskWrite => exact execAudPortMaskWrite_mems h
  | vcxoLoopRun => exact execVcxoLoopRun_canonical h
  | audStartArm => exact execAudStartArm_canonical h
  | egressFrameStart => exact execEgressFrameStart_mems h
  | egressFrameDone => exact execEgressFrameDone_mems h
  | tsDatagramRelease => exact execTsDatagramRelease_canonical h
  | ancPacketRelease => exact execAncPacketRelease_canonical h
  | videoPacketPacing => exact execVideoPacketPacing_canonical h
  | scte35Resend => exact execScte35Resend_mems h
  | srtpLoad => exact execSrtpLoad_mems h
  | srtpSlotWrite => exact execSrtpSlotWrite_mems h
  | gateChange => exact execGateChange_mems h
  | gateListActivate => exact execGateListActivate_mems h
  | gateEntryAdvance => exact execGateEntryAdvance_mems h
  | egrIndSel => exact execEgrIndSel_mems h
  | tbSnap => exact execTbSnap_mems h
  | newEpoch => exact execNewEpoch_mems h
  | tbStep => exact execTbStep_canonical h
  | timebaseSample => exact execTimebaseSample_canonical h
  | rateFold => exact execRateFold_mems h
  | tbRateWrite => exact execTbRateWrite_canonical h
  | tbGmIdWrite => exact execTbGmIdWrite_mems h
  | holdoverTimeout => exact execHoldoverTimeout_canonical h
  | timeFlitSend => exact execTimeFlitSend_mems h
  | timeFlitReceive => rw [exec]; exact execTimeFlitReceive_canonical h
  | ppsEdge => exact execPpsEdge_canonical h
  | pgEnable => exact execPgEnable_canonical h
  | pulseDue => exact execPulseDue_mems h
  | pulseEnd => exact execPulseEnd_mems h
  | memoryRead => exact execMemoryRead_canonical h
  | memoryWrite => exact execMemoryWrite_canonical h
  | scrubRead => exact execScrubRead_canonical h
  | migrationCopyUnit => exact execMigrationCopyUnit_canonical h
  | bankRefresh => exact execBankRefresh_mems h
  | selfRefreshEntry => exact execSelfRefreshEntry_mems h
  | selfRefreshRetry => exact execSelfRefreshRetry_mems h
  | selfRefreshExit => exact execSelfRefreshExit_canonical h
  | bar2Access => exact execBar2Access_canonical h
  | msixVectorUnmask => exact execMsixVectorUnmask_mems h
  | hcrDoorbell => exact execHcrDoorbell_canonical h
  | commandFetch => exact execCommandFetch_mems h
  | nop => exact execNop_mems h
  | recipeLoad => exact execRecipeLoad_canonical h
  | channelStart => exact execChannelStart_canonical h
  | channelStop => exact execChannelStop_canonical h
  | ptpConfig => exact execPtpConfig_mems h
  | mcastJoin => exact execMcastJoin_mems h
  | mcastLeave => exact execMcastLeave_mems h
  | dmaGo => exact execDmaGo_canonical h
  | dmaAbort => exact execDmaAbort_mems h
  | dmaBurstIssue => exact execDmaBurstIssue_mems h
  | dmaBurstComplete => exact execDmaBurstComplete_canonical h
  | dmaHostError => exact execDmaHostError_canonical h
  | memWriteFlit => exact execMemWriteFlit_canonical h
  | mediaFlit => exact execMediaFlit_canonical h
  | msgFlit => exact execMsgFlit_mems h
  | idleFlit => exact execIdleFlit_mems h
  | heartbeatFlit => rw [exec]; exact execHeartbeatFlit_mems h
  | echoReq => exact execEchoReq_mems h
  | echoRsp => exact execEchoRsp_mems h
  | laneMap => exact execLaneMap_mems h
  | audit => rw [exec]; exact execAudit_canonical h
  | unknownFlitType => exact execUnknownFlitType_mems h
  | flitTransmit => exact execFlitTransmit_mems h
  | auditSend => exact execAuditSend_mems h
  | trainingBlockReceive => exact execTrainingBlockReceive_canonical h
  | receiverReady => exact execReceiverReady_mems h
  | trainTimeout => exact execTrainTimeout_mems h
  | wlLaneLockLoss => exact execWlLaneLockLoss_canonical h
  | wlRetrain => exact execWlRetrain_canonical h
  | idleEntry => exact execIdleEntry_mems h
  | idleExit => exact execIdleExit_mems h
  | heartbeatCycle => exact execHeartbeatCycle_canonical h
  | challengeCycle => exact execChallengeCycle_canonical h
  | claimBusFault => exact execClaimBusFault_canonical h
  | busFaultClear => exact execBusFaultClear_mems h
  | heartbeatMiss => exact execHeartbeatMiss_canonical h
  | yieldGroup => exact execYieldGroup_mems h
  | standbyTokenReturn => exact execStandbyTokenReturn_mems h
  | sieveReport => exact execSieveReport_canonical h
  | sieveAck => exact execSieveAck_mems h
  | sieveRingHeadWrite => exact execSieveRingHeadWrite_mems h
  | sieveRestore => exact execSieveRestore_mems h
  | sieveInject => exact execSieveInject_canonical h
  | sieveLock => exact execSieveLock_mems h
  | sensorSample => exact execSensorSample_canonical h
  | hthPsReq => exact execHthPsReq_canonical h
  | ps1IdleEntry => exact execPs1IdleEntry_mems h
  | ps2EntryComplete => exact execPs2EntryComplete_mems h
  | ps2ExitComplete => exact execPs2ExitComplete_canonical h
  | wakeSchedule => exact execWakeSchedule_mems h
  | linkActivity => exact execLinkActivity_mems h
  | wdogKick => exact execWdogKick_mems h
  | wdogTimeout => exact execWdogTimeout_canonical h
  | aonAlign => exact execAonAlign_mems h
  | oscTrimUpdate => exact execOscTrimUpdate_canonical h
  | refclkLost => exact execRefclkLost_canonical h
  | marginSample => exact execMarginSample_canonical h
  | eyeScan => exact execEyeScan_canonical h
  | ceTrendHour => exact execCeTrendHour_canonical h
  | serviceEstimate => exact execServiceEstimate_mems h
  | pictureEvent => exact execPictureEvent_mems h
  | feedTime => exact execFeedTime_mems h
  | usageRecordClose => exact execUsageRecordClose_canonical h
  | loudnessRecordClose => exact execLoudnessRecordClose_canonical h
  | programmeEnable => exact execProgrammeEnable_mems h
  | programmeEnd => exact execProgrammeEnd_canonical h
  | readRecord => exact execReadRecord_canonical h
  | readCert => exact execReadCert_canonical h
  | readStatus => exact execReadStatus_canonical h
  | exported => exact execExported_canonical h
  | installAuthority => exact execInstallAuthority_canonical h
  | setClassLimits => exact execSetClassLimits_canonical h
  | clearTamper => exact execClearTamper_canonical h
  | lidOpen => exact execLidOpen_canonical h
  | paddockPowerUp => exact execPaddockPowerUp_canonical h
  | pdkSilent => exact execPdkSilent_canonical h
  | consSnapGo => exact execConsSnapGo_mems h
  | snapshotComplete => exact execSnapshotComplete_canonical h
  | autoSnapshot => exact execAutoSnapshot_mems h
  | pwrGoodRise => exact execPwrGoodRise_canonical h
  | pwrGoodFall => exact execPwrGoodFall_canonical h
  | sysRst => exact execSysRst_canonical h
  | gctlResetCore => exact execGctlResetCore_canonical h
  | perst => exact execPerst_mems h
  | aonPowerUp => exact execAonPowerUp_mems h
  | recoveryGo => exact execRecoveryGo_canonical h
  | svnBurn => exact execSvnBurn_mems h
  | svnBurnDone => exact execSvnBurnDone_mems h
  | debugResponse => exact execDebugResponse_canonical h
  | recipeKeyLoad => exact execRecipeKeyLoad_mems h
  | policyLock => exact execPolicyLock_mems h
  | perstRelease => exact execPerstRelease_canonical h
  | wlLaneRegainsLock => exact execWlLaneRegainsLock_mems h
  | flitCrcFail => exact execFlitCrcFail_mems h

/-- A step keeps both memories in canonical form. -/
theorem step_canonical {s : State} (h : s.Mems Canonical) : Out.Mems Canonical (step s) := by
  unfold step
  split
  · exact next_mems.2 h
  · exact exec_canonical _ ((update_mems s).2 h)

/-- The obligation's own form of the property. -/
theorem memoriesWf_iff {s : State} : s.memoriesWf ↔ s.Mems Canonical := Iff.rfl

/-- Settles O60: a command keeps the form because each function that it runs does; bytes are written by `setByte` and `setSeqByte` alone. -/
theorem memoriesStayCanonical : Obligations.MemoriesStayCanonical := by
  unfold Obligations.MemoriesStayCanonical
  exact fun s t h e => step_canonical (memoriesWf_iff.1 h) t e

end Sys2Proof.Machine
end

section
/-! The reset state: its registers hold the map's reset values, and every table is empty. -/

namespace Sys2Proof.Machine

/-- A context of the reset state is a fresh one. -/
theorem reset_thr (n : Nat) : State.reset.thr n = {} := rfl

theorem reset_running (c : Nat) : State.reset.running c = false := rfl

theorem reset_byte (a : Nat) : State.reset.byte a = 0 := rfl

theorem reset_up : State.reset.up = true := by decide +kernel

theorem reset_halted : State.reset.halted = false := by decide +kernel

theorem reset_live : State.reset.live = true := by decide +kernel

theorem reset_powerState : State.reset.ps = 0 := by decide +kernel

theorem reset_now : State.reset.now = 0 := by decide +kernel

theorem reset_burst : ∀ c < 64, State.reset.get (R.DMA_CH_CFG_BURST c) = 3 := by decide +kernel

theorem reset_timebase : State.reset.get R.TB_STATUS_STATE = tbFree ∧ State.reset.getSigned R.TB_RATE_NOW = 0 := by decide +kernel

theorem reset_bootStage : State.reset.get R.GCTL_BOOT_STATUS_STAGE = 0 := by decide +kernel

/-- Settles O58, field by field and register by register. -/
theorem resetState : Obligations.ResetState :=
  ⟨rfl, reset_up, reset_halted, reset_live, reset_powerState, rfl, reset_now, rfl, rfl, rfl, rfl, reset_mem_wf, fun n _ => by rw [reset_thr],
    reset_running, reset_byte, reset_burst, reset_timebase.1, reset_timebase.2, reset_bootStage, rfl⟩

end Sys2Proof.Machine
end

section
/-! The register bus: a 32-bit access is an access of a word, and what a word does at each half of a 64-bit register (00_scope.md R12 to R14, R749). -/

namespace Sys2Proof.Machine

variable {s : State} {q : Requester} {x : AccessIn} {r : RegRow} {off k v : Nat}

theorem advance_target (now : Nat) : (s.advance now).target off = s.target off := rfl

theorem busOk_word (h : off % 4 = 0) : busOk off 4 = true := by simp [busOk, h]

theorem busWrite_word (h : off % 4 = 0) (hp : plainAt off = false) : s.busWrite q x off 4 v = s.writeWord q x off (v % 2 ^ 32) := by
  simp [State.busWrite, busOk_word h, hp]

theorem busAnswer_word (h : off % 4 = 0) (hp : plainAt off = false) :
    s.busAnswer q off 4 = (s.readWord off).1.emit (.regRead (s.target off) (some (BitVec.ofNat 64 (s.readWord off).2))) := by
  simp [State.busAnswer, State.busRead, busOk_word h, hp]

/-! ### Commands while the main die is powered -/

theorem whenUp_of_up {f : State → State} (h : s.up = true) : whenUp s f = .next (f s) := by simp [whenUp, h]

theorem exec_lowWordWrite {o : BitVec 26} {w : BitVec 32} (hu : s.up = true) (h : o.toNat % 4 = 0) (hp : plainAt o.toNat = false) :
    exec (.lowWordWrite q o w x) s = .next ((s.advance x.now).writeWord q x o.toNat w.toNat) := by
  have hw : w.toNat % 2 ^ 32 = w.toNat := Nat.mod_eq_of_lt w.isLt
  rw [exec, execLowWordWrite, whenUp_of_up hu, busWrite_word h hp, hw]

theorem exec_lowWordRead {o : BitVec 26} {now : Nat} (hu : s.up = true) (h : o.toNat % 4 = 0) (hp : plainAt o.toNat = false) :
    exec (.lowWordRead q o now) s = .next (((s.advance now).readWord o.toNat).1.emit
      (.regRead (s.target o.toNat) (some (BitVec.ofNat 64 ((s.advance now).readWord o.toNat).2)))) := by
  rw [exec, execLowWordRead, whenUp_of_up hu, busAnswer_word h hp, advance_target]

/-! ### What a read of a register clears -/

/-- Bits cleared leave a number that a register holds. -/
theorem ofNat_and_toNat (w : Word) (m : Nat) : (BitVec.ofNat 64 (w.toNat &&& m)).toNat = w.toNat &&& m := by
  rw [BitVec.toNat_ofNat, Nat.mod_eq_of_lt (Nat.lt_of_le_of_lt Nat.and_le_left w.isLt)]

theorem reg_of_regs {t : State} (h : t.regs = s.regs) (j : Nat) : t.reg j = s.reg j := by simp [State.reg, h]

theorem emit_reg {o : Output} {j : Nat} : (s.emit o).reg j = s.reg j := rfl

theorem readReg_value : (s.readReg r k).2 = s.shows r k := rfl

theorem readReg_out : (s.readReg r k).1.out = s.out := by
  unfold State.readReg
  extract_lets v rc s1
  have h1 : s1.out = s.out := by simp only [s1]; split <;> simp
  split <;> simp [h1]

theorem readReg_rdLatch : (s.readReg r k).1.rdLatch = s.rdLatch := by
  unfold State.readReg
  extract_lets v rc s1
  have h1 : s1.rdLatch = s.rdLatch := by simp only [s1]; split <;> rfl
  split
  · exact h1
  · exact h1

theorem readReg_reg_same : ((s.readReg r k).1.reg k).toNat = (s.reg k).toNat &&& (2 ^ 64 - 1 - r.mask (fun a => a = .rc)) := by
  unfold State.readReg
  extract_lets v rc s1
  have h1 : (s1.reg k).toNat = (s.reg k).toNat &&& (2 ^ 64 - 1 - rc) := by
    simp only [s1]
    split
    · next h => rw [h, Nat.sub_zero, Nat.and_two_pow_sub_one_of_lt_two_pow (s.reg k).isLt]
    · rw [reg_setReg_same, ofNat_and_toNat]
  split
  · exact h1
  · exact h1

theorem readReg_reg_other {j : Nat} (h : j ≠ k) : (s.readReg r k).1.reg j = s.reg j := by
  unfold State.readReg
  extract_lets v rc s1
  have h1 : s1.reg j = s.reg j := by
    simp only [s1]
    split
    · rfl
    · exact reg_setReg_other _ _ _ _ h
  split
  · exact h1
  · exact h1

/-! ### The two halves of a 64-bit register -/

theorem writeWord_low (hr : regAt (s.target off) = some (r, k)) (h8 : r.bytes = 8) (hk : s.target off = k) :
    s.writeWord q x off v = { s with wrHold := tput s.wrHold k v } := by
  subst hk
  simp [State.writeWord, hr, h8]

theorem writeWord_high (hr : regAt (s.target off) = some (r, k)) (h8 : r.bytes = 8) (hk : s.target off = k + 4) :
    s.writeWord q x off v =
      { s with wrHold := tdel s.wrHold k }.writeReg q x r k ((tfind s.wrHold k).getD (s.view k % 2 ^ 32) + v * 2 ^ 32) := by
  have hne : s.target off ≠ k := by omega
  simp [State.writeWord, hr, h8, hne]

/-- The low word's read is the register's own, which latches the high word besides. -/
theorem readWord_low (ho : 0x10000 ≤ off) (hr : regAt (s.target off) = some (r, k)) (h8 : r.bytes = 8) (hk : s.target off = k) :
    (s.readWord off).1.regs = (s.readReg r k).1.regs ∧ (s.readWord off).1.out = s.out ∧
      (s.readWord off).1.rdLatch = tput s.rdLatch k (s.shows r k / 2 ^ 32) ∧ (s.readWord off).2 = s.shows r k % 2 ^ 32 := by
  subst hk
  simp [State.readWord, Nat.not_lt.2 ho, hr, h8, readReg_out, readReg_rdLatch, readReg_value]

theorem dataDone_of_other (h : idx1 K.SEQ_MEM_DATA 64 k = none) : s.dataDone k = s := by simp [State.dataDone, h]

theorem readWord_high (ho : 0x10000 ≤ off) (hr : regAt (s.target off) = some (r, k)) (h8 : r.bytes = 8) (hk : s.target off = k + 4)
    (hd : idx1 K.SEQ_MEM_DATA 64 k = none) :
    (s.readWord off).1.regs = s.regs ∧ (s.readWord off).1.out = s.out ∧
      (s.readWord off).2 = (tfind s.rdLatch k).getD (s.shows r k / 2 ^ 32) := by
  have hne : s.target off ≠ k := by omega
  cases hl : tfind s.rdLatch k <;> simp [State.readWord, Nat.not_lt.2 ho, hr, h8, hne, hl, dataDone_of_other hd]

/-- Settles O28: an aligned 32-bit access off the plain-memory areas is an access of a word, and a word of a 64-bit register is one of its halves. -/
theorem splitAccessesOfWideRegisters : Obligations.SplitAccessesOfWideRegisters := by
  intro q off k r s hu h4 hp ho hr h8
  have ha : ∀ now, regAt ((s.advance now).target off.toNat) = some (r, k) := fun _ => hr
  refine ⟨fun v x => ⟨fun hk => ?_, fun hk low hl => ?_, fun hk hl => ?_⟩, fun now => ⟨fun hk => ?_, fun hk hd => ?_⟩⟩
  · rw [exec_lowWordWrite hu h4 hp, writeWord_low (ha _) h8 hk]; rfl
  · rw [exec_lowWordWrite hu h4 hp, writeWord_high (ha _) h8 hk, show tfind (s.advance x.now).wrHold k = some low from hl]; rfl
  · rw [exec_lowWordWrite hu h4 hp, writeWord_high (ha _) h8 hk, show tfind (s.advance x.now).wrHold k = none from hl]; rfl
  · obtain ⟨hregs, hout, hlatch, hval⟩ := readWord_low (s := s.advance now) ho (ha _) h8 hk
    refine ⟨_, exec_lowWordRead hu h4 hp, ?_, hlatch, ?_, fun j hj => ?_⟩
    · rw [hval, hk, ← advance_out s now, ← hout]; rfl
    · rw [emit_reg, reg_of_regs hregs, readReg_reg_same]; rfl
    · rw [emit_reg, reg_of_regs hregs, readReg_reg_other hj]; rfl
  · obtain ⟨hregs, hout, hval⟩ := readWord_high (s := s.advance now) ho (ha _) h8 hk hd
    refine ⟨_, exec_lowWordRead hu h4 hp, hregs, ?_⟩
    rw [hval, hk, ← advance_out s now, ← hout]; rfl

end Sys2Proof.Machine
end

section
/-! A hand-over in power state PS2: the main die is up, and the units that would hand over do not work (R645, R651). -/

namespace Sys2Proof.Machine

/-- While the units do not work, a hand-over changes nothing. -/
theorem exec_handover_of_not_live {s : State} {ch : Chan} {now : Nat} (h : s.live = false) : exec (.handover ch now) s = .next s := by
  simp [exec, execHandover, whenLive, h]

/-- The reset device in PS2, with channel 0 running on a frame grid whose first frame has come. -/
def channelInPs2 : State := (State.reset.setChan 0 { running := true, anchor := some 0 }).set R.HTH_PS_STATUS_STATE 2

theorem channelInPs2_up : channelInPs2.up = true ∧ channelInPs2.halted = false ∧ channelInPs2.live = false := by decide +kernel

theorem channelInPs2_due : channelInPs2.running 0 = true ∧ channelInPs2.gridOn 0 = true ∧
    (channelInPs2.advance 0).reached ((channelInPs2.advance 0).tFrame 0 ((channelInPs2.chan 0).first + (channelInPs2.chan 0).handed)) = true := by
  decide +kernel

theorem channelInPs2_seq : channelInPs2.get (R.CTX_COMMIT_SEQ_SEQ 0) = 0 := by decide +kernel

/-- Refutes O29: its last clause asks for a device that is up and not halted, and a device in PS2 is both, yet its hand-over that is due changes
nothing, so that COMMIT_SEQ does not count it. -/
theorem not_registerAccessCodes : ¬ Obligations.RegisterAccessCodes := by
  rintro ⟨-, -, -, -, -, -, hold⟩
  obtain ⟨hup, hhalt, hlive⟩ := channelInPs2_up
  obtain ⟨hrun, hgrid, hdue⟩ := channelInPs2_due
  obtain ⟨t, ht, hseq⟩ := (hold .host 0 false 0 channelInPs2 hup hhalt).2 hrun hgrid hdue
  rw [exec_handover_of_not_live hlive] at ht
  rw [← Host.Outcome.next.inj ht] at hseq
  simp [channelInPs2_seq] at hseq

end Sys2Proof.Machine
end

section
/-! What a report that isolates nothing, and a store, leave of the state: the registers from 0x1000000 on, the flows of ingest, what has landed, the decode
channels, the channels but for their frames, the budget units, and the events that wait. -/

namespace Sys2Proof.Machine

/-! ### Enabled ingest flows -/

theorem filter_tput {V : Type} {p : Nat × V → Bool} {k : Nat} (h : ∀ v, p (k, v) = false) (t : Table V) (v : V) :
    (tput t k v).filter p = t.filter p := by
  induction t with
  | nil => simp [tput, h]
  | cons a t ih =>
    obtain ⟨j, w⟩ := a
    unfold tput
    split
    · next e => subst e; simp [h]
    · split
      · simp [List.filter_cons, h]
      · simp [List.filter_cons, ih]

theorem filter_tdel {V : Type} {p : Nat × V → Bool} {k : Nat} (h : ∀ v, p (k, v) = false) (t : Table V) : (tdel t k).filter p = t.filter p := by
  induction t with
  | nil => rfl
  | cons a t ih =>
    obtain ⟨j, w⟩ := a
    unfold tdel
    split
    · next e => subst e; simp [h, ih]
    · simp [List.filter_cons, ih]

/-- A write at a key that a filter leaves out does not show in the filtered table. -/
theorem filter_tset {V : Type} [DecidableEq V] {d : Nat → V} {p : Nat × V → Bool} {k : Nat} (h : ∀ v, p (k, v) = false) (t : Table V) (v : V) :
    (tset d t k v).filter p = t.filter p := by
  unfold tset
  split
  · exact filter_tdel h t
  · exact filter_tput h t v

/-- The registers of the ingest flows begin at 0x100000000. -/
theorem ingOn_setReg {s : State} {k : Nat} {v : Word} (h : k < 0x100000000) : (s.setReg k v).ingOn = s.ingOn := by
  unfold State.ingOn State.setReg
  rw [filter_tset (fun w => by simp [Nat.not_le.2 h])]

/-! ### States that agree on what the bands of a channel hang on -/

/-- `t` agrees with `s` on the registers of the keys `P`, on what gives a channel's bands and snapshots, and on the budget units; no event is lost. -/
structure State.Steady (P : Nat → Prop) (s t : State) : Prop where
  reg : ∀ k, P k → t.reg k = s.reg k
  ingOn : t.ingOn = s.ingOn
  landed : t.landed = s.landed
  decs : t.decs = s.decs
  chan : ∀ c, ∃ l, t.chan c = { s.chan c with frames := l }
  units : t.units = s.units
  posts : s.hwSeq ⊆ t.hwSeq

/-- `t` is steady but for the registers below 0x1000000, where those of the Sieve and the Heath island lie. -/
abbrev State.Quiet (s t : State) : Prop := s.Steady (0x1000000 ≤ ·) t

variable {P : Nat → Prop} {s t u : State}

theorem State.Steady.of_eq (regs : t.regs = s.regs) (landed : t.landed = s.landed) (decs : t.decs = s.decs) (chans : t.chans = s.chans)
    (units : t.units = s.units) (posts : s.hwSeq ⊆ t.hwSeq) : s.Steady P t where
  reg k _ := reg_of_regs regs k
  ingOn := by unfold State.ingOn; rw [regs]
  landed := landed
  decs := decs
  chan c := ⟨(s.chan c).frames, by unfold State.chan; rw [chans]⟩
  units := units
  posts := posts

theorem State.Steady.refl : s.Steady P s := .of_eq rfl rfl rfl rfl rfl (List.Subset.refl _)

theorem State.Steady.trans (h : s.Steady P t) (g : t.Steady P u) : s.Steady P u where
  reg k hk := (g.reg k hk).trans (h.reg k hk)
  ingOn := g.ingOn.trans h.ingOn
  landed := g.landed.trans h.landed
  decs := g.decs.trans h.decs
  chan c := by
    obtain ⟨l, hl⟩ := h.chan c
    obtain ⟨m, hm⟩ := g.chan c
    exact ⟨m, by rw [hm, hl]⟩
  units := g.units.trans h.units
  posts := List.Subset.trans h.posts g.posts

theorem State.Steady.mono {Q : Nat → Prop} (h : s.Steady P t) (hQ : ∀ k, Q k → P k) : s.Steady Q t :=
  { h with reg := fun k hk => h.reg k (hQ k hk) }

theorem State.Steady.foldl {α : Type} {f : State → α → State} {l : List α} (h : ∀ a ∈ l, ∀ s : State, s.Steady P (f s a)) (s : State) :
    s.Steady P (l.foldl f s) := by
  induction l generalizing s with
  | nil => exact .refl
  | cons a l ih => exact (h a List.mem_cons_self s).trans (ih (fun b hb => h b (List.mem_cons_of_mem a hb)) _)

theorem State.Steady.ite {c : Prop} [Decidable c] (ht : s.Steady P t) (hu : s.Steady P u) : s.Steady P (if c then t else u) := by
  split <;> assumption

theorem State.Steady.get (h : s.Steady P t) {f : Field} (hf : P f.key) : t.get f = s.get f := by
  unfold State.get; rw [h.reg _ hf]

theorem State.Steady.flag (h : s.Steady P t) {f : Field} (hf : P f.key) : t.flag f = s.flag f := by
  unfold State.flag; rw [h.get hf]

theorem State.Steady.setReg {k : Nat} {v : Word} (hP : ¬P k) (hk : k < 0x100000000) : s.Steady P (s.setReg k v) :=
  { (State.Steady.refl : s.Steady P s) with
    reg := fun j hj => reg_setReg_other s k j v (fun e => hP (e ▸ hj))
    ingOn := ingOn_setReg hk }

theorem State.Steady.set {f : Field} {x : Nat} (hP : ¬P f.key) (hk : f.key < 0x100000000) : s.Steady P (s.set f x) := .setReg hP hk

/-! ### Reports that isolate nothing -/

theorem set_quiet {f : Field} {x : Nat} (h : f.key < 0x1000000) : s.Quiet (s.set f x) := .set (Nat.not_le.2 h) (by omega)

theorem incSat_quiet {f : Field} (h : f.key < 0x1000000) : s.Quiet (s.incSat f) := .ite (set_quiet h) .refl

theorem emit_quiet {o : Output} : s.Quiet (s.emit o) := .of_eq rfl rfl rfl rfl rfl (List.Subset.refl _)

theorem setCore_quiet {k : Nat} {c : CoreX} : s.Quiet (s.setCore k c) := .of_eq rfl rfl rfl rfl rfl (List.Subset.refl _)

theorem msix_quiet {v : Nat} : s.Quiet (s.msix v) := by
  unfold State.msix
  exact .ite (.ite (.of_eq rfl rfl rfl rfl rfl (List.Subset.refl _)) emit_quiet) .refl

theorem raiseLine_quiet {k l : Nat} : s.Quiet (s.raiseLine k l) := .ite .refl setCore_quiet

theorem raiseLines_quiet {l : Nat} : s.Quiet (s.raiseLines l) :=
  ((raiseLine_quiet.trans raiseLine_quiet).trans raiseLine_quiet).trans raiseLine_quiet

theorem signal_quiet {was : Bool} {v : Nat} : s.Quiet (s.signal was v) := by
  unfold State.signal
  extract_lets s1
  have h1 : s.Quiet s1 := .ite raiseLines_quiet .refl
  exact h1.trans (.ite msix_quiet .refl)

theorem countReport_quiet {n : Nat} (hn : n < 768) : s.Quiet (s.countReport n) :=
  (set_quiet (by decide)).trans (incSat_quiet (show 0x22000 + n * 4 < _ by omega))

theorem refreshClass_quiet {c : Nat} (hc : c < 64) : s.Quiet (s.refreshClass c) := by
  have hk : 0x20200 + c * 4 < 0x1000000 := by omega
  exact (((set_quiet hk).trans (set_quiet hk)).trans (set_quiet (by decide))).trans (set_quiet (by decide))

theorem haltDevice_quiet {r : SieveRec} : s.Quiet (s.haltDevice r) := by
  unfold State.haltDevice
  extract_lets s1 s2 s3
  have h2 : s.Quiet s2 := (set_quiet (by decide)).trans (incSat_quiet (by decide))
  have h3 : s2.Quiet s3 := by
    refine .ite .refl (.trans ?_ (set_quiet (by decide)))
    simp only [List.range_succ, List.range_zero, List.nil_append, List.cons_append, List.foldl_cons, List.foldl_nil]
    exact (((set_quiet (by decide)).trans (set_quiet (by decide))).trans (set_quiet (by decide))).trans (set_quiet (by decide))
  exact (h2.trans h3).trans emit_quiet

theorem act_quiet {r : SieveRec} (hr : isolable r.suspect = false) : s.Quiet (s.act r) := by
  unfold State.act
  split
  · exact .refl
  · split
    · simpa [hr] using State.Steady.refl
    · exact haltDevice_quiet
    · exact .refl

theorem foldIn_quiet {sev cls i : Nat} {r : SieveRec} (hc : cls < 64) (hr : isolable r.suspect = false) : s.Quiet (s.foldIn sev cls i r) := by
  unfold State.foldIn
  extract_lets d up r' s1 s2
  have h1 : s.Quiet s1 := .of_eq rfl rfl rfl rfl rfl (List.Subset.refl _)
  have h2 : s1.Quiet s2 := (set_quiet (by decide)).trans (refreshClass_quiet hc)
  exact (h1.trans h2).trans (.ite ((act_quiet (r := r') hr).trans signal_quiet) .refl)

theorem pushRec_quiet {r : SieveRec} (hc : r.cls < 64) : s.Quiet (s.pushRec r) := by
  unfold State.pushRec
  extract_lets tail s1 s2
  have h1 : s.Quiet s1 := .of_eq rfl rfl rfl rfl rfl (List.Subset.refl _)
  have h2 : s1.Quiet s2 := (set_quiet (by decide)).trans (set_quiet (by decide))
  exact ((h1.trans h2).trans (.ite (set_quiet (by decide)) .refl)).trans (refreshClass_quiet hc)

theorem newRec_quiet {r : SieveRec} (hc : r.cls < 64) (hr : isolable r.suspect = false) : s.Quiet (s.newRec r) := by
  unfold State.newRec
  extract_lets s1
  have h1 : s.Quiet s1 := .ite (set_quiet (by decide)) (pushRec_quiet hc)
  exact (h1.trans (act_quiet hr)).trans signal_quiet

theorem getBefore_lt {cyc : Nat → Nat} {f : Field} : s.getBefore cyc f < 2 ^ f.w := Nat.mod_lt _ (Nat.two_pow_pos _)

theorem makeRec_quiet {source sev cls sus : Nat} {d : Word} {inj : Bool} (hc : cls < 64) (hs : isolable sus = false) :
    s.Quiet (s.makeRec source sev cls sus d inj) := by
  unfold State.makeRec
  cases e : s.foldTarget cls sus inj with
  | none => exact newRec_quiet hc hs
  | some p => exact foldIn_quiet hc (foldTarget_sus _ _ _ _ _ e ▸ hs)

theorem reportOne_quiet {source sus : Nat} {d : Word} {inj : Bool} (hn : source < 768) (hs : isolable sus = false) :
    s.Quiet (s.reportOne source sus d inj) :=
  (countReport_quiet hn).trans (makeRec_quiet getBefore_lt hs)

/-- A report whose suspect cannot be isolated. -/
theorem report_quiet {source sus : Nat} {d : Word} {inj : Bool} (hn : source < 768) (hs : isolable sus = false) :
    s.Quiet (s.report source sus d inj) := by
  unfold State.report
  extract_lets lost s1
  have h1 : s.Quiet s1 := reportOne_quiet hn hs
  exact h1.trans (.ite ((set_quiet (by decide)).trans (reportOne_quiet (by decide) (by decide))) .refl)

/-- An address error names a block, which cannot be isolated. -/
theorem addrError_quiet {ty : Nat} (h : ty < 4096) : s.Quiet (s.addrError (.unit ty)) := by
  refine report_quiet (by decide) ?_
  have e : suspect kBlock (requesterBlock (.unit ty)) / 4096 = 1 := by simp only [suspect, kBlock, requesterBlock]; omega
  simp [isolable, e]

/-! ### Stores -/

theorem setByte_quiet {a : Nat} {v : BitVec 8} : s.Quiet (s.setByte a v) := .of_eq rfl rfl rfl rfl rfl (List.Subset.refl _)

theorem setBytes_quiet {a : Nat} {l : List (BitVec 8)} : s.Quiet (s.setBytes a l) := by
  induction l generalizing s a with
  | nil => exact .refl
  | cons b l ih => exact setByte_quiet.trans ih

theorem encTags_quiet {e : Table Nat} : s.Quiet { s with encTags := e } := .of_eq rfl rfl rfl rfl rfl (List.Subset.refl _)

theorem rekey_quiet {b : Nat} : s.Quiet (s.rekey b) := .ite (setBytes_quiet.trans encTags_quiet) .refl

theorem dStore_go_quiet {a : Nat} {l : List (BitVec 8)} : s.Quiet (State.dStore.go s a l) := by
  induction l generalizing s a with
  | nil => exact .refl
  | cons b l ih => exact (rekey_quiet.trans setByte_quiet).trans ih

theorem dStore_quiet {a : Nat} {l : List (BitVec 8)} : s.Quiet (s.dStore a l) :=
  dStore_go_quiet.trans (.of_eq rfl rfl rfl rfl rfl (List.Subset.refl _))

theorem unitStore_quiet {ty a : Nat} {l : List (BitVec 8)} (h : ty < 4096) : s.Quiet (s.unitStore ty a l) :=
  .ite (addrError_quiet h) (.ite dStore_quiet .refl)

end Sys2Proof.Machine
end

section
/-! The end of a proofing slot: what it shows, what it posts, and the budget units it opens (06_proofing.md R258, R260). -/

namespace Sys2Proof.Machine

variable {P : Nat → Prop} {s t : State}

/-! ### What the bands of a channel hang on -/

/-- The registers from 0x1000000 on but for the slice results of a channel (R258). -/
def bandKey (ch : Nat) (k : Nat) : Prop := 0x1000000 ≤ k ∧ (k < 0x1004000 + ch * 0x30000 ∨ 0x10040C0 + ch * 0x30000 ≤ k)

theorem State.Quiet.onBands (h : s.Quiet t) (ch : Nat) : s.Steady (bandKey ch) t := h.mono fun _ hk => hk.1

section
variable {ch : Nat} (h : s.Steady (bandKey ch) t)
include h

theorem State.Steady.snapOf (n : Nat) : t.snapOf ch n = s.snapOf ch n := by
  obtain ⟨l, hl⟩ := h.chan ch
  unfold State.snapOf
  rw [hl]

theorem State.Steady.boundThread : t.boundThread ch = s.boundThread ch := by
  have hk : bandKey ch (0x1000100 + ch * 0x30000) := ⟨by omega, by omega⟩
  unfold State.boundThread
  rw [h.flag (f := R.CTX_BIND_VALID ch) hk, h.get (f := R.CTX_BIND_THREAD ch) hk]

/-- An event that waits for the thread of a channel still waits. -/
theorem State.Steady.posted {e : Nat} (hp : Sys2Proof.Spec.posted s ch e) : Sys2Proof.Spec.posted t ch e := by
  intro n hn
  obtain ⟨q, hq, hthread, hevent⟩ := hp n (h.boundThread ▸ hn)
  exact ⟨q, h.posts hq, hthread, hevent⟩

theorem State.Steady.rendsOn : t.rendsOn ch = s.rendsOn ch := by
  unfold State.rendsOn
  refine List.filter_congr fun r hr => ?_
  have hr : r < 8 := List.mem_range.1 hr
  exact h.flag (f := R.CTX_REND_CODEC_ENABLE ch r) ⟨show 0x1000000 ≤ 0x1001100 + ch * 0x30000 + r * 0x40 by omega,
    .inl (show 0x1001100 + ch * 0x30000 + r * 0x40 < _ by omega)⟩

theorem State.Steady.getIn (f : Field) (n : Nat) : t.getIn f n = s.getIn f n := by
  unfold State.getIn State.regIn; rw [h.landed]

variable (hch : ch < 256)
include hch

/-- The fields of the ingest flows lie above those of every channel. -/
theorem State.Steady.ingGet {f : Field} (hf : 0x100000000 ≤ f.key) : t.get f = s.get f :=
  h.get ⟨by omega, .inr (by omega)⟩

theorem State.Steady.videoFlow : t.videoFlow ch = s.videoFlow ch := by
  have hkind (f : Nat) : t.get (R.ING_FLOW_KIND_KIND f) = s.get (R.ING_FLOW_KIND_KIND f) := h.ingGet hch (show _ ≤ 0x100000030 + f * 0x100 by omega)
  have hchan (f : Nat) : t.get (R.ING_FLOW_KIND_CHANNEL f) = s.get (R.ING_FLOW_KIND_CHANNEL f) := h.ingGet hch (show _ ≤ 0x100000030 + f * 0x100 by omega)
  unfold State.videoFlow
  simp only [h.ingOn, hkind, hchan]

theorem State.Steady.flowSize : t.flowSize ch = s.flowSize ch := by
  have hwidth (f : Nat) : t.get (R.ING_FLOW_VIDEO_WIDTH f) = s.get (R.ING_FLOW_VIDEO_WIDTH f) := h.ingGet hch (show _ ≤ 0x100000038 + f * 0x100 by omega)
  have hheight (f : Nat) : t.get (R.ING_FLOW_VIDEO_HEIGHT f) = s.get (R.ING_FLOW_VIDEO_HEIGHT f) :=
    h.ingGet hch (show _ ≤ 0x100000038 + f * 0x100 by omega)
  unfold State.flowSize
  simp only [h.videoFlow hch, hwidth, hheight]

theorem State.Steady.srcSize : t.srcSize ch = s.srcSize ch := by
  have hk : bandKey ch (0x1001440 + ch * 0x30000) := ⟨by omega, by omega⟩
  obtain ⟨l, hl⟩ := h.chan ch
  unfold State.srcSize State.running
  rw [h.flag (f := R.CTX_DEC_SRC_ENABLE ch) hk, h.get (f := R.CTX_DEC_SRC_SOURCE ch) hk, h.decs, hl, h.videoFlow hch, h.flowSize hch]

theorem State.Steady.srcBand : t.srcBand ch = s.srcBand ch := by
  have hk : bandKey ch (0x1001100 + ch * 0x30000 + 0 * 0x40) := ⟨by omega, by omega⟩
  have hlines : t.bandLines ch 0 = s.bandLines ch 0 := by
    unfold State.bandLines State.ctuSize
    rw [h.get (f := R.CTX_REND_CODEC_BAND_ROWS ch 0) hk, h.get (f := R.CTX_REND_CODEC_CTU ch 0) hk]
  have hsnap : t.snapNow ch = s.snapNow ch := h.get (f := R.CTX_COMMIT_SEQ_SEQ ch) ⟨show 0x1000000 ≤ 0x1000000 + ch * 0x30000 by omega,
    .inl (show 0x1000000 + ch * 0x30000 < _ by omega)⟩
  unfold State.srcBand State.srcHeight
  rw [h.flag (f := R.CTX_REND_CODEC_FROM_SCALER ch 0) hk, hlines, hsnap, h.srcSize hch, h.getIn]

theorem State.Steady.bandCount : t.bandCount ch = s.bandCount ch := by
  unfold State.bandCount State.srcHeight
  rw [h.srcSize hch, h.srcBand hch]

end

/-! ### Events and frames -/

theorem setChan_steady {ch : Nat} {c : ChanSt} (h : ∃ l, c = { s.chan ch with frames := l }) : s.Steady P (s.setChan ch c) :=
  { (State.Steady.refl : s.Steady P s) with
    chan := fun j => by
      unfold State.chan State.setChan
      rw [tget_tset]
      split
      · next e => subst e; exact h
      · exact ⟨_, rfl⟩ }

theorem keepCplx_steady {ch n first : Nat} {l : List SeedBlock} {cut : Option Nat} : s.Steady P (s.keepCplx ch n first l cut) := by
  unfold State.keepCplx
  split
  · exact .refl
  · exact setChan_steady ⟨_, rfl⟩

theorem postCh_steady {ch e : Nat} : s.Steady P (s.postCh ch e) := by
  unfold State.postCh
  split
  · exact .of_eq rfl rfl rfl rfl rfl (List.subset_append_left _ _)
  · exact .refl

theorem posted_postCh (ch e : Nat) : Sys2Proof.Spec.posted (s.postCh ch e) ch e := by
  intro n hn
  have hb : s.boundThread ch = some n := by
    unfold State.postCh at hn
    split at hn <;> exact hn
  exact ⟨⟨n, e, s.readyCtr⟩, by simp [State.postCh, hb, State.postThread], rfl, rfl⟩

/-! ### Stores of a slot -/

theorem writeSeeds_quiet {ch snap first : Nat} {l : List SeedBlock} : s.Quiet (s.writeSeeds ch snap first l) :=
  .ite (unitStore_quiet (by decide)) .refl

theorem writeQuarter_quiet {ch snap : Nat} {q : Quarter} : s.Quiet (s.writeQuarter ch snap q) := .ite (unitStore_quiet (by decide)) .refl

theorem sclBand_quiet {ch k snap tok r : Nat} : s.Quiet (s.sclBand ch k snap tok r) :=
  (unitStore_quiet (by decide)).trans (unitStore_quiet (by decide))

theorem sclBands_quiet {ch tok : Nat} {sl : SlotRec} {late : List Nat} : s.Quiet (s.sclBands ch sl tok late) :=
  .foldl (fun _ _ _ => sclBand_quiet) _

/-! ### The slice results (R258) -/

/-- The word of PRF_SLICE: the band, the repeat flag and the cut flag. -/
def sliceWord (k : Nat) (rep cut : Bool) : Nat := k % 65536 + (if rep then 65536 else 0) + (if cut then 131072 else 0)

theorem sliceWord_eq (k : Nat) (rep cut : Bool) : sliceWord k rep cut = k % 65536 + rep.toNat * 65536 + cut.toNat * 131072 := by
  cases rep <;> cases cut <;> rfl

theorem sliceWord_lt (k : Nat) (rep cut : Bool) : sliceWord k rep cut < 2 ^ 64 := by
  have hr := rep.toNat_le
  have hc := cut.toNat_le
  rw [sliceWord_eq]
  omega

theorem sliceWord_band (k : Nat) (rep cut : Bool) : sliceWord k rep cut % 65536 = k % 65536 := by
  rw [sliceWord_eq]
  omega

theorem sliceWord_repeat (k : Nat) (rep cut : Bool) : bitAt (sliceWord k rep cut) 16 = rep := by
  have hr := rep.toNat_le
  have hbit : sliceWord k rep cut / 2 ^ 16 % 2 = rep.toNat := by rw [sliceWord_eq]; omega
  rw [bitAt, hbit]
  cases rep <;> rfl

theorem sliceWord_cut (k : Nat) (rep cut : Bool) : bitAt (sliceWord k rep cut) 17 = cut := by
  have hr := rep.toNat_le
  have hc := cut.toNat_le
  have hbit : sliceWord k rep cut / 2 ^ 17 % 2 = cut.toNat := by rw [sliceWord_eq]; omega
  rw [bitAt, hbit]
  cases cut <;> rfl

section
variable {ch k snap : Nat} {l : List SeedBlock} {rep cut : Bool}

theorem set_slice_steady (hch : ch < 256) {f : Field} {x : Nat} (hlo : 0x1004000 + ch * 0x30000 ≤ f.key) (hhi : f.key < 0x10040C0 + ch * 0x30000) :
    s.Steady (bandKey ch) (s.set f x) :=
  .set (fun h => by unfold bandKey at h; omega) (by omega)

theorem writeSlice_steady (hch : ch < 256) : s.Steady (bandKey ch) (s.writeSlice ch k snap l rep cut) := by
  unfold State.writeSlice
  extract_lets s1 s2 w
  have h1 : s.Steady (bandKey ch) s1 := set_slice_steady hch (Nat.le_refl _) (show 0x1004000 + ch * 0x30000 < _ by omega)
  have h2 : s1.Steady (bandKey ch) s2 :=
    (set_slice_steady hch (show _ ≤ 0x1004008 + ch * 0x30000 by omega) (show 0x1004008 + ch * 0x30000 < _ by omega)).trans
      (set_slice_steady hch (show _ ≤ 0x1004010 + ch * 0x30000 by omega) (show 0x1004010 + ch * 0x30000 < _ by omega))
  refine (h1.trans h2).trans (.foldl (fun c hc s => ?_) _)
  have hc : c < 16 := List.mem_range.1 hc
  exact set_slice_steady hch (show _ ≤ 0x1004040 + ch * 0x30000 + c * 8 by omega) (show 0x1004040 + ch * 0x30000 + c * 8 < _ by omega)

/-- A result below the sums of the columns. -/
theorem writeSlice_get {f : Field} (hf : f.key < 0x1004040 + ch * 0x30000) :
    (s.writeSlice ch k snap l rep cut).get f =
      (((s.set (R.PRF_SLICE ch) (sliceWord k rep cut)).set (R.PRF_SLICE_CPLX_CPLX ch) (sumCplx l)).set (R.PRF_SLICE_SNAP_SNAP ch) snap).get f :=
  foldl_keeps (State.get · f) _ (fun s c => get_set_other s _ f _ (show f.key ≠ 0x1004040 + ch * 0x30000 + c * 8 by omega)) _ _

theorem writeSlice_slice : (s.writeSlice ch k snap l rep cut).get (R.PRF_SLICE ch) = sliceWord k rep cut := by
  rw [writeSlice_get (show 0x1004000 + ch * 0x30000 < _ by omega),
    get_set_other _ _ _ _ (show 0x1004000 + ch * 0x30000 ≠ 0x1004010 + ch * 0x30000 by omega),
    get_set_other _ _ _ _ (show 0x1004000 + ch * 0x30000 ≠ 0x1004008 + ch * 0x30000 by omega), get_set_same _ _ _ (show 0 + 64 ≤ 64 by decide)]
  exact Nat.mod_eq_of_lt (sliceWord_lt k rep cut)

theorem writeSlice_cplx : (s.writeSlice ch k snap l rep cut).get (R.PRF_SLICE_CPLX_CPLX ch) = sumCplx l % 2 ^ 64 := by
  rw [writeSlice_get (show 0x1004008 + ch * 0x30000 < _ by omega),
    get_set_other _ _ _ _ (show 0x1004008 + ch * 0x30000 ≠ 0x1004010 + ch * 0x30000 by omega), get_set_same _ _ _ (show 0 + 64 ≤ 64 by decide)]
  rfl

theorem writeSlice_snap : (s.writeSlice ch k snap l rep cut).get (R.PRF_SLICE_SNAP_SNAP ch) = snap % 2 ^ 64 := by
  rw [writeSlice_get (show 0x1004010 + ch * 0x30000 < _ by omega), get_set_same _ _ _ (show 0 + 64 ≤ 64 by decide)]
  rfl

end

/-! ### Budget units of a band (R300, R360) -/

/-- `t` is `s` with one unit of the slot's band opened in each rendition of a list, and the renditions' own records changed. -/
def State.Opens (ch : Nat) (sl : SlotRec) (rs : List Nat) (s t : State) : Prop :=
  ∃ l rends n, t = { s with rends := rends, units := s.units ++ l, freeCtr := n } ∧ l.map (·.rend) = rs ∧
    ∀ u ∈ l, u.ch = ch ∧ u.idx = sl.n ∧ u.band = sl.k ∧ u.snap = s.snapOf ch sl.n ∧ (sl.rep = true → u.rep = true)

/-- A unit that opens keeps its place, its snapshot and whether it is a repeat; its CTUs, window and overhead are fixed. -/
theorem openUnit_eq (u : UnitSt) : ∃ v, s.openUnit u = { s with units := s.units ++ [v], freeCtr := s.freeCtr + 1 } ∧ v.ch = u.ch ∧ v.rend = u.rend ∧
    v.idx = u.idx ∧ v.band = u.band ∧ v.snap = u.snap ∧ v.rep = u.rep := ⟨_, rfl, rfl, rfl, rfl, rfl, rfl, rfl⟩

theorem planPic_eq (ch r n : Nat) (b : Bool) (refs : List Nat) (used : Bool) :
    s.planPic ch r n b refs used = { s with rends := (s.planPic ch r n b refs used).rends } := rfl

theorem foldl_opens {ch : Nat} {sl : SlotRec} {f : State → Nat → State} (hf : ∀ s r, State.Opens ch sl [r] s (f s r)) (rs : List Nat) (s : State) :
    State.Opens ch sl rs s (rs.foldl f s) := by
  induction rs generalizing s with
  | nil => exact ⟨[], s.rends, s.freeCtr, by simp, rfl, by simp⟩
  | cons r rs ih =>
    obtain ⟨l, a, n, hs, hl, hu⟩ := hf s r
    obtain ⟨l', a', n', hs', hl', hu'⟩ := ih (f s r)
    refine ⟨l ++ l', a', n', ?_, by simp [hl, hl'], fun u h => ?_⟩
    · rw [List.foldl_cons, hs', hs, List.append_assoc]
    · rcases List.mem_append.1 h with h | h
      · exact hu u h
      · have hsnap : (f s r).snapOf ch sl.n = s.snapOf ch sl.n := by rw [hs]; rfl
        exact hsnap ▸ hu' u h

/-- A repeat slice gives no rendition its input. -/
theorem inputMissing_of_rep {ch r : Nat} {sl : SlotRec} {late : List Nat} (h : sl.rep = true) : s.inputMissing ch r sl late = true := by
  simp [State.inputMissing, h]

theorem openBand_opens {ch : Nat} {sl : SlotRec} {late : List Nat} {cut : Bool} : State.Opens ch sl (s.rendsOn ch) s (s.openBand ch sl late cut) := by
  refine foldl_opens (fun s r => ?_) _ _
  extract_lets s1 p snap x cyc vui s2
  obtain ⟨a, h1⟩ : ∃ a, s1 = { s with rends := a } := by
    simp only [s1]
    split
    · exact ⟨_, planPic_eq ..⟩
    · exact ⟨s.rends, rfl⟩
  obtain ⟨b, h2⟩ : ∃ b, s2 = { s with rends := b } := ⟨s2.rends, by change { s1 with rends := s2.rends } = _; rw [h1]⟩
  have hsnap : snap = s.snapOf ch sl.n := by simp only [snap]; rw [h1]; rfl
  obtain ⟨v, hv, hch, hr, hidx, hband, hvsnap, hrep⟩ := openUnit_eq (s := s2)
    { ch := ch, rend := r, idx := sl.n, src := sl.n, band := sl.k, snap := snap, irap := p.elim false (·.irap), idr := p.elim false (·.idr), cut := cut,
      rep := s2.inputMissing ch r sl late, vui := vui, recovery := if cyc ∧ sl.k = 0 then some (s2.getIn (R.CTX_REFRESH_PERIOD ch) snap - 1) else none }
  refine ⟨[v], b, s.freeCtr + 1, ?_, by simp [hr], fun u hu => ?_⟩
  · rw [hv, h2]
  · rw [List.mem_singleton.1 hu]
    exact ⟨hch, hidx, hband, hvsnap.trans hsnap, fun h => hrep.trans (inputMissing_of_rep h)⟩

/-! ### The end of a slot -/

/-- The blocks of a slot's band. -/
def State.slotCount (s : State) (ch : Nat) : Nat :=
  let k := (s.chan ch).slot.k
  (ceilDiv (k * s.srcBand ch + s.bandLen ch k) 64 - k * s.srcBand ch / 64) * s.blocksWide ch

/-- What proofing finds of a slot's band all of whose blocks it analysed (R255). -/
def State.slotBlocks (s : State) (ch : Nat) : List SeedBlock :=
  let sl := (s.chan ch).slot
  s.analyse ch (s.quarterRows ch (((s.frameSt ch sl.n).bind (·.token)).getD 0) (some sl.k)) (s.searched ch) (sl.k * s.srcBand ch / 64) (s.slotCount ch)
    (List.replicate (s.slotCount ch) true) []

/-- What the slice results show of the blocks: nothing of a repeat slice. -/
def State.slotShown (s : State) (ch : Nat) : List SeedBlock := if (s.chan ch).slot.rep then [] else s.slotBlocks ch

/-- Whether a slot's band cuts the scene (R256). -/
def State.slotCut (s : State) (ch : Nat) : Bool :=
  let sl := (s.chan ch).slot
  let snap := s.snapOf ch sl.n
  !sl.rep && decide (s.getIn (R.PRF_CH_CFG_SC_EN ch) snap = 1) &&
    candidate (sumInter (s.slotShown ch)) (sumIntra (s.slotShown ch)) (s.getIn (R.PRF_CH_CFG_SC_THRESH ch) snap)

/-- The slot after a slot, of a frame of `bands` bands: of the next band, or of the next frame's first one. -/
def SlotRec.next (sl : SlotRec) (bands : Nat) : SlotRec :=
  if bands ≤ sl.k + 1 then { n := sl.n + 1 } else { n := sl.n, k := sl.k + 1, seen := sl.seen || !sl.rep }

theorem someUndone_replicate (n : Nat) : someUndone (List.replicate n true) n = false := by
  simp +contextual [someUndone, List.getD_eq_getElem?_getD]

/-- The end of a slot whose blocks were all analysed: the results are shown and stored, PROOF and with a cut SCENE_CUT are posted, and then the band's
units open. -/
theorem slotEnd_stages {ch : Nat} (hecc : (s.chan ch).slot.ecc = []) :
    let sl := (s.chan ch).slot
    ∃ w : State, (s.writeSlice ch sl.k (s.snapOf ch sl.n) (s.slotShown ch) sl.rep (s.slotCut ch)).Quiet w ∧
      Sys2Proof.Spec.posted w ch 4 ∧ (s.slotCut ch = true → Sys2Proof.Spec.posted w ch 9) ∧
      ∃ c : ChanSt, s.slotEnd ch (List.replicate (s.slotCount ch) true) [] = (w.openBand ch sl [] (s.slotCut ch)).setChan ch c ∧
        c.slot = sl.next ((w.openBand ch sl [] (s.slotCut ch)).bandCount ch) := by
  intro sl
  unfold State.slotEnd
  extract_lets c sl' snap lo first n tok q l undone cut s1 s2 s3 s4 s5 s6 s7 last seen c1 new new1
  have hl : l = s.slotShown ch := by
    by_cases hrep : sl'.rep = true
    · exact (if_pos hrep).trans (if_pos hrep).symm
    · have hq : q = s.quarterRows ch (((s.frameSt ch sl'.n).bind (·.token)).getD 0) (some sl'.k) := by simp only [q, tok, if_neg hrep]
      have he : sl'.ecc = [] := hecc
      calc l = s.analyse ch q (s.searched ch) lo n (List.replicate (s.slotCount ch) true) sl'.ecc := if_neg hrep
        _ = s.slotBlocks ch := by rw [hq, he]; rfl
        _ = s.slotShown ch := (if_neg hrep).symm
  have hundone : undone = false := by
    have hn : someUndone (List.replicate (s.slotCount ch) true) n = false := someUndone_replicate n
    simp only [undone, hn, Bool.and_false]
  have hcut : cut = s.slotCut ch := by
    have he : decide (sl'.ecc = []) = true := decide_eq_true hecc
    simp only [cut, hundone, he, hl, Bool.not_false, Bool.and_true]
    rfl
  have h2 : s1.Quiet s2 := by
    simp only [s2]
    cases tok with
    | none => exact .refl
    | some t => exact ((writeSeeds_quiet.trans writeQuarter_quiet).trans sclBands_quiet).trans keepCplx_steady
  have h4 : s4 = s2 := by simp [s4, s3, hundone]
  have h5 : s4.Quiet s5 := postCh_steady
  have h6 : s5.Quiet s6 := .ite postCh_steady .refl
  rw [← hl, ← hcut]
  refine ⟨s6, (h2.trans (h4 ▸ h5)).trans h6, (h6.onBands ch).posted (posted_postCh ch 4), fun h => ?_, _, rfl, ?_⟩
  · simp only [s6, h]
    exact posted_postCh ch 9
  · simp only [SlotRec.next, last, decide_eq_true_eq]
    rfl

/-- What is left when a slot whose blocks were all analysed has ended. -/
structure State.SlotEnded (s : State) (ch : Nat) (sl : SlotRec) (t : State) : Prop where
  slice : t.get (R.PRF_SLICE ch) = sliceWord sl.k sl.rep (s.slotCut ch)
  cplx : t.get (R.PRF_SLICE_CPLX_CPLX ch) = sumCplx (s.slotShown ch) % 2 ^ 64
  snap : t.get (R.PRF_SLICE_SNAP_SNAP ch) = s.snapOf ch sl.n % 2 ^ 64
  proof : Sys2Proof.Spec.posted t ch 4
  sceneCut : s.slotCut ch = true → Sys2Proof.Spec.posted t ch 9
  units : ∃ l, t.units = s.units ++ l ∧ l.map (·.rend) = s.rendsOn ch ∧
    ∀ u ∈ l, u.ch = ch ∧ u.idx = sl.n ∧ u.band = sl.k ∧ u.snap = s.snapOf ch sl.n ∧ (sl.rep = true → u.rep = true)
  slot : (t.chan ch).slot = sl.next (s.bandCount ch)

theorem slotEnd_ended {ch : Nat} (hch : ch < 256) (hecc : (s.chan ch).slot.ecc = []) :
    s.SlotEnded ch (s.chan ch).slot (s.slotEnd ch (List.replicate (s.slotCount ch) true) []) := by
  obtain ⟨w, hw, hproof, hcut, c, ht, hslot⟩ := slotEnd_stages hecc
  obtain ⟨l, rends, n, ho, hrends, hunits⟩ := openBand_opens (s := w) (ch := ch) (sl := (s.chan ch).slot) (late := []) (cut := s.slotCut ch)
  rw [ho] at ht hslot
  have hs : s.Steady (bandKey ch) w := (writeSlice_steady hch).trans (hw.onBands ch)
  rw [ht]
  exact {
    slice := (hw.get (f := R.PRF_SLICE ch) (show 0x1000000 ≤ 0x1004000 + ch * 0x30000 by omega)).trans writeSlice_slice
    cplx := (hw.get (f := R.PRF_SLICE_CPLX_CPLX ch) (show 0x1000000 ≤ 0x1004008 + ch * 0x30000 by omega)).trans writeSlice_cplx
    snap := (hw.get (f := R.PRF_SLICE_SNAP_SNAP ch) (show 0x1000000 ≤ 0x1004010 + ch * 0x30000 by omega)).trans writeSlice_snap
    proof := hproof
    sceneCut := hcut
    units := ⟨l, by rw [← hs.units]; rfl, hrends.trans hs.rendsOn, by rw [← hs.snapOf]; exact hunits⟩
    slot := by rw [chan_setChan_same, hslot, ← hs.bandCount hch]; rfl }

theorem SlotRec.next_n (sl : SlotRec) (bands : Nat) : (sl.next bands).n = if bands ≤ sl.k + 1 then sl.n + 1 else sl.n := by
  unfold SlotRec.next; split <;> rfl

theorem SlotRec.next_k (sl : SlotRec) (bands : Nat) : (sl.next bands).k = if bands ≤ sl.k + 1 then 0 else sl.k + 1 := by
  unfold SlotRec.next; split <;> rfl

theorem SlotRec.next_on (sl : SlotRec) (bands : Nat) : (sl.next bands).on = false := by
  unfold SlotRec.next; split <;> rfl

/-! ### Sums over blocks -/

theorem foldl_add_eq_sum {α : Type} (f : α → Nat) (l : List α) : l.foldl (fun a b => a + f b) 0 = (l.map f).sum := by
  rw [List.sum_eq_foldl, List.foldl_map]

theorem sumCplx_eq (l : List SeedBlock) : sumCplx l = (l.map Sys2Proof.Spec.cost).sum := foldl_add_eq_sum _ l

/-- A slot cuts the scene if SC_EN is 1, it is no repeat, and its inter costs exceed its intra costs by the programmed ratio (R256). -/
theorem slotCut_iff {ch : Nat} : s.slotCut ch = true ↔
    (s.chan ch).slot.rep = false ∧ s.getIn (R.PRF_CH_CFG_SC_EN ch) (s.snapOf ch (s.chan ch).slot.n) = 1 ∧
      s.getIn (R.PRF_CH_CFG_SC_THRESH ch) (s.snapOf ch (s.chan ch).slot.n) * ((s.slotBlocks ch).map (fun b => b.intra.toNat)).sum <
        16 * ((s.slotBlocks ch).map (fun b => b.inter.toNat)).sum := by
  unfold State.slotCut State.slotShown candidate sumInter sumIntra
  cases hrep : (s.chan ch).slot.rep with
  | true => simp [hrep]
  | false => simp [hrep, foldl_add_eq_sum, Nat.mul_comm _ 16]

/-! ### Commands -/

theorem whenLive_of_live {f : State → State} (h : s.live = true) : whenLive s f = .next (f s) := by simp [whenLive, h]

theorem whenWr_of_up {f : State → State} (hu : s.up = true) (hh : s.halted = false) : whenWr s f = .next (f s) := by simp [whenWr, hu, hh]

theorem exec_proofingSlotStart {ch : Chan} {now : Nat} (hl : s.live = true) (hr : s.running ch = true) (hs : s.subframe ch = true)
    (hg : s.gridOn ch = true) (ho : (s.chan ch).slot.on = false)
    (ht : (s.advance now).reached (s.slotStart ch (s.chan ch).slot.n (s.chan ch).slot.k) = true) :
    exec (.proofingSlotStart ch now) s = .next ((s.advance now).setChan ch { s.chan ch with slot := { (s.chan ch).slot with
      on := true, rep := !(s.flag R.PRF_CTRL_ENABLE) || !(s.bandIn ch (s.chan ch).slot.n (s.chan ch).slot.k), ecc := [], sclBad := [] } }) := by
  rw [exec, execProofingSlotStart, whenLive_of_live hl]
  exact congrArg _ (if_pos ⟨hr, hg, hs, congrArg (!·) ho, ht⟩)

theorem exec_proofingSlotEnd {ch : Chan} {done : List Bool} {late : List Nat} {now : Nat} (hl : s.live = true) (hr : s.running ch = true)
    (hg : s.gridOn ch = true) (ho : (s.chan ch).slot.on = true)
    (ht : (s.advance now).reached (s.slotStart ch (s.chan ch).slot.n (s.chan ch).slot.k + ns (s.tSlot ch)) = true) :
    exec (.proofingSlotEnd ch done late now) s = .next ((s.advance now).slotEnd ch done late) := by
  rw [exec, execProofingSlotEnd, whenLive_of_live hl]
  exact congrArg _ (if_pos ⟨hr, hg, ho, ht⟩)

theorem exec_proofingBufEcc {ch : Chan} {l : List Nat} {now : Nat} (hl : s.live = true) :
    exec (.proofingBufEcc ch l now) s = .next (((s.advance now).setChan ch { s.chan ch with slot := { (s.chan ch).slot with
      ecc := (s.chan ch).slot.ecc ++ l } }).report 131 (suspect kBlock 0x0F)) := by
  rw [exec, execProofingBufEcc, whenLive_of_live hl]
  rfl

/-- An error of a pipeline that works for no task and no channel is only reported. -/
theorem exec_scalerBufEcc_unused {p : Fin 8} {r : Rend} {now : Nat} (hl : s.live = true) (hb : tget (fun _ => 0) s.busy (2000 + p) = 0)
    (ho : tget (fun _ => 0) s.sclOwn p = 0) :
    exec (.scalerBufEcc p r now) s = .next ((s.advance now).report 133 (suspect kBlock 0x10)) := by
  have hb : tget (fun _ => 0) (s.advance now).busy (2000 + p) = 0 := hb
  have ho : tget (fun _ => 0) (s.advance now).sclOwn p = 0 := ho
  rw [exec, execScalerBufEcc, whenLive_of_live hl]
  simp [hb, ho]

/-! ### The custom scaler set (R273) -/

/-- The sum that SCL_COEF_LOAD takes over a phase, of a list that holds the registers' taps. -/
theorem phaseSum_eq {l : List Nat} (hl : ∀ i < 1024, l.getD i 0 = s.get (R.SCL_COEF_COEF i)) {first taps : Nat} (h : first + taps ≤ 1024) :
    (List.range taps).foldl (fun (a : Int) t => a + signedOf (l.getD (first + t) 0) 10) 0 = Sys2Proof.Spec.phaseSum s first taps := by
  refine List.foldl_ext _ _ _ fun a t ht => ?_
  have ht : t < taps := List.mem_range.1 ht
  rw [hl (first + t) (by omega)]

/-- SCL_COEF_LOAD leaves VALID at 1 exactly if every phase sums to 256. -/
theorem coefLoad_valid : (s.coefLoad).flag R.SCL_COEF_CTRL_VALID = true ↔
    ∀ p < 64, Sys2Proof.Spec.phaseSum s (8 * p) 8 = 256 ∧ Sys2Proof.Spec.phaseSum s (512 + 8 * p) 4 = 256 := by
  unfold State.coefLoad
  extract_lets l sum
  have hl : ∀ i < 1024, l.getD i 0 = s.get (R.SCL_COEF_COEF i) := fun i hi => by simp [l, List.getD_eq_getElem?_getD, hi]
  clear_value l
  have hlong (p : Nat) (hp : p < 64) : sum 0 p 8 = Sys2Proof.Spec.phaseSum s (8 * p) 8 :=
    (phaseSum_eq hl (show 512 * 0 + 8 * p + 8 ≤ 1024 by omega)).trans (by rw [Nat.mul_zero, Nat.zero_add])
  have hshort (p : Nat) (hp : p < 64) : sum 1 p 4 = Sys2Proof.Spec.phaseSum s (512 + 8 * p) 4 :=
    phaseSum_eq hl (show 512 * 1 + 8 * p + 4 ≤ 1024 by omega)
  have hall : (List.range 64).all (fun p => decide (sum 0 p 8 = 256) && decide (sum 1 p 4 = 256)) = true ↔
      ∀ p < 64, Sys2Proof.Spec.phaseSum s (8 * p) 8 = 256 ∧ Sys2Proof.Spec.phaseSum s (512 + 8 * p) 4 = 256 := by
    simp only [List.all_eq_true, List.mem_range, Bool.and_eq_true, decide_eq_true_eq]
    exact forall₂_congr fun p hp => by rw [hlong p hp, hshort p hp]
  have hflag (b : Bool) : (s.setFlag R.SCL_COEF_CTRL_VALID b).flag R.SCL_COEF_CTRL_VALID = b := flag_setFlag_same _ _ _ (by decide) (by decide)
  rw [← hall]
  split
  · next h => exact iff_of_true (hflag true) h
  · next h => exact iff_of_false (by rw [hflag]; decide) h

theorem coefLoad_mem : (s.coefLoad).mem = s.mem := coefLoad_mems (P := fun m _ => m = s.mem) |>.2 rfl

/-- Settles O42: the end of a slot writes its results, stores what it analysed, posts its events and opens its units, and none of the later steps touches
what an earlier one has shown. -/
theorem proofingSlots : Obligations.ProofingSlots := by
  unfold Obligations.ProofingSlots
  refine ⟨fun ch now s hl hr hs hg ho ht => ?_, fun ch now s => ?_, fun s hu hh => ?_, fun ch l now s hl => ?_, fun p r now s hl hb ho => ?_⟩
  · refine ⟨_, exec_proofingSlotStart hl hr hs hg ho ht, ?_⟩
    rw [chan_setChan_same]
    simp
  · intro a sl snap lo n done l m hl hr hg ho hecc ht
    have he : a.SlotEnded ch sl (a.slotEnd ch done []) := slotEnd_ended ch.isLt hecc
    obtain ⟨us, hus, hrends, hunits⟩ := he.units
    refine ⟨_, exec_proofingSlotEnd hl hr hg ho ht, ?_, ?_, ?_, ?_, he.snap, he.proof, fun h => he.sceneCut ?_, ?_, fun r hr => ?_, ?_, ?_, ?_⟩
    · rw [he.slice, sliceWord_band]
    · rw [he.slice, sliceWord_repeat]
    · rw [he.slice, sliceWord_cut]; exact slotCut_iff
    · rw [he.cplx, sumCplx_eq]; rfl
    · rwa [he.slice, sliceWord_cut] at h
    · rw [hus, List.length_append, ← List.length_map (as := us), hrends]; rfl
    · obtain ⟨u, hu, rfl⟩ := List.mem_map.1 (hrends ▸ hr)
      obtain ⟨hch, hidx, hband, hsnap, hrep⟩ := hunits u hu
      exact ⟨u, hus ▸ List.mem_append_right _ hu, hch, rfl, hidx, hband, hsnap, hrep⟩
    · rw [he.slot]; exact SlotRec.next_n sl _
    · rw [he.slot]; exact SlotRec.next_k sl _
    · rw [he.slot]; exact SlotRec.next_on sl _
  · exact ⟨_, whenWr_of_up hu hh, coefLoad_mem, coefLoad_valid⟩
  · exact ⟨_, exec_proofingBufEcc hl, by rw [chan_setChan_same]⟩
  · exact exec_scalerBufEcc_unused hl hb ho

end Sys2Proof.Machine
end

section
/-! Datagrams of a transport stream against units of peers that wait for the stream's flows (R456, R484). -/

namespace Sys2Proof.Machine

/-- A peer's unit for flow 0, whose release time is 0. -/
def peerUnit : MediaUnit := { flow := 0, claim := 0, unit := 0, rel := 0, body := .data 0 [] }

/-- The reset device with stream 0 as a transport stream whose datagram 1 is next, and a peer's unit staged for flow 0, which is enabled, of KIND 2
and of stream 0. -/
def streamWithStagedUnit : State :=
  { (((((State.reset.setFlag R.MUX_CTRL_ENABLE true).setFlag (R.MUX_STR_CFG_ENABLE 0) true).set (R.MUX_STR_CFG_FORMAT 0) 1).set
      (R.MUX_STR_RATE_TS_RATE_KBPS 0) 10528).setFlag (R.EGR_FLOW_CTRL_ENABLE 0) true).set (R.EGR_FLOW_CTRL_KIND 0) 2 with
    strs := [(0, { ({} : StrSt) with t0 := some 0, j := 1 })], staged := [peerUnit] }

theorem streamWithStagedUnit_live : streamWithStagedUnit.live = true := by decide +kernel

/-- The stream builds, and the cadence time of its next datagram lies ahead. -/
theorem streamWithStagedUnit_waits : streamWithStagedUnit.tsOn 0 = true ∧ (streamWithStagedUnit.str 0).t0.isSome = true ∧
    streamWithStagedUnit.get (R.MUX_STR_RATE_TS_RATE_KBPS 0) ≠ 0 ∧
    max streamWithStagedUnit.raw 0 * 2 ^ 32 < streamWithStagedUnit.cadence 0 (streamWithStagedUnit.str 0) := by
  decide +kernel

/-- What TS_DATAGRAM_RELEASE leaves staged. -/
def stagedAfter : Out → List MediaUnit
  | .next t => t.staged
  | _ => []

/-- The command presents the peer's unit, whose release time has come, although the stream's own datagram is not due. -/
theorem tsDatagramRelease_presents_staged : stagedAfter (Sys2Proof.Machine.exec (.tsDatagramRelease 0 0) streamWithStagedUnit) = [] := by
  decide +kernel

/-- Refutes O48: its clause about TS_DATAGRAM_RELEASE before the cadence time does not ask that nothing of a peer is staged, and the command presents a
staged unit of the stream's flows at that unit's own release time. -/
theorem not_transportReleases : ¬ Obligations.TransportReleases := by
  unfold Obligations.TransportReleases
  rintro ⟨-, -, -, datagram, -⟩
  obtain ⟨hon, ht0, hrate, hearly⟩ := streamWithStagedUnit_waits
  have hnext := (datagram 0 0 streamWithStagedUnit streamWithStagedUnit_live hon ht0 hrate).1 hearly
  have hstaged := tsDatagramRelease_presents_staged
  rw [hnext] at hstaged
  exact List.cons_ne_nil peerUnit [] hstaged

end Sys2Proof.Machine
end

section
/-! Little-endian numbers, and the bytes and words of a cached line after a store (00_scope.md R5; 03_morop.md R130, R131). -/

namespace Sys2Proof.Machine

/-! ### Bytes of a number (R5) -/

@[simp] theorem leBytes_length (n v : Nat) : (leBytes n v).length = n := by
  induction n generalizing v with
  | zero => rfl
  | succ n ih => simp [leBytes, ih]

theorem leBytes_getD {n i : Nat} (v : Nat) (h : i < n) : (leBytes n v).getD i 0 = BitVec.ofNat 8 (v / 256 ^ i) := by
  induction n generalizing v i with
  | zero => omega
  | succ n ih =>
    cases i with
    | zero => simp [leBytes]
    | succ i => rw [leBytes, List.getD_cons_succ, ih _ (by omega), Nat.div_div_eq_div_mul, pow_succ']

theorem leBytes_mod (n v : Nat) : leBytes n (v % 256 ^ n) = leBytes n v := by
  induction n generalizing v with
  | zero => rfl
  | succ n ih =>
    have hbyte : BitVec.ofNat 8 (v % 256 ^ (n + 1)) = BitVec.ofNat 8 v :=
      BitVec.eq_of_toNat_eq (Nat.mod_mod_of_dvd v (dvd_pow_self 256 n.succ_ne_zero))
    rw [leBytes, leBytes, hbyte, pow_succ', Nat.mod_mul_right_div_self, ih]

theorem leNat_leBytes (n v : Nat) : leNat (leBytes n v) = v % 256 ^ n := by
  induction n generalizing v with
  | zero => simp [leBytes, leNat, Nat.mod_one]
  | succ n ih => rw [leBytes, leNat, ih, pow_succ', Nat.mod_mul]; simp

theorem leNat_lt (l : List (BitVec 8)) : leNat l < 256 ^ l.length := by
  induction l with
  | nil => simp [leNat]
  | cons b l ih => rw [leNat, List.length_cons, pow_succ']; have := b.isLt; omega

theorem signedOf_succ (v m : Nat) : signedOf v (m + 1) = (BitVec.ofNat (m + 1) v).toInt := by
  have hsplit : v % 2 ^ (m + 1) = v % 2 ^ m + 2 ^ m * (v / 2 ^ m % 2) := Nat.mod_pow_succ
  have hlow : v % 2 ^ m < 2 ^ m := Nat.mod_lt _ (by positivity)
  have hdouble : 2 ^ (m + 1) = 2 * 2 ^ m := pow_succ' 2 m
  rw [BitVec.toInt_eq_toNat_cond, BitVec.toNat_ofNat, signedOf, bitAt, Nat.add_sub_cancel]
  rcases Nat.mod_two_eq_zero_or_one (v / 2 ^ m) with hbit | hbit
  · rw [hbit] at hsplit
    rw [if_neg (by simp [hbit]), if_pos (by omega)]
  · rw [hbit] at hsplit
    rw [if_pos (by simp [hbit]), if_neg (by omega)]

/-- A value as a load extends it, in the terms of the statements. -/
theorem extend_eq_loaded (signed : Bool) {n : Nat} (v : Nat) (hn : 0 < n) : extend signed n v = Sys2Proof.Spec.loaded signed n v := by
  cases signed with
  | false => rfl
  | true =>
    obtain ⟨m, hm⟩ : ∃ m, 8 * n = m + 1 := ⟨8 * n - 1, by omega⟩
    have hsign : signedOf v (8 * n) = (BitVec.ofNat (8 * n) v).toInt := by
      rw [hm]; exact signedOf_succ v m
    exact congrArg (BitVec.ofInt 64) hsign

/-! ### Bytes of a line -/

/-- An access of a size that divides a line, at a multiple of that size, lies in one line. -/
theorem offset_add_le_line {a n : Nat} (hn : n ∣ 64) (ha : a % n = 0) : a % 64 + n ≤ 64 := by
  have hrest : n ∣ 64 - a % 64 := Nat.dvd_sub hn ((Nat.dvd_mod_iff hn).2 (Nat.dvd_of_mod_eq_zero ha))
  have := Nat.le_of_dvd (by omega) hrest
  omega

namespace CacheLine

variable {l : CacheLine} {a n : Nat}

theorem take_offset_length (hl : l.bytes.length = 64) : (l.bytes.take (a % 64)).length = a % 64 := by simp [hl]; omega

theorem wr_length (v : Nat) (hl : l.bytes.length = 64) (h : a % 64 + n ≤ 64) : (l.wr a n v).bytes.length = 64 := by
  simp [wr, Config.lineBytes, hl]; omega

/-- A store takes the low bytes of its value. -/
theorem wr_mod (l : CacheLine) (a n v : Nat) : l.wr a n (v % 256 ^ n) = l.wr a n v := by rw [wr, wr, leBytes_mod]

/-- A byte of a line after a store: of the value stored within the access, and as before outside it. -/
theorem wr_getD (v : Nat) (hl : l.bytes.length = 64) (j : Nat) :
    (l.wr a n v).bytes.getD j 0 =
      if a % 64 ≤ j ∧ j < a % 64 + n then BitVec.ofNat 8 (v / 256 ^ (j - a % 64)) else l.bytes.getD j 0 := by
  have hhead := take_offset_length (a := a) hl
  unfold wr Config.lineBytes
  dsimp only
  rw [List.append_assoc]
  rcases Nat.lt_or_ge j (a % 64) with hj | hj
  · rw [List.getD_append _ _ _ _ (by omega), if_neg (by omega)]
    simp [List.getD_eq_getElem?_getD, hj]
  rw [List.getD_append_right _ _ _ _ (by omega), hhead]
  rcases Nat.lt_or_ge j (a % 64 + n) with hj' | hj'
  · rw [List.getD_append _ _ _ _ (by rw [leBytes_length]; omega), if_pos ⟨hj, hj'⟩, leBytes_getD _ (by omega)]
  · rw [List.getD_append_right _ _ _ _ (by rw [leBytes_length]; omega), if_neg (by omega), leBytes_length,
      List.getD_eq_getElem?_getD, List.getElem?_drop, List.getD_eq_getElem?_getD]
    congr 2; omega

/-- A word stored in a line is what the line then holds there. -/
theorem rd_wr (v : Nat) (hl : l.bytes.length = 64) : (l.wr a n v).rd a n = v % 256 ^ n := by
  have hhead := take_offset_length (a := a) hl
  have hword : ((l.wr a n v).bytes.drop (a % 64)).take n = leBytes n v := by
    unfold wr Config.lineBytes
    dsimp only
    rw [List.append_assoc, List.drop_left' hhead, List.take_left' (leBytes_length n v)]
  rw [rd, Config.lineBytes, hword, leNat_leBytes]

theorem rd_wr_word (v : Word) (hl : l.bytes.length = 64) : (l.wr a 8 v.toNat).rd a 8 = v.toNat :=
  (rd_wr _ hl).trans (Nat.mod_eq_of_lt v.isLt)

/-- Eight bytes of a line are a word. -/
theorem rd_word (l : CacheLine) (a : Nat) : l.rd a 8 = (BitVec.ofNat 64 (l.rd a 8)).toNat := by
  have hbound : l.rd a 8 < 256 ^ 8 := (leNat_lt _).trans_le (Nat.pow_le_pow_right (by decide) (List.length_take_le ..))
  exact (Nat.mod_eq_of_lt hbound).symm

end CacheLine

end Sys2Proof.Machine
end

section
/-! What an access of a management core does by its case: a trap, a wait, or a line read and written (03_morop.md R95, R110, R130, R133, R134). -/

namespace Sys2Proof.Machine

/-! ### Contexts and caches through an issue -/

variable {s t : State} {x : Issue} {k : CoreId}

theorem own_of_core (hx : x.agent = .core k) : s.own x = s.thr (256 + k) := by rw [State.own, hx]; rfl

theorem addrOf_issuing (s : State) (x : Issue) (rs1 : Reg) (imm : BitVec 16) :
    ((s.issuing x).addrOf (agentIx x.agent) rs1 imm).toNat = Sys2Proof.Spec.address s x rs1 imm := by
  rw [State.addrOf, issuing_gr]; rfl

theorem sameBut_core (h : s.sameBut t x) (j : Nat) : t.core j = s.core j := by rw [h.1]; rfl

theorem movesTurn_core {i : Nat} (h : s.movesTurn t i) (j : Nat) : t.core j = s.core j := by rw [h.1]; rfl

@[simp] theorem setThr_core (i : Nat) (u : Thread) (j : Nat) : (s.setThr i u).core j = s.core j := (rfl)

@[simp] theorem retire_core (i c : Nat) (f : Thread → Thread) (j : Nat) : (s.retire i c f).core j = s.core j := by
  rw [State.retire, movesTurn_core (hold_movesTurn ..), setThr_core]

/-- A core whose issue ends in waiting. -/
theorem blockOn_own (hx : x.agent = .core k) (u : State) (c : Nat) (b : Block) :
    ((u.blockOn (256 + k) c b).own x).st = .blocked ∧ ((u.blockOn (256 + k) c b).own x).block = b := by
  simp [own_of_core hx, State.blockOn]

/-- The core's context as the effect finds it. -/
theorem issuing_thr_core (hx : x.agent = .core k) : (s.issuing x).thr (256 + k) = { s.own x with runcount := (s.own x).runcount + 1 } := by
  rw [← issuing_own, hx]; rfl

/-- A retirement right after the issue: the core's context has completed with a value for rd. -/
theorem retire_completed (hx : x.agent = .core k) {u : State} (hu : u.thr (256 + k) = (s.issuing x).thr (256 + k)) (c rd : Nat) (v : Word) :
    (u.retire (256 + k) c (fun t => t.wg rd v)).own x = (s.own x).completed c rd v := by
  rw [own_of_core hx, retire_own, hu, issuing_thr_core hx]; rfl

theorem sameBut_retire_core (hx : x.agent = .core k) (c : Nat) (f : Thread → Thread) : s.sameBut ((s.issuing x).retire (256 + k) c f) x := by
  have h := sameBut_retire s x c f
  rw [hx] at h; exact h

/-! ### The entry of a core's handler (R133) -/

theorem swapBank_core (s : State) (k : Nat) : (s.swapBank k).core k =
    { s.core k with b29 := (s.thr (256 + k)).rg 29, b30 := (s.thr (256 + k)).rg 30, b31 := (s.thr (256 + k)).rg 31, bank := !(s.core k).bank } := by
  simp [State.swapBank]

theorem swapBank_thr (s : State) (k : Nat) : (s.swapBank k).thr (256 + k) =
    (((s.thr (256 + k)).wg 29 (s.core k).b29).wg 30 (s.core k).b30).wg 31 (s.core k).b31 := by
  simp [State.swapBank]

/-- The registers of a context after the exchange of g29 to g31 with a bank. -/
theorem rg_exchanged (t : Thread) (b29 b30 b31 : Word) (r : Nat) : (((t.wg 29 b29).wg 30 b30).wg 31 b31).rg r =
    if r = 31 then b31 else if r = 30 then b30 else if r = 29 then b29 else t.rg r := by
  simp only [rg_wg]
  split
  · next h => subst h; simp [Thread.rg]
  · rfl

/-- A core outside its handler that traps enters it at the slot of the cause. -/
theorem trapCore_entered {u : State} {k cause : Nat} (v : Word) (h : (u.core k).inHandler = false) :
    Sys2Proof.Spec.entered (u.core k) ((u.trapCore k cause v).core k) (u.thr (256 + k)) ((u.trapCore k cause v).thr (256 + k)) cause cause v := by
  have hrg (r : Nat) : ((u.trapCore k cause v).thr (256 + k)).rg r =
      if r = 31 then (u.core k).b31 else if r = 30 then (u.core k).b30 else if r = 29 then (u.core k).b29 else (u.thr (256 + k)).rg r := by
    rw [← rg_exchanged]
    simp [State.trapCore, h, State.enterHandler, swapBank_thr, Thread.rg]
  refine ⟨?_, ?_, ?_, ?_, ?_, ?_, ?_, ?_, ?_, ?_, hrg 29, hrg 30, hrg 31, fun r hr => ?frame, ?_, ?_⟩
  case frame => rw [hrg, if_neg (by omega), if_neg (by omega), if_neg (by omega)]
  all_goals simp [State.trapCore, h, State.enterHandler, swapBank_core]

/-! ### The cases of a core's access -/

section
variable {u : State} {op : MemOp} {j n rd a data c : Nat} {ecc : Check}

theorem coreAccess_of_misaligned (h : a % n ≠ 0) : u.coreAccess j op n rd a data c ecc = u.trapCore j cMAL (tval a) := by
  rw [State.coreAccess]; exact if_pos h

theorem coreAccess_of_register (h : a % n = 0) (hm : mappedRange a n = true) (hr : inRegs a = true) :
    u.coreAccess j op n rd a data c ecc = u.blockOn (256 + j) c (.far op n rd a (BitVec.ofNat 64 data)) := by
  simp [State.coreAccess, h, hm, hr]

theorem coreAccess_of_miss (h : a % n = 0) (hm : mappedRange a n = true) (hr : inRegs a = false)
    (hl : tfind (u.core j).dcache (a / 64) = none) :
    u.coreAccess j op n rd a data c ecc = u.blockOn (256 + j) 0 (.fill false (a / 64)) := by
  simp [State.coreAccess, lineOf, Config.lineBytes, h, hm, hr, hl]

theorem coreAccess_of_hit {l : CacheLine} (h : a % n = 0) (hm : mappedRange a n = true) (hr : inRegs a = false) (he : ecc ≠ .bad)
    (hl : tfind (u.core j).dcache (a / 64) = some l) : u.coreAccess j op n rd a data c ecc = u.cached j op n rd a data c l := by
  simp [State.coreAccess, lineOf, Config.lineBytes, h, hm, hr, he, hl]

end

/-! ### An access that its line serves -/

/-- What an atomic operation of the model does with the word read, rs2 and rd: the word read goes to rd, and `f` of the three to memory. -/
def MemOp.Updates (op : MemOp) (f : Word → Word → Word → Word) : Prop :=
  ∀ v b d : Word, op.run 8 v.toNat b.toNat d.toNat = (some v, some (f v b d).toNat)

theorem add_updates : MemOp.add.Updates fun m b _ => m + b := fun v b d => by simp [MemOp.run, atomic]

theorem swap_updates : MemOp.swap.Updates fun _ b _ => b := fun v b d => by simp [MemOp.run, atomic]

theorem cas_updates : MemOp.cas.Updates fun m b d => if m = d then b else m := fun v b d => by
  simp only [MemOp.run, atomic, BitVec.toNat_inj, BitVec.ofNat_toNat, BitVec.setWidth_eq]
  split <;> rfl

/-- The data cache of core k with a line replaced. -/
def State.putLine (s : State) (k line : Nat) (l : CacheLine) : State :=
  s.setCore k { s.core k with dcache := tput (s.core k).dcache line l }

@[simp] theorem putLine_thr (s : State) (k line : Nat) (l : CacheLine) (i : Nat) : (s.putLine k line l).thr i = s.thr i := setCore_thr ..

theorem tfind_retire_putLine (s : State) (k line : Nat) (l : CacheLine) (i c : Nat) (f : Thread → Thread) :
    tfind (((s.putLine k line l).retire i c f).core k).dcache line = some l := by
  rw [retire_core, State.putLine, core_setCore_same, tfind_tput_same]

theorem retire_putLine_mem (s : State) (k line : Nat) (l : CacheLine) (i c : Nat) (f : Thread → Thread) :
    ((s.putLine k line l).retire i c f).mem = s.mem :=
  (retire_mems (P := fun m _ => m = s.mem)).2 (setCore_mems.2 rfl)

section
variable {u : State} {op : MemOp} {j n rd a data c : Nat} {l : CacheLine}

theorem cached_load (signed : Bool) :
    u.cached j (.load signed) n rd a data c l = u.retire (256 + j) c (fun t => t.wg rd (extend signed n (l.rd a n))) := (rfl)

theorem cached_store : u.cached j .store n rd a data c l = (u.putLine j (a / 64) (l.wr a n data)).retire (256 + j) c (fun t => t) := (rfl)

theorem cached_update {f : Word → Word → Word → Word} (hop : op.Updates f) {m b : Word} (hm : l.rd a 8 = m.toNat) :
    u.cached j op 8 rd a b.toNat c l =
      (u.putLine j (a / 64) (l.wr a 8 (f m b ((u.thr (256 + j)).rg rd)).toNat)).retire (256 + j) c (fun t => t.wg rd m) := by
  have hrun := hop m b ((u.thr (256 + j)).rg rd)
  simp only [State.cached, hm, hrun]
  rfl

end

/-! ### Loads, stores and atomic operations of a core, as the commands answer them -/

theorem exec_load_core (hx : x.agent = .core k) {rd rs1 : Reg} {imm : BitVec 16} {ecc : Check}
    {p : (Issue → Reg → Reg → BitVec 16 → Check → Instr) × Nat × Nat × Bool} (hp : p ∈ Sys2Proof.Spec.loadTable)
    (h : s.issues x (encI p.2.1 rd rs1 imm)) :
    exec (p.1 x rd rs1 imm ecc) s =
      .next ((s.issuing x).coreAccess k (.load p.2.2.2) p.2.2.1 rd (Sys2Proof.Spec.address s x rs1 imm) 0 1 ecc) := by
  have hload : loadI p.2.1 p.2.2.2 p.2.2.1 x rd rs1 imm ecc s =
      .next ((s.issuing x).coreAccess k (.load p.2.2.2) p.2.2.1 rd (Sys2Proof.Spec.address s x rs1 imm) 0 1 ecc) := by
    rw [loadI, whenIssued_of_issues _ _ _ _ h, ← addrOf_issuing, hx]
  rw [← hload]
  simp only [Sys2Proof.Spec.loadTable, List.mem_cons, List.not_mem_nil, or_false] at hp
  obtain rfl | rfl | rfl | rfl | rfl := hp <;> rfl

theorem exec_store_core (hx : x.agent = .core k) {rd rs1 : Reg} {imm : BitVec 16}
    {p : (Issue → Reg → Reg → BitVec 16 → Instr) × Nat × Nat} (hp : p ∈ Sys2Proof.Spec.storeTable) (h : s.issues x (encI p.2.1 rd rs1 imm)) :
    exec (p.1 x rd rs1 imm) s = .next ((s.issuing x).coreAccess k .store p.2.2 0 (Sys2Proof.Spec.address s x rs1 imm)
      (((s.own x).rg rd).toNat % 256 ^ p.2.2) 1 .clean) := by
  have hstore : storeI p.2.1 p.2.2 x rd rs1 imm s = .next ((s.issuing x).coreAccess k .store p.2.2 0 (Sys2Proof.Spec.address s x rs1 imm)
      (((s.own x).rg rd).toNat % 256 ^ p.2.2) 1 .clean) := by
    rw [storeI, whenIssued_of_issues _ _ _ _ h, ← addrOf_issuing, ← issuing_gr, hx]
  rw [← hstore]
  simp only [Sys2Proof.Spec.storeTable, List.mem_cons, List.not_mem_nil, or_false] at hp
  obtain rfl | rfl | rfl | rfl := hp <;> rfl

theorem atomicR_core (hx : x.agent = .core k) {func : Nat} {op : MemOp} {rd rs1 rs2 : Reg} {ecc : Check}
    (h : s.issues x (encR 0x1F rd rs1 rs2 func)) :
    atomicR func op x rd rs1 rs2 ecc s =
      .next ((s.issuing x).coreAccess k op 8 rd ((s.own x).rg rs1).toNat ((s.own x).rg rs2).toNat 2 ecc) := by
  rw [atomicR, whenIssued_of_issues _ _ _ _ h, ← issuing_gr, ← issuing_gr, hx]

theorem exec_atomic_core (hx : x.agent = .core k) {rd rs1 rs2 : Reg} {ecc : Check}
    {p : (Issue → Reg → Reg → Reg → Check → Instr) × Nat × (Word → Word → Word → Word)} (hp : p ∈ Sys2Proof.Spec.atomicTable)
    (h : s.issues x (encR 0x1F rd rs1 rs2 p.2.1)) :
    ∃ op : MemOp, op.Updates p.2.2 ∧ exec (p.1 x rd rs1 rs2 ecc) s =
      .next ((s.issuing x).coreAccess k op 8 rd ((s.own x).rg rs1).toNat ((s.own x).rg rs2).toNat 2 ecc) := by
  simp only [Sys2Proof.Spec.atomicTable, List.mem_cons, List.not_mem_nil, or_false] at hp
  obtain rfl | rfl | rfl := hp
  · exact ⟨.add, add_updates, atomicR_core hx h⟩
  · exact ⟨.swap, swap_updates, atomicR_core hx h⟩
  · exact ⟨.cas, cas_updates, atomicR_core hx h⟩

theorem loadTable_size {p : (Issue → Reg → Reg → BitVec 16 → Check → Instr) × Nat × Nat × Bool} (hp : p ∈ Sys2Proof.Spec.loadTable) :
    0 < p.2.2.1 := by
  simp only [Sys2Proof.Spec.loadTable, List.mem_cons, List.not_mem_nil, or_false] at hp
  obtain rfl | rfl | rfl | rfl | rfl := hp <;> decide

theorem storeTable_size {p : (Issue → Reg → Reg → BitVec 16 → Instr) × Nat × Nat} (hp : p ∈ Sys2Proof.Spec.storeTable) : p.2.2 ∣ 64 := by
  simp only [Sys2Proof.Spec.storeTable, List.mem_cons, List.not_mem_nil, or_false] at hp
  obtain rfl | rfl | rfl | rfl := hp <;> decide

/-- Settles O21: an aligned access to memory reads and writes the line held, or waits for it; in the register region it waits for the access; and a
misaligned one enters the handler. -/
theorem coreMemoryAccesses : Obligations.CoreMemoryAccesses := by
  unfold Obligations.CoreMemoryAccesses
  intro x k rd rs1 rs2 imm s hx a b
  have hcore : (s.issuing x).core k = s.core k := sameBut_core (sameBut_issuing s x) k
  have hmem : (s.issuing x).mem = s.mem := issuing_mems (P := fun m _ => m = s.mem) |>.2 rfl
  rw [← hcore]
  refine ⟨fun p hp ecc hi => ?_, fun p hp hi ha hm hr l hl h64 => ?_, fun p hp ecc hi hb hm hr he l hl h64 => ?_⟩
  · have hexec := exec_load_core hx hp hi (ecc := ecc)
    refine ⟨fun ha hm hr he l hl => ?_, fun ha hm hr hl => ?_, fun ha hm hr => ?_, fun ha hh => ?_⟩
    · rw [coreAccess_of_hit ha hm hr he hl, cached_load, extend_eq_loaded _ _ (loadTable_size hp)] at hexec
      exact ⟨_, hexec, sameBut_retire_core hx _ _, retire_completed hx rfl _ _ _⟩
    · rw [coreAccess_of_miss ha hm hr hl] at hexec
      exact ⟨_, hexec, blockOn_own hx ..⟩
    · rw [coreAccess_of_register ha hm hr] at hexec
      exact ⟨_, hexec, blockOn_own hx ..⟩
    · rw [coreAccess_of_misaligned ha] at hexec
      have hentered := trapCore_entered (cause := cMAL) (tval a) hh
      rw [issuing_thr_core hx, ← own_of_core hx] at hentered
      exact ⟨_, hexec, hentered⟩
  · have hfit := offset_add_le_line (storeTable_size hp) ha
    have hexec := exec_store_core hx hp hi
    rw [coreAccess_of_hit ha hm hr (by decide) hl, cached_store, CacheLine.wr_mod] at hexec
    exact ⟨_, _, hexec, (retire_putLine_mem ..).trans hmem, retire_completed hx (putLine_thr ..) 1 0 0, tfind_retire_putLine ..,
      CacheLine.wr_length _ h64 hfit, fun j _ => CacheLine.wr_getD _ h64 j⟩
  · obtain ⟨op, hop, hexec⟩ := exec_atomic_core hx hp hi (ecc := ecc)
    rw [coreAccess_of_hit hb hm hr he hl, cached_update hop (CacheLine.rd_word l b), issuing_thr_core hx] at hexec
    exact ⟨_, _, hexec, (retire_putLine_mem ..).trans hmem, retire_completed hx (putLine_thr ..) _ _ _, tfind_retire_putLine ..,
      CacheLine.rd_wr_word _ h64⟩

end Sys2Proof.Machine
end

section
/-! Arithmetic and logic: an instruction of opcode 0x00 or an immediate form completes with the result that R110's table gives (03_morop.md R110). -/

namespace Sys2Proof.Machine

/-! ### Results in the terms of R110's table -/

theorem sext_eq_toInt (imm : BitVec 16) : sext imm = imm.toInt := rfl

theorem immS_eq_signExtend (imm : BitVec 16) : immS imm = imm.signExtend 64 := rfl

theorem toInt_immS (imm : BitVec 16) : (immS imm).toInt = imm.toInt := by
  rw [immS_eq_signExtend, BitVec.toInt_signExtend_of_le (by decide)]

theorem immZ_eq_setWidth (imm : BitVec 16) : immZ imm = imm.setWidth 64 := BitVec.ofNat_toNat ..

theorem shiftLeft_eq_mul (a : Word) (n : Nat) : a <<< n = BitVec.ofNat 64 (a.toNat * 2 ^ n) :=
  BitVec.eq_of_toNat_eq (by rw [BitVec.toNat_shiftLeft, Nat.shiftLeft_eq, BitVec.toNat_ofNat])

theorem shiftRight_eq_div (a : Word) (n : Nat) : a >>> n = BitVec.ofNat 64 (a.toNat / 2 ^ n) := by
  rw [← Nat.shiftRight_eq_div_pow, ← BitVec.toNat_ushiftRight, BitVec.ofNat_toNat, BitVec.setWidth_eq]

theorem sshiftRight_eq_div (a : Word) (n : Nat) : a.sshiftRight n = BitVec.ofInt 64 (a.toInt / 2 ^ n) := by
  rw [BitVec.sshiftRight, Int.shiftRight_eq_div_pow]; norm_cast

theorem slt_ite (a b u v : Word) : (if a.slt b then u else v) = if a.toInt < b.toInt then u else v := by simp [BitVec.slt]

theorem ult_ite (a b u v : Word) : (if a.ult b then u else v) = if a.toNat < b.toNat then u else v := by simp [BitVec.ult]

theorem ofBool_slt (a b : Word) : ofBool (a.slt b) = if a.toInt < b.toInt then 1 else 0 := slt_ite a b 1 0

theorem ofBool_ult (a b : Word) : ofBool (a.ult b) = if a.toNat < b.toNat then 1 else 0 := ult_ite a b 1 0

theorem ofBool_slt_immS (a : Word) (imm : BitVec 16) : ofBool (a.slt (immS imm)) = if a.toInt < imm.toInt then 1 else 0 := by
  rw [ofBool_slt, toInt_immS]

theorem saturate_eq_clamp (v : Int) : saturate v = Sys2Proof.Spec.clamp v := by
  unfold saturate Sys2Proof.Spec.clamp
  congr 1
  omega

theorem udiv_eq_ofNat (a b : Word) : a.udiv b = BitVec.ofNat 64 (a.toNat / b.toNat) := by
  have h : (a.udiv b).toNat = a.toNat / b.toNat := BitVec.toNat_udiv
  rw [← h, BitVec.ofNat_toNat, BitVec.setWidth_eq]

theorem umod_eq_ofNat (a b : Word) : a.umod b = BitVec.ofNat 64 (a.toNat % b.toNat) := by
  have h : (a.umod b).toNat = a.toNat % b.toNat := BitVec.toNat_umod
  rw [← h, BitVec.ofNat_toNat, BitVec.setWidth_eq]

theorem mul_eq_ofNat (a b : Word) : a * b = BitVec.ofNat 64 (a.toNat * b.toNat) :=
  BitVec.eq_of_toNat_eq (by rw [BitVec.toNat_mul, BitVec.toNat_ofNat])

theorem bitAt_eq_testBit (x i : Nat) : bitAt x i = x.testBit i := by
  rw [bitAt, Nat.testBit_eq_decide_div_mod_eq]

theorem leadingZeros_eq (a : Word) : leadingZeros a = if a = 0 then 64 else 63 - a.toNat.log2 := by
  unfold leadingZeros
  simp only [bitAt_eq_testBit]
  split
  · next h =>
    rw [h, List.find?_range_eq_none.2 (by simp)]; rfl
  · next h =>
    have hne : a.toNat ≠ 0 := fun e => h (BitVec.eq_of_toNat_eq e)
    have hlog : a.toNat.log2 < 64 := (Nat.log2_lt hne).2 a.isLt
    have hfind : (List.range 64).find? (fun i => a.toNat.testBit (63 - i)) = some (63 - a.toNat.log2) := by
      refine List.find?_range_eq_some.2 ⟨?_, List.mem_range.2 (by omega), fun j hj => ?_⟩
      · rw [show 63 - (63 - a.toNat.log2) = a.toNat.log2 by omega]; exact Nat.testBit_log2 hne
      · have habove : a.toNat < 2 ^ (63 - j) := Nat.lt_log2_self.trans_le (Nat.pow_le_pow_right (by decide) (by omega))
        rw [Nat.testBit_lt_two_pow habove]; rfl
    rw [hfind]; rfl

theorem popCount_eq_countP (a : Word) (n : Nat) : popCount a.toNat n = (List.range n).countP (fun i => a.getLsbD i) := by
  induction n with
  | zero => rfl
  | succ n ih =>
    have hbit : a.toNat / 2 ^ n % 2 = if a.getLsbD n then 1 else 0 := by
      rw [BitVec.getLsbD, Nat.testBit_eq_decide_div_mod_eq]
      rcases Nat.mod_two_eq_zero_or_one (a.toNat / 2 ^ n) with h | h <;> simp [h]
    rw [popCount, List.range_succ, List.foldl_append, List.countP_append, ← ih]
    simp [popCount, hbit, List.countP_cons]

/-- A bit of a word after a field has been replaced. -/
theorem getLsbD_insert16 (v : Word) (lane : BitVec 2) (imm : BitVec 16) (j : Nat) :
    (insert16 v lane imm).getLsbD j = if j / 16 = lane.toNat then imm.getLsbD (j % 16) else v.getLsbD j := by
  have hlane : 16 * lane.toNat + 16 ≤ 64 := by have := lane.isLt; omega
  have hbit (w : Word) : w.getLsbD j = decide (bitsOf w j 1 = 1) := by
    rw [BitVec.getLsbD, Nat.testBit_eq_decide_div_mod_eq, bitsOf, pow_one]
  rw [insert16]
  split
  · next h =>
    have hfield : bitsOf (withBits v (16 * lane.toNat) 16 imm.toNat) (16 * lane.toNat) 16 = imm.toNat := by
      rw [bitsOf_withBits_same _ _ _ _ hlane, Nat.mod_eq_of_lt imm.isLt]
    calc (withBits v (16 * lane.toNat) 16 imm.toNat).getLsbD j
        = (bitsOf (withBits v (16 * lane.toNat) 16 imm.toNat) (16 * lane.toNat) 16).testBit (j % 16) := by
          rw [bitsOf, Nat.testBit_mod_two_pow, ← Nat.shiftRight_eq_div_pow, Nat.testBit_shiftRight, decide_eq_true (Nat.mod_lt _ (by decide)),
            Bool.true_and, ← h, Nat.div_add_mod, BitVec.getLsbD]
      _ = imm.getLsbD (j % 16) := by rw [hfield, BitVec.getLsbD]
  · next h =>
    rw [hbit, hbit]
    rcases Nat.lt_or_ge j (16 * lane.toNat) with hlow | hhigh
    · rw [bitsOf_withBits_below _ _ _ _ _ _ hlane (by omega)]
    · rw [bitsOf_withBits_above _ _ _ _ _ _ hlane (by omega)]

/-! ### The forms complete -/

/-- An instruction whose command answers t completes in c cycles with v for rd, and touches nothing else. -/
def Completes (s : State) (x : Issue) (c rd : Nat) (v : Word) (o : Out) : Prop :=
  ∃ t, o = .next t ∧ t.own x = (s.own x).completed c rd v ∧ s.sameBut t x

/-- An instruction of format R with opcode 0x00 completes as a row of the table says. -/
def CompletesR (p : (Issue → Reg → Reg → Reg → Instr) × Nat × Nat × (Word → Word → Word)) : Prop :=
  ∀ (x : Issue) (rd rs1 rs2 : Reg) (s : State), s.issues x (encR 0x00 rd rs1 rs2 p.2.1) →
    Completes s x p.2.2.1 rd (p.2.2.2 ((s.own x).rg rs1) ((s.own x).rg rs2)) (exec (p.1 x rd rs1 rs2) s)

/-- An immediate form completes as a row of the table says. -/
def CompletesI (p : (Issue → Reg → Reg → BitVec 16 → Instr) × Nat × (Word → BitVec 16 → Word)) : Prop :=
  ∀ (x : Issue) (rd rs1 : Reg) (imm : BitVec 16) (s : State), s.issues x (encI p.2.1 rd rs1 imm) →
    Completes s x 1 rd (p.2.2 ((s.own x).rg rs1) imm) (exec (p.1 x rd rs1 imm) s)

/-- A shift by an immediate completes as a row of the table says. -/
def CompletesShift (p : (Issue → Reg → Reg → BitVec 16 → Instr) × Nat × (Word → Nat → Word)) : Prop :=
  ∀ (x : Issue) (rd rs1 : Reg) (imm : BitVec 16) (s : State), imm.toNat < 64 → s.issues x (encI p.2.1 rd rs1 imm) →
    Completes s x 1 rd (p.2.2 ((s.own x).rg rs1) imm.toNat) (exec (p.1 x rd rs1 imm) s)

theorem alu_own (s : State) (x : Issue) (c : Nat) (rd : Reg) (v : Word) : ((s.issuing x).alu x c rd v).own x = (s.own x).completed c rd v :=
  (alu_spec s x c rd v).1

theorem alu_sameBut (s : State) (x : Issue) (c : Nat) (rd : Reg) (v : Word) : s.sameBut ((s.issuing x).alu x c rd v) x := (alu_spec s x c rd v).2

theorem movesTurn_own {t u : State} {x : Issue} (h : t.movesTurn u (agentIx x.agent)) : u.own x = t.own x := movesTurn_thr h _

section
variable {con : Issue → Reg → Reg → Reg → Instr} {func latency : Nat} {op f : Word → Word → Word}

theorem aluR_completes (hop : ∀ a b, op a b = f a b)
    (he : ∀ x rd rs1 rs2 s, exec (con x rd rs1 rs2) s = aluR func latency op x rd rs1 rs2 s) :
    CompletesR (con, func, 1, f) := by
  intro x rd rs1 rs2 s h
  rw [he, aluR, whenIssued_of_issues _ _ _ _ h, issuing_gr, issuing_gr, hop]
  exact ⟨_, rfl, (movesTurn_own (later_movesTurn ..)).trans (alu_own ..), sameBut_moves _ _ _ _ (alu_sameBut ..) (later_movesTurn ..)⟩

theorem divR_completes (hop : ∀ a b, op a b = f a b)
    (he : ∀ x rd rs1 rs2 s, exec (con x rd rs1 rs2) s = divR func op x rd rs1 rs2 s) :
    CompletesR (con, func, 20, f) := by
  intro x rd rs1 rs2 s h
  rw [he, divR, whenIssued_of_issues _ _ _ _ h, issuing_gr, issuing_gr, hop]
  exact ⟨_, rfl, (movesTurn_own (divides_movesTurn ..)).trans (alu_own ..), sameBut_moves _ _ _ _ (alu_sameBut ..) (divides_movesTurn ..)⟩

end

section
variable {con : Issue → Reg → Reg → BitVec 16 → Instr} {opcode : Nat}

theorem aluI_completes {op f : Word → BitVec 16 → Word} (hop : ∀ a imm, op a imm = f a imm)
    (he : ∀ x rd rs1 imm s, exec (con x rd rs1 imm) s = aluI opcode op x rd rs1 imm s) : CompletesI (con, opcode, f) := by
  intro x rd rs1 imm s h
  rw [he, aluI, whenIssued_of_issues _ _ _ _ h, issuing_gr, hop]
  exact ⟨_, rfl, alu_own .., alu_sameBut ..⟩

theorem shiftI_completes {op f : Word → Nat → Word} (hop : ∀ a n, op a n = f a n)
    (he : ∀ x rd rs1 imm s, exec (con x rd rs1 imm) s = shiftI opcode op x rd rs1 imm s) : CompletesShift (con, opcode, f) := by
  intro x rd rs1 imm s hi h
  rw [he, shiftI, whenIssued_of_issues _ _ _ _ h, if_neg (Nat.not_le.2 hi), issuing_gr, hop]
  exact ⟨_, rfl, alu_own .., alu_sameBut ..⟩

end

theorem aluTable_completes : ∀ p ∈ Sys2Proof.Spec.aluTable, CompletesR p := by
  simp only [Sys2Proof.Spec.aluTable, List.cons_append, List.nil_append, List.forall_mem_cons]
  refine ⟨?_, ?_, ?_, ?_, ?_, ?_, ?_, ?_, ?_, ?_, ?_, ?_, ?_, ?_, ?_, ?_, ?_, ?_, ?_, ?_, ?_, ?_, ?_, List.forall_mem_nil _⟩
  · exact aluR_completes (fun _ _ => rfl) fun _ _ _ _ _ => rfl
  · exact aluR_completes (fun _ _ => rfl) fun _ _ _ _ _ => rfl
  · exact aluR_completes (fun _ _ => rfl) fun _ _ _ _ _ => rfl
  · exact aluR_completes (fun _ _ => rfl) fun _ _ _ _ _ => rfl
  · exact aluR_completes (fun _ _ => rfl) fun _ _ _ _ _ => rfl
  · exact aluR_completes (fun a b => shiftLeft_eq_mul a (shiftBy b)) fun _ _ _ _ _ => rfl
  · exact aluR_completes (fun a b => shiftRight_eq_div a (shiftBy b)) fun _ _ _ _ _ => rfl
  · exact aluR_completes (fun a b => sshiftRight_eq_div a (shiftBy b)) fun _ _ _ _ _ => rfl
  · exact aluR_completes ofBool_slt fun _ _ _ _ _ => rfl
  · exact aluR_completes ofBool_ult fun _ _ _ _ _ => rfl
  · exact aluR_completes (fun a b => slt_ite a b a b) fun _ _ _ _ _ => rfl
  · exact aluR_completes (fun a b => slt_ite a b b a) fun _ _ _ _ _ => rfl
  · exact aluR_completes (fun a b => ult_ite a b a b) fun _ _ _ _ _ => rfl
  · exact aluR_completes (fun a b => ult_ite a b b a) fun _ _ _ _ _ => rfl
  · exact aluR_completes (fun _ _ => saturate_eq_clamp _) fun _ _ _ _ _ => rfl
  · exact aluR_completes (fun _ _ => saturate_eq_clamp _) fun _ _ _ _ _ => rfl
  · exact aluR_completes mul_eq_ofNat fun _ _ _ _ _ => rfl
  · exact aluR_completes (fun _ _ => rfl) fun _ _ _ _ _ => rfl
  · exact aluR_completes (fun _ _ => saturate_eq_clamp _) fun _ _ _ _ _ => rfl
  · exact divR_completes (fun a b => congrArg (ite (b = 0) _) (udiv_eq_ofNat a b)) fun _ _ _ _ _ => rfl
  · exact divR_completes (fun a b => congrArg (ite (b = 0) _) (umod_eq_ofNat a b)) fun _ _ _ _ _ => rfl
  · exact aluR_completes (fun a _ => congrArg (BitVec.ofNat 64) (leadingZeros_eq a)) fun _ _ _ _ _ => rfl
  · exact aluR_completes (fun a _ => congrArg (BitVec.ofNat 64) (popCount_eq_countP a 64)) fun _ _ _ _ _ => rfl

/-- Settles O1: each row of R110's table is a form of opcode 0x00 whose operation is the row's. -/
theorem registerFormResults : Obligations.RegisterFormResults := aluTable_completes

theorem immTable_completes : ∀ p ∈ Sys2Proof.Spec.immTable, CompletesI p := by
  simp only [Sys2Proof.Spec.immTable, List.forall_mem_cons]
  refine ⟨?_, ?_, ?_, ?_, ?_, ?_, List.forall_mem_nil _⟩
  · exact aluI_completes (fun a i => congrArg (a + ·) (immS_eq_signExtend i)) fun _ _ _ _ _ => rfl
  · exact aluI_completes (fun a i => congrArg (a &&& ·) (immZ_eq_setWidth i)) fun _ _ _ _ _ => rfl
  · exact aluI_completes (fun a i => congrArg (a ||| ·) (immZ_eq_setWidth i)) fun _ _ _ _ _ => rfl
  · exact aluI_completes (fun a i => congrArg (a ^^^ ·) (immZ_eq_setWidth i)) fun _ _ _ _ _ => rfl
  · exact aluI_completes ofBool_slt_immS fun _ _ _ _ _ => rfl
  · exact aluI_completes (fun a i => ofBool_ult a (immS i)) fun _ _ _ _ _ => rfl

theorem shiftTable_completes : ∀ p ∈ Sys2Proof.Spec.shiftTable, CompletesShift p := by
  simp only [Sys2Proof.Spec.shiftTable, List.forall_mem_cons]
  refine ⟨?_, ?_, ?_, List.forall_mem_nil _⟩
  · exact shiftI_completes shiftLeft_eq_mul fun _ _ _ _ _ => rfl
  · exact shiftI_completes shiftRight_eq_div fun _ _ _ _ _ => rfl
  · exact shiftI_completes sshiftRight_eq_div fun _ _ _ _ _ => rfl

/-- Settles O2: each row is an immediate form whose operation is the row's; INSI replaces the lane's field of rd. -/
theorem immediateFormResults : Obligations.ImmediateFormResults := by
  unfold Obligations.ImmediateFormResults
  refine ⟨immTable_completes, shiftTable_completes, fun x rd lane imm s h => ?_⟩
  refine ⟨_, _, whenIssued_of_issues _ _ _ _ h, alu_own .., alu_sameBut .., fun j _ => ?_⟩
  rw [issuing_gr]
  exact getLsbD_insert16 _ lane imm j

end Sys2Proof.Machine
end

section
/-! The issue of an instruction by its agent: the registers, memories and contexts that the effect finds, and what a completion leaves (03_morop.md R84 to
R87, R115, R125). -/

namespace Sys2Proof.Machine

variable {s t u : State} {x : Issue} {n : Thr}

/-! ### The agent's context -/

theorem agentIx_of_thread (hx : x.agent = .thread n) : agentIx x.agent = n := by rw [hx]; rfl

theorem own_of_thread (hx : x.agent = .thread n) : s.own x = s.thr n := by rw [State.own, agentIx_of_thread hx]

theorem agentIx_of_core {k : CoreId} (hx : x.agent = .core k) : agentIx x.agent = 256 + k := by rw [hx]; rfl

theorem ofNat_thr (n : Thr) : Fin.ofNat 256 n.val = n := Fin.ofNat_val_eq_self n

theorem own_st_of_issues {w : Nat} (h : s.issues x w) : (s.own x).st = .runnable := by
  have hturn : s.hasTurn x = true := (Bool.and_eq_true_iff.1 h.1).1
  simp only [State.hasTurn, Bool.and_eq_true, decide_eq_true_eq] at hturn
  exact hturn.1.2

/-! ### What the effect finds: the registers but a count of corrected errors, and the memories -/

theorem countsAt_key {k : Nat} (h : countsAt x k) : k % 0x4000 = 0x20 := by
  obtain ⟨-, n, -, rfl⟩ := h
  show (0x200020 + n.val / 4 * 0x4000) % 0x4000 = 0x20
  omega

section
variable (h : s.sameBut t x)
include h

theorem sameBut_reg {k : Nat} (hk : k % 0x4000 ≠ 0x20) : t.reg k = s.reg k := (h.2.2 k).resolve_right (mt countsAt_key hk)

theorem sameBut_get {f : Field} (hf : f.key % 0x4000 ≠ 0x20) : t.get f = s.get f := by unfold State.get; rw [sameBut_reg h hf]

theorem sameBut_flag {f : Field} (hf : f.key % 0x4000 ≠ 0x20) : t.flag f = s.flag f := by unfold State.flag; rw [sameBut_get h hf]

theorem sameBut_raw : t.raw = max s.raw (s.issueAt x) := by rw [h.1]
theorem sameBut_seqMem : t.seqMem = s.seqMem := by rw [h.1]
theorem sameBut_seqBad : t.seqBad = s.seqBad := by rw [h.1]
theorem sameBut_mem : t.mem = s.mem := by rw [h.1]
theorem sameBut_tasks : t.tasks = s.tasks := by rw [h.1]

theorem sameBut_seqBadAt (k n : Nat) : t.seqBadAt k n = s.seqBadAt k n := by unfold State.seqBadAt; rw [sameBut_seqBad h]

end

theorem seqByte_of_seqMem (h : t.seqMem = s.seqMem) (k : Nat) : t.seqByte k = s.seqByte k := by unfold State.seqByte; rw [h]

theorem seqRd_of_seqMem (h : t.seqMem = s.seqMem) (k n : Nat) : t.seqRd k n = s.seqRd k n := by
  induction n generalizing k with
  | zero => rfl
  | succ n ih => rw [State.seqRd, State.seqRd, ih, seqByte_of_seqMem h]

theorem sameBut_seqRd (h : s.sameBut t x) (k n : Nat) : t.seqRd k n = s.seqRd k n := seqRd_of_seqMem (sameBut_seqMem h) k n

/-- The fields of a thread's registers keep clear of the counts of corrected errors. -/
theorem sameBut_dataKey (h : s.sameBut t x) (n a : Nat) : t.dataKey n a = s.dataKey n a := by
  unfold State.dataKey
  rw [sameBut_get h (show (0x20100c + n / 4 * 0x4000 + n % 4 * 0x100) % 0x4000 ≠ 0x20 by omega)]

theorem sameBut_dataLen (h : s.sameBut t x) (n : Nat) : t.dataLen n = s.dataLen n :=
  sameBut_get h (show (0x20100c + n / 4 * 0x4000 + n % 4 * 0x100) % 0x4000 ≠ 0x20 by omega)

theorem sameBut_farOk (h : s.sameBut t x) (n : Thr) (a m : Nat) : t.farOk n a m = s.farOk n a m := by
  have hwin (w : Nat) (hw : w ∈ List.range 4) : t.inFarWindow n a m w = s.inFarWindow n a m w := by
    have hw := List.mem_range.1 hw
    have hk : (0x201030 + n.val / 4 * 0x4000 + n.val % 4 * 0x100 + w * 8) % 0x4000 ≠ 0x20 := by omega
    unfold State.inFarWindow
    rw [sameBut_get h (f := R.SEQ_TH_FWIN_BASE (n.val / 4) (n.val % 4) w) hk, sameBut_get h (f := R.SEQ_TH_FWIN_SIZE (n.val / 4) (n.val % 4) w) hk]
  unfold State.farOk
  rw [Bool.eq_iff_iff, Bool.and_eq_true, Bool.and_eq_true, List.any_eq_true, List.any_eq_true]
  refine and_congr_right fun _ => exists_congr fun w => and_congr_right fun hw => ?_
  rw [hwin w hw]

/-! ### The beginning of an effect, and a completion after it -/

/-- A state in which the effect of an instruction begins: nothing but a count of corrected errors has changed, and RUNCOUNT counts the instruction. -/
structure State.Begins (s : State) (x : Issue) (u : State) : Prop where
  same : s.sameBut u x
  own : u.own x = { s.own x with runcount := (s.own x).runcount + 1 }

theorem begins_issuing (s : State) (x : Issue) : s.Begins x (s.issuing x) := ⟨sameBut_issuing s x, issuing_own s x⟩

@[simp] theorem withEcc_agent (x : Issue) (ecc : Check) : (withEcc x ecc).agent = x.agent := by unfold withEcc; split <;> rfl

theorem own_withEcc (s : State) (x : Issue) (ecc : Check) : s.own (withEcc x ecc) = s.own x := by rw [State.own, withEcc_agent]; rfl

theorem issueAt_withEcc (s : State) (x : Issue) (ecc : Check) : s.issueAt (withEcc x ecc) = s.issueAt x := by unfold withEcc; split <;> rfl

theorem countsAt_withEcc {ecc : Check} {k : Nat} (h : countsAt x k) : countsAt (withEcc x ecc) k := by
  unfold withEcc
  split
  · exact ⟨rfl, h.2⟩
  · exact h

/-- A corrected error that the access finds is counted where one found at the fetch is. -/
theorem sameBut_corrected (h : s.sameBut u x) (ecc : Check) : s.sameBut (u.corrected x.agent ecc) (withEcc x ecc) := by
  refine ⟨?_, fun j hj => ?_, fun k => ?_⟩
  · rw [corrected_eq, h.1, issueAt_withEcc]
  · rw [withEcc_agent] at hj
    have hturn : (u.corrected x.agent ecc).turn j = u.turn j := by rw [corrected_eq]; rfl
    rw [corrected_thr, hturn]
    exact h.2.1 j hj
  · have hstep := corrected_reg u { x with code := ecc } k
    refine (h.2.2 k).elim (fun hk => ?_) fun hk => .inr (countsAt_withEcc hk)
    refine hstep.imp (·.trans hk) fun hc => ?_
    obtain ⟨hecc, hn⟩ := hc
    have hecc : ecc = .corrected := hecc
    rw [hecc, withEcc, if_pos rfl]
    exact ⟨rfl, hn⟩

theorem State.Begins.corrected (h : s.Begins x u) (ecc : Check) : s.Begins (withEcc x ecc) (u.corrected x.agent ecc) :=
  ⟨sameBut_corrected h.same ecc, by rw [own_withEcc, own_withEcc, ← h.own]; exact corrected_thr ..⟩

theorem State.Begins.retire (h : s.Begins x u) (c : Nat) (f : Thread → Thread) :
    (u.retire (agentIx x.agent) c f).own x =
      f { s.own x with
        pc := ((s.own x).pc + 4) % 2 ^ 64, instret := (s.own x).instret + 1, cycles := (s.own x).cycles + c, runcount := (s.own x).runcount + 1 } ∧
    s.sameBut (u.retire (agentIx x.agent) c f) x := by
  have hown : u.thr (agentIx x.agent) = _ := h.own
  refine ⟨?_, sameBut_moves _ _ _ _ (sameBut_setThr _ _ _ _ h.same) (hold_movesTurn ..)⟩
  rw [State.own, retire_own, hown]

theorem State.Begins.retireRd (h : s.Begins x u) (c rd : Nat) (v : Word) :
    (u.retireRd (agentIx x.agent) c rd v).own x = (s.own x).completed c rd v ∧ s.sameBut (u.retireRd (agentIx x.agent) c rd v) x :=
  ⟨(movesTurn_own (later_movesTurn ..)).trans (h.retire c _).1, sameBut_moves _ _ _ _ (h.retire c _).2 (later_movesTurn ..)⟩

/-! ### The same of an instruction that acts on the sequencer memories -/

theorem sameButSeq_of_sameBut (h : s.sameBut t x) : s.sameButSeq t x := ⟨by rw [h.1], h.2.1, h.2.2⟩

theorem sameButSeq_setThr (h : s.sameButSeq t x) (v : Thread) : s.sameButSeq (t.setThr (agentIx x.agent) v) x := by
  obtain ⟨hother, hthr, hreg⟩ := h
  refine ⟨by rw [hother]; rfl, fun j hj => ⟨?_, ?_⟩, hreg⟩
  · rw [thr_setThr_other _ _ _ _ hj]; exact (hthr j hj).1
  · rw [setThr_turn]; exact (hthr j hj).2

theorem sameButSeq_moves (h : s.sameButSeq t x) (m : t.movesTurn u (agentIx x.agent)) : s.sameButSeq u x := by
  obtain ⟨hother, hthr, hreg⟩ := h
  refine ⟨by rw [m.1, hother], fun j hj => ⟨?_, ?_⟩, fun k => ?_⟩
  · rw [movesTurn_thr m]; exact (hthr j hj).1
  · rw [m.2 j hj]; exact (hthr j hj).2
  · rw [m.1]; exact hreg k

theorem sameButSeq_seq (h : s.sameButSeq t x) (hu : u = { t with seqMem := u.seqMem, seqBad := u.seqBad }) : s.sameButSeq u x := by
  obtain ⟨hother, hthr, hreg⟩ := h
  rw [hu]
  exact ⟨by rw [hother], hthr, hreg⟩

theorem sameButSeq_retire (h : s.sameButSeq t x) (c : Nat) (f : Thread → Thread) : s.sameButSeq (t.retire (agentIx x.agent) c f) x :=
  sameButSeq_moves (sameButSeq_setThr h _) (hold_movesTurn ..)

end Sys2Proof.Machine
end

section
/-! The bytes of the sequencer memories after a store (00_scope.md R5; 03_morop.md R125). -/

namespace Sys2Proof.Machine

variable (s : State)

theorem seqWr_eq (k n v : Nat) : s.seqWr k n v = { s with seqMem := (s.seqWr k n v).seqMem } := by
  induction n generalizing s k v with
  | zero => rfl
  | succ n ih => rw [State.seqWr, ih]; rfl

theorem seqByte_seqWr (k n v j : Nat) :
    (s.seqWr k n v).seqByte j = if k ≤ j ∧ j < k + n then BitVec.ofNat 8 (v / 256 ^ (j - k)) else s.seqByte j := by
  induction n generalizing s k v with
  | zero => rw [if_neg (by omega)]; rfl
  | succ n ih =>
    rw [State.seqWr, ih, seqByte_setSeqByte]
    by_cases hk : j = k
    · rw [if_neg (by omega), if_pos hk, if_pos (by omega), hk, Nat.sub_self, pow_zero, Nat.div_one]
    · rw [if_neg hk]
      by_cases hj : k + 1 ≤ j ∧ j < k + 1 + n
      · rw [if_pos hj, if_pos (by omega), Nat.div_div_eq_div_mul, ← pow_succ', show j - (k + 1) + 1 = j - k by omega]
      · rw [if_neg hj, if_neg (by omega)]

/-- The n bytes stored are those of the value's low part. -/
theorem byte_mod {n i : Nat} (v : Nat) (h : i < n) : BitVec.ofNat 8 (v % 256 ^ n / 256 ^ i) = BitVec.ofNat 8 (v / 256 ^ i) := by
  rw [← leBytes_getD v h, ← leBytes_getD (v % 256 ^ n) h, leBytes_mod]

theorem storeData_eq (k n v : Nat) :
    s.storeData k n v = { s with seqMem := (s.storeData k n v).seqMem, seqBad := (s.storeData k n v).seqBad } := by
  unfold State.storeData
  dsimp only
  split <;> rw [seqWr_eq]

theorem storeData_seqMem (k n v : Nat) : (s.storeData k n v).seqMem = (s.seqWr k n v).seqMem := by
  unfold State.storeData
  dsimp only
  split <;> rfl

@[simp] theorem storeData_thr (k n v i : Nat) : (s.storeData k n v).thr i = s.thr i := by rw [storeData_eq]; rfl

theorem storeData_seqBad (k n v w : Nat) : w ∈ (s.storeData k n v).seqBad ↔ w ∈ s.seqBad ∧ ¬(n = 8 ∧ w = k / 8) := by
  have hbad : (s.seqWr k n v).seqBad = s.seqBad := by rw [seqWr_eq]
  unfold State.storeData
  dsimp only
  split
  · next h => rw [List.mem_filter, hbad]; simp [h]
  · next h => rw [hbad]; simp [h]

/-- A store of a value's low n bytes. -/
theorem storeData_stored (k n v : Nat) : Sys2Proof.Spec.stored s (s.storeData k n (v % 256 ^ n)) k n v := by
  refine ⟨fun j => ?_, fun w => storeData_seqBad ..⟩
  rw [seqByte_of_seqMem (storeData_seqMem ..), seqByte_seqWr]
  split
  · next h => exact byte_mod v (by omega)
  · rfl

variable {s} in
/-- What is stored depends on the sequencer memories alone. -/
theorem stored_congr {s' t t' : State} {k n v : Nat} (h : Sys2Proof.Spec.stored s t k n v) (hm : s.seqMem = s'.seqMem) (hb : s.seqBad = s'.seqBad)
    (hm' : t'.seqMem = t.seqMem) (hb' : t'.seqBad = t.seqBad) : Sys2Proof.Spec.stored s' t' k n v := by
  refine ⟨fun j => ?_, fun w => ?_⟩
  · rw [seqByte_of_seqMem hm', h.1 j, seqByte_of_seqMem hm]
  · rw [hb', h.2 w, hb]

end Sys2Proof.Machine
end

section
/-! Reports whose suspect is a thread, a management core or nothing that can be isolated: they leave the memories, and of the contexts and cores they
change only what an isolation and an interrupt line change (03_morop.md R124, R134; 17_sieve.md R634 to R645). -/

namespace Sys2Proof.Machine

/-- `t` is `s` after reports: the memories are as they were, a thread of `P` may have been isolated, and of a core only HELD and the pending lines may
have changed. -/
structure State.Reported (P : Nat → Prop) (s t : State) : Prop where
  mem : t.mem = s.mem
  seqMem : t.seqMem = s.seqMem
  seqBad : t.seqBad = s.seqBad
  thr : ∀ j, t.thr j = s.thr j ∨ P j ∧ t.thr j = { s.thr j with st := .trapped, wait := none, block := .none }
  core : ∀ j, ∃ h l, t.core j = { s.core j with held := h, linePend := l }

/-- A suspect whose isolation, if there is one, is that of a thread of `P` or of a core. -/
def Mild (P : Nat → Prop) (sus : Nat) : Prop := (sus / 4096 = kThread ∧ P (sus % 4096)) ∨ sus / 4096 = kCore ∨ isolable sus = false

variable {P : Nat → Prop} {s t u : State}

theorem State.Reported.of_eq (mem : t.mem = s.mem) (seqMem : t.seqMem = s.seqMem) (seqBad : t.seqBad = s.seqBad) (threads : t.threads = s.threads)
    (cores : t.cores = s.cores) : s.Reported P t where
  mem := mem
  seqMem := seqMem
  seqBad := seqBad
  thr j := .inl (by unfold State.thr; rw [threads])
  core j := ⟨(s.core j).held, (s.core j).linePend, by unfold State.core; rw [cores]⟩

theorem State.Reported.refl : s.Reported P s := .of_eq rfl rfl rfl rfl rfl

theorem State.Reported.trans (h : s.Reported P t) (g : t.Reported P u) : s.Reported P u where
  mem := g.mem.trans h.mem
  seqMem := g.seqMem.trans h.seqMem
  seqBad := g.seqBad.trans h.seqBad
  thr j := by
    rcases g.thr j with hg | ⟨hP, hg⟩
    · rw [hg]; exact h.thr j
    · refine .inr ⟨hP, ?_⟩
      rcases h.thr j with hh | ⟨-, hh⟩ <;> rw [hg, hh]
  core j := by
    obtain ⟨a, b, hab⟩ := h.core j
    obtain ⟨c, d, hcd⟩ := g.core j
    exact ⟨c, d, by rw [hcd, hab]⟩

theorem State.Reported.ite {c : Prop} [Decidable c] (ht : s.Reported P t) (hu : s.Reported P u) : s.Reported P (if c then t else u) := by
  split <;> assumption

theorem State.Reported.foldl {α : Type} {f : State → α → State} (h : ∀ (s : State) a, s.Reported P (f s a)) (l : List α) (s : State) :
    s.Reported P (l.foldl f s) := by
  induction l generalizing s with
  | nil => exact .refl
  | cons a l ih => exact (h s a).trans (ih _)

theorem setReg_reported {k : Nat} {v : Word} : s.Reported P (s.setReg k v) := .of_eq rfl rfl rfl rfl rfl

theorem set_reported {f : Field} {x : Nat} : s.Reported P (s.set f x) := setReg_reported

theorem incSat_reported {f : Field} : s.Reported P (s.incSat f) := .ite set_reported .refl

theorem emit_reported {o : Output} : s.Reported P (s.emit o) := .of_eq rfl rfl rfl rfl rfl

theorem setCore_reported {k : Nat} {h : Bool} {l : Nat} : s.Reported P (s.setCore k { s.core k with held := h, linePend := l }) :=
  { (State.Reported.refl : s.Reported P s) with
    thr := fun j => .inl (setCore_thr ..)
    core := fun j => by
      by_cases hj : j = k
      · subst hj; exact ⟨h, l, core_setCore_same ..⟩
      · exact ⟨_, _, core_setCore_other _ _ _ _ hj⟩ }

theorem raiseLine_reported {k l : Nat} : s.Reported P (s.raiseLine k l) := .ite .refl setCore_reported

theorem raiseLines_reported {l : Nat} : s.Reported P (s.raiseLines l) :=
  ((raiseLine_reported.trans raiseLine_reported).trans raiseLine_reported).trans raiseLine_reported

theorem msix_reported {v : Nat} : s.Reported P (s.msix v) := .ite (.ite (.of_eq rfl rfl rfl rfl rfl) emit_reported) .refl

theorem signal_reported {was : Bool} {v : Nat} : s.Reported P (s.signal was v) := by
  unfold State.signal
  extract_lets s1
  have h1 : s.Reported P s1 := .ite raiseLines_reported .refl
  exact h1.trans (.ite msix_reported .refl)

theorem countReport_reported {n : Nat} : s.Reported P (s.countReport n) := set_reported.trans incSat_reported

theorem refreshClass_reported {c : Nat} : s.Reported P (s.refreshClass c) := ((set_reported.trans set_reported).trans set_reported).trans set_reported

theorem haltDevice_reported {r : SieveRec} : s.Reported P (s.haltDevice r) := by
  unfold State.haltDevice
  extract_lets s1 s2 s3
  have h2 : s.Reported P s2 := set_reported.trans incSat_reported
  have h3 : s2.Reported P s3 := .ite .refl (.trans (.foldl (fun _ _ => set_reported) _ _) set_reported)
  exact (h2.trans h3).trans emit_reported

theorem postCh_reported {ch e : Nat} : s.Reported P (s.postCh ch e) := by
  unfold State.postCh
  split
  · exact .of_eq rfl rfl rfl rfl rfl
  · exact .refl

theorem postFault_reported {sus : Nat} : s.Reported P (s.postFault sus) := .foldl (fun _ _ => postCh_reported) _ _

theorem isolate_reported {sus : Nat} (h : (sus / 4096 = kThread ∧ P (sus % 4096)) ∨ sus / 4096 = kCore) : s.Reported P (s.isolate sus) := by
  unfold State.isolate
  rcases h with ⟨hk, hP⟩ | hk <;> rw [hk]
  · exact { (State.Reported.refl : s.Reported P s) with
      thr := fun j => by
        by_cases hj : j = sus % 4096
        · subst hj; exact .inr ⟨hP, thr_setThr_same ..⟩
        · exact .inl (thr_setThr_other _ _ _ _ hj) }
  · exact setCore_reported (l := (s.core (sus % 4096)).linePend)

theorem act_reported {r : SieveRec} (hr : Mild P r.suspect) : s.Reported P (s.act r) := by
  unfold State.act
  split
  · exact .refl
  · split
    · split
      · next hi =>
        refine (isolate_reported ?_).trans postFault_reported
        rcases hr with hk | hk | hk
        · exact .inl hk
        · exact .inr hk
        · rw [hk] at hi; exact absurd hi (by decide)
      · exact .refl
    · exact haltDevice_reported
    · exact .refl

theorem foldIn_reported {sev cls i : Nat} {r : SieveRec} (hr : Mild P r.suspect) : s.Reported P (s.foldIn sev cls i r) := by
  unfold State.foldIn
  extract_lets d up r' s1 s2
  have h1 : s.Reported P s1 := .of_eq rfl rfl rfl rfl rfl
  have h2 : s1.Reported P s2 := set_reported.trans refreshClass_reported
  exact (h1.trans h2).trans (.ite ((act_reported (r := r') hr).trans signal_reported) .refl)

theorem pushRec_reported {r : SieveRec} : s.Reported P (s.pushRec r) := by
  unfold State.pushRec
  extract_lets tail s1 s2
  have h1 : s.Reported P s1 := .of_eq rfl rfl rfl rfl rfl
  have h2 : s1.Reported P s2 := set_reported.trans set_reported
  exact ((h1.trans h2).trans (.ite set_reported .refl)).trans refreshClass_reported

theorem newRec_reported {r : SieveRec} (hr : Mild P r.suspect) : s.Reported P (s.newRec r) := by
  unfold State.newRec
  extract_lets s1
  have h1 : s.Reported P s1 := .ite set_reported pushRec_reported
  exact (h1.trans (act_reported hr)).trans signal_reported

theorem makeRec_reported {source sev cls sus : Nat} {d : Word} {inj : Bool} (hs : Mild P sus) :
    s.Reported P (s.makeRec source sev cls sus d inj) := by
  unfold State.makeRec
  cases e : s.foldTarget cls sus inj with
  | none => exact newRec_reported hs
  | some p => exact foldIn_reported (foldTarget_sus _ _ _ _ _ e ▸ hs)

theorem reportOne_reported {source sus : Nat} {d : Word} {inj : Bool} (hs : Mild P sus) : s.Reported P (s.reportOne source sus d inj) :=
  (countReport_reported (n := source)).trans (makeRec_reported hs)

/-- The report that a full ring makes names no suspect. -/
theorem mild_zero : Mild P 0 := .inr (.inr rfl)

theorem report_reported {source sus : Nat} {d : Word} {inj : Bool} (hs : Mild P sus) : s.Reported P (s.report source sus d inj) := by
  unfold State.report
  extract_lets lost s1
  have h1 : s.Reported P s1 := reportOne_reported hs
  exact h1.trans (.ite (set_reported.trans (reportOne_reported mild_zero)) .refl)

/-! ### Suspects -/

theorem mild_thread {n : Nat} (hn : n < 4096) (hP : P n) : Mild P (suspect kThread n) :=
  .inl ⟨by unfold suspect; omega, by rwa [show suspect kThread n % 4096 = n by unfold suspect; omega]⟩

theorem mild_core {k : Nat} (hk : k < 4096) : Mild P (suspect kCore k) := .inr (.inl (by unfold suspect; omega))

theorem mild_block {b : Nat} (hb : b < 4096) : Mild P (suspect kBlock b) := by
  refine .inr (.inr ?_)
  have hk : suspect kBlock b / 4096 = 1 := by simp only [suspect, kBlock]; omega
  simp [isolable, hk]

/-- Where no thread may be isolated, every context is as it was. -/
theorem State.Reported.thr_eq (h : s.Reported (fun _ => False) t) (j : Nat) : t.thr j = s.thr j := (h.thr j).resolve_right fun hj => hj.1

theorem requesterBlock_lt {q : Requester} (h : ∀ b, q ≠ .unit b) : requesterBlock q < 4096 := by
  cases q with
  | unit b => exact absurd rfl (h b)
  | host => exact (by decide : (0x0007 : Nat) < 4096)
  | recipe n => exact (by decide : (0x000A : Nat) < 4096)
  | mpc k => exact (by decide : (0x0008 : Nat) < 4096)

theorem addrError_reported {q : Requester} (h : ∀ b, q ≠ .unit b) : s.Reported P (s.addrError q) := report_reported (mild_block (requesterBlock_lt h))

/-! ### Traps -/

theorem notice_mem {kind : Nat} : (s.notice kind).mem = s.mem := notice_mems (P := fun m _ => m = s.mem) |>.2 rfl
theorem notice_seqMem {kind : Nat} : (s.notice kind).seqMem = s.seqMem := notice_mems (P := fun _ q => q = s.seqMem) |>.2 rfl

theorem raiseLine_seqBad {k l : Nat} : (s.raiseLine k l).seqBad = s.seqBad := (raiseLine_reported (P := fun _ => False)).seqBad

theorem notice_seqBad {kind : Nat} : (s.notice kind).seqBad = s.seqBad := raiseLine_seqBad

/-- A trap is noted: the thread may be isolated, and nothing of the memories changes. -/
theorem noteTrap_memories {n cause : Nat} {v : Word} (hn : n < 256) :
    (s.noteTrap n cause v).mem = s.mem ∧ (s.noteTrap n cause v).seqMem = s.seqMem ∧ (s.noteTrap n cause v).seqBad = s.seqBad := by
  unfold State.noteTrap
  extract_lets ch s1 s2
  have h2 : s.Reported (· = n) s2 := .trans (.ite incSat_reported .refl) (report_reported (mild_thread (by omega) rfl))
  have h3 : (s2.notice 0).Reported (· = n) ((s2.notice 0).raiseLines 3) := raiseLines_reported
  exact ⟨h3.mem.trans (notice_mem.trans h2.mem), h3.seqMem.trans (notice_seqMem.trans h2.seqMem), h3.seqBad.trans (notice_seqBad.trans h2.seqBad)⟩

/-- The contexts of threads after a trap has been noted. -/
theorem noteTrap_thr {n cause : Nat} {v : Word} (hn : n < 256) {j : Nat} (hj : j < 256) :
    (s.noteTrap n cause v).thr j = s.thr j ∨
      j = n ∧ (s.noteTrap n cause v).thr j = { s.thr j with st := .trapped, wait := none, block := .none } := by
  unfold State.noteTrap
  extract_lets ch s1 s2
  have h2 : s.Reported (· = n) s2 := .trans (.ite incSat_reported .refl) (report_reported (mild_thread (by omega) rfl))
  rw [raiseLines_thr, notice_thr _ _ _ hj]
  exact h2.thr j

theorem trapThread_memories (s : State) {n : Nat} (cause : Nat) (v : Word) (hn : n < 256) : (s.trapThread n cause v).mem = s.mem ∧
    (s.trapThread n cause v).seqMem = s.seqMem ∧ (s.trapThread n cause v).seqBad = s.seqBad := noteTrap_memories hn

/-- A thread whose context is the issuing one, but for RUNCOUNT, traps. -/
theorem trapThread_trapped {v w : Thread} {n cause : Nat} {tv : Word} (hn : n < 256) (hv : u.thr n = v) (hw : ∃ c, v = { w with runcount := c }) :
    Sys2Proof.Spec.trapped w cause tv ((u.trapThread n cause tv).thr n) := by
  obtain ⟨c, hc⟩ := hw
  rw [trapThread_own _ _ _ _ hn, hv, hc]
  exact ⟨rfl, rfl, rfl, rfl, rfl, rfl, rfl⟩

theorem trap_of_thread {n : Thr} (cause : Nat) (v : Word) : s.trap n cause v = s.trapThread n cause v := if_pos n.isLt

/-- A trap of the thread that issues, in the state in which its instruction's effect begins. -/
theorem State.Begins.trapped {x : Issue} {n : Thr} (h : s.Begins x u) (hx : x.agent = .thread n) (cause : Nat) (v : Word) :
    Sys2Proof.Spec.trapped (s.own x) cause v ((u.trapThread n cause v).own x) := by
  rw [own_of_thread hx (s := u.trapThread n cause v)]
  exact trapThread_trapped n.isLt ((own_of_thread hx).symm.trans h.own) ⟨_, rfl⟩

end Sys2Proof.Machine
end

section
/-! Loads, stores and atomic operations of a thread: where an access leads, what it does there, and its traps (03_morop.md R88 to R92, R110, R125). -/

namespace Sys2Proof.Machine

variable {s t u : State} {x : Issue} {n : Thr} {rd rs1 rs2 : Reg} {imm : BitVec 16} {ecc : Check}

/-! ### Completions that a later instruction finds delayed, or that follow a store -/

theorem State.Begins.retireRd_later (h : s.Begins x u) (c rd : Nat) (v : Word) (m : Nat) :
    ((u.retireRd (agentIx x.agent) c rd v).later (agentIx x.agent) rd m).own x = (s.own x).completed c rd v ∧
    s.sameBut ((u.retireRd (agentIx x.agent) c rd v).later (agentIx x.agent) rd m) x :=
  ⟨(movesTurn_own (later_movesTurn ..)).trans (h.retireRd c rd v).1, sameBut_moves _ _ _ _ (h.retireRd c rd v).2 (later_movesTurn ..)⟩

/-- As `Begins`, after a store to the sequencer memories. -/
structure State.BeginsSeq (s : State) (x : Issue) (u : State) : Prop where
  same : s.sameButSeq u x
  own : u.own x = { s.own x with runcount := (s.own x).runcount + 1 }

theorem State.Begins.storeData (h : s.Begins x u) (k m v : Nat) : s.BeginsSeq x (u.storeData k m v) :=
  ⟨sameButSeq_seq (sameButSeq_of_sameBut h.same) (storeData_eq ..), (storeData_thr ..).trans h.own⟩

theorem State.BeginsSeq.retire (h : s.BeginsSeq x u) (c : Nat) :
    (u.retire (agentIx x.agent) c (fun t => t)).own x = (s.own x).completed c 0 0 ∧ s.sameButSeq (u.retire (agentIx x.agent) c (fun t => t)) x := by
  have hown : u.thr (agentIx x.agent) = _ := h.own
  refine ⟨?_, sameButSeq_retire h.same ..⟩
  rw [State.own, retire_own, hown]; rfl

theorem State.BeginsSeq.retireRd_later (h : s.BeginsSeq x u) (c rd : Nat) (v : Word) (m : Nat) :
    ((u.retireRd (agentIx x.agent) c rd v).later (agentIx x.agent) rd m).own x = (s.own x).completed c rd v ∧
    s.sameButSeq ((u.retireRd (agentIx x.agent) c rd v).later (agentIx x.agent) rd m) x := by
  have hown : u.thr (agentIx x.agent) = _ := h.own
  refine ⟨?_, sameButSeq_moves (sameButSeq_moves (sameButSeq_retire h.same ..) (later_movesTurn ..)) (later_movesTurn ..)⟩
  rw [movesTurn_own (later_movesTurn ..), State.retireRd, movesTurn_own (later_movesTurn ..), State.own, retire_own, hown]; rfl

theorem retire_memories (s : State) (i c : Nat) (f : Thread → Thread) :
    (s.retire i c f).seqMem = s.seqMem ∧ (s.retire i c f).seqBad = s.seqBad := by
  rw [State.retire, (hold_movesTurn ..).1]; exact ⟨rfl, rfl⟩

theorem later_memories (s : State) (i rd m : Nat) : (s.later i rd m).seqMem = s.seqMem ∧ (s.later i rd m).seqBad = s.seqBad := by
  rw [(later_movesTurn ..).1]; exact ⟨rfl, rfl⟩

theorem corrected_memories (s : State) (a : Agent) (c : Check) : (s.corrected a c).seqMem = s.seqMem ∧ (s.corrected a c).seqBad = s.seqBad := by
  rw [corrected_eq]; exact ⟨rfl, rfl⟩

/-! ### Where an access leads (R88, R89, R90) -/

section
variable {a m : Nat}

theorem space_of_data (h : Sys2Proof.Spec.inData s n a m) : s.space n a m = some (.data (s.dataKey n a)) := by
  unfold Sys2Proof.Spec.inData at h
  exact if_pos h

theorem space_of_window (h : ¬Sys2Proof.Spec.inData s n a m) (hw : Sys2Proof.Spec.inWindow s n a m) :
    s.space n a m = some (.window (ctxBase + ctxStride * (s.thr n).chan + (a - 0x10000))) := by
  unfold Sys2Proof.Spec.inData at h
  unfold Sys2Proof.Spec.inWindow at hw
  exact (if_neg h).trans (if_pos hw)

theorem space_of_neither (h : ¬Sys2Proof.Spec.inData s n a m) (hw : ¬Sys2Proof.Spec.inWindow s n a m) : s.space n a m = none := by
  unfold Sys2Proof.Spec.inData at h
  unfold Sys2Proof.Spec.inWindow at hw
  exact (if_neg h).trans (if_neg hw)

theorem reach_of_data (h : Sys2Proof.Spec.inData s n a m) (ha : a % m = 0) : s.reach n a m = .ok (.data (s.dataKey n a)) := by
  simp [State.reach, space_of_data h, ha]

theorem reach_of_window (h : ¬Sys2Proof.Spec.inData s n a m) (hw : Sys2Proof.Spec.inWindow s n a m) (ha : a % m = 0) :
    s.reach n a m = .ok (.window (ctxBase + ctxStride * (s.thr n).chan + (a - 0x10000))) := by
  simp [State.reach, space_of_window h hw, ha]

theorem reach_of_neither (h : ¬Sys2Proof.Spec.inData s n a m) (hw : ¬Sys2Proof.Spec.inWindow s n a m) : s.reach n a m = .error cBND := by
  simp [State.reach, space_of_neither h hw]

theorem reach_of_misaligned (h : Sys2Proof.Spec.inData s n a m ∨ Sys2Proof.Spec.inWindow s n a m) (ha : a % m ≠ 0) : s.reach n a m = .error cMAL := by
  by_cases hd : Sys2Proof.Spec.inData s n a m
  · simp [State.reach, space_of_data hd, ha]
  · simp [State.reach, space_of_window hd (h.resolve_left hd), ha]

theorem inData_of_begins (h : s.Begins x u) : Sys2Proof.Spec.inData u n a m ↔ Sys2Proof.Spec.inData s n a m := by
  unfold Sys2Proof.Spec.inData; rw [sameBut_dataLen h.same]

theorem State.Begins.thr_chan (h : s.Begins x u) (hx : x.agent = .thread n) : (u.thr n).chan = (s.thr n).chan := by
  have hown := h.own
  rw [own_of_thread hx, own_of_thread hx] at hown
  rw [hown]

theorem inWindow_of_begins (h : s.Begins x u) (hx : x.agent = .thread n) : Sys2Proof.Spec.inWindow u n a m ↔ Sys2Proof.Spec.inWindow s n a m := by
  unfold Sys2Proof.Spec.inWindow; rw [h.thr_chan hx]

/-! ### Accesses of the data partition -/

theorem loadThread_of_data {signed : Bool} {rd key : Nat} (hr : u.reach n a m = .ok (.data key)) (he : ecc ≠ .bad)
    (hb : u.seqBadAt key m = false) : u.loadThread n signed m rd a ecc =
      ((u.corrected (.thread n) ecc).retireRd n 1 rd (extend signed m (u.seqRd key m))).later n rd 2 := by
  unfold State.loadThread
  simp only [hr, he, hb, Bool.false_eq_true, or_self, if_false, ofNat_thr]

theorem loadThread_of_bad {signed : Bool} {rd key : Nat} (hr : u.reach n a m = .ok (.data key)) (hb : ecc = .bad ∨ u.seqBadAt key m = true) :
    u.loadThread n signed m rd a ecc = u.badData n key := by
  unfold State.loadThread
  simp only [hr]
  exact if_pos hb

theorem loadThread_of_error {signed : Bool} {rd c : Nat} (hr : u.reach n a m = .error c) :
    u.loadThread n signed m rd a ecc = u.trapThread n c (tval a) := by
  simp only [State.loadThread, hr]

theorem loadThread_of_window {signed : Bool} {rd off : Nat} (hr : u.reach n a m = .ok (.window off)) : u.loadThread n signed m rd a ecc =
    ((u.busRead (.recipe n) off m).1.retireRd n 1 rd (extend signed m ((u.busRead (.recipe n) off m).2.getD 0))).later n rd 8 := by
  simp only [State.loadThread, hr, ofNat_thr]

theorem storeThread_of_data {v key : Nat} (hr : u.reach n a m = .ok (.data key)) :
    u.storeThread n m a v = (u.storeData key m v).retire n 1 (fun t => t) := by
  simp only [State.storeThread, hr]

theorem storeThread_of_error {v c : Nat} (hr : u.reach n a m = .error c) : u.storeThread n m a v = u.trapThread n c (tval a) := by
  simp only [State.storeThread, hr]

theorem storeThread_of_window {v off : Nat} (hr : u.reach n a m = .ok (.window off)) : u.storeThread n m a v =
    (u.later4 (fun w => w.busWrite (.recipe n) noInput off m v)).retire n 1 (fun t => { t with storesUntil := u.raw + 6 }) := by
  simp only [State.storeThread, hr, ofNat_thr]; rfl

end

/-! ### The commands -/

theorem exec_load {p : (Issue → Reg → Reg → BitVec 16 → Check → Instr) × Nat × Nat × Bool} (hp : p ∈ Sys2Proof.Spec.loadTable) :
    exec (p.1 x rd rs1 imm ecc) s = loadI p.2.1 p.2.2.2 p.2.2.1 x rd rs1 imm ecc s := by
  simp only [Sys2Proof.Spec.loadTable, List.mem_cons, List.not_mem_nil, or_false] at hp
  obtain rfl | rfl | rfl | rfl | rfl := hp <;> rfl

theorem exec_store {p : (Issue → Reg → Reg → BitVec 16 → Instr) × Nat × Nat} (hp : p ∈ Sys2Proof.Spec.storeTable) :
    exec (p.1 x rd rs1 imm) s = storeI p.2.1 p.2.2 x rd rs1 imm s := by
  simp only [Sys2Proof.Spec.storeTable, List.mem_cons, List.not_mem_nil, or_false] at hp
  obtain rfl | rfl | rfl | rfl := hp <;> rfl

theorem exec_load_thread {p : (Issue → Reg → Reg → BitVec 16 → Check → Instr) × Nat × Nat × Bool} (hp : p ∈ Sys2Proof.Spec.loadTable)
    (hx : x.agent = .thread n) (h : s.issues x (encI p.2.1 rd rs1 imm)) :
    exec (p.1 x rd rs1 imm ecc) s = .next ((s.issuing x).loadThread n p.2.2.2 p.2.2.1 rd (Sys2Proof.Spec.address s x rs1 imm) ecc) := by
  rw [exec_load hp, loadI, whenIssued_of_issues _ _ _ _ h, ← addrOf_issuing, hx]

theorem exec_store_thread {p : (Issue → Reg → Reg → BitVec 16 → Instr) × Nat × Nat} (hp : p ∈ Sys2Proof.Spec.storeTable)
    (hx : x.agent = .thread n) (h : s.issues x (encI p.2.1 rd rs1 imm)) :
    exec (p.1 x rd rs1 imm) s =
      .next ((s.issuing x).storeThread n p.2.2 (Sys2Proof.Spec.address s x rs1 imm) (((s.own x).rg rd).toNat % 256 ^ p.2.2)) := by
  rw [exec_store hp, storeI, whenIssued_of_issues _ _ _ _ h, ← addrOf_issuing, ← issuing_gr, hx]

theorem exec_atomic {p : (Issue → Reg → Reg → Reg → Check → Instr) × Nat × (Word → Word → Word → Word)} (hp : p ∈ Sys2Proof.Spec.atomicTable) :
    ∃ op : MemOp, op.Updates p.2.2 ∧ exec (p.1 x rd rs1 rs2 ecc) s = atomicR p.2.1 op x rd rs1 rs2 ecc s := by
  simp only [Sys2Proof.Spec.atomicTable, List.mem_cons, List.not_mem_nil, or_false] at hp
  obtain rfl | rfl | rfl := hp
  · exact ⟨.add, add_updates, rfl⟩
  · exact ⟨.swap, swap_updates, rfl⟩
  · exact ⟨.cas, cas_updates, rfl⟩

/-- Settles O3: the access leads to the data partition, whose bytes the instruction leaves in rd. -/
theorem dataPartitionLoads : Obligations.DataPartitionLoads := by
  unfold Obligations.DataPartitionLoads
  intro p hp x n rd rs1 imm ecc s a hx hi hd ha hecc hbad
  have hb := begins_issuing s x
  have hdone := (hb.corrected ecc).retireRd_later 1 rd (Sys2Proof.Spec.loaded p.2.2.2 p.2.2.1 (s.seqRd (s.dataKey n a) p.2.2.1)) 2
  rw [own_withEcc, own_withEcc, withEcc_agent] at hdone
  refine ⟨_, (exec_load_thread hp hx hi).trans (congrArg _ ?_), hdone⟩
  rw [loadThread_of_data (reach_of_data ((inData_of_begins hb).2 hd) ha) hecc (by rwa [sameBut_dataKey hb.same, sameBut_seqBadAt hb.same]),
    sameBut_dataKey hb.same, sameBut_seqRd hb.same, extend_eq_loaded _ _ (loadTable_size hp), agentIx_of_thread hx, hx]

/-- Settles O4: the access leads to the data partition, where the store changes its own bytes. -/
theorem dataPartitionStores : Obligations.DataPartitionStores := by
  unfold Obligations.DataPartitionStores
  intro p hp x n rd rs1 imm s a hx hi hd ha
  have hb := begins_issuing s x
  have hdone := (hb.storeData (s.dataKey n a) p.2.2 (((s.own x).rg rd).toNat % 256 ^ p.2.2)).retire 1
  rw [agentIx_of_thread hx] at hdone
  refine ⟨_, (exec_store_thread hp hx hi).trans (congrArg _ ?_), hdone.1, ?_, hdone.2⟩
  · rw [storeThread_of_data (reach_of_data ((inData_of_begins hb).2 hd) ha), sameBut_dataKey hb.same]
  · obtain ⟨hmem, hbad⟩ := retire_memories ((s.issuing x).storeData (s.dataKey n a) p.2.2 (((s.own x).rg rd).toNat % 256 ^ p.2.2)) n 1 fun t => t
    exact stored_congr (storeData_stored ..) (sameBut_seqMem hb.same) (sameBut_seqBad hb.same) hmem hbad

theorem exec_atomic_thread {p : (Issue → Reg → Reg → Reg → Check → Instr) × Nat × (Word → Word → Word → Word)} (hp : p ∈ Sys2Proof.Spec.atomicTable)
    (hx : x.agent = .thread n) (h : s.issues x (encR 0x1F rd rs1 rs2 p.2.1)) :
    ∃ op : MemOp, op.Updates p.2.2 ∧ exec (p.1 x rd rs1 rs2 ecc) s =
      .next ((s.issuing x).atomicThread n op rd ((s.own x).rg rs1).toNat ((s.own x).rg rs2).toNat ecc) := by
  obtain ⟨op, hop, he⟩ := exec_atomic (x := x) (rd := rd) (rs1 := rs1) (rs2 := rs2) (ecc := ecc) (s := s) hp
  refine ⟨op, hop, he.trans ?_⟩
  rw [atomicR, whenIssued_of_issues _ _ _ _ h, issuing_gr, issuing_gr, hx]

theorem seqRd_lt (s : State) (k m : Nat) : s.seqRd k m < 256 ^ m := by
  induction m generalizing k with
  | zero => exact Nat.one_pos
  | succ m ih =>
    have hbyte := (s.seqByte k).isLt
    have hrest := ih (k + 1)
    rw [State.seqRd, pow_succ']
    omega

/-- Eight bytes of sequencer memory are a word. -/
theorem seqRd_word (s : State) (k : Nat) : (BitVec.ofNat 64 (s.seqRd k 8)).toNat = s.seqRd k 8 := Nat.mod_eq_of_lt (seqRd_lt s k 8)

/-- What an atomic operation leaves in memory, of words. -/
theorem atomic_of_updates {op : MemOp} {f : Word → Word → Word → Word} (h : op.Updates f) (m b d : Word) :
    atomic op m.toNat b.toNat d.toNat = (f m b d).toNat := by
  have hrun := h m b d
  cases op with
  | load signed => simp [MemOp.run] at hrun
  | store => simp [MemOp.run] at hrun
  | add => exact Option.some.inj (Prod.mk.inj hrun).2
  | swap => exact Option.some.inj (Prod.mk.inj hrun).2
  | cas => exact Option.some.inj (Prod.mk.inj hrun).2

theorem atomicThread_of_word {op : MemOp} {a b rd : Nat} (hd : Sys2Proof.Spec.inData u n a 8) (ha : a % 8 = 0) (he : ecc ≠ .bad)
    (hb : u.seqBadAt (u.dataKey n a) 8 = false) : u.atomicThread n op rd a b ecc =
      (((u.corrected (.thread n) ecc).storeData (u.dataKey n a) 8 (atomic op (u.seqRd (u.dataKey n a) 8) b ((u.thr n).rg rd).toNat)).retireRd n 2 rd
        (BitVec.ofNat 64 (u.seqRd (u.dataKey n a) 8))).later n rd 3 := by
  have hlen : ¬u.dataLen n < a + 8 := Nat.not_lt.2 hd
  unfold State.atomicThread
  simp only [if_neg hlen, ha, ne_eq, not_true_eq_false, if_false, he, hb, Bool.false_eq_true, or_self, ofNat_thr]

/-- Settles O5: the word is read, the operation's word stored over it, and the word read left in rd. -/
theorem atomicOperations : Obligations.AtomicOperations := by
  unfold Obligations.AtomicOperations
  intro p hp x n rd rs1 rs2 ecc s a m hx hi hd ha hecc hbad
  obtain ⟨op, hop, hexec⟩ := exec_atomic_thread (ecc := ecc) hp hx hi
  have hb := begins_issuing s x
  have hrd : ((s.issuing x).thr n).rg rd = (s.own x).rg rd := by rw [← agentIx_of_thread hx]; exact issuing_gr s x rd
  set w := p.2.2 m ((s.own x).rg rs2) ((s.own x).rg rd)
  have hw : atomic op (s.seqRd (s.dataKey n a) 8) ((s.own x).rg rs2).toNat ((s.own x).rg rd).toNat = w.toNat % 256 ^ 8 := by
    rw [← seqRd_word, atomic_of_updates hop]
    exact (Nat.mod_eq_of_lt w.isLt).symm
  have hdone := ((hb.corrected ecc).storeData (s.dataKey n a) 8 (w.toNat % 256 ^ 8)).retireRd_later 2 rd m 3
  rw [own_withEcc, own_withEcc, withEcc_agent, agentIx_of_thread hx, hx] at hdone
  refine ⟨_, hexec.trans (congrArg _ ?_), hdone.1, ?_, hdone.2⟩
  · rw [atomicThread_of_word ((inData_of_begins hb).2 hd) ha hecc (by rwa [sameBut_dataKey hb.same, sameBut_seqBadAt hb.same]), hrd,
      sameBut_dataKey hb.same, sameBut_seqRd hb.same, hw]
  · obtain ⟨hmem, hseqBad⟩ := corrected_memories (s.issuing x) (.thread n) ecc
    refine stored_congr (storeData_stored ..) (hmem.trans (sameBut_seqMem hb.same)) (hseqBad.trans (sameBut_seqBad hb.same)) ?_ ?_
    · rw [(later_memories ..).1, State.retireRd, (later_memories ..).1, (retire_memories ..).1]
    · rw [(later_memories ..).2, State.retireRd, (later_memories ..).2, (retire_memories ..).2]

/-- Settles O6: the access leads to the channel's window, and is one of the register region. -/
theorem contextWindowAccesses : Obligations.ContextWindowAccesses := by
  unfold Obligations.ContextWindowAccesses
  intro x n rd rs1 imm s hx a off u
  have hb := begins_issuing s x
  have hoff : ctxBase + ctxStride * ((s.issuing x).thr n).chan + (a - 0x10000) = off := by rw [hb.thr_chan hx, ← own_of_thread hx]
  refine ⟨fun p hp ecc hi hd hw ha => ?_, fun p hp hi hd hw ha => ?_⟩
  · have hreach := reach_of_window (mt (inData_of_begins hb).1 hd) ((inWindow_of_begins hb hx).2 hw) ha
    rw [exec_load_thread hp hx hi, loadThread_of_window hreach, hoff, extend_eq_loaded _ _ (loadTable_size hp)]
  · have hreach := reach_of_window (mt (inData_of_begins hb).1 hd) ((inWindow_of_begins hb hx).2 hw) ha
    rw [exec_store_thread hp hx hi, storeThread_of_window hreach, hoff]

end Sys2Proof.Machine
end

section
/-! Traps of a thread's accesses, and far accesses: the instruction blocks its agent, and FAR_ACCESS_COMPLETE makes the access (03_morop.md R89, R90, R94,
R95, R110). -/

namespace Sys2Proof.Machine

variable {s t u : State} {x : Issue} {n : Thr} {rd rs1 rs2 : Reg} {imm : BitVec 16} {ecc : Check} {w : Nat}

/-! ### An instruction whose effect is a trap -/

/-- A command whose instruction traps its thread at once: the context is as R124 says, and the memories are as they were. -/
theorem traps_of_exec {o : Out} {cause : Nat} {v : Word} (hx : x.agent = .thread n) (he : o = .next ((s.issuing x).trapThread n cause v)) :
    ∃ t, o = .next t ∧ Sys2Proof.Spec.trapped (s.own x) cause v (t.own x) ∧ t.seqMem = s.seqMem ∧ t.mem = s.mem := by
  have hb := begins_issuing s x
  obtain ⟨hmem, hseqMem, -⟩ := trapThread_memories (s.issuing x) cause v n.isLt
  exact ⟨_, he, hb.trapped hx cause v, hseqMem.trans (sameBut_seqMem hb.same), hmem.trans (sameBut_mem hb.same)⟩

/-! ### Far instructions -/

theorem exec_far {p : (Issue → Reg → Reg → BitVec 16 → Instr) × Nat × Nat × Bool} (hp : p ∈ Sys2Proof.Spec.farTable) :
    exec (p.1 x rd rs1 imm) s = farI p.2.1 (if p.2.2.2 then .store else .load false) p.2.2.1 x rd rs1 imm s := by
  simp only [Sys2Proof.Spec.farTable, List.mem_cons, List.not_mem_nil, or_false] at hp
  obtain rfl | rfl | rfl | rfl := hp <;> rfl

section
variable {opcode m : Nat} {op : MemOp}

theorem farI_of_refused (hx : x.agent = .thread n) (h : s.issues x (encI opcode rd rs1 imm))
    (hf : s.farOk n (Sys2Proof.Spec.address s x rs1 imm) m = false) :
    farI opcode op m x rd rs1 imm s = .next ((s.issuing x).trapThread n cFPM (tval (Sys2Proof.Spec.address s x rs1 imm))) := by
  have hf' := (sameBut_farOk (sameBut_issuing s x) n (Sys2Proof.Spec.address s x rs1 imm) m).trans hf
  have hlt : agentIx x.agent < 256 := by rw [agentIx_of_thread hx]; exact n.isLt
  rw [farI, whenIssued_of_issues _ _ _ _ h]
  simp only [addrOf_issuing]
  rw [if_pos ⟨hlt, by rw [agentIx_of_thread hx, hf']; rfl⟩, agentIx_of_thread hx, trap_of_thread]

/-- A far access that FPM does not refuse: a thread's lies in its far windows. -/
theorem farI_of_allowed (h : s.issues x (encI opcode rd rs1 imm))
    (hf : ∀ n, x.agent = .thread n → s.farOk n (Sys2Proof.Spec.address s x rs1 imm) m = true) :
    farI opcode op m x rd rs1 imm s = .next (
      if Sys2Proof.Spec.address s x rs1 imm % m ≠ 0 then (s.issuing x).trap (agentIx x.agent) cMAL (tval (Sys2Proof.Spec.address s x rs1 imm))
      else (s.issuing x).blockOn (agentIx x.agent) 1 (.far op m rd (Sys2Proof.Spec.address s x rs1 imm) ((s.own x).rg rd))) := by
  have hno : ¬(agentIx x.agent < 256 ∧ (!(s.issuing x).farOk (agentIx x.agent) (Sys2Proof.Spec.address s x rs1 imm) m) = true) := by
    rintro ⟨hlt, hfar⟩
    cases hx : x.agent with
    | thread n => rw [agentIx_of_thread hx, sameBut_farOk (sameBut_issuing s x), hf n hx] at hfar; exact absurd hfar (by decide)
    | core k => rw [agentIx_of_core hx] at hlt; omega
  rw [farI, whenIssued_of_issues _ _ _ _ h]
  simp only [addrOf_issuing, issuing_gr]
  rw [if_neg hno]

end

/-- Settles O7: the access leads nowhere (BND, FPM) or is misaligned (MAL), so its effect is the trap. -/
theorem accessTraps : Obligations.AccessTraps := by
  unfold Obligations.AccessTraps
  intro x n rd rs1 imm s hx a traps
  have hb := begins_issuing s x
  have hspaces (m : Nat) : (Sys2Proof.Spec.inData s n a m ∨ Sys2Proof.Spec.inWindow s n a m) →
      Sys2Proof.Spec.inData (s.issuing x) n a m ∨ Sys2Proof.Spec.inWindow (s.issuing x) n a m :=
    Or.imp (inData_of_begins hb).2 (inWindow_of_begins hb hx).2
  refine ⟨fun p hp ecc hi => ⟨fun hd hw => traps_of_exec hx ?_, fun hs ha => traps_of_exec hx ?_⟩,
    fun p hp hi => ⟨fun hd hw => traps_of_exec hx ?_, fun hs ha => traps_of_exec hx ?_⟩,
    fun p hp hi => ⟨fun hf => traps_of_exec hx ?_, fun hf ha => traps_of_exec hx ?_⟩⟩
  · rw [exec_load_thread hp hx hi, loadThread_of_error (reach_of_neither (mt (inData_of_begins hb).1 hd) (mt (inWindow_of_begins hb hx).1 hw))]; rfl
  · rw [exec_load_thread hp hx hi, loadThread_of_error (reach_of_misaligned (hspaces _ hs) ha)]; rfl
  · rw [exec_store_thread hp hx hi, storeThread_of_error (reach_of_neither (mt (inData_of_begins hb).1 hd) (mt (inWindow_of_begins hb hx).1 hw))]; rfl
  · rw [exec_store_thread hp hx hi, storeThread_of_error (reach_of_misaligned (hspaces _ hs) ha)]; rfl
  · rw [exec_far hp, farI_of_refused hx hi hf]; rfl
  · rw [exec_far hp, farI_of_allowed hi (fun k hk => ?_), if_pos ha, agentIx_of_thread hx, trap_of_thread]; rfl
    obtain rfl : n = k := by rw [hx] at hk; exact Agent.thread.inj hk
    exact hf

/-! ### FAR_ACCESS_COMPLETE -/

/-- The agent's context as an issue that ends in waiting leaves it. -/
theorem State.Begins.blockOn (h : s.Begins x u) (c : Nat) (b : Block) :
    s.sameBut (u.blockOn (agentIx x.agent) c b) x ∧ (u.blockOn (agentIx x.agent) c b).own x =
      { s.own x with st := .blocked, block := b, cycles := (s.own x).cycles + c, runcount := (s.own x).runcount + 1 } := by
  have hown : u.thr (agentIx x.agent) = _ := h.own
  refine ⟨sameBut_moves _ _ _ _ (sameBut_setThr _ _ _ _ h.same) (hold_movesTurn ..), ?_⟩
  rw [State.blockOn, movesTurn_own (hold_movesTurn ..), State.own, thr_setThr_same, hown]

theorem byte_wr (s : State) (a n v b : Nat) :
    (s.wr a n v).byte b = if a ≤ b ∧ b < a + n then BitVec.ofNat 8 (v / 256 ^ (b - a)) else s.byte b := by
  induction n generalizing s a v with
  | zero => rw [if_neg (by omega)]; rfl
  | succ n ih =>
    rw [State.wr, ih, byte_setByte]
    by_cases hb : b = a
    · rw [if_neg (by omega), if_pos hb, if_pos (by omega), hb, Nat.sub_self, pow_zero, Nat.div_one]
    · rw [if_neg hb]
      by_cases hin : a + 1 ≤ b ∧ b < a + 1 + n
      · rw [if_pos hin, if_pos (by omega), Nat.div_div_eq_div_mul, ← pow_succ', show b - (a + 1) + 1 = b - a by omega]
      · rw [if_neg hin, if_neg (by omega)]

theorem rd_of_mem (h : t.mem = s.mem) (a n : Nat) : t.rd a n = s.rd a n := by
  induction n generalizing a with
  | zero => rfl
  | succ n ih => rw [State.rd, State.rd, ih, State.byte, State.byte, h]

@[simp] theorem wr_thr (s : State) (a n v i : Nat) : (s.wr a n v).thr i = s.thr i := by
  induction n generalizing s a v with
  | zero => rfl
  | succ n ih => rw [State.wr, ih]; rfl

theorem unblock_own (s : State) (i : Nat) (f : Thread → Thread) : (s.unblock i f).thr i = f { s.thr i with
    st := .runnable, block := .none, pc := ((s.thr i).pc + 4) % 2 ^ 64, instret := (s.thr i).instret + 1 } := by
  rw [State.unblock, retire_own]; rfl

theorem retire_mem (s : State) (i c : Nat) (f : Thread → Thread) : (s.retire i c f).mem = s.mem := by
  rw [State.retire, (hold_movesTurn ..).1]; rfl

theorem unblock_mem (s : State) (i : Nat) (f : Thread → Thread) : (s.unblock i f).mem = s.mem := retire_mem ..

section
variable {g : Agent} {e : EccResult} {y : AccessIn} {op : MemOp} {n rd a : Nat} {d : Word}

/-- Memory outside HBM is never asleep, and no stack is reached. -/
theorem exec_farAccessComplete (hr : s.runs g = true) (hb : (s.thr (agentIx g)).block = .far op n rd a d) (ha : inHbm a = false) :
    exec (.farAccessComplete g e y) s = .next ((s.advance y.now).farDone g op n rd a d e y) := by
  have hb' : ((s.advance y.now).thr (agentIx g)).block = .far op n rd a d := hb
  show execFarAccessComplete g e y s = _
  unfold execFarAccessComplete
  rw [if_pos hr]
  simp only [hb', State.asleep, State.touch, ha, Bool.false_and, Bool.false_eq_true, if_false]

/-- A load of shared memory outside HBM and the register region. -/
theorem farDone_load_sram (hm : mappedRange a n = true) (hregs : inRegs a = false) (ha : inHbm a = false) :
    u.farDone g (.load false) n rd a d e y = u.unblock (agentIx g) (fun t => t.wg rd (BitVec.ofNat 64 (u.rd a n))) := by
  simp [State.farDone, State.deviceRead, hm, hregs, ha, MemOp.run, extend]

/-- A store there. -/
theorem farDone_store_sram (hm : mappedRange a n = true) (hregs : inRegs a = false) (ha : inHbm a = false) :
    u.farDone g .store n rd a d e y = (u.wr a n d.toNat).unblock (agentIx g) (fun t => t) := by
  simp [State.farDone, State.writeRefused, State.deviceWrite, State.writable, hm, hregs, ha]

/-- A load where no region of R45 is. -/
theorem farDone_load_unmapped (hm : mappedRange a n = false) :
    u.farDone g (.load false) n rd a d e y = (u.addrError (requesterOf g)).trap (agentIx g) cFER (tval a) := by
  simp [State.farDone, State.deviceRead, hm]

end

/-- Settles O8: the instruction blocks its agent on the access, and the completion makes it. -/
theorem farAccesses : Obligations.FarAccesses := by
  unfold Obligations.FarAccesses
  refine ⟨?_, fun g ecc y s op n rd a d hr hb ha => ⟨fun hm hregs hop => ?_, fun hm hregs hop => ?_, fun hm hop hg => ?_⟩⟩
  · intro p hp x rd rs1 imm s hi a hf ha
    have hdone := (begins_issuing s x).blockOn 1 (.far (if p.2.2.2 then .store else .load false) p.2.2.1 rd a ((s.own x).rg rd))
    refine ⟨_, ?_, hdone.1, hdone.2⟩
    rw [exec_far hp, farI_of_allowed hi hf, if_neg (by simpa using ha)]
  · subst hop
    refine ⟨_, (exec_farAccessComplete hr hb ha).trans (congrArg _ (farDone_load_sram hm hregs ha)), unblock_mem .., ?_⟩
    rw [unblock_own, rd_of_mem (advance_mem s y.now), advance_thr]
  · subst hop
    refine ⟨_, (exec_farAccessComplete hr hb ha).trans (congrArg _ (farDone_store_sram hm hregs ha)), fun b => ?_, ?_⟩
    · rw [State.byte, unblock_mem]; exact byte_wr ..
    · rw [unblock_own, wr_thr]; rfl
  · subst hop
    obtain ⟨k, rfl⟩ := hg
    refine ⟨_, (exec_farAccessComplete hr hb ha).trans (congrArg _ (farDone_load_unmapped hm)), ?_⟩
    have herr : ((s.advance y.now).addrError (.recipe k)).thr k = s.thr k := (addrError_reported (P := fun _ => False) (fun b => by simp)).thr_eq k
    rw [show agentIx (.thread k) = k from rfl, trap_of_thread]
    exact trapThread_trapped k.isLt herr ⟨_, rfl⟩

end Sys2Proof.Machine
end

section
/-! Traps of a thread that come before any effect: illegal instructions, BKPT and TRAP, the traps of a fetch, and an uncorrectable error of a load (03_morop.md
R93, R108 to R110, R115, R124, R125, R131). -/

namespace Sys2Proof.Machine

variable {s t u : State} {x : Issue} {n : Thr} {rd rs1 rs2 : Reg} {imm : BitVec 16} {ecc : Check} {w : Nat}

/-! ### Instructions whose effect is a trap -/

theorem trapped_of_exec {o : Out} {cause : Nat} {v : Word} (hx : x.agent = .thread n) (he : o = .next ((s.issuing x).trapThread n cause v)) :
    ∃ t, o = .next t ∧ Sys2Proof.Spec.trapped (s.own x) cause v (t.own x) :=
  ⟨_, he, (begins_issuing s x).trapped hx cause v⟩

theorem illegal_of_thread (hx : x.agent = .thread n) : u.illegal x w = u.trapThread n cILL (BitVec.ofNat 64 w) := by
  rw [State.illegal, agentIx_of_thread hx, trap_of_thread]

/-- An instruction that its thread may not issue, or that is none. -/
theorem trapped_of_illegal {o : Out} (hx : x.agent = .thread n) (he : o = .next ((s.issuing x).illegal x w)) :
    ∃ t, o = .next t ∧ Sys2Proof.Spec.trapped (s.own x) 0x01 (BitVec.ofNat 64 w) (t.own x) :=
  trapped_of_exec hx (he.trans (congrArg _ (illegal_of_thread hx)))

theorem val_ne_zero {r : Reg} (h : r ≠ 0) : r.val ≠ 0 := fun e => h (Fin.ext e)

/-- A supervisor instruction of a thread (R131). -/
theorem supervisor_of_thread {f : State → Nat → State} (hx : x.agent = .thread n) (h : s.issues x w) :
    supervisor x w s f = .next ((s.issuing x).illegal x w) := by
  rw [supervisor, whenIssued_of_issues _ _ _ _ h]
  simp only [hx]

theorem exec_supervisorI {p : (Issue → Reg → Reg → BitVec 16 → Instr) × Nat} (hp : p ∈ [(.rdk, 0x38), (.wrk, 0x39)]) (hx : x.agent = .thread n)
    (h : s.issues x (encI p.2 rd rs1 imm)) : exec (p.1 x rd rs1 imm) s = .next ((s.issuing x).illegal x (encI p.2 rd rs1 imm)) := by
  simp only [List.mem_cons, List.not_mem_nil, or_false] at hp
  obtain rfl | rfl := hp
  · show execRdk x rd rs1 imm s = _
    rw [execRdk, supervisor_of_thread hx h]
  · show execWrk x rd rs1 imm s = _
    rw [execWrk, supervisor_of_thread hx h]

theorem exec_supervisorR {p : (Issue → Reg → Reg → Reg → Instr) × Nat}
    (hp : p ∈ [(.retk, 1), (.sleep, 2), (.dcinv, 3), (.dcwb, 4), (.dcwball, 5), (.icinv, 6)]) (hx : x.agent = .thread n)
    (h : s.issues x (encR 0x3E rd rs1 rs2 p.2)) : exec (p.1 x rd rs1 rs2) s = .next ((s.issuing x).illegal x (encR 0x3E rd rs1 rs2 p.2)) := by
  simp only [List.mem_cons, List.not_mem_nil, or_false] at hp
  obtain rfl | rfl | rfl | rfl | rfl | rfl := hp
  · show execRetk x rd rs1 rs2 s = _
    rw [execRetk, supervisor_of_thread hx h]
  · show execSleep x rd rs1 rs2 s = _
    rw [execSleep, supervisor_of_thread hx h]
  · show execDcinv x rd rs1 rs2 s = _
    rw [execDcinv, supervisor_of_thread hx h]
  · show execDcwb x rd rs1 rs2 s = _
    rw [execDcwb, supervisor_of_thread hx h]
  · show execDcwball x rd rs1 rs2 s = _
    rw [execDcwball, supervisor_of_thread hx h]
  · show execIcinv x rd rs1 rs2 s = _
    rw [execIcinv, supervisor_of_thread hx h]

theorem exec_shift {p : (Issue → Reg → Reg → BitVec 16 → Instr) × Nat × (Word → Nat → Word)} (hp : p ∈ Sys2Proof.Spec.shiftTable) :
    ∃ op, exec (p.1 x rd rs1 imm) s = shiftI p.2.1 op x rd rs1 imm s := by
  simp only [Sys2Proof.Spec.shiftTable, List.mem_cons, List.not_mem_nil, or_false] at hp
  obtain rfl | rfl | rfl := hp
  · exact ⟨fun a n => a <<< n, rfl⟩
  · exact ⟨fun a n => a >>> n, rfl⟩
  · exact ⟨fun a n => a.sshiftRight n, rfl⟩

/-! ### Traps of a fetch (R93, R115, R125) -/

/-- A form of opcode 0x00 is one instruction word issued by its agent. -/
theorem aluTable_issued {p : (Issue → Reg → Reg → Reg → Instr) × Nat × Nat × (Word → Word → Word)} (hp : p ∈ Sys2Proof.Spec.aluTable) (x : Issue)
    (rd rs1 rs2 : Reg) (s : State) : ∃ f : State → State, exec (p.1 x rd rs1 rs2) s = whenIssued x (encR 0x00 rd rs1 rs2 p.2.1) s f := by
  simp only [Sys2Proof.Spec.aluTable, List.cons_append, List.nil_append, List.mem_cons, List.not_mem_nil, or_false] at hp
  obtain rfl | rfl | rfl | rfl | rfl | rfl | rfl | rfl | rfl | rfl | rfl | rfl | rfl | rfl | rfl | rfl | rfl | rfl | rfl | rfl | rfl | rfl | rfl := hp <;>
    exact ⟨_, rfl⟩

/-- The state in which an instruction is fetched: only the time has come. -/
theorem fetched_thr (s : State) (x : Issue) (i : Nat) : (s.advance (s.issueAt x)).thr i = s.thr i := advance_thr ..

theorem trapped_of_fetch (hx : x.agent = .thread n) (hm : s.mayIssue x = true) {cause : Nat} {v : Word} (f : State → State)
    (hf : (s.advance (s.issueAt x)).fetchThread n = .trap cause v) :
    ∃ t, whenIssued x w s f = .next t ∧ Sys2Proof.Spec.trapped (s.own x) cause v (t.own x) := by
  refine ⟨_, by rw [whenIssued, if_pos hm], ?_⟩
  simp only [State.issueWord, hx, State.fetch, hf]
  rw [own_of_thread hx, own_of_thread hx, show agentIx (.thread n) = n from rfl, trap_of_thread]
  exact trapThread_trapped n.isLt (fetched_thr s x n) ⟨_, rfl⟩

/-- A word whose uncorrectable error is found now. -/
theorem trapped_of_badWord (hx : x.agent = .thread n) (hm : s.mayIssue x = true) (hc : x.code = .bad) (f : State → State) {v : Nat}
    (hf : (s.advance (s.issueAt x)).fetchThread n = .word v) : ∃ t v, whenIssued x w s f = .next t ∧
      Sys2Proof.Spec.trapped (s.own x) 0x0C v (t.own x) ∧ s.pcKey n / 8 ∈ t.seqBad := by
  refine ⟨_, BitVec.ofNat 64 (s.pcKey n % 0x10000), by rw [whenIssued, if_pos hm], ?_⟩
  simp only [State.issueWord, hx, State.fetch, hf, hc, if_true, State.badWord]
  rw [own_of_thread hx, own_of_thread hx, (trapThread_memories _ _ _ n.isLt).2.2]
  refine ⟨trapThread_trapped n.isLt (fetched_thr s x n) ⟨_, rfl⟩, ?_⟩
  split
  · next h => exact List.contains_iff_mem.1 h
  · exact List.mem_cons_self

/-! ### An uncorrectable error of a load -/

theorem badData_trapped (h : s.Begins x u) (hx : x.agent = .thread n) (key : Nat) :
    Sys2Proof.Spec.trapped (s.own x) 0x0C (tval (key % 0x10000)) ((u.badData n key).own x) ∧ key / 8 ∈ (u.badData n key).seqBad := by
  have hown : u.thr n = _ := (own_of_thread hx).symm.trans h.own
  unfold State.badData
  extract_lets k
  rw [own_of_thread hx (s := State.trapThread _ _ _ _), (trapThread_memories _ _ _ n.isLt).2.2]
  refine ⟨trapThread_trapped n.isLt hown ⟨_, rfl⟩, ?_⟩
  split
  · next h => exact List.contains_iff_mem.1 h
  · exact List.mem_cons_self

/-- Settles O9: each is an instruction whose effect, fetch or access is the trap. -/
theorem threadTraps : Obligations.ThreadTraps := by
  unfold Obligations.ThreadTraps
  constructor
  · intro x n s hx
    refine ⟨fun w hw hi => ?_, fun p hp rd rs1 imm h64 hi => trapped_of_illegal hx ?_, fun rd rs1 rs2 hrd hi => trapped_of_illegal hx ?_, ?_,
      fun rd rs1 imm hi => ?_, fun rd rs1 rs2 hi => trapped_of_exec hx ?_, ?_, ?_⟩
    · rw [← BitVec.ofNat_toNat]
      refine trapped_of_illegal hx ?_
      show execUndefinedInstruction x w s = _
      rw [execUndefinedInstruction, if_pos hw, whenIssued_of_issues _ _ _ _ hi]
    · obtain ⟨op, he⟩ := exec_shift (x := x) (rd := rd) (rs1 := rs1) (imm := imm) (s := s) hp
      rw [he, shiftI, whenIssued_of_issues _ _ _ _ hi, if_pos h64]
    · show execSig x rd rs1 rs2 s = _
      rw [execSig, whenIssued_of_issues _ _ _ _ hi, if_pos (Or.inl (val_ne_zero hrd))]
    · simp only [List.forall_mem_cons]
      refine ⟨fun rd rs1 imm h hi => trapped_of_illegal hx ?_, fun rd rs1 imm h hi => trapped_of_illegal hx ?_, List.forall_mem_nil _⟩
      · show execMfs x rd rs1 imm s = _
        rw [execMfs, whenIssued_of_issues _ _ _ _ hi, if_pos (h.resolve_right (by simp))]
      · show execMts x rd rs1 imm s = _
        rw [execMts, whenIssued_of_issues _ _ _ _ hi, if_pos (h.symm.imp (fun h => val_ne_zero h.2) id)]
    · have he : exec (.trap x rd rs1 imm) s = .next (if rd.val ≠ 0 ∨ rs1.val ≠ 0 then (s.issuing x).illegal x (encI 0x31 rd rs1 imm)
          else (s.issuing x).trap (agentIx x.agent) cSWT (BitVec.ofNat 64 imm.toNat)) := whenIssued_of_issues _ _ _ _ hi
      by_cases h : rd = 0 ∧ rs1 = 0
      · obtain ⟨rfl, rfl⟩ := h
        rw [if_neg (by decide), agentIx_of_thread hx, trap_of_thread] at he
        obtain ⟨t, ht, htr⟩ := trapped_of_exec hx he
        rw [BitVec.ofNat_toNat] at htr
        exact ⟨t, ht, by rwa [if_pos ⟨rfl, rfl⟩]⟩
      · have hne : rd.val ≠ 0 ∨ rs1.val ≠ 0 := (not_and_or.1 h).imp val_ne_zero val_ne_zero
        rw [if_pos hne] at he
        obtain ⟨t, ht, htr⟩ := trapped_of_illegal hx he
        exact ⟨t, ht, by rwa [if_neg h]⟩
    · show execBkpt x rd rs1 rs2 s = _
      rw [execBkpt, threadR, whenIssued_of_issues _ _ _ _ hi, agentIx_of_thread hx, trap_of_thread]; rfl
    · exact fun p hp rd rs1 imm hi => trapped_of_illegal hx (exec_supervisorI hp hx hi)
    · exact fun p hp rd rs1 rs2 hi => trapped_of_illegal hx (exec_supervisorR hp hx hi)
  · intro x n s hx hm limit beyond
    have hown : s.own x = (s.advance (s.issueAt x)).thr n := (own_of_thread hx).trans (fetched_thr s x n).symm
    constructor
    · intro p hp rd rs1 rs2
      obtain ⟨f, he⟩ := aluTable_issued hp x rd rs1 rs2 s
      rw [he]
      refine ⟨fun hb => trapped_of_fetch hx hm f ?_, fun hb hl => trapped_of_fetch hx hm f ?_, fun hb hl hc hw => trapped_of_badWord (v := s.seqRd (s.pcKey n) 4) hx hm hc f ?_⟩
      · rw [hown]
        exact if_pos (hown ▸ hb)
      · rw [hown]
        exact (if_neg (hown ▸ hb)).trans (if_pos (hown ▸ hl))
      · exact (if_neg (hown ▸ hb)).trans ((if_neg (hown ▸ hl)).trans (if_neg fun h => Bool.false_ne_true (hw.symm.trans h)))
    · intro p hp rd rs1 imm ecc a hi hd ha hbad
      have hb := begins_issuing s x
      have htr := badData_trapped hb hx ((s.issuing x).dataKey n a)
      rw [sameBut_dataKey hb.same] at htr
      refine ⟨_, _, (exec_load_thread hp hx hi).trans (congrArg _ ?_), htr⟩
      rw [loadThread_of_bad (reach_of_data ((inData_of_begins hb).2 hd) ha) (by rwa [sameBut_dataKey hb.same, sameBut_seqBadAt hb.same]),
        sameBut_dataKey hb.same]

end Sys2Proof.Machine
end

section
/-! Branches, jumps, WAIT and vectors: where execution goes on, what a WAIT returns, and what a vector saves (03_morop.md R86, R102 to R105, R110 to R114). -/

namespace Sys2Proof.Machine

variable {s t u : State} {x : Issue} {n : Thr} {rd rs1 rs2 : Reg} {imm : BitVec 16} {w : Nat}

/-! ### Branches and jumps -/

theorem State.Begins.thr_eq (h : s.Begins x u) : u.thr (agentIx x.agent) = { s.own x with runcount := (s.own x).runcount + 1 } := h.own

theorem State.Begins.pc (h : s.Begins x u) : (u.thr (agentIx x.agent)).pc = (s.own x).pc := by rw [h.thr_eq]

/-- A completion that leaves v in rd and goes on at an address. -/
theorem State.Begins.retireTo (h : s.Begins x u) (c pc rd : Nat) (v : Word) :
    s.sameBut (u.retireTo (agentIx x.agent) c pc (fun t => t.wg rd v)) x ∧
    (u.retireTo (agentIx x.agent) c pc (fun t => t.wg rd v)).own x = Sys2Proof.Spec.jumped (s.own x) c rd v pc :=
  (h.retire c _).symm

theorem exec_branch {p : (Issue → Reg → Reg → BitVec 16 → Instr) × Nat × (Word → Word → Prop)} (hp : p ∈ Sys2Proof.Spec.branchTable) :
    ∃ cond : Word → Word → Bool, (∀ a b, cond a b = true ↔ p.2.2 a b) ∧ exec (p.1 x rs1 rs2 imm) s = branchB p.2.1 cond x rs1 rs2 imm s := by
  simp only [Sys2Proof.Spec.branchTable, List.mem_cons, List.not_mem_nil, or_false] at hp
  obtain rfl | rfl | rfl | rfl | rfl | rfl := hp
  · exact ⟨fun a b => decide (a = b), fun a b => decide_eq_true_iff, rfl⟩
  · exact ⟨fun a b => decide (a ≠ b), fun a b => decide_eq_true_iff, rfl⟩
  · exact ⟨fun a b => a.slt b, fun a b => BitVec.slt_iff_toInt_lt, rfl⟩
  · exact ⟨fun a b => !a.slt b, fun a b => by simp [BitVec.slt], rfl⟩
  · exact ⟨fun a b => a.ult b, fun a b => BitVec.ult_iff_toNat_lt, rfl⟩
  · exact ⟨fun a b => !a.ult b, fun a b => by simp [BitVec.ult], rfl⟩

/-- Settles O10: the condition chooses between the two completions, and a link is the address after the instruction. -/
theorem branchesAndJumps : Obligations.BranchesAndJumps := by
  unfold Obligations.BranchesAndJumps
  refine ⟨fun p hp x rs1 rs2 off s hi => ?_, fun x rd off s hi => ?_, fun x rd rs1 imm s hi => ?_⟩
  · have hb := begins_issuing s x
    obtain ⟨cond, hcond, he⟩ := exec_branch (x := x) (rs1 := rs1) (rs2 := rs2) (imm := off) (s := s) hp
    rw [branchB, whenIssued_of_issues _ _ _ _ hi] at he
    simp only [issuing_gr, hb.pc] at he
    obtain ⟨hsame, hown⟩ := hb.retireTo 2 (targetOf (s.own x).pc (sext off)) 0 0
    obtain ⟨hown1, hsame1⟩ := hb.retire 1 (fun t => t)
    by_cases hc : p.2.2 ((s.own x).rg rs1) ((s.own x).rg rs2)
    · rw [if_pos ((hcond _ _).2 hc)] at he
      exact ⟨_, he, hsame, fun _ => hown, fun hn => absurd hc hn⟩
    · rw [if_neg (mt (hcond _ _).1 hc)] at he
      exact ⟨_, he, hsame1, fun hn => absurd hn hc, fun _ => hown1⟩
  · have hb := begins_issuing s x
    obtain ⟨hsame, hown⟩ := hb.retireTo 2 (targetOf (s.own x).pc (sext off)) rd (BitVec.ofNat 64 (s.own x).pc + 4)
    have he : exec (.jal x rd off) s = _ := whenIssued_of_issues _ _ _ _ hi
    simp only [State.link, hb.pc] at he
    exact ⟨_, he, hsame, hown⟩
  · have hb := begins_issuing s x
    have he : exec (.jalr x rd rs1 imm) s = _ := whenIssued_of_issues _ _ _ _ hi
    simp only [State.link, hb.pc, addrOf_issuing] at he
    refine ⟨fun ha => ?_, fun ha n hx => ?_⟩
    · rw [if_neg (by simpa using ha)] at he
      obtain ⟨hsame, hown⟩ := hb.retireTo 2 (Sys2Proof.Spec.address s x rs1 imm) rd (BitVec.ofNat 64 (s.own x).pc + 4)
      exact ⟨_, he, hsame, hown⟩
    · have haddr : (s.issuing x).addrOf (agentIx x.agent) rs1 imm = BitVec.ofNat 64 (Sys2Proof.Spec.address s x rs1 imm) := by
        rw [← addrOf_issuing, BitVec.ofNat_toNat, BitVec.setWidth_eq]
      rw [if_pos ha, haddr, agentIx_of_thread hx, trap_of_thread] at he
      exact trapped_of_exec hx he

/-! ### The lowest bit of a word, and its clearing -/

theorem lowestBit_eq {p : Word} {e : Nat} (he : e < 64) (h : p.getLsbD e = true) (hlow : ∀ j < e, p.getLsbD j = false) : lowestBit p.toNat = e := by
  have hfind : (List.range 64).find? (fun i => bitAt p.toNat i) = some e := by
    refine List.find?_range_eq_some.2 ⟨?_, List.mem_range.2 he, fun j hj => ?_⟩
    · rw [bitAt_eq_testBit]; exact h
    · rw [bitAt_eq_testBit, show p.toNat.testBit j = false from hlow j hj]; rfl
  rw [lowestBit, hfind]; rfl

theorem toNat_ne_zero_of_bit {p : Word} {e : Nat} (h : p.getLsbD e = true) : p.toNat ≠ 0 := by
  intro h0
  rw [BitVec.getLsbD, h0, Nat.zero_testBit] at h
  exact Bool.false_ne_true h

theorem getLsbD_clear (a : Word) (e j : Nat) :
    (a &&& ~~~(BitVec.ofNat 64 (2 ^ e))).getLsbD j = (a.getLsbD j && decide (j ≠ e)) := by
  by_cases hj : j < 64
  · rw [BitVec.getLsbD_and, BitVec.getLsbD_not, BitVec.getLsbD_ofNat, Nat.testBit_two_pow, decide_eq_true hj, Bool.true_and, Bool.true_and,
      ← decide_not, decide_eq_decide.2 ne_comm]
  · rw [BitVec.getLsbD_of_ge _ _ (by omega), BitVec.getLsbD_of_ge a _ (by omega), Bool.false_and]

/-! ### What a WAIT returns -/

/-- A context after a WAIT that returned v in rd, from the context t before. -/
structure Returned (t u : Thread) (rd : Nat) (v : Word) : Prop where
  result : u.rg rd = if rd = 0 then 0 else v
  others : ∀ r, r ≠ rd → u.rg r = t.rg r
  runcount : u.runcount = 0
  pc : u.pc = (t.pc + 4) % 2 ^ 64
  st : u.st = .runnable

theorem waited_own (u : State) (i c rd : Nat) (v : Word) : (u.waited i c rd v).thr i = ({ u.thr i with
    pc := ((u.thr i).pc + 4) % 2 ^ 64, instret := (u.thr i).instret + 1, cycles := (u.thr i).cycles + c, runcount := 0, st := .runnable,
    wait := none } : Thread).wg rd v := retire_own ..

@[simp] theorem wg_other_fields (t : Thread) (r : Nat) (v : Word) :
    (t.wg r v).runcount = t.runcount ∧ (t.wg r v).pc = t.pc ∧ (t.wg r v).st = t.st ∧ (t.wg r v).epend = t.epend := by
  unfold Thread.wg; split <;> exact ⟨rfl, rfl, rfl, rfl⟩

theorem rg_of_g {t u : Thread} (h : u.g = t.g) (r : Nat) : u.rg r = t.rg r := by unfold Thread.rg; rw [h]

theorem waited_returned {t : Thread} {i : Nat} (hg : (u.thr i).g = t.g) (hpc : (u.thr i).pc = t.pc) (c rd : Nat) (v : Word) :
    Returned t ((u.waited i c rd v).thr i) rd v := by
  rw [waited_own]
  obtain ⟨hrun, hp, hst, -⟩ := wg_other_fields { u.thr i with
    pc := ((u.thr i).pc + 4) % 2 ^ 64, instret := (u.thr i).instret + 1, cycles := (u.thr i).cycles + c, runcount := 0, st := .runnable,
    wait := none } rd v
  refine ⟨?_, fun r hr => ?_, hrun, by rw [hp, hpc], hst⟩
  · rw [rg_wg]; simp
  · rw [rg_wg, if_neg hr]
    split
    · next h0 => rw [h0]; rfl
    · exact rg_of_g hg r

theorem waited_epend (u : State) (i c rd : Nat) (v : Word) : ((u.waited i c rd v).thr i).epend = (u.thr i).epend := by
  rw [waited_own]; exact (wg_other_fields ..).2.2.2

/-- The vectored events of a thread are named by registers that no count of corrected errors touches. -/
theorem sameBut_vecMask (h : s.sameBut t x) (n : Nat) : t.vecMask n = s.vecMask n := by
  unfold State.vecMask
  refine List.foldl_ext _ _ _ fun m v hv => ?_
  have hv := List.mem_range.1 hv
  have hk : (0x201080 + n / 4 * 0x4000 + n % 4 * 0x100 + v * 4) % 0x4000 ≠ 0x20 := by omega
  rw [sameBut_flag h (f := R.SEQ_TH_VEC_VALID (n / 4) (n % 4) v) hk, sameBut_flag h (f := R.SEQ_TH_VEC_VECTORED (n / 4) (n % 4) v) hk,
    sameBut_get h (f := R.SEQ_TH_VEC_EVENT (n / 4) (n % 4) v) hk]

theorem State.Begins.waitable (h : s.Begins x u) (hx : x.agent = .thread n) (mask : Word) :
    u.waitable (.thread n) mask = (s.thr n).epend &&& mask &&& ~~~(s.vecMask n) := by
  rw [State.waitable, sameBut_vecMask h.same, ← agentIx_of_thread hx, h.thr_eq, agentIx_of_thread hx, own_of_thread hx]

section
variable {mask : Word} {f : Bool} {c e : Nat} {r : Nat}

/-- A thread's WAIT with an event pending: the lowest is taken. -/
theorem waitEnds_of_event (he : e < 64) (h : (u.waitable (.thread n) mask).getLsbD e = true)
    (hlow : ∀ j < e, (u.waitable (.thread n) mask).getLsbD j = false) : u.waitEnds (.thread n) mask f c r =
      some ((u.setThr n { u.thr n with epend := (u.thr n).epend &&& ~~~(BitVec.ofNat 64 (2 ^ e)) }).waited n c r (BitVec.ofNat 64 e)) := by
  rw [State.waitEnds, if_pos (toNat_ne_zero_of_bit h), lowestBit_eq he h hlow]; rfl

theorem waitEnds_of_none (h : u.waitable (.thread n) mask = 0) :
    u.waitEnds (.thread n) mask f c r = if f then some (u.waited n c r (BitVec.ofInt 64 (-1))) else none := by
  rw [State.waitEnds, h]; rfl

end

/-- A thread's WAIT takes event e, which is returned and pends no more. -/
theorem taken_of_event {t : Thread} (hg : (u.thr n).g = t.g) (hpc : (u.thr n).pc = t.pc) (hep : (u.thr n).epend = t.epend) (c rd e : Nat) :
    ∃ v : Thread, ((u.setThr n { u.thr n with epend := (u.thr n).epend &&& ~~~(BitVec.ofNat 64 (2 ^ e)) }).waited n c rd
      (BitVec.ofNat 64 e)).thr n = v ∧ Returned t v rd (BitVec.ofNat 64 e) ∧ ∀ j, v.epend.getLsbD j = (t.epend.getLsbD j && decide (j ≠ e)) := by
  refine ⟨_, rfl, waited_returned ?_ ?_ c rd _, fun j => ?_⟩
  · rw [thr_setThr_same]; exact hg
  · rw [thr_setThr_same]; exact hpc
  · rw [waited_epend, thr_setThr_same, hep]
    exact getLsbD_clear ..

theorem exec_wait {timed : Bool} (h : s.issues x (encR 0x2B rd rs1 rs2 (if timed then 1 else 0))) : exec (.wait x rd rs1 rs2 timed) s =
    .next ((s.issuing x).waitFor x.agent rd ((s.own x).rg rs1) (if timed then some (((s.own x).rg rs2).toNat : Int) else none)) := by
  have he : exec (.wait x rd rs1 rs2 timed) s = _ := whenIssued_of_issues _ _ _ _ h
  simpa only [issuing_gr] using he

section
variable {a : Agent} {r : Nat} {mask : Word} {d : Option Int}

theorem waitFor_of_ends {v : State} (h : ¬(d = none ∧ mask = 0))
    (hv : u.waitEnds a mask (d.elim false (fun d => decide (d ≤ u.now))) 2 r = some v) : u.waitFor a r mask d = v := by
  rw [State.waitFor, if_neg h, hv]; rfl

/-- The context of an agent that begins to wait. -/
theorem State.Begins.waiting (hb : s.Begins x u) (h : ¬(d = none ∧ mask = 0))
    (hv : u.waitEnds x.agent mask (d.elim false (fun d => decide (d ≤ u.now))) 2 r = none) :
    s.sameBut (u.waitFor x.agent r mask d) x ∧ (u.waitFor x.agent r mask d).own x =
      { s.own x with st := .waiting, wait := some ⟨mask, d, r⟩, cycles := (s.own x).cycles + 2, runcount := (s.own x).runcount + 1 } := by
  rw [State.waitFor, if_neg h, hv]
  refine ⟨sameBut_moves _ _ _ _ (sameBut_setThr _ _ _ _ hb.same) (hold_movesTurn ..), ?_⟩
  rw [Option.getD_none, movesTurn_own (hold_movesTurn ..), State.own, thr_setThr_same, hb.thr_eq]

theorem exec_waitReturn {dl : Option Int} {now : Nat} {v : State} (hr : s.runs a = true) (hw : (s.thr (agentIx a)).wait = some ⟨mask, dl, r⟩)
    (hv : (s.advance now).waitEnds a mask (dl.elim false (fun d => decide (d ≤ s.lastTick))) 0 r = some v) : exec (.waitReturn a now) s = .next v := by
  have hw' : ((s.advance now).thr (agentIx a)).wait = some ⟨mask, dl, r⟩ := hw
  show execWaitReturn a now s = _
  rw [execWaitReturn, if_pos hr]
  simp only [hw']
  rw [show (s.advance now).lastTick = s.lastTick from rfl, hv]; rfl

end

/-- Settles O11: the pending events of the mask decide, and the lowest of them is taken. -/
theorem waitTakesTheLowestEvent : Obligations.WaitTakesTheLowestEvent := by
  unfold Obligations.WaitTakesTheLowestEvent
  intro may lowest taken
  constructor
  · intro x n rd rs1 rs2 s hx hi mask
    have hb := begins_issuing s x
    have hown : (s.issuing x).thr n = _ := (own_of_thread hx).symm.trans hb.own
    have he := exec_wait (timed := false) hi
    have hmay : (s.issuing x).waitable x.agent mask = may s n mask := by rw [hx]; exact hb.waitable hx mask
    refine ⟨fun e ⟨he64, hbit, hlow⟩ => ?_, fun hm h0 => ?_, fun hm => ?_⟩
    · have hmask : mask ≠ 0 := by
        intro h0
        simp [may, h0] at hbit
      obtain ⟨v, hv, ⟨hrd, hothers, hrun, hpc, hst⟩, hep⟩ := taken_of_event (u := s.issuing x) (n := n) (t := s.own x) (by rw [hown]) (by rw [hown])
        (by rw [hown]) 2 rd e
      rw [hx] at he hmay
      rw [waitFor_of_ends (fun h => hmask h.2) (waitEnds_of_event he64 (hmay ▸ hbit) (hmay ▸ hlow))] at he
      refine ⟨_, he, ?_⟩
      rw [own_of_thread hx (s := State.waited ..), hv]
      exact ⟨hrd, hothers, hep, hrun, hpc, hst⟩
    · have hv : (s.issuing x).waitEnds x.agent mask false 2 rd = none := by rw [hx] at hmay ⊢; exact waitEnds_of_none (hmay.trans h0)
      exact ⟨_, he, hb.waiting (d := none) (fun h => hm h.2) hv⟩
    · rw [State.waitFor, if_pos ⟨rfl, hm⟩, agentIx_of_thread hx, trap_of_thread] at he
      exact trapped_of_exec hx he
  · intro n now s mask rd dl hr hvec hw e ⟨he64, hbit, hlow⟩
    obtain ⟨v, hv, ⟨hrd, hothers, hrun, hpc, hst⟩, hep⟩ := taken_of_event (u := s.advance now) (n := n) (t := s.thr n) rfl rfl rfl 0 rd e
    refine ⟨_, exec_waitReturn hr hw (waitEnds_of_event he64 hbit hlow), ?_⟩
    rw [hv]
    exact ⟨hrd, hothers, hep, hrun, hpc, hst⟩

/-- Settles O12: with nothing pending, the deadline decides. -/
theorem timedWaitReturnsMinusOne : Obligations.TimedWaitReturnsMinusOne := by
  unfold Obligations.TimedWaitReturnsMinusOne
  intro finished
  constructor
  · intro x n rd rs1 rs2 s hx hi h0
    have hb := begins_issuing s x
    have he := exec_wait (timed := true) hi
    have hmay : (s.issuing x).waitable (.thread n) ((s.own x).rg rs1) = 0 := by rw [hb.waitable hx, ← own_of_thread hx]; exact h0
    refine ⟨fun hd => ?_, fun hd => ?_⟩
    · obtain ⟨hrd, hothers, hrun, hpc, hst⟩ := waited_returned (u := s.issuing x) (t := s.own x) (i := agentIx x.agent) (by rw [hb.thr_eq])
        (by rw [hb.thr_eq]) 2 rd (BitVec.ofInt 64 (-1))
      have hv : (s.issuing x).waitEnds x.agent ((s.own x).rg rs1) (decide ((((s.own x).rg rs2).toNat : Int) ≤ (s.issuing x).now)) 2 rd =
          some ((s.issuing x).waited (agentIx x.agent) 2 rd (BitVec.ofInt 64 (-1))) := by
        rw [hx, waitEnds_of_none hmay, decide_eq_true hd]; rfl
      refine ⟨_, he.trans (congrArg _ (waitFor_of_ends (fun h => nomatch h.1) hv)), (hb.retire 2 _).2, hrd, hothers, ?_, hrun, hpc, hst⟩
      exact (waited_epend ..).trans (by rw [hb.thr_eq])
    · have hv : (s.issuing x).waitEnds x.agent ((s.own x).rg rs1) (decide ((((s.own x).rg rs2).toNat : Int) ≤ (s.issuing x).now)) 2 rd = none := by
        rw [hx, waitEnds_of_none hmay, decide_eq_false (Int.not_le.2 hd)]; rfl
      obtain ⟨hsame, hown⟩ := hb.waiting (d := some _) (fun h => nomatch h.1) hv
      rw [if_pos rfl] at he
      exact ⟨_, he, hsame, by rw [hown], by rw [hown], by rw [hown]⟩
  · intro n now s mask rd d hr hvec hw h0 hd
    obtain ⟨hrd, hothers, hrun, hpc, hst⟩ := waited_returned (u := s.advance now) (t := s.thr n) (i := n) rfl rfl 0 rd (BitVec.ofInt 64 (-1))
    refine ⟨_, exec_waitReturn hr hw ((waitEnds_of_none (u := s.advance now) h0).trans (if_pos (decide_eq_true hd))), hrd, hothers, ?_, hrun, hpc, hst⟩
    exact waited_epend ..

/-! ### Vectors -/

theorem exec_vectorEntry (hr : s.runs (.thread n) = true) (hd : s.vectorDue n = true) (hst : (s.thr n).st = .runnable ∨ (s.thr n).st = .waiting) :
    exec (.vectorEntry n) s = .next ((s.advance (if seqCycle s.raw < (s.turn n).div then seqNs (s.turn n).div else 0)).enterVector n) := by
  show execVectorEntry n s = _
  rw [execVectorEntry, if_pos ⟨hr, hd, hst⟩]

/-- A thread takes the lowest of its pending vectored events, at the first slot that names it. -/
theorem enterVector_eq {e v : Nat} (he : lowestBit (u.vecPending n).toNat = e) (hv : v < 16)
    (htakes : u.flag (R.SEQ_TH_VEC_VALID (n.val / 4) (n.val % 4) v) = true ∧ u.flag (R.SEQ_TH_VEC_VECTORED (n.val / 4) (n.val % 4) v) = true ∧
      u.get (R.SEQ_TH_VEC_EVENT (n.val / 4) (n.val % 4) v) = e)
    (hfirst : ∀ j < v, ¬(u.flag (R.SEQ_TH_VEC_VALID (n.val / 4) (n.val % 4) j) = true ∧ u.flag (R.SEQ_TH_VEC_VECTORED (n.val / 4) (n.val % 4) j) = true ∧
      u.get (R.SEQ_TH_VEC_EVENT (n.val / 4) (n.val % 4) j) = e)) :
    u.enterVector n = (u.setThr n { u.thr n with
      st := .runnable, wait := none, epc := (u.thr n).pc, ven := false, pc := u.slotAddr n v,
      epend := (u.thr n).epend &&& ~~~(BitVec.ofNat 64 (2 ^ e)), runcount := 0, cycles := (u.thr n).cycles + 3 }).hold n 3 := by
  have hfind : (List.range 16).find? (fun v => u.flag (R.SEQ_TH_VEC_VALID (n.val / 4) (n.val % 4) v) &&
      u.flag (R.SEQ_TH_VEC_VECTORED (n.val / 4) (n.val % 4) v) && decide (u.get (R.SEQ_TH_VEC_EVENT (n.val / 4) (n.val % 4) v) = e)) = some v := by
    refine List.find?_range_eq_some.2 ⟨?_, List.mem_range.2 hv, fun j hj => ?_⟩
    · simpa [and_assoc] using htakes
    · rw [Bool.not_eq_eq_eq_not, Bool.not_true, ← Bool.not_eq_true, Bool.and_eq_true, Bool.and_eq_true, decide_eq_true_iff, and_assoc]
      exact hfirst j hj
  rw [State.enterVector, he, hfind]; rfl

/-- Settles O13: the entry saves the PC in EPC, and RETV takes it from there. -/
theorem vectorEntrySavesThePc : Obligations.VectorEntrySavesThePc := by
  unfold Obligations.VectorEntrySavesThePc
  constructor
  · intro n s e v hr hd hst he hbit hlow takes hv htakes hfirst
    refine ⟨_, (exec_vectorEntry hr hd hst).trans (congrArg _ (enterVector_eq (lowestBit_eq he hbit hlow) hv htakes hfirst)), ?_, fun j => ?_,
      fun j hj => ⟨?_, ?_⟩, ?_⟩
    · rw [hold_thr, thr_setThr_same]; rfl
    · rw [hold_thr, thr_setThr_same]; exact getLsbD_clear ..
    · rw [hold_thr, thr_setThr_other _ _ _ _ hj]; rfl
    · rw [(hold_movesTurn ..).2 j hj]; rfl
    · rw [(hold_movesTurn ..).1]; rfl
  · intro x n rd rs1 rs2 s hx hi
    have hb := begins_issuing s x
    have he : exec (.retv x rd rs1 rs2) s = .next (if 256 ≤ agentIx x.agent ∨ ((s.issuing x).thr (agentIx x.agent)).ven = true then _ else _) :=
      whenIssued_of_issues _ _ _ _ hi
    have hven : ((s.issuing x).thr (agentIx x.agent)).ven = (s.own x).ven := by rw [hb.thr_eq]
    have hepc : ((s.issuing x).thr (agentIx x.agent)).epc = (s.own x).epc := by rw [hb.thr_eq]
    have hlt : ¬256 ≤ agentIx x.agent := by rw [agentIx_of_thread hx]; omega
    rw [hven, hepc] at he
    refine ⟨fun h => ?_, fun h => ?_⟩
    · rw [if_neg (by rw [h]; simp [hlt])] at he
      obtain ⟨hown, hsame⟩ := hb.retire 2 (fun t => { { t with ven := true } with pc := (s.own x).epc })
      exact ⟨_, he, hsame, hown⟩
    · rw [if_pos (Or.inr h)] at he
      exact trapped_of_illegal hx he

end Sys2Proof.Machine
end

section
/-! Clocks, special registers and the completion ring: what TIME, MFS and MTS read and write (03_morop.md R87, R110, R122). -/

namespace Sys2Proof.Machine

variable {s t u : State} {x : Issue} {n : Thr} {rd rs1 rs2 : Reg} {imm : BitVec 16} {w : Nat}

/-! ### What the effect finds of the time base and of a channel -/

/-- The counts of corrected errors lie above the time base. -/
theorem sameBut_get_below (h : s.sameBut t x) {f : Field} (hf : f.key < 0x200020) : t.get f = s.get f := by
  have hne : ¬countsAt x f.key := by
    rintro ⟨-, n, -, hk⟩
    have hk : f.key = 0x200020 + n.val / 4 * 0x4000 := hk
    omega
  unfold State.get State.reg
  have hreg := (h.2.2 f.key).resolve_right hne
  unfold State.reg at hreg
  rw [hreg]

theorem sameBut_now (h : s.sameBut t x) : t.now = (s.advance (s.issueAt x)).now := by
  have htb : t.tb = s.tb := by rw [h.1]
  unfold State.now State.localAt State.getSigned
  rw [sameBut_get_below h (f := R.TB_OFFSET) (by decide), sameBut_get_below h (f := R.TB_RATE_NOW) (by decide), sameBut_raw h, htb]; rfl

theorem sameBut_hasTasks (h : s.sameBut t x) (i : Nat) : t.hasTasks i = s.hasTasks i := by unfold State.hasTasks; rw [sameBut_tasks h]

/-! ### Clocks -/

theorem clockR_completes {func : Nat} {f : State → Word} {v : Word} (h : s.issues x (encR 0x2D rd rs1 rs2 func)) (hv : f (s.issuing x) = v) :
    ∃ t, clockR func f x rd rs1 rs2 s = .next t ∧ s.sameBut t x ∧ t.own x = (s.own x).completed 1 rd v :=
  ⟨_, whenIssued_of_issues _ _ _ _ h, hv ▸ ((begins_issuing s x).retireRd_later 1 rd _ 4).symm⟩

/-! ### MFS -/

theorem mfs_of_special {v : Word} (h : s.issues x (encI 0x2E rd rs1 imm)) (hn : imm.toNat ≤ 0x013)
    (hv : (s.issuing x).special x.agent imm.toNat = some v) :
    ∃ t, exec (.mfs x rd rs1 imm) s = .next t ∧ s.sameBut t x ∧ t.own x = (s.own x).completed 1 rd v := by
  have he : exec (.mfs x rd rs1 imm) s = _ := whenIssued_of_issues _ _ _ _ h
  rw [if_neg (Nat.not_lt.2 hn), hv] at he
  exact ⟨_, he, ((begins_issuing s x).retireRd_later 1 rd v 2).symm⟩

theorem mfs_of_open (h : s.issues x (encI 0x2E rd rs1 imm)) (hn : imm.toNat ≤ 0x013) (hv : (s.issuing x).special x.agent imm.toNat = none) :
    ∃ t v, exec (.mfs x rd rs1 imm) s = .next t ∧ t.own x = (s.own x).completed 1 rd v := by
  have he : exec (.mfs x rd rs1 imm) s = _ := whenIssued_of_issues _ _ _ _ h
  rw [if_neg (Nat.not_lt.2 hn), hv] at he
  exact ⟨_, _, he, ((begins_issuing s x).retireRd_later 1 rd (s.issuing x).free 2).1⟩

/-- A special register that the context has itself, of a RUNNABLE one that has counted the instruction. -/
theorem special_of_context {T : Thread} (hst : T.st = .runnable) :
    ∀ p ∈ Sys2Proof.Spec.special T ++ [(0x013, T.runcount + 1)],
      p.1 ≤ 0x013 ∧ ({ T with runcount := T.runcount + 1 } : Thread).special p.1 = some (BitVec.ofNat 64 p.2) := by
  simp only [Sys2Proof.Spec.special, List.cons_append, List.nil_append, List.forall_mem_cons, BitVec.ofNat_toNat, BitVec.setWidth_eq]
  refine ⟨⟨by decide, rfl⟩, ⟨by decide, ?status⟩, ⟨by decide, rfl⟩, ⟨by decide, rfl⟩, ⟨by decide, rfl⟩, ⟨by decide, rfl⟩, ⟨by decide, rfl⟩,
    ⟨by decide, rfl⟩, ⟨by decide, rfl⟩, ⟨by decide, rfl⟩, ⟨by decide, rfl⟩, ⟨by decide, rfl⟩, ⟨by decide, rfl⟩, List.forall_mem_nil _⟩
  case status =>
    show some (BitVec.ofNat 64 (stCode T.st + _ + _)) = _
    rw [hst]; rfl

section
variable {k m : Nat} {v : Word}

theorem State.Begins.special_own (hb : s.Begins x u) (h : ({ s.own x with runcount := (s.own x).runcount + 1 } : Thread).special k = some v) :
    u.special x.agent k = some v := by
  unfold State.special
  dsimp only
  rw [hb.thr_eq, h]; rfl

theorem special_of_sequencer (h : ∀ T : Thread, T.special k = none) (hs : u.threadSpecial n k = some m) :
    u.special (.thread n) k = some (BitVec.ofNat 64 m) := by
  unfold State.special
  dsimp only
  rw [h, hs]; rfl

theorem State.Begins.special_channel (hb : s.Begins x u) (h : ∀ T : Thread, T.special k = none) (ht : ∀ i, u.threadSpecial i k = none)
    (hc : u.chanSpecial (s.own x).chan k = some m) : u.special x.agent k = some (BitVec.ofNat 64 m) := by
  unfold State.special
  dsimp only
  rw [h, hb.thr_eq, hc]
  cases x.agent with
  | thread i => dsimp only; rw [ht]; rfl
  | core i => rfl

end

/-! ### MTS -/

theorem exec_mts (h : s.issues x (encI 0x2F 0 rs1 imm)) (hn : imm.toNat ≤ 0x013) : exec (.mts x 0 rs1 imm) s =
    .next (((s.issuing x).setSpecial x.agent imm.toNat ((s.own x).rg rs1).toNat).retire (agentIx x.agent) 1 (fun t => t)) := by
  have he : exec (.mts x 0 rs1 imm) s = _ := whenIssued_of_issues _ _ _ _ h
  rw [he, if_neg (by simp only [not_or, not_lt]; exact ⟨fun h => h rfl, hn⟩), issuing_gr]

/-- A context written and the instruction completed. -/
theorem State.Begins.write (hb : s.Begins x u) (v : Thread) :
    s.sameBut ((u.setThr (agentIx x.agent) v).retire (agentIx x.agent) 1 (fun t => t)) x ∧
    ((u.setThr (agentIx x.agent) v).retire (agentIx x.agent) 1 (fun t => t)).own x =
      { v with pc := (v.pc + 4) % 2 ^ 64, instret := v.instret + 1, cycles := v.cycles + 1 } := by
  refine ⟨sameBut_moves _ _ _ _ (sameBut_setThr _ _ _ _ (sameBut_setThr _ _ _ _ hb.same)) (hold_movesTurn ..), ?_⟩
  rw [State.own, retire_own, thr_setThr_same]

/-- A special register that is RO for recipes keeps its value. -/
theorem setSpecial_readOnly {a : Agent} {k v : Nat} (h : k ∈ [0x000, 0x001, 0x002, 0x003, 0x005, 0x006, 0x007, 0x008, 0x009, 0x00A, 0x00E, 0x00F,
    0x010, 0x011, 0x012, 0x013]) : u.setSpecial a k v = u := by
  simp only [List.mem_cons, List.not_mem_nil, or_false] at h
  obtain rfl | rfl | rfl | rfl | rfl | rfl | rfl | rfl | rfl | rfl | rfl | rfl | rfl | rfl | rfl | rfl := h <;> rfl

theorem setSpecial_epc (a : Agent) (v : Nat) : u.setSpecial a 0x004 v = u.setThr (agentIx a) { u.thr (agentIx a) with epc := v / 4 * 4 } := rfl

theorem setSpecial_cqHead (a : Agent) (v : Nat) : u.setSpecial a 0x00D v =
    if (u.thr (agentIx a)).cqLen ≤ v then u else u.setThr (agentIx a) { u.thr (agentIx a) with cqHead := v } := rfl

/-- Settles O14: the registers of a context, of its sequencer and of its channel are read as the issue finds them. -/
theorem clocksAndSpecialRegisters : Obligations.ClocksAndSpecialRegisters := by
  unfold Obligations.ClocksAndSpecialRegisters
  refine ⟨fun x rd rs1 rs2 s => ?_, fun x rd rs1 imm s hi => ?_, fun x rs1 imm s hi => ?_⟩
  · have hs := sameBut_issuing s x
    refine ⟨fun hi => clockR_completes hi ?_, fun hi => clockR_completes hi ?_, fun hi => clockR_completes hi ?_⟩
    · exact congrArg _ (sameBut_now hs)
    · exact congrArg _ (sameBut_raw hs)
    · exact congrArg _ (sameBut_get_below hs (by decide))
  · have hb := begins_issuing s x
    refine ⟨fun p hp hn => ?_, fun n hx p hp hn => ?_, fun hch p hp hn => ?_, fun hn => ?_⟩
    · obtain ⟨hle, hv⟩ := special_of_context (own_st_of_issues hi) p hp
      exact mfs_of_special hi (hn ▸ hle) (hb.special_own (hn ▸ hv))
    · have hk : (0x201008 + n.val / 4 * 0x4000 + n.val % 4 * 0x100) % 0x4000 ≠ 0x20 := by omega
      have hk' : (0x20100c + n.val / 4 * 0x4000 + n.val % 4 * 0x100) % 0x4000 ≠ 0x20 := by omega
      rw [← sameBut_get hb.same (f := R.SEQ_TH_IMAP_BASE (n.val / 4) (n.val % 4)) hk, ← sameBut_get hb.same (f := R.SEQ_TH_IMAP_LEN (n.val / 4) (n.val % 4)) hk,
        ← sameBut_get hb.same (f := R.SEQ_TH_DMAP_BASE (n.val / 4) (n.val % 4)) hk', ← sameBut_get hb.same (f := R.SEQ_TH_DMAP_LEN (n.val / 4) (n.val % 4)) hk'] at hp
      refine mfs_of_special hi (le_of_eq_of_le hn ?_) ?_
      · simp only [List.mem_cons, List.not_mem_nil, or_false] at hp
        obtain rfl | rfl | rfl | rfl | rfl := hp <;> simp
      · rw [hn, hx]
        simp only [List.mem_cons, List.not_mem_nil, or_false] at hp
        obtain rfl | rfl | rfl | rfl | rfl := hp <;> exact special_of_sequencer (fun _ => rfl) rfl
    · have hk : (0x1000000 + (s.own x).chan * 0x30000) % 0x4000 ≠ 0x20 := by omega
      have hk' : (0x1000010 + (s.own x).chan * 0x30000) % 0x4000 ≠ 0x20 := by omega
      rw [← sameBut_get hb.same (f := R.CTX_COMMIT_SEQ_SEQ (s.own x).chan) hk, ← sameBut_get hb.same (f := R.CTX_LANDED_SEQ_SNAP (s.own x).chan) hk'] at hp
      refine mfs_of_special hi (le_of_eq_of_le hn ?_) ?_
      · simp only [List.mem_cons, List.not_mem_nil, or_false] at hp
        obtain rfl | rfl := hp <;> simp
      · rw [hn]
        simp only [List.mem_cons, List.not_mem_nil, or_false] at hp
        obtain rfl | rfl := hp <;> exact hb.special_channel (fun _ => rfl) (fun _ => rfl) (if_pos hch)
    · cases hv : (s.issuing x).special x.agent imm.toNat with
      | some v =>
        obtain ⟨t, ht, -, hown⟩ := mfs_of_special hi hn hv
        exact ⟨t, v, ht, hown⟩
      | none => exact mfs_of_open hi hn hv
  · have hb := begins_issuing s x
    refine ⟨fun hn => ?_, fun hn hv => ?_, fun hn hv => ?_, fun hn => ?_⟩
    · have he := exec_mts hi (by omega)
      rw [hn, setSpecial_epc, hb.thr_eq] at he
      exact ⟨_, he, hb.write _⟩
    · have he := exec_mts hi (by omega)
      rw [hn, setSpecial_cqHead, hb.thr_eq, if_neg (Nat.not_le.2 hv)] at he
      exact ⟨_, he, hb.write _⟩
    · have he := exec_mts hi (by omega)
      rw [hn, setSpecial_cqHead, hb.thr_eq, if_pos hv] at he
      exact ⟨_, he, (hb.retire 1 _).symm⟩
    · have hle : imm.toNat ≤ 0x013 := by simp at hn; omega
      have he := exec_mts hi hle
      rw [setSpecial_readOnly hn] at he
      exact ⟨_, he, (hb.retire 1 _).symm⟩

/-! ### The completion ring (R122) -/

theorem moveRing_of_thread (hx : x.agent = .thread n) (hb : s.Begins x u) (base len : Nat) : u.moveRing x.agent base len =
    if s.hasTasks n = true ∨ (s.own x).held ≠ [] ∨ (s.own x).cqHead ≠ (s.own x).cqTail ∨ s.dataLen n < base + 16 * len then u
    else u.setThr n { u.thr n with cqBase := base, cqLen := len, cqHead := 0, cqTail := 0 } := by
  have hown := hb.thr_eq
  rw [agentIx_of_thread hx] at hown
  unfold State.moveRing
  dsimp only
  rw [agentIx_of_thread hx, hown, sameBut_hasTasks hb.same]
  refine if_congr ?_ rfl rfl
  rw [hx, State.ringFits, sameBut_dataLen hb.same, Bool.not_eq_true', decide_eq_false_iff_not, Nat.not_le]
  tauto

theorem setSpecial_cqBase (a : Agent) (v : Nat) : u.setSpecial a 0x00B v = u.moveRing a v (u.thr (agentIx a)).cqLen := rfl

theorem setSpecial_cqLen (a : Agent) (v : Nat) : u.setSpecial a 0x00C v = u.moveRing a (u.thr (agentIx a)).cqBase v := rfl

/-- The context after a write of CQBASE or CQLEN. -/
theorem State.Begins.ringMoved (hx : x.agent = .thread n) (hb : s.Begins x u) (base len : Nat) :
    s.sameBut ((u.moveRing x.agent base len).retire (agentIx x.agent) 1 (fun t => t)) x ∧
    ((u.moveRing x.agent base len).retire (agentIx x.agent) 1 (fun t => t)).own x =
      if s.hasTasks n = true ∨ (s.own x).held ≠ [] ∨ (s.own x).cqHead ≠ (s.own x).cqTail ∨ s.dataLen n < base + 16 * len
      then (s.own x).completed 1 0 0 else { (s.own x).completed 1 0 0 with cqBase := base, cqLen := len, cqHead := 0, cqTail := 0 } := by
  rw [moveRing_of_thread hx hb, ← agentIx_of_thread hx]
  split
  · exact (hb.retire 1 _).symm
  · rw [hb.thr_eq]; exact hb.write _

theorem exec_threadStart (hu : s.up = true) (hh : s.halted = false) : exec (.threadStart n) s = .next (s.startThread n) := by
  show execThreadStart n s = _
  rw [execThreadStart, whenWr_of_up hu hh]; simp [State.threadCtrl]

/-- Settles O15: a ring moves only while it is empty and the new one fits, and a START clears it. -/
theorem ringMovesOnlyWhileEmpty : Obligations.RingMovesOnlyWhileEmpty := by
  unfold Obligations.RingMovesOnlyWhileEmpty
  constructor
  · intro x n rs1 imm s hx hmem hi v t0
    have hb := begins_issuing s x
    have hle : imm.toNat ≤ 0x013 := by simp at hmem; omega
    have he := exec_mts hi hle
    simp only [List.mem_cons, List.not_mem_nil, or_false] at hmem
    obtain hn | hn | hn := hmem
    · rw [hn, setSpecial_cqBase, hb.thr_eq] at he
      obtain ⟨hsame, hown⟩ := hb.ringMoved hx v t0.cqLen
      exact ⟨_, he, hsame, fun _ => hown, fun h => absurd (hn.symm.trans h) (by decide), fun h => absurd (hn.symm.trans h) (by decide)⟩
    · rw [hn, setSpecial_cqLen, hb.thr_eq] at he
      obtain ⟨hsame, hown⟩ := hb.ringMoved hx t0.cqBase v
      exact ⟨_, he, hsame, fun h => absurd (hn.symm.trans h) (by decide), fun _ => hown, fun h => absurd (hn.symm.trans h) (by decide)⟩
    · rw [hn, setSpecial_cqHead, hb.thr_eq] at he
      by_cases hv : v < t0.cqLen
      · rw [if_neg (Nat.not_le.2 hv)] at he
        refine ⟨_, he, (hb.write _).1, fun h => absurd (hn.symm.trans h) (by decide), fun h => absurd (hn.symm.trans h) (by decide), fun _ => ?_⟩
        rw [if_pos hv]; exact (hb.write _).2
      · rw [if_pos (Nat.not_lt.1 hv)] at he
        refine ⟨_, he, (hb.retire 1 _).2, fun h => absurd (hn.symm.trans h) (by decide), fun h => absurd (hn.symm.trans h) (by decide), fun _ => ?_⟩
        rw [if_neg hv]; exact (hb.retire 1 _).1
  · intro n s hu hh hst hen ht hm
    refine ⟨_, exec_threadStart hu hh, ?_⟩
    simp [State.startThread, State.startNow, hst, hen, ht, hm]

end Sys2Proof.Machine
end

section
/-! Tasks, events and the waits of FENCE and HALT: what the instructions leave of the dispatcher's answers (03_morop.md R79, R91, R98, R110, R116, R118,
R123). -/

namespace Sys2Proof.Machine

variable {s t u : State} {x : Issue} {n : Thr} {rd rs1 rs2 : Reg} {imm : BitVec 16} {w : Nat}

/-! ### ISSUE, ISSUED, CANCEL -/

/-- The descriptor of a thread's task, at a data address with no error. -/
theorem descAt_of_begins (hb : s.Begins x u) {a : Nat} {ecc : Check} (ha : a % 8 = 0) (hlen : a + 64 ≤ s.dataLen n)
    (hbad : s.seqBadAt (s.dataKey n a) 64 = false) (he : ecc ≠ .bad) :
    u.descAt (.thread n) a ecc = .ok (descOf ((List.range 8).map (fun j => s.seqRd (s.dataKey n a + 8 * j) 8))) := by
  have hlt : ¬u.dataLen n < a + 64 := by rw [sameBut_dataLen hb.same]; exact Nat.not_lt.2 hlen
  have hno : ¬(ecc = .bad ∨ u.seqBadAt (u.dataKey n a) 64 = true) := by
    rw [sameBut_dataKey hb.same, sameBut_seqBadAt hb.same, hbad]; simp [he]
  have hrd : (fun j => u.seqRd (u.dataKey n a + 8 * j) 8) = fun j => s.seqRd (s.dataKey n a + 8 * j) 8 := by
    funext j; rw [sameBut_dataKey hb.same, sameBut_seqRd hb.same]
  unfold State.descAt
  dsimp only
  rw [if_neg hlt, if_neg (not_not.2 ha), if_neg hno, hrd]

theorem submit_of_desc {rd a : Nat} {at' : Option Nat} {ecc : Check} {d : Desc} (hd : u.descAt (.thread n) a ecc = .ok d) :
    (∀ v, ((u.corrected (.thread n) ecc).issue n d at' false).2 = .done v →
      u.submit (.thread n) rd a at' ecc = ((u.corrected (.thread n) ecc).issue n d at' false).1.retireRd n 4 rd v) ∧
    (∀ b, ((u.corrected (.thread n) ecc).issue n d at' false).2 = .blocked b →
      u.submit (.thread n) rd a at' ecc = ((u.corrected (.thread n) ecc).issue n d at' false).1.blockOn n 4 (.issue rd d at' b)) := by
  have hix : agentIx (.thread n) = n := rfl
  unfold State.submit
  simp only [hd, hix]
  cases h : (u.corrected (.thread n) ecc).issue n d at' false with
  | mk u' r =>
    cases r with
    | done v =>
      refine ⟨fun v' h => by cases h; rfl, fun b h => ?_⟩
      exact IssueAns.noConfusion h
    | blocked b =>
      refine ⟨fun v' h => ?_, fun b' h => by cases h; rfl⟩
      exact IssueAns.noConfusion h

theorem cancel_code (s : State) (h : Nat) : (s.cancel h).2 = 0 ∨ (s.cancel h).2 = 1 ∨ (s.cancel h).2 = 2 := by
  unfold State.cancel
  extract_lets e t
  split
  · exact .inr (.inr rfl)
  split
  · exact .inr (.inl rfl)
  split
  · exact .inr (.inl rfl)
  · exact .inl rfl

/-- What CANCEL leaves in rd, by the answer's code. -/
theorem cancelResult_eq {r : Nat} (h : r = 0 ∨ r = 1 ∨ r = 2) : (if r = 2 then BitVec.ofInt 64 (-1) else BitVec.ofNat 64 r) =
    (if r = 1 then 1 else if r = 0 then 0 else BitVec.allOnes 64 : Word) := by
  obtain rfl | rfl | rfl := h <;> rfl

theorem exec_issue {x : DescRead} (h : s.issues x.toIssue (encI 0x28 rd rs1 imm)) : exec (.issue x rd rs1 imm) s =
    .next ((s.issuing x.toIssue).submit x.agent rd (Sys2Proof.Spec.address s x.toIssue rs1 imm) none x.ecc) := by
  have he : exec (.issue x rd rs1 imm) s = _ := whenIssued_of_issues _ _ _ _ h
  simpa only [addrOf_issuing] using he

theorem exec_issued {x : DescRead} (h : s.issues x.toIssue (encR 0x29 rd rs1 rs2 0x000)) : exec (.issued x rd rs1 rs2) s =
    .next ((s.issuing x.toIssue).submit x.agent rd ((s.own x.toIssue).rg rs1).toNat (some ((s.own x.toIssue).rg rs2).toNat) x.ecc) := by
  have he : exec (.issued x rd rs1 rs2) s = _ := whenIssued_of_issues _ _ _ _ h
  simpa only [issuing_gr] using he

/-! ### SIG -/

theorem exec_sig (h : s.issues x (encR 0x2C rd rs1 rs2 0x000)) : exec (.sig x rd rs1 rs2) s = .next (
    if rd.val ≠ 0 ∨ ((s.own x).rg rs2).toNat < 48 ∨ 63 < ((s.own x).rg rs2).toNat ∨ 255 < ((s.own x).rg rs1).toNat
    then (s.issuing x).illegal x (encR 0x2C rd rs1 rs2 0x000)
    else ((s.issuing x).postThread ((s.own x).rg rs1).toNat ((s.own x).rg rs2).toNat).retire (agentIx x.agent) 2 (fun t => t)) := by
  have he : exec (.sig x rd rs1 rs2) s = _ := whenIssued_of_issues _ _ _ _ h
  simpa only [issuing_gr] using he

/-- Settles O16: the dispatcher's answer is what the instruction leaves. -/
theorem taskAndEventInstructions : Obligations.TaskAndEventInstructions := by
  unfold Obligations.TaskAndEventInstructions
  refine ⟨?_, fun g now rd d at' b v s u hr hblock hu => ?_, ?_, ?_⟩
  · intro x n rd rs1 rs2 imm a s hx ha hlen hbad hecc d answers
    have hd := descAt_of_begins (begins_issuing s x.toIssue) ha hlen hbad hecc
    have hanswers (i : Instr) (at' : Option Nat) (he : exec i s = .next ((s.issuing x.toIssue).submit x.agent rd a at' x.ecc)) : answers i at' := by
      obtain ⟨hdone, hblocked⟩ := submit_of_desc (rd := rd) (at' := at') hd
      rw [hx] at he
      simp only [answers, hx]
      split
      · next v hv => rw [he, hdone v hv]
      · next b hv => rw [he, hblocked b hv]
    refine ⟨fun hi haddr => hanswers _ _ ?_, fun hi haddr => hanswers _ _ ?_⟩
    · rw [exec_issue hi, haddr]
    · rw [exec_issued hi, haddr]
  · have hblock' : ((s.advance now).thr (agentIx g)).block = .issue rd d at' b := hblock
    show execIssueUnblock g now s = _
    rw [execIssueUnblock, if_pos hr]
    simp only [hblock', hu]
  · intro x rd rs1 rs2 s hi r
    have he : exec (.cancel x rd rs1 rs2) s = _ := whenIssued_of_issues _ _ _ _ hi
    simp only [issuing_gr] at he
    rw [he, cancelResult_eq (cancel_code ..)]
  · intro x rs1 rs2 s hi e n
    have he := exec_sig hi
    refine ⟨fun h48 h63 hn => ?_, fun k hx h => ?_⟩
    · rw [if_neg (by simp only [not_or, not_lt]; exact ⟨fun h => h rfl, h48, h63, hn⟩)] at he
      have hb := begins_issuing s x
      refine ⟨_, he, ?_, ?_, ?_⟩
      · rw [State.own, retire_own, show State.thr (State.postThread ..) _ = (s.issuing x).thr (agentIx x.agent) from rfl, hb.thr_eq]; rfl
      · rw [State.retire, (hold_movesTurn ..).1]
        show (s.issuing x).hwSeq ++ [⟨n, e, (s.issuing x).readyCtr⟩] = _
        rw [hb.same.1]
      · rw [State.retire, (hold_movesTurn ..).1]
        show (s.issuing x).readyCtr + 1 = _
        rw [hb.same.1]
    · rw [if_pos (Or.inr h)] at he
      exact trapped_of_illegal hx he

/-! ### FENCE, YIELD, HALT -/

theorem exec_opcode30 {func : Nat} {f : State → Nat → State} (h : s.issues x (encR 0x30 rd rs1 rs2 func)) :
    threadR func x rd rs1 rs2 s f = .next (f (s.issuing x) (agentIx x.agent)) := whenIssued_of_issues _ _ _ _ h

theorem sameBut_running (h : s.sameBut t x) (ch : Nat) : t.running ch = s.running ch := by
  have hchans : t.chans = s.chans := by rw [h.1]
  unfold State.running State.chan
  rw [hchans]

/-- A thread bound to no channel becomes IDLE: only its own context changes. -/
theorem idle_of_unbound {i : Nat} (h : 256 ≤ (u.thr i).chan) : u.idle i = u.setThr i { u.thr i with
    st := .idle, wait := none, block := .none, halting := false, stopBy := none, chan := 0xFFFF,
    ringKey := some (seqKey (i / 4) (0x8000 + u.get (R.SEQ_TH_DMAP_BASE (i / 4) (i % 4)))) } := by
  unfold State.idle State.toIdle
  dsimp only
  rw [if_neg (by omega), if_neg (by omega)]

theorem haltThread_running {i : Nat} (h : (u.thr i).chan < 256 ∧ u.running (u.thr i).chan = true ∧ (u.thr i).stopBy = none) :
    u.haltThread i = u.trapThread i cHLT 0 := if_pos h

theorem haltThread_unbound {i : Nat} (h : 256 ≤ (u.thr i).chan) : u.haltThread i = if (u.thr i).storesUntil ≤ u.raw then (u.retire i 1 (fun t => t)).idle i
    else (u.setThr i { u.thr i with st := .blocked, block := .halted, halting := true, cycles := (u.thr i).cycles + 1 }).hold i 1 :=
  if_neg fun hc => absurd hc.1 (Nat.not_lt.2 h)

/-- HALT of a thread that is bound to no channel, its stores complete: it is IDLE with the instruction counted. -/
theorem State.Begins.idle (hb : s.Begins x u) (h : 256 ≤ (s.own x).chan) :
    s.sameBut ((u.retire (agentIx x.agent) 1 (fun t => t)).idle (agentIx x.agent)) x ∧
    ∃ t : Thread, ((u.retire (agentIx x.agent) 1 (fun t => t)).idle (agentIx x.agent)).own x = t ∧
      t.st = .idle ∧ t.instret = (s.own x).instret + 1 ∧ t.chan = 0xFFFF := by
  have hret : (u.retire (agentIx x.agent) 1 (fun t => t)).thr (agentIx x.agent) = _ := (hb.retire 1 _).1
  rw [idle_of_unbound (by rw [hret]; exact h)]
  refine ⟨sameBut_setThr _ _ _ _ (hb.retire 1 _).2, _, thr_setThr_same .., rfl, ?_, rfl⟩
  rw [hret]

theorem State.Begins.halting (hb : s.Begins x u) (c : Nat) :
    s.sameBut ((u.setThr (agentIx x.agent) { u.thr (agentIx x.agent) with st := .blocked, block := .halted, halting := true, cycles := c }).hold
      (agentIx x.agent) 1) x ∧
    ∃ t : Thread, ((u.setThr (agentIx x.agent) { u.thr (agentIx x.agent) with st := .blocked, block := .halted, halting := true, cycles := c }).hold
      (agentIx x.agent) 1).own x = t ∧ t.st = .blocked ∧ t.halting = true := by
  refine ⟨sameBut_moves _ _ _ _ (sameBut_setThr _ _ _ _ hb.same) (hold_movesTurn ..), _, movesTurn_own (hold_movesTurn ..), ?_⟩
  rw [State.own, thr_setThr_same]
  exact ⟨rfl, rfl⟩

theorem exec_fence (h : s.issues x (encR 0x30 rd rs1 rs2 0x001)) : exec (.fence x rd rs1 rs2) s = .next (
    if ((s.issuing x).thr (agentIx x.agent)).storesUntil ≤ (s.issuing x).raw then (s.issuing x).retire (agentIx x.agent) 1 (fun t => t)
    else (s.issuing x).blockOn (agentIx x.agent) 1 .fence) := by
  show execFence x rd rs1 rs2 s = _
  rw [execFence, exec_opcode30 h]

theorem exec_yield (h : s.issues x (encR 0x30 rd rs1 rs2 0x002)) :
    exec (.yield x rd rs1 rs2) s = .next ((s.issuing x).retire (agentIx x.agent) 1 (fun t => t)) := by
  show execYield x rd rs1 rs2 s = _
  rw [execYield, exec_opcode30 h]

theorem exec_halt (h : s.issues x (encR 0x30 rd rs1 rs2 0x003)) : exec (.halt x rd rs1 rs2) s = .next (
    if agentIx x.agent < 256 then (s.issuing x).haltThread (agentIx x.agent) else (s.issuing x).blockOn (agentIx x.agent) 1 .halted) := by
  show execHalt x rd rs1 rs2 s = _
  rw [execHalt, exec_opcode30 h]

theorem exec_halt_thread (hx : x.agent = .thread n) (h : s.issues x (encR 0x30 rd rs1 rs2 0x003)) :
    exec (.halt x rd rs1 rs2) s = .next ((s.issuing x).haltThread (agentIx x.agent)) := by
  rw [exec_halt h, if_pos (by rw [agentIx_of_thread hx]; exact n.isLt)]

/-- Settles O17: the agent's latest store decides whether it waits. -/
theorem fenceYieldHalt : Obligations.FenceYieldHalt := by
  unfold Obligations.FenceYieldHalt
  refine ⟨fun x rd rs1 rs2 s => ?_, fun g now s hr hblock hst => ?_, fun n now s hr hh hst hch => ?_⟩
  · have hb := begins_issuing s x
    have hraw := sameBut_raw hb.same
    refine ⟨fun hi => ?_, fun hi => ?_, fun hi => ⟨fun n hx hch hrun hstop => ?_, fun n hx hch => ?_, fun k hx => ?_⟩⟩
    · have he := exec_fence hi
      rw [hraw, hb.thr_eq] at he
      by_cases h : (s.own x).storesUntil ≤ max s.raw (s.issueAt x)
      · rw [if_pos h] at he ⊢
        exact ⟨_, he, (hb.retire 1 _).symm⟩
      · rw [if_neg h] at he ⊢
        exact ⟨_, he, hb.blockOn 1 .fence⟩
    · exact ⟨_, exec_yield hi, (hb.retire 1 _).symm⟩
    · have he := exec_halt_thread hx hi
      rw [haltThread_running (by rw [hb.thr_eq]; exact ⟨hch, (sameBut_running hb.same _).trans hrun, hstop⟩), agentIx_of_thread hx] at he
      exact trapped_of_exec hx he
    · have he := exec_halt_thread hx hi
      rw [haltThread_unbound (by rw [hb.thr_eq]; exact hch), hraw] at he
      have hsu : ((s.issuing x).thr (agentIx x.agent)).storesUntil = (s.own x).storesUntil := by rw [hb.thr_eq]
      rw [hsu] at he
      by_cases h : (s.own x).storesUntil ≤ max s.raw (s.issueAt x)
      · rw [if_pos h] at he
        obtain ⟨hsame, t, rfl, ht⟩ := hb.idle hch
        exact ⟨_, he, hsame, by rw [if_pos h]; exact ht⟩
      · rw [if_neg h] at he
        obtain ⟨hsame, t, rfl, ht⟩ := hb.halting (((s.issuing x).thr (agentIx x.agent)).cycles + 1)
        exact ⟨_, he, hsame, by rw [if_neg h]; exact ht⟩
    · have he := exec_halt hi
      rw [if_neg (by rw [agentIx_of_core hx]; omega)] at he
      obtain ⟨hsame, hown⟩ := hb.blockOn 1 .halted
      exact ⟨_, he, hsame, by rw [hown], by rw [hown]⟩
  · refine ⟨(s.advance now).unblock (agentIx g) (fun t => t), ?_, unblock_own ..⟩
    show execFenceComplete g now s = _
    rw [execFenceComplete, if_pos hr]
    exact congrArg _ (if_pos ⟨hblock, hst⟩)
  · refine ⟨((s.advance now).unblock n (fun t => t)).idle n, ?_, ?_⟩
    · show execHaltComplete n now s = _
      rw [execHaltComplete, if_pos hr]
      exact congrArg _ (if_pos ⟨hh, hst⟩)
    · have hun : ((s.advance now).unblock n (fun t => t)).thr n = _ := unblock_own ..
      rw [idle_of_unbound (by rw [hun]; exact hch), thr_setThr_same, hun]
      exact ⟨rfl, rfl, rfl⟩

end Sys2Proof.Machine
end

section
/-! The supervisor extension of a management core: its control registers, its handlers, SLEEP and its caches (03_morop.md R130 to R134). -/

namespace Sys2Proof.Machine

variable {s t u : State} {x : Issue} {k : CoreId} {rd rs1 rs2 : Reg} {imm : BitVec 16} {w : Nat}

/-! ### A core's instruction, and its traps outside a handler -/

theorem supervisor_of_core {f : State → Nat → State} (hx : x.agent = .core k) (h : s.issues x w) :
    supervisor x w s f = .next (f (s.issuing x) k) := by
  rw [supervisor, whenIssued_of_issues _ _ _ _ h]
  simp only [hx]

theorem trap_of_core {cause : Nat} {v : Word} : u.trap (256 + k) cause v = u.trapCore k cause v := by
  rw [State.trap, if_neg (by omega), Nat.add_sub_cancel_left]

theorem entered_of_trap {o : Out} {cause : Nat} {v : Word} (hx : x.agent = .core k) (hh : (s.core k).inHandler = false)
    (he : o = .next ((s.issuing x).trap (agentIx x.agent) cause v)) :
    ∃ t, o = .next t ∧ Sys2Proof.Spec.entered (s.core k) (t.core k) (s.own x) (t.own x) cause cause v := by
  have hcore : (s.issuing x).core k = s.core k := sameBut_core (sameBut_issuing s x) k
  have hentered := trapCore_entered (cause := cause) v ((congrArg CoreX.inHandler hcore).trans hh)
  rw [hcore, issuing_thr_core hx] at hentered
  rw [agentIx_of_core hx, trap_of_core] at he
  refine ⟨_, he, ?_⟩
  rw [own_of_core hx (s := State.trapCore ..)]
  exact hentered

theorem entered_of_illegal {o : Out} (hx : x.agent = .core k) (hh : (s.core k).inHandler = false) (he : o = .next ((s.issuing x).illegal x w)) :
    ∃ t, o = .next t ∧ Sys2Proof.Spec.entered (s.core k) (t.core k) (s.own x) (t.own x) 1 1 (BitVec.ofNat 64 w) := entered_of_trap hx hh he

/-! ### Control registers (R132) -/

/-- The numbers of R132. -/
def controlNumbers : List Nat := [0x000, 0x001, 0x002, 0x003, 0x004, 0x005, 0x006, 0x007, 0x010, 0x011, 0x012]

theorem control_of_unlisted {i m : Nat} (h : m ∉ controlNumbers) : u.control i m = none := by
  simp only [controlNumbers, List.mem_cons, List.not_mem_nil, or_false, not_or] at h
  unfold State.control
  split <;> simp at h ⊢

/-- The registers that a core's issue reads: its own are as they were, time has come, and INSTRET does not count the instruction yet. -/
theorem control_listed (hx : x.agent = .core k) : ∀ p ∈ Sys2Proof.Spec.control (s.core k) k ++
    [(0x011, (max s.raw x.now - (s.core k).resetRaw) * 3 / 2), (0x012, (s.own x).instret)],
    p.1 < 0x1000 ∧ (s.issuing x).control k p.1 = some (BitVec.ofNat 64 p.2) := by
  have hcore : (s.issuing x).core k = s.core k := sameBut_core (sameBut_issuing s x) k
  have hclocks : (s.issuing x).coreClocks k = (max s.raw x.now - (s.core k).resetRaw) * 3 / 2 := by
    rw [State.coreClocks, hcore, sameBut_raw (sameBut_issuing s x), State.issueAt, hx]
  have hret : ((s.issuing x).thr (256 + k)).instret = (s.own x).instret := by rw [issuing_thr_core hx]
  rw [← hclocks, ← hret, ← hcore]
  simp only [Sys2Proof.Spec.control, List.cons_append, List.nil_append, List.forall_mem_cons, BitVec.ofNat_toNat, BitVec.setWidth_eq]
  refine ⟨⟨by decide, rfl⟩, ⟨by decide, rfl⟩, ⟨by decide, rfl⟩, ⟨by decide, rfl⟩, ⟨by decide, rfl⟩, ⟨by decide, rfl⟩, ⟨by decide, rfl⟩,
    ⟨by decide, rfl⟩, ⟨by decide, rfl⟩, ⟨by decide, rfl⟩, ⟨by decide, rfl⟩, List.forall_mem_nil _⟩

theorem rdk_of_listed {v : Word} (hx : x.agent = .core k) (h : s.issues x (encI 0x38 rd rs1 imm)) (hn : imm.toNat < 0x1000)
    (hv : (s.issuing x).control k imm.toNat = some v) : exec (.rdk x rd rs1 imm) s = .next ((s.issuing x).alu x 1 rd v) := by
  show execRdk x rd rs1 imm s = _
  rw [execRdk, supervisor_of_core hx h, if_neg (Nat.not_le.2 hn), hv]

theorem rdk_of_unlisted (hx : x.agent = .core k) (h : s.issues x (encI 0x38 rd rs1 imm)) (hn : imm.toNat ∉ controlNumbers) :
    exec (.rdk x rd rs1 imm) s = .next ((s.issuing x).illegal x (encI 0x38 rd rs1 imm)) := by
  show execRdk x rd rs1 imm s = _
  rw [execRdk, supervisor_of_core hx h, control_of_unlisted hn, ite_self]

theorem wrk_of_listed (hx : x.agent = .core k) (h : s.issues x (encI 0x39 rd rs1 imm))
    (hn : ((s.issuing x).control k (imm.toNat % 0x1000)).isSome) : exec (.wrk x rd rs1 imm) s = .next (((s.issuing x).setCore k
      ((s.core k).setControl (imm.toNat % 0x1000) ((s.own x).rg rs1).toNat)).retire (agentIx x.agent) 3 (fun t => t)) := by
  obtain ⟨v, hv⟩ := Option.isSome_iff_exists.1 hn
  show execWrk x rd rs1 imm s = _
  rw [execWrk, supervisor_of_core hx h]
  dsimp only
  rw [hv, ← agentIx_of_core hx, issuing_gr, sameBut_core (sameBut_issuing s x)]

theorem wrk_of_unlisted (hx : x.agent = .core k) (h : s.issues x (encI 0x39 rd rs1 imm)) (hn : imm.toNat % 0x1000 ∉ controlNumbers) :
    exec (.wrk x rd rs1 imm) s = .next ((s.issuing x).illegal x (encI 0x39 rd rs1 imm)) := by
  show execWrk x rd rs1 imm s = _
  rw [execWrk, supervisor_of_core hx h]
  dsimp only
  rw [control_of_unlisted hn]

/-- A core's own context as a completion after a change of another part of the state leaves it. -/
theorem State.Begins.retire_of_thr (hb : s.Begins x u) (ht : t.thr (agentIx x.agent) = u.thr (agentIx x.agent)) (c : Nat) :
    (t.retire (agentIx x.agent) c (fun t => t)).own x = (s.own x).completed c 0 0 := by
  rw [State.own, retire_own, ht, hb.thr_eq]; rfl

/-- Settles O18: the listed registers are read and written, and any other number traps. -/
theorem coreControlRegisters : Obligations.CoreControlRegisters := by
  unfold Obligations.CoreControlRegisters
  intro x k rd rs1 imm s hx
  have hb := begins_issuing s x
  constructor
  · intro hi
    refine ⟨fun p hp hn => ?_, fun hn hh => entered_of_illegal hx hh (rdk_of_unlisted hx hi hn)⟩
    obtain ⟨hlt, hv⟩ := control_listed hx p hp
    exact ⟨_, rdk_of_listed hx hi (hn ▸ hlt) (hn ▸ hv), alu_sameBut .., alu_own ..⟩
  · intro hi v n writes
    have hwrites {d : CoreX} (hsome : ((s.issuing x).control k n).isSome) (hd : (s.core k).setControl n v = d) : writes d :=
      ⟨_, wrk_of_listed hx hi hsome, by rw [retire_core, core_setCore_same]; exact hd, hb.retire_of_thr (setCore_thr ..) 3⟩
    refine ⟨fun hn => hwrites (by rw [hn]; rfl) ?_, fun hn => hwrites (by rw [hn]; rfl) (by rw [hn]; rfl), fun hn => hwrites (by rw [hn]; rfl) (by rw [hn]; rfl),
      fun hn => hwrites (by rw [hn]; rfl) (by rw [hn]; rfl), fun hn => ?_, fun hn hh => entered_of_illegal hx hh (wrk_of_unlisted hx hi hn)⟩
    · rw [hn]
      simp [CoreX.setControl, bitAt]
    · simp only [List.mem_cons, List.not_mem_nil, or_false] at hn
      obtain hn | hn | hn | hn | hn | hn | hn := hn <;> exact hwrites (by rw [hn]; rfl) (by rw [hn]; rfl)

/-! ### Handlers (R133) -/

theorem exec_bkpt (h : s.issues x (encR 0x30 rd rs1 rs2 0x005)) :
    exec (.bkpt x rd rs1 rs2) s = .next ((s.issuing x).trap (agentIx x.agent) cBKP 0) := by
  show execBkpt x rd rs1 rs2 s = _
  rw [execBkpt, exec_opcode30 h]

/-- A trap inside a handler: slot 15, with the bank and the registers as they are. -/
theorem trapCore_again {i cause : Nat} {v : Word} (hi : i < 4096) (h : (u.core i).inHandler = true) :
    (∃ hd l, (u.trapCore i cause v).core i =
      { u.core i with resume := (u.thr (256 + i)).pc, reason := cause + 512, detail := v, held := hd, linePend := l }) ∧
    (u.trapCore i cause v).thr (256 + i) =
      { u.thr (256 + i) with pc := (u.core i).table + 16 * 15, st := .runnable, wait := none, block := .none } := by
  unfold State.trapCore
  extract_lets c t s1
  rw [if_pos h]
  have hrep (w : State) : w.Reported (fun _ => False) (w.coreErr i) := report_reported (mild_core hi)
  refine ⟨?_, ?_⟩
  · obtain ⟨hd, l, hcore⟩ := (hrep _).core i
    exact ⟨hd, l, by rw [hcore, setThr_core, core_setCore_same]⟩
  · rw [(hrep _).thr_eq, thr_setThr_same]

theorem enterHandler_entered (u : State) (i slot reason : Nat) (v : Word) : Sys2Proof.Spec.entered (u.core i) ((u.enterHandler i slot reason v).core i)
    (u.thr (256 + i)) ((u.enterHandler i slot reason v).thr (256 + i)) slot reason v := by
  have hrg (r : Nat) : ((u.enterHandler i slot reason v).thr (256 + i)).rg r =
      if r = 31 then (u.core i).b31 else if r = 30 then (u.core i).b30 else if r = 29 then (u.core i).b29 else (u.thr (256 + i)).rg r := by
    rw [← rg_exchanged]
    simp [State.enterHandler, swapBank_thr, Thread.rg]
  refine ⟨?_, ?_, ?_, ?_, ?_, ?_, ?_, ?_, ?_, ?_, hrg 29, hrg 30, hrg 31, fun r hr => ?frame, ?_, ?_⟩
  case frame => rw [hrg, if_neg (by omega), if_neg (by omega), if_neg (by omega)]
  all_goals simp [State.enterHandler, swapBank_core]

/-- A set bit leaves a number by subtraction. -/
theorem testBit_sub_two_pow {p l : Nat} (h : p.testBit l = true) (j : Nat) : (p - 2 ^ l).testBit j = (p.testBit j && decide (j ≠ l)) := by
  obtain ⟨y, rfl⟩ : ∃ y, p = 2 ^ l + y := ⟨p - 2 ^ l, (Nat.add_sub_cancel' (Nat.ge_two_pow_of_testBit h)).symm⟩
  have hy : y.testBit l = false := by rw [Nat.testBit_two_pow_add_eq] at h; simpa using h
  rw [Nat.add_sub_cancel_left]
  rcases Nat.lt_trichotomy j l with hj | rfl | hj
  · rw [Nat.testBit_two_pow_add_gt hj, decide_eq_true (by omega), Bool.and_true]
  · rw [hy, decide_eq_false (by simp), Bool.and_false]
  · have hbit : y / 2 ^ l % 2 = 0 := by rw [Nat.testBit_eq_decide_div_mod_eq] at hy; simpa using hy
    have hhigh (z : Nat) : z.testBit j = (z / 2 ^ l / 2).testBit (j - l - 1) := by
      rw [Nat.div_div_eq_div_mul, ← pow_succ, Nat.testBit_div_two_pow]
      congr 1
      omega
    have hdiv : (2 ^ l + y) / 2 ^ l / 2 = y / 2 ^ l / 2 := by rw [Nat.add_div_left _ (Nat.two_pow_pos l)]; omega
    rw [hhigh, hhigh (2 ^ l + y), hdiv, decide_eq_true (by omega), Bool.and_true]

end Sys2Proof.Machine
end

section
/-! A management core's handlers, SLEEP and caches (03_morop.md R130 to R133). -/

namespace Sys2Proof.Machine

variable {s t u : State} {x : Issue} {k : CoreId} {rd rs1 rs2 : Reg} {w : Nat}

/-! ### Entry and return -/

theorem exec_retk (hx : x.agent = .core k) (h : s.issues x (encR 0x3E rd rs1 rs2 0x001)) : exec (.retk x rd rs1 rs2) s = .next (
    if (s.core k).inHandler then (s.issuing x).leaveHandler k else (s.issuing x).illegal x (encR 0x3E rd rs1 rs2 0x001)) := by
  show execRetk x rd rs1 rs2 s = _
  rw [execRetk, supervisor_of_core hx h, sameBut_core (sameBut_issuing s x)]

theorem leaveHandler_core (u : State) (i : Nat) : (u.leaveHandler i).core i = { u.core i with
    irqOn := (u.core i).irqSaved, inHandler := false, bank := !(u.core i).bank, b29 := (u.thr (256 + i)).rg 29, b30 := (u.thr (256 + i)).rg 30,
    b31 := (u.thr (256 + i)).rg 31 } := by
  unfold State.leaveHandler State.retireTo
  rw [retire_core, swapBank_core, core_setCore_same, setCore_thr]

theorem leaveHandler_thr (u : State) (i : Nat) : ∃ t : Thread, (u.leaveHandler i).thr (256 + i) = t ∧ t.pc = (u.core i).resume ∧
    t.cycles = (u.thr (256 + i)).cycles + 3 ∧ ∀ r, t.rg r =
      if r = 31 then (u.core i).b31 else if r = 30 then (u.core i).b30 else if r = 29 then (u.core i).b29 else (u.thr (256 + i)).rg r := by
  unfold State.leaveHandler State.retireTo
  refine ⟨_, retire_own .., rfl, ?_, fun r => ?_⟩
  · rw [swapBank_thr, setCore_thr]
    simp [Thread.wg]
  · rw [← rg_exchanged]
    rw [swapBank_thr, setCore_thr, core_setCore_same]; rfl

theorem exec_coreHandlerEntry (hr : s.runs (.core k) = true) (hd : s.lineDue k = true)
    (hst : (s.thr (256 + k)).st = .runnable ∨ (s.thr (256 + k)).st = .waiting) : exec (.coreHandlerEntry k) s = .next (s.takeLine k) := by
  show execCoreHandlerEntry k s = _
  rw [execCoreHandlerEntry, if_pos ⟨hr, hd, hst⟩]

/-- The lowest line enabled and pending. -/
theorem lowestBit_lines {c : CoreX} {l : Nat} (h64 : l < 64) (hp : c.linePend.testBit l = true) (he : c.lineEn.testBit l = true)
    (hlow : ∀ j < l, (c.linePend.testBit j && c.lineEn.testBit j) = false) : lowestBit c.lines = l := by
  have hfind : (List.range 64).find? (fun i => bitAt c.lines i) = some l := by
    refine List.find?_range_eq_some.2 ⟨?_, List.mem_range.2 h64, fun j hj => ?_⟩
    · rw [bitAt_eq_testBit, CoreX.lines, Nat.testBit_and, hp, he]; rfl
    · rw [bitAt_eq_testBit, CoreX.lines, Nat.testBit_and, hlow j hj]; rfl
  rw [lowestBit, hfind]; rfl

/-- Settles O19: an entry saves where it came from and exchanges the bank, and RETK undoes it. -/
theorem handlerEntryAndReturn : Obligations.HandlerEntryAndReturn := by
  unfold Obligations.HandlerEntryAndReturn
  refine ⟨fun x k rd rs1 rs2 s hx hi => ⟨fun hh => entered_of_trap hx hh (exec_bkpt hi), fun hh => ?_⟩, fun k s l hr hd hst h64 hp he hlow => ?_,
    fun x k rd rs1 rs2 s hx hi => ⟨fun hh => ?_, fun hh => ?_⟩⟩
  · have hcore : (s.issuing x).core k = s.core k := sameBut_core (sameBut_issuing s x) k
    have hbk := exec_bkpt hi
    rw [agentIx_of_core hx, trap_of_core] at hbk
    obtain ⟨⟨hd, l, hc⟩, ht⟩ := trapCore_again (u := s.issuing x) (cause := cBKP) (v := 0) (show k.val < 4096 by omega) (by rw [hcore]; exact hh)
    rw [hcore, issuing_thr_core hx] at hc ht
    refine ⟨_, hbk, ?_, ?_, ?_⟩
    · rw [hc]; rfl
    · rw [own_of_core hx (s := State.trapCore ..), ht]
    · rw [own_of_core hx (s := State.trapCore ..), ht]
  · have hline := lowestBit_lines h64 hp he hlow
    have hent := enterHandler_entered (s.setCore k { s.core k with linePend := (s.core k).linePend - 2 ^ l }) k (16 + l) (256 + l) 0
    have htake : s.takeLine k = (s.setCore k { s.core k with linePend := (s.core k).linePend - 2 ^ l }).enterHandler k (16 + l) (256 + l) 0 := by
      rw [State.takeLine, hline, Nat.add_comm l 256]
    rw [core_setCore_same, setCore_thr] at hent
    refine ⟨_, exec_coreHandlerEntry hr hd hst, by rw [htake]; exact hent, fun j => ?_⟩
    rw [← testBit_sub_two_pow hp, htake]
    simp [State.enterHandler, swapBank_core]
  · have hcore : (s.issuing x).core k = s.core k := sameBut_core (sameBut_issuing s x) k
    have he := exec_retk hx hi
    rw [if_pos hh] at he
    obtain ⟨t, ht, hpc, hcyc, hrg⟩ := leaveHandler_thr (s.issuing x) k
    have hc := leaveHandler_core (s.issuing x) k
    rw [issuing_thr_core hx] at hc hrg hcyc
    rw [hcore] at hc hrg hpc
    refine ⟨_, he, ?_⟩
    rw [own_of_core hx (s := State.leaveHandler ..), ht, hc, hpc, hcyc, hrg, hrg, hrg]
    exact ⟨rfl, rfl, rfl, rfl, rfl, rfl, rfl, rfl, rfl, rfl, fun r hr => by rw [hrg, if_neg (by omega), if_neg (by omega), if_neg (by omega)]; rfl, rfl⟩
  · have he := exec_retk hx hi
    rw [if_neg (by rw [hh]; decide)] at he
    exact entered_of_illegal hx hh he

/-! ### A line of the data cache given up -/

/-- Nothing but memory has changed: the contexts and the cores are as they were. -/
def State.keepsContexts (s t : State) : Prop := t.threads = s.threads ∧ t.cores = s.cores

theorem keepsContexts_refl (s : State) : s.keepsContexts s := ⟨rfl, rfl⟩

theorem State.keepsContexts.trans (h : s.keepsContexts t) (g : t.keepsContexts u) : s.keepsContexts u := ⟨g.1.trans h.1, g.2.trans h.2⟩

theorem State.keepsContexts.thr (h : s.keepsContexts t) (i : Nat) : t.thr i = s.thr i := by unfold State.thr; rw [h.1]

theorem State.keepsContexts.core (h : s.keepsContexts t) (i : Nat) : t.core i = s.core i := by unfold State.core; rw [h.2]

theorem setBytes_keepsContexts (s : State) (a : Nat) (l : List (BitVec 8)) : s.keepsContexts (s.setBytes a l) := by
  induction l generalizing s a with
  | nil => exact keepsContexts_refl s
  | cons b l ih => exact State.keepsContexts.trans ⟨rfl, rfl⟩ (ih ..)

theorem encTags_keepsContexts (s : State) (e : Table Nat) : s.keepsContexts { s with encTags := e } := ⟨rfl, rfl⟩

theorem rekey_keepsContexts (s : State) (b : Nat) : s.keepsContexts (s.rekey b) := by
  unfold State.rekey
  dsimp only
  split
  · exact (setBytes_keepsContexts ..).trans (encTags_keepsContexts ..)
  · exact keepsContexts_refl s

theorem dStore_go_keepsContexts (s : State) (a : Nat) (l : List (BitVec 8)) : s.keepsContexts (State.dStore.go s a l) := by
  induction l generalizing s a with
  | nil => exact keepsContexts_refl s
  | cons b l ih => exact ((rekey_keepsContexts ..).trans ⟨rfl, rfl⟩).trans (ih ..)

theorem dStore_keepsContexts (s : State) (a : Nat) (l : List (BitVec 8)) : s.keepsContexts (s.dStore a l) :=
  (dStore_go_keepsContexts ..).trans ⟨rfl, rfl⟩

theorem writeLine_keepsContexts (s : State) (line : Nat) (l : List (BitVec 8)) : s.keepsContexts (s.writeLine line l) := by
  unfold State.writeLine
  dsimp only
  split
  · exact keepsContexts_refl s
  split
  · exact dStore_keepsContexts ..
  · exact setBytes_keepsContexts ..

/-- Once a line is given up no context has changed, and the cache holds every other line as before. -/
theorem dropData_contexts (s : State) (i line : Nat) (back : Bool) : (∀ j, (s.dropData i line back).thr j = s.thr j) ∧
    tfind ((s.dropData i line back).core i).dcache line = none ∧
    ∀ j, j ≠ line → tfind ((s.dropData i line back).core i).dcache j = tfind (s.core i).dcache j := by
  unfold State.dropData
  split
  · next h => exact ⟨fun _ => rfl, h, fun _ _ => rfl⟩
  · next l h =>
    extract_lets s1
    have hk : s.keepsContexts s1 := by
      unfold s1
      split
      · exact writeLine_keepsContexts ..
      · exact keepsContexts_refl s
    refine ⟨fun j => (setCore_thr ..).trans (hk.thr j), ?_, fun j hj => ?_⟩
    · rw [core_setCore_same]; exact tfind_tdel_same ..
    · rw [core_setCore_same, ← hk.core]; exact tfind_tdel_other _ _ _ hj

/-- A line that is not written back leaves device memory as it was. -/
theorem dropData_mem (s : State) (i line : Nat) : (s.dropData i line false).mem = s.mem := by
  unfold State.dropData
  split
  · rfl
  · simp only [Bool.false_eq_true, false_and, if_false]; rfl

theorem byte_setBytes (s : State) (a : Nat) (l : List (BitVec 8)) (b : Nat) :
    (s.setBytes a l).byte b = if a ≤ b ∧ b < a + l.length then l.getD (b - a) 0 else s.byte b := by
  induction l generalizing s a with
  | nil => rw [if_neg (by simp)]; rfl
  | cons v l ih =>
    rw [State.setBytes, ih, byte_setByte, List.length_cons]
    by_cases hb : b = a
    · rw [if_neg (by omega), if_pos hb, if_pos (by omega), hb, Nat.sub_self, List.getD_cons_zero]
    · rw [if_neg hb]
      by_cases hin : a + 1 ≤ b ∧ b < a + 1 + l.length
      · rw [if_pos hin, if_pos (by omega), show b - a = b - (a + 1) + 1 by omega, List.getD_cons_succ]
      · rw [if_neg hin, if_neg (by omega)]

/-- A dirty line of shared memory outside HBM goes back to its bytes. -/
theorem dropData_byte {i line : Nat} {l : CacheLine} (h : tfind (s.core i).dcache line = some l) (hd : l.dirty = true) (hm : mappedRange (line * 64) 64 = true)
    (hh : inHbm (line * 64) = false) (b : Nat) : (s.dropData i line true).byte b =
      if line * 64 ≤ b ∧ b < line * 64 + l.bytes.length then l.bytes.getD (b - line * 64) 0 else s.byte b := by
  rw [← byte_setBytes]
  unfold State.dropData
  rw [h]
  simp [hd, State.writeLine, State.writable, Config.lineBytes, hm, hh]; rfl

theorem mem_of_tfind {V : Type} {l : Table V} {j : Nat} {v : V} (h : tfind l j = some v) : (j, v) ∈ l := by
  induction l with
  | nil => cases h
  | cons p l ih =>
    unfold tfind at h
    split at h
    · next hp => cases h; subst hp; exact List.mem_cons_self
    · exact List.mem_cons_of_mem _ (ih h)

/-- Lines given up one after another: the cache holds none of them, and every other as before. -/
theorem foldl_dropData (l : List (Nat × CacheLine)) (s : State) (i : Nat) :
    let t := l.foldl (fun (s : State) (p : Nat × CacheLine) => s.dropData i p.1 true) s
    (∀ j, t.thr j = s.thr j) ∧ (∀ p ∈ l, tfind (t.core i).dcache p.1 = none) ∧
    ∀ j, (∀ p ∈ l, p.1 ≠ j) → tfind (t.core i).dcache j = tfind (s.core i).dcache j := by
  induction l generalizing s with
  | nil => exact ⟨fun _ => rfl, fun p hp => absurd hp List.not_mem_nil, fun _ _ => rfl⟩
  | cons q l ih =>
    intro t
    obtain ⟨hthr, hgone, hkept⟩ := ih (s.dropData i q.1 true)
    obtain ⟨hthr1, hgone1, hkept1⟩ := dropData_contexts s i q.1 true
    refine ⟨fun j => (hthr j).trans (hthr1 j), fun p hp => ?_, fun j hj => ?_⟩
    · by_cases h : ∃ p' ∈ l, p'.1 = p.1
      · obtain ⟨p', hp', he⟩ := h
        exact he ▸ hgone p' hp'
      · have hpq : p = q := (List.mem_cons.1 hp).resolve_right fun hp => h ⟨p, hp, rfl⟩
        exact (hkept p.1 fun p' hp' he => h ⟨p', hp', he⟩).trans (hpq ▸ hgone1)
    · rw [List.forall_mem_cons] at hj
      exact (hkept j hj.2).trans (hkept1 j hj.1.symm)

theorem dropAll_contexts (s : State) (i : Nat) : (∀ j, (s.dropAll i).thr j = s.thr j) ∧ ∀ j, tfind ((s.dropAll i).core i).dcache j = none := by
  obtain ⟨hthr, hgone, hkept⟩ := foldl_dropData (s.core i).dcache s i
  refine ⟨hthr, fun j => ?_⟩
  by_cases h : ∃ p ∈ (s.core i).dcache, p.1 = j
  · obtain ⟨p, hp, rfl⟩ := h
    exact hgone p hp
  · refine (hkept j fun p hp he => h ⟨p, hp, he⟩).trans ?_
    cases hf : tfind (s.core i).dcache j with
    | none => rfl
    | some v => exact absurd ⟨_, mem_of_tfind hf, rfl⟩ h

/-! ### The instructions -/

theorem exec_sleep (hx : x.agent = .core k) (h : s.issues x (encR 0x3E rd rs1 rs2 0x002)) : exec (.sleep x rd rs1 rs2) s = .next (
    if (s.core k).linePend &&& (s.core k).lineEn ≠ 0 then (s.issuing x).retire (256 + k) 1 (fun t => t)
    else (s.issuing x).blockOn (256 + k) 1 .sleep) := by
  show execSleep x rd rs1 rs2 s = _
  rw [execSleep, supervisor_of_core hx h, sameBut_core (sameBut_issuing s x)]; rfl

theorem gr_issuing_core (hx : x.agent = .core k) (r : Reg) : (s.issuing x).gr (256 + k) r = (s.own x).rg r := by
  rw [← agentIx_of_core hx]; exact issuing_gr ..

theorem exec_dcinv (hx : x.agent = .core k) (h : s.issues x (encR 0x3E rd rs1 rs2 0x003)) : exec (.dcinv x rd rs1 rs2) s =
    .next (((s.issuing x).dropData k (((s.own x).rg rs1).toNat / 64) false).retire (256 + k) 2 (fun t => t)) := by
  show execDcinv x rd rs1 rs2 s = _
  rw [execDcinv, supervisor_of_core hx h, gr_issuing_core hx]; rfl

theorem exec_dcwb (hx : x.agent = .core k) (h : s.issues x (encR 0x3E rd rs1 rs2 0x004)) : exec (.dcwb x rd rs1 rs2) s =
    .next (((s.issuing x).dropData k (((s.own x).rg rs1).toNat / 64) true).retire (256 + k) 2 (fun t => t)) := by
  show execDcwb x rd rs1 rs2 s = _
  rw [execDcwb, supervisor_of_core hx h, gr_issuing_core hx]; rfl

theorem exec_dcwball (hx : x.agent = .core k) (h : s.issues x (encR 0x3E rd rs1 rs2 0x005)) : exec (.dcwball x rd rs1 rs2) s =
    .next (((s.issuing x).dropAll k).retire (256 + k) 0 (fun t => t)) := by
  show execDcwball x rd rs1 rs2 s = _
  rw [execDcwball, supervisor_of_core hx h]

theorem exec_icinv (hx : x.agent = .core k) (h : s.issues x (encR 0x3E rd rs1 rs2 0x006)) : exec (.icinv x rd rs1 rs2) s =
    .next (((s.issuing x).setCore k { (s.issuing x).core k with icache := [] }).retire (256 + k) 4 (fun t => t)) := by
  show execIcinv x rd rs1 rs2 s = _
  rw [execIcinv, supervisor_of_core hx h]

/-- Settles O20: a line is given up with or without its bytes, and the contexts stay. -/
theorem sleepAndCaches : Obligations.SleepAndCaches := by
  unfold Obligations.SleepAndCaches
  constructor
  · intro x k rd rs1 rs2 s hx
    have hb := begins_issuing s x
    have hcore : (s.issuing x).core k = s.core k := sameBut_core hb.same k
    have hretire {t : State} (ht : ∀ j, t.thr j = (s.issuing x).thr j) (c : Nat) :
        (t.retire (256 + k) c (fun t => t)).own x = (s.own x).completed c 0 0 := by
      rw [← agentIx_of_core hx]; exact hb.retire_of_thr (ht _) c
    refine ⟨fun hi => ?_, fun hi => ?_, fun hi => ?_, fun hi => ?_, fun hi => ?_⟩
    · have he := exec_sleep hx hi
      rw [← agentIx_of_core hx] at he
      by_cases h : (s.core k).linePend &&& (s.core k).lineEn ≠ 0
      · rw [if_pos h] at he
        exact ⟨_, he, (hb.retire 1 _).2, by rw [if_pos h]; exact (hb.retire 1 _).1⟩
      · rw [if_neg h] at he
        exact ⟨_, he, (hb.blockOn 1 .sleep).1, by rw [if_neg h]; exact (hb.blockOn 1 .sleep).2⟩
    · obtain ⟨hthr, hgone, hkept⟩ := dropData_contexts (s.issuing x) k (((s.own x).rg rs1).toNat / 64) false
      refine ⟨_, exec_dcinv hx hi, ?_, ?_, fun j hj => ?_, hretire hthr 2⟩
      · rw [retire_mem, dropData_mem, sameBut_mem hb.same]
      · rw [retire_core, hgone]
      · rw [retire_core, hkept j hj, hcore]
    · obtain ⟨hthr, hgone, hkept⟩ := dropData_contexts (s.issuing x) k (((s.own x).rg rs1).toNat / 64) true
      refine ⟨_, exec_dcwb hx hi, hretire hthr 2, by rw [retire_core, hgone], ?_⟩
      intro l hl hd h64 a hm hh b
      have hbyte := dropData_byte (s := s.issuing x) (by rw [hcore]; exact hl) hd hm hh b
      rw [h64] at hbyte
      rw [State.byte, retire_mem]
      refine hbyte.trans ?_
      rw [State.byte, sameBut_mem hb.same]; rfl
    · obtain ⟨hthr, hgone⟩ := dropAll_contexts (s.issuing x) k
      exact ⟨_, exec_dcwball hx hi, fun j => by rw [retire_core, hgone], hretire hthr 0⟩
    · exact ⟨_, exec_icinv hx hi, by rw [retire_core, core_setCore_same], hretire (fun _ => setCore_thr ..) 4⟩
  · intro k s hr hblock hl
    refine ⟨s.unblock (256 + k) (fun t => t), ?_, unblock_own ..⟩
    show execCoreSleepWake k s = _
    rw [execCoreSleepWake, if_pos ⟨hr, hblock, hl⟩]

end Sys2Proof.Machine
end

section
/-! A thread's contexts while its tasks end and its channel stops: the records of completed tasks change its ring, and nothing else (03_morop.md R79, R120,
R177; 04_dispatcher.md R307). -/

namespace Sys2Proof.Machine

/-- Task records have been posted: of a context only CQTAIL, the held records and EPEND may have changed. -/
def State.Recorded (s t : State) : Prop := ∀ j, ∃ q h e, t.thr j = { s.thr j with cqTail := q, held := h, epend := e }

variable {s t u : State}

theorem State.Recorded.of_threads (h : t.threads = s.threads) : s.Recorded t := fun j => ⟨_, _, _, by unfold State.thr; rw [h]⟩

theorem State.Recorded.refl : s.Recorded s := .of_threads rfl

theorem State.Recorded.trans (h : s.Recorded t) (g : t.Recorded u) : s.Recorded u := fun j => by
  obtain ⟨q, l, e, hj⟩ := h j
  obtain ⟨q', l', e', gj⟩ := g j
  exact ⟨q', l', e', by rw [gj, hj]⟩

theorem State.Recorded.foldl {α : Type} {f : State → α → State} (h : ∀ (s : State) a, s.Recorded (f s a)) (l : List α) (s : State) :
    s.Recorded (l.foldl f s) := by
  induction l generalizing s with
  | nil => exact .refl
  | cons a l ih => exact (h s a).trans (ih _)

theorem State.Recorded.ite {c : Prop} [Decidable c] (ht : s.Recorded t) (hu : s.Recorded u) : s.Recorded (if c then t else u) := by
  split <;> assumption

/-- A context replaced by itself with other records. -/
theorem setThr_recorded {i q : Nat} {h : List CompRec} {e : Word} (ht : t.threads = s.threads) :
    s.Recorded (t.setThr i { s.thr i with cqTail := q, held := h, epend := e }) := fun j => by
  have hthr : t.thr j = s.thr j := by unfold State.thr; rw [ht]
  by_cases hj : j = i
  · subst hj; exact ⟨q, h, e, thr_setThr_same ..⟩
  · exact ⟨(s.thr j).cqTail, (s.thr j).held, (s.thr j).epend, by rw [thr_setThr_other _ _ _ _ hj, hthr]⟩

theorem setEvent_recorded {i e : Nat} : s.Recorded (s.setEvent i e) :=
  setThr_recorded (q := (s.thr i).cqTail) (h := (s.thr i).held) rfl

theorem raiseLine_recorded {k l : Nat} : s.Recorded (s.raiseLine k l) := .of_threads (raiseLine_threads ..)

theorem postThread_recorded {t e : Nat} : s.Recorded (s.postThread t e) := .of_threads (postThread_threads ..)

theorem postErr_recorded {i status : Nat} : s.Recorded (s.postErr i status) :=
  .ite .refl (.ite postThread_recorded (setEvent_recorded.trans raiseLine_recorded))

/-! ### Steps that leave every context -/

@[simp] theorem freeTask_threads (s : State) (e : Nat) : (s.freeTask e).threads = s.threads := by
  unfold State.freeTask
  extract_lets t d s1 s2 s3
  have h2 : s2.threads = s.threads := by unfold s2; rw [apply_ite State.threads]; simp [s1]
  have h3 : s3.threads = s.threads := by unfold s3; rw [apply_ite State.threads]; simp [h2]
  split <;> simp [h3]

@[simp] theorem seqWr_threads (s : State) (k n v : Nat) : (s.seqWr k n v).threads = s.threads := by rw [seqWr_eq]

@[simp] theorem wr_threads (s : State) (a n v : Nat) : (s.wr a n v).threads = s.threads := by
  induction n generalizing s a v with
  | zero => rfl
  | succ n ih => rw [State.wr, ih, setByte_threads]

@[simp] theorem ringWr_threads (s : State) (i off : Nat) (r : CompRec) : (s.ringWr i off r).threads = s.threads := by
  unfold State.ringWr
  dsimp only
  rw [apply_ite State.threads, wr_threads, seqWr_threads, ite_self]

@[simp] theorem unlist_threads (s : State) (e : Nat) : (s.unlist e).threads = s.threads := by
  unfold State.unlist
  dsimp only
  split
  · simp
  · rw [apply_ite State.threads]; simp
  · rfl

@[simp] theorem setPool_threads (s : State) (ch : Nat) (p : PoolSt) : (s.setPool ch p).threads = s.threads := set_threads ..

@[simp] theorem returnToken_threads (s : State) (ch b : Nat) : (s.returnToken ch b).threads = s.threads := by
  unfold State.returnToken
  extract_lets s1
  have h1 : s1.threads = s.threads := (dec_threads ..).trans (inc_threads ..)
  split
  · exact (setPool_threads ..).trans h1
  · exact h1

@[simp] theorem frameDone_threads (s : State) (ch n : Nat) : (s.frameDone ch n).threads = s.threads := by
  unfold State.frameDone
  dsimp only
  split
  · rfl
  split
  · simp
  · rw [apply_ite State.threads]; simp

/-! ### The end of tasks, and of a channel's frames -/

theorem writeRec_recorded {i : Nat} {r : CompRec} : s.Recorded (s.writeRec i r) := by
  unfold State.writeRec
  extract_lets t s1 s2 s3
  have h2 : s.Recorded s2 := setThr_recorded (q := (t.cqTail + 1) % t.cqLen) (h := t.held) (e := t.epend) (ringWr_threads s i (16 * t.cqTail) r)
  have h3 : s.Recorded s3 := h2.trans (.of_threads (freeTask_threads ..))
  exact h3.trans (.ite postThread_recorded (setEvent_recorded.trans raiseLine_recorded))

theorem endTask_recorded {e status cost : Nat} : s.Recorded (s.endTask e status cost) := by
  unfold State.endTask
  extract_lets t s1 s2 s3 r th
  have h2 : s2.threads = s.threads := by
    unfold s2
    split
    · rw [apply_ite State.threads]; simp [s1]
    · simp [s1]
  have h3 : s.Recorded s3 := .trans (.of_threads ((setTask_threads ..).trans h2)) postErr_recorded
  have h4 (l : List CompRec) : s3.Recorded (s3.setThr t.issuer { th with held := l }) := setThr_recorded (q := th.cqTail) (e := th.epend) rfl
  exact h3.trans (.ite writeRec_recorded (h4 _))

theorem dropTask_recorded {e status : Nat} : s.Recorded (s.dropTask e status) := .trans (.of_threads (unlist_threads ..)) endTask_recorded

theorem stopTasks_recorded {ch : Nat} : s.Recorded (s.stopTasks ch) := .foldl (fun _ _ => dropTask_recorded) _ _

theorem sweepStopped_recorded {ch : Nat} : s.Recorded (s.sweepStopped ch) := by
  unfold State.sweepStopped
  extract_lets busy s1
  have h1 : s.Recorded s1 := .of_threads (by unfold s1; rw [apply_ite State.threads]; exact ite_self _)
  exact .ite .refl (.ite h1 (h1.trans (.foldl (fun _ _ => .ite .refl (.of_threads (frameDone_threads ..))) _ _)))

theorem toIdle_thr (s : State) (i : Nat) : ((s.toIdle i).thr i).st = .idle ∧ ((s.toIdle i).thr i).cause = (s.thr i).cause := by
  unfold State.toIdle
  extract_lets th ring s1 s2 c
  have hown : s1.thr i = _ := thr_setThr_same ..
  split
  · obtain ⟨q, l, e, h⟩ : ∃ q l e, s2.thr i = { s1.thr i with cqTail := q, held := l, epend := e } :=
      State.Recorded.trans (.of_threads (setFlag_threads ..)) stopTasks_recorded i
    rw [show State.thr (State.setChan ..) i = s2.thr i by unfold State.thr; rw [setChan_threads], h, hown]
    exact ⟨rfl, rfl⟩
  · rw [hown]; exact ⟨rfl, rfl⟩

/-- A thread that reaches IDLE keeps its cause. -/
theorem idle_thr (s : State) (i : Nat) : ((s.idle i).thr i).st = .idle ∧ ((s.idle i).thr i).cause = (s.thr i).cause := by
  unfold State.idle
  extract_lets ch s1
  split
  · obtain ⟨q, l, e, h⟩ := State.Recorded.trans (s := s1) (.of_threads (set_threads ..)) (sweepStopped_recorded (ch := ch)) i
    rw [h]
    exact toIdle_thr s i
  · exact toIdle_thr s i

end Sys2Proof.Machine
end

section
/-! START, STOP and RESUME of a thread, its stop limit, and the issue slot of a sequencer (03_morop.md R80 to R82, R127, R129, R138, R751). -/

namespace Sys2Proof.Machine

variable {s t u : State} {n : Thr}

/-! ### The commands -/

theorem exec_threadStop (hu : s.up = true) (hh : s.halted = false) : exec (.threadStop n) s = .next (s.stopThread n) := by
  show execThreadStop n s = _
  rw [execThreadStop, whenWr_of_up hu hh]; simp [State.threadCtrl]

theorem exec_threadResume (hu : s.up = true) (hh : s.halted = false) :
    exec (.threadResume n) s = .next (if (s.thr n).st = .trapped then s.resumeThread n else s) := by
  show execThreadResume n s = _
  rw [execThreadResume, whenWr_of_up hu hh]; simp [State.threadCtrl]

theorem startThread_of_ready (hst : (s.thr n).st = .idle) (he : s.flag (R.SEQ_CTRL_ENABLE (n.val / 4)) = true) (ht : s.hasTasks n = false) :
    s.startThread n = if s.mapOk n then s.startNow n else (s.setThr n { s.thr n with
      st := .trapped, cause := cMAP, tval := 0, ringKey := none }).noteTrap n cMAP 0 := by
  unfold State.startThread
  rw [if_neg (by simp [hst, he, ht])]

/-- A map with which START acts has a START entry. -/
theorem entrySlot_of_mapOk (h : s.mapOk n = true) : ∃ v, s.entrySlot n 0 false = some v := by
  unfold State.mapOk at h
  exact Option.isSome_iff_exists.1 (Bool.and_eq_true_iff.1 h).2

theorem stopThread_idle (s : State) (n : Thr) : ((s.stopThread n).thr n).st = .idle := by
  unfold State.stopThread
  split
  · assumption
  · exact (idle_thr s n).1

theorem resumeThread_eq (h : (s.thr n).st = .trapped) : s.resumeThread n = s.setThr n { s.thr n with
    st := .runnable, pc := ((s.entrySlot n 0 true).orElse (fun _ => s.entrySlot n 0 false)).elim 0 (fun v => s.slotAddr n v), ven := true,
    runcount := 0 } := if_pos h

/-- A thread past its stop limit: its cause is STOPTO, whatever the report of it isolates, and it is IDLE. -/
theorem exec_stopTimeout {now b : Nat} (hl : s.live = true) (hs : (s.thr n).stopBy = some b) (hb : b ≤ max s.raw now) (hh : (s.thr n).halting = false)
    (hst : (s.thr n).st ≠ .idle) : exec (.stopTimeout n now) s = .next ((((s.advance now).setThr n { s.thr n with
      cause := cSTOPTO, tval := 0 }).noteTrap n cSTOPTO 0).idle n) := by
  have hraw : b ≤ (s.advance now).raw := hb
  show execStopTimeout n now s = _
  rw [execStopTimeout, whenLive, if_pos hl]
  simp only [advance_thr, hs, hh, hraw, hst, ne_eq, not_false_eq_true, Bool.not_false, and_self, if_true]

theorem noteTrap_cause {cause : Nat} {v : Word} : ((s.noteTrap n cause v).thr n).cause = (s.thr n).cause := by
  rcases noteTrap_thr (s := s) (cause := cause) (v := v) n.isLt n.isLt with h | ⟨-, h⟩ <;> rw [h]

/-! ### The issue slot (R80 to R82) -/

theorem lastIssuer_lt (s : State) (q : Nat) : s.lastIssuer q < 4 := by
  unfold State.lastIssuer
  refine List.foldlRecOn (motive := (· < 4)) _ _ (by decide) fun b hb j hj => ?_
  split
  · exact List.mem_range.1 hj
  · exact hb

/-- The rank of a thread of a sequencer for the issue slot: its priority, then its place after the thread that issued last. -/
def State.issueRank (s : State) (q j : Nat) : Nat := 4 * s.prio (4 * q + j) + (3 - (j + 3 - s.lastIssuer q) % 4)

theorem outranksIssue_iff {q i j : Nat} (hi : i < 4) (hj : j < 4) :
    s.outranksIssue (4 * q + i) (4 * q + j) = true ↔ s.issueRank q j < s.issueRank q i := by
  have hq : (4 * q + j) / 4 = q := by omega
  have hmi : (4 * q + i) % 4 = i := by omega
  have hmj : (4 * q + j) % 4 = j := by omega
  have hpi : (i + 3 - s.lastIssuer q) % 4 < 4 := Nat.mod_lt _ (by decide)
  have hpj : (j + 3 - s.lastIssuer q) % 4 < 4 := Nat.mod_lt _ (by decide)
  unfold State.outranksIssue State.issueRank
  simp only [hq, hmi, hmj, Bool.or_eq_true, Bool.and_eq_true, decide_eq_true_eq]
  omega

theorem issueRank_inj {q i j : Nat} (hi : i < 4) (hj : j < 4) (h : s.issueRank q i = s.issueRank q j) : i = j := by
  have hl := lastIssuer_lt s q
  unfold State.issueRank at h
  omega

/-- A thread has the slot where no other that can issue has a higher rank. -/
theorem hasSlot_iff {q j c : Nat} (hj : j < 4) : s.hasSlot (4 * q + j) c = true ↔
    ∀ i < 4, i ≠ j → (s.thr (4 * q + i)).st = .runnable → s.ownCycle (4 * q + i) ≤ c → s.issueRank q i ≤ s.issueRank q j := by
  have hq : (4 * q + j) / 4 * 4 = 4 * q := by omega
  unfold State.hasSlot
  rw [List.all_eq_true, hq]
  refine forall_congr' fun i => ?_
  rw [List.mem_range]
  refine imp_congr_right fun hi => ?_
  have hne : (4 * q + i = 4 * q + j) ↔ i = j := by omega
  simp only [Bool.or_eq_true, decide_eq_true_eq, hne, Bool.not_eq_eq_eq_not, Bool.not_true, ← Bool.not_eq_true, Bool.and_eq_true, outranksIssue_iff hi hj]
  refine ⟨fun h hij hst hc => Nat.not_lt.1 fun hlt => (h.resolve_left hij) ⟨⟨hst, hc⟩, hlt⟩, fun h => ?_⟩
  by_cases hij : i = j
  · exact .inl hij
  · exact .inr fun ⟨⟨hst, hc⟩, hlt⟩ => Nat.not_lt.2 (h hij hst hc) hlt

/-- Settles O22: START and RESUME act on a context in the right state, STOP and the stop limit end it, and the highest rank has the slot. -/
theorem threadStartStopResume : Obligations.ThreadStartStopResume := by
  unfold Obligations.ThreadStartStopResume
  constructor
  · intro n s hu hh
    refine ⟨fun hst he ht => ⟨fun hm => ?_, fun hm => ?_⟩, fun h => ?_, ?_, fun hst => ?_, fun hst => ?_, fun now b hl hs hb hh' hst => ?_⟩
    · obtain ⟨v, hv⟩ := entrySlot_of_mapOk hm
      have hown : (s.startNow n).thr n = _ := thr_setThr_same ..
      refine ⟨_, v, (exec_threadStart hu hh).trans (congrArg _ ((startThread_of_ready hst he ht).trans (if_pos hm))), hv, ?_⟩
      rw [hown, hv]
      exact ⟨rfl, fun r => by simp [Thread.rg, tget, tfind], rfl, rfl, rfl, rfl, rfl, rfl, rfl, rfl, rfl, rfl, rfl, rfl, rfl,
        fun j hj => thr_setThr_other _ _ _ _ hj, rfl⟩
    · refine ⟨_, (exec_threadStart hu hh).trans (congrArg _ ((startThread_of_ready hst he ht).trans (if_neg (by rw [hm]; decide)))), ?_⟩
      rcases noteTrap_thr (s := s.setThr n { s.thr n with st := .trapped, cause := cMAP, tval := 0, ringKey := none }) (cause := cMAP) (v := 0)
        n.isLt n.isLt with h | ⟨-, h⟩ <;> rw [h, thr_setThr_same] <;> exact ⟨rfl, rfl, rfl⟩
    · rw [exec_threadStart hu hh, State.startThread, if_pos (by simpa using h)]
    · exact ⟨_, exec_threadStop hu hh, stopThread_idle s n⟩
    · refine ⟨_, (exec_threadResume hu hh).trans (congrArg _ ((if_pos hst).trans (resumeThread_eq hst))), rfl, fun j hj => thr_setThr_other _ _ _ _ hj,
        ?_, fun v hv => ?_, fun v h0 hv => ?_⟩
      · rw [thr_setThr_same]
      · rw [thr_setThr_same, hv]; rfl
      · rw [thr_setThr_same, h0, hv]; rfl
    · rw [exec_threadResume hu hh, if_neg hst]
    · refine ⟨_, exec_stopTimeout hl hs hb hh' hst, (idle_thr ..).1, ?_⟩
      rw [(idle_thr ..).2, noteTrap_cause, thr_setThr_same]; rfl
  · intro q c s may hmay
    classical
    obtain ⟨i, hi, hmi⟩ := hmay
    obtain ⟨j, hj, hmax⟩ := ((Finset.range 4).filter may).exists_max_image (s.issueRank q) ⟨i, Finset.mem_filter.2 ⟨Finset.mem_range.2 hi, hmi⟩⟩
    obtain ⟨hj4, hmj⟩ := Finset.mem_filter.1 hj
    have hj4 := Finset.mem_range.1 hj4
    have hle (i : Nat) (hi : i < 4) (hm : may i) : s.issueRank q i ≤ s.issueRank q j := hmax i (Finset.mem_filter.2 ⟨Finset.mem_range.2 hi, hm⟩)
    refine ⟨j, hj4, hmj, (hasSlot_iff hj4).2 fun i hi _ hst hc => hle i hi ⟨hst, hc⟩, fun i hi hm => ⟨?_, fun hne => ?_⟩⟩
    · have h := hle i hi hm
      have hp : (i + 3 - s.lastIssuer q) % 4 < 4 := Nat.mod_lt _ (by decide)
      unfold State.issueRank at h
      omega
    · rw [← Bool.not_eq_true, hasSlot_iff hi]
      intro h
      exact hne (issueRank_inj hi hj4 ((hle i hi hm).antisymm (h j hj4 hne.symm hmj.1 hmj.2)))

end Sys2Proof.Machine
end

section
/-! The sequencer memories through SEQ_MEM_DATA: what a write and a read leave, and where ADDR goes (03_morop.md R125, R135, R137). -/

namespace Sys2Proof.Machine

variable {s t u : State} {n : Nat}

theorem get_lt (s : State) (f : Field) : s.get f < 2 ^ f.w := Nat.mod_lt _ (Nat.two_pow_pos _)

/-- ADDR after an access: the next word of the same memory under AUTOINC. -/
def nextAddr (s : State) (n : Nat) : Nat :=
  if s.flag (R.SEQ_MEM_ADDR_AUTOINC n) = true then s.get (R.SEQ_MEM_ADDR_ADDR n) / 0x1000 * 0x1000 + (s.get (R.SEQ_MEM_ADDR_ADDR n) + 1) % 0x1000
  else s.get (R.SEQ_MEM_ADDR_ADDR n)

theorem seqAdvance_addr (s : State) (n : Nat) : (s.seqAdvance n).get (R.SEQ_MEM_ADDR_ADDR n) = nextAddr s n := by
  have hlt : s.get (R.SEQ_MEM_ADDR_ADDR n) < 2 ^ 13 := get_lt s (R.SEQ_MEM_ADDR_ADDR n)
  unfold State.seqAdvance nextAddr
  split
  · dsimp only
    rw [get_set_same _ _ _ (show 3 + 13 ≤ 64 by decide)]
    exact Nat.mod_eq_of_lt (by change _ < 2 ^ 13; omega)
  · rfl

theorem set_regs_only (s : State) (f : Field) (x : Nat) : s.set f x = { s with regs := (s.set f x).regs } := rfl

theorem took_free_only (s : State) : s.took = { s with freeCtr := s.took.freeCtr } := rfl

theorem took_reg (s : State) (k : Nat) : s.took.reg k = s.reg k := rfl

theorem seqAdvance_eq (s : State) (n : Nat) : s.seqAdvance n = { s with regs := (s.seqAdvance n).regs } := by
  by_cases h : s.flag (R.SEQ_MEM_ADDR_AUTOINC n) = true
  · rw [State.seqAdvance, if_pos h]; exact set_regs_only ..
  · rw [State.seqAdvance, if_neg h]

theorem get_of_reg {f : Field} (h : t.reg f.key = s.reg f.key) : t.get f = s.get f := by rw [State.get, State.get, h]

/-- ADDR and AUTOINC lie in one register. -/
theorem autoinc_key (n : Nat) : (R.SEQ_MEM_ADDR_AUTOINC n).key = (R.SEQ_MEM_ADDR_ADDR n).key := rfl

/-- Where the register is as it was, ADDR moves on as from there. -/
theorem nextAddr_of_reg (h : t.reg (R.SEQ_MEM_ADDR_ADDR n).key = s.reg (R.SEQ_MEM_ADDR_ADDR n).key) : nextAddr t n = nextAddr s n := by
  rw [nextAddr, nextAddr, State.flag, State.flag, get_of_reg h, get_of_reg (f := R.SEQ_MEM_ADDR_AUTOINC n) (s := s) (by rw [autoinc_key, h])]

theorem ecc_key_ne (n : Nat) : (R.SEQ_ECC_COUNT_COUNT n).key ≠ (R.SEQ_MEM_ADDR_ADDR n).key := by
  simp only [R.SEQ_ECC_COUNT_COUNT, R.SEQ_MEM_ADDR_ADDR]; omega

theorem memErr_key_ne (n : Nat) : (R.SEQ_STATUS_MEM_ERR n).key ≠ (R.SEQ_MEM_ADDR_ADDR n).key := by
  simp only [R.SEQ_STATUS_MEM_ERR, R.SEQ_MEM_ADDR_ADDR]; omega

theorem seqAdvance_reg_other {k : Nat} (h : k ≠ (R.SEQ_MEM_ADDR_ADDR n).key) : (s.seqAdvance n).reg k = s.reg k := by
  unfold State.seqAdvance
  split
  · exact reg_set_other _ _ _ _ h
  · rfl

/-- The 8 bytes at a key written, with a new check code. -/
def State.portWrite (s : State) (k v : Nat) : State :=
  { s.seqWr k 8 v with seqBad := s.seqBad.filter (fun w => decide (w ≠ k / 8)) }

theorem portWrite_stored (s : State) (k v : Nat) : Sys2Proof.Spec.stored s (s.portWrite k v) k 8 v := by
  refine ⟨fun j => seqByte_seqWr s k 8 v j, fun w => ?_⟩
  rw [State.portWrite, List.mem_filter]
  simp

theorem seqWr_reg (s : State) (k n v j : Nat) : (s.seqWr k n v).reg j = s.reg j := by rw [seqWr_eq]; rfl

theorem seqWr_mem (s : State) (k n v : Nat) : (s.seqWr k n v).mem = s.mem := by rw [seqWr_eq]

theorem portWrite_reg (s : State) (k v j : Nat) : (s.portWrite k v).reg j = s.reg j := seqWr_reg s k 8 v j

theorem portWrite_mem (s : State) (k v : Nat) : (s.portWrite k v).mem = s.mem := seqWr_mem s k 8 v

theorem portWrite_threads (s : State) (k v : Nat) : (s.portWrite k v).threads = s.threads := seqWr_threads s k 8 v

theorem seqDataWrite_of_free {v : Nat} (h : 0x8000 ≤ 8 * s.get (R.SEQ_MEM_ADDR_ADDR n) ∨ ∀ j < 4, (s.thr (4 * n + j)).st = .idle) :
    s.seqDataWrite n v = (s.portWrite (seqKey n (8 * s.get (R.SEQ_MEM_ADDR_ADDR n))) v).seqAdvance n := by
  unfold State.seqDataWrite
  dsimp only
  rw [if_neg]; rfl
  rintro ⟨ha, hb⟩
  simp only [List.any_eq_true, List.mem_range, decide_eq_true_eq] at hb
  obtain ⟨j, hj, hst⟩ := hb
  exact h.elim (fun h => absurd ha (Nat.not_lt.2 h)) fun h => hst (h j hj)

theorem seqDataWrite_of_busy {v : Nat} (ha : 8 * s.get (R.SEQ_MEM_ADDR_ADDR n) < 0x8000) (h : ∃ j < 4, (s.thr (4 * n + j)).st ≠ .idle) :
    s.seqDataWrite n v = (s.setFlag (R.SEQ_STATUS_MEM_ERR n) true).seqAdvance n := by
  obtain ⟨j, hj, hst⟩ := h
  unfold State.seqDataWrite
  dsimp only
  rw [if_pos ⟨ha, List.any_eq_true.2 ⟨j, List.mem_range.2 hj, by simpa using hst⟩⟩]

/-! ### Reads -/

theorem seqDataCheck_eq (s : State) (n : Nat) (e : Check) : s.seqDataCheck n e = { s with seqBad := (s.seqDataCheck n e).seqBad } := by
  unfold State.seqDataCheck
  dsimp only
  split <;> rfl

theorem seqDataCheck_of_ne {e : Check} (h : e ≠ .bad) : s.seqDataCheck n e = s := if_neg fun hc => h hc.1

theorem seqDataCheck_bad (s : State) (n : Nat) : seqKey n (8 * s.get (R.SEQ_MEM_ADDR_ADDR n)) / 8 ∈ (s.seqDataCheck n .bad).seqBad := by
  unfold State.seqDataCheck
  dsimp only
  split
  · exact List.mem_cons_self
  · next h => exact List.contains_iff_mem.1 (by simpa [State.seqAddr] using h)

/-- A read done: a corrected error is counted, a free value may be used up, and ADDR moves on. -/
theorem seqDataDone_eq (s : State) (n : Nat) (e : Check) :
    s.seqDataDone n e = { s with regs := (s.seqDataDone n e).regs, freeCtr := (s.seqDataDone n e).freeCtr } := by
  unfold State.seqDataDone
  extract_lets s1 s2
  have h1 : s1 = { s with regs := s1.regs } := by
    unfold s1
    split
    · exact set_regs_only ..
    · rfl
  have h2 : s2 = { s1 with freeCtr := s2.freeCtr } := by
    unfold s2
    split
    · exact took_free_only ..
    · rfl
  rw [seqAdvance_eq, h2, h1]

theorem seqDataDone_addr (s : State) (n : Nat) (e : Check) : (s.seqDataDone n e).get (R.SEQ_MEM_ADDR_ADDR n) = nextAddr s n := by
  unfold State.seqDataDone
  extract_lets s1 s2
  have h1 : s1.reg (R.SEQ_MEM_ADDR_ADDR n).key = s.reg (R.SEQ_MEM_ADDR_ADDR n).key := by
    unfold s1
    split
    · exact reg_set_other _ _ _ _ (ecc_key_ne n).symm
    · rfl
  have h2 : s2.reg (R.SEQ_MEM_ADDR_ADDR n).key = s1.reg (R.SEQ_MEM_ADDR_ADDR n).key := by
    unfold s2
    split
    · exact took_reg ..
    · rfl
  rw [seqAdvance_addr, nextAddr_of_reg (h2.trans h1)]

theorem seqDataDone_corrected (s : State) (n : Nat) :
    (s.seqDataDone n .corrected).get (R.SEQ_ECC_COUNT_COUNT n) = (s.get (R.SEQ_ECC_COUNT_COUNT n) + 1) % 2 ^ 64 := by
  unfold State.seqDataDone
  extract_lets s1 s2
  have h1 : s1.get (R.SEQ_ECC_COUNT_COUNT n) = (s.get (R.SEQ_ECC_COUNT_COUNT n) + 1) % 2 ^ 64 := by
    unfold s1
    rw [if_pos rfl]
    exact get_set_same _ _ _ (show 0 + 64 ≤ 64 by decide)
  have h2 : s2.reg (R.SEQ_ECC_COUNT_COUNT n).key = s1.reg (R.SEQ_ECC_COUNT_COUNT n).key := by
    unfold s2
    split
    · exact took_reg ..
    · rfl
  rw [get_of_reg (seqAdvance_reg_other (ecc_key_ne n)), get_of_reg h2, h1]

/-- Settles O23: the write stores or is refused, the read answers, and ADDR moves on in each case. -/
theorem sequencerMemoryPort : Obligations.SequencerMemoryPort := by
  unfold Obligations.SequencerMemoryPort
  intro n v s hu hh i k moves
  have hwrite : exec (.seqMemDataWrite n v) s = .next (s.seqDataWrite n v.toNat) := by
    show execSeqMemDataWrite n v s = _
    rw [execSeqMemDataWrite, whenWr_of_up hu hh]
  refine ⟨fun h => ?_, fun ha h => ?_, fun ecc => ?_⟩
  · rw [seqDataWrite_of_free h] at hwrite
    refine ⟨_, hwrite, ?_, ?_, ?_, ?_⟩
    · rw [seqAdvance_eq]
      exact stored_congr (portWrite_stored s k v.toNat) rfl rfl rfl rfl
    · exact (seqAdvance_addr ..).trans (nextAddr_of_reg (portWrite_reg ..))
    · rw [seqAdvance_eq]; exact portWrite_mem ..
    · rw [seqAdvance_eq]; exact portWrite_threads ..
  · rw [seqDataWrite_of_busy ha h] at hwrite
    refine ⟨_, hwrite, ?_, ?_, ?_⟩
    · rw [seqAdvance_eq]; rfl
    · rw [State.flag, get_of_reg (seqAdvance_reg_other (memErr_key_ne n))]
      exact flag_setFlag_same s (R.SEQ_STATUS_MEM_ERR n) true (show 12 + 1 ≤ 64 by decide) (show 0 < 1 by decide)
    · exact (seqAdvance_addr ..).trans (nextAddr_of_reg (reg_set_other _ _ _ _ (memErr_key_ne n).symm))
  · have hread : exec (.seqMemDataRead { seq := n, ecc := ecc }) s = .next (((s.seqDataCheck n ecc).emit
        (.regRead (K.SEQ_MEM_DATA n) (some (BitVec.ofNat 64 ((s.seqDataCheck n ecc).seqData n))))).seqDataDone n ecc) := by
      show execSeqMemDataRead _ s = _
      rw [execSeqMemDataRead, whenWr_of_up hu hh]
    refine ⟨_, hread, ?_, ?_, fun he hb => ?_, fun he => ?_, fun he => ?_⟩
    · rw [seqDataDone_eq, seqDataCheck_eq]; rfl
    · refine (seqDataDone_addr ..).trans (nextAddr_of_reg ?_)
      rw [seqDataCheck_eq]; rfl
    · rw [seqDataDone_eq, seqDataCheck_of_ne he]
      have hdata : s.seqData n = s.seqRd k 8 := if_neg fun h => Bool.false_ne_true (hb.symm.trans h)
      rw [hdata]; rfl
    · rw [he, seqDataDone_corrected, seqDataCheck_of_ne (by decide)]; rfl
    · rw [he, seqDataDone_eq]
      exact seqDataCheck_bad s n

end Sys2Proof.Machine
end

section
/-! Events that reach threads and management cores (03_morop.md R98, R99; 04_dispatcher.md R148, R166, R167, R169). -/

namespace Sys2Proof.Machine

variable {s t u : State}

/-! ### The doorbell -/

theorem postCh_of_bound {ch e : Nat} (h : s.flag (R.CTX_BIND_VALID ch) = true) : s.postCh ch e = s.postThread (s.get (R.CTX_BIND_THREAD ch)) e := by
  simp only [State.postCh, State.boundThread, h, if_true]

theorem postCh_of_unbound {ch e : Nat} (h : s.flag (R.CTX_BIND_VALID ch) = false) : s.postCh ch e = s := by
  simp only [State.postCh, State.boundThread, h, Bool.false_eq_true, if_false]

theorem exec_ctxDoorbell {ch : Chan} {ev : BitVec 6} (hu : s.up = true) (hh : s.halted = false) :
    exec (.ctxDoorbell ch ev) s = .next (if 48 ≤ ev.toNat then s.postCh ch ev.toNat else s) := by
  show execCtxDoorbell ch ev s = _
  rw [execCtxDoorbell, whenWr_of_up hu hh, State.doorbell]
  simp only [and_iff_left (show ev.toNat ≤ 63 by omega)]

/-! ### The first of the waiting events -/

/-- The choice between the first event found and the next one. -/
def State.firstOf (s : State) (b : Option ((Nat × Nat) × Nat × Option Nat)) (x : (Nat × Nat) × Nat × Option Nat) :
    Option ((Nat × Nat) × Nat × Option Nat) :=
  match b with
  | some y => if s.postsFirst y.1 x.1 then b else some x
  | none => some x

/-- The event that comes before all others is the one found, wherever it stands in the list. -/
theorem foldl_firstOf {P : (Nat × Nat) × Nat × Option Nat} (l : List ((Nat × Nat) × Nat × Option Nat)) (b : Option ((Nat × Nat) × Nat × Option Nat))
    (hl : ∀ x ∈ l, x ≠ P → s.postsFirst P.1 x.1 = true ∧ s.postsFirst x.1 P.1 = false)
    (hb : ∀ y, b = some y → y ≠ P → s.postsFirst y.1 P.1 = false) (hP : P ∈ l ∨ b = some P) : l.foldl s.firstOf b = some P := by
  induction l generalizing b with
  | nil => exact hP.resolve_left List.not_mem_nil
  | cons x l ih =>
    have hx := hl x List.mem_cons_self
    refine ih _ (fun y hy => hl y (List.mem_cons_of_mem _ hy)) ?_ ?_
    · intro y hy hne
      unfold State.firstOf at hy
      split at hy
      · split at hy
        · exact hb y hy hne
        · cases hy; exact (hx hne).2
      · cases hy; exact (hx hne).2
    · by_cases hxP : x = P
      · subst hxP
        refine .inr ?_
        unfold State.firstOf
        split
        · next y =>
          by_cases hy : y = x
          · subst hy; exact ite_self _
          · rw [hb y rfl hy]; rfl
        · rfl
      · refine hP.imp (fun h => (List.mem_cons.mp h).resolve_left (Ne.symm hxP)) fun h => ?_
        simp only [h, State.firstOf, (hx hxP).1, if_true]

theorem wake_thr {i e : Nat} (h : (s.thr i).st ≠ .idle) (he : e < 64) :
    (s.wake i e).thr i = { s.thr i with epend := (s.thr i).epend ||| BitVec.ofNat 64 (2 ^ e) } := by
  rw [State.wake, if_neg h, State.setEvent, thr_setThr_same, Nat.mod_eq_of_lt he]

theorem wake_threads_of_idle {i e : Nat} (h : (s.thr i).st = .idle) : (s.wake i e).threads = s.threads := congrArg State.threads (if_pos h)

theorem wake_hwSeq (s : State) (i e : Nat) : (s.wake i e).hwSeq = s.hwSeq := by
  unfold State.wake
  split <;> rfl

/-- The effect of the event found. -/
def State.postFound (s : State) : Option ((Nat × Nat) × Nat × Option Nat) → State
  | none => s
  | some ((t, o), ev, none) => ({ s with hwSeq := s.hwSeq.filter (fun p => decide (p.order ≠ o)) } : State).wake t ev
  | some ((t, _), ev, some e) => ((s.unlist e).wake t ev).endTask e 0 0

/-- While the dispatcher is disabled only hardware events are posted. -/
theorem execSeqTaskPost_eq (hl : s.live = true) (hd : s.flag R.DSP_CTRL_ENABLE = false) : execSeqTaskPost s =
    .next (s.postFound ((s.hwSeq.map (fun q => ((q.thread, q.order), q.event, (none : Option Nat)))).foldl s.firstOf none)) := by
  unfold execSeqTaskPost
  rw [whenLive_of_live hl]
  simp only [hd, Bool.false_eq_true, if_false, List.append_nil]
  rfl

theorem exec_seqTaskPost {p : SeqPost} (hl : s.live = true) (hd : s.flag R.DSP_CTRL_ENABLE = false) (hp : p ∈ s.hwSeq)
    (hfirst : ∀ q ∈ s.hwSeq, q ≠ p →
      s.postsFirst (p.thread, p.order) (q.thread, q.order) = true ∧ s.postsFirst (q.thread, q.order) (p.thread, p.order) = false) :
    exec .seqTaskPost s = .next (({ s with hwSeq := s.hwSeq.filter (fun q => decide (q.order ≠ p.order)) } : State).wake p.thread p.event) := by
  have hbest : (s.hwSeq.map (fun q => ((q.thread, q.order), q.event, (none : Option Nat)))).foldl s.firstOf none =
      some ((p.thread, p.order), p.event, none) := by
    refine foldl_firstOf _ _ (fun x hx hne => ?_) (fun y hy => by cases hy) (.inl (List.mem_map.mpr ⟨p, hp, rfl⟩))
    obtain ⟨q, hq, rfl⟩ := List.mem_map.mp hx
    exact hfirst q hq fun h => hne (by rw [h])
  show execSeqTaskPost s = _
  rw [execSeqTaskPost_eq hl hd, hbest, State.postFound]

/-! ### What a task's end leaves of the events -/

/-- Every pending event is still pending, and every delivered task of a core is still there. -/
def State.KeepsEvents (s t : State) : Prop :=
  (∀ i e, (s.thr i).epend.getLsbD e = true → (t.thr i).epend.getLsbD e = true) ∧ ∀ k, (t.core k).delivered = (s.core k).delivered

theorem State.KeepsEvents.of_eq (ht : t.threads = s.threads) (hc : t.cores = s.cores) : s.KeepsEvents t :=
  ⟨fun i e h => by unfold State.thr at h ⊢; rwa [ht], fun k => by unfold State.core; rw [hc]⟩

theorem State.KeepsEvents.refl : s.KeepsEvents s := .of_eq rfl rfl

theorem State.KeepsEvents.trans (h : s.KeepsEvents t) (g : t.KeepsEvents u) : s.KeepsEvents u :=
  ⟨fun i e he => g.1 i e (h.1 i e he), fun k => (g.2 k).trans (h.2 k)⟩

theorem State.KeepsEvents.ite {c : Prop} [Decidable c] (ht : s.KeepsEvents t) (hu : s.KeepsEvents u) : s.KeepsEvents (if c then t else u) := by
  split <;> assumption

/-- A context replaced by one with at least its events. -/
theorem setThr_keepsEvents {i : Nat} {n : Thread} (h : ∀ e, (s.thr i).epend.getLsbD e = true → n.epend.getLsbD e = true) :
    s.KeepsEvents (s.setThr i n) := by
  refine ⟨fun j e he => ?_, fun k => by rw [setThr_core]⟩
  by_cases hj : j = i
  · subst hj; rw [thr_setThr_same]; exact h e he
  · rwa [thr_setThr_other _ _ _ _ hj]

theorem setEvent_keepsEvents {i e : Nat} : s.KeepsEvents (s.setEvent i e) :=
  setThr_keepsEvents fun j hj => by rw [BitVec.getLsbD_or, hj]; rfl

theorem raiseLine_keepsEvents {k l : Nat} : s.KeepsEvents (s.raiseLine k l) := by
  refine ⟨fun i e h => by unfold State.thr at h ⊢; rwa [raiseLine_threads], fun j => ?_⟩
  unfold State.raiseLine
  dsimp only
  split
  · rfl
  · by_cases hj : j = k
    · subst hj; rw [core_setCore_same]
    · rw [core_setCore_other _ _ _ _ hj]

theorem postThread_keepsEvents {t e : Nat} : s.KeepsEvents (s.postThread t e) := .of_eq rfl rfl

theorem postErr_keepsEvents {i status : Nat} : s.KeepsEvents (s.postErr i status) :=
  .ite .refl (.ite postThread_keepsEvents (setEvent_keepsEvents.trans raiseLine_keepsEvents))

@[simp] theorem freeTask_cores (s : State) (e : Nat) : (s.freeTask e).cores = s.cores := by
  unfold State.freeTask
  extract_lets t d s1 s2 s3
  have h2 : s2.cores = s.cores := by unfold s2; rw [apply_ite State.cores]; simp [s1]
  have h3 : s3.cores = s.cores := by unfold s3; rw [apply_ite State.cores]; simp [h2]
  split <;> simp [h3]

@[simp] theorem seqWr_cores (s : State) (k n v : Nat) : (s.seqWr k n v).cores = s.cores := by rw [seqWr_eq]

@[simp] theorem wr_cores (s : State) (a n v : Nat) : (s.wr a n v).cores = s.cores := by
  induction n generalizing s a v with
  | zero => rfl
  | succ n ih => rw [State.wr, ih, setByte_cores]

@[simp] theorem ringWr_cores (s : State) (i off : Nat) (r : CompRec) : (s.ringWr i off r).cores = s.cores := by
  unfold State.ringWr
  dsimp only
  rw [apply_ite State.cores, wr_cores, seqWr_cores, ite_self]

@[simp] theorem unlist_cores (s : State) (e : Nat) : (s.unlist e).cores = s.cores := by
  unfold State.unlist
  dsimp only
  split
  · simp
  · rw [apply_ite State.cores]; simp
  · rfl

theorem writeRec_keepsEvents {i : Nat} {r : CompRec} : s.KeepsEvents (s.writeRec i r) := by
  unfold State.writeRec
  extract_lets t s1 s2 s3
  have h1 : s.KeepsEvents s1 := .of_eq (ringWr_threads ..) (ringWr_cores ..)
  have h2 : s1.KeepsEvents s2 := setThr_keepsEvents fun e he => by
    rwa [show s1.thr i = t by unfold State.thr; rw [ringWr_threads]; rfl] at he
  have h3 : s2.KeepsEvents s3 := .of_eq (freeTask_threads ..) (freeTask_cores ..)
  exact ((h1.trans h2).trans h3).trans (.ite postThread_keepsEvents (setEvent_keepsEvents.trans raiseLine_keepsEvents))

theorem endTask_keepsEvents {e status cost : Nat} : s.KeepsEvents (s.endTask e status cost) := by
  unfold State.endTask
  extract_lets t s1 s2 s3 r th
  have ht : s2.threads = s.threads := by
    unfold s2
    split
    · rw [apply_ite State.threads]; simp [s1]
    · simp [s1]
  have hc : s2.cores = s.cores := by
    unfold s2
    split
    · rw [apply_ite State.cores]; simp [s1]
    · simp [s1]
  have h3 : s.KeepsEvents s3 := .trans (.of_eq ((setTask_threads ..).trans ht) ((setTask_cores ..).trans hc)) postErr_keepsEvents
  exact h3.trans (.ite writeRec_keepsEvents (setThr_keepsEvents fun _ he => he))

/-! ### The delivery to a core -/

/-- A READY task goes to core k: its event is the newest delivered, its bit is set, and the task ends. -/
def State.giveTask (s : State) (e k : Nat) : State :=
  let d := (s.task e).d
  let a := (s.setCore k { s.core k with delivered := (s.core k).delivered ++ [(d.event, true)] }).setEvent (256 + k) d.event
  let b := (a.raiseLine k 0).set (R.DSP_MPC_PENDING_COUNT k) (a.mpcCount k + 1)
  (b.unlist e).endTask e 0 0

theorem giveTask_keepsEvents (e k : Nat) : ((s.setCore k { s.core k with delivered := (s.core k).delivered ++ [((s.task e).d.event, true)] }).setEvent
    (256 + k) (s.task e).d.event).KeepsEvents (s.giveTask e k) := by
  unfold State.giveTask
  extract_lets d c a b
  have hb : a.KeepsEvents b := raiseLine_keepsEvents.trans (.of_eq (set_threads ..) (set_cores ..))
  exact (hb.trans (.of_eq (unlist_threads ..) (unlist_cores ..))).trans endTask_keepsEvents

theorem giveTask_delivered (s : State) (e k : Nat) :
    ((s.giveTask e k).core k).delivered = (s.core k).delivered ++ [((s.task e).d.event, true)] := by
  rw [(giveTask_keepsEvents e k).2, State.setEvent, setThr_core, core_setCore_same]

theorem giveTask_event {e k : Nat} (he : (s.task e).d.event < 64) : ((s.giveTask e k).thr (256 + k)).epend.getLsbD (s.task e).d.event = true := by
  refine (giveTask_keepsEvents e k).1 _ _ ?_
  rw [State.setEvent, thr_setThr_same, Nat.mod_eq_of_lt he, BitVec.getLsbD_or, BitVec.getLsbD_ofNat, Nat.testBit_two_pow_self, decide_eq_true he]
  exact Bool.or_true _

theorem exec_mpcTaskDispatch {now e k : Nat} (hl : s.live = true) (hd : s.flag R.DSP_CTRL_ENABLE = true)
    (hfind : (s.readyBy (fun t => decide (t.d.cls = 8))).find? (fun e => (s.mpcCore (s.task e).d).isSome) = some e)
    (hk : s.mpcCore (s.task e).d = some k) : exec (.mpcTaskDispatch now) s = .next ((s.advance now).giveTask e k) := by
  have hfind' : ((s.advance now).readyBy (fun t => decide (t.d.cls = 8))).find?
      (fun e => ((s.advance now).mpcCore ((s.advance now).task e).d).isSome) = some e := hfind
  have hk' : (s.advance now).mpcCore ((s.advance now).task e).d = some k := hk
  have hd' : (s.advance now).flag R.DSP_CTRL_ENABLE = true := hd
  show execMpcTaskDispatch now s = _
  unfold execMpcTaskDispatch
  rw [whenLive_of_live hl]
  simp only [hd', hfind', hk', Bool.not_true, Bool.false_eq_true, if_false, Option.getD_some]
  rfl

/-- Settles O24: the doorbell queues its event, the first event in R166's order is the one posted, and an MPC task is delivered. -/
theorem eventsReachThreads : Obligations.EventsReachThreads := by
  unfold Obligations.EventsReachThreads
  refine ⟨fun ch ev s hu hh => ⟨fun h48 hv => ?_, fun h => ?_⟩, fun s p hl hd hp he hfirst => ?_, fun now s e k hl hd he hfind hk => ?_⟩
  · rw [exec_ctxDoorbell hu hh, if_pos h48, postCh_of_bound hv]; rfl
  · rw [exec_ctxDoorbell hu hh]
    split
    · next h48 => rw [postCh_of_unbound (h.resolve_left (Nat.not_lt.mpr h48))]
    · rfl
  · exact ⟨_, exec_seqTaskPost hl hd hp hfirst, wake_hwSeq .., fun h => wake_thr h he, fun h => wake_threads_of_idle h⟩
  · exact ⟨_, exec_mpcTaskDispatch hl hd hfind hk, giveTask_delivered .., giveTask_event he⟩

end Sys2Proof.Machine
end

section
/-! The dispatcher's tick and the reports of late tasks and of bad task entries (04_dispatcher.md R119, R171, R173, R189, R190). -/

namespace Sys2Proof.Machine

variable {s t : State}

/-! ### Ordered lists -/

theorem mem_insertBy {α : Type} {le : α → α → Bool} {x y : α} {l : List α} : y ∈ insertBy le x l ↔ y = x ∨ y ∈ l := by
  induction l with
  | nil => simp [insertBy]
  | cons z l ih =>
    unfold insertBy
    split
    · exact List.mem_cons
    · rw [List.mem_cons, ih, List.mem_cons]; exact or_left_comm

theorem mem_sortBy {α : Type} {le : α → α → Bool} {y : α} {l : List α} : y ∈ sortBy le l ↔ y ∈ l := by
  induction l with
  | nil => rfl
  | cons x l ih => exact mem_insertBy.trans ((or_congr_right ih).trans List.mem_cons.symm)

/-! ### A task leaves the delay lists -/

theorem mem_dueDelayed {e : Nat} {at' : Int} (hd : (s.task e).st = .delayed) (hr : ((s.task e).release : Int) ≤ at') : e ∈ s.dueDelayed at' := by
  have htask : s.task e = (tfind s.tasks e).getD {} := rfl
  cases hf : tfind s.tasks e with
  | none => rw [htask, hf] at hd; cases hd
  | some t =>
    rw [htask, hf] at hd hr
    refine List.mem_map.mpr ⟨(e, t), mem_sortBy.mpr (List.mem_filter.mpr ⟨mem_of_tfind hf, ?_⟩), rfl⟩
    simpa using And.intro hd hr

theorem makeReady_tasks (s : State) (e c : Nat) : (s.makeReady e c).tasks =
    (s.setTask e { s.task e with st := .ready, order := s.readyCtr, readyCyc := c, readyAt := s.raw }).tasks := by
  unfold State.makeReady
  extract_lets t s1 s2 s3
  have h3 : s3.tasks = s1.tasks := by unfold s3; rw [apply_ite State.tasks, set_tasks]; exact ite_self _
  rw [apply_ite State.tasks, inc_tasks, ite_self, h3]

@[simp] theorem set_tickPend (s : State) (f : Field) (x : Nat) : (s.set f x).tickPend = s.tickPend := (rfl)
@[simp] theorem inc_tickPend (s : State) (f : Field) : (s.inc f).tickPend = s.tickPend := (rfl)

theorem makeReady_tickPend (s : State) (e c : Nat) : (s.makeReady e c).tickPend = s.tickPend := by
  unfold State.makeReady
  extract_lets t s1 s2 s3
  have h3 : s3.tickPend = s.tickPend := by unfold s3; rw [apply_ite State.tickPend, set_tickPend]; exact ite_self _
  rw [apply_ite State.tickPend, inc_tickPend, ite_self, h3]

theorem makeReady_task_same (s : State) (e c : Nat) : ((s.makeReady e c).task e).st = .ready := by
  unfold State.task
  rw [makeReady_tasks]
  exact congrArg TaskEntry.st (task_setTask_same ..)

theorem makeReady_task_other (s : State) {e j : Nat} (c : Nat) (h : j ≠ e) : (s.makeReady e c).task j = s.task j := by
  unfold State.task
  rw [makeReady_tasks]
  exact task_setTask_other _ _ _ _ h

theorem moveReady_task_same (s : State) (e : Nat) : ((s.moveReady e).task e).st = .ready := by
  unfold State.moveReady
  exact makeReady_task_same ..

theorem moveReady_task_other (s : State) {e j : Nat} (h : j ≠ e) : (s.moveReady e).task j = s.task j := by
  unfold State.moveReady
  exact makeReady_task_other _ _ h

theorem moveReady_tickPend (s : State) (e : Nat) : (s.moveReady e).tickPend = s.tickPend := by
  unfold State.moveReady
  exact makeReady_tickPend ..

/-- One task of a tick leaves the delay lists. -/
def State.release (s : State) (e : Nat) : State := (s.inc R.DSP_STATUS_DELAY_FREE).moveReady e

theorem release_same (s : State) (e : Nat) : ((s.release e).task e).st = .ready := moveReady_task_same ..

theorem release_other (s : State) {e j : Nat} (h : j ≠ e) : (s.release e).task j = s.task j := by
  unfold State.release
  rw [moveReady_task_other _ h]
  exact congrArg (tget _ · j) (inc_tasks ..)

theorem release_tickPend (s : State) (e : Nat) : (s.release e).tickPend = s.tickPend := by
  unfold State.release
  exact (moveReady_tickPend ..).trans (inc_tickPend ..)

/-- Every task of the list, and every one READY before, is READY. -/
theorem foldl_release_ready {e : Nat} (l : List Nat) (s : State) (h : e ∈ l ∨ (s.task e).st = .ready) :
    ((l.foldl State.release s).task e).st = .ready := by
  induction l generalizing s with
  | nil => exact h.resolve_left List.not_mem_nil
  | cons x l ih =>
    refine ih _ ?_
    by_cases hx : e = x
    · subst hx; exact .inr (release_same ..)
    · rw [release_other _ hx]
      exact h.imp_left fun h => (List.mem_cons.mp h).resolve_left hx

theorem foldl_release_tickPend (l : List Nat) (s : State) : (l.foldl State.release s).tickPend = s.tickPend := by
  induction l generalizing s with
  | nil => rfl
  | cons x l ih => exact (ih _).trans (release_tickPend ..)

/-! ### The tick -/

/-- A tick's last act: its time is kept, and a period written since the last one comes into force. -/
def State.ticked (s : State) (at' : Int) : State :=
  let s := { s with lastTick := at' }
  match s.tickPend with
  | some p => { s.set R.DSP_TICK_PERIOD_NS p with tickPend := none }
  | none => s

theorem tick_of_due (h : s.tickTime ≠ s.lastTick) (hf : s.tickFrom ≤ s.tickTime) :
    s.tick = ((s.dueDelayed s.tickTime).foldl State.release s).ticked s.tickTime := by
  unfold State.tick
  exact if_neg (not_or.mpr ⟨h, not_lt.mpr hf⟩)

theorem ticked_lastTick (s : State) (at' : Int) : (s.ticked at').lastTick = at' := by
  unfold State.ticked
  dsimp only
  split <;> rfl

theorem ticked_task (s : State) (at' : Int) (e : Nat) : (s.ticked at').task e = s.task e := by
  unfold State.ticked
  dsimp only
  split <;> rfl

theorem ticked_of_tickPend {at' : Int} {p : Nat} (h : s.tickPend = some p) (hp : p < 2 ^ 14) :
    (s.ticked at').get R.DSP_TICK_PERIOD_NS = p ∧ (s.ticked at').tickPend = none := by
  unfold State.ticked
  simp only [h]
  exact ⟨(get_set_same _ R.DSP_TICK_PERIOD_NS p (by decide)).trans (Nat.mod_eq_of_lt hp), trivial⟩

/-! ### Reports -/

theorem exec_mpcAge {now e : Nat} (hl : s.live = true) (he : ((s.advance now).readyBy (fun t => decide (t.d.cls = 8) && !t.aged &&
      decide (s.get R.DSP_MPC_AGE_LIMIT_US ≠ 0) && decide (t.readyAt + 1000 * s.get R.DSP_MPC_AGE_LIMIT_US < (s.advance now).raw))).head? = some e) :
    exec (.mpcAge now) s = .next (((s.advance now).setTask e { s.task e with aged := true }).report 28 0
      (BitVec.ofNat 64 (e + 16384 * (s.task e).gen))) := by
  show execMpcAge now s = _
  unfold execMpcAge
  rw [whenLive_of_live hl]
  simp only [show (s.advance now).get R.DSP_MPC_AGE_LIMIT_US = s.get R.DSP_MPC_AGE_LIMIT_US from rfl, he]
  rfl

theorem exec_entryEcc {e : TaskId} {now : Nat} (hl : s.live = true) : exec (.entryEcc e now) s = .next ((s.advance now).entryEcc e) := by
  show execEntryEcc e now s = _
  rw [execEntryEcc, whenLive_of_live hl]

theorem entryEcc_of_free {e : Nat} (h : (s.task e).st = .free) : s.entryEcc e = s.report 29 0 (BitVec.ofNat 64 e) := by
  unfold State.entryEcc
  simp only [h]

theorem entryEcc_of_waiting {e c : Nat} (hc : (s.task e).ch = some c) (h : (s.task e).st = .delayed ∨ (s.task e).st = .ready) :
    s.entryEcc e = (s.dropTask e 4).report 29 (8 * 4096 + c) (BitVec.ofNat 64 e) := by
  unfold State.entryEcc
  rcases h with h | h <;> simp only [h, hc] <;> rfl

theorem entryEcc_of_running {e c : Nat} (hc : (s.task e).ch = some c) (h : (s.task e).st = .running) :
    s.entryEcc e = ((s.withdraw e).taskOver e 4 0).report 29 (8 * 4096 + c) (BitVec.ofNat 64 e) := by
  unfold State.entryEcc
  simp only [h, hc]
  rfl

/-- Settles O27: the tick releases every due task, and the two reports name their tasks. -/
theorem ticksAndDispatcherReports : Obligations.TicksAndDispatcherReports := by
  unfold Obligations.TicksAndDispatcherReports
  refine ⟨fun now s hl ht hf => ?_, fun v s hu hh => ?_, fun now s e hl => ?_, fun e now s hl => ⟨fun h => ?_, fun c hc h => ?_, fun c hc h => ?_⟩⟩
  · have hexec : exec (.dispatcherTick now) s = .next (s.advance now).tick := by
      show execDispatcherTick now s = _
      rw [execDispatcherTick, whenLive_of_live hl]
    rw [tick_of_due ht hf] at hexec
    refine ⟨_, hexec, ticked_lastTick .., fun e hd hr => ?_, fun p hp hlt => ?_⟩
    · rw [ticked_task]
      exact foldl_release_ready _ _ (.inl (mem_dueDelayed (s := s.advance now) hd hr))
    · exact ticked_of_tickPend ((foldl_release_tickPend ..).trans hp) hlt
  · show execDspTickWrite v s = _
    rw [execDspTickWrite, whenWr_of_up hu hh, State.writeTick]
  · exact fun he => exec_mpcAge hl he
  · exact (exec_entryEcc hl).trans (congrArg _ (entryEcc_of_free (s := s.advance now) h))
  · exact (exec_entryEcc hl).trans (congrArg _ (entryEcc_of_waiting (s := s.advance now) hc h))
  · exact (exec_entryEcc hl).trans (congrArg _ (entryEcc_of_running (s := s.advance now) hc h))

end Sys2Proof.Machine
end

section
/-! A CHANNEL_START at the front of a ring while an admission command is in progress (14_host_dma.md R554; 04_dispatcher.md R184). -/

namespace Sys2Proof.Machine

variable {s : State} {r : RingId} {c : HostCmd} {rest : List HostCmd}

/-- A CHANNEL_START waits while DSP_ADM_CMD.BUSY is 1 (log 108). -/
theorem exec_channelStart_of_busy (hc : (s.hcr r).cmds = c :: rest) (hb : s.flag R.DSP_ADM_CMD_BUSY = true) : exec (.channelStart r) s = .next s := by
  show execChannelStart r s = _
  simp only [execChannelStart, State.serve, hc, hb, decide_true, and_self, Bool.not_true, Bool.false_eq_true, and_false, if_false]

theorem msix_hcrs (s : State) (v : Nat) : (s.msix v).hcrs = s.hcrs := by
  unfold State.msix
  dsimp only
  split
  · split <;> rfl
  · rfl

theorem set_hcrs (s : State) (f : Field) (x : Nat) : (s.set f x).hcrs = s.hcrs := (rfl)
theorem emit_hcrs (s : State) (o : Output) : (s.emit o).hcrs = s.hcrs := (rfl)

theorem setHcr_msix_cmds (s : State) (r v : Nat) (h : HcrSt) : (((s.setHcr r h).msix v).hcr r).cmds = h.cmds := by
  rw [State.hcr, msix_hcrs]
  exact congrArg HcrSt.cmds (tget_tset_same ..)

/-- The answered command has left the ring. -/
theorem complete_cmds (s : State) (r : Nat) (c : HostCmd) (a : CmdAns) : ((s.complete r c a).hcr r).cmds = (s.hcr r).cmds.drop 1 := by
  unfold State.complete
  extract_lets size head tail s1 s2
  have h2 : s2.hcrs = s.hcrs := (set_hcrs ..).trans ((set_hcrs ..).trans (emit_hcrs ..))
  rw [setHcr_msix_cmds, State.hcr, State.hcr, h2]

theorem drainBad_of_empty {r n : Nat} (h : (s.hcr r).cmds = []) : s.drainBad r n = s := by
  cases n with
  | zero => rfl
  | succ n => rw [State.drainBad, h]

theorem answer_cmds_of_last {a : CmdAns} (h : (s.hcr r).cmds = [c]) : ((Spec.answer s r c a).hcr r).cmds = [] := by
  have hnil : ((s.complete r c a).hcr r).cmds = [] := by rw [complete_cmds, h]; rfl
  rw [Spec.answer, drainBad_of_empty hnil, hnil]

/-- CHANNEL_START of channel 0, of good format. -/
def startCmd : HostCmd := { opcode := 0x0011, tag := 0, channel := 0, params := List.replicate 48 0, bad := false }

/-- A booted device with a CHANNEL_START fetched from ring 0 and no image loaded, while an admission command is in progress. -/
def busyAdmission : State :=
  { (((State.reset.set R.GCTL_BOOT_STATUS_STAGE 2).set (R.HCR_CFG_SIZE 0) 4).setFlag (R.HCR_CFG_ENABLE 0) true).setFlag R.DSP_ADM_CMD_BUSY true with
    hcrs := [(0, { tail := 1, fetched := 1, cmds := [startCmd] })] }

/-- Refutes O50: a CHANNEL_START of a channel with no image loaded is not answered STATE while DSP_ADM_CMD.BUSY is 1; it waits, and stays in its
ring. -/
theorem not_recipesAndChannels : ¬ Obligations.RecipesAndChannels := by
  unfold Obligations.RecipesAndChannels
  rintro ⟨-, h⟩
  have hcmds : (busyAdmission.hcr (0 : RingId)).cmds = [startCmd] := rfl
  obtain ⟨hstart, -⟩ := h 0 startCmd [] busyAdmission (by decide) hcmds (by decide) (by decide)
  have hans := (hstart rfl).1 (.inl rfl)
  rw [exec_channelStart_of_busy hcmds (by decide)] at hans
  have hsame : busyAdmission = Spec.answer busyAdmission 0 startCmd (6, 0) := Host.Outcome.next.inj hans
  have hnil : (busyAdmission.hcr (0 : RingId)).cmds = [] := (congrArg (fun s => (s.hcr (0 : RingId)).cmds) hsame).trans (answer_cmds_of_last hcmds)
  exact List.cons_ne_nil _ _ (hcmds.symm.trans hnil)

end Sys2Proof.Machine
end

section
/-! Cancels and admissions (04_dispatcher.md R147, R175, R180, R181, R184, R185). -/

namespace Sys2Proof.Machine

variable {s t : State}

/-! ### The cancel of a task -/

theorem exec_dspCancel {h : BitVec 32} (hu : s.up = true) (hh : s.halted = false) : exec (.dspCancel h) s = .next (s.dspCancel h.toNat) := by
  show execDspCancel h s = _
  rw [execDspCancel, whenWr_of_up hu hh]

/-- The result register after a cancel shows what the cancel came to, and is valid. -/
theorem dspCancel_result (s : State) (h : Nat) :
    (s.dspCancel h).get R.DSP_CANCEL_RESULT_RESULT = (s.cancel h).2 % 4 ∧ (s.dspCancel h).flag R.DSP_CANCEL_RESULT_VALID = true := by
  unfold State.dspCancel
  refine ⟨?_, flag_setFlag_same _ _ _ (by decide) (by decide)⟩
  simp (disch := decide) only [State.setFlag, get_set_same, get_set_beside]
  rfl

/-- Whether a task has been dispatched in the present CLK_SEQ cycle, so that a cancel still reaches it. -/
def State.justDispatched (s : State) (k : TaskEntry) : Prop := k.st = .running ∧ k.d.cls < 7 ∧ seqCycle k.startAt = seqCycle s.raw

theorem cancel_of_unknown {h : Nat} (hk : 2 ^ 31 ≤ h ∨ (s.task (h % 16384)).st = .free ∨ (s.task (h % 16384)).gen ≠ h / 16384) :
    s.cancel h = (s, 2) := if_pos hk

section
variable {h : Nat} (hlt : h < 2 ^ 31) (hgen : (s.task (h % 16384)).gen = h / 16384)
include hlt hgen

/-- A handle whose generation is that of its entry, and whose entry is not FREE, is known. -/
theorem handle_known (hst : (s.task (h % 16384)).st ≠ .free) :
    ¬(2 ^ 31 ≤ h ∨ (s.task (h % 16384)).st = .free ∨ (s.task (h % 16384)).gen ≠ h / 16384) :=
  not_or.mpr ⟨Nat.not_le.mpr hlt, not_or.mpr ⟨hst, not_not.mpr hgen⟩⟩

theorem cancel_of_begun (hst : ((s.task (h % 16384)).st = .running ∧ ¬s.justDispatched (s.task (h % 16384))) ∨ (s.task (h % 16384)).st = .ended) :
    s.cancel h = (s, 0) := by
  have hne : (s.task (h % 16384)).st = .running ∨ (s.task (h % 16384)).st = .ended := hst.imp_left And.left
  have hnow : ¬s.justDispatched (s.task (h % 16384)) := hst.elim And.right fun he hj => by rw [hj.1] at he; cases he
  have hwait : ¬((s.task (h % 16384)).st = .delayed ∨ (s.task (h % 16384)).st = .ready) := by
    rcases hne with e | e <;> simp [e]
  unfold State.cancel
  rw [if_neg (handle_known hlt hgen (by rcases hne with e | e <;> simp [e])), if_neg hwait]
  exact if_neg hnow

theorem cancel_of_waiting (hst : (s.task (h % 16384)).st = .delayed ∨ (s.task (h % 16384)).st = .ready ∨ s.justDispatched (s.task (h % 16384))) :
    (s.cancel h).2 = 1 := by
  have hfree : (s.task (h % 16384)).st ≠ .free := by
    rcases hst with e | e | ⟨e, -⟩ <;> simp [e]
  unfold State.cancel
  rw [if_neg (handle_known hlt hgen hfree)]
  split
  · rfl
  · next hw =>
    have hnow : s.justDispatched (s.task (h % 16384)) := (or_assoc.mpr hst).resolve_left hw
    exact congrArg Prod.snd (if_pos hnow)

end

theorem dspCancel_tasks {h : Nat} : (s.dspCancel h).tasks = (s.cancel h).1.tasks := by
  rw [State.dspCancel, setFlag_tasks, set_tasks]

/-! ### What leaves the admissions -/

@[simp] theorem set_adm (s : State) (f : Field) (x : Nat) : (s.set f x).adm = s.adm := (rfl)
@[simp] theorem setFlag_adm (s : State) (f : Field) (b : Bool) : (s.setFlag f b).adm = s.adm := set_adm ..
@[simp] theorem add_adm (s : State) (f : Field) (n : Nat) : (s.add f n).adm = s.adm := set_adm ..
@[simp] theorem inc_adm (s : State) (f : Field) : (s.inc f).adm = s.adm := set_adm ..
@[simp] theorem emit_adm (s : State) (o : Output) : (s.emit o).adm = s.adm := (rfl)
@[simp] theorem setChan_adm (s : State) (ch : Nat) (c : ChanSt) : (s.setChan ch c).adm = s.adm := (rfl)
@[simp] theorem admResult_adm (s : State) (ch r x y : Nat) : (s.admResult ch r x y).adm = s.adm := by simp [State.admResult]
@[simp] theorem openWindow_adm (s : State) (ch : Nat) : (s.openWindow ch).adm = s.adm := by simp [State.openWindow]
@[simp] theorem freePipes_adm (s : State) (ch : Nat) : (s.freePipes ch).adm = s.adm := by simp [State.freePipes]
@[simp] theorem disown_adm (s : State) (e : Nat) : (s.disown e).adm = s.adm := by simp [State.disown]
@[simp] theorem refreshClass_adm (s : State) (c : Nat) : (s.refreshClass c).adm = s.adm := by simp [State.refreshClass]

theorem ite_adm {c : Prop} [Decidable c] {u : State} (ht : t.adm = s.adm) (hu : u.adm = s.adm) : (if c then t else u).adm = s.adm := by
  split <;> assumption

theorem foldl_adm {α : Type} {f : State → α → State} (h : ∀ s a, (f s a).adm = s.adm) (l : List α) (s : State) : (l.foldl f s).adm = s.adm := by
  induction l generalizing s with
  | nil => rfl
  | cons a l ih => exact (ih _).trans (h s a)

@[simp] theorem incSat_adm (s : State) (f : Field) : (s.incSat f).adm = s.adm := ite_adm (inc_adm ..) rfl
@[simp] theorem raiseLine_adm (s : State) (k l : Nat) : (s.raiseLine k l).adm = s.adm := ite_adm rfl rfl
@[simp] theorem msix_adm (s : State) (v : Nat) : (s.msix v).adm = s.adm := ite_adm (ite_adm rfl rfl) rfl

@[simp] theorem signal_adm (s : State) (was : Bool) (v : Nat) : (s.signal was v).adm = s.adm := by
  unfold State.signal
  extract_lets s1
  have h1 : s1.adm = s.adm := ite_adm (by simp [State.raiseLines]) rfl
  exact ite_adm ((msix_adm ..).trans h1) h1

@[simp] theorem haltDevice_adm (s : State) (r : SieveRec) : (s.haltDevice r).adm = s.adm := by
  unfold State.haltDevice
  extract_lets s1 s2 s3
  have h2 : s2.adm = s.adm := (incSat_adm ..).trans (setFlag_adm ..)
  have h3 : s3.adm = s2.adm := ite_adm rfl ((setFlag_adm ..).trans (foldl_adm (fun _ _ => set_adm ..) _ _))
  exact (emit_adm ..).trans (h3.trans h2)

/-- A record whose suspect cannot be isolated acts on no admission. -/
theorem act_adm {r : SieveRec} (hr : isolable r.suspect = false) : (s.act r).adm = s.adm := by
  unfold State.act
  split
  · rfl
  · split
    · rw [hr]; rfl
    · exact haltDevice_adm ..
    · rfl

theorem foldIn_adm {sev cls i : Nat} {r : SieveRec} (hr : isolable r.suspect = false) : (s.foldIn sev cls i r).adm = s.adm := by
  unfold State.foldIn
  extract_lets d up r' s1 s2
  have h1 : s1.adm = s.adm := rfl
  have h2 : s2.adm = s.adm := by rw [refreshClass_adm, inc_adm, h1]
  exact ite_adm ((signal_adm ..).trans ((act_adm (r := r') hr).trans h2)) h2

theorem pushRec_adm (s : State) (r : SieveRec) : (s.pushRec r).adm = s.adm := by
  unfold State.pushRec
  extract_lets tail s1 s2
  have h1 : s1.adm = s.adm := rfl
  have h2 : s2.adm = s.adm := by rw [inc_adm, set_adm, h1]
  exact (refreshClass_adm ..).trans (ite_adm ((inc_adm ..).trans h2) h2)

theorem newRec_adm {r : SieveRec} (hr : isolable r.suspect = false) : (s.newRec r).adm = s.adm := by
  unfold State.newRec
  extract_lets s1
  have h1 : s1.adm = s.adm := ite_adm (inc_adm ..) (pushRec_adm ..)
  exact (signal_adm ..).trans ((act_adm hr).trans h1)

theorem makeRec_adm {source sev cls sus : Nat} {d : Word} {inj : Bool} (hs : isolable sus = false) :
    (s.makeRec source sev cls sus d inj).adm = s.adm := by
  unfold State.makeRec
  cases e : s.foldTarget cls sus inj with
  | none => exact newRec_adm hs
  | some p => exact foldIn_adm (foldTarget_sus _ _ _ _ _ e ▸ hs)

theorem reportOne_adm {source sus : Nat} {d : Word} {inj : Bool} (hs : isolable sus = false) : (s.reportOne source sus d inj).adm = s.adm := by
  rw [State.reportOne, makeRec_adm hs, State.countReport, incSat_adm, inc_adm]

theorem report_adm {source sus : Nat} {d : Word} {inj : Bool} (hs : isolable sus = false) : (s.report source sus d inj).adm = s.adm := by
  unfold State.report
  have hone : (s.reportOne source sus d inj).adm = s.adm := reportOne_adm hs
  refine ite_adm ?_ hone
  rw [reportOne_adm (by decide), setFlag_adm, hone]

theorem ownTray_adm (s : State) (ch t m : Nat) : (s.ownTray ch t m).adm = s.adm :=
  (foldl_adm (fun _ _ => ite_adm ((set_adm ..).trans (setFlag_adm ..)) rfl) _ _).trans (set_adm ..)

theorem disownTray_adm (s : State) (ch t m : Nat) : (s.disownTray ch t m).adm = s.adm :=
  foldl_adm (fun _ _ => ite_adm (disown_adm ..) rfl) _ _

/-! ### The result of an admission command -/

/-- DSP_ADM_RESULT answers for a channel with a result, a resource and a tray. -/
def State.Answers (t : State) (ch res resource tray : Nat) : Prop :=
  t.get R.DSP_ADM_RESULT_RESULT = res ∧ t.get R.DSP_ADM_RESULT_RESOURCE = resource ∧ t.get R.DSP_ADM_RESULT_TRAY = tray ∧
    t.get R.DSP_ADM_RESULT_CHANNEL = ch ∧ t.flag R.DSP_ADM_RESULT_VALID = true

theorem admResult_answers {ch res resource tray : Nat} (hc : ch < 256) (hr : res < 4) (hx : resource < 8) (ht : tray < 16) :
    (s.admResult ch res resource tray).Answers ch res resource tray := by
  unfold State.Answers State.admResult
  refine ⟨?_, ?_, ?_, ?_, flag_setFlag_same _ _ _ (by decide) (by decide)⟩ <;>
    simp (disch := decide) only [State.setFlag, get_set_same, get_set_beside]
  · exact Nat.mod_eq_of_lt hr
  · exact Nat.mod_eq_of_lt hx
  · exact Nat.mod_eq_of_lt ht
  · exact Nat.mod_eq_of_lt hc

theorem State.Answers.of_reg {ch res resource tray : Nat} (h : s.Answers ch res resource tray) (hreg : t.reg K.DSP_ADM_RESULT = s.reg K.DSP_ADM_RESULT) :
    t.Answers ch res resource tray := by
  have hget : ∀ f : Field, f.key = K.DSP_ADM_RESULT → t.get f = s.get f := fun f hf => get_of_reg (by rw [hf, hreg])
  obtain ⟨h1, h2, h3, h4, h5⟩ := h
  exact ⟨(hget _ rfl).trans h1, (hget _ rfl).trans h2, (hget _ rfl).trans h3, (hget _ rfl).trans h4,
    (congrArg (fun n => decide (n = 1)) (hget _ rfl)).trans h5⟩

/-! ### ADMIT -/

theorem admCmd_of_busy {ch op : Nat} (h : s.flag R.DSP_ADM_CMD_BUSY = true) : s.admCmd ch op = s := if_pos h

theorem admCmd_admit (ch : Nat) (h : s.flag R.DSP_ADM_CMD_BUSY = false) : s.admCmd ch 1 = (s.set R.DSP_ADM_CMD_CHANNEL ch).admitCh ch :=
  if_neg (ne_true_of_eq_false h)

theorem admCmd_release (ch : Nat) (h : s.flag R.DSP_ADM_CMD_BUSY = false) : s.admCmd ch 2 =
    if ((s.set R.DSP_ADM_CMD_CHANNEL ch).admOf ch).admitted then (s.set R.DSP_ADM_CMD_CHANNEL ch).beginRelease ch
    else (s.set R.DSP_ADM_CMD_CHANNEL ch).admResult ch 2 0 0 :=
  if_neg (ne_true_of_eq_false h)

theorem exec_admitChannel {ch : Chan} (hu : s.up = true) (hh : s.halted = false) : exec (.admitChannel ch) s = .next (s.admCmd ch 1) := by
  show execAdmit ch s = _
  rw [execAdmit, whenWr_of_up hu hh]

theorem exec_release {ch : Chan} (hu : s.up = true) (hh : s.halted = false) : exec (.release ch) s = .next (s.admCmd ch 2) := by
  show execRelease ch s = _
  rw [execRelease, whenWr_of_up hu hh]

/-- A declaration of a violated format, or of a channel that is admitted, charges nothing. -/
theorem admitCh_of_bad {ch : Nat} (hc : ch < 256) (h : s.decl (s.get R.DSP_ADM_DECL_ADDRESS) = none ∨ (s.admOf ch).admitted = true) :
    (s.admitCh ch).Answers ch 1 7 0 ∧ (s.admitCh ch).adm = s.adm := by
  unfold State.admitCh
  dsimp only
  split
  · exact ⟨admResult_answers hc (by decide) (by decide) (by decide),
      (admResult_adm ..).trans (ite_adm (report_adm (by decide)) rfl)⟩
  · next hd =>
    have ha : (s.admOf ch).admitted = true := h.resolve_left (by rw [hd]; exact Option.some_ne_none _)
    rw [if_pos ha]
    exact ⟨admResult_answers hc (by decide) (by decide) (by decide), admResult_adm ..⟩

section
variable {ch : Nat} {d : Decl} (hd : s.decl (s.get R.DSP_ADM_DECL_ADDRESS) = some d) (ha : (s.admOf ch).admitted = false)
include hd ha

theorem admitCh_of_refused {r y : Nat} (h : s.refusal ch d = some (r, y)) : s.admitCh ch = s.admResult ch 1 r y := by
  simp only [State.admitCh, hd, ha, h, Bool.false_eq_true, if_false]

theorem admitCh_of_fit (h : s.refusal ch d = none) : s.admitCh ch = s.admitDecl ch d := by
  simp only [State.admitCh, hd, ha, h, Bool.false_eq_true, if_false]

end

/-- What the admission of a declaration records for its channel. -/
def Decl.admission (d : Decl) : Adm :=
  { admitted := true, subframe := d.sub, trays := d.trays, perSecond := [1, 2, 3, 4, 5].map (fun r => (r, d.perSecond r)),
    frame := (d.perFrame 0, d.perFrame 1, d.perFrame 2) }

theorem admitDecl_admOf (s : State) (ch : Nat) (d : Decl) : (s.admitDecl ch d).admOf ch = d.admission := by
  unfold State.admitDecl
  extract_lets a s1 s2 s3 s4
  have h2 : s2.adm = s1.adm := foldl_adm (fun _ _ => (ownTray_adm ..).trans (add_adm ..)) _ _
  have h3 : s3.adm = s2.adm := foldl_adm (fun _ _ => add_adm ..) _ _
  have h4 : s4.adm = s1.adm := (openWindow_adm ..).trans ((setFlag_adm ..).trans (h3.trans h2))
  rw [State.admOf, admResult_adm, set_adm, set_adm, h4]
  exact tget_tset_same (fun _ => ({} : Adm)) s.adm ch a

theorem admitDecl_answers {ch : Nat} {d : Decl} (hc : ch < 256) : (s.admitDecl ch d).Answers ch 0 0 0 := by
  unfold State.admitDecl
  exact admResult_answers hc (by decide) (by decide) (by decide)

/-! ### RELEASE -/

theorem beginRelease_of_admitted {ch : Nat} (h : (s.admOf ch).admitted = true) :
    ((s.beginRelease ch).admOf ch).releasing = true ∧ (s.beginRelease ch).flag R.DSP_ADM_CMD_BUSY = true := by
  have e : s.beginRelease ch = (({ s with adm := tset (fun _ => {}) s.adm ch { s.admOf ch with releasing := true } } : State).set
    R.DSP_ADM_CMD_CHANNEL ch).setFlag R.DSP_ADM_CMD_BUSY true := if_pos h
  rw [e]
  refine ⟨?_, flag_setFlag_same _ _ _ (by decide) (by decide)⟩
  rw [State.admOf, setFlag_adm, set_adm]
  exact congrArg Adm.releasing (tget_tset_same ..)

/-- The release of a channel admits none. -/
theorem beginRelease_admitted (s : State) (c ch : Nat) : ((s.beginRelease c).admOf ch).admitted = (s.admOf ch).admitted := by
  unfold State.beginRelease
  dsimp only
  split
  · rw [State.admOf, setFlag_adm, set_adm, tget_tset]
    split
    · next e => rw [e]; rfl
    · rfl
  · rfl

theorem beginRelease_reg (s : State) (c : Nat) : (s.beginRelease c).reg K.DSP_ADM_RESULT = s.reg K.DSP_ADM_RESULT := by
  unfold State.beginRelease
  dsimp only
  split
  · exact (reg_set_other _ R.DSP_ADM_CMD_BUSY _ _ (by decide)).trans (reg_set_other _ R.DSP_ADM_CMD_CHANNEL _ _ (by decide))
  · rfl

/-- What a channel was charged on a tray returns, and its engines there are owned no longer. -/
def State.returnTray (ch : Nat) (s : State) (t : Nat × Nat × Nat) : State :=
  (s.set (R.DSP_ADM_USED_TRAY_CU t.1) (s.get (R.DSP_ADM_USED_TRAY_CU t.1) - t.2.2)).disownTray ch t.1 t.2.1

/-- What a channel was charged of a resource per second returns. -/
def State.returnUsed (s : State) (r : Nat × Nat) : State :=
  s.set (R.DSP_ADM_USED_USED (r.1 - 1)) (s.get (R.DSP_ADM_USED_USED (r.1 - 1)) - r.2)

/-- Every charge of a channel returns, and the answer is written. -/
def State.returned (s : State) (ch : Nat) : State :=
  let a := s.admOf ch
  let s : State := { s with adm := tset (fun _ => {}) s.adm ch {} }
  let s := a.perSecond.foldl State.returnUsed (a.trays.foldl (State.returnTray ch) s)
  let s := ((s.setFlag (R.DSP_CH_CFG_SUBFRAME ch) false).openWindow ch).freePipes ch
  let s := (s.set (R.RC_CH_SLOT_T_SLOT_NS ch) 0).set (R.RC_CH_SLOT_DMIN ch) 0
  (s.setFlag R.DSP_ADM_CMD_BUSY false).admResult ch 2 0 0

/-- The release of the first of the channels that wait for DSP_ADM_CMD begins. -/
def State.beginWaiting (s : State) : State :=
  match s.relWait with
  | [] => s
  | c :: rest => ({ s with relWait := rest } : State).beginRelease c

theorem returnAdm_eq (s : State) (ch : Nat) : s.returnAdm ch = (s.returned ch).beginWaiting := rfl

theorem foldl_returnTray_adm (ch : Nat) (l : List (Nat × Nat × Nat)) (s : State) : (l.foldl (State.returnTray ch) s).adm = s.adm :=
  foldl_adm (fun _ _ => by rw [State.returnTray, disownTray_adm, set_adm]) l s

theorem foldl_returnUsed_adm (l : List (Nat × Nat)) (s : State) : (l.foldl State.returnUsed s).adm = s.adm := foldl_adm (fun _ _ => set_adm ..) l s

theorem returned_admOf (s : State) (ch : Nat) : (s.returned ch).admOf ch = {} := by
  simp only [State.admOf, State.returned, admResult_adm, setFlag_adm, set_adm, freePipes_adm, openWindow_adm, foldl_returnUsed_adm,
    foldl_returnTray_adm]
  exact tget_tset_same (fun _ => ({} : Adm)) s.adm ch {}

theorem beginWaiting_admitted (s : State) (ch : Nat) : (s.beginWaiting.admOf ch).admitted = (s.admOf ch).admitted := by
  unfold State.beginWaiting
  split
  · rfl
  · exact beginRelease_admitted ..

theorem beginWaiting_reg (s : State) : s.beginWaiting.reg K.DSP_ADM_RESULT = s.reg K.DSP_ADM_RESULT := by
  unfold State.beginWaiting
  split
  · rfl
  · exact beginRelease_reg ..

/-- A released channel has no admission, and the answer stands while the next release begins. -/
theorem returnAdm_released {ch : Nat} (hc : ch < 256) : ((s.returnAdm ch).admOf ch).admitted = false ∧ (s.returnAdm ch).Answers ch 2 0 0 := by
  rw [returnAdm_eq, beginWaiting_admitted, returned_admOf]
  have hans : (s.returned ch).Answers ch 2 0 0 := admResult_answers hc (by decide) (by decide) (by decide)
  exact ⟨rfl, hans.of_reg (beginWaiting_reg ..)⟩

theorem exec_releaseComplete {ch : Chan} (hu : s.up = true) (hr : (s.admOf ch).releasing = true) (hn : s.get (R.DSP_CH_ENTRIES_COUNT ch) = 0) :
    exec (.releaseComplete ch) s = .next (s.returnAdm ch) := by
  show execReleaseComplete ch s = _
  rw [execReleaseComplete, whenUp_of_up hu, if_pos ⟨hr, hn⟩]

/-- Settles O26: the result of a cancel follows the task's state, and each admission command answers by what it did. -/
theorem cancelAndAdmission : Obligations.CancelAndAdmission := by
  unfold Obligations.CancelAndAdmission
  intro answers
  refine ⟨fun h s hu hh => ?_, fun ch s hu hh => ⟨fun hb => ?_, fun hb => ?_, fun hr hn => ?_⟩⟩
  · obtain ⟨hres, hvalid⟩ := dspCancel_result s h.toNat
    refine ⟨_, exec_dspCancel hu hh, hvalid, fun hk => ?_, fun hlt hgen hst => ?_, fun hlt hgen hst => ?_⟩
    · rw [hres, dspCancel_tasks, cancel_of_unknown hk]; exact ⟨rfl, rfl⟩
    · rw [hres, dspCancel_tasks, cancel_of_begun hlt hgen hst]; exact ⟨rfl, rfl⟩
    · rw [hres, cancel_of_waiting hlt hgen hst]
  · rw [exec_admitChannel hu hh, exec_release hu hh, admCmd_of_busy hb, admCmd_of_busy hb]
    exact ⟨rfl, rfl⟩
  · rw [exec_admitChannel hu hh, exec_release hu hh]
    intro u
    have haddr : u.get R.DSP_ADM_DECL_ADDRESS = s.get R.DSP_ADM_DECL_ADDRESS := get_set_other _ _ _ _ (by decide)
    have hadm : u.adm = s.adm := set_adm ..
    have hof : u.admOf ch = s.admOf ch := congrArg (tget _ · ch.val) hadm
    rw [admCmd_admit ch hb, admCmd_release ch hb, ← haddr, ← hof, ← hadm]
    refine ⟨fun h => ?_, fun d r y hd ha h hr hy => ?_, fun d hd ha h => ?_, fun ha => ?_, fun ha => ?_⟩
    · exact ⟨_, rfl, admitCh_of_bad ch.isLt h⟩
    · rw [admitCh_of_refused hd ha h]
      exact ⟨_, rfl, admResult_answers ch.isLt (by decide) hr hy, admResult_adm ..⟩
    · rw [admitCh_of_fit hd ha h]
      refine ⟨_, rfl, admitDecl_answers ch.isLt, ?_⟩
      rw [admitDecl_admOf]
      exact ⟨rfl, rfl, rfl⟩
    · rw [if_pos ha]
      exact ⟨_, rfl, beginRelease_of_admitted ha⟩
    · rw [if_neg (ne_true_of_eq_false ha)]
      exact ⟨_, rfl, admResult_answers ch.isLt (by decide) (by decide) (by decide), admResult_adm ..⟩
  · exact ⟨_, exec_releaseComplete hu hr hn, returnAdm_released ch.isLt⟩

end Sys2Proof.Machine
end

section
/-! The completion records of a thread that became IDLE, with its data partition moved since (03_morop.md R751; 04_dispatcher.md R120, R121). -/

namespace Sys2Proof.Machine

variable {s : State}

theorem exec_heldRecordWrite {n : Thr} {r : CompRec} {rest : List CompRec} (hl : s.live = true) (hheld : (s.thr n).held = r :: rest)
    (hroom : (s.thr n).ringRoom = true) : exec (.heldRecordWrite (.thread n)) s = .next ((s.setThr n { s.thr n with held := rest }).writeRec n r) := by
  show execHeldRecordWrite (.thread n) s = _
  rw [execHeldRecordWrite, whenLive_of_live hl]
  simp only [agentIx, hheld, hroom, if_true]

/-- The record of a PRF task of the shared entry 4096: DONE, at a cost of 100. -/
def doneRec : CompRec := ⟨4096, 4096, 0, 3, 100⟩

/-- Thread 0 became IDLE with that record held and its data partition at 0; the partition was then moved to 64. -/
def ringLeftBehind : State :=
  (({ State.reset with
      threads := [(0, { ({} : Thread) with st := .runnable, cqLen := 2, held := [doneRec] })],
      tasks := [(4096, { ({} : TaskEntry) with st := .ended, d := { ({} : Desc) with cls := 3, cost := 100 } })] } : State).toIdle 0).set
    (R.SEQ_TH_DMAP_BASE 0 0) 64

/-- The record goes to the ring where it lay when the thread became IDLE, so that the place in the moved partition stays empty. -/
theorem ringLeftBehind_place_empty :
    ((ringLeftBehind.setThr 0 { ringLeftBehind.thr 0 with held := [] }).writeRec 0 doneRec).seqRd (seqKey 0 (0x8000 + 64)) 16 = 0 := by
  decide +kernel

/-- Refutes O25: the held record of a thread that became IDLE is written where its ring lay at that time (R751), not where the thread's data partition
lies now. -/
theorem not_tasksRunAndEnd : ¬ Obligations.TasksRunAndEnd := by
  unfold Obligations.TasksRunAndEnd
  rintro ⟨-, -, -, -, -, h⟩
  have hlive : ringLeftBehind.live = true := by decide +kernel
  have hheld : (ringLeftBehind.thr (0 : Thr)).held = [doneRec] := by decide +kernel
  have hroom : (ringLeftBehind.thr (0 : Thr)).ringRoom = true := by decide +kernel
  obtain ⟨t, hexec, -, -, -, hrec⟩ := h 0 ringLeftBehind doneRec [] hlive hheld hroom
  obtain rfl := Host.Outcome.next.inj ((exec_heldRecordWrite hlive hheld hroom).symm.trans hexec)
  have hplace : seqKey ((0 : Thr).val / 4) (0x8000 + ringLeftBehind.get (R.SEQ_TH_DMAP_BASE ((0 : Thr).val / 4) ((0 : Thr).val % 4)) +
      (ringLeftBehind.thr (0 : Thr)).cqBase + 16 * (ringLeftBehind.thr (0 : Thr)).cqTail) = seqKey 0 (0x8000 + 64) := by decide +kernel
  rw [hplace] at hrec
  exact absurd (ringLeftBehind_place_empty.symm.trans hrec) (by decide)

end Sys2Proof.Machine
end

section
/-! Fields after a write of another field, counters of a bank, and folds over units: what the media ports and ingest use of the register file. -/

namespace Sys2Proof.Machine

variable {s : State} {f g : Field}

/-! ### Fields that do not touch -/

/-- Field `g` keeps its value when `f` is written: it lies in another register, or beside `f`. -/
def Field.Apart (f g : Field) : Prop := g.key ≠ f.key ∨ (f.lo + f.w ≤ 64 ∧ (f.lo + f.w ≤ g.lo ∨ g.lo + g.w ≤ f.lo))

theorem get_set_apart {x : Nat} (h : f.Apart g) : (s.set f x).get g = s.get g := by
  by_cases hk : g.key = f.key
  · obtain ⟨hw, hd⟩ := h.resolve_left (not_not.2 hk)
    exact get_set_beside s f g x hw hk hd
  · exact get_set_other s f g x hk

theorem flag_set_apart {x : Nat} (h : f.Apart g) : (s.set f x).flag g = s.flag g := by rw [State.flag, get_set_apart h, State.flag]

theorem get_setFlag_apart {b : Bool} (h : f.Apart g) : (s.setFlag f b).get g = s.get g := get_set_apart h

theorem flag_setFlag_apart {b : Bool} (h : f.Apart g) : (s.setFlag f b).flag g = s.flag g := flag_set_apart h

theorem get_inc_apart (h : f.Apart g) : (s.inc f).get g = s.get g := get_set_apart h

theorem flag_of_get {t : State} (h : t.get g = s.get g) : t.flag g = s.flag g := by rw [State.flag, h, State.flag]

theorem advance_get {now : Nat} : (s.advance now).get g = s.get g := rfl

theorem advance_flag {now : Nat} : (s.advance now).flag g = s.flag g := rfl

/-! ### Counters -/

theorem get_inc_same (h : f.lo + f.w ≤ 64) : (s.inc f).get f = (s.get f + 1) % 2 ^ f.w := get_set_same s f _ h

/-- One count in a bank of 64-bit counters. -/
theorem get_inc_bank {c : Nat → Field} (hw : ∀ i, (c i).lo = 0 ∧ (c i).w = 64) (hk : ∀ i j, j ≠ i → (c j).key ≠ (c i).key) (i j : Nat) :
    (s.inc (c i)).get (c j) = (s.get (c j) + if j = i then 1 else 0) % 2 ^ 64 := by
  have hlo := (hw j).1
  have hwj := (hw j).2
  by_cases e : j = i
  · subst e
    rw [get_inc_same (by omega), hwj, if_pos rfl]
  · rw [get_inc_apart (.inl (hk i j e)), if_neg e, Nat.add_zero, Nat.mod_eq_of_lt]
    exact hwj ▸ get_lt s (c j)

/-! ### Folds -/

/-- What the step for a unit of the list establishes, and no step for another unit ends, holds after a fold whose every step keeps an invariant. -/
theorem foldl_establishes {α : Type} {I Q : State → Prop} {step : State → α → State} {a : α} {l : List α}
    (inv : ∀ s, ∀ b ∈ l, I s → I (step s b)) (own : ∀ s, I s → Q (step s a))
    (keep : ∀ s, ∀ b ∈ l, b ≠ a → I s → Q s → Q (step s b)) (ha : a ∈ l) (s : State) (hs : I s) : Q (l.foldl step s) := by
  have stays (m : List α) (hm : m ⊆ l) (s : State) (hs : I s) (hq : Q s) : Q (m.foldl step s) := by
    induction m generalizing s with
    | nil => exact hq
    | cons b m ih =>
      obtain ⟨hb, hl⟩ := List.cons_subset.1 hm
      refine ih hl _ (inv s b hb hs) ?_
      by_cases e : b = a
      · exact e ▸ own s hs
      · exact keep s b hb e hs hq
  have comes (m : List α) (hm : m ⊆ l) (ha : a ∈ m) (s : State) (hs : I s) : Q (m.foldl step s) := by
    induction m generalizing s with
    | nil => simp at ha
    | cons b m ih =>
      obtain ⟨hb, hl⟩ := List.cons_subset.1 hm
      rcases List.mem_cons.1 ha with rfl | h
      · exact stays m hl _ (inv s a hb hs) (own s hs)
      · exact ih hl h _ (inv s b hb hs)
  exact comes l (List.Subset.refl l) ha s hs

end Sys2Proof.Machine
end

section
/-! Media lanes, ports and MACs: equalisation, loss of lock, and the reception of frames (05_ingest.md R194 to R207). -/

namespace Sys2Proof.Machine

variable {s : State}

theorem whenIngest_of_on {f : State → State} (h : s.ingestOn = true) : whenIngest s f = .next (f s) := by simp [whenIngest, h]

/-! ### MACs (R196, R197, R207) -/

/-- The counter of a frame: 0 of good ones, 1 of a bad FCS, 2 of runts, 3 of long ones, 4 of pauses. -/
def macExit (f : EthFrame) : Nat :=
  if f.len < 64 then 2 else if 9216 < f.len then 3 else if f.fcsOk = false then 1 else if f.pause = true then 4 else 0

theorem macCnt_inc (m i j : Nat) :
    (s.inc (R.MAC_CNT_COUNT m i)).get (R.MAC_CNT_COUNT m j) = (s.get (R.MAC_CNT_COUNT m j) + if j = i then 1 else 0) % 2 ^ 64 :=
  get_inc_bank (c := R.MAC_CNT_COUNT m) (fun _ => ⟨rfl, rfl⟩) (fun i j h => by simp only [R.MAC_CNT_COUNT]; omega) i j

/-- A frame's time-stamp does not hang on what its MAC has counted. -/
theorem rxStamp_inc_macCnt {m i r : Nat} (hm : m < 16) : (s.inc (R.MAC_CNT_COUNT m i)).rxStamp m r = s.rxStamp m r := by
  have hmode : (R.MAC_CNT_COUNT m i).Apart (R.MP_QUAD_CFG_MODE (m / 4)) := .inl (by simp only [R.MAC_CNT_COUNT, R.MP_QUAD_CFG_MODE]; omega)
  have htrim : (R.MAC_CNT_COUNT m i).Apart (R.TB_TS_TRIM_RX_TRIM m) := .inl (by simp only [R.MAC_CNT_COUNT, R.TB_TS_TRIM_RX_TRIM]; omega)
  unfold State.rxStamp State.getSigned
  rw [get_inc_apart hmode, get_inc_apart htrim]

/-- Frames handed on to the ingest packet engine. -/
def State.handOn (s : State) (l : List RxFrame) : State := { s with ingFifo := s.ingFifo ++ l }

theorem handOn_nil : s.handOn [] = s := by rw [State.handOn, List.append_nil]

theorem handOn_get {f : Field} {l : List RxFrame} : (s.handOn l).get f = s.get f := rfl

theorem handOn_mem {l : List RxFrame} : (s.handOn l).mem = s.mem := rfl

theorem handOn_ingFifo {l : List RxFrame} : (s.handOn l).ingFifo = s.ingFifo ++ l := rfl

theorem inc_ingFifo (f : Field) : (s.inc f).ingFifo = s.ingFifo := rfl

/-- A MAC counts a frame once, and hands on a good one. -/
theorem macReceive_eq {m : Nat} {f : EthFrame} (hm : m < 16) : s.macReceive m f =
    (s.inc (R.MAC_CNT_COUNT m (macExit f))).handOn (if macExit f = 0 then [⟨m, s.rxStamp m s.raw, s.raw, f⟩] else []) := by
  unfold State.macReceive macExit
  by_cases hshort : f.len < 64
  · simp [hshort, handOn_nil]
  by_cases hlong : 9216 < f.len
  · simp [hshort, hlong, handOn_nil]
  cases hfcs : f.fcsOk with
  | false => simp [hshort, hlong, handOn_nil]
  | true =>
    cases hpause : f.pause with
    | true => simp [hshort, hlong, handOn_nil]
    | false => simp [hshort, hlong, State.handOn, rxStamp_inc_macCnt hm]

theorem macActive_iff {m : Nat} : s.macActive m = true ↔ s.lanesOf m ≠ [] := decide_eq_true_iff

theorem exec_macFrameReceive_up {m : MPort} {f : EthFrame} {now : Nat} (hi : s.ingestOn = true) (ha : s.lanesOf m ≠ [])
    (he : s.flag (R.MAC_CTRL_ENABLE m) = true) (hu : s.flag (R.MAC_STATUS_LINK_UP m) = true) :
    exec (.macFrameReceive m f now) s = .next ((s.advance now).macReceive m f) := by
  rw [exec, execMacFrameReceive, whenIngest_of_on hi]
  exact congrArg _ ((if_pos ⟨macActive_iff.2 ha, he⟩).trans (if_pos hu))

theorem exec_macFrameReceive_down {m : MPort} {f : EthFrame} {now : Nat} (hi : s.ingestOn = true) (ha : s.lanesOf m ≠ [])
    (he : s.flag (R.MAC_CTRL_ENABLE m) = true) (hu : s.flag (R.MAC_STATUS_LINK_UP m) = false) :
    exec (.macFrameReceive m f now) s = .next ((s.advance now).macCut m) := by
  rw [exec, execMacFrameReceive, whenIngest_of_on hi]
  exact congrArg _ ((if_pos ⟨macActive_iff.2 ha, he⟩).trans (if_neg (ne_true_of_eq_false hu)))

/-- A port whose next frame is counted as lost, or no longer. -/
def State.setPort (s : State) (m : Nat) (p : PortSt) : State := { s with ports := tset (fun _ => {}) s.ports m p }

theorem setPort_get {f : Field} {m : Nat} {p : PortSt} : (s.setPort m p).get f = s.get f := rfl

theorem inc_ports (f : Field) : (s.inc f).ports = s.ports := rfl

/-- The frame that an isolation cut off is counted as one with a bad FCS (R206). -/
theorem macCut_of_cut {m : Nat} {p : PortSt} (hp : tget (fun _ => {}) s.ports m = p) (hcut : p.cut = true) :
    s.macCut m = (s.setPort m { p with cut := false }).inc (R.MAC_CNT_COUNT m 1) := by
  subst hp
  exact if_pos hcut

/-! ### Equalisation (R199 to R202) -/

/-- A lane after an eye window, before decision feedback is added. -/
def State.eyeShown (s : State) (l mv : Nat) : State :=
  (s.set (R.MP_LANE_STATUS_EYE_MV l) (min mv 255)).setLane l
    { s.lane l with low := min (if mv < s.get (R.MP_LANE_EQ_EYE_FLOOR_MV l) then (s.lane l).low + 1 else 0) 16 }

/-- An eye window is the sixteenth below the floor of a lane that may add decision feedback. -/
def State.EyeDue (s : State) (l mv : Nat) : Prop :=
  mv < s.get (R.MP_LANE_EQ_EYE_FLOOR_MV l) ∧ 15 ≤ (s.lane l).low ∧ s.flag (R.MP_LANE_EQ_AUTO_DFE l) = true ∧
    s.flag (R.MP_LANE_STATUS_DFE_ACTIVE l) = false

/-- The margin that a window shows lies apart from what else is known of a lane. -/
theorem eyeMv_apart (l : Nat) : (R.MP_LANE_STATUS_EYE_MV l).Apart (R.MP_LANE_EQ_EYE_FLOOR_MV l) ∧
    (R.MP_LANE_STATUS_EYE_MV l).Apart (R.MP_LANE_EQ_AUTO_DFE l) ∧ (R.MP_LANE_STATUS_EYE_MV l).Apart (R.MP_LANE_STATUS_DFE_ACTIVE l) ∧
    (R.MP_LANE_STATUS_EYE_MV l).Apart (R.MP_LANE_STATUS_LOCK l) := by
  simp only [Field.Apart, R.MP_LANE_STATUS_EYE_MV, R.MP_LANE_EQ_EYE_FLOOR_MV, R.MP_LANE_EQ_AUTO_DFE, R.MP_LANE_STATUS_DFE_ACTIVE, R.MP_LANE_STATUS_LOCK]
  omega

theorem dfe_apart_eyeMv (l : Nat) : (R.MP_LANE_STATUS_DFE_ACTIVE l).Apart (R.MP_LANE_STATUS_EYE_MV l) := by
  simp only [Field.Apart, R.MP_LANE_STATUS_EYE_MV, R.MP_LANE_STATUS_DFE_ACTIVE]
  omega

theorem setLane_lane {l : Nat} {x : LaneSt} : (s.setLane l x).lane l = x := by simp [State.lane, State.setLane]

theorem eyeShown_margin (l mv : Nat) : (s.eyeShown l mv).get (R.MP_LANE_STATUS_EYE_MV l) = min mv 255 := by
  refine (get_set_same s (R.MP_LANE_STATUS_EYE_MV l) (min mv 255) (show 8 + 8 ≤ 64 by decide)).trans (Nat.mod_eq_of_lt ?_)
  change _ < 2 ^ 8
  omega

theorem eyeShown_low (l mv : Nat) : ((s.eyeShown l mv).lane l).low =
    if mv < s.get (R.MP_LANE_EQ_EYE_FLOOR_MV l) then min ((s.lane l).low + 1) 16 else 0 := by
  rw [State.eyeShown, setLane_lane]
  split <;> simp

theorem lane_set {f : Field} {x l : Nat} : (s.set f x).lane l = s.lane l := rfl

theorem lane_setFlag {f : Field} {b : Bool} {l : Nat} : (s.setFlag f b).lane l = s.lane l := rfl

theorem advance_lane {now l : Nat} : (s.advance now).lane l = s.lane l := rfl

theorem flag_setLane {f : Field} {l : Nat} {x : LaneSt} : (s.setLane l x).flag f = s.flag f := rfl

theorem eyeShown_lock (l mv : Nat) : (s.eyeShown l mv).flag (R.MP_LANE_STATUS_LOCK l) = s.flag (R.MP_LANE_STATUS_LOCK l) := by
  rw [State.eyeShown, flag_setLane, flag_set_apart (eyeMv_apart l).2.2.2]

theorem eyeShown_dfe (l mv : Nat) : (s.eyeShown l mv).flag (R.MP_LANE_STATUS_DFE_ACTIVE l) = s.flag (R.MP_LANE_STATUS_DFE_ACTIVE l) := by
  rw [State.eyeShown, flag_setLane, flag_set_apart (eyeMv_apart l).2.2.1]

theorem eyeWindow_eq {l mv : Nat} (h : (s.portOfLane l).isSome = true) [Decidable (s.EyeDue l mv)] : s.eyeWindow l mv =
    if s.EyeDue l mv then ((s.eyeShown l mv).setFlag (R.MP_LANE_STATUS_DFE_ACTIVE l) true).blockNotice 0x000C else s.eyeShown l mv := by
  obtain ⟨hfloor, hauto, hdfe, -⟩ := eyeMv_apart l
  have hnone : ¬(s.portOfLane l).isNone = true := by simpa [Option.isNone_iff_eq_none, Option.isSome_iff_ne_none] using h
  rw [State.eyeWindow, if_neg hnone]
  dsimp only
  rw [get_set_apart hfloor, lane_set, flag_setLane, flag_setLane, flag_set_apart hauto, flag_set_apart hdfe]
  refine if_congr ?_ rfl rfl
  unfold State.EyeDue
  split
  · next hlow => simp only [hlow, true_and, Nat.succ_le_succ_iff, and_left_comm]
  · next hlow => simp [hlow]

theorem exec_eyeWindow_of_due {l : MPort} {mv now : Nat} (hi : s.ingestOn = true) (h : (s.portOfLane l).isSome = true) (hd : s.EyeDue l mv) :
    exec (.eyeWindow l mv now) s =
      .next ((((s.advance now).eyeShown l mv).setFlag (R.MP_LANE_STATUS_DFE_ACTIVE l) true).blockNotice 0x000C) := by
  classical
  rw [exec, execEyeWindow, whenIngest_of_on hi, eyeWindow_eq (s := s.advance now) h, if_pos (show (s.advance now).EyeDue l mv from hd)]

theorem exec_eyeWindow_of_not_due {l : MPort} {mv now : Nat} (hi : s.ingestOn = true) (h : (s.portOfLane l).isSome = true) (hd : ¬s.EyeDue l mv) :
    exec (.eyeWindow l mv now) s = .next ((s.advance now).eyeShown l mv) := by
  classical
  rw [exec, execEyeWindow, whenIngest_of_on hi, eyeWindow_eq (s := s.advance now) h, if_neg (show ¬(s.advance now).EyeDue l mv from hd)]

theorem exec_forceCtle {l : MPort} (hu : s.up = true) (hh : s.halted = false) : exec (.forceCtle l) s =
    .next ((s.setFlag (R.MP_LANE_STATUS_DFE_ACTIVE l) false).setLane l { s.lane l with low := 0 }) := by
  rw [exec, execForceCtle, whenWr_of_up hu hh]

/-! ### The lanes of a port (R194, R204, R205) -/

/-- A lane of a port that goes down. -/
def State.laneDown (s : State) (l : Nat) : State := (s.setFlag (R.MP_LANE_STATUS_DFE_ACTIVE l) false).setFlag (R.MP_LANE_STATUS_LOCK l) false

/-- A lane of a port that comes up. -/
def State.laneUp (s : State) (l : Nat) : State :=
  ((s.setFlag (R.MP_LANE_STATUS_LOCK l) true).setFlag (R.MP_LANE_STATUS_DFE_ACTIVE l) false).setLane l { s.lane l with low := 0 }

/-- A field that no lane's LOCK and no lane's DFE_ACTIVE touches. -/
def Field.OffLanes (g : Field) : Prop := ∀ l < 16, (R.MP_LANE_STATUS_LOCK l).Apart g ∧ (R.MP_LANE_STATUS_DFE_ACTIVE l).Apart g

theorem mem_lanesOf {m l : Nat} : l ∈ s.lanesOf m ↔ l < 16 ∧ s.portOfLane l = some m := by simp [State.lanesOf]

theorem lock_apart_dfe (l k : Nat) : (R.MP_LANE_STATUS_LOCK l).Apart (R.MP_LANE_STATUS_DFE_ACTIVE k) ∧
    (R.MP_LANE_STATUS_DFE_ACTIVE k).Apart (R.MP_LANE_STATUS_LOCK l) := by
  simp only [Field.Apart, R.MP_LANE_STATUS_DFE_ACTIVE, R.MP_LANE_STATUS_LOCK]
  omega

theorem lane_apart_lane {l k : Nat} (h : k ≠ l) : (R.MP_LANE_STATUS_LOCK l).Apart (R.MP_LANE_STATUS_LOCK k) ∧
    (R.MP_LANE_STATUS_DFE_ACTIVE l).Apart (R.MP_LANE_STATUS_DFE_ACTIVE k) := by
  simp only [Field.Apart, R.MP_LANE_STATUS_DFE_ACTIVE, R.MP_LANE_STATUS_LOCK]
  omega

theorem lock_setFlag (l : Nat) (b : Bool) : (s.setFlag (R.MP_LANE_STATUS_LOCK l) b).flag (R.MP_LANE_STATUS_LOCK l) = b :=
  flag_setFlag_same _ _ _ (show 0 + 1 ≤ 64 by decide) (show 0 < 1 by decide)

theorem dfe_setFlag (l : Nat) (b : Bool) : (s.setFlag (R.MP_LANE_STATUS_DFE_ACTIVE l) b).flag (R.MP_LANE_STATUS_DFE_ACTIVE l) = b :=
  flag_setFlag_same _ _ _ (show 1 + 1 ≤ 64 by decide) (show 0 < 1 by decide)

theorem laneDown_get {g : Field} {l : Nat} (hl : l < 16) (hg : g.OffLanes) : (s.laneDown l).get g = s.get g := by
  rw [State.laneDown, get_setFlag_apart (hg l hl).1, get_setFlag_apart (hg l hl).2]

theorem laneDown_lock (s : State) (l : Nat) : (s.laneDown l).flag (R.MP_LANE_STATUS_LOCK l) = false := lock_setFlag ..

theorem laneDown_lock_other (s : State) (l k : Nat) (h : k ≠ l) : (s.laneDown l).flag (R.MP_LANE_STATUS_LOCK k) = s.flag (R.MP_LANE_STATUS_LOCK k) := by
  rw [State.laneDown, flag_setFlag_apart (lane_apart_lane h).1, flag_setFlag_apart (lock_apart_dfe ..).2]

theorem laneUp_lock (s : State) (l : Nat) : (s.laneUp l).flag (R.MP_LANE_STATUS_LOCK l) = true := by
  rw [State.laneUp, flag_setLane, flag_setFlag_apart (lock_apart_dfe ..).2, lock_setFlag]

theorem laneUp_dfe (s : State) (l : Nat) : (s.laneUp l).flag (R.MP_LANE_STATUS_DFE_ACTIVE l) = false := by
  rw [State.laneUp, flag_setLane, dfe_setFlag]

theorem laneUp_other (s : State) (l k : Nat) (h : k ≠ l) : (s.laneUp l).flag (R.MP_LANE_STATUS_LOCK k) = s.flag (R.MP_LANE_STATUS_LOCK k) ∧
    (s.laneUp l).flag (R.MP_LANE_STATUS_DFE_ACTIVE k) = s.flag (R.MP_LANE_STATUS_DFE_ACTIVE k) := by
  rw [State.laneUp, flag_setLane, flag_setLane, flag_setFlag_apart (lock_apart_dfe ..).2, flag_setFlag_apart (lane_apart_lane h).1,
    flag_setFlag_apart (lane_apart_lane h).2, flag_setFlag_apart (lock_apart_dfe ..).1]
  exact ⟨rfl, rfl⟩

/-- Every lane of a port that comes up is locked and without decision feedback. -/
theorem foldl_laneUp {ls : List Nat} {l : Nat} (h : l ∈ ls) :
    (ls.foldl State.laneUp s).flag (R.MP_LANE_STATUS_LOCK l) = true ∧ (ls.foldl State.laneUp s).flag (R.MP_LANE_STATUS_DFE_ACTIVE l) = false := by
  refine foldl_establishes (I := fun _ => True) (Q := fun s => s.flag (R.MP_LANE_STATUS_LOCK l) = true ∧ s.flag (R.MP_LANE_STATUS_DFE_ACTIVE l) = false)
    (fun _ _ _ => id) (fun s _ => ⟨laneUp_lock s l, laneUp_dfe s l⟩) (fun s k _ hk _ hQ => ?_) h s trivial
  obtain ⟨hlock, hdfe⟩ := laneUp_other s k l (Ne.symm hk)
  rwa [hlock, hdfe]

theorem foldl_laneDown_get {g : Field} (hg : g.OffLanes) {ls : List Nat} (hls : ∀ l ∈ ls, l < 16) : (ls.foldl State.laneDown s).get g = s.get g := by
  induction ls generalizing s with
  | nil => rfl
  | cons l ls ih => rw [List.foldl_cons, ih (fun k hk => hls k (List.mem_cons_of_mem l hk)), laneDown_get (hls l List.mem_cons_self) hg]

/-! ### A port that goes down (R204) -/

/-- The status of a port's link, before its lanes. -/
def State.linkDown (s : State) (m : Nat) : State :=
  (if s.flag (R.MAC_STATUS_LINK_UP m) then s.setFlag (R.MAC_STATUS_LINK_DOWN_SEEN m) true else s).setFlag (R.MAC_STATUS_LINK_UP m) false

theorem portDown_eq (m : Nat) : s.portDown m = ((s.linkDown m).lanesOf m).foldl State.laneDown (s.linkDown m) := rfl

theorem linkDown_up (m : Nat) : (s.linkDown m).flag (R.MAC_STATUS_LINK_UP m) = false :=
  flag_setFlag_same _ _ _ (show 0 + 1 ≤ 64 by decide) (show 0 < 1 by decide)

theorem linkDown_get {g : Field} {m : Nat} (hup : (R.MAC_STATUS_LINK_UP m).Apart g) (hseen : (R.MAC_STATUS_LINK_DOWN_SEEN m).Apart g) :
    (s.linkDown m).get g = s.get g := by
  rw [State.linkDown, get_setFlag_apart hup]
  split
  · exact get_setFlag_apart hseen
  · rfl

theorem portDown_get {g : Field} {m : Nat} (hg : g.OffLanes) : (s.portDown m).get g = (s.linkDown m).get g := by
  rw [portDown_eq, foldl_laneDown_get hg fun l hl => (mem_lanesOf.1 hl).1]

theorem portDown_lock {m l : Nat} (hl : l < 16) (hp : (s.linkDown m).portOfLane l = some m) :
    (s.portDown m).flag (R.MP_LANE_STATUS_LOCK l) = false := by
  rw [portDown_eq]
  exact foldl_establishes (I := fun _ => True) (Q := fun s => s.flag (R.MP_LANE_STATUS_LOCK l) = false) (fun _ _ _ => id)
    (fun s _ => laneDown_lock s l) (fun s k _ hk _ hQ => by rw [laneDown_lock_other s k l (Ne.symm hk), hQ]) (mem_lanesOf.2 ⟨hl, hp⟩) _ trivial

theorem linkUp_offLanes (m : Nat) : (R.MAC_STATUS_LINK_UP m).OffLanes := fun l hl => by
  simp only [Field.Apart, R.MP_LANE_STATUS_LOCK, R.MP_LANE_STATUS_DFE_ACTIVE, R.MAC_STATUS_LINK_UP]
  omega

theorem macCnt_offLanes (m i : Nat) : (R.MAC_CNT_COUNT m i).OffLanes := fun l hl => by
  simp only [Field.Apart, R.MP_LANE_STATUS_LOCK, R.MP_LANE_STATUS_DFE_ACTIVE, R.MAC_CNT_COUNT]
  omega

theorem lockLost_offLanes (l : Nat) : (R.MP_LANE_STATUS_LOCK_LOST l).OffLanes := fun k _ => by
  simp only [Field.Apart, R.MP_LANE_STATUS_LOCK, R.MP_LANE_STATUS_DFE_ACTIVE, R.MP_LANE_STATUS_LOCK_LOST]
  omega

/-- A port's link status lies apart from its counters, from the links of other ports, and from what its lanes have lost. -/
theorem linkStatus_apart {m l : Nat} (hm : m < 16) (hl : l < 16) :
    ((R.MAC_STATUS_LINK_UP m).Apart (R.MAC_CNT_COUNT m 1) ∧ (R.MAC_STATUS_LINK_DOWN_SEEN m).Apart (R.MAC_CNT_COUNT m 1)) ∧
    ((R.MAC_STATUS_LINK_UP m).Apart (R.MP_LANE_STATUS_LOCK_LOST l) ∧ (R.MAC_STATUS_LINK_DOWN_SEEN m).Apart (R.MP_LANE_STATUS_LOCK_LOST l)) ∧
    ∀ j, j ≠ m → (R.MAC_STATUS_LINK_UP m).Apart (R.MAC_STATUS_LINK_UP j) ∧ (R.MAC_STATUS_LINK_DOWN_SEEN m).Apart (R.MAC_STATUS_LINK_UP j) := by
  simp only [Field.Apart, R.MAC_STATUS_LINK_UP, R.MAC_STATUS_LINK_DOWN_SEEN, R.MAC_CNT_COUNT, R.MP_LANE_STATUS_LOCK_LOST]
  refine ⟨?_, ?_, fun j hj => ?_⟩ <;> omega

theorem portOfLane_of_get {t : State} {l : Nat} (h : t.get (R.MP_QUAD_CFG_MODE (l / 4)) = s.get (R.MP_QUAD_CFG_MODE (l / 4))) :
    t.portOfLane l = s.portOfLane l := by
  unfold State.portOfLane
  rw [h]

/-! ### A lane that loses lock (R203, R204, R206) -/

/-- A lane has lost lock, its port still up. -/
def State.lockLost (s : State) (l : Nat) : State := (s.setFlag (R.MP_LANE_STATUS_LOCK l) false).setFlag (R.MP_LANE_STATUS_LOCK_LOST l) true

/-- A frame in reception as its port goes down is counted as one with a bad FCS. -/
def State.cutOff (s : State) (m : Nat) (mid : Bool) : State :=
  if mid ∧ s.flag (R.MAC_STATUS_LINK_UP m) then s.inc (R.MAC_CNT_COUNT m 1) else s

/-- The modes of the quads lie apart from all that a loss of lock writes. -/
theorem mode_apart {l m : Nat} (hl : l < 16) (q : Nat) (hq : q < 4) : (R.MP_LANE_STATUS_LOCK l).Apart (R.MP_QUAD_CFG_MODE q) ∧
    (R.MP_LANE_STATUS_LOCK_LOST l).Apart (R.MP_QUAD_CFG_MODE q) ∧ (R.MAC_CNT_COUNT m 1).Apart (R.MP_QUAD_CFG_MODE q) ∧
    (R.MAC_STATUS_LINK_UP m).Apart (R.MP_QUAD_CFG_MODE q) ∧ (R.MAC_STATUS_LINK_DOWN_SEEN m).Apart (R.MP_QUAD_CFG_MODE q) := by
  simp only [Field.Apart, R.MP_LANE_STATUS_LOCK, R.MP_LANE_STATUS_LOCK_LOST, R.MAC_CNT_COUNT, R.MAC_STATUS_LINK_UP, R.MAC_STATUS_LINK_DOWN_SEEN,
    R.MP_QUAD_CFG_MODE]
  omega

theorem lockLost_flag (l : Nat) : (s.lockLost l).flag (R.MP_LANE_STATUS_LOCK_LOST l) = true :=
  flag_setFlag_same _ _ _ (show 2 + 1 ≤ 64 by decide) (show 0 < 1 by decide)

theorem lockLost_get {g : Field} {l : Nat} (hlock : (R.MP_LANE_STATUS_LOCK l).Apart g) (hlost : (R.MP_LANE_STATUS_LOCK_LOST l).Apart g) :
    (s.lockLost l).get g = s.get g := by
  rw [State.lockLost, get_setFlag_apart hlost, get_setFlag_apart hlock]

theorem cutOff_get {g : Field} {m : Nat} {mid : Bool} (h : (R.MAC_CNT_COUNT m 1).Apart g) : (s.cutOff m mid).get g = s.get g := by
  unfold State.cutOff
  split
  · exact get_inc_apart h
  · rfl

theorem cutOff_count (m : Nat) (mid : Bool) : (s.cutOff m mid).get (R.MAC_CNT_COUNT m 1) =
    (s.get (R.MAC_CNT_COUNT m 1) + if mid = true ∧ s.flag (R.MAC_STATUS_LINK_UP m) = true then 1 else 0) % 2 ^ 64 := by
  unfold State.cutOff
  split
  · rw [macCnt_inc, if_pos rfl]
  · exact (Nat.mod_eq_of_lt (get_lt s (R.MAC_CNT_COUNT m 1))).symm

theorem exec_laneLockLoss {l m : MPort} {mid : Bool} {now : Nat} (hi : s.ingestOn = true) (hp : s.portOfLane l = some m.val)
    (hlock : s.flag (R.MP_LANE_STATUS_LOCK l) = true) :
    exec (.laneLockLoss l mid now) s = .next (((((s.advance now).lockLost l).cutOff m mid).portDown m).report (110 + l) 0) := by
  obtain ⟨hl, hs, -⟩ := mode_apart (m := m) l.isLt (l.val / 4) (by omega)
  have hport : ((s.advance now).lockLost l).portOfLane l = some m.val := (portOfLane_of_get (lockLost_get hl hs)).trans hp
  rw [exec, execLaneLockLoss, whenIngest_of_on hi]
  refine congrArg _ ((if_pos hlock).trans ?_)
  change State.report (match ((s.advance now).lockLost l).portOfLane l with
    | some m => (((s.advance now).lockLost l).cutOff m mid).portDown m
    | none => _) _ _ = _
  rw [hport]

/-- What a lane's loss of lock leaves of its own status, of its port's link and of the other links. -/
theorem laneLockLoss_status {l m : MPort} {mid : Bool} (hp : s.portOfLane l = some m.val) :
    let u := ((s.lockLost l).cutOff m mid).portDown m
    u.flag (R.MP_LANE_STATUS_LOCK l) = false ∧ u.flag (R.MP_LANE_STATUS_LOCK_LOST l) = true ∧ u.flag (R.MAC_STATUS_LINK_UP m) = false ∧
      ∀ j : MPort, j ≠ m → u.flag (R.MAC_STATUS_LINK_UP j) = s.flag (R.MAC_STATUS_LINK_UP j) := by
  obtain ⟨-, ⟨hupLost, hseenLost⟩, hother⟩ := linkStatus_apart m.isLt l.isLt
  obtain ⟨hl, hs, hc, hu, hd⟩ := mode_apart (m := m) l.isLt (l.val / 4) (by omega)
  have hlostCnt : (R.MAC_CNT_COUNT m 1).Apart (R.MP_LANE_STATUS_LOCK_LOST l) := .inl (by simp only [R.MAC_CNT_COUNT, R.MP_LANE_STATUS_LOCK_LOST]; omega)
  have hup (j : MPort) : (R.MP_LANE_STATUS_LOCK l).Apart (R.MAC_STATUS_LINK_UP j) ∧ (R.MP_LANE_STATUS_LOCK_LOST l).Apart (R.MAC_STATUS_LINK_UP j) ∧
      (R.MAC_CNT_COUNT m 1).Apart (R.MAC_STATUS_LINK_UP j) := by
    simp only [Field.Apart, R.MP_LANE_STATUS_LOCK, R.MP_LANE_STATUS_LOCK_LOST, R.MAC_CNT_COUNT, R.MAC_STATUS_LINK_UP]
    omega
  refine ⟨portDown_lock l.isLt ?_, ?_, ?_, fun j hj => flag_of_get ?_⟩
  · refine (portOfLane_of_get ?_).trans hp
    rw [linkDown_get hu hd, cutOff_get hc, lockLost_get hl hs]
  · refine (flag_of_get ?_).trans (lockLost_flag (s := s) l)
    rw [portDown_get (lockLost_offLanes l), linkDown_get hupLost hseenLost, cutOff_get hlostCnt]
  · exact (flag_of_get (portDown_get (linkUp_offLanes m))).trans (linkDown_up m)
  · obtain ⟨hupj, hseenj⟩ := hother j (fun e => hj (Fin.ext e))
    obtain ⟨hlj, hsj, hcj⟩ := hup j
    rw [portDown_get (linkUp_offLanes j), linkDown_get hupj hseenj, cutOff_get hcj, lockLost_get hlj hsj]

/-- A frame in reception as a lane loses lock is the one frame that the port counts. -/
theorem laneLockLoss_count {l m : MPort} {mid : Bool} : (((s.lockLost l).cutOff m mid).portDown m).get (R.MAC_CNT_COUNT m 1) =
    (s.get (R.MAC_CNT_COUNT m 1) + if mid = true ∧ s.flag (R.MAC_STATUS_LINK_UP m) = true then 1 else 0) % 2 ^ 64 := by
  obtain ⟨⟨hup, hseen⟩, -, -⟩ := linkStatus_apart m.isLt l.isLt
  have hlane : ((R.MP_LANE_STATUS_LOCK l).Apart (R.MAC_CNT_COUNT m 1) ∧ (R.MP_LANE_STATUS_LOCK_LOST l).Apart (R.MAC_CNT_COUNT m 1)) ∧
      (R.MP_LANE_STATUS_LOCK l).Apart (R.MAC_STATUS_LINK_UP m) ∧ (R.MP_LANE_STATUS_LOCK_LOST l).Apart (R.MAC_STATUS_LINK_UP m) := by
    simp only [Field.Apart, R.MP_LANE_STATUS_LOCK, R.MP_LANE_STATUS_LOCK_LOST, R.MAC_CNT_COUNT, R.MAC_STATUS_LINK_UP]
    omega
  obtain ⟨⟨hl, hs⟩, hlu, hsu⟩ := hlane
  rw [portDown_get (macCnt_offLanes m 1), linkDown_get hup hseen, cutOff_count, lockLost_get hl hs, flag_of_get (lockLost_get hlu hsu)]

/-! ### PORT_UP (R205) -/

theorem exec_portUp {m : MPort} {now : Nat} (hi : s.ingestOn = true) (ha : s.lanesOf m ≠ []) (hu : s.flag (R.MAC_STATUS_LINK_UP m) = false)
    (hh : s.portHeld m = false) : exec (.portUp m now) s = .next
      (({ (s.lanesOf m).foldl State.laneUp (s.advance now) with
        ports := tset (fun _ => {}) ((s.lanesOf m).foldl State.laneUp (s.advance now)).ports m {} } : State).setFlag (R.MAC_STATUS_LINK_UP m) true) := by
  rw [exec, execPortUp, whenIngest_of_on hi]
  exact congrArg _ (if_pos ⟨macActive_iff.2 ha, hu, hh⟩)

/-- A link's status lies apart from its lanes'. -/
theorem linkUp_apart_lane (m l : Nat) (hl : l < 16) : (R.MAC_STATUS_LINK_UP m).Apart (R.MP_LANE_STATUS_LOCK l) ∧
    (R.MAC_STATUS_LINK_UP m).Apart (R.MP_LANE_STATUS_DFE_ACTIVE l) := by
  simp only [Field.Apart, R.MP_LANE_STATUS_LOCK, R.MP_LANE_STATUS_DFE_ACTIVE, R.MAC_STATUS_LINK_UP]
  omega

/-- Settles O39: a MAC's counters are one bank of which a frame counts one; an eye window, a loss of lock and a port that comes up each write status fields
that lie apart. -/
theorem mediaPorts : Obligations.MediaPorts := by
  unfold Obligations.MediaPorts
  refine ⟨fun m f now s hi ha he hu => ?_, fun m f now s p hi ha he hu hp hcut => ?_, fun l mv now s hi hport => ?_, fun l s hu hh => ?_,
    fun l m mid now s hi hp hlock => ?_, fun m now s hi ha hu hh => ?_⟩
  · intro i
    refine ⟨_, exec_macFrameReceive_up hi ha he hu, fun j _ => ?_, ?_, ?_⟩ <;> rw [macReceive_eq m.isLt]
    · rw [handOn_get, macCnt_inc, advance_get]; rfl
    · rw [handOn_ingFifo, inc_ingFifo]; rfl
    · rw [handOn_mem, inc_mem, advance_mem]
  · refine ⟨_, exec_macFrameReceive_down hi ha he hu, ?_⟩
    rw [macCut_of_cut (s := s.advance now) hp hcut, macCnt_inc, if_pos rfl, setPort_get, advance_get, inc_ports, inc_ingFifo]
    exact ⟨rfl, tget_tset_same _ _ _ _, rfl⟩
  · intro low due
    have hlow : (((s.advance now).eyeShown l mv).lane l).low = if low then min ((s.lane l).low + 1) 16 else 0 := by
      rw [eyeShown_low, advance_get, advance_lane]
    have hlock : ((s.advance now).eyeShown l mv).flag (R.MP_LANE_STATUS_LOCK l) = s.flag (R.MP_LANE_STATUS_LOCK l) := by
      rw [eyeShown_lock, advance_flag]
    by_cases hdue : due
    · refine ⟨_, ?_, ?_, ?_, fun _ => ⟨dfe_setFlag l true, exec_eyeWindow_of_due hi hport hdue⟩, fun h => absurd hdue h⟩
      · rw [get_setFlag_apart (dfe_apart_eyeMv l), eyeShown_margin]
      · rw [lane_setFlag, hlow]
      · rw [flag_setFlag_apart (lock_apart_dfe l l).2, hlock]
    · refine ⟨_, eyeShown_margin l mv, hlow, hlock, fun h => absurd h hdue, fun _ => ⟨?_, exec_eyeWindow_of_not_due hi hport hdue⟩⟩
      rw [eyeShown_dfe, advance_flag]
  · refine ⟨_, exec_forceCtle hu hh, ?_⟩
    rw [flag_setLane, flag_setLane]
    exact ⟨dfe_setFlag .., flag_setFlag_apart (lock_apart_dfe ..).2⟩
  · obtain ⟨hl, hlost, hdown, hother⟩ := laneLockLoss_status (s := s.advance now) (mid := mid) hp
    exact ⟨_, exec_laneLockLoss hi hp hlock, hl, hlost, hdown, hother, laneLockLoss_count⟩
  · refine ⟨_, exec_portUp hi ha hu hh, flag_setFlag_same _ _ _ (show 0 + 1 ≤ 64 by decide) (show 0 < 1 by decide), fun l hl => ?_⟩
    obtain ⟨hlock, hdfe⟩ := linkUp_apart_lane m l (mem_lanesOf.1 hl).1
    rw [flag_setFlag_apart hlock, flag_setFlag_apart hdfe]
    exact foldl_laneUp hl

end Sys2Proof.Machine
end

section
/-! The Flow Table: what a word of an entry reads after another is written, and a bucket's refill (05_ingest.md R214 to R223). -/

namespace Sys2Proof.Machine

variable {s t : State} {e i j v : Nat}

/-! ### Words of the table (R214, R217 to R220) -/

/-- A word of a slot as the table holds it. -/
def State.ftRaw (s : State) (e i : Nat) : Nat := s.get (R.FLOW_TABLE_WORD (8 * e + i))

/-- A slot is the second of a valid full entry. -/
def State.ftSecond (s : State) (e : Nat) : Bool := decide (e % 2 = 1) && bitAt (s.ftRaw (e - 1) 0) 0 && bitAt (s.ftRaw (e - 1) 0) 1

theorem ft_eq : s.ft e i =
    let v := s.ftRaw e i % 2 ^ ftWidth (decide (e % 2 = 0) && bitAt (s.ftRaw e 0) 1) (s.ftSecond e) i
    if i = 0 ∧ !s.ftSecond e then v % 128 + v / 2 ^ 16 % 2 ^ 14 * 2 ^ 16 else v := rfl

theorem ftRaw_lt : s.ftRaw e i < 2 ^ 32 := get_lt s (R.FLOW_TABLE_WORD (8 * e + i))

/-- The two low bits of an entry's CTRL, VALID and FULL, are those of the table's word. -/
theorem ft_ctrl_bit (h : s.ftSecond e = false) (hi : i < 2) : bitAt (s.ft e 0) i = bitAt (s.ftRaw e 0) i := by
  have hlt : s.ftRaw e 0 < 2 ^ 32 := ftRaw_lt
  have hw (full : Bool) : ftWidth full false 0 = 32 := by cases full <;> rfl
  rw [ft_eq, h]
  simp only [hw, Nat.mod_eq_of_lt hlt, Bool.not_false, and_self, if_true, bitAt]
  congr 1
  have h2 : i = 0 ∨ i = 1 := by omega
  rcases h2 with rfl | rfl
  · rw [pow_zero, Nat.div_one, Nat.div_one]; exact congrArg (· = 1) (by omega)
  · exact congrArg (· = 1) (by omega)

theorem ftSecond_of_even (h : e % 2 = 0) : s.ftSecond e = false := by simp [State.ftSecond, h]

theorem ftSecond_eq_false (h : e % 2 = 1 → bitAt (s.ft (e - 1) 0) 0 = false ∨ bitAt (s.ft (e - 1) 0) 1 = false) : s.ftSecond e = false := by
  by_cases ho : e % 2 = 1
  · have hs : s.ftSecond (e - 1) = false := ftSecond_of_even (by omega)
    have h := h ho
    rw [ft_ctrl_bit hs (by decide), ft_ctrl_bit hs (by decide)] at h
    rcases h with h | h <;> simp [State.ftSecond, h]
  · exact ftSecond_of_even (by omega)

/-- Slot `e` is not the second of a full entry, and its own entry is compact. -/
def State.Compact (s : State) (e : Nat) : Prop := s.ftSecond e = false ∧ bitAt (s.ft e 0) 1 = false

/-- A compact entry's word but its CTRL. -/
theorem State.Compact.ft (h : s.Compact e) (hi : 0 < i) : s.ft e i = s.ftRaw e i % 2 ^ ftWidth false false i := by
  obtain ⟨hs, hc⟩ := h
  rw [ft_ctrl_bit hs (by decide)] at hc
  have h0 : ¬(i = 0 ∧ (!false) = true) := by omega
  rw [ft_eq, hs, hc, Bool.and_false]
  dsimp only
  rw [if_neg h0]

theorem ftRaw_setFt (hi : i < 8) (hj : j < 8) (a : Nat) : (s.setFt e j v).ftRaw a i = if a = e ∧ i = j then v % 2 ^ 32 else s.ftRaw a i := by
  split
  · next h =>
    obtain ⟨rfl, rfl⟩ := h
    exact get_set_same s (R.FLOW_TABLE_WORD (8 * a + i)) v (show 0 + 32 ≤ 64 by decide)
  · next h => exact get_set_other _ _ _ _ (by simp only [R.FLOW_TABLE_WORD]; omega)

/-- A write of a slot's word leaves the CTRL words of the even slots: those are of entries, and say where a full entry lies. -/
theorem ftRaw_setFt_ctrl (hj : j < 8) (hctrl : j ≠ 0 ∨ e % 2 = 1) {a : Nat} (ha : a % 2 = 0) : (s.setFt e j v).ftRaw a 0 = s.ftRaw a 0 := by
  rw [ftRaw_setFt (by decide) hj, if_neg (by omega)]

theorem ftSecond_setFt (hj : j < 8) (hctrl : j ≠ 0 ∨ e % 2 = 1) (a : Nat) : (s.setFt e j v).ftSecond a = s.ftSecond a := by
  by_cases ho : a % 2 = 1
  · rw [State.ftSecond, State.ftSecond, ftRaw_setFt_ctrl hj hctrl (show (a - 1) % 2 = 0 by omega)]
  · rw [ftSecond_of_even (by omega), ftSecond_of_even (by omega)]

/-- The words of the table hang on one another through the CTRL words of the even slots alone. -/
theorem ft_setFt_other (hi : i < 8) (hj : j < 8) (hctrl : j ≠ 0 ∨ e % 2 = 1) {a : Nat} (h : ¬(a = e ∧ i = j)) : (s.setFt e j v).ft a i = s.ft a i := by
  have hfull : (decide (a % 2 = 0) && bitAt ((s.setFt e j v).ftRaw a 0) 1) = (decide (a % 2 = 0) && bitAt (s.ftRaw a 0) 1) := by
    by_cases ho : a % 2 = 0
    · rw [ftRaw_setFt_ctrl hj hctrl ho]
    · simp [ho]
  rw [ft_eq, ft_eq, ftRaw_setFt hi hj, if_neg h, ftSecond_setFt hj hctrl, hfull]

theorem State.Compact.setFt (h : s.Compact e) (hj : 0 < j) (hj8 : j < 8) : (s.setFt e j v).Compact e := by
  obtain ⟨hs, hc⟩ := h
  exact ⟨(ftSecond_setFt hj8 (by omega) e).trans hs, by rwa [ft_setFt_other (by decide) hj8 (by omega) (by omega)]⟩

/-- A word of a compact entry, but its CTRL, written. -/
theorem State.Compact.ft_setFt (h : s.Compact e) (hj : 0 < j) (hj8 : j < 8) (hi : i < 8) (hv : v < 2 ^ ftWidth false false j) :
    (s.setFt e j v).ft e i = if i = j then v else s.ft e i := by
  split
  · next hij =>
    subst hij
    have hw : ∀ j < 8, ftWidth false false j ≤ 32 := by decide
    have hv32 : v < 2 ^ 32 := Nat.lt_of_lt_of_le hv (Nat.pow_le_pow_right (by decide) (hw i hi))
    rw [(h.setFt hj hj8).ft hj, ftRaw_setFt hi hi, if_pos ⟨rfl, rfl⟩, Nat.mod_eq_of_lt hv32, Nat.mod_eq_of_lt hv]
  · next hij => exact ft_setFt_other hi hj8 (by omega) (fun hh => hij hh.2)

/-! ### Writes of registers alone -/

/-- `t` is `s` but for its registers. -/
def State.RegsOnly (s t : State) : Prop := t = { s with regs := t.regs }

theorem State.RegsOnly.refl (s : State) : s.RegsOnly s := rfl

theorem State.RegsOnly.raw (h : s.RegsOnly t) : t.raw = s.raw := by rw [h]

theorem State.RegsOnly.flowBad (h : s.RegsOnly t) : t.flowBad = s.flowBad := by rw [h]

theorem State.RegsOnly.setFt (h : s.RegsOnly t) : s.RegsOnly (t.setFt e i v) := by
  unfold State.RegsOnly at h
  rw [State.RegsOnly, State.setFt, set_regs_only, h]

/-! ### The refill of a bucket (R223) -/

theorem refilled_congr {now : Nat} (h : ∀ i < 8, t.ft e i = s.ft e i) : Sys2Proof.Spec.refilled t e now = Sys2Proof.Spec.refilled s e now := by
  simp only [Sys2Proof.Spec.refilled, h 2 (by decide), h 3 (by decide), h 4 (by decide), h 5 (by decide), h 6 (by decide)]

/-- Tokens and remainder fit their fields, and a full bucket has no remainder. -/
theorem refilled_fits (s : State) (e now : Nat) :
    (Sys2Proof.Spec.refilled s e now).1 ≤ s.ft e 3 % 2 ^ 24 ∧ (Sys2Proof.Spec.refilled s e now).2 < 8000000 ∧
    ((Sys2Proof.Spec.refilled s e now).1 = s.ft e 3 % 2 ^ 24 → (Sys2Proof.Spec.refilled s e now).2 = 0) := by
  dsimp only [Sys2Proof.Spec.refilled]
  refine ⟨Nat.min_le_left _ _, ?_, fun h => if_pos h⟩
  split
  · decide
  · exact Nat.mod_lt _ (by decide)

/-- A bucket that has just been refilled is not refilled further. -/
theorem refilled_again {now : Nat} (hsize : t.ft e 3 = s.ft e 3) (htok : t.ft e 4 = (Sys2Proof.Spec.refilled s e now).1)
    (hfrac : t.ft e 5 = (Sys2Proof.Spec.refilled s e now).2) (hlast : t.ft e 6 = now % 2 ^ 32) :
    Sys2Proof.Spec.refilled t e now = Sys2Proof.Spec.refilled s e now := by
  obtain ⟨hle, hlt, hfull⟩ := refilled_fits s e now
  have hdt : (now % 2 ^ 32 + 2 ^ 32 - now % 2 ^ 32) % 2 ^ 32 = 0 := by rw [Nat.add_sub_cancel_left, Nat.mod_self]
  have h24 : s.ft e 3 % 2 ^ 24 < 2 ^ 24 := Nat.mod_lt _ (by decide)
  generalize Sys2Proof.Spec.refilled s e now = K at *
  obtain ⟨k, f⟩ := K
  dsimp only at hle hlt hfull htok hfrac
  have hf : f % 2 ^ 23 = f := Nat.mod_eq_of_lt (by omega)
  have hk : k % 2 ^ 24 = k := Nat.mod_eq_of_lt (by omega)
  simp only [Sys2Proof.Spec.refilled, hsize, htok, hfrac, hlast, hdt, Nat.mul_zero, Nat.zero_add, hf, hk, Nat.div_eq_of_lt hlt, Nat.add_zero,
    Nat.min_eq_right hle, Nat.mod_eq_of_lt hlt]
  split
  · next h => rw [hfull h]
  · rfl

theorem refillEntry_of_compact (h : bitAt (s.ft e 0) 1 = false) : s.refillEntry e =
    ((s.setFt e 4 (Sys2Proof.Spec.refilled s e s.raw).1).setFt e 5 (Sys2Proof.Spec.refilled s e s.raw).2).setFt e 6 (s.raw % 2 ^ 32) := by
  rw [State.refillEntry, if_neg (ne_true_of_eq_false h)]
  rfl

theorem refillEntry_regsOnly (s : State) (e : Nat) : s.RegsOnly (s.refillEntry e) := by
  unfold State.refillEntry
  split
  · exact (((((State.RegsOnly.refl s).setFt).setFt).setFt).setFt).setFt
  · exact (((State.RegsOnly.refl s).setFt).setFt).setFt

/-- A compact entry's words after its refill. -/
theorem State.Compact.ft_refillEntry (h : s.Compact e) (hi : i < 8) : (s.refillEntry e).ft e i =
    if i = 6 then s.raw % 2 ^ 32 else if i = 5 then (Sys2Proof.Spec.refilled s e s.raw).2
      else if i = 4 then (Sys2Proof.Spec.refilled s e s.raw).1 else s.ft e i := by
  obtain ⟨hle, hlt, -⟩ := refilled_fits s e s.raw
  have h24 : s.ft e 3 % 2 ^ 24 < 2 ^ 24 := Nat.mod_lt _ (by decide)
  have hk : (Sys2Proof.Spec.refilled s e s.raw).1 < 2 ^ ftWidth false false 4 := show _ < 2 ^ 24 by omega
  have hf : (Sys2Proof.Spec.refilled s e s.raw).2 < 2 ^ ftWidth false false 5 := show _ < 2 ^ 23 by omega
  have hr : s.raw % 2 ^ 32 < 2 ^ ftWidth false false 6 := Nat.mod_lt _ (by decide)
  have h4 : (s.setFt e 4 (Sys2Proof.Spec.refilled s e s.raw).1).Compact e := h.setFt (by decide) (by decide)
  rw [refillEntry_of_compact h.2, (h4.setFt (by decide) (by decide)).ft_setFt (by decide) (by decide) hi hr,
    h4.ft_setFt (by decide) (by decide) hi hf, h.ft_setFt (by decide) (by decide) hi hk]

theorem State.Compact.refillEntry (h : s.Compact e) : (s.refillEntry e).Compact e := by
  rw [refillEntry_of_compact h.2]
  exact ((h.setFt (by decide) (by decide)).setFt (by decide) (by decide)).setFt (by decide) (by decide)

end Sys2Proof.Machine
end

section
/-! POLICER_SWEEP: every valid compact entry is refilled, and no other entry's refill touches it (05_ingest.md R214, R220, R223). -/

namespace Sys2Proof.Machine

variable {s t : State} {e a i : Nat}

/-! ### A valid entry is listed -/

/-- The number of bytes that the repetitions of a register span. -/
def spanOf (bytes : Nat) : List (Nat × Nat) → Nat
  | [] => bytes
  | p :: _ => p.1 * p.2

theorem inDims_none {dims : List (Nat × Nat)} {bytes d : Nat} (hp : ∀ p ∈ dims, 0 < p.2) (hd : spanOf bytes dims ≤ d) : inDims dims bytes d = none := by
  cases dims with
  | nil => exact if_neg (Nat.not_lt.2 hd)
  | cons p dims => exact if_neg (Nat.not_lt.2 ((Nat.le_div_iff_mul_le (hp p List.mem_cons_self)).2 hd))

/-- A key is found in a row that reaches it. -/
theorem findRow_reaches {l : List RegRow} {k b : Nat} {r : RegRow} (hp : ∀ r ∈ l, ∀ p ∈ r.dims, 0 < p.2) (h : findRow l k = some (r, b)) :
    r ∈ l ∧ k < r.base + spanOf r.bytes r.dims := by
  induction l with
  | nil => cases h
  | cons q l ih =>
    have hrest (h : findRow l k = some (r, b)) : r ∈ q :: l ∧ k < r.base + spanOf r.bytes r.dims :=
      (ih (fun r hr => hp r (List.mem_cons_of_mem q hr)) h).imp_left (List.mem_cons_of_mem q)
    unfold findRow at h
    split at h
    · next hle =>
      split at h
      · next d hd =>
        obtain ⟨rfl, -⟩ := Prod.mk.inj (Option.some.inj h)
        refine ⟨List.mem_cons_self, Nat.lt_of_not_le fun hk => ?_⟩
        rw [inDims_none (hp q List.mem_cons_self) (show spanOf q.bytes q.dims ≤ k - q.base by omega)] at hd
        cases hd
      · exact hrest h
    · exact hrest h

/-- The Flow Table resets to 0. -/
theorem resetOf_flowTable {k : Nat} (hlo : 0x700000 ≤ k) (hhi : k < 0x800000) : resetOf k = 0 := by
  have hrows : ∀ r ∈ rows_ing, (∀ p ∈ r.dims, 0 < p.2) ∧ (r.base + spanOf r.bytes r.dims ≤ 0x700000 ∨ r.resetValue = 0) := by decide
  have hmap : mapReset k = 0 := by
    have hat : regAt k = findRow rows_ing k := by
      simp only [regAt, rowsOf]
      repeat rw [if_neg (by omega)]
      rw [if_pos hhi]
    rw [mapReset, hat]
    split
    · next r b h =>
      obtain ⟨hr, hk⟩ := findRow_reaches (fun r hr => (hrows r hr).1) h
      rw [(hrows r hr).2.resolve_left (by omega), ite_self]
    · rfl
  rw [resetOf, if_neg (by omega), hmap]
  rfl

/-- The entries that a sweep goes through: those listed with VALID at 1. -/
def State.sweepList (s : State) : List Nat :=
  (s.regs.filter (fun p => decide (0x700000 ≤ p.1) && decide (p.1 < 0x800000) && decide (p.1 % 32 = 0) && bitAt p.2.toNat 0)).map
    (fun p => (p.1 - 0x700000) / 32)

theorem mem_sweepList (he : e < 32768) (hs : s.ftSecond e = false) (hv : bitAt (s.ft e 0) 0 = true) : e ∈ s.sweepList := by
  have hbit : bitAt (s.reg (0x700000 + (8 * e + 0) * 4)).toNat 0 = true := by
    rw [ft_ctrl_bit hs (by decide)] at hv
    simp only [State.ftRaw, State.get, R.FLOW_TABLE_WORD, bitsOf, bitAt, decide_eq_true_eq, pow_zero, Nat.div_one] at hv ⊢
    omega
  obtain ⟨v, hfind⟩ : ∃ v, tfind s.regs (0x700000 + (8 * e + 0) * 4) = some v := by
    refine Option.ne_none_iff_exists'.1 fun hnone => ?_
    rw [State.reg, tget, hnone, Option.getD_none, resetOf_flowTable (by omega) (by omega)] at hbit
    exact absurd hbit (by decide)
  rw [State.reg, tget, hfind, Option.getD_some] at hbit
  refine List.mem_map.2 ⟨_, List.mem_filter.2 ⟨mem_of_tfind hfind, ?_⟩, ?_⟩
  · simp only [hbit, Bool.and_eq_true, decide_eq_true_eq, and_true]
    omega
  · dsimp only
    omega

/-! ### The steps of a sweep -/

theorem even_of_full (hn : s.noEntry a = false) (hf : bitAt (s.ft a 0) 1 = true) : a % 2 = 0 := by
  by_contra ho
  simp [State.noEntry, hf, show a % 2 = 1 by omega] at hn

/-- A refill writes the bucket of its own entry, and nothing else of the table. -/
theorem refillEntry_ft_other (hn : s.noEntry a = false) (hi : i < 8) (hfull : bitAt (s.ft a 0) 1 = true → e ≠ a + 1)
    (hcompact : bitAt (s.ft a 0) 1 = false → e ≠ a ∨ i < 4) : (s.refillEntry a).ft e i = s.ft e i := by
  cases hf : bitAt (s.ft a 0) 1 with
  | true =>
    have hodd : (a + 1) % 2 = 1 := by have := even_of_full hn hf; omega
    have hkeep {s : State} {j v : Nat} (hj : j < 8) : (s.setFt (a + 1) j v).ft e i = s.ft e i :=
      ft_setFt_other hi hj (.inr hodd) fun h => hfull hf h.1
    unfold State.refillEntry
    rw [if_pos hf]
    dsimp only
    rw [hkeep (by decide), hkeep (by decide), hkeep (by decide), hkeep (by decide), hkeep (by decide)]
  | false =>
    have hne := hcompact hf
    rw [refillEntry_of_compact hf, ft_setFt_other hi (by decide) (.inl (by decide)) (by omega),
      ft_setFt_other hi (by decide) (.inl (by decide)) (by omega), ft_setFt_other hi (by decide) (.inl (by decide)) (by omega)]

/-- The step of a sweep for an entry. -/
def State.sweepOne (s : State) (a : Nat) : State := if s.noEntry a ∨ s.flowBad.contains a then s else s.refillEntry a

theorem sweep_eq : s.sweep = s.sweepList.foldl State.sweepOne s := rfl

/-- In the course of a sweep at raw time `now`: entry `e` is there to be refilled, or has been, and its bucket comes to `K`. -/
structure State.Sweeping (now e : Nat) (K : Nat × Nat) (s : State) : Prop where
  raw : s.raw = now
  good : e ∉ s.flowBad
  compact : bitAt (s.ft e 0) 1 = false
  before : e % 2 = 1 → bitAt (s.ft (e - 1) 0) 1 = false
  bucket : Sys2Proof.Spec.refilled s e now = K

variable {now : Nat} {K : Nat × Nat}

theorem State.Sweeping.isCompact (h : s.Sweeping now e K) : s.Compact e := ⟨ftSecond_eq_false fun ho => .inr (h.before ho), h.compact⟩

theorem State.Sweeping.sweepOne_own (h : s.Sweeping now e K) : s.sweepOne e = s.refillEntry e := by
  have hn : s.noEntry e = false := by
    by_cases ho : e % 2 = 1
    · simp [State.noEntry, h.compact, h.before ho]
    · simp [State.noEntry, ho]
  exact if_neg (by simp [hn, h.good])

/-- The step for another entry leaves this one. -/
theorem State.Sweeping.sweepOne_ft (h : s.Sweeping now e K) (ha : a ≠ e) (hi : i < 8) : (s.sweepOne a).ft e i = s.ft e i := by
  unfold State.sweepOne
  split
  · rfl
  · next hs =>
    have hn : s.noEntry a = false := by simpa using fun h => hs (.inl h)
    refine refillEntry_ft_other hn hi (fun hf he => ?_) fun _ => .inl (Ne.symm ha)
    subst he
    exact absurd hf (ne_true_of_eq_false (h.before (by have := even_of_full hn hf; omega)))

/-- No step touches the CTRL word of an even slot. -/
theorem sweepOne_ft_ctrl (he : e % 2 = 0) : (s.sweepOne a).ft e 0 = s.ft e 0 := by
  unfold State.sweepOne
  split
  · rfl
  · next hs =>
    have hn : s.noEntry a = false := by simpa using fun h => hs (.inl h)
    exact refillEntry_ft_other hn (by decide) (fun hf => by have := even_of_full hn hf; omega) fun _ => .inr (by decide)

theorem sweepOne_regsOnly (s : State) (a : Nat) : s.RegsOnly (s.sweepOne a) := by
  unfold State.sweepOne
  split
  · exact .refl s
  · exact refillEntry_regsOnly s a

theorem State.Sweeping.own (h : s.Sweeping now e K) : (s.sweepOne e).ft e 4 = K.1 ∧ (s.sweepOne e).ft e 5 = K.2 ∧ (s.sweepOne e).ft e 6 = now % 2 ^ 32 := by
  have hw {i : Nat} (hi : i < 8) := h.isCompact.ft_refillEntry hi
  rw [h.sweepOne_own, hw (i := 4) (by decide), hw (i := 5) (by decide), hw (i := 6) (by decide), h.raw, h.bucket]
  exact ⟨rfl, rfl, rfl⟩

theorem State.Sweeping.sweepOne (h : s.Sweeping now e K) (a : Nat) : (s.sweepOne a).Sweeping now e K := by
  have hregs := sweepOne_regsOnly s a
  refine ⟨hregs.raw.trans h.raw, ?_, ?_, fun ho => ?_, ?_⟩
  · rw [hregs.flowBad]
    exact h.good
  · by_cases ha : a = e
    · subst ha
      rw [h.sweepOne_own]
      exact h.isCompact.refillEntry.2
    · rw [h.sweepOne_ft ha (by decide)]
      exact h.compact
  · rw [sweepOne_ft_ctrl (by omega)]
    exact h.before ho
  · by_cases ha : a = e
    · subst ha
      obtain ⟨htok, hfrac, hlast⟩ := h.own
      rw [← h.bucket] at htok hfrac ⊢
      refine refilled_again ?_ htok hfrac hlast
      rw [h.sweepOne_own, h.isCompact.ft_refillEntry (by decide)]
      rfl
    · rw [refilled_congr fun i hi => h.sweepOne_ft ha hi, h.bucket]

theorem State.Sweeping.sweep (h : s.Sweeping now e K) (hl : e ∈ s.sweepList) :
    s.sweep.ft e 4 = K.1 ∧ s.sweep.ft e 5 = K.2 ∧ s.sweep.ft e 6 = now % 2 ^ 32 := by
  rw [sweep_eq]
  refine foldl_establishes (I := fun s => s.Sweeping now e K) (Q := fun s => s.ft e 4 = K.1 ∧ s.ft e 5 = K.2 ∧ s.ft e 6 = now % 2 ^ 32)
    (fun s a _ h => h.sweepOne a) (fun s h => h.own) (fun s a _ ha h hq => ?_) hl s h
  rwa [h.sweepOne_ft ha (by decide), h.sweepOne_ft ha (by decide), h.sweepOne_ft ha (by decide)]

end Sys2Proof.Machine
end

section
/-! A packet in the ingest packet engine: the entry that matches it, its exits, and its payload (05_ingest.md R208, R211 to R215, R222 to R231, R242). -/

namespace Sys2Proof.Machine

variable {s t w : State} {e f i j : Nat} {r : RxFrame} {u : UdpPacket}

/-! ### The entry that matches -/

theorem probe_entry {p : Nat} {key : List (BitVec 8)} (h : s.probe p key = some e) : e < 32768 ∧ s.entryMatches e p (crcTag key) key = true := by
  unfold State.probe at h
  refine ⟨?_, List.find?_some (p := fun e => s.entryMatches e p (crcTag key) key) h⟩
  have hmem := List.mem_of_find?_eq_some h
  have hb : crc32c key % 8192 < 2 ^ 13 := Nat.mod_lt _ (by decide)
  have hb2 : (if crc32c key / 8192 % 8192 = crc32c key % 8192 then crc32c key % 8192 ^^^ 1 else crc32c key / 8192 % 8192) < 2 ^ 13 := by
    split
    · exact Nat.xor_lt_two_pow hb (by decide)
    · exact Nat.mod_lt _ (by decide)
  simp only [List.mem_append, List.mem_map, List.mem_range] at hmem
  rcases hmem with ⟨i, hi, rfl⟩ | ⟨i, hi, rfl⟩ <;> omega

theorem lookup_entry {vlan : Option (BitVec 12)} (h : s.lookup vlan u = some e) : e < 32768 ∧ s.noEntry e = false := by
  obtain ⟨p, -, hp⟩ := List.exists_of_findSome?_eq_some h
  obtain ⟨hlt, hm⟩ := probe_entry hp
  refine ⟨hlt, ?_⟩
  simp only [State.entryMatches, Bool.and_eq_true, Bool.not_eq_true'] at hm
  tauto

/-- A compact entry that is one of the table's. -/
theorem compact_of_entry (hn : s.noEntry e = false) (hc : bitAt (s.ft e 0) 1 = false) : s.Compact e := by
  refine ⟨ftSecond_eq_false fun ho => ?_, hc⟩
  cases hv : bitAt (s.ft (e - 1) 0) 0 with
  | false => exact .inl rfl
  | true => exact .inr (by simpa [State.noEntry, ho, hc, hv] using hn)

/-! ### Registers below those of the flows -/

/-- `t` agrees with `s` on the registers below those of the ingest flows. -/
def State.AgreesBelow (s t : State) : Prop := ∀ k < 0x100000000, t.reg k = s.reg k

theorem set_agreesBelow {g : Field} {x : Nat} (h : 0x100000000 ≤ g.key) : s.AgreesBelow (s.set g x) := fun k hk =>
  reg_set_other _ _ _ _ (by omega)

theorem State.AgreesBelow.ftRaw (h : s.AgreesBelow t) (he : e < 32768) (hi : i < 8) : t.ftRaw e i = s.ftRaw e i :=
  get_of_reg (h _ (by simp only [R.FLOW_TABLE_WORD]; omega))

theorem State.AgreesBelow.ftSecond (h : s.AgreesBelow t) (he : e < 32768) : t.ftSecond e = s.ftSecond e := by
  rw [State.ftSecond, State.ftSecond, h.ftRaw (by omega) (by decide)]

theorem State.AgreesBelow.ft (h : s.AgreesBelow t) (he : e < 32768) (hi : i < 8) : t.ft e i = s.ft e i := by
  rw [ft_eq, ft_eq, h.ftRaw he hi, h.ftRaw he (by decide), h.ftSecond he]

theorem State.Compact.agrees (hc : s.Compact e) (h : s.AgreesBelow t) (he : e < 32768) : t.Compact e := by
  obtain ⟨hs, hf⟩ := hc
  exact ⟨(h.ftSecond he).trans hs, by rwa [h.ft he (by decide)]⟩

/-! ### Exits (R242) -/

theorem exit_count (f i j : Nat) :
    (s.exit f i).get (R.ING_FLOW_CNT_COUNT f j) = (s.get (R.ING_FLOW_CNT_COUNT f j) + if j = i then 1 else 0) % 2 ^ 64 :=
  get_inc_bank (c := R.ING_FLOW_CNT_COUNT f) (fun _ => ⟨rfl, rfl⟩) (fun i j h => by simp only [R.ING_FLOW_CNT_COUNT]; omega) i j

theorem exit_agreesBelow (f i : Nat) : s.AgreesBelow (s.exit f i) := set_agreesBelow (by simp only [R.ING_FLOW_CNT_COUNT]; omega)

theorem exit_mem (f i : Nat) : (s.exit f i).mem = s.mem := inc_mem ..

theorem exit_ingFifo (f i : Nat) : (s.exit f i).ingFifo = s.ingFifo := inc_ingFifo _

theorem set_ingFifo (g : Field) (x : Nat) : (s.set g x).ingFifo = s.ingFifo := rfl

/-- The MAC that a flow's latest packet came by. -/
def State.setFlowPort (s : State) (f m : Nat) : State := { s with flowPort := tset (fun _ => 0) s.flowPort f (m + 1) }

theorem setFlowPort_get {g : Field} {m : Nat} : (s.setFlowPort f m).get g = s.get g := rfl

theorem setFlowPort_reg {k m : Nat} : (s.setFlowPort f m).reg k = s.reg k := rfl

theorem setFlowPort_raw (m : Nat) : (s.setFlowPort f m).raw = s.raw := rfl

theorem setFlowPort_mem (m : Nat) : (s.setFlowPort f m).mem = s.mem := rfl

theorem setFlowPort_ingFifo (m : Nat) : (s.setFlowPort f m).ingFifo = s.ingFifo := rfl

/-- A flow's packet is received: counted, its time-stamp and its port kept (R208). -/
def State.received (s : State) (r : RxFrame) (f : Nat) : State := ((s.exit f 0).set (R.ING_FLOW_LAST_TS_RAW f) r.stamp).setFlowPort f r.mac

theorem received_reg {k : Nat} (hts : k ≠ 0x100000048 + f * 0x100) (hcnt : k ≠ 0x100000080 + f * 0x100) : (s.received r f).reg k = s.reg k := by
  rw [State.received, setFlowPort_reg, reg_set_other _ _ _ _ hts]
  exact reg_set_other _ _ _ _ hcnt

theorem received_agreesBelow : s.AgreesBelow (s.received r f) := fun k hk => received_reg (by omega) (by omega)

theorem received_raw : (s.received r f).raw = s.raw := by rw [State.received, setFlowPort_raw, set_raw, State.exit, inc_raw]

theorem received_mem : (s.received r f).mem = s.mem := by rw [State.received, setFlowPort_mem, set_mem, exit_mem]

theorem received_ingFifo : (s.received r f).ingFifo = s.ingFifo := by rw [State.received, setFlowPort_ingFifo, set_ingFifo, exit_ingFifo]

/-- The packet of frame `r` has left ingest, or goes on: RECEIVED and counter `i` of its flow have counted it (`i` is 0 if it goes on). -/
def State.LeftBy (s : State) (r : RxFrame) (f i : Nat) (t : State) : Prop :=
  t.get (R.ING_FLOW_LAST_TS_RAW f) = r.stamp % 2 ^ 64 ∧ t.mem = s.mem ∧ t.ingFifo = s.ingFifo.erase r ∧
    ∀ j < 10, t.get (R.ING_FLOW_CNT_COUNT f j) = (s.get (R.ING_FLOW_CNT_COUNT f j) + if j = 0 ∨ j = i then 1 else 0) % 2 ^ 64

/-- A frame taken from the queue. -/
def State.taken (s : State) (r : RxFrame) : State := { s with ingFifo := s.ingFifo.erase r }

theorem taken_get {g : Field} : (s.taken r).get g = s.get g := rfl

theorem taken_mem : (s.taken r).mem = s.mem := rfl

theorem taken_ingFifo : (s.taken r).ingFifo = s.ingFifo.erase r := rfl

theorem leftBy_received (s : State) (r : RxFrame) (f : Nat) : s.LeftBy r f 0 ((s.taken r).received r f) := by
  refine ⟨?_, by rw [received_mem, taken_mem], by rw [received_ingFifo, taken_ingFifo], fun j _ => ?_⟩
  · rw [State.received, setFlowPort_get]
    exact get_set_same _ (R.ING_FLOW_LAST_TS_RAW f) _ (show 0 + 64 ≤ 64 by decide)
  · rw [State.received, setFlowPort_get, get_set_other _ _ _ _ (by simp only [R.ING_FLOW_LAST_TS_RAW, R.ING_FLOW_CNT_COUNT]; omega), exit_count, taken_get]
    simp only [or_self]

/-- A state that differs in the Flow Table alone. -/
structure State.TableOnly (s t : State) : Prop where
  reg : ∀ k, k < 0x700000 ∨ 0x800000 ≤ k → t.reg k = s.reg k
  mem : t.mem = s.mem
  ingFifo : t.ingFifo = s.ingFifo

theorem State.TableOnly.refl (s : State) : s.TableOnly s := ⟨fun _ _ => rfl, rfl, rfl⟩

theorem State.TableOnly.setFt {v : Nat} (h : s.TableOnly t) (he : e < 32768) (hi : i < 8) : s.TableOnly (t.setFt e i v) where
  reg k hk := (reg_set_other _ _ _ _ (by simp only [R.FLOW_TABLE_WORD]; omega)).trans (h.reg k hk)
  mem := (set_mem ..).trans h.mem
  ingFifo := (set_ingFifo ..).trans h.ingFifo

theorem State.LeftBy.table (h : s.LeftBy r f i t) (g : t.TableOnly w) : s.LeftBy r f i w := by
  obtain ⟨hts, hmem, hfifo, hcnt⟩ := h
  have hget {x : Field} (hx : 0x800000 ≤ x.key) : w.get x = t.get x := get_of_reg (g.reg _ (.inr hx))
  refine ⟨?_, g.mem.trans hmem, g.ingFifo.trans hfifo, fun j hj => ?_⟩
  · rw [hget (by simp only [R.ING_FLOW_LAST_TS_RAW]; omega), hts]
  · rw [hget (by simp only [R.ING_FLOW_CNT_COUNT]; omega), hcnt j hj]

theorem State.LeftBy.exit (h : s.LeftBy r f 0 t) (hi : i ≠ 0) : s.LeftBy r f i (t.exit f i) := by
  obtain ⟨hts, hmem, hfifo, hcnt⟩ := h
  refine ⟨?_, (exit_mem ..).trans hmem, (exit_ingFifo ..).trans hfifo, fun j hj => ?_⟩
  · rw [State.exit, get_inc_apart (.inl (by simp only [R.ING_FLOW_LAST_TS_RAW, R.ING_FLOW_CNT_COUNT]; omega)), hts]
  · rw [exit_count, hcnt j hj, Nat.mod_add_mod, Nat.add_assoc]
    congr 2
    by_cases h0 : j = 0
    · simp [h0, Ne.symm hi]
    · simp [h0]

/-! ### Policing a compact entry (R223 to R225) -/

/-- Tokens, remainder and time of a compact entry's bucket. -/
def State.HasBucket (s : State) (e k frac now : Nat) : Prop := s.ft e 4 = k ∧ s.ft e 5 = frac ∧ s.ft e 6 = now % 2 ^ 32

theorem mark_compact {dscp b : Nat} (h : s.Compact e) (ha : bitAt (s.ft e 0) 5 = false) : s.mark e dscp b =
    if s.ft e 4 < b then (s, .red) else (s.setFt e 4 (s.ft e 4 - b), .green) := by
  have hpre : s.precolour e dscp = .green := if_neg (ne_true_of_eq_false ha)
  rw [State.mark, hpre]
  simp [h.2]

theorem State.HasBucket.agrees {k frac now : Nat} (h : s.HasBucket e k frac now) (g : s.AgreesBelow t) (he : e < 32768) :
    t.HasBucket e k frac now := by
  obtain ⟨htok, hfrac, hlast⟩ := h
  exact ⟨(g.ft he (by decide)).trans htok, (g.ft he (by decide)).trans hfrac, (g.ft he (by decide)).trans hlast⟩

theorem State.Compact.refillEntry_tableOnly (h : s.Compact e) (he : e < 32768) : s.TableOnly (s.refillEntry e) := by
  rw [refillEntry_of_compact h.2]
  exact (((State.TableOnly.refl s).setFt he (by decide)).setFt he (by decide)).setFt he (by decide)

theorem State.Compact.refillEntry_bucket (h : s.Compact e) :
    (s.refillEntry e).HasBucket e (Sys2Proof.Spec.refilled s e s.raw).1 (Sys2Proof.Spec.refilled s e s.raw).2 s.raw := by
  refine ⟨(h.ft_refillEntry (by decide)).trans ?_, (h.ft_refillEntry (by decide)).trans ?_, (h.ft_refillEntry (by decide)).trans ?_⟩
  · rw [if_neg (by decide), if_neg (by decide), if_pos rfl]
  · rw [if_neg (by decide), if_pos rfl]
  · rw [if_pos rfl]

/-- A packet's bytes taken from a bucket. -/
theorem State.HasBucket.charge {k frac now b : Nat} (h : s.HasBucket e k frac now) (hc : s.Compact e) (hk : k < 2 ^ 24) :
    (s.setFt e 4 (s.ft e 4 - b)).HasBucket e (k - b) frac now := by
  obtain ⟨htok, hfrac, hlast⟩ := h
  have hv : s.ft e 4 - b < 2 ^ ftWidth false false 4 := show _ < 2 ^ 24 by omega
  have hw {i : Nat} (hi : i < 8) := hc.ft_setFt (by decide) (show 4 < 8 by decide) hi hv
  refine ⟨(hw (by decide)).trans ?_, (hw (by decide)).trans ?_, (hw (by decide)).trans ?_⟩
  · rw [if_pos rfl, htok]
  · rw [if_neg (by decide), hfrac]
  · rw [if_neg (by decide), hlast]

/-! ### Parsing (R228 to R231) -/

/-- The registers that the parsing of a flow's packet reads lie among these. -/
def parseKey (f k : Nat) : Prop :=
  k < 0x700000 ∨ (0x800000 ≤ k ∧ k < 0x100000000) ∨ k = 0x100000030 + f * 0x100 ∨ k = 0x100000038 + f * 0x100

section
variable (hf : f < 16384) (h : ∀ k, parseKey f k → t.reg k = s.reg k)
include h

theorem parse_get {g : Field} (hg : parseKey f g.key) : t.get g = s.get g := get_of_reg (h _ hg)

theorem parse_flag {g : Field} (hg : parseKey f g.key) : t.flag g = s.flag g := flag_of_get (parse_get h hg)

theorem pgroup_congr : t.pgroup f = s.pgroup f := by
  unfold State.pgroup
  rw [parse_flag h (g := R.ING_FLOW_VIDEO_SAMPLING f) (by simp [parseKey, R.ING_FLOW_VIDEO_SAMPLING]),
    parse_flag h (g := R.ING_FLOW_VIDEO_DEPTH10 f) (by simp [parseKey, R.ING_FLOW_VIDEO_DEPTH10])]

theorem videoRuns_congr (data : List (BitVec 8)) : t.videoRuns f data = s.videoRuns f data := by
  have hchan : t.get (R.ING_FLOW_KIND_CHANNEL f) = s.get (R.ING_FLOW_KIND_CHANNEL f) := parse_get h (by simp [parseKey, R.ING_FLOW_KIND_CHANNEL])
  have hlt : s.get (R.ING_FLOW_KIND_CHANNEL f) < 2 ^ 8 := get_lt s (R.ING_FLOW_KIND_CHANNEL f)
  have hheight : t.get (R.ING_FLOW_VIDEO_HEIGHT f) = s.get (R.ING_FLOW_VIDEO_HEIGHT f) := parse_get h (by simp [parseKey, R.ING_FLOW_VIDEO_HEIGHT])
  have hwidth : t.get (R.ING_FLOW_VIDEO_WIDTH f) = s.get (R.ING_FLOW_VIDEO_WIDTH f) := parse_get h (by simp [parseKey, R.ING_FLOW_VIDEO_WIDTH])
  have hsize : t.get (R.ING_POOL_CFG_TOKEN_SIZE (s.get (R.ING_FLOW_KIND_CHANNEL f))) = s.get (R.ING_POOL_CFG_TOKEN_SIZE (s.get (R.ING_FLOW_KIND_CHANNEL f))) :=
    parse_get h (.inl (by simp only [R.ING_POOL_CFG_TOKEN_SIZE]; omega))
  unfold State.videoRuns State.lineBytes State.pixelByte
  rw [pgroup_congr h]
  dsimp only
  rw [hchan, hheight, hwidth, hsize]

include hf

theorem flowSample_congr : t.flowSample f = s.flowSample f := by
  unfold State.flowSample
  rw [parse_get h (g := R.ING_FLOW_KIND_KIND f) (by simp [parseKey, R.ING_FLOW_KIND_KIND]),
    parse_flag h (g := R.AUD_FLOW_MAP_L24 f) (.inr (.inl (by simp only [R.AUD_FLOW_MAP_L24]; omega)))]

theorem audMisfit_congr : t.audMisfit f = s.audMisfit f := by
  have hdest : t.get (R.ING_FLOW_KIND_DEST f) = s.get (R.ING_FLOW_KIND_DEST f) := parse_get h (by simp [parseKey, R.ING_FLOW_KIND_DEST])
  have hlt : s.get (R.ING_FLOW_KIND_DEST f) < 2 ^ 12 := get_lt s (R.ING_FLOW_KIND_DEST f)
  have hmap {g : Field} (hg : g.key = 0xc60000 + f * 4) : parseKey f g.key := .inr (.inl (by omega))
  have hcfg {g : Field} (hg : g.key = 0xc40008 + s.get (R.ING_FLOW_KIND_DEST f) * 0x80) : parseKey f g.key := .inr (.inl (by omega))
  unfold State.audMisfit
  dsimp only
  rw [hdest, parse_get h (hcfg (g := R.AUD_SB_CFG_CHANNELS _) rfl), parse_get h (hmap (g := R.AUD_FLOW_MAP_FIRST_CH f) rfl),
    parse_get h (hmap (g := R.AUD_FLOW_MAP_CHANNELS f) rfl), parse_flag h (hcfg (g := R.AUD_SB_CFG_RATE96 _) rfl),
    parse_flag h (hmap (g := R.AUD_FLOW_MAP_RATE96 f) rfl)]

/-- A packet's payload does not hang on what the engine has counted or charged. -/
theorem parse_congr (u : UdpPacket) : t.parse f u = s.parse f u := by
  have hkind : t.get (R.ING_FLOW_KIND_KIND f) = s.get (R.ING_FLOW_KIND_KIND f) := parse_get h (by simp [parseKey, R.ING_FLOW_KIND_KIND])
  have hbare : t.flag (R.ING_FLOW_KIND_BARE_UDP f) = s.flag (R.ING_FLOW_KIND_BARE_UDP f) := parse_flag h (by simp [parseKey, R.ING_FLOW_KIND_BARE_UDP])
  have hpt : t.get (R.ING_FLOW_KIND_PT f) = s.get (R.ING_FLOW_KIND_PT f) := parse_get h (by simp [parseKey, R.ING_FLOW_KIND_PT])
  have hch : t.get (R.AUD_FLOW_MAP_CHANNELS f) = s.get (R.AUD_FLOW_MAP_CHANNELS f) :=
    parse_get h (.inr (.inl (by simp only [R.AUD_FLOW_MAP_CHANNELS]; omega)))
  simp only [State.parse, hkind, hbare, hpt, hch, videoRuns_congr h, flowSample_congr hf h, audMisfit_congr hf h]

end

end Sys2Proof.Machine
end

section
/-! The commands of ingest: a packet's exits in order, the sweep, and the reports (05_ingest.md R222 to R247). -/

namespace Sys2Proof.Machine

variable {s t w : State} {e f i j now : Nat} {r : RxFrame} {u : UdpPacket} {full : Bool}

/-! ### Steps 2 to 5 for a packet of a compact entry (R242) -/

/-- The length of a packet by R222. -/
def ipBytes (u : UdpPacket) : Nat := u.ipHeader + 8 + u.payload.length

theorem maxPkt_received : (s.received r f).get (R.ING_FLOW_KIND_MAX_PKT f) = s.get (R.ING_FLOW_KIND_MAX_PKT f) := by
  rw [State.received, setFlowPort_get, get_set_other _ _ _ _ (by simp only [R.ING_FLOW_LAST_TS_RAW, R.ING_FLOW_KIND_MAX_PKT]; omega), State.exit,
    get_inc_apart (.inl (by simp only [R.ING_FLOW_CNT_COUNT, R.ING_FLOW_KIND_MAX_PKT]; omega))]

theorem flowPacket_oversized (h : s.get (R.ING_FLOW_KIND_MAX_PKT (Sys2Proof.Spec.flowOf s e)) < ipBytes u) :
    s.flowPacket e r u = (s.received r (Sys2Proof.Spec.flowOf s e)).exit (Sys2Proof.Spec.flowOf s e) 1 := by
  rw [← maxPkt_received (r := r)] at h
  exact if_pos h

/-- The state in which a packet that is not too long is policed: its entry's bucket is refilled. -/
def State.policing (s : State) (e : Nat) (r : RxFrame) : State := (s.received r (Sys2Proof.Spec.flowOf s e)).refillEntry e

/-- The state in which a packet that its bucket admits is parsed. -/
def State.paid (s : State) (e : Nat) (r : RxFrame) (u : UdpPacket) : State := (s.policing e r).setFt e 4 ((s.policing e r).ft e 4 - ipBytes u)

/-- What becomes of a packet by its colour: policed, malformed, or on to the merge (steps 3 to 5). -/
def graded (e f : Nat) (u : UdpPacket) (m : State × Colour) : State :=
  if m.2 = .red ∨ (m.2 = .yellow ∧ bitAt (m.1.ft e 0) 6) then m.1.exit f 2
  else match m.1.parse f u with
    | none => m.1.exit f 3
    | some p => (if m.2 = .yellow then m.1.exit f 9 else m.1).mergeAndDeliver f p

theorem graded_red : graded e f u (s, .red) = s.exit f 2 := rfl

theorem graded_green_none (h : s.parse f u = none) : graded e f u (s, .green) = s.exit f 3 := by
  rw [graded, if_neg (by simp)]
  simp only [h]

theorem graded_green_some {p : Payload} (h : s.parse f u = some p) : graded e f u (s, .green) = s.mergeAndDeliver f p := by
  rw [graded, if_neg (by simp)]
  simp only [h]
  rfl

theorem flowPacket_fits (h : ipBytes u ≤ s.get (R.ING_FLOW_KIND_MAX_PKT (Sys2Proof.Spec.flowOf s e))) :
    s.flowPacket e r u = graded e (Sys2Proof.Spec.flowOf s e) u ((s.policing e r).mark e u.dscp.toNat (ipBytes u)) := by
  rw [← maxPkt_received (r := r)] at h
  exact if_neg (Nat.not_lt.2 h)

section
variable (he : e < 32768) (hc : s.Compact e)
include he hc

theorem policing_compact : (s.policing e r).Compact e := (hc.agrees received_agreesBelow he).refillEntry

theorem policing_ctrl : (s.policing e r).ft e 0 = s.ft e 0 := by
  rw [State.policing, (hc.agrees received_agreesBelow he).ft_refillEntry (by decide), if_neg (by decide), if_neg (by decide), if_neg (by decide),
    received_agreesBelow.ft he (by decide)]

theorem policing_bucket : (s.policing e r).HasBucket e (Sys2Proof.Spec.refilled s e s.raw).1 (Sys2Proof.Spec.refilled s e s.raw).2 s.raw := by
  have h := (hc.agrees (received_agreesBelow (r := r) (f := Sys2Proof.Spec.flowOf s e)) he).refillEntry_bucket
  rwa [received_raw, refilled_congr fun i hi => received_agreesBelow.ft he hi] at h

theorem policing_table : (s.received r (Sys2Proof.Spec.flowOf s e)).TableOnly (s.policing e r) :=
  (hc.agrees received_agreesBelow he).refillEntry_tableOnly he

theorem paid_table : (s.received r (Sys2Proof.Spec.flowOf s e)).TableOnly (s.paid e r u) := (policing_table he hc).setFt he (by decide)

theorem paid_bucket : (s.paid e r u).HasBucket e ((Sys2Proof.Spec.refilled s e s.raw).1 - ipBytes u) (Sys2Proof.Spec.refilled s e s.raw).2 s.raw := by
  refine (policing_bucket he hc).charge (policing_compact he hc) ?_
  have hle := (refilled_fits s e s.raw).1
  have h24 : s.ft e 3 % 2 ^ 24 < 2 ^ 24 := Nat.mod_lt _ (by decide)
  omega

theorem paid_parse : (s.paid e r u).parse (Sys2Proof.Spec.flowOf s e) u = s.parse (Sys2Proof.Spec.flowOf s e) u := by
  refine parse_congr (Nat.mod_lt _ (by decide)) (fun k hk => ?_) u
  unfold parseKey at hk
  exact ((paid_table he hc).reg k (by omega)).trans (received_reg (by omega) (by omega))

/-- The mark of a packet that its entry does not colour, by the tokens of its bucket. -/
theorem policing_mark (ha : bitAt (s.ft e 0) 5 = false) {d : Nat} : (s.policing e r).mark e d (ipBytes u) =
    if (Sys2Proof.Spec.refilled s e s.raw).1 < ipBytes u then (s.policing e r, .red) else (s.paid e r u, .green) := by
  obtain ⟨htok, -⟩ := policing_bucket (r := r) he hc
  rw [mark_compact (policing_compact he hc) (by rwa [policing_ctrl he hc]), State.paid, htok]

end

/-! ### INGEST_PACKET -/

/-- The state in which a frame is examined: time has come, and the frame has left the queue. -/
def State.examining (s : State) (now : Nat) (r : RxFrame) : State := (s.advance now).taken r

theorem examining_regs : (s.examining now r).regs = s.regs := rfl

theorem ft_of_regs (h : t.regs = s.regs) (e i : Nat) : t.ft e i = s.ft e i := by
  have hraw (e i : Nat) : t.ftRaw e i = s.ftRaw e i := get_of_reg (reg_of_regs h _)
  have hsecond : t.ftSecond e = s.ftSecond e := by rw [State.ftSecond, State.ftSecond, hraw]
  rw [ft_eq, ft_eq, hsecond, hraw, hraw]

theorem lookup_examining {vlan : Option (BitVec 12)} : (s.examining now r).lookup vlan u = s.lookup vlan u := rfl

theorem exec_ingestPacket (hi : s.ingestOn = true) (hq : ∃ x rest, s.ingFifo = x :: rest ∧ (s.advance now).nextFrame x rest = r) :
    exec (.ingestPacket full now) s = .next ((s.examining now r).ingest r full) := by
  obtain ⟨x, rest, hfifo, hnext⟩ := hq
  have hfifo' : (s.advance now).ingFifo = x :: rest := hfifo
  rw [exec, execIngestPacket, whenIngest_of_on hi]
  simp only [hfifo', hnext]
  rw [State.examining, State.taken, hfifo']

theorem ingest_of_lookup (hb : r.frame.body = .udp u) (hen : s.flag R.ING_CTRL_ENABLE = true) (hl : s.lookup r.frame.vlan u = some e) :
    s.ingest r full = s.flowPacket e r u := by
  simp only [State.ingest, hb, hen, hl, if_true]

/-- A packet of no flow, and of no control protocol of step 1. -/
def RxFrame.Stray (s : State) (r : RxFrame) : Prop :=
  r.frame.body = .other ∨ ∃ u, r.frame.body = .udp u ∧ u.dport ≠ 319 ∧ u.dport ≠ 320 ∧ s.lookup r.frame.vlan u = none

theorem ingest_of_stray (hen : s.flag R.ING_CTRL_ENABLE = true) (h : r.Stray s) : s.ingest r full = s.inc (R.MAC_CNT_COUNT r.mac 5) := by
  rcases h with hb | ⟨u, hb, h319, h320, hl⟩
  · simp [State.ingest, State.unmatched, hb]
  · have hctl : (decide (u.dport = 319) || decide (u.dport = 320)) = false := by rw [decide_eq_false h319, decide_eq_false h320]; rfl
    simp only [State.ingest, State.unmatched, hb, hen, hl, hctl, if_true]
    rfl

theorem examining_get {g : Field} : (s.examining now r).get g = s.get g := rfl

theorem examining_flag {g : Field} : (s.examining now r).flag g = s.flag g := rfl

theorem examining_raw (h : s.raw ≤ now) : (s.examining now r).raw = now := Nat.max_eq_right h

theorem examining_mem : (s.examining now r).mem = s.mem := rfl

theorem examining_ingFifo : (s.examining now r).ingFifo = s.ingFifo.erase r := rfl

theorem examining_parse (hf : f < 16384) : (s.examining now r).parse f u = s.parse f u := parse_congr hf (fun _ _ => reg_of_regs examining_regs _) u

theorem leftBy_examining (f : Nat) : s.LeftBy r f 0 ((s.examining now r).received r f) := by
  have h := leftBy_received (s.advance now) r f
  simp only [State.LeftBy, advance_get, advance_mem] at h
  exact h

/-- A packet of an entry of its own is examined as one of its flow. -/
theorem exec_ingestPacket_flow (h : Sys2Proof.Spec.ingested s now r u e) :
    exec (.ingestPacket full now) s = .next ((s.examining now r).flowPacket e r u) := by
  obtain ⟨hi, -, hq, hb, hen, hl⟩ := h
  rw [exec_ingestPacket hi hq, ingest_of_lookup hb (by rwa [examining_flag]) (lookup_examining.trans hl)]

theorem flowOf_examining : Sys2Proof.Spec.flowOf (s.examining now r) e = Sys2Proof.Spec.flowOf s e := by
  rw [Sys2Proof.Spec.flowOf, ft_of_regs examining_regs, Sys2Proof.Spec.flowOf]

theorem refilled_examining : Sys2Proof.Spec.refilled (s.examining now r) e now = Sys2Proof.Spec.refilled s e now :=
  refilled_congr fun i _ => ft_of_regs examining_regs e i

theorem ingestPacket_oversized (h : Sys2Proof.Spec.ingested s now r u e)
    (hlong : s.get (R.ING_FLOW_KIND_MAX_PKT (Sys2Proof.Spec.flowOf s e)) < ipBytes u) :
    ∃ t, exec (.ingestPacket full now) s = .next t ∧ s.LeftBy r (Sys2Proof.Spec.flowOf s e) 1 t := by
  refine ⟨_, exec_ingestPacket_flow h, ?_⟩
  rw [flowPacket_oversized (by rwa [flowOf_examining, examining_get]), flowOf_examining]
  exact (leftBy_examining _).exit (by decide)

/-- A packet that is not too long has left its flow's counters and its bucket as they are when it is policed, and as they are when it is parsed. -/
theorem ingestPacket_stages (h : Sys2Proof.Spec.ingested s now r u e) (hc : bitAt (s.ft e 0) 1 = false) (ha : bitAt (s.ft e 0) 5 = false)
    (hfits : ipBytes u ≤ s.get (R.ING_FLOW_KIND_MAX_PKT (Sys2Proof.Spec.flowOf s e))) : e < 32768 ∧ ∃ policing paid : State,
      exec (.ingestPacket full now) s = .next (graded e (Sys2Proof.Spec.flowOf s e) u
        (if (Sys2Proof.Spec.refilled s e now).1 < ipBytes u then (policing, .red) else (paid, .green))) ∧
      (s.LeftBy r (Sys2Proof.Spec.flowOf s e) 0 policing ∧
        policing.HasBucket e (Sys2Proof.Spec.refilled s e now).1 (Sys2Proof.Spec.refilled s e now).2 now) ∧
      (s.LeftBy r (Sys2Proof.Spec.flowOf s e) 0 paid ∧
        paid.HasBucket e ((Sys2Proof.Spec.refilled s e now).1 - ipBytes u) (Sys2Proof.Spec.refilled s e now).2 now) ∧
      paid.parse (Sys2Proof.Spec.flowOf s e) u = s.parse (Sys2Proof.Spec.flowOf s e) u := by
  obtain ⟨-, hn, -, -, -, hl⟩ := id h
  obtain ⟨he, hentry⟩ := lookup_entry hl
  have hcompact : (s.examining now r).Compact e := (compact_of_entry hentry hc).agrees (fun k _ => reg_of_regs examining_regs k) he
  have hplain : bitAt ((s.examining now r).ft e 0) 5 = false := by rwa [ft_of_regs examining_regs]
  have hf : Sys2Proof.Spec.flowOf (s.examining now r) e = Sys2Proof.Spec.flowOf s e := flowOf_examining
  have hraw : (s.examining now r).raw = now := examining_raw hn
  have hpolicing := policing_table (r := r) he hcompact
  have hpaid := paid_table (r := r) (u := u) he hcompact
  have hbpolicing := policing_bucket (r := r) he hcompact
  have hbpaid := paid_bucket (r := r) (u := u) he hcompact
  have hparse := paid_parse (r := r) (u := u) he hcompact
  rw [hraw, refilled_examining] at hbpolicing hbpaid
  rw [hf] at hpolicing hpaid hparse
  refine ⟨he, _, _, ?_, ⟨(leftBy_examining _).table hpolicing, hbpolicing⟩, ⟨(leftBy_examining _).table hpaid, hbpaid⟩,
    hparse.trans (examining_parse (Nat.mod_lt _ (by decide)))⟩
  rw [exec_ingestPacket_flow h, flowPacket_fits (by rwa [hf, examining_get]), policing_mark he hcompact hplain, hraw, refilled_examining, hf]

/-! ### The other commands of ingest -/

theorem exec_policerSweep (hi : s.ingestOn = true) : exec (.policerSweep now) s = .next (s.advance now).sweep := by
  rw [exec, execPolicerSweep, whenIngest_of_on hi]

theorem sweeping_advance (hn : s.raw ≤ now) (hg : e ∉ s.flowBad) (hc : bitAt (s.ft e 0) 1 = false) (hb : e % 2 = 1 → bitAt (s.ft (e - 1) 0) 1 = false) :
    (s.advance now).Sweeping now e (Sys2Proof.Spec.refilled s e now) := by
  have hft := ft_of_regs (advance_regs s now)
  exact ⟨Nat.max_eq_right hn, hg, by rwa [hft], fun ho => by rw [hft, hb ho], refilled_congr fun i _ => hft e i⟩

theorem pair_setPair {p : Nat} {x : PairSt} : (s.setPair p x).pair p = x := tget_tset_same _ _ _ _

theorem exec_pathSilent_A {p : Fin 2048} {a o : Nat} (hi : s.ingestOn = true) (hen : s.flag (R.ING_PAIR_CFG_ENABLE p) = true)
    (hs : (s.pair p).silent = none) (ha : (s.pair p).lastA.getD (s.pair p).since = a) (hb : (s.pair p).lastB = some o)
    (hlong : a + 10000000 ≤ max s.raw now) (hlater : a < o) : exec (.pathSilent p false now) s =
      .next (((s.advance now).setPair p { s.pair p with silent := some false }).report 127 0 (BitVec.ofNat 64 p)) := by
  rw [exec, execPathSilent, whenIngest_of_on hi]
  refine congrArg _ (if_pos ⟨hen, ?_, ?_, ?_⟩)
  · exact fun h => nomatch hs.symm.trans h
  · exact ha.symm ▸ hlong
  · change (s.pair p).lastB.elim false (fun t => decide ((s.pair p).lastA.getD (s.pair p).since < t)) = true
    rw [hb, ha]
    exact decide_eq_true hlater

/-- An entry in error. -/
def State.markBad (s : State) (e : Nat) : State := { s with flowBad := if s.flowBad.contains e then s.flowBad else e :: s.flowBad }

theorem markBad_matches (p tag : Nat) (key : List (BitVec 8)) : (s.markBad e).entryMatches e p tag key = false := by
  have hbad : (s.markBad e).flowBad.contains e = true := by
    unfold State.markBad
    split
    · assumption
    · simp
  rw [State.entryMatches, hbad]
  simp only [Bool.not_true, Bool.and_false, Bool.false_and]

theorem exec_flowTableEcc {e : Fin 32768} (hi : s.ingestOn = true) (hb : e.val % 2 = 1 → bitAt (s.ft (e - 1) 0) 1 = false) :
    exec (.flowTableEcc e now) s = .next (((s.advance now).markBad e).report 129 0 (BitVec.ofNat 64 e)) := by
  have hown : ¬(e.val % 2 = 1 ∧ bitAt ((s.advance now).ft (e.val - 1) 0) 0 = true ∧ bitAt ((s.advance now).ft (e.val - 1) 0) 1 = true) := by
    rintro ⟨ho, -, hf⟩
    rw [ft_of_regs (advance_regs s now), hb ho] at hf
    exact absurd hf (by decide)
  rw [exec, execFlowTableEcc, whenIngest_of_on hi]
  dsimp only
  rw [if_neg hown]
  rfl

/-! ### The window of a flow's counters (R247) -/

/-- The step of a snapshot for counter `i`. -/
def State.snapCounter (w f : Nat) (s : State) (i : Nat) : State := s.set (R.ING_WIN_CNT_SNAPSHOT w i) (s.get (R.ING_FLOW_CNT_COUNT f i))

theorem snapCounter_other {w i : Nat} {g : Field} (h : g.key ≠ 0x601080 + w * 0x100 + i * 8) : (s.snapCounter w f i).get g = s.get g :=
  get_set_other _ _ _ _ h

theorem ingSelect_eq (w f : Nat) : s.ingSelect w f = (List.range 10).foldl (State.snapCounter w f) (s.set (R.ING_IND_SEL_FLOW w) f) := rfl

theorem ingSelect_snapshot {w : Nat} (hw : w < 4) (hi : i < 10) : (s.ingSelect w f).get (R.ING_WIN_CNT_SNAPSHOT w i) = s.get (R.ING_FLOW_CNT_COUNT f i) := by
  have hlt : s.get (R.ING_FLOW_CNT_COUNT f i) < 2 ^ 64 := get_lt s (R.ING_FLOW_CNT_COUNT f i)
  rw [ingSelect_eq]
  refine foldl_establishes (a := i) (I := fun t => t.get (R.ING_FLOW_CNT_COUNT f i) = s.get (R.ING_FLOW_CNT_COUNT f i))
    (Q := fun t => t.get (R.ING_WIN_CNT_SNAPSHOT w i) = s.get (R.ING_FLOW_CNT_COUNT f i)) (fun t b hb h => ?_) (fun t h => ?_) (fun t b _ hb _ hq => ?_)
    (List.mem_range.2 hi) _ ?_
  · have hb := List.mem_range.1 hb
    rw [snapCounter_other (by simp only [R.ING_FLOW_CNT_COUNT]; omega), h]
  · exact (get_set_same t (R.ING_WIN_CNT_SNAPSHOT w i) _ (show 0 + 64 ≤ 64 by decide)).trans (by rw [h]; exact Nat.mod_eq_of_lt hlt)
  · rw [snapCounter_other (by simp only [R.ING_WIN_CNT_SNAPSHOT]; omega), hq]
  · exact get_set_other _ _ _ _ (by simp only [R.ING_FLOW_CNT_COUNT, R.ING_IND_SEL_FLOW]; omega)

theorem ingSelect_flow {w : Nat} (hw : w < 4) (hf : f < 16384) : (s.ingSelect w f).get (R.ING_IND_SEL_FLOW w) = f := by
  have hkeep (l : List Nat) (hl : ∀ i ∈ l, i < 10) (t : State) :
      (l.foldl (State.snapCounter w f) t).get (R.ING_IND_SEL_FLOW w) = t.get (R.ING_IND_SEL_FLOW w) := by
    induction l generalizing t with
    | nil => rfl
    | cons i l ih =>
      rw [List.foldl_cons, ih fun j hj => hl j (List.mem_cons_of_mem i hj), snapCounter_other (by simp only [R.ING_IND_SEL_FLOW]; omega)]
  rw [ingSelect_eq, hkeep _ fun i hi => List.mem_range.1 hi]
  exact (get_set_same s (R.ING_IND_SEL_FLOW w) f (show 0 + 14 ≤ 64 by decide)).trans (Nat.mod_eq_of_lt hf)

theorem exec_ingIndSel {w : Fin 4} {f : FlowId} (hu : s.up = true) (hh : s.halted = false) :
    exec (.ingIndSel w f) s = .next (s.ingSelect w f) := by
  rw [exec, execIngIndSel, whenWr_of_up hu hh]

/-- Settles O40: a packet's counts are one bank of its flow's counters, its bucket four words of its entry, and what the one writes the other does not
touch; a sweep refills each entry once over, since a bucket just refilled is not refilled further. -/
theorem ingestPackets : Obligations.IngestPackets := by
  unfold Obligations.IngestPackets
  refine ⟨fun r u e full now s h hc ha => ?_, fun r full now s hi hq hen hstray => ?_, fun now s hi hn => ?_,
    fun p now a o s hi hen hs ha hb hlong hlater => ?_, fun e now s hi hb => ?_, fun w f s hu hh => ?_⟩
  · intro f b left bucket k
    refine ⟨fun hlong => ingestPacket_oversized h hlong, fun hfits => ?_⟩
    obtain ⟨he, policing, paid, hexec, ⟨hleft, hbucket⟩, ⟨hleftPaid, hbucketPaid⟩, hsame⟩ :=
      ingestPacket_stages (full := full) h hc ha hfits
    have hadmit (henough : b ≤ k) : ¬(Sys2Proof.Spec.refilled s e now).1 < ipBytes u := Nat.not_lt.2 henough
    refine ⟨fun hshort => ?_, fun henough hparse => ?_, fun henough p hparse => ?_⟩
    · rw [if_pos (show (Sys2Proof.Spec.refilled s e now).1 < ipBytes u from hshort), graded_red] at hexec
      exact ⟨_, hexec, hleft.exit (by decide), hbucket.agrees (exit_agreesBelow f 2) he⟩
    · rw [if_neg (hadmit henough), graded_green_none (hsame.trans hparse)] at hexec
      exact ⟨_, hexec, hleftPaid.exit (by decide), hbucketPaid.agrees (exit_agreesBelow f 3) he⟩
    · rw [if_neg (hadmit henough), graded_green_some (hsame.trans hparse)] at hexec
      exact ⟨_, hexec, hleftPaid, hbucketPaid⟩
  · have hstray' : r.Stray (s.examining now r) := hstray
    refine ⟨_, exec_ingestPacket hi hq, ?_⟩
    rw [ingest_of_stray (by rwa [examining_flag]) hstray', inc_ingFifo, inc_mem, macCnt_inc, if_pos rfl, examining_get]
    exact ⟨examining_ingFifo, examining_mem, rfl⟩
  · refine ⟨_, exec_policerSweep hi, (sweep_mems (P := fun m _ => m = s.mem)).2 rfl, fun e he hg hv hc hb => ?_⟩
    have hsweeping := sweeping_advance hn hg hc hb
    refine hsweeping.sweep (mem_sweepList he hsweeping.isCompact.1 ?_)
    rwa [ft_of_regs (advance_regs s now)]
  · exact ⟨_, exec_pathSilent_A hi hen hs ha hb hlong hlater, by rw [pair_setPair]⟩
  · exact ⟨_, exec_flowTableEcc hi hb, fun p tag key => markBad_matches p tag key⟩
  · exact ⟨_, exec_ingIndSel hu hh, ingSelect_flow w.isLt f.isLt, fun i hi => ingSelect_snapshot w.isLt hi⟩

end Sys2Proof.Machine
end

section
/-! A run of a frame whose token lies in frame memory that is not enabled: the engine's store is discarded (05_ingest.md R229; 13_frame_memory.md R546). -/

namespace Sys2Proof.Machine

/-- Frame 0 of a channel, with token 0. -/
def tokenFrame : FrameSt := { n := 0, inst := 0, rtp := 0, token := some 0 }

/-- The reset device, its frame memory not enabled, with that frame in channel 0, whose pool begins at address 0. -/
def frameInClosedMemory : State := State.reset.setChan 0 { frames := [tokenFrame] }

/-- A run of one byte at the beginning of the frame. -/
def oneByteRun : Srd := ⟨0, 0, [1]⟩

theorem frameInClosedMemory_frame : frameInClosedMemory.frameSt 0 0 = some tokenFrame := by decide +kernel

/-- The run's place is address 0, which reads as it did. -/
theorem writeRun_closed_byte : (frameInClosedMemory.writeRun 0 0 0 oneByteRun).dByte 0 = 0 := by decide +kernel

/-- The run's place by R229. -/
theorem oneByteRun_place : frameInClosedMemory.tokenBase 0 0 +
    oneByteRun.line * (frameInClosedMemory.get (R.ING_FLOW_VIDEO_WIDTH 0) * (frameInClosedMemory.pgroup 0).1 / (frameInClosedMemory.pgroup 0).2) +
      oneByteRun.offset * (frameInClosedMemory.pgroup 0).1 / (frameInClosedMemory.pgroup 0).2 = 0 := by
  decide +kernel

/-- Refutes O41: it puts a run's bytes at the place that its header gives wherever that is, but a store to frame memory that is not enabled is
discarded (R546). -/
theorem not_mergeAndPlacement : ¬ Obligations.MergeAndPlacement := by
  unfold Obligations.MergeAndPlacement
  rintro ⟨-, -, hrun, -⟩
  obtain ⟨hbytes, -⟩ := hrun frameInClosedMemory 0 0 0 0 tokenFrame oneByteRun frameInClosedMemory_frame rfl
  have hbyte := hbytes 0
  rw [oneByteRun_place, writeRun_closed_byte] at hbyte
  exact absurd hbyte (by decide)

end Sys2Proof.Machine
end

section
/-! A unit of a sub-frame rendition at its coding deadline, each of its columns coded as a repeat (08_rate_and_delay.md R377). -/

namespace Sys2Proof.Machine

/-- A column of one CTU, coded as a repeat CTU and committed. -/
def repeatColumn : ColSt := { total := 1, done := 1, rep := true }

/-- The unit of band 0 of frame 0, of that one column; it was not opened as a repeat. -/
def unitOfRepeats : UnitSt := { ch := 0, rend := 0, idx := 0, src := 0, band := 0, snap := 1, cols := [repeatColumn] }

/-- The reset device with channel 0 running in sub-frame mode on a grid anchored at 0, rendition 0 enabled, and the unit the next to be assembled. -/
def repeatsDue : State :=
  { State.reset.setFlag (R.CTX_REND_CODEC_ENABLE 0 0) true with
    adm := [(0, { ({} : Adm) with admitted := true, subframe := true })],
    chans := [(0, { ({} : ChanSt) with running := true, anchor := some 0 })],
    units := [unitOfRepeats] }

/-- An assembly that fills no CTU, selects no slice for proof and measures nothing. -/
def bareAssembly : Assembly := ⟨[], [], []⟩

theorem repeatsDue_runs : repeatsDue.live = true ∧ repeatsDue.running 0 = true ∧ repeatsDue.flag (R.CTX_REND_CODEC_ENABLE 0 0) = true ∧
    repeatsDue.subframe 0 = true ∧ repeatsDue.gridOn 0 = true := by
  decide +kernel

theorem repeatsDue_reached : (repeatsDue.advance 12000).reached (repeatsDue.deadline 0 unitOfRepeats.idx unitOfRepeats.band) = true := by
  decide +kernel

/-- The units that an outcome leaves. -/
def unitsAfter : Out → List UnitSt
  | .next t => t.units
  | _ => []

/-- The assembly marks the unit as a repeat. -/
theorem repeatsDue_assembled : ∀ v ∈ unitsAfter (Sys2Proof.Machine.exec (.codingDeadline 0 0 bareAssembly 12000) repeatsDue), v.rep = true := by
  decide +kernel

/-- Refutes O43: at its deadline a unit whose CTUs were all committed is to keep its repeat mark, but one whose columns were all coded as repeats becomes a
repeat by its assembly. -/
theorem not_codedTreeUnits : ¬ Obligations.CodedTreeUnits := by
  unfold Obligations.CodedTreeUnits
  rintro ⟨-, -, deadline, -⟩
  obtain ⟨hlive, hrunning, henable, hsubframe, hgrid⟩ := repeatsDue_runs
  obtain ⟨t, v, hexec, hv, -, -, -, hdone⟩ :=
    (deadline 0 0 bareAssembly unitOfRepeats 12000 repeatsDue hlive hrunning henable hsubframe hgrid rfl).2 repeatsDue_reached
  obtain ⟨-, -, hrep⟩ := hdone rfl
  have hmark := repeatsDue_assembled
  rw [hexec] at hmark
  exact absurd (hrep.symm.trans (hmark v hv)) (by decide)

end Sys2Proof.Machine
end

section
/-! What the end of a task leaves busy: it sets the task's own unit free, and its record, its channel's frames and its column make none busy (04_dispatcher.md
R120; 07_codec_engines.md R290, R306, R307, R324). -/

namespace Sys2Proof.Machine

variable {s t : State}

/-! ### Steps that leave every unit as busy as it is -/

@[simp] theorem set_busy (s : State) (f : Field) (x : Nat) : (s.set f x).busy = s.busy := (rfl)
@[simp] theorem setFlag_busy (s : State) (f : Field) (b : Bool) : (s.setFlag f b).busy = s.busy := (rfl)
@[simp] theorem add_busy (s : State) (f : Field) (n : Nat) : (s.add f n).busy = s.busy := (rfl)
@[simp] theorem inc_busy (s : State) (f : Field) : (s.inc f).busy = s.busy := (rfl)
@[simp] theorem dec_busy (s : State) (f : Field) : (s.dec f).busy = s.busy := (rfl)
@[simp] theorem setThr_busy (s : State) (i : Nat) (x : Thread) : (s.setThr i x).busy = s.busy := (rfl)
@[simp] theorem setCore_busy (s : State) (k : Nat) (c : CoreX) : (s.setCore k c).busy = s.busy := (rfl)
@[simp] theorem setChan_busy (s : State) (ch : Nat) (c : ChanSt) : (s.setChan ch c).busy = s.busy := (rfl)
@[simp] theorem setTask_busy (s : State) (e : Nat) (x : TaskEntry) : (s.setTask e x).busy = s.busy := (rfl)
@[simp] theorem setPool_busy (s : State) (ch : Nat) (p : PoolSt) : (s.setPool ch p).busy = s.busy := (rfl)
@[simp] theorem setEvent_busy (s : State) (i e : Nat) : (s.setEvent i e).busy = s.busy := (rfl)
@[simp] theorem postThread_busy (s : State) (i e : Nat) : (s.postThread i e).busy = s.busy := (rfl)
@[simp] theorem setByte_busy (s : State) (a : Nat) (v : BitVec 8) : (s.setByte a v).busy = s.busy := (rfl)
@[simp] theorem seqWr_busy (s : State) (k n v : Nat) : (s.seqWr k n v).busy = s.busy := by rw [seqWr_eq]

theorem ite_busy {c : Prop} [Decidable c] {u : State} (ht : t.busy = s.busy) (hu : u.busy = s.busy) : (if c then t else u).busy = s.busy := by
  split <;> assumption

theorem foldl_busy {α : Type} {f : State → α → State} (h : ∀ s a, (f s a).busy = s.busy) (l : List α) (s : State) : (l.foldl f s).busy = s.busy :=
  List.foldlRecOn (motive := fun t => t.busy = s.busy) l f rfl fun t ht a _ => (h t a).trans ht

@[simp] theorem raiseLine_busy (s : State) (k l : Nat) : (s.raiseLine k l).busy = s.busy := ite_busy rfl (setCore_busy ..)

@[simp] theorem wr_busy (s : State) (a n v : Nat) : (s.wr a n v).busy = s.busy := by
  induction n generalizing s a v with
  | zero => rfl
  | succ n ih => rw [State.wr, ih, setByte_busy]

@[simp] theorem ringWr_busy (s : State) (i off : Nat) (r : CompRec) : (s.ringWr i off r).busy = s.busy := by
  unfold State.ringWr
  dsimp only
  rw [apply_ite State.busy, wr_busy, seqWr_busy, ite_self]

@[simp] theorem freeTask_busy (s : State) (e : Nat) : (s.freeTask e).busy = s.busy := by
  unfold State.freeTask
  extract_lets t d s1 s2 s3
  have h2 : s2.busy = s.busy := ite_busy (inc_busy ..) (setTask_busy ..)
  have h3 : s3.busy = s.busy := ite_busy h2 h2
  split
  · exact (dec_busy ..).trans h3
  · exact h3

@[simp] theorem postErr_busy (s : State) (i status : Nat) : (s.postErr i status).busy = s.busy :=
  ite_busy rfl (ite_busy (postThread_busy ..) ((raiseLine_busy ..).trans (setEvent_busy ..)))

@[simp] theorem writeRec_busy (s : State) (i : Nat) (r : CompRec) : (s.writeRec i r).busy = s.busy := by
  unfold State.writeRec
  extract_lets t s1 s2 s3
  have h3 : s3.busy = s.busy := by rw [freeTask_busy, setThr_busy, ringWr_busy]
  exact ite_busy ((postThread_busy ..).trans h3) ((raiseLine_busy ..).trans ((setEvent_busy ..).trans h3))

@[simp] theorem endTask_busy (s : State) (e status cost : Nat) : (s.endTask e status cost).busy = s.busy := by
  unfold State.endTask
  extract_lets t s1 s2 s3 r th
  have h1 : s1.busy = s.busy := inc_busy ..
  have h2 : s2.busy = s.busy := by
    unfold s2
    split
    · exact ite_busy ((inc_busy ..).trans h1) h1
    · exact h1
  have h3 : s3.busy = s.busy := by rw [postErr_busy, setTask_busy, h2]
  exact ite_busy ((writeRec_busy ..).trans h3) ((setThr_busy ..).trans h3)

/-! ### Frames -/

@[simp] theorem returnToken_busy (s : State) (ch b : Nat) : (s.returnToken ch b).busy = s.busy := by
  unfold State.returnToken
  extract_lets s1
  have h1 : s1.busy = s.busy := (dec_busy ..).trans (inc_busy ..)
  exact ite_busy ((setPool_busy ..).trans h1) h1

@[simp] theorem frameDone_busy (s : State) (ch n : Nat) : (s.frameDone ch n).busy = s.busy := by
  unfold State.frameDone
  dsimp only
  split
  · rfl
  split
  · exact setChan_busy ..
  · exact ite_busy ((setDec_busy ..).trans (setChan_busy ..)) ((returnToken_busy ..).trans (setChan_busy ..))

@[simp] theorem columnOver_busy (s : State) (ch n r col : Nat) : (s.columnOver ch n r col).busy = s.busy := by
  unfold State.columnOver
  extract_lets c s1
  have h1 : s1.busy = s.busy := setChan_busy ..
  split
  · exact h1
  · exact ite_busy ((frameDone_busy ..).trans h1) h1

@[simp] theorem sweepStopped_busy (s : State) (ch : Nat) : (s.sweepStopped ch).busy = s.busy := by
  unfold State.sweepStopped
  extract_lets busy s1
  have h1 : s1.busy = s.busy := ite_busy rfl rfl
  exact ite_busy rfl (ite_busy h1 ((foldl_busy (fun _ _ => ite_busy rfl (frameDone_busy ..)) _ _).trans h1))

@[simp] theorem taskOver_busy (s : State) (e status cost : Nat) : (s.taskOver e status cost).busy = s.busy := by
  unfold State.taskOver
  dsimp only
  cases (s.task e).ch with
  | none => exact endTask_busy ..
  | some c => exact (sweepStopped_busy ..).trans (endTask_busy ..)

/-! ### Engines -/

@[simp] theorem trayIdle_busy (s : State) (u : Nat) : (s.trayIdle u).busy = s.busy := set_busy ..

@[simp] theorem engIdle_busy (s : State) (u : Nat) : (s.engIdle u).busy = s.busy :=
  ite_busy (trayIdle_busy ..) ((trayIdle_busy ..).trans (set_busy ..))

@[simp] theorem chargeNs_busy (s : State) (u i a : Nat) (ch : Option Nat) : (s.chargeNs u i a ch).busy = s.busy := by
  unfold State.chargeNs
  dsimp only
  split
  · split
    · rw [add_busy, add_busy]
    · rw [apply_ite State.busy, add_busy, ite_self]
  · rfl

@[simp] theorem substitute_busy (s : State) (e : Nat) : (s.substitute e).busy = s.busy := by
  unfold State.substitute
  split
  · rfl
  · extract_lets s1 s2
    have h1 : s1.busy = s.busy := rfl
    have h2 : s2.busy = s.busy := (inc_busy ..).trans h1
    exact ite_busy h2 ((columnOver_busy ..).trans h2)

/-- The unit of a task that sets it free is busy with none. -/
theorem freeUnit_unit (s : State) (e : Nat) : tget (fun _ => 0) (s.freeUnit e).busy (s.task e).unit = 0 := by
  unfold State.freeUnit
  extract_lets t s1
  have h1 : tget (fun _ => 0) s1.busy t.unit = 0 := tget_tset_same (fun _ => 0) s.busy t.unit 0
  have hrest : (if t.unit < 128 then ((s1.engIdle t.unit).add (R.ENG_CNT_COUNT t.unit 5) (s.costNow e)).chargeNs t.unit 0 t.startAt t.ch else s1).busy =
      s1.busy := ite_busy (by rw [chargeNs_busy, add_busy, engIdle_busy]) rfl
  rw [hrest]
  exact h1

/-- A task that breaks off on its engine leaves the engine busy with none. -/
theorem breakTask_unit {e status : Nat} (he : (s.task (tget (fun _ => 0) s.busy e - 1)).unit = e) :
    tget (fun _ => 0) (s.breakTask e status).busy e = 0 := by
  unfold State.breakTask
  extract_lets b t cost s1 s2
  split
  · assumption
  · have h1 : tget (fun _ => 0) s1.busy (s.task (b - 1)).unit = 0 := freeUnit_unit s (b - 1)
    have h2 : s2.busy = s1.busy := by
      refine ite_busy (substitute_busy ..) ?_
      split
      · exact ite_busy (setDec_busy ..) rfl
      · rfl
    rw [taskOver_busy, h2]
    exact he ▸ h1

end Sys2Proof.Machine
end

section
/-! An engine's registers and its tray's: isolation and return to service, the time charged to it, and the cause of an error (07_codec_engines.md R345,
R346, R348; 17_sieve.md R642). -/

namespace Sys2Proof.Machine

variable {s : State} {e : Nat} {f : Field}

/-! ### The bits of a tray -/

theorem testBit_setBit {m k n : Nat} (hk : k < n) (h : bitAt m k = false) : ((m + 2 ^ k) % 2 ^ n).testBit k = true := by
  rw [Nat.testBit_mod_two_pow, Nat.add_comm, Nat.testBit_two_pow_add_eq, ← bitAt_eq_testBit, h, decide_eq_true hk]
  rfl

/-- A bit that is taken off where it is set. -/
theorem testBit_clearBit {m k n : Nat} : ((if bitAt m k then m - 2 ^ k else m) % 2 ^ n).testBit k = false := by
  rw [Nat.testBit_mod_two_pow, bitAt_eq_testBit]
  refine Bool.and_eq_false_imp.2 fun _ => ?_
  split
  · next h =>
    obtain ⟨x, rfl⟩ := Nat.exists_eq_add_of_le (Nat.ge_two_pow_of_testBit h)
    rw [Nat.testBit_two_pow_add_eq, Bool.not_eq_true'] at h
    rwa [Nat.add_sub_cancel_left]
  · next h => exact Bool.not_eq_true _ ▸ h

/-! ### Fields of an engine and of its tray -/

/-- The fields of an engine's status lie beside each other, and those of its cause of error. -/
theorem engine_apart (e : Nat) : (R.ENG_STATUS_CTX_VALID e).Apart (R.ENG_STATUS_STATE e) ∧ (R.ENG_STATUS_OWNED e).Apart (R.ENG_STATUS_STATE e) ∧
    (R.ENG_STATUS_OWNER e).Apart (R.ENG_STATUS_STATE e) ∧ (R.ENG_LAST_ERR_VALID e).Apart (R.ENG_LAST_ERR_CODE e) := by
  simp [Field.Apart, R.ENG_STATUS_CTX_VALID, R.ENG_STATUS_STATE, R.ENG_STATUS_OWNED, R.ENG_STATUS_OWNER, R.ENG_LAST_ERR_VALID, R.ENG_LAST_ERR_CODE]

/-- The fields of a tray's status lie beside each other. -/
theorem tray_apart (t : Nat) : (R.TRAY_STATUS_BUSY t).Apart (R.TRAY_STATUS_ISOLATED t) ∧ (R.TRAY_STATUS_OWNED t).Apart (R.TRAY_STATUS_ISOLATED t) := by
  simp [Field.Apart, R.TRAY_STATUS_BUSY, R.TRAY_STATUS_ISOLATED, R.TRAY_STATUS_OWNED]

/-- The registers of an engine lie below those of the trays, and its counters of engine time above both. -/
theorem engine_apart_tray (he : e < 128) (t : Nat) : (R.TRAY_STATUS_BUSY t).Apart (R.ENG_STATUS_STATE e) ∧
    (R.TRAY_STATUS_ISOLATED t).Apart (R.ENG_STATUS_STATE e) ∧ (R.TRAY_STATUS_OWNED t).Apart (R.ENG_STATUS_STATE e) ∧
    (R.TRAY_STATUS_BUSY t).Apart (R.ENG_LAST_ERR_CODE e) ∧ (R.ENG_STATUS_STATE e).Apart (R.ENG_LAST_ERR_CODE e) ∧
    (R.ENG_STATUS_OWNED e).Apart (R.TRAY_STATUS_ISOLATED t) ∧ (R.ENG_STATUS_OWNER e).Apart (R.TRAY_STATUS_ISOLATED t) ∧
    (R.CONS_ENG_NS e 1).Apart (R.ENG_LAST_ERR_CODE e) := by
  simp only [Field.Apart, R.TRAY_STATUS_BUSY, R.TRAY_STATUS_ISOLATED, R.TRAY_STATUS_OWNED, R.ENG_STATUS_STATE, R.ENG_LAST_ERR_CODE, R.ENG_STATUS_OWNED,
    R.ENG_STATUS_OWNER, R.CONS_ENG_NS]
  omega

/-! ### Steps that write a register of the engine -/

@[simp] theorem set_proofs (s : State) (f : Field) (x : Nat) : (s.set f x).proofs = s.proofs := (rfl)
@[simp] theorem set_units (s : State) (f : Field) (x : Nat) : (s.set f x).units = s.units := (rfl)
@[simp] theorem add_proofs (s : State) (f : Field) (n : Nat) : (s.add f n).proofs = s.proofs := (rfl)
@[simp] theorem add_units (s : State) (f : Field) (n : Nat) : (s.add f n).units = s.units := (rfl)
@[simp] theorem trayIdle_proofs (s : State) (e : Nat) : (s.trayIdle e).proofs = s.proofs := set_proofs ..
@[simp] theorem trayIdle_units (s : State) (e : Nat) : (s.trayIdle e).units = s.units := set_units ..

theorem get_withCons (s : State) (c : ConsSt) (f : Field) : ({ s with cons := c } : State).get f = s.get f := rfl

theorem get_withEngCtx (s : State) (c : Table Nat) (f : Field) : ({ s with engCtx := c } : State).get f = s.get f := rfl

theorem trayIdle_get (h : (R.TRAY_STATUS_BUSY (e / 8)).Apart f) : (s.trayIdle e).get f = s.get f := get_set_apart h

theorem engIdle_get (hstate : (R.ENG_STATUS_STATE e).Apart f) (htray : (R.TRAY_STATUS_BUSY (e / 8)).Apart f) : (s.engIdle e).get f = s.get f := by
  unfold State.engIdle
  split
  · exact trayIdle_get htray
  · exact (trayIdle_get htray).trans (get_set_apart hstate)

theorem engIdle_lists (s : State) (e : Nat) : (s.engIdle e).proofs = s.proofs ∧ (s.engIdle e).units = s.units := by
  unfold State.engIdle
  split
  · exact ⟨trayIdle_proofs .., trayIdle_units ..⟩
  · simp

/-- Engine time charged to no channel shows in its counter alone. -/
theorem chargeNs_get {i a : Nat} (h : (R.CONS_ENG_NS e i).Apart f) : (s.chargeNs e i a none).get f = s.get f := by
  unfold State.chargeNs
  dsimp only
  split
  · split
    · exact (get_withCons ..).trans (get_set_apart h)
    · exact get_set_apart h
  · rfl

theorem chargeNs_lists (s : State) (e i a : Nat) : (s.chargeNs e i a none).proofs = s.proofs ∧ (s.chargeNs e i a none).units = s.units := by
  unfold State.chargeNs
  dsimp only
  split
  · split
    · simp
    · simp
  · exact ⟨rfl, rfl⟩

/-! ### The cause of an error (R345) -/

theorem engError_code {code : Nat} (hc : code < 256) : (s.engError e code).get (R.ENG_LAST_ERR_CODE e) = code := by
  obtain ⟨-, -, -, hvalid⟩ := engine_apart e
  rw [State.engError, get_setFlag_apart hvalid, get_set_same _ _ _ (show 0 + 8 ≤ 64 by decide)]
  exact Nat.mod_eq_of_lt hc

theorem engError_valid {code : Nat} : (s.engError e code).flag (R.ENG_LAST_ERR_VALID e) = true :=
  flag_setFlag_same _ _ _ (show 31 + 1 ≤ 64 by decide) (show 0 < 1 by decide)

/-! ### Out of service, and back (R345, R346, R348) -/

/-- FAULT posted to the channels that use a unit leaves every register. -/
theorem postFault_get {sus : Nat} : (s.postFault sus).get f = s.get f :=
  (State.Steady.foldl (P := fun _ => True) (fun _ _ _ => postCh_steady) s).get trivial

theorem isolateEngine_isolated (he : e < 128) : (s.isolateEngine e).get (R.ENG_STATUS_STATE e) = 5 ∧
    ((s.isolateEngine e).get (R.TRAY_STATUS_ISOLATED (e / 8))).testBit (e % 8) = true := by
  obtain ⟨hvalid, -, -, -⟩ := engine_apart e
  obtain ⟨hbusy, -⟩ := tray_apart (e / 8)
  obtain ⟨hbusyState, hisolatedState, -⟩ := engine_apart_tray he (e / 8)
  unfold State.isolateEngine
  extract_lets s1 o c s2 s3 s4 s5 r s6 m s7
  have h5 : s5.get (R.ENG_STATUS_STATE e) = 5 := calc
    _ = s4.get (R.ENG_STATUS_STATE e) := get_withEngCtx ..
    _ = _ := get_setFlag_apart hvalid
    _ = 5 := get_set_same _ _ _ (show 0 + 3 ≤ 64 by decide)
  have h6 : s6.get (R.ENG_STATUS_STATE e) = 5 := by
    unfold s6
    split
    · exact h5
    · exact (get_withCons ..).trans h5
  clear_value s6
  have h7 : s7.get (R.ENG_STATUS_STATE e) = 5 := (trayIdle_get hbusyState).trans h6
  have hm : s7.get (R.TRAY_STATUS_ISOLATED (e / 8)) = m := trayIdle_get hbusy
  split
  · next hbit => exact ⟨h7, by rw [hm, ← bitAt_eq_testBit, hbit]⟩
  · next hbit =>
    refine ⟨(get_set_apart hisolatedState).trans h7, ?_⟩
    rw [get_set_same _ _ _ (show 8 + 8 ≤ 64 by decide)]
    exact testBit_setBit (Nat.mod_lt _ (by decide)) (Bool.not_eq_true _ ▸ hbit)

/-- An owner that is dropped shows in OWNED and OWNER alone. -/
theorem disownLost_get (htray : (R.TRAY_STATUS_OWNED (e / 8)).Apart f) (howned : (R.ENG_STATUS_OWNED e).Apart f)
    (howner : (R.ENG_STATUS_OWNER e).Apart f) : (s.disownLost e).get f = s.get f := by
  unfold State.disownLost
  split
  · exact (get_set_apart howner).trans ((get_setFlag_apart howned).trans (get_set_apart htray))
  · rfl

theorem restoreEngine_idle (he : e < 128) (h : s.get (R.ENG_STATUS_STATE e) = 5) : (s.restoreEngine e).get (R.ENG_STATUS_STATE e) = 0 ∧
    ((s.restoreEngine e).get (R.TRAY_STATUS_ISOLATED (e / 8))).testBit (e % 8) = false := by
  obtain ⟨-, howned, howner, -⟩ := engine_apart e
  obtain ⟨-, htray⟩ := tray_apart (e / 8)
  obtain ⟨-, hisolatedState, htrayState, -, -, hownedTray, hownerTray, -⟩ := engine_apart_tray he (e / 8)
  unfold State.restoreEngine
  rw [if_pos h]
  extract_lets m s1 s2
  rw [disownLost_get htrayState howned howner, disownLost_get htray hownedTray hownerTray, get_set_apart hisolatedState,
    get_set_same _ _ _ (show 0 + 3 ≤ 64 by decide), get_set_same _ _ _ (show 8 + 8 ≤ 64 by decide)]
  exact ⟨rfl, testBit_clearBit⟩

end Sys2Proof.Machine
end

section
/-! Faulty engines, and bitstream proofs: what ends a task or a proof early, and what the end or the age of a proof decides (07_codec_engines.md R290, R340
to R346). -/

namespace Sys2Proof.Machine

variable {s : State} {e : Nat} {p : Proof} {f : Field}

/-! ### The list of proofs -/

theorem inc_proofs (s : State) (f : Field) : (s.inc f).proofs = s.proofs := (rfl)

theorem Proof.same_refl (p : Proof) : p.same p = true := by simp [Proof.same]

/-- A proof of the list that is replaced is there in its new form. -/
theorem mem_map_same {l : List Proof} {g : Proof → Proof} (h : p ∈ l) : g p ∈ l.map (fun q => if q.same p then g q else q) :=
  List.mem_map.2 ⟨p, h, if_pos p.same_refl⟩

theorem same_of_mem_filter {l : List Proof} : ∀ q ∈ l.filter (fun q => !q.same p), q.same p = false := fun _ hq => by
  simpa using (List.mem_filter.1 hq).2

/-- The slots of a rendition show in their own registers alone. -/
theorem showSlots_get {ch r : Nat} (h : ∀ i < 16, (R.REF_SLOT ch r i).Apart f) : (s.showSlots ch r).get f = s.get f :=
  List.foldlRecOn (motive := fun t : State => t.get f = s.get f) _ _ rfl fun _ ht i hi => (get_set_apart (h i (List.mem_range.1 hi))).trans ht

theorem showSlots_lists (s : State) (ch r : Nat) : (s.showSlots ch r).proofs = s.proofs ∧ (s.showSlots ch r).units = s.units :=
  List.foldlRecOn (motive := fun t : State => t.proofs = s.proofs ∧ t.units = s.units) _ _ ⟨rfl, rfl⟩ fun _ ht _ _ =>
    ⟨(set_proofs ..).trans ht.1, (set_units ..).trans ht.2⟩

theorem dropRecord_lists (s : State) (p : Proof) : (∀ q ∈ (s.dropRecord p).proofs, q.same p = false) ∧ (s.dropRecord p).units = s.units := by
  obtain ⟨hproofs, hunits⟩ := showSlots_lists { s with proofs := s.proofs.filter (fun q => !q.same p) } p.ch p.rend
  exact ⟨fun q hq => same_of_mem_filter q (hproofs ▸ hq), hunits⟩

/-- The counters of a channel's encoder lie below the slots of its renditions (R315, R344). -/
theorem dropRecord_count {i : Nat} (hi : i < 8) : (s.dropRecord p).get (R.ENC_CNT_COUNT p.ch i) = s.get (R.ENC_CNT_COUNT p.ch i) := by
  refine showSlots_get fun j _ => .inl ?_
  simp only [R.ENC_CNT_COUNT, R.REF_SLOT]
  omega

/-! ### An engine that ends a proof -/

theorem get_withProofs (s : State) (l : List Proof) (f : Field) : ({ s with proofs := l } : State).get f = s.get f := rfl

/-- The proof that the engine ran is over for it: the engine is idle, and the time is charged. -/
def State.endRun (s : State) (e : Nat) (p : Proof) : State := (s.engIdle e).chargeNs e 1 p.startAt none

theorem endRun_lists (s : State) (e : Nat) (p : Proof) : (s.endRun e p).proofs = s.proofs ∧ (s.endRun e p).units = s.units := by
  obtain ⟨hproofs, hunits⟩ := engIdle_lists s e
  obtain ⟨hproofs', hunits'⟩ := chargeNs_lists (s.engIdle e) e 1 p.startAt
  exact ⟨hproofs'.trans hproofs, hunits'.trans hunits⟩

theorem endRun_get (hstate : (R.ENG_STATUS_STATE e).Apart f) (htray : (R.TRAY_STATUS_BUSY (e / 8)).Apart f) (hns : (R.CONS_ENG_NS e 1).Apart f) :
    (s.endRun e p).get f = s.get f := (chargeNs_get hns).trans (engIdle_get hstate htray)

/-- The counters of the channels' encoders lie above the registers of every engine. -/
theorem endRun_count (he : e < 128) {ch i : Nat} : (s.endRun e p).get (R.ENC_CNT_COUNT ch i) = s.get (R.ENC_CNT_COUNT ch i) := by
  refine endRun_get (.inl ?_) (.inl ?_) (.inl ?_)
  all_goals
    simp only [R.ENC_CNT_COUNT, R.ENG_STATUS_STATE, R.TRAY_STATUS_BUSY, R.CONS_ENG_NS]
    omega

theorem proofBreak_none {code : Nat} (h : s.proofs.find? (fun q => decide (q.runner = some e)) = none) : s.proofBreak e code = s := by
  rw [State.proofBreak, h]

section
variable (hp : s.proofs.find? (fun q => decide (q.runner = some e)) = some p)
include hp

theorem proofBreak_eq {code : Nat} : s.proofBreak e code = { (s.engError e code).endRun e p with
    proofs := ((s.engError e code).endRun e p).proofs.map (fun (q : Proof) => if q.same p then { q with runner := none } else q) } := by
  simp only [State.proofBreak, hp, State.endRun]

/-- A proof that breaks off waits for another engine, with the cause noted (R290, R343). -/
theorem proofBreak_waits (he : e < 128) {code : Nat} (hc : code < 256) :
    { p with runner := none } ∈ (s.proofBreak e code).proofs ∧ (s.proofBreak e code).get (R.ENG_LAST_ERR_CODE e) = code := by
  obtain ⟨-, -, -, htray, hstate, -, -, hns⟩ := engine_apart_tray he (e / 8)
  have hlist : ((s.engError e code).endRun e p).proofs = s.proofs := (endRun_lists ..).1.trans (by simp [State.engError, State.setFlag])
  rw [proofBreak_eq hp, hlist]
  refine ⟨mem_map_same (g := fun q => { q with runner := none }) (List.mem_of_find?_eq_some hp), ?_⟩
  calc _ = ((s.engError e code).endRun e p).get (R.ENG_LAST_ERR_CODE e) := get_withProofs ..
    _ = (s.engError e code).get (R.ENG_LAST_ERR_CODE e) := endRun_get hstate htray hns
    _ = code := engError_code hc

/-- A first proof that gives the coder's CRC is over, and counted. -/
theorem proofEnd_proved (he : e < 128) (hf : p.first = none) : (∀ q ∈ (s.proofEnd e p.crc).proofs, q.same p = false) ∧
    (s.proofEnd e p.crc).get (R.ENC_CNT_COUNT p.ch 0) = (s.get (R.ENC_CNT_COUNT p.ch 0) + 1) % 2 ^ 64 := by
  have hs : s.proofEnd e p.crc = ((s.endRun e p).dropRecord p).inc (R.ENC_CNT_COUNT p.ch 0) := by
    simp only [State.proofEnd, hp, hf, if_true, State.endRun]
  rw [hs, inc_proofs, get_inc_same (show 0 + 64 ≤ 64 by decide), dropRecord_count (by decide), endRun_count he]
  exact ⟨(dropRecord_lists ..).1, rfl⟩

/-- A first proof that gives another CRC waits, with what it gave, for a second engine, and is counted. -/
theorem proofEnd_mismatched {crc : Word} (he : e < 128) (hf : p.first = none) (hc : crc ≠ p.crc) :
    { p with runner := none, first := some (e, crc) } ∈ (s.proofEnd e crc).proofs ∧
      (s.proofEnd e crc).get (R.ENC_CNT_COUNT p.ch 2) = (s.get (R.ENC_CNT_COUNT p.ch 2) + 1) % 2 ^ 64 := by
  have hs : s.proofEnd e crc = { s.endRun e p with proofs := s.proofs.map (fun (q : Proof) => if q.same p then
      { q with runner := none, first := some (e, crc) } else q) }.inc (R.ENC_CNT_COUNT p.ch 2) := by
    rw [← (endRun_lists s e p).1]
    simp only [State.proofEnd, hp, hf, if_neg hc, State.endRun]
  rw [hs, inc_proofs, get_inc_same (show 0 + 64 ≤ 64 by decide), get_withProofs, endRun_count he]
  exact ⟨mem_map_same (g := fun q => { q with runner := none, first := some (e, crc) }) (List.mem_of_find?_eq_some hp), rfl⟩

/-- A second proof. -/
theorem proofEnd_second {crc c1 : Word} {e1 : Nat} (hf : p.first = some (e1, c1)) : s.proofEnd e crc =
    if crc = p.crc then ((s.endRun e p).dropRecord p).blameEngine e1
    else if crc = c1 then ((s.endRun e p).dropRecord p).blameEngine p.coder
    else (((s.endRun e p).dropRecord p).blameEngine e1).blameEngine p.coder := by
  simp only [State.proofEnd, hp, hf, State.endRun]

end

/-! ### An engine that errs (R290, R324) -/

/-- What ends on an engine that errs: its task, or else its proof. -/
def State.errOn (s : State) (e code : Nat) : State :=
  if tget (fun _ => 0) s.busy e = 0 then s.proofBreak e code else (s.engError e code).breakTask e 4

theorem errOn_none {code : Nat} (hb : tget (fun _ => 0) s.busy e = 0) (hp : s.proofs.find? (fun q => decide (q.runner = some e)) = none) :
    s.errOn e code = s := (if_pos hb).trans (proofBreak_none hp)

theorem errOn_proof {code : Nat} (he : e < 128) (hc : code < 256) (hb : tget (fun _ => 0) s.busy e = 0)
    (hp : s.proofs.find? (fun q => decide (q.runner = some e)) = some p) :
    { p with runner := none } ∈ (s.errOn e code).proofs ∧ (s.errOn e code).get (R.ENG_LAST_ERR_CODE e) = code := by
  rw [State.errOn, if_pos hb]
  exact proofBreak_waits hp he hc

/-- A task ends with its cause noted, and the engine is busy with none. -/
theorem errOn_task {code : Nat} (hc : code < 256) (hb : tget (fun _ => 0) s.busy e ≠ 0) (hu : (s.task (tget (fun _ => 0) s.busy e - 1)).unit = e) :
    ∃ u : State, s.errOn e code = u.breakTask e 4 ∧ u.get (R.ENG_LAST_ERR_CODE e) = code ∧ u.flag (R.ENG_LAST_ERR_VALID e) = true ∧
      tget (fun _ => 0) (u.breakTask e 4).busy e = 0 := by
  have hbusy : (s.engError e code).busy = s.busy := (setFlag_busy ..).trans (set_busy ..)
  have htask (i : Nat) : (s.engError e code).task i = s.task i := by simp [State.task, State.engError]
  refine ⟨_, if_neg hb, engError_code hc, engError_valid, breakTask_unit ?_⟩
  rw [hbusy, htask]
  exact hu

/-- An engine without a task or a proof has no worst-case time. -/
theorem worstNs_none (hb : tget (fun _ => 0) s.busy e = 0) (hp : s.proofs.find? (fun q => decide (q.runner = some e)) = none) : s.worstNs e = none := by
  unfold State.worstNs
  rw [if_pos hb, hp]
  rfl

/-! ### Commands -/

theorem named_iff {sus : Nat} : s.named sus = true ↔ ∃ r ∈ s.unacked, r.suspect = sus := by simp [State.named]

theorem up_of_live (hl : s.live = true) : s.up = true ∧ s.halted = false := by
  simp only [State.live, Bool.and_eq_true, Bool.not_eq_true'] at hl
  exact hl.1

theorem exec_engineSramEcc {e : Eng} {now : Nat} (hl : s.live = true) :
    exec (.engineSramEcc e now) s = .next (((s.advance now).errOn e 5).report (134 + 2 * e) (suspect kEngine e)) := by
  rw [exec, execEngineSramEcc, whenLive_of_live hl]
  rfl

theorem exec_engineTimeout_idle {e : Eng} {now : Nat} (hl : s.live = true) (hw : s.worstNs e = none) :
    exec (.engineTimeout e now) s = .next (s.advance now) := by
  have hw' : (s.advance now).worstNs e = none := hw
  rw [exec, execEngineTimeout, whenLive_of_live hl]
  simp only [hw']

theorem exec_engineTimeout {e : Eng} {now a n : Nat} (hl : s.live = true) (hw : s.worstNs e = some (a, n)) :
    exec (.engineTimeout e now) s = .next (if max s.raw now ≤ a + 4 * n then s.advance now
      else ((s.advance now).errOn e 6).report (134 + 2 * e) (suspect kEngine e)) := by
  have hw' : (s.advance now).worstNs e = some (a, n) := hw
  rw [exec, execEngineTimeout, whenLive_of_live hl]
  simp only [hw']
  rfl

theorem exec_engineIsolate {e : Eng} (hl : s.live = true) : exec (.engineIsolate e) s = .next ((s.isolateEngine e).postFault (suspect kEngine e)) := by
  obtain ⟨hu, hh⟩ := up_of_live hl
  rw [exec, execEngineIsolate, whenWr_of_up hu hh]

theorem exec_engineRestore {e : Eng} (hl : s.live = true) :
    exec (.engineRestore e) s = .next (if s.named (suspect kEngine e) then s else s.restoreEngine e) := by
  obtain ⟨hu, hh⟩ := up_of_live hl
  rw [exec, execEngineRestore, whenWr_of_up hu hh]

/-- PROOF_END of a proof whose references all were in the tray's cache or read before. -/
theorem exec_proofEnd {e : Eng} {crc : Word} {now : Nat} (hl : s.live = true)
    (hp : s.proofs.find? (fun q => decide (q.runner = some e.val)) = some p) :
    exec (.proofEnd e crc [] now) s = .next ((s.advance now).proofEnd e crc) := by
  have hany : (s.advance now).proofs.any (fun q => decide (q.runner = some e.val)) = true :=
    List.any_eq_true.2 ⟨p, List.mem_of_find?_eq_some hp, by simpa using List.find?_some hp⟩
  rw [exec, execProofEnd, whenLive_of_live hl]
  exact congrArg _ (if_pos hany)

theorem exec_proofAgeExpiry {now : Nat} (hl : s.live = true) (hp : s.proofs.find? (fun q => q.runner.isNone &&
      decide ((q.emitted : Int) * 2 ^ 32 + s.getIn (R.CTX_QUALITY_PROOF_AGE q.ch) q.snap * s.period q.ch ≤ (max s.raw now : Nat) * 2 ^ 32)) = some p) :
    exec (.proofAgeExpiry now) s = .next (if p.first.isSome then ((s.advance now).dropRecord p).blameEngine p.coder
      else ((s.advance now).dropRecord p).inc (R.ENC_CNT_COUNT p.ch 1)) := by
  have hp' : (s.advance now).proofs.find? (fun q => q.runner.isNone && decide ((q.emitted : Int) * 2 ^ 32 +
      (s.advance now).getIn (R.CTX_QUALITY_PROOF_AGE q.ch) q.snap * (s.advance now).period q.ch ≤ (s.advance now).raw * 2 ^ 32)) = some p := hp
  rw [exec, execProofAgeExpiry, whenLive_of_live hl, State.proofAge, hp']

/-! ### The statement -/

/-- Settles O44: the end of a task makes no engine busy, and each register that the statement reads is the last that its command writes, or lies apart from
what is written after it. -/
theorem enginesAndProofs : Obligations.EnginesAndProofs := by
  unfold Obligations.EnginesAndProofs
  refine ⟨fun e now s hl => ?_, fun e crc p now s hl hp _ _ => ⟨fun hf hc => ?_, fun hf hc => ?_, fun e1 c1 hf => ?_⟩, fun e s => ?_,
    fun p now s hl _ _ hp => ?_⟩
  · intro b
    refine ⟨fun hb hp => ⟨?_, ?_⟩, fun p hb hp => ?_, fun p a n hb hp hw hlate => ?_, fun hb hu => ⟨?_, fun a n hw hin => ?_, fun a n hw hlate => ?_⟩,
      fun _ => ?_, fun h5 => ⟨fun hn => ?_, fun hn => ?_⟩⟩
    · rw [exec_engineSramEcc hl, errOn_none (s := s.advance now) hb hp]
    · exact exec_engineTimeout_idle hl (worstNs_none hb hp)
    · obtain ⟨hwaits, hcode⟩ := errOn_proof (s := s.advance now) (code := 5) e.isLt (by decide) hb hp
      exact ⟨_, hwaits, hcode, exec_engineSramEcc hl⟩
    · obtain ⟨hwaits, hcode⟩ := errOn_proof (s := s.advance now) (code := 6) e.isLt (by decide) hb hp
      exact ⟨_, hwaits, hcode, by rw [exec_engineTimeout hl hw, if_neg (Nat.not_le.2 hlate)]⟩
    · obtain ⟨u, hu, hcode, hvalid, hbusy⟩ := errOn_task (s := s.advance now) (code := 5) (by decide) hb hu
      exact ⟨u, by rw [exec_engineSramEcc hl, hu], hcode, hvalid, hbusy⟩
    · rw [exec_engineTimeout hl hw, if_pos hin]
    · obtain ⟨u, hu, hcode, hvalid, hbusy⟩ := errOn_task (s := s.advance now) (code := 6) (by decide) hb hu
      exact ⟨u, by rw [exec_engineTimeout hl hw, if_neg (Nat.not_le.2 hlate), hu], hcode, hvalid, hbusy⟩
    · obtain ⟨hstate, htray⟩ := isolateEngine_isolated (s := s) e.isLt
      exact ⟨_, exec_engineIsolate hl, postFault_get.trans hstate, by rwa [postFault_get]⟩
    · obtain ⟨hstate, htray⟩ := restoreEngine_idle e.isLt h5
      have hnamed : ¬s.named (suspect kEngine e) = true := fun h => by
        obtain ⟨r, hr, hsus⟩ := named_iff.1 h
        exact hn r hr hsus
      exact ⟨_, (exec_engineRestore hl).trans (congrArg _ (if_neg hnamed)), hstate, htray⟩
    · exact (exec_engineRestore hl).trans (congrArg _ (if_pos (named_iff.2 hn)))
  · subst hc
    obtain ⟨hgone, hcount⟩ := proofEnd_proved (s := s.advance now) hp e.isLt hf
    exact ⟨_, exec_proofEnd hl hp, hgone, hcount⟩
  · obtain ⟨hkept, hcount⟩ := proofEnd_mismatched (s := s.advance now) hp e.isLt hf hc
    exact ⟨_, exec_proofEnd hl hp, hkept, hcount⟩
  · obtain ⟨hgone, hunits⟩ := dropRecord_lists ((s.advance now).endRun e p) p
    exact ⟨_, hgone, hunits.trans (endRun_lists ..).2, (exec_proofEnd hl hp).trans (congrArg _ (proofEnd_second (s := s.advance now) hp hf))⟩
  · exact ⟨_, rfl, get_inc_same (show 0 + 64 ≤ 64 by decide), inc_proofs ..⟩
  · exact ⟨_, (dropRecord_lists ..).1, dropRecord_count (s := s.advance now) (by decide), exec_proofAgeExpiry hl hp⟩

end Sys2Proof.Machine
end

section
/-! The output frames of a decode channel, the close of an access unit by timeout, and the host's release of an output buffer (09_decode.md R394, R400, R401,
R405, R409). -/

namespace Sys2Proof.Machine

variable {s t u : State} {ch : Nat} {p : Pic} {f : Field}

/-! ### What is kept of a decode channel, and its counters -/

@[simp] theorem decOf_setDec (s : State) (ch : Nat) (d : DecSt) : (s.setDec ch d).decOf ch = d := tget_tset_same ..

@[simp] theorem decOf_set (s : State) (f : Field) (x ch : Nat) : (s.set f x).decOf ch = s.decOf ch := (rfl)

@[simp] theorem decOf_add (s : State) (f : Field) (n ch : Nat) : (s.add f n).decOf ch = s.decOf ch := (rfl)

@[simp] theorem decOf_inc (s : State) (f : Field) (ch : Nat) : (s.inc f).decOf ch = s.decOf ch := (rfl)

@[simp] theorem get_setDec (s : State) (ch : Nat) (d : DecSt) (f : Field) : (s.setDec ch d).get f = s.get f := (rfl)

/-- A counter of a decode channel after another, or itself, has counted. -/
@[simp] theorem get_add_decCount (s : State) (ch i j n : Nat) : (s.add (R.DEC_CNT_COUNT ch i) n).get (R.DEC_CNT_COUNT ch j) =
    if j = i then (s.get (R.DEC_CNT_COUNT ch j) + n) % 2 ^ 64 else s.get (R.DEC_CNT_COUNT ch j) := by
  split
  · next h => exact h ▸ get_set_same s _ _ (show 0 + 64 ≤ 64 by decide)
  · next h => exact get_set_other _ _ _ _ (by simp only [R.DEC_CNT_COUNT]; omega)

@[simp] theorem get_inc_decCount (s : State) (ch i j : Nat) : (s.inc (R.DEC_CNT_COUNT ch i)).get (R.DEC_CNT_COUNT ch j) =
    if j = i then (s.get (R.DEC_CNT_COUNT ch j) + 1) % 2 ^ 64 else s.get (R.DEC_CNT_COUNT ch j) := get_add_decCount ..

/-! ### Output buffers (R405) -/

/-- A change of an output buffer, and the drop of those that nothing holds, leave the pictures and the frame. -/
@[simp] theorem updBuf_pics (d : DecSt) (ix : Nat) (g : OutBuf → OutBuf) : (d.updBuf ix g).pics = d.pics := (rfl)
@[simp] theorem updBuf_shown (d : DecSt) (ix : Nat) (g : OutBuf → OutBuf) : (d.updBuf ix g).shown = d.shown := (rfl)
@[simp] theorem updBuf_outN (d : DecSt) (ix : Nat) (g : OutBuf → OutBuf) : (d.updBuf ix g).outN = d.outN := (rfl)

/-- The buffers after a change of one: those that something still holds. -/
theorem mem_updBuf {d : DecSt} {ix : Nat} {g : OutBuf → OutBuf} {b : OutBuf} : b ∈ (d.updBuf ix g).bufs ↔
    (∃ o ∈ d.bufs, (if o.ix = ix then g o else o) = b) ∧
      (b.ref = true ∨ b.done = false ∨ b.host = true ∨ b.trans = true ∨ d.shown.map (·.buf) = some b.ix) := by
  simp [DecSt.updBuf, DecSt.sweep, or_assoc]

/-- What DEC_HOST_ACK makes of the buffer that it names. -/
def OutBuf.acked (b : OutBuf) : OutBuf := { b with host := false }

theorem hostAck_decOf (s : State) (ch ix : Nat) : (s.hostAck ch ix).decOf ch = (s.decOf ch).updBuf ix OutBuf.acked := decOf_setDec ..

/-- A buffer that the host held, with another number, stays as it is. -/
theorem mem_acked_other {d : DecSt} {ix : Nat} {b : OutBuf} (hb : b ∈ d.bufs) (hix : b.ix ≠ ix) (hh : b.host = true) :
    b ∈ (d.updBuf ix OutBuf.acked).bufs := mem_updBuf.2 ⟨⟨b, hb, if_neg hix⟩, .inr (.inr (.inl hh))⟩

/-- A buffer with the number that was named is one there was, not held by the host, and something else holds it. -/
theorem mem_acked_same {d : DecSt} {ix : Nat} {b : OutBuf} (hb : b ∈ (d.updBuf ix OutBuf.acked).bufs) (hix : b.ix = ix) :
    ∃ o ∈ d.bufs, o.ix = ix ∧ b = o.acked ∧ (o.ref = true ∨ o.done = false ∨ o.trans = true ∨ d.shown.map (·.buf) = some ix) := by
  obtain ⟨⟨o, ho, he⟩, hheld⟩ := mem_updBuf.1 hb
  have hox : o.ix = ix := by
    by_contra h
    rw [if_neg h] at he
    exact h (he ▸ hix)
  rw [if_pos hox] at he
  subst he
  exact ⟨o, ho, hox, rfl, by simpa [OutBuf.acked, hox] using hheld⟩

/-! ### The paths that receive an output frame (R406, R407, R409) -/

/-- Channel `ch` has the same pictures, picture shown last, next output frame and counters in both states. -/
structure SameFrames (ch : Nat) (s t : State) : Prop where
  pics : (t.decOf ch).pics = (s.decOf ch).pics
  shown : (t.decOf ch).shown = (s.decOf ch).shown
  outN : (t.decOf ch).outN = (s.decOf ch).outN
  count : ∀ i < 14, t.get (R.DEC_CNT_COUNT ch i) = s.get (R.DEC_CNT_COUNT ch i)

namespace SameFrames

theorem of_eq (hd : t.decs = s.decs) (hr : t.regs = s.regs) : SameFrames ch s t :=
  have hdec : t.decOf ch = s.decOf ch := congrArg (tget _ · ch) hd
  ⟨congrArg _ hdec, congrArg _ hdec, congrArg _ hdec, fun _ _ => congrArg (fun r => bitsOf (tget resetOf r _) _ _) hr⟩

theorem refl : SameFrames ch s s := of_eq rfl rfl

theorem trans (h : SameFrames ch s t) (h' : SameFrames ch t u) : SameFrames ch s u :=
  ⟨h'.pics.trans h.pics, h'.shown.trans h.shown, h'.outN.trans h.outN, fun i hi => (h'.count i hi).trans (h.count i hi)⟩

/-- The host's records lie above the channel's counters. -/
theorem set_hostRec {j l x : Nat} : SameFrames ch s (s.set (R.DEC_HOST_REC_WORD ch j l) x) :=
  ⟨by simp, by simp, by simp, fun i hi => get_set_other _ _ _ _ (by simp only [R.DEC_CNT_COUNT, R.DEC_HOST_REC_WORD]; omega)⟩

theorem updBuf {ix : Nat} {g : OutBuf → OutBuf} : SameFrames ch s (s.setDec ch ((s.decOf ch).updBuf ix g)) :=
  ⟨by simp, by simp, by simp, fun _ _ => rfl⟩

end SameFrames

theorem decOutput_sameFrames {n : Nat} {pic : Option Pic} {rep : Bool} : SameFrames ch s (s.decOutput ch n pic rep) := by
  unfold State.decOutput
  extract_lets flow tx egress flags word host
  have hegress : SameFrames ch s egress := by
    unfold egress
    split
    · exact .of_eq rfl rfl
    · exact .refl
  have hhost : SameFrames ch egress host := by
    unfold host
    split
    · exact SameFrames.set_hostRec.trans .set_hostRec
    · exact .refl
  refine (hegress.trans hhost).trans ?_
  split
  · split
    · exact .trans (t := host.setChan _ _) (.of_eq rfl rfl) .updBuf
    · exact .refl
  · exact .refl

/-! ### The picture of an output frame (R400) -/

/-- The picture of latest T_pres of a list. -/
def latest (l : List Pic) : Option Pic := l.foldl (fun b p => match b with
  | some x => if x.pres < p.pres then some p else b
  | none => some p) none

theorem latest_eq_argmax (l : List Pic) : latest l = l.argmax (·.pres) := by
  unfold latest List.argmax
  congr
  funext b p
  cases b <;> rfl

/-- T_frame of the next output frame, in 2^-32 ns. -/
def State.frameTime (s : State) (ch : Nat) : Int := s.tFrame ch (s.decOf ch).outN

/-- The decoded pictures that are due at the next output frame. -/
def State.duePics (s : State) (ch : Nat) : List Pic :=
  (s.decOf ch).pics.filter (fun p => decide (p.pres + ns (s.delayNs ch) ≤ s.frameTime ch))

theorem mem_duePics : p ∈ s.duePics ch ↔ p ∈ (s.decOf ch).pics ∧ p.pres + ns (s.delayNs ch) ≤ s.frameTime ch := by simp [State.duePics]

/-- The due pictures other than `p`. -/
theorem dropped_eq (s : State) (ch : Nat) (p : Pic) : (s.duePics ch).filter (fun x => decide (x ≠ p)) =
    (s.decOf ch).pics.filter (fun x => decide (x.pres + ns (s.delayNs ch) ≤ s.frameTime ch) && decide (x ≠ p)) := by
  rw [State.duePics, List.filter_filter]
  simp only [Bool.and_comm]

/-- The latest of the due pictures that are ready. -/
def State.latestReady (s : State) (ch : Nat) : Option Pic := latest ((s.duePics ch).filter (s.picReady (s.frameTime ch)))

/-- Whether a due picture that is not ready is later than each that is. -/
def State.awaited (s : State) (ch : Nat) : Bool :=
  (((s.duePics ch).filter (fun p => !s.picReady (s.frameTime ch) p)).map (·.pres)).any (fun w =>
    decide (w + ns (s.delayNs ch) ≤ s.frameTime ch) && (s.latestReady ch).elim true (fun p => decide (p.pres < w)))

/-- A frame shows `p`: the due pictures leave, and those but `p` count as dropped. -/
def State.showFrame (s : State) (ch : Nat) (p : Pic) : State :=
  let dropped := (s.duePics ch).filter (fun x => decide (x ≠ p))
  let d := { s.decOf ch with outN := (s.decOf ch).outN + 1, shown := some p, pics := (s.decOf ch).pics.filter (fun x => !(s.duePics ch).contains x) }
  let d := dropped.foldl (fun d x => d.updBuf x.buf (fun b => { b with done := true })) d
  let d := d.updBuf p.buf (fun b => { b with done := true, host := (s.inc (R.DEC_CNT_COUNT ch 10)).flag (R.DEC_OUT_CTRL_TO_HOST ch) })
  (((s.inc (R.DEC_CNT_COUNT ch 10)).setDec ch d).inc (R.DEC_CNT_COUNT ch 11)).add (R.DEC_CNT_COUNT ch 9) dropped.length

/-- A frame repeats what was shown last, or is grey. -/
def State.repeatFrame (s : State) (ch : Nat) : State :=
  ((s.inc (R.DEC_CNT_COUNT ch 10)).setDec ch { s.decOf ch with outN := (s.decOf ch).outN + 1 }).inc
    (R.DEC_CNT_COUNT ch (if (s.decOf ch).shown.isSome then 12 else 13))

theorem sweepLost_nil (h : (s.decOf ch).aus = []) : s.sweepLost ch = s := by rw [State.sweepLost, h]; rfl

/-- Output frame n while the ring is empty. -/
theorem outputFrame_eq (h : (s.decOf ch).aus = []) : s.outputFrame ch = (if s.awaited ch then none else s.latestReady ch).elim
    ((s.repeatFrame ch).decOutput ch (s.decOf ch).outN (s.decOf ch).shown true)
    (fun p => (s.showFrame ch p).decOutput ch (s.decOf ch).outN (some p) false) := by
  unfold State.outputFrame
  rw [sweepLost_nil h]
  extract_lets s0 d n t dly q waiting best late
  have hbest : best = s.latestReady ch := rfl
  have hwaiting : waiting = (q.filter (fun p => !s0.picReady t p)).map (·.pres) := by
    simp only [waiting, d, s0, h, List.filter_nil, List.map_nil, List.nil_append]
  have hlate : late = s.awaited ch := congrArg (List.any · _) hwaiting
  rw [hlate, hbest]
  generalize (if s.awaited ch then none else s.latestReady ch) = o
  cases o with
  | none => rw [Option.elim_none]; rfl
  | some p => rw [Option.elim_some]; rfl

/-- `p` is due at the next output frame, and every other due picture has an earlier T_pres. -/
def State.LastDue (s : State) (ch : Nat) (p : Pic) : Prop := p ∈ s.duePics ch ∧ ∀ x ∈ s.duePics ch, x ≠ p → x.pres < p.pres

theorem latest_eq {l : List Pic} (hp : p ∈ l) (hlast : ∀ x ∈ l, x ≠ p → x.pres < p.pres) : latest l = some p := by
  rw [latest_eq_argmax]
  obtain ⟨m, hm⟩ : ∃ m, l.argmax (·.pres) = some m := Option.ne_none_iff_exists'.1 fun h => List.ne_nil_of_mem hp (List.argmax_eq_none.1 h)
  have hmp : m = p := by
    by_contra e
    exact absurd (hlast m (List.argmax_mem hm) e) (not_lt.2 (List.le_of_mem_argmax hp hm))
  rw [hm, hmp]

theorem latestReady_mem (h : s.latestReady ch = some p) : p ∈ s.duePics ch ∧ s.picReady (s.frameTime ch) p = true :=
  List.mem_filter.1 (List.argmax_mem ((latest_eq_argmax _).symm.trans h))

theorem latestReady_eq (h : s.LastDue ch p) (hr : s.picReady (s.frameTime ch) p = true) : s.latestReady ch = some p :=
  latest_eq (List.mem_filter.2 ⟨h.1, hr⟩) fun x hx => h.2 x (List.mem_filter.1 hx).1

theorem awaited_iff : s.awaited ch = true ↔
    ∃ x ∈ s.duePics ch, s.picReady (s.frameTime ch) x = false ∧ ∀ p, s.latestReady ch = some p → p.pres < x.pres := by
  have hlater (x : Pic) : (s.latestReady ch).elim true (fun p => decide (p.pres < x.pres)) = true ↔ ∀ p, s.latestReady ch = some p → p.pres < x.pres := by
    cases s.latestReady ch <;> simp
  simp only [State.awaited, List.any_map, List.any_filter, List.any_eq_true, Function.comp, Bool.and_eq_true, Bool.not_eq_true', decide_eq_true_eq, hlater]
  exact exists_congr fun x => and_congr_right fun hx => and_congr_right fun _ => and_iff_right (mem_duePics.1 hx).2

/-- The latest due picture is shown if it is ready. -/
theorem outputFrame_of_ready (ha : (s.decOf ch).aus = []) (h : s.LastDue ch p) (hr : s.picReady (s.frameTime ch) p = true) :
    s.outputFrame ch = (s.showFrame ch p).decOutput ch (s.decOf ch).outN (some p) false := by
  have hnot : ¬s.awaited ch = true := fun hw => by
    obtain ⟨x, hx, hxr, hlater⟩ := awaited_iff.1 hw
    have hxp : x ≠ p := fun e => by simp [e, hr] at hxr
    exact absurd (hlater p (latestReady_eq h hr)) (not_lt.2 (h.2 x hx hxp).le)
  rw [outputFrame_eq ha, if_neg hnot, latestReady_eq h hr, Option.elim_some]

/-- If none is due, or the latest due picture is not ready, the frame repeats. -/
theorem outputFrame_of_awaited (ha : (s.decOf ch).aus = []) (h : s.duePics ch = [] ∨ ∃ p, s.LastDue ch p ∧ s.picReady (s.frameTime ch) p = false) :
    s.outputFrame ch = (s.repeatFrame ch).decOutput ch (s.decOf ch).outN (s.decOf ch).shown true := by
  have hnone : (if s.awaited ch then none else s.latestReady ch) = none := by
    rcases h with hnil | ⟨p, hlast, hr⟩
    · have hbest : s.latestReady ch = none := by rw [State.latestReady, hnil]; rfl
      rw [hbest, ite_self]
    · refine if_pos (awaited_iff.2 ⟨p, hlast.1, hr, fun q hq => ?_⟩)
      obtain ⟨hdue, hready⟩ := latestReady_mem hq
      exact hlast.2 q hdue fun e => by simp [← e, hready] at hr
  rw [outputFrame_eq ha, hnone, Option.elim_none]

/-! ### What a frame leaves -/

theorem foldl_updBuf_frames (l : List Pic) (g : OutBuf → OutBuf) (d : DecSt) : let e := l.foldl (fun d x => d.updBuf x.buf g) d
    e.pics = d.pics ∧ e.shown = d.shown ∧ e.outN = d.outN :=
  List.foldlRecOn (motive := fun e : DecSt => e.pics = d.pics ∧ e.shown = d.shown ∧ e.outN = d.outN) l _ ⟨rfl, rfl, rfl⟩ fun _ h _ _ => h

theorem showFrame_decOf (s : State) (ch : Nat) (p : Pic) : let d := (s.showFrame ch p).decOf ch
    d.pics = (s.decOf ch).pics.filter (fun x => !(s.duePics ch).contains x) ∧ d.shown = some p ∧ d.outN = (s.decOf ch).outN + 1 := by
  simp only [State.showFrame, decOf_add, decOf_inc, decOf_setDec, updBuf_pics, updBuf_shown, updBuf_outN]
  exact foldl_updBuf_frames ..

theorem showFrame_counts (s : State) (ch : Nat) (p : Pic) : let t := s.showFrame ch p
    t.get (R.DEC_CNT_COUNT ch 10) = (s.get (R.DEC_CNT_COUNT ch 10) + 1) % 2 ^ 64 ∧
    t.get (R.DEC_CNT_COUNT ch 11) = (s.get (R.DEC_CNT_COUNT ch 11) + 1) % 2 ^ 64 ∧
    t.get (R.DEC_CNT_COUNT ch 9) = (s.get (R.DEC_CNT_COUNT ch 9) + ((s.duePics ch).filter (fun x => decide (x ≠ p))).length) % 2 ^ 64 := by
  simp [State.showFrame]

theorem repeatFrame_decOf (s : State) (ch : Nat) : (s.repeatFrame ch).decOf ch = { s.decOf ch with outN := (s.decOf ch).outN + 1 } := by
  simp [State.repeatFrame]

theorem repeatFrame_counts (s : State) (ch : Nat) : let t := s.repeatFrame ch
    let i := if (s.decOf ch).shown.isSome then 12 else 13
    t.get (R.DEC_CNT_COUNT ch 10) = (s.get (R.DEC_CNT_COUNT ch 10) + 1) % 2 ^ 64 ∧
    t.get (R.DEC_CNT_COUNT ch i) = (s.get (R.DEC_CNT_COUNT ch i) + 1) % 2 ^ 64 := by
  cases h : (s.decOf ch).shown.isSome <;> simp [State.repeatFrame, h]

/-- A frame that shows `p`: the due pictures leave, and are counted. -/
theorem outputFrame_shows (ha : (s.decOf ch).aus = []) (h : s.LastDue ch p) (hr : s.picReady (s.frameTime ch) p = true) : let t := s.outputFrame ch
    (t.decOf ch).shown = some p ∧ (t.decOf ch).outN = (s.decOf ch).outN + 1 ∧
    (∀ x, x ∈ (t.decOf ch).pics ↔ x ∈ (s.decOf ch).pics ∧ x ∉ s.duePics ch) ∧
    t.get (R.DEC_CNT_COUNT ch 10) = (s.get (R.DEC_CNT_COUNT ch 10) + 1) % 2 ^ 64 ∧
    t.get (R.DEC_CNT_COUNT ch 11) = (s.get (R.DEC_CNT_COUNT ch 11) + 1) % 2 ^ 64 ∧
    t.get (R.DEC_CNT_COUNT ch 9) = (s.get (R.DEC_CNT_COUNT ch 9) + ((s.duePics ch).filter (fun x => decide (x ≠ p))).length) % 2 ^ 64 := by
  obtain ⟨hpics, hshown, hout⟩ := showFrame_decOf s ch p
  obtain ⟨h10, h11, h9⟩ := showFrame_counts s ch p
  rw [outputFrame_of_ready ha h hr]
  refine ⟨decOutput_sameFrames.shown.trans hshown, decOutput_sameFrames.outN.trans hout, fun x => ?_, (decOutput_sameFrames.count 10 (by decide)).trans h10,
    (decOutput_sameFrames.count 11 (by decide)).trans h11, (decOutput_sameFrames.count 9 (by decide)).trans h9⟩
  rw [decOutput_sameFrames.pics, hpics]
  simp

/-- A frame that repeats, or is grey: the pictures stay. -/
theorem outputFrame_repeats (ha : (s.decOf ch).aus = []) (h : s.duePics ch = [] ∨ ∃ p, s.LastDue ch p ∧ s.picReady (s.frameTime ch) p = false) :
    let t := s.outputFrame ch
    let i := if (s.decOf ch).shown.isSome then 12 else 13
    (t.decOf ch).shown = (s.decOf ch).shown ∧ (t.decOf ch).outN = (s.decOf ch).outN + 1 ∧ (t.decOf ch).pics = (s.decOf ch).pics ∧
    t.get (R.DEC_CNT_COUNT ch 10) = (s.get (R.DEC_CNT_COUNT ch 10) + 1) % 2 ^ 64 ∧
    t.get (R.DEC_CNT_COUNT ch i) = (s.get (R.DEC_CNT_COUNT ch i) + 1) % 2 ^ 64 := by
  intro t i
  obtain ⟨h10, hi⟩ := repeatFrame_counts s ch
  have hd := repeatFrame_decOf s ch
  have hlt : i < 14 := by unfold i; split <;> decide
  have ht : t = (s.repeatFrame ch).decOutput ch (s.decOf ch).outN (s.decOf ch).shown true := outputFrame_of_awaited ha h
  rw [ht]
  exact ⟨decOutput_sameFrames.shown.trans (by rw [hd]), decOutput_sameFrames.outN.trans (by rw [hd]), decOutput_sameFrames.pics.trans (by rw [hd]),
    (decOutput_sameFrames.count 10 (by decide)).trans h10, (decOutput_sameFrames.count i hlt).trans hi⟩

/-! ### Commands -/

section
variable {c : Chan} {now : Nat} (hl : s.live = true) (hr : s.running c = true) (he : s.flag (R.DEC_CFG_ENABLE c) = true)
include hl

theorem exec_decodeOutputFrame_early (ht : (s.advance now).reached (s.frameTime c) = false) :
    exec (.decodeOutputFrame c now) s = .next (s.advance now) := by
  rw [exec, execDecodeOutputFrame, whenLive_of_live hl]
  exact congrArg _ (if_neg fun h => Bool.false_ne_true (ht.symm.trans h.2.2))

include hr he

theorem exec_decodeOutputFrame (ht : (s.advance now).reached (s.frameTime c) = true) :
    exec (.decodeOutputFrame c now) s = .next ((s.advance now).outputFrame c) := by
  rw [exec, execDecodeOutputFrame, whenLive_of_live hl]
  exact congrArg _ (if_pos ⟨hr, he, ht⟩)

end

/-- The open access unit of a running channel closes. -/
theorem closeAu_open {a : Au} {timeout : Bool} (hr : s.running ch = true) (ha : (s.decOf ch).aus.getLast? = some a) (ho : a.closed = none) :
    s.closeAu ch timeout = s.setDec ch { s.decOf ch with
      aus := (s.decOf ch).aus.dropLast ++ [{ a with closed := some s.now, timeout := timeout }] } := by
  have hk : s.keepsAus ch = true := by simp [State.keepsAus, hr]
  simp [State.closeAu, ha, ho, hk]

theorem exec_auTimeout {c : Chan} {a : Au} {now : Nat} (hl : s.live = true) (ha : (s.decOf c).aus.getLast? = some a) (ho : a.closed = none)
    (ht : a.lastPkt + 1000 * s.get (R.DEC_AU_TIMEOUT_US c) ≤ max s.raw now) :
    exec (.auTimeout c now) s = .next (((s.advance now).closeAu c true).inc (R.DEC_CNT_COUNT c 5)) := by
  have ha' : ((s.advance now).decOf c).aus.getLast? = some a := ha
  rw [exec, execAuTimeout, whenLive_of_live hl]
  simp only [ha']
  exact congrArg _ (if_pos ⟨by rw [ho]; rfl, ht⟩)

theorem exec_decHostAck {c : Chan} {ix : BitVec 6} (hu : s.up = true) (hh : s.halted = false) :
    exec (.decHostAck c ix) s = .next (s.hostAck c ix.toNat) := by
  rw [exec, execDecHostAck, whenWr_of_up hu hh]

/-! ### The statement -/

/-- Settles O45: the latest due picture is the maximum of the due ones, so it is shown if it is ready and awaited if it is not; what a frame does afterwards, on
its output paths, leaves the pictures and the counters. -/
theorem decodeChannels : Obligations.DecodeChannels := by
  unfold Obligations.DecodeChannels
  refine ⟨fun ch now s hl hr he => ?_, fun ch a now s hl hr ha ho ht => ?_, fun ch ix s hu hh => ?_⟩
  · intro d time due w ready counts
    have hdue (x : Pic) : x ∈ w.duePics ch ↔ x ∈ d.pics ∧ due x := mem_duePics
    have hlast {p : Pic} (hp : p ∈ d.pics) (hpd : due p) (h : ∀ x ∈ d.pics, due x → x ≠ p → x.pres < p.pres) : w.LastDue ch p :=
      ⟨(hdue p).2 ⟨hp, hpd⟩, fun x hx => h x ((hdue x).1 hx).1 ((hdue x).1 hx).2⟩
    refine ⟨exec_decodeOutputFrame_early hl, fun ht haus => ⟨fun p hp hpd hready h => ?_, fun h => ?_⟩⟩
    · obtain ⟨hshown, hout, hpics, h10, h11, h9⟩ := outputFrame_shows (s := w) haus (hlast hp hpd h) (decide_eq_true hready)
      refine ⟨_, exec_decodeOutputFrame hl hr he ht, hshown, hout, fun x => ?_, h10, h11, dropped_eq w ch p ▸ h9⟩
      rw [hpics, hdue]
      exact and_congr_right fun hx => not_congr (and_iff_right hx)
    · have hrep : w.duePics ch = [] ∨ ∃ p, w.LastDue ch p ∧ w.picReady (w.frameTime ch) p = false := by
        refine h.imp (fun hnone => ?_) fun ⟨p, hp, hpd, hready, h⟩ => ⟨p, hlast hp hpd h, decide_eq_false hready⟩
        exact List.eq_nil_iff_forall_not_mem.2 fun x hx => hnone x ((hdue x).1 hx).1 ((hdue x).1 hx).2
      exact ⟨_, exec_decodeOutputFrame hl hr he ht, outputFrame_repeats (s := w) haus hrep⟩
  · refine ⟨_, exec_auTimeout hl ha ho ht, ?_, ?_⟩
    · rw [decOf_inc, closeAu_open (s := s.advance now) hr ha ho, decOf_setDec]
      rfl
    · rw [get_inc_decCount, if_pos rfl, closeAu_open (s := s.advance now) hr ha ho]
      rfl
  · refine ⟨_, exec_decHostAck hu hh, ?_⟩
    rw [hostAck_decOf]
    refine ⟨fun b hb hix => ?_, fun b hb hix hhost => mem_acked_other hb hix hhost, fun hheld hshown b hb hix => ?_⟩
    · obtain ⟨o, -, -, rfl, -⟩ := mem_acked_same hb hix
      rfl
    · obtain ⟨o, ho, hox, -, hkept⟩ := mem_acked_same hb hix
      obtain ⟨href, hdone, htrans⟩ := hheld o ho hox
      simp [href, hdone, htrans, hshown] at hkept

end Sys2Proof.Machine
end

section
/-! A sample written into a stream buffer: the outcome of the write, its counter, and the sample as it reads back (10_audio.md R416, R417, R438). -/

namespace Sys2Proof.Machine

variable {s : State} {b c v i j : Nat}

/-! ### Packing (R438) -/

theorem packSample_length (pack : Nat) (big : Bool) (v : Nat) : (packSample pack big v).length = if pack = 0 then 3 else 4 := by
  unfold packSample
  rw [apply_ite List.length, List.length_reverse, ite_self]
  split <;> simp_all

theorem packSample_big (pack v : Nat) : packSample pack true v = (packSample pack false v).reverse := rfl

theorem unpackSample_big (pack : Nat) (l : List (BitVec 8)) : unpackSample pack true l.reverse = unpackSample pack false l := by
  simp [unpackSample]

theorem unpackSample_packSample_little (pack : Nat) (hv : v < 2 ^ 24) : unpackSample pack false (packSample pack false v) = v := by
  match pack with
  | 0 =>
    have hle : leNat (leBytes 3 v) = v := by rw [leNat_leBytes]; omega
    simp [unpackSample, packSample, hle]; omega
  | 1 =>
    have hle : leNat (leBytes 4 (v * 256)) = v * 256 := by rw [leNat_leBytes]; omega
    simp [unpackSample, packSample, hle]; omega
  | p + 2 =>
    have hle : leNat (leBytes 4 (if v ≥ 0x800000 then v + 0xFF000000 else v)) % 2 ^ 24 = v := by rw [leNat_leBytes]; split <;> omega
    simpa [unpackSample, packSample] using hle

/-- A 24-bit sample reads back in every packing, in either order of bytes. -/
theorem unpackSample_packSample (pack : Nat) (big : Bool) (hv : v < 2 ^ 24) : unpackSample pack big (packSample pack big v) = v := by
  cases big with
  | false => exact unpackSample_packSample_little pack hv
  | true => rw [packSample_big, unpackSample_big, unpackSample_packSample_little pack hv]

/-! ### Memory -/

/-- A list of bytes reads back where it was stored. -/
theorem bytes_setBytes (s : State) (a : Nat) (l : List (BitVec 8)) : (s.setBytes a l).bytes a l.length = l := by
  induction l generalizing s a with
  | nil => rfl
  | cons v l ih =>
    have hhead : (s.setBytes a (v :: l)).byte a = v := by rw [byte_setBytes, if_pos (by simp), Nat.sub_self, List.getD_cons_zero]
    rw [List.length_cons, State.bytes, hhead, State.setBytes, ih]

theorem setBytes_regs (s : State) (a : Nat) (l : List (BitVec 8)) : (s.setBytes a l).regs = s.regs := by
  induction l generalizing s a with
  | nil => rfl
  | cons v l ih => rw [State.setBytes, ih, setByte_regs]

/-- The bytes that memory holds are all that matters to what it reads as. -/
theorem bytes_of_mem {t : State} (h : t.mem = s.mem) (a n : Nat) : t.bytes a n = s.bytes a n := by
  induction n generalizing a with
  | zero => rfl
  | succ n ih => rw [State.bytes, State.bytes, ih, State.byte, State.byte, h]

/-! ### What is kept of a buffer -/

theorem sb_setSb (s : State) (b b' : Nat) (x : SbSt) : (s.setSb b x).sb b' = if b' = b then x else s.sb b' := tget_tset ..

theorem sb_of_sbs {t : State} (h : t.sbs = s.sbs) (b : Nat) : t.sb b = s.sb b := by rw [State.sb, State.sb, h]

@[simp] theorem sb_add (s : State) (f : Field) (n b : Nat) : (s.add f n).sb b = s.sb b := (rfl)

@[simp] theorem sb_inc (s : State) (f : Field) (b : Nat) : (s.inc f).sb b = s.sb b := (rfl)

/-- A counter of a buffer after one of its counters has counted. -/
theorem get_add_sbCount (s : State) (b i j n : Nat) : (s.add (R.AUD_SB_CNT_COUNT b i) n).get (R.AUD_SB_CNT_COUNT b j) =
    (s.get (R.AUD_SB_CNT_COUNT b j) + if j = i then n else 0) % 2 ^ 64 := by
  split
  · next h => exact h ▸ get_set_same s _ _ (show 0 + 64 ≤ 64 by decide)
  · next h =>
    have hlt : s.get (R.AUD_SB_CNT_COUNT b j) < 2 ^ 64 := get_lt ..
    rw [Nat.add_zero, Nat.mod_eq_of_lt hlt]
    exact get_set_other _ _ _ _ (by simp only [R.AUD_SB_CNT_COUNT]; omega)

/-- Where a sample lies, and how its bytes read, hang on the buffer's BASE and CFG registers. -/
theorem sampleAt_eq {t : State} (hcfg : t.reg (0xc40008 + b * 0x80) = s.reg (0xc40008 + b * 0x80))
    (hbase : t.reg (0xc40000 + b * 0x80) = s.reg (0xc40000 + b * 0x80)) {n c : Nat} : t.sampleAt b n c =
      unpackSample (s.get (R.AUD_SB_CFG_PACK b)) (s.flag (R.AUD_SB_CFG_BIG_ENDIAN b)) (t.bytes (s.sampleAddr b n c) (s.sampleBytes b)) := by
  have hget {f : Field} (h : f.key = 0xc40008 + b * 0x80) : t.get f = s.get f := get_of_reg (by rw [h, hcfg])
  have hb : t.get (R.AUD_SB_BASE b) = s.get (R.AUD_SB_BASE b) := get_of_reg hbase
  have hbytes : t.sampleBytes b = s.sampleBytes b := by rw [State.sampleBytes, State.sampleBytes, hget rfl]
  have haddr : t.sampleAddr b n c = s.sampleAddr b n c := by
    simp only [State.sampleAddr, State.sbRegion, hbytes, hb, hget (f := R.AUD_SB_CFG_DEPTH b) rfl, hget (f := R.AUD_SB_CFG_CHANNELS b) rfl]
  rw [State.sampleAt, haddr, hbytes, hget rfl, flag_of_get (hget rfl)]

/-- A buffer's counters are no part of what its samples read as. -/
theorem sampleAt_inc (s : State) (b i n c : Nat) : (s.inc (R.AUD_SB_CNT_COUNT b i)).sampleAt b n c = s.sampleAt b n c := by
  have hreg {k : Nat} (h : k < 0xc40018 + b * 0x80) : (s.inc (R.AUD_SB_CNT_COUNT b i)).reg k = s.reg k :=
    reg_set_other _ _ _ _ (by simp only [R.AUD_SB_CNT_COUNT]; omega)
  rw [sampleAt_eq (s := s) (hreg (by omega)) (hreg (by omega)), bytes_of_mem (inc_mem ..), State.sampleAt]

/-! ### A write (R417) -/

/-- The outcome of a write of sample n to a channel, as the counter of R417's table that counts it. -/
def State.writeOutcome (s : State) (b : Nat) (n : Int) (c : Nat) : Nat :=
  if n < s.readPos b then 1 else if s.readPos b + s.get (R.AUD_SB_CFG_DEPTH b) ≤ n then 2
  else if bitAt (tget (fun _ => 0) (s.sb b).valid n.toNat) c = true then 3 else 0

/-- A sample stored in its place, and its valid bit. -/
def State.storeSample (s : State) (b n c v : Nat) : State :=
  (s.setBytes (s.sampleAddr b n c) (packSample (s.get (R.AUD_SB_CFG_PACK b)) (s.flag (R.AUD_SB_CFG_BIG_ENDIAN b)) v)).setSb b
    { s.sb b with valid := tset (fun _ => 0) (s.sb b).valid n (tget (fun _ => 0) (s.sb b).valid n + 2 ^ c) }

theorem writeSample_eq {n : Int} (hon : s.sbOn b = true) (hc : c < s.get (R.AUD_SB_CFG_CHANNELS b)) (hr : 0 ≤ s.readPos b) :
    s.writeSample b n c v = (if s.writeOutcome b n c = 0 then s.storeSample b n.toNat c v else s).inc (R.AUD_SB_CNT_COUNT b (s.writeOutcome b n c)) := by
  have hlate : (n < s.readPos b ∨ n < 0) ↔ n < s.readPos b := by omega
  unfold State.writeSample State.writeOutcome
  simp only [hon, Bool.not_true, Bool.false_eq_true, false_or, Nat.not_le.2 hc, if_false, hlate]
  split
  · rfl
  split
  · rfl
  split <;> rfl

theorem storeSample_regs (s : State) (b n c v : Nat) : (s.storeSample b n c v).regs = s.regs := setBytes_regs ..

/-- The sample stored reads back. -/
theorem storeSample_sampleAt (hv : v < 2 ^ 24) (n : Nat) : (s.storeSample b n c v).sampleAt b n c = v := by
  have hreg (k : Nat) : (s.storeSample b n c v).reg k = s.reg k := reg_of_regs (storeSample_regs ..) k
  let l := packSample (s.get (R.AUD_SB_CFG_PACK b)) (s.flag (R.AUD_SB_CFG_BIG_ENDIAN b)) v
  have hlen : s.sampleBytes b = l.length := (packSample_length ..).symm
  calc (s.storeSample b n c v).sampleAt b n c
    _ = unpackSample (s.get (R.AUD_SB_CFG_PACK b)) (s.flag (R.AUD_SB_CFG_BIG_ENDIAN b))
          ((s.storeSample b n c v).bytes (s.sampleAddr b n c) (s.sampleBytes b)) := sampleAt_eq (hreg _) (hreg _)
    _ = unpackSample (s.get (R.AUD_SB_CFG_PACK b)) (s.flag (R.AUD_SB_CFG_BIG_ENDIAN b)) l := by
      have hmem : (s.storeSample b n c v).mem = (s.setBytes (s.sampleAddr b n c) l).mem := rfl
      rw [bytes_of_mem hmem, hlen, bytes_setBytes]
    _ = v := unpackSample_packSample _ _ hv

/-- The sample stored is valid. -/
theorem storeSample_valid {n : Nat} (h : bitAt (tget (fun _ => 0) (s.sb b).valid n) c = false) :
    bitAt (tget (fun _ => 0) ((s.storeSample b n c v).sb b).valid n) c = true := by
  rw [State.storeSample, sb_setSb, if_pos rfl, tget_tset_same, bitAt_eq_testBit, Nat.add_comm, Nat.testBit_two_pow_add_eq, ← bitAt_eq_testBit, h, Bool.not_false]

theorem writeOutcome_eq_zero {n : Int} (h : s.writeOutcome b n c = 0) : bitAt (tget (fun _ => 0) (s.sb b).valid n.toNat) c = false := by
  unfold State.writeOutcome at h
  split at h
  · omega
  split at h
  · omega
  split at h
  · omega
  · next hv => simpa using hv

section
variable {n : Int} (hon : s.sbOn b = true) (hc : c < s.get (R.AUD_SB_CFG_CHANNELS b)) (hr : 0 ≤ s.readPos b)
include hon hc hr

/-- A write counts its outcome, and no other. -/
theorem writeSample_counts (j : Nat) : (s.writeSample b n c v).get (R.AUD_SB_CNT_COUNT b j) =
    (s.get (R.AUD_SB_CNT_COUNT b j) + if j = s.writeOutcome b n c then 1 else 0) % 2 ^ 64 := by
  have hstore : (if s.writeOutcome b n c = 0 then s.storeSample b n.toNat c v else s).regs = s.regs := by
    split
    · exact storeSample_regs ..
    · rfl
  rw [writeSample_eq hon hc hr, State.inc, get_add_sbCount, get_of_reg (reg_of_regs hstore _)]

/-- A write that is not stored writes no memory. -/
theorem writeSample_mem (h : s.writeOutcome b n c ≠ 0) : (s.writeSample b n c v).mem = s.mem := by
  rw [writeSample_eq hon hc hr, if_neg h, inc_mem]

/-- A sample written is valid, and reads back. -/
theorem writeSample_stored (hv : v < 2 ^ 24) (h : s.writeOutcome b n c = 0) : (s.writeSample b n c v).sampleAt b n.toNat c = v ∧
    bitAt (tget (fun _ => 0) ((s.writeSample b n c v).sb b).valid n.toNat) c = true := by
  rw [writeSample_eq hon hc hr, if_pos h, sampleAt_inc, sb_inc]
  exact ⟨storeSample_sampleAt hv _, storeSample_valid (writeOutcome_eq_zero h)⟩

end

end Sys2Proof.Machine
end

section
/-! The steps that a report whose suspect cannot be isolated is made of (17_sieve.md R634 to R650): whatever relates every state to what each of them makes of
it, and goes on from step to step, relates a state to what the report makes of it. -/

namespace Sys2Proof.Machine

/-- `Rel` relates a state to what each step of a report makes of it: a register of the Sieve or of the Heath island, a core's interrupt lines, a message, a
record. -/
structure ReportSteps (Rel : State → State → Prop) : Prop where
  refl : ∀ s, Rel s s
  trans : ∀ {s t u}, Rel s t → Rel t u → Rel s u
  set : ∀ (s : State) (f : Field) (x : Nat), f.key < 0x50000 → Rel s (s.set f x)
  setCore : ∀ (s : State) (k : Nat) (c : CoreX), Rel s (s.setCore k c)
  emit : ∀ (s : State) (o : Output), Rel s (s.emit o)
  msixTable : ∀ (s : State) (m : Table MsixVec), Rel s { s with msixTable := m }
  recs : ∀ (s : State) (l : Table SieveRec) (n : Nat), Rel s { s with recs := l, recno := n }

variable {Rel : State → State → Prop} {s t u : State}

theorem rel_ite {c : Prop} [Decidable c] (ht : Rel s t) (hu : Rel s u) : Rel s (if c then t else u) := by
  split <;> assumption

namespace ReportSteps

variable (h : ReportSteps Rel)
include h

theorem foldl {α : Type} {f : State → α → State} {l : List α} (hf : ∀ a ∈ l, ∀ s : State, Rel s (f s a)) (s : State) : Rel s (l.foldl f s) := by
  induction l generalizing s with
  | nil => exact h.refl s
  | cons a l ih => exact h.trans (hf a List.mem_cons_self s) (ih (fun b hb => hf b (List.mem_cons_of_mem a hb)) _)

theorem incSat {f : Field} (hf : f.key < 0x50000) : Rel s (s.incSat f) := rel_ite (h.set _ _ _ hf) (h.refl s)

theorem msix (v : Nat) : Rel s (s.msix v) := rel_ite (rel_ite (h.msixTable ..) (h.emit ..)) (h.refl s)

theorem raiseLine (k l : Nat) : Rel s (s.raiseLine k l) := rel_ite (h.refl s) (h.setCore ..)

theorem raiseLines (l : Nat) : Rel s (s.raiseLines l) :=
  h.trans (h.trans (h.trans (h.raiseLine ..) (h.raiseLine ..)) (h.raiseLine ..)) (h.raiseLine ..)

theorem signal (was : Bool) (v : Nat) : Rel s (s.signal was v) := by
  unfold State.signal
  extract_lets s1
  have h1 : Rel s s1 := rel_ite (h.raiseLines 2) (h.refl s)
  exact rel_ite (h.trans h1 (h.msix _)) h1

theorem countReport {n : Nat} (hn : n < 768) : Rel s (s.countReport n) :=
  h.trans (h.set _ _ _ (by decide)) (h.incSat (show 0x22000 + n * 4 < _ by omega))

theorem refreshClass {c : Nat} (hc : c < 64) : Rel s (s.refreshClass c) := by
  have hk : 0x20200 + c * 4 < 0x50000 := by omega
  exact h.trans (h.trans (h.trans (h.set _ _ _ hk) (h.set _ _ _ hk)) (h.set _ _ _ (by decide))) (h.set _ _ _ (by decide))

theorem haltDevice (r : SieveRec) : Rel s (s.haltDevice r) := by
  unfold State.haltDevice
  extract_lets s1 s2 s3
  have h2 : Rel s s2 := h.trans (h.set _ _ _ (by decide)) (h.incSat (by decide))
  have hword : ∀ i ∈ List.range 4, (R.HTH_S3_RECORD_WORD i).key < 0x50000 := by decide
  have h3 : Rel s2 s3 := rel_ite (h.refl s2) (h.trans (h.foldl (fun i hi _ => h.set _ _ _ (hword i hi)) s2) (h.set _ _ _ (by decide)))
  exact h.trans (h.trans h2 h3) (h.emit ..)

theorem act {r : SieveRec} (hr : isolable r.suspect = false) : Rel s (s.act r) := by
  unfold State.act
  split
  · exact h.refl s
  · split
    · rw [hr]; exact h.refl s
    · exact h.haltDevice r
    · exact h.refl s

theorem foldIn {sev cls i : Nat} {r : SieveRec} (hc : cls < 64) (hr : isolable r.suspect = false) : Rel s (s.foldIn sev cls i r) := by
  unfold State.foldIn
  extract_lets d up r' s1 s2
  have h2 : Rel s s2 := h.trans (h.trans (h.recs s _ s.recno) (h.set _ _ _ (by decide))) (h.refreshClass hc)
  exact rel_ite (h.trans (h.trans h2 (h.act (r := r') hr)) (h.signal ..)) h2

theorem pushRec {r : SieveRec} (hc : r.cls < 64) : Rel s (s.pushRec r) := by
  unfold State.pushRec
  extract_lets tail s1 s2
  have h2 : Rel s s2 := h.trans (h.trans (h.recs ..) (h.set _ _ _ (by decide))) (h.set _ _ _ (by decide))
  exact h.trans (rel_ite (h.trans h2 (h.set _ _ _ (by decide))) h2) (h.refreshClass hc)

theorem newRec {r : SieveRec} (hc : r.cls < 64) (hr : isolable r.suspect = false) : Rel s (s.newRec r) := by
  unfold State.newRec
  extract_lets s1
  have h1 : Rel s s1 := rel_ite (h.set _ _ _ (by decide)) (h.pushRec hc)
  exact h.trans (h.trans h1 (h.act hr)) (h.signal ..)

theorem makeRec {source sev cls sus : Nat} {d : Word} {inj : Bool} (hc : cls < 64) (hs : isolable sus = false) :
    Rel s (s.makeRec source sev cls sus d inj) := by
  unfold State.makeRec
  cases e : s.foldTarget cls sus inj with
  | none => exact h.newRec hc hs
  | some p => exact h.foldIn hc (foldTarget_sus _ _ _ _ _ e ▸ hs)

theorem reportOne {source sus : Nat} {d : Word} {inj : Bool} (hn : source < 768) (hs : isolable sus = false) :
    Rel s (s.reportOne source sus d inj) := h.trans (h.countReport hn) (h.makeRec getBefore_lt hs)

theorem report {source sus : Nat} {d : Word} {inj : Bool} (hn : source < 768) (hs : isolable sus = false) :
    Rel s (s.report source sus d inj) := by
  unfold State.report
  extract_lets lost s1
  have h1 : Rel s s1 := h.reportOne hn hs
  exact rel_ite (h.trans (h.trans h1 (h.set _ _ _ (by decide))) (h.reportOne (by decide) (by decide))) h1

end ReportSteps

/-! ### Units of peers released to egress (11_egress.md R484) -/

/-- What is kept of the stream buffers, and the registers of the audio block, are the same in both states. -/
structure State.SameAudio (s t : State) : Prop where
  sbs : t.sbs = s.sbs
  reg : ∀ k, 0xc00000 ≤ k → k < 0xc80000 → t.reg k = s.reg k

namespace State.SameAudio

theorem of_eq (hs : t.sbs = s.sbs) (hr : t.regs = s.regs) : s.SameAudio t := ⟨hs, fun k _ _ => reg_of_regs hr k⟩

theorem set {f : Field} {x : Nat} (hf : f.key < 0xc00000 ∨ 0xc80000 ≤ f.key) : s.SameAudio (s.set f x) :=
  ⟨rfl, fun k _ _ => reg_set_other _ _ _ _ (by omega)⟩

theorem reportSteps : ReportSteps State.SameAudio where
  refl _ := of_eq rfl rfl
  trans h g := ⟨g.sbs.trans h.sbs, fun k hl hu => (g.reg k hl hu).trans (h.reg k hl hu)⟩
  set _ _ _ hf := .set (by omega)
  setCore _ _ _ := of_eq rfl rfl
  emit _ _ := of_eq rfl rfl
  msixTable _ _ := of_eq rfl rfl
  recs _ _ _ := of_eq rfl rfl

theorem refl : s.SameAudio s := reportSteps.refl s

theorem trans (h : s.SameAudio t) (g : t.SameAudio u) : s.SameAudio u := reportSteps.trans h g

theorem ite {c : Prop} [Decidable c] (ht : s.SameAudio t) (hu : s.SameAudio u) : s.SameAudio (if c then t else u) := rel_ite ht hu

theorem foldl {α : Type} {f : State → α → State} (hf : ∀ (s : State) a, s.SameAudio (f s a)) (l : List α) (s : State) : s.SameAudio (l.foldl f s) :=
  reportSteps.foldl (fun a _ s => hf s a) s

theorem setFlowTx {f : Nat} {x : FlowTx} : s.SameAudio (s.setFlowTx f x) := of_eq (setFlowTx_sbs ..) (setFlowTx_regs ..)

theorem staged {l : List MediaUnit} : s.SameAudio { s with staged := l } := of_eq rfl rfl

theorem flowCount {f i n : Nat} : s.SameAudio (s.add (R.EGR_FLOW_CNT_COUNT f i) n) := set (by simp only [R.EGR_FLOW_CNT_COUNT]; omega)

theorem enqueue {p q w : Nat} {f : TxFrame} : s.SameAudio (s.enqueue p q w f) := ite (of_eq rfl rfl) (of_eq rfl rfl)

theorem offer {f path : Nat} {l : List TxFrame} : s.SameAudio (s.offer f path l) := by
  refine ite flowCount (ite (ite ?_ ?_) (foldl (fun _ _ => ite (enqueue.trans flowCount) flowCount) _ _))
  · exact (foldl (fun _ _ => enqueue) _ _).trans flowCount
  · exact flowCount.trans (reportSteps.report (by decide) (by decide))

theorem numberFrames {f : Nat} {l : List TxFrame} : s.SameAudio (s.numberFrames f l).1 :=
  ite (setFlowTx.trans (set (by simp only [R.EGR_FLOW_SRTP_IDX_INDEX]; omega))) setFlowTx

theorem sendUnit {f : Nat} {l : List TxFrame} : s.SameAudio (s.sendUnit f l) := by
  unfold State.sendUnit
  extract_lets room lost
  split
  next t m e =>
  extract_lets s1 dual s2 s3 s4
  have ht : s.SameAudio t := by
    have hfst : (s.numberFrames f (l.take room)).1 = t := congrArg Prod.fst e
    exact hfst ▸ numberFrames
  have h3 : s.SameAudio s3 := (ht.trans flowCount).trans (ite (offer.trans offer) offer)
  have h4 : s.SameAudio s4 := h3.trans flowCount
  exact ite h3 ((ite (h4.trans flowCount) h4).trans (reportSteps.report (by decide) (by decide)))

theorem present {f claim unit : Nat} {rel : Option Int} {l : List TxFrame} : s.SameAudio (s.present f claim unit rel l) := by
  unfold State.present
  extract_lets s1 x
  have h1 : s.SameAudio s1 := flowCount
  refine h1.trans (ite flowCount (setFlowTx.trans sendUnit))

theorem presentStaged {m : MediaUnit} : s.SameAudio (s.presentStaged m) := by
  unfold State.presentStaged
  split
  · exact refl
  · split
    · exact ite present refl
    · exact present

/-- Units of peers that are released to their flows leave the audio block as it is. -/
theorem releaseStaged {ok : Nat → Bool} : s.SameAudio (s.releaseStaged ok) := by
  unfold State.releaseStaged
  extract_lets due
  exact staged.trans (foldl (fun _ _ => presentStaged) _ _)

end State.SameAudio

end Sys2Proof.Machine
end

section
/-! A media sample period: what each buffer of the period's rate delivers or repeats (10_audio.md R415, R418). -/

namespace Sys2Proof.Machine

variable {s t u : State} {b c i : Nat}

/-- The buffer and channel of a slot hang on AUD_CTRL and on the configuration of the buffers. -/
theorem slotOf_congr (haud : t.reg 0xc00000 = s.reg 0xc00000) (hcfg : ∀ b, t.reg (0xc40008 + b * 0x80) = s.reg (0xc40008 + b * 0x80))
    (mask : Nat) (maps : List Nat) (k : Nat) : t.slotOf mask maps k = s.slotOf mask maps k := by
  have hon (b : Nat) : t.sbOn b = s.sbOn b := by
    rw [State.sbOn, State.sbOn, flag_of_get (get_of_reg (f := R.AUD_CTRL_ENABLE) haud), flag_of_get (get_of_reg (f := R.AUD_SB_CFG_ENABLE b) (hcfg b))]
  have hch (b : Nat) : t.get (R.AUD_SB_CFG_CHANNELS b) = s.get (R.AUD_SB_CFG_CHANNELS b) := get_of_reg (hcfg b)
  simp only [State.slotOf]
  rw [hon, hch]

/-! ### What the period of one buffer leaves of another -/

/-- A register that the periods of the buffers other than `b` do not write: it is no counter of theirs. -/
def OffPeriods (b k : Nat) : Prop := k < 0xc40000 ∨ 0xc50000 ≤ k ∨ k % 0x80 < 0x18 ∨ k / 0x80 = 0x18800 + b

/-- `t` agrees with `s` on all that the period of buffer `b` hangs on. -/
structure State.SameBuffer (b : Nat) (s t : State) : Prop where
  sb : t.sb b = s.sb b
  reg : ∀ k, OffPeriods b k → t.reg k = s.reg k
  ingOn : t.ingOn = s.ingOn
  raw : t.raw = s.raw
  tb : t.tb = s.tb
  mem : t.mem = s.mem
  tdms : t.tdms = s.tdms
  decs : t.decs = s.decs
  chans : t.chans = s.chans

namespace State.SameBuffer

theorem refl : s.SameBuffer b s := ⟨rfl, fun _ _ => rfl, rfl, rfl, rfl, rfl, rfl, rfl, rfl⟩

theorem trans (h : s.SameBuffer b t) (g : t.SameBuffer b u) : s.SameBuffer b u where
  sb := g.sb.trans h.sb
  reg k hk := (g.reg k hk).trans (h.reg k hk)
  ingOn := g.ingOn.trans h.ingOn
  raw := g.raw.trans h.raw
  tb := g.tb.trans h.tb
  mem := g.mem.trans h.mem
  tdms := g.tdms.trans h.tdms
  decs := g.decs.trans h.decs
  chans := g.chans.trans h.chans

theorem setSb {x : SbSt} (h : c ≠ b) : s.SameBuffer b (s.setSb c x) :=
  { (refl : s.SameBuffer b s) with sb := by rw [sb_setSb, if_neg (Ne.symm h)] }

theorem add {f : Field} {n : Nat} (hoff : ∀ k, OffPeriods b k → k ≠ f.key) (hkey : f.key < 0x100000000) : s.SameBuffer b (s.add f n) :=
  { (refl : s.SameBuffer b s) with
    reg := fun k hk => reg_set_other _ _ _ _ (hoff k hk)
    ingOn := ingOn_setReg hkey }

theorem addCount {n : Nat} (h : c ≠ b) (hc : c < 512) (hi : i < 6) : s.SameBuffer b (s.add (R.AUD_SB_CNT_COUNT c i) n) :=
  add (fun k hk => by simp only [OffPeriods, R.AUD_SB_CNT_COUNT] at hk ⊢; omega) (by simp only [R.AUD_SB_CNT_COUNT]; omega)

/-- The period of another buffer. -/
theorem sbPeriod (h : c ≠ b) (hc : c < 512) : s.SameBuffer b (s.sbPeriod c) := by
  unfold State.sbPeriod
  extract_lets r x live old lost m chans last rep s1
  split
  · exact refl
  · exact (((setSb h).trans (addCount h hc (by decide))).trans (addCount h hc (by decide))).trans (addCount h hc (by decide))

theorem foldl_sbPeriod {l : List Nat} (h : ∀ c ∈ l, c ≠ b ∧ c < 512) (s : State) : s.SameBuffer b (l.foldl (fun s c => s.sbPeriod c) s) := by
  induction l generalizing s with
  | nil => exact refl
  | cons c l ih =>
    obtain ⟨hne, hlt⟩ := h c List.mem_cons_self
    exact (sbPeriod hne hlt).trans (ih (fun d hd => h d (List.mem_cons_of_mem c hd)) _)

variable (h : s.SameBuffer b t)
include h

theorem get {f : Field} (hf : OffPeriods b f.key) : t.get f = s.get f := get_of_reg (h.reg _ hf)

theorem flag {f : Field} (hf : OffPeriods b f.key) : t.flag f = s.flag f := flag_of_get (h.get hf)

theorem count (hi : i < 6) : t.get (R.AUD_SB_CNT_COUNT b i) = s.get (R.AUD_SB_CNT_COUNT b i) :=
  h.get (by simp only [OffPeriods, R.AUD_SB_CNT_COUNT]; omega)

theorem readPos : t.readPos b = s.readPos b := by
  have hnow : t.now = s.now := by
    simp only [State.now, State.localAt, State.getSigned, h.raw, h.tb, h.get (f := R.TB_OFFSET) (.inl (by decide)),
      h.get (f := R.TB_RATE_NOW) (.inl (by decide))]
  have hcfg {f : Field} (hf : f.key = 0xc40008 + b * 0x80) : t.get f = s.get f := h.get (by simp only [OffPeriods, hf]; omega)
  rw [State.readPos, State.readPos, hnow, hcfg rfl, flag_of_get (hcfg rfl)]

theorem sampleAt (n : Nat) : t.sampleAt b n c = s.sampleAt b n c := by
  rw [sampleAt_eq (s := s) (h.reg _ (by simp only [OffPeriods]; omega)) (h.reg _ (by simp only [OffPeriods]; omega)), bytes_of_mem h.mem, State.sampleAt]

theorem slotOf (mask : Nat) (maps : List Nat) (k : Nat) : t.slotOf mask maps k = s.slotOf mask maps k :=
  slotOf_congr (h.reg _ (.inl (by decide))) (fun c => h.reg _ (by simp only [OffPeriods]; omega)) mask maps k

theorem liveMask : t.liveMask b = s.liveMask b := by
  have hkind f : t.get (R.ING_FLOW_KIND_KIND f) = s.get (R.ING_FLOW_KIND_KIND f) := h.get (by simp only [OffPeriods, R.ING_FLOW_KIND_KIND]; omega)
  have hdest f : t.get (R.ING_FLOW_KIND_DEST f) = s.get (R.ING_FLOW_KIND_DEST f) := h.get (by simp only [OffPeriods, R.ING_FLOW_KIND_DEST]; omega)
  have hnum f : t.get (R.AUD_FLOW_MAP_CHANNELS f) = s.get (R.AUD_FLOW_MAP_CHANNELS f) := h.get (by simp only [OffPeriods, R.AUD_FLOW_MAP_CHANNELS]; omega)
  have hfirst f : t.get (R.AUD_FLOW_MAP_FIRST_CH f) = s.get (R.AUD_FLOW_MAP_FIRST_CH f) := h.get (by simp only [OffPeriods, R.AUD_FLOW_MAP_FIRST_CH]; omega)
  have hrun p : t.flag (R.AUD_PORT_STATUS_RUNNING p) = s.flag (R.AUD_PORT_STATUS_RUNNING p) := h.flag (by simp only [OffPeriods, R.AUD_PORT_STATUS_RUNNING]; omega)
  have hslots p : t.get (R.AUD_PORT_CFG_SLOTS p) = s.get (R.AUD_PORT_CFG_SLOTS p) := h.get (by simp only [OffPeriods, R.AUD_PORT_CFG_SLOTS]; omega)
  have hch : t.get (R.AUD_SB_CFG_CHANNELS b) = s.get (R.AUD_SB_CFG_CHANNELS b) := h.get (by simp only [OffPeriods, R.AUD_SB_CFG_CHANNELS]; omega)
  have hdec c : t.flag (R.DEC_TS_AUDIO_EN c) = s.flag (R.DEC_TS_AUDIO_EN c) := h.flag (by simp only [OffPeriods, R.DEC_TS_AUDIO_EN]; omega)
  simp only [State.liveMask, State.audFlows, State.slots, State.tdm, State.running, State.chan, h.ingOn, h.tdms, h.decs, h.chans, h.slotOf,
    hkind, hdest, hnum, hfirst, hrun, hslots, hch, hdec] <;> rfl

end State.SameBuffer

/-! ### The period of a buffer -/

/-- The live channels of a buffer. -/
def State.liveChans (s : State) (b : Nat) : List Nat := (List.range 64).filter (fun c => bitAt (s.liveMask b) c)

/-- Whether a buffer has the sample of a channel that this period reads. -/
def State.hasSample (s : State) (b c : Nat) : Bool := bitAt (tget (fun _ => 0) (s.sb b).valid (s.readPos b).toNat) c

/-- In `t` buffer `b` has delivered, or repeated, what it has in `s` for the period. -/
structure State.HasRead (b : Nat) (s t : State) : Prop where
  lastR : (t.sb b).lastR = some (s.readPos b)
  read : t.get (R.AUD_SB_CNT_COUNT b 4) = (s.get (R.AUD_SB_CNT_COUNT b 4) + (s.liveChans b).length) % 2 ^ 64
  repeated : t.get (R.AUD_SB_CNT_COUNT b 5) = (s.get (R.AUD_SB_CNT_COUNT b 5) + ((s.liveChans b).filter (fun c => !s.hasSample b c)).length) % 2 ^ 64
  last : ∀ c ∈ s.liveChans b, tget (fun _ => 0) (t.sb b).last c =
    if s.hasSample b c = true then s.sampleAt b (s.readPos b).toNat c else tget (fun _ => 0) (s.sb b).last c

/-- A table after new values of some of the keys of a list. -/
theorem tget_foldl_tset {V : Type} [DecidableEq V] {d : Nat → V} {p : Nat → Bool} {f : Nat → V} (l : List Nat) (x : Table V) (k : Nat) :
    tget d (l.foldl (fun x c => if p c = true then tset d x c (f c) else x) x) k = if k ∈ l ∧ p k = true then f k else tget d x k := by
  induction l generalizing x with
  | nil => simp
  | cons c l ih =>
    rw [List.foldl_cons, ih]
    by_cases hk : k = c
    · subst hk
      by_cases hp : p k = true <;> simp [hp]
    · have hother : tget d (if p c = true then tset d x c (f c) else x) k = tget d x k := by
        split
        · exact tget_tset_other _ _ _ _ _ hk
        · rfl
      rw [hother]
      simp [hk]

theorem sbPeriod_hasRead (hlast : (s.sb b).lastR ≠ some (s.readPos b)) (hr : 0 ≤ s.readPos b) : s.HasRead b (s.sbPeriod b) := by
  unfold State.sbPeriod
  extract_lets r x live old lost m chans last rep s1
  rw [if_neg hlast]
  have hm : m = tget (fun _ => 0) x.valid r.toNat := if_neg (not_lt.2 hr)
  have hlastR : (s1.sb b).lastR = some r := by rw [sb_setSb, if_pos rfl]
  have hvalues : (s1.sb b).last = last := by rw [sb_setSb, if_pos rfl]
  have hget (j : Nat) : s1.get (R.AUD_SB_CNT_COUNT b j) = s.get (R.AUD_SB_CNT_COUNT b j) := get_of_reg (reg_of_regs (setSb_regs ..) _)
  refine ⟨?_, ?_, ?_, fun c hc => ?_⟩
  · simpa only [sb_add] using hlastR
  · simp only [get_add_sbCount, hget]
    simp [chans, State.liveChans, live]
  · simp only [get_add_sbCount, hget]
    simp [rep, chans, State.liveChans, live, State.hasSample, hm, x, r]
  · have hhas : c ∈ chans ∧ bitAt m c = true ↔ s.hasSample b c = true := (and_iff_right hc).trans (by rw [hm]; exact Iff.rfl)
    rw [sb_add, sb_add, sb_add, hvalues]
    exact (tget_foldl_tset ..).trans (if_congr hhas rfl rfl)

/-- A buffer's period hangs on nothing that the periods of the others change. -/
theorem State.HasRead.of_same (h : s.SameBuffer b t) (g : t.HasRead b u) : s.HasRead b u := by
  have hlive : t.liveChans b = s.liveChans b := by rw [State.liveChans, State.liveChans, h.liveMask]
  have hhas : t.hasSample b = s.hasSample b := funext fun c => by rw [State.hasSample, State.hasSample, h.sb, h.readPos]
  obtain ⟨hlastR, hread, hrep, hlast⟩ := g
  rw [hlive, h.count (by decide)] at hread
  rw [hlive, hhas, h.count (by decide)] at hrep
  rw [hlive, hhas, h.readPos, h.sb] at hlast
  exact ⟨h.readPos ▸ hlastR, hread, hrep, fun c hc => (hlast c hc).trans (by rw [h.sampleAt])⟩

/-- What a buffer has read stays while neither it nor its counters change. -/
theorem State.HasRead.keep (h : s.HasRead b t) (hsb : u.sb b = t.sb b)
    (hcount : ∀ i < 6, u.get (R.AUD_SB_CNT_COUNT b i) = t.get (R.AUD_SB_CNT_COUNT b i)) : s.HasRead b u where
  lastR := hsb ▸ h.lastR
  read := (hcount 4 (by decide)).trans h.read
  repeated := (hcount 5 (by decide)).trans h.repeated
  last := hsb ▸ h.last

/-- Among the periods of some buffers, each once, that of `b`. -/
theorem foldl_sbPeriod_hasRead {l : List Nat} (hb : b ∈ l) (hl : ∀ c ∈ l, c < 512) (hnd : l.Nodup) (hlast : (s.sb b).lastR ≠ some (s.readPos b))
    (hr : 0 ≤ s.readPos b) : s.HasRead b (l.foldl (fun s c => s.sbPeriod c) s) := by
  obtain ⟨l₁, l₂, rfl⟩ := List.append_of_mem hb
  have hne {c : Nat} (hc : c ∈ l₁ ∨ c ∈ l₂) : c ≠ b := by
    rintro rfl
    exact (List.nodup_cons.1 (List.nodup_middle.1 hnd)).1 (List.mem_append.2 hc)
  have hbefore := State.SameBuffer.foldl_sbPeriod (l := l₁) (fun c hc => ⟨hne (.inl hc), hl c (by simp [hc])⟩) s
  rw [List.foldl_append, List.foldl_cons]
  have hafter := State.SameBuffer.foldl_sbPeriod (l := l₂) (fun c hc => ⟨hne (.inr hc), hl c (by simp [hc])⟩)
    ((l₁.foldl (fun s c => s.sbPeriod c) s).sbPeriod b)
  refine .of_same hbefore ((sbPeriod_hasRead ?_ ?_).keep hafter.sb fun i hi => hafter.count hi)
  · rw [hbefore.sb, hbefore.readPos]; exact hlast
  · rw [hbefore.readPos]; exact hr

/-! ### MEDIA_SAMPLE_PERIOD -/

/-- The buffers in use of a rate. -/
def State.buffersAt (s : State) (r96 : Bool) : List Nat := (List.range 512).filter (fun b => s.sbOn b && (s.flag (R.AUD_SB_CFG_RATE96 b) == r96))

theorem mediaPeriod_idle {r96 : Bool} (hon : s.flag R.AUD_CTRL_ENABLE = true) (hidle : ∀ p < 8, s.flag (R.AUD_PORT_STATUS_RUNNING p) = false) :
    s.mediaPeriod r96 = (s.buffersAt r96).foldl (fun s b => s.sbPeriod b) s := by
  have hports : s.portsAt r96 = [] := List.filter_eq_nil_iff.2 fun p hp => by simp [hidle p (List.mem_range.1 hp)]
  rw [State.mediaPeriod, if_neg (by simp [hon]), hports]
  simp only [List.foldl_nil, State.buffersAt]

/-- In a period with no port running a buffer of its rate has read, and the units of peers released then leave that as it is. -/
theorem mediaPeriod_hasRead {r96 : Bool} (hon : s.flag R.AUD_CTRL_ENABLE = true) (hidle : ∀ p < 8, s.flag (R.AUD_PORT_STATUS_RUNNING p) = false)
    (hb : b < 512) (hsb : s.sbOn b = true) (hrate : s.flag (R.AUD_SB_CFG_RATE96 b) = r96) (hlast : (s.sb b).lastR ≠ some (s.readPos b))
    (hr : 0 ≤ s.readPos b) (ok : Nat → Bool) : s.HasRead b ((s.mediaPeriod r96).releaseStaged ok) := by
  have hmem : b ∈ s.buffersAt r96 := List.mem_filter.2 ⟨List.mem_range.2 hb, by simp [hsb, hrate]⟩
  have hlt : ∀ c ∈ s.buffersAt r96, c < 512 := fun c hc => List.mem_range.1 (List.mem_filter.1 hc).1
  have hread : s.HasRead b (s.mediaPeriod r96) :=
    mediaPeriod_idle (r96 := r96) hon hidle ▸ foldl_sbPeriod_hasRead hmem hlt (List.nodup_range.filter _) hlast hr
  have hkeep : (s.mediaPeriod r96).SameAudio ((s.mediaPeriod r96).releaseStaged ok) := .releaseStaged
  refine hread.keep (sb_of_sbs hkeep.sbs b) fun i hi => get_of_reg (hkeep.reg _ ?_ ?_) <;> simp only [R.AUD_SB_CNT_COUNT] <;> omega

end Sys2Proof.Machine
end

section
/-! A frame at the pins of a TDM port: the bits sampled on DIN, the bit times sent, and the counters (10_audio.md R422, R423, R425, R428). -/

namespace Sys2Proof.Machine

variable {s t u : State} {p i j k : Nat} {din : List PinBit} {f : List Nat} {rest : List (List Nat)} {pad : Option Bool}

/-! ### What is kept of a port -/

@[simp] theorem tdm_setTdm (s : State) (p : Nat) (x : TdmSt) : (s.setTdm p x).tdm p = x := tget_tset_same ..
@[simp] theorem tdm_set (s : State) (g : Field) (x p : Nat) : (s.set g x).tdm p = s.tdm p := (rfl)
@[simp] theorem tdm_emit (s : State) (o : Output) (p : Nat) : (s.emit o).tdm p = s.tdm p := (rfl)
@[simp] theorem tdm_showFill (s : State) (p q : Nat) : (s.showFill p).tdm q = s.tdm q := by rw [State.showFill, tdm_set, tdm_set]

theorem out_emit (s : State) (o : Output) : (s.emit o).out = o :: s.out := (rfl)

/-- A counter of a port after one of its counters has counted. -/
theorem get_inc_portCount (s : State) (p i j : Nat) : (s.inc (R.AUD_PORT_CNT_COUNT p i)).get (R.AUD_PORT_CNT_COUNT p j) =
    (s.get (R.AUD_PORT_CNT_COUNT p j) + if j = i then 1 else 0) % 2 ^ 64 :=
  get_inc_bank (c := R.AUD_PORT_CNT_COUNT p) (fun _ => ⟨rfl, rfl⟩) (fun i j h => by simp only [R.AUD_PORT_CNT_COUNT]; omega) i j

theorem showFill_portCount (s : State) (p j : Nat) : (s.showFill p).get (R.AUD_PORT_CNT_COUNT p j) = s.get (R.AUD_PORT_CNT_COUNT p j) := by
  have hkey : (R.AUD_PORT_CNT_COUNT p j).key ≠ 0xc01004 + p * 0x100 := by simp only [R.AUD_PORT_CNT_COUNT]; omega
  rw [State.showFill, get_set_other _ _ _ _ hkey, get_set_other _ _ _ _ hkey]

/-! ### What the slots of a port hang on -/

/-- `t` agrees with `s` on AUD_CTRL, on the configuration of the ports, and on the registers of the buffers. -/
def State.SamePins (s t : State) : Prop := ∀ k, k % 0x100 = 0 ∨ 0xc40000 ≤ k → t.reg k = s.reg k

namespace State.SamePins

theorem of_regs (h : t.regs = s.regs) : s.SamePins t := fun k _ => reg_of_regs h k

theorem trans (h : s.SamePins t) (g : t.SamePins u) : s.SamePins u := fun k hk => (g k hk).trans (h k hk)

theorem set {g : Field} {x : Nat} (hoff : g.key % 0x100 ≠ 0) (hlt : g.key < 0xc40000) : s.SamePins (s.set g x) := fun _ _ =>
  reg_set_other _ _ _ _ (by omega)

theorem portCount (hp : p < 8) (hi : i < 6) : s.SamePins (s.inc (R.AUD_PORT_CNT_COUNT p i)) :=
  set (by simp only [R.AUD_PORT_CNT_COUNT]; omega) (by simp only [R.AUD_PORT_CNT_COUNT]; omega)

theorem showFill (hp : p < 8) : s.SamePins (s.showFill p) :=
  have hoff : (0xc01004 + p * 0x100) % 0x100 ≠ 0 := by omega
  have hlt : 0xc01004 + p * 0x100 < 0xc40000 := by omega
  trans (t := s.set (R.AUD_PORT_STATUS_FILL_TX p) _) (set hoff hlt) (set hoff hlt)

variable (h : s.SamePins t)
include h

theorem cfg {g : Field} (hg : g.key = 0xc01000 + p * 0x100) : t.get g = s.get g := get_of_reg (h _ (by omega))

theorem slots : t.slots p = s.slots p := by rw [State.slots, State.slots, h.cfg rfl]

theorem slotDelay : t.slotDelay p = s.slotDelay p := by rw [State.slotDelay, State.slotDelay, flag_of_get (h.cfg rfl)]

theorem slotOf (mask : Nat) (maps : List Nat) (i : Nat) : t.slotOf mask maps i = s.slotOf mask maps i :=
  slotOf_congr (h _ (.inl (by decide))) (fun b => h _ (.inr (by omega))) mask maps i

theorem slotIn : t.slotIn p din i = s.slotIn p din i := by
  simp only [State.slotIn, h.slotDelay, flag_of_get (h.cfg (g := R.AUD_PORT_CFG_BCLK_INV p) rfl)]

end State.SamePins

/-! ### Bits (R422, R423) -/

/-- The bits of a number that is read most significant bit first. -/
theorem testBit_foldl_bits (b : Nat → Bool) (n : Nat) : (List.range n).foldl (fun v j => 2 * v + (b j).toNat) 0 < 2 ^ n ∧
    ∀ j < n, ((List.range n).foldl (fun v j => 2 * v + (b j).toNat) 0).testBit (n - 1 - j) = b j := by
  induction n with
  | zero => simp
  | succ n ih =>
    obtain ⟨hlt, hbit⟩ := ih
    rw [List.range_succ, List.foldl_append, List.foldl_cons, List.foldl_nil, ← Nat.bit_val]
    refine ⟨?_, fun j hj => ?_⟩
    · have hb := (b n).toNat_le
      rw [Nat.bit_val, pow_succ']
      omega
    · rcases Nat.lt_succ_iff_lt_or_eq.1 hj with hj | rfl
      · rw [show n + 1 - 1 - j = (n - 1 - j) + 1 by omega, Nat.testBit_bit_succ, hbit j hj]
      · rw [show j + 1 - 1 - j = 0 by omega, Nat.testBit_bit_zero]

theorem slotDelay_eq (s : State) (p : Nat) : s.slotDelay p = s.get (R.AUD_PORT_CFG_DELAY p) := by
  have hlt : s.get (R.AUD_PORT_CFG_DELAY p) < 2 := get_lt ..
  rw [State.slotDelay, State.flag]
  split
  · next h => exact (of_decide_eq_true h).symm
  · next h =>
    have hne : s.get (R.AUD_PORT_CFG_DELAY p) ≠ 1 := by simpa using h
    omega

/-- A sample received: 24 bits, each sampled at the device's edge. -/
theorem slotIn_bits (s : State) (p : Nat) (din : List PinBit) (i : Nat) : s.slotIn p din i < 2 ^ 24 ∧
    ∀ j < 24, (s.slotIn p din i).testBit (23 - j) = if s.flag (R.AUD_PORT_CFG_BCLK_INV p) = true
      then (din.getD (32 * i + s.slotDelay p + j) {}).falling else (din.getD (32 * i + s.slotDelay p + j) {}).rising :=
  testBit_foldl_bits (fun j => if s.flag (R.AUD_PORT_CFG_BCLK_INV p) = true
    then (din.getD (32 * i + s.slotDelay p + j) {}).falling else (din.getD (32 * i + s.slotDelay p + j) {}).rising) 24

/-- A bit of a slot that is sent (R422, R425). -/
theorem slotOut_bit (s : State) (p : Nat) (f : List Nat) (i : Nat) (hj : j < 32) : s.slotOut p f (32 * i + j) =
    if (s.slotOf (s.tdm p).maskTx (s.tdm p).mapTx i).isSome = true then some (decide (j < 24) && (f.getD i 0).testBit (23 - j))
    else if s.flag (R.AUD_PORT_CFG_TX_HIZ p) = true then none else some false := by
  have hdiv : (32 * i + j) / 32 = i := by omega
  have hmod : (32 * i + j) % 32 = j := by omega
  rw [State.slotOut, hdiv, hmod]
  cases s.slotOf (s.tdm p).maskTx (s.tdm p).mapTx i <;> simp

/-! ### The bit times of a frame -/

theorem pinWave_length : (s.pinWave p pad f).length = 32 * s.slots p := by simp [State.pinWave]

theorem pinWave_get (hi : i < 32 * s.slots p) : (s.pinWave p pad f)[i]? = some
    { fs := if s.flag (R.AUD_PORT_CFG_CLK_OUT p) then some (s.fsLevel p i) else none,
      dout := if i < s.slotDelay p then pad else s.slotOut p f (i - s.slotDelay p),
      launchRising := s.flag (R.AUD_PORT_CFG_BCLK_INV p) } := by
  rw [State.pinWave, List.getElem?_map, List.getElem?_range hi]
  rfl

theorem pinWave_launch {y : PinTime} (hy : y ∈ s.pinWave p pad f) : y.launchRising = s.flag (R.AUD_PORT_CFG_BCLK_INV p) := by
  obtain ⟨i, -, rfl⟩ := List.mem_map.1 hy
  rfl

/-- Bit j of slot i is sent DELAY bit times after 32 i + j. -/
theorem pinWave_dout (hj : j < 32) (h : 32 * i + s.slotDelay p + j < 32 * s.slots p) :
    ∃ y, (s.pinWave p pad f)[32 * i + s.slotDelay p + j]? = some y ∧ y.dout = s.slotOut p f (32 * i + j) := by
  refine ⟨_, pinWave_get h, ?_⟩
  have hpos : ¬32 * i + s.slotDelay p + j < s.slotDelay p := by omega
  have hsub : 32 * i + s.slotDelay p + j - s.slotDelay p = 32 * i + j := by omega
  dsimp only
  rw [if_neg hpos, hsub]

/-- The wave of a frame in the terms of a state with the same configuration of the pins and the same transmit mask. -/
theorem State.SamePins.wave_dout (h : s.SamePins t) (hmask : (t.tdm p).maskTx = (s.tdm p).maskTx) (hmap : (t.tdm p).mapTx = (s.tdm p).mapTx)
    (hj : j < 32) (hij : 32 * i + s.slotDelay p + j < 32 * s.slots p) :
    ∃ y, (t.pinWave p pad f)[32 * i + s.slotDelay p + j]? = some y ∧ y.dout =
      if (s.slotOf (s.tdm p).maskTx (s.tdm p).mapTx i).isSome = true then some (decide (j < 24) && (f.getD i 0).testBit (23 - j))
      else if s.flag (R.AUD_PORT_CFG_TX_HIZ p) = true then none else some false := by
  have hget := pinWave_dout (s := t) (pad := pad) (f := f) hj (by rwa [h.slotDelay, h.slots])
  rwa [slotOut_bit _ _ _ _ hj, h.slotDelay, hmask, hmap, h.slotOf, flag_of_get (h.cfg (g := R.AUD_PORT_CFG_TX_HIZ p) rfl)] at hget

theorem State.SamePins.wave_launch (h : s.SamePins t) {y : PinTime} (hy : y ∈ t.pinWave p pad f) :
    y.launchRising = s.flag (R.AUD_PORT_CFG_BCLK_INV p) := (pinWave_launch hy).trans (flag_of_get (h.cfg rfl))

theorem State.SamePins.wave_fs (h : s.SamePins t) (hi : i < 32 * s.slots p) : ((t.pinWave p pad f)[i]?).bind (·.fs) =
    if s.flag (R.AUD_PORT_CFG_CLK_OUT p) = true then some (s.fsLevel p i) else none := by
  have hlevel : t.fsLevel p i = s.fsLevel p i := by rw [State.fsLevel, State.fsLevel, flag_of_get (h.cfg (g := R.AUD_PORT_CFG_I2S p) rfl)]
  rw [pinWave_get (by rwa [h.slots]), hlevel, flag_of_get (h.cfg (g := R.AUD_PORT_CFG_CLK_OUT p) rfl)]
  rfl

/-- The frame that a port receives, sample by sample. -/
def State.frameIn (s : State) (p : Nat) (din : List PinBit) : List Nat := (List.range (s.slots p)).map (s.slotIn p din)

theorem frameIn_length : (s.frameIn p din).length = s.slots p := by rw [State.frameIn, List.length_map, List.length_range]

theorem frameIn_getD (hi : i < s.slots p) : (s.frameIn p din).getD i 0 = s.slotIn p din i := by
  rw [State.frameIn, List.getD_eq_getElem?_getD, List.getElem?_map, List.getElem?_range hi]
  rfl

/-! ### A frame passes -/

/-- No mask waits at the boundary. -/
theorem frameBoundary_idle (hrx : (s.tdm p).pendRx = false) (htx : (s.tdm p).pendTx = false) : s.frameBoundary p = s.setTdm p (s.tdm p) := by
  simp [State.frameBoundary, State.maskDue, hrx, htx]

/-- A frame counted in both directions. -/
def State.frameCounted (s : State) (p : Nat) : State :=
  ((s.setTdm p (s.tdm p)).inc (R.AUD_PORT_CNT_COUNT p 0)).inc (R.AUD_PORT_CNT_COUNT p 1)

/-- The FIFOs of a port that has received a frame and sent `f`, with `rest` still waiting. -/
def State.framePassed (s : State) (p : Nat) (din : List PinBit) (f : List Nat) (rest : List (List Nat)) : TdmSt :=
  let rx := (s.tdm p).rx ++ [s.frameIn p din]
  { s.tdm p with rx := rx, tx := rest, drains := ((s.tdm p).drains || decide (4 ≤ rx.length)), lastTx := f, lastFs := s.raw }

theorem samePins_frameCounted (hp : p < 8) : s.SamePins (s.frameCounted p) :=
  ((State.SamePins.of_regs (setTdm_regs ..)).trans (.portCount hp (by decide))).trans (.portCount hp (by decide))

/-- The state in which the bit times of a frame are sent. -/
def State.frameAtPins (s : State) (p : Nat) (din : List PinBit) (f : List Nat) (rest : List (List Nat)) : State :=
  (s.frameCounted p).setTdm p (s.framePassed p din f rest)

theorem samePins_frameAtPins (hp : p < 8) : s.SamePins (s.frameAtPins p din f rest) :=
  (samePins_frameCounted hp).trans (.of_regs (setTdm_regs ..))

/-- A frame at the pins of a port that runs on, with no mask waiting, room for the frame received and a frame to send. -/
theorem pinFrame_eq (hp : p < 8) (hpendRx : (s.tdm p).pendRx = false) (hpendTx : (s.tdm p).pendTx = false) (hroom : (s.tdm p).rx.length < 8)
    (htx : (s.tdm p).tx = f :: rest) (hen : s.flag (R.AUD_PORT_CFG_ENABLE p) = true) : ∃ pad, s.pinFrame p din =
      ((s.frameAtPins p din f rest).emit (.tdm p ((s.frameAtPins p din f rest).pinWave p pad f))).showFill p := by
  have hcounted := samePins_frameCounted (s := s) hp
  have hslots : (s.frameCounted p).slots p = s.slots p := hcounted.slots
  have hin : (s.frameCounted p).slotIn p din = s.slotIn p din := funext fun _ => hcounted.slotIn
  have hraw : (s.frameCounted p).raw = s.raw := by rw [State.frameCounted, inc_raw, inc_raw, setTdm_raw]
  have hfull : ¬8 ≤ (s.tdm p).rx.length := by omega
  have hflag (o : Output) : (((s.frameAtPins p din f rest).emit o).showFill p).flag (R.AUD_PORT_CFG_ENABLE p) = true :=
    (flag_of_get ((((samePins_frameAtPins hp).trans (.of_regs (emit_regs ..))).trans (.showFill hp)).cfg rfl)).trans hen
  unfold State.pinFrame
  rw [frameBoundary_idle hpendRx hpendTx]
  unfold State.frameCounted at hslots hin hraw
  simp only [tdm_setTdm, hfull, htx, hslots, hin, hraw, decide_false, Bool.false_eq_true, if_false]
  exact ⟨_, if_pos (hflag _)⟩

/-- What a frame at the pins leaves of the FIFOs, the outputs and the counters. -/
theorem pinFrame_passes (hp : p < 8) (hpendRx : (s.tdm p).pendRx = false) (hpendTx : (s.tdm p).pendTx = false) (hroom : (s.tdm p).rx.length < 8)
    (htx : (s.tdm p).tx = f :: rest) (hen : s.flag (R.AUD_PORT_CFG_ENABLE p) = true) : ∃ pad,
      (s.pinFrame p din).tdm p = s.framePassed p din f rest ∧
      (s.pinFrame p din).out = .tdm p ((s.frameAtPins p din f rest).pinWave p pad f) :: s.out ∧
      ∀ j, (s.pinFrame p din).get (R.AUD_PORT_CNT_COUNT p j) = (s.get (R.AUD_PORT_CNT_COUNT p j) + if j < 2 then 1 else 0) % 2 ^ 64 := by
  obtain ⟨pad, h⟩ := pinFrame_eq (din := din) hp hpendRx hpendTx hroom htx hen
  refine ⟨pad, ?_, ?_, fun j => ?_⟩
  · rw [h, tdm_showFill, tdm_emit, State.frameAtPins, tdm_setTdm]
  · rw [h, State.showFill, set_out, set_out, out_emit, State.frameAtPins, setTdm_out, State.frameCounted, inc_out, inc_out, setTdm_out]
  · have hstate : ((s.frameAtPins p din f rest).emit (.tdm p ((s.frameAtPins p din f rest).pinWave p pad f))).get (R.AUD_PORT_CNT_COUNT p j) =
        (s.frameCounted p).get (R.AUD_PORT_CNT_COUNT p j) := get_of_reg (reg_of_regs (by rw [emit_regs, State.frameAtPins, setTdm_regs]) _)
    have hbefore : (s.setTdm p (s.tdm p)).get (R.AUD_PORT_CNT_COUNT p j) = s.get (R.AUD_PORT_CNT_COUNT p j) := get_of_reg (reg_of_regs (setTdm_regs ..) _)
    rw [h, showFill_portCount, hstate, State.frameCounted, get_inc_portCount, get_inc_portCount, hbefore, Nat.mod_add_mod, Nat.add_assoc]
    congr 2
    split_ifs <;> omega

end Sys2Proof.Machine
end

section
/-! Masks of the TDM ports, the common start, a follower without a clock, and the oscillator-steering loop (10_audio.md R424, R426, R431 to R433). -/

namespace Sys2Proof.Machine

variable {s : State} {p m r g : Nat} {tx : Bool}

/-! ### Masks (R426) -/

/-- A direction as the registers number it. -/
def dirIx (tx : Bool) : Nat := if tx = true then 1 else 0

namespace TdmSt

/-- The mask of a direction that is in force at a port, whether one waits for a frame boundary, and since when. -/
def mask (x : TdmSt) (tx : Bool) : Nat := if tx = true then x.maskTx else x.maskRx
def pend (x : TdmSt) (tx : Bool) : Bool := if tx = true then x.pendTx else x.pendRx
def since (x : TdmSt) (tx : Bool) : Nat := if tx = true then x.sinceTx else x.sinceRx

/-- A mask of a direction waits, since raw time `now` or an earlier one. -/
def waiting (x : TdmSt) (tx : Bool) (now : Nat) : TdmSt :=
  if tx = true then { x with pendTx := true, sinceTx := if x.pendTx = true then min x.sinceTx now else now }
  else { x with pendRx := true, sinceRx := if x.pendRx = true then min x.sinceRx now else now }

variable {x : TdmSt} {now : Nat}

theorem waiting_pend : (x.waiting tx now).pend tx = true := by cases tx <;> rfl

theorem waiting_mask (dir : Bool) : (x.waiting tx now).mask dir = x.mask dir := by cases tx <;> rfl

theorem waiting_since : (x.waiting tx now).since tx = if x.pend tx = true then min (x.since tx) now else now := by cases tx <;> rfl

theorem waiting_since_le : (x.waiting tx now).since tx ≤ now := by
  rw [waiting_since]
  split
  · exact Nat.min_le_right ..
  · exact Nat.le_refl _

end TdmSt

theorem fabCycle_mono {a b : Nat} (h : a ≤ b) : fabCycle a ≤ fabCycle b := Nat.div_le_div_right (Nat.mul_le_mul_right 3 h)

@[simp] theorem tdm_setTimed (s : State) (cyc : Nat → Nat) (k : Nat) (v : Word) (p : Nat) : (s.setTimed cyc k v).tdm p = s.tdm p := (rfl)
@[simp] theorem setTimed_raw (s : State) (cyc : Nat → Nat) (k : Nat) (v : Word) : (s.setTimed cyc k v).raw = s.raw := (rfl)
@[simp] theorem setTimed_mem (s : State) (cyc : Nat → Nat) (k : Nat) (v : Word) : (s.setTimed cyc k v).mem = s.mem := (rfl)
@[simp] theorem reg_setTimed (s : State) (cyc : Nat → Nat) (k : Nat) (v : Word) : (s.setTimed cyc k v).reg k = v := reg_setReg_same ..

/-- In a later cycle, the value of the cycle before is the one that was set. -/
theorem setTimed_regBefore {cyc : Nat → Nat} {k : Nat} {v : Word} {t : State} (hb : t.before = (s.setTimed cyc k v).before)
    (hr : cyc s.raw ≠ cyc t.raw) : t.regBefore cyc k = t.reg k := by
  have hfind : tfind t.before k = some (s.raw, s.regBefore cyc k) := by rw [hb]; exact tfind_tput_same ..
  rw [State.regBefore, hfind]
  exact if_neg hr

theorem maskWrite_eq (s : State) (p : Nat) (tx : Bool) (m : Nat) : s.maskWrite p tx m =
    (s.setTimed fabCycle (R.AUD_PORT_MASK_MASK p (dirIx tx)).key (withBits (s.reg (R.AUD_PORT_MASK_MASK p (dirIx tx)).key) 0 32 m)).setTdm p
      ((s.tdm p).waiting tx s.raw) := by
  simp only [State.maskWrite, tdm_setTimed, setTimed_raw]
  rfl

theorem maskDue_eq (s : State) (p : Nat) (tx : Bool) :
    s.maskDue p (dirIx tx) = ((s.tdm p).pend tx && decide (fabCycle ((s.tdm p).since tx) < fabCycle s.raw)) := by cases tx <;> rfl

theorem maskWrite_reg (s : State) (p : Nat) (tx : Bool) (m : Nat) : (s.maskWrite p tx m).reg (R.AUD_PORT_MASK_MASK p (dirIx tx)).key =
    withBits (s.reg (R.AUD_PORT_MASK_MASK p (dirIx tx)).key) 0 32 m := by
  rw [maskWrite_eq]
  exact (reg_of_regs (setTdm_regs ..) _).trans (reg_setTimed ..)

theorem maskWrite_get (s : State) (p : Nat) (tx : Bool) (m : Nat) : (s.maskWrite p tx m).get (R.AUD_PORT_MASK_MASK p (dirIx tx)) = m % 2 ^ 32 := by
  rw [State.get, maskWrite_reg]
  exact bitsOf_withBits_same _ _ _ _ (by decide)

theorem maskWrite_tdm (s : State) (p : Nat) (tx : Bool) (m : Nat) : (s.maskWrite p tx m).tdm p = (s.tdm p).waiting tx s.raw := by
  rw [maskWrite_eq, tdm_setTdm]

theorem maskWrite_raw (s : State) (p : Nat) (tx : Bool) (m : Nat) : (s.maskWrite p tx m).raw = s.raw := by
  rw [maskWrite_eq, setTdm_raw, setTimed_raw]

theorem maskWrite_mem (s : State) (p : Nat) (tx : Bool) (m : Nat) : (s.maskWrite p tx m).mem = s.mem := by
  rw [maskWrite_eq, setTdm_mem, setTimed_mem]

/-- A mask written where none waited is not due in its own CLK_FAB cycle. -/
theorem maskWrite_fresh (hp : (s.tdm p).pend tx = false) : (s.maskWrite p tx m).maskDue p (dirIx tx) = false := by
  rw [maskDue_eq, maskWrite_tdm, maskWrite_raw, TdmSt.waiting_since, hp]
  simp

/-- A state at another raw time. -/
def State.atRaw (s : State) (r : Nat) : State := { s with raw := r }

theorem tdm_atRaw (s : State) (r p : Nat) : (s.atRaw r).tdm p = s.tdm p := (rfl)
theorem before_atRaw (s : State) (r : Nat) : (s.atRaw r).before = s.before := (rfl)
theorem get_atRaw (s : State) (r : Nat) (f : Field) : (s.atRaw r).get f = s.get f := (rfl)

theorem maskWrite_due (hr : fabCycle s.raw < fabCycle r) : ((s.maskWrite p tx m).atRaw r).maskDue p (dirIx tx) = true := by
  have hsince : fabCycle (((s.tdm p).waiting tx s.raw).since tx) < fabCycle r := (fabCycle_mono TdmSt.waiting_since_le).trans_lt hr
  rw [maskDue_eq, tdm_atRaw, maskWrite_tdm, TdmSt.waiting_pend, Bool.true_and]
  exact decide_eq_true hsince

theorem maskWrite_getBefore (hr : fabCycle s.raw < fabCycle r) :
    ((s.maskWrite p tx m).atRaw r).getBefore fabCycle (R.AUD_PORT_MASK_MASK p (dirIx tx)) = m % 2 ^ 32 := by
  have hbefore : ((s.maskWrite p tx m).atRaw r).before = (s.setTimed fabCycle (R.AUD_PORT_MASK_MASK p (dirIx tx)).key
      (withBits (s.reg (R.AUD_PORT_MASK_MASK p (dirIx tx)).key) 0 32 m)).before := by rw [before_atRaw, maskWrite_eq, setTdm_before]
  rw [State.getBefore, setTimed_regBefore hbefore (Nat.ne_of_lt hr)]
  exact (get_atRaw ..).trans (maskWrite_get s p tx m)

/-- A frame boundary applies the mask of a direction exactly if it is due. -/
theorem frameBoundary_mask (s : State) (p : Nat) (tx : Bool) : ((s.frameBoundary p).tdm p).mask tx =
    if s.maskDue p (dirIx tx) = true then s.getBefore fabCycle (R.AUD_PORT_MASK_MASK p (dirIx tx)) else (s.tdm p).mask tx := by
  cases tx with
  | false => simp only [State.frameBoundary, tdm_setTdm, TdmSt.mask, dirIx, Bool.false_eq_true, if_false, apply_ite TdmSt.maskRx, ite_self]
  | true => simp only [State.frameBoundary, tdm_setTdm, TdmSt.mask, dirIx, if_true, apply_ite TdmSt.maskTx, ite_self]

theorem frameBoundary_mem (s : State) (p : Nat) : (s.frameBoundary p).mem = s.mem := setTdm_mem ..

/-! ### Common start (R433) -/

theorem pgOwner_of_disarmed (h : s.flag R.AUD_START_ARM = false) (g : Nat) :
    s.pgOwner g = if s.flag (R.TB_PG_CTRL_PIN_EN g) = true then some (K.TB_PG_CTRL g) else none := by
  simp [State.pgOwner, h]

/-- AUD_START with SET and PG written. -/
def State.startWritten (s : State) (set pg : Nat) : State := (s.set R.AUD_START_SET set).set R.AUD_START_PG pg

theorem startWritten_get {set pg : Nat} {f : Field} (hset : R.AUD_START_SET.Apart f) (hpg : R.AUD_START_PG.Apart f) :
    (s.startWritten set pg).get f = s.get f := by rw [State.startWritten, get_set_apart hpg, get_set_apart hset]

theorem startWritten_disarmed {set pg : Nat} (h : s.flag R.AUD_START_ARM = false) : (s.startWritten set pg).flag R.AUD_START_ARM = false :=
  (flag_of_get (startWritten_get (.inr (by decide)) (.inr (by decide)))).trans h

theorem startWritten_pgOwner {set pg : Nat} (h : s.flag R.AUD_START_ARM = false) : (s.startWritten set pg).pgOwner g = s.pgOwner g := by
  have hkey : (R.TB_PG_CTRL_PIN_EN g).key ≠ 0xc00010 := by simp only [R.TB_PG_CTRL_PIN_EN]; omega
  rw [pgOwner_of_disarmed h, pgOwner_of_disarmed (startWritten_disarmed h), flag_of_get (startWritten_get (.inl hkey) (.inl hkey))]

/-- The generator `pg` is the common start's. -/
def State.startArmed (s : State) (pg : Nat) : State := ((s.setFlag R.AUD_START_ARM true).set R.AUD_START_STATE 1).set (R.TB_PG_STATUS_STATE pg) 1

theorem audArm_eq {set pg : Nat} (h : s.flag R.AUD_START_ARM = false) : s.audArm set pg true =
    (s.startWritten set pg).claim K.AUD_START ((s.startWritten set pg).pgOwners pg) (fun s => s.set R.AUD_START_STATE 2) (fun s => s.startArmed pg) := by
  simp only [State.audArm, h, Bool.false_eq_true, false_and, if_false, if_true]
  rfl

/-- The generator's status lies in no register of the common start. -/
theorem startArmed_get {pg : Nat} {f : Field} (hf : f.key = 0xc00010) :
    (s.startArmed pg).get f = ((s.setFlag R.AUD_START_ARM true).set R.AUD_START_STATE 1).get f :=
  get_set_other _ _ _ _ (by simp only [hf, R.TB_PG_STATUS_STATE]; omega)

/-- ARM and STATE are written beside the other fields of AUD_START. -/
theorem startArmed_get_beside {pg : Nat} {f : Field} (hf : f.key = 0xc00010) (harm : R.AUD_START_ARM.Apart f) (hst : R.AUD_START_STATE.Apart f) :
    (s.startArmed pg).get f = s.get f := by
  rw [startArmed_get hf, get_set_apart hst, get_setFlag_apart harm]

theorem startArmed_arm (s : State) (pg : Nat) : (s.startArmed pg).flag R.AUD_START_ARM = true := by
  rw [flag_of_get (startArmed_get rfl), flag_set_apart (.inr (by decide))]
  exact flag_setFlag_same _ R.AUD_START_ARM _ (by decide) (by decide)

theorem startArmed_state (s : State) (pg : Nat) : (s.startArmed pg).get R.AUD_START_STATE = 1 :=
  (startArmed_get rfl).trans (get_set_same _ R.AUD_START_STATE _ (by decide))

theorem startArmed_generator (s : State) (pg : Nat) : (s.startArmed pg).get (R.TB_PG_STATUS_STATE pg) = 1 :=
  get_set_same _ (R.TB_PG_STATUS_STATE pg) _ (show 0 + 2 ≤ 64 by decide)

theorem startWritten_set (s : State) (set : BitVec 8) (pg : Nat) : (s.startWritten set.toNat pg).get R.AUD_START_SET = set.toNat := by
  rw [State.startWritten, get_set_apart (.inr (by decide)), get_set_same _ R.AUD_START_SET _ (by decide)]
  exact Nat.mod_eq_of_lt set.isLt

theorem startWritten_pg (s : State) (set : Nat) (pg : BitVec 3) : (s.startWritten set pg.toNat).get R.AUD_START_PG = pg.toNat :=
  (get_set_same _ R.AUD_START_PG _ (by decide)).trans (Nat.mod_eq_of_lt pg.isLt)

@[simp] theorem claimed_get (s : State) (off : Nat) (f : Field) : (s.claimed off).get f = s.get f := (rfl)
@[simp] theorem claimed_flag (s : State) (off : Nat) (f : Field) : (s.claimed off).flag f = s.flag f := (rfl)

/-- A generator that nothing owns is claimed. -/
theorem audArm_free {set pg : Nat} (h : s.flag R.AUD_START_ARM = false) (hown : s.pgOwner pg = none) :
    s.audArm set pg true = ((s.startWritten set pg).startArmed pg).claimed K.AUD_START := by
  rw [audArm_eq h, State.pgOwners, startWritten_pgOwner h, hown]
  rfl

/-- A generator whose output has a ball is refused: its register's offset is the lower one (R73). -/
theorem audArm_owned {set pg o : Nat} (h : s.flag R.AUD_START_ARM = false) (hpg : pg < 8) (hown : s.pgOwner pg = some o) :
    s.audArm set pg true = ((s.startWritten set pg).set R.AUD_START_STATE 2).refuse K.AUD_START claimPg o := by
  have ho : ¬K.AUD_START < o := by
    rw [pgOwner_of_disarmed h] at hown
    split at hown
    · cases hown
      simp only [K.AUD_START, K.TB_PG_CTRL]
      omega
    · cases hown
  rw [audArm_eq h, State.pgOwners, startWritten_pgOwner h, hown]
  simp [State.claim, State.outranks, ho]

/-! ### A follower without a clock (R424) -/

theorem exec_portNoClock {p : Fin 8} {now : Nat} (hl : s.live = true) (hrun : s.flag (R.AUD_PORT_STATUS_RUNNING p) = true)
    (hclk : s.flag (R.AUD_PORT_CFG_CLK_OUT p) = false) (hno : s.flag (R.AUD_PORT_STATUS_NO_CLOCK p) = false)
    (hlast : (s.tdm p).lastFs * rateOf (s.flag (R.AUD_PORT_CFG_RATE96 p)) + 2000000000 ≤ max s.raw now * rateOf (s.flag (R.AUD_PORT_CFG_RATE96 p))) :
    exec (.portNoClock p now) s = .next (((s.advance now).setFlag (R.AUD_PORT_STATUS_NO_CLOCK p) true).report 407 0 (BitVec.ofNat 64 p)) := by
  rw [exec, execPortNoClock, whenLive_of_live hl]
  exact congrArg _ (if_pos ⟨hrun, hclk, hno, hlast⟩)

/-! ### The oscillator-steering loop (R431) -/

/-- The error of a run: how far the reference FIFO's fill is from four frames, positive where the pins are slow. -/
def State.loopError (s : State) (sub : Nat) : Int :=
  let x := s.tdm (s.get R.AUD_VCXO_CFG_REF_PORT)
  if s.flag R.AUD_VCXO_CFG_REF_TX = true then (x.tx.length * 256 + sub : Nat) - 1024 else 1024 - (x.rx.length * 256 + sub : Nat)

/-- The integral of a run. -/
def State.loopAcc (s : State) (sub : Nat) : Int := min (max (s.vcxo.acc + s.get R.AUD_VCXO_GAIN_KI * s.loopError sub) (-(2 ^ 31))) (2 ^ 31 - 1)

/-- The duty of a run. -/
def State.loopDuty (s : State) (sub : Nat) : Int :=
  min (max (s.get R.AUD_VCXO_CFG_CENTRE + Int.tdiv (s.get R.AUD_VCXO_GAIN_KP * s.loopError sub + s.loopAcc sub) 65536) (s.get R.AUD_VCXO_GAIN_DUTY_MIN))
    (s.get R.AUD_VCXO_GAIN_DUTY_MAX)

theorem loopDuty_range (s : State) (sub : Nat) : 0 ≤ s.loopDuty sub ∧ s.loopDuty sub < 65536 := by
  have hmax : s.get R.AUD_VCXO_GAIN_DUTY_MAX < 65536 := get_lt ..
  rw [State.loopDuty]
  omega

/-- A run of a loop that is not locked and has not been at a limit for long. -/
theorem vcxoRun_steers {sub : Nat} (hlock : s.flag R.AUD_VCXO_STATUS_LOCKED = false) (hlim : s.vcxo.limit < 999) :
    (s.vcxoRun sub).vcxo.acc = s.loopAcc sub ∧
      ((s.vcxoRun sub).get R.AUD_VCXO_STATUS_DUTY : Int) = s.loopDuty sub ∧
      ((s.vcxoRun sub).flag R.AUD_VCXO_STATUS_LOCKED = true ↔ (s.loopError sub).natAbs ≤ s.get R.AUD_VCXO_CFG_LOCK_TOL ∧ 63 ≤ s.vcxo.good) := by
  unfold State.vcxoRun
  extract_lets port tx f e acc u lo hi duty good limit x s1 s2 s3 s4
  have he : e = s.loopError sub := by
    cases h : s.flag R.AUD_VCXO_CFG_REF_TX <;> simp [e, f, tx, port, State.loopError, h]
  have hacc : acc = s.loopAcc sub := by simp only [acc, he, State.loopAcc]
  have hduty : duty = s.loopDuty sub := by simp only [duty, u, lo, hi, he, hacc, State.loopDuty]
  have hunlocked : s3.flag R.AUD_VCXO_STATUS_LOCKED = false := (flag_set_apart (s := s1) (f := R.AUD_VCXO_STATUS_DUTY) (.inr (by decide))).trans hlock
  have hlimit : limit ≠ 1000 := by
    simp only [limit]
    split <;> omega
  have hgood : 64 ≤ good ↔ e.natAbs ≤ s.get R.AUD_VCXO_CFG_LOCK_TOL ∧ 63 ≤ s.vcxo.good := by
    simp only [good]
    split <;> omega
  have hs4 : s4 = if 64 ≤ good then s3.setFlag R.AUD_VCXO_STATUS_LOCKED true else s3 := if_neg (by rw [hunlocked]; decide)
  have hshown : (s3.get R.AUD_VCXO_STATUS_DUTY : Int) = s.loopDuty sub := by
    obtain ⟨hlo, hhi⟩ := loopDuty_range s sub
    have hset : s3.get R.AUD_VCXO_STATUS_DUTY = ofSigned duty 16 % 2 ^ 16 := get_set_same s1 R.AUD_VCXO_STATUS_DUTY _ (by decide)
    rw [hset, hduty, ofSigned]
    omega
  rw [if_neg hlimit, hs4, ← he, ← hgood]
  split
  · next h =>
    refine ⟨hacc, ?_, iff_of_true (flag_setFlag_same _ _ _ (by decide) (by decide)) h⟩
    rw [get_setFlag_apart (.inr (by decide)), hshown]
  · next h => exact ⟨hacc, hshown, iff_of_false (by rw [hunlocked]; decide) h⟩

theorem exec_vcxoLoopRun {sub : BitVec 8} {now : Nat} (hl : s.live = true) (hen : s.flag R.AUD_VCXO_CFG_ENABLE = true)
    (hms : (s.advance now).now / 1000000 ≠ s.vcxo.lastMs) : exec (.vcxoLoopRun sub now) s =
      .next ({ s.advance now with vcxo := { s.vcxo with lastMs := (s.advance now).now / 1000000 } }.vcxoRun sub.toNat) := by
  rw [exec, execVcxoLoopRun, whenLive_of_live hl]
  exact congrArg _ (if_pos ⟨hen, hms⟩)

end Sys2Proof.Machine
end

section
/-! The commands of the audio block, and the statement about them (10_audio.md R416 to R433). -/

namespace Sys2Proof.Machine

variable {s : State}

/-! ### Commands -/

theorem exec_tdmPinFrame {p : Fin 8} {din : List PinBit} {now : Nat} (hl : s.live = true) (hrun : s.flag (R.AUD_PORT_STATUS_RUNNING p) = true)
    (hon : s.flag R.AUD_CTRL_ENABLE = true) (hstart : (s.tdm p).startAt = none) :
    exec (.tdmPinFrame p din now) s = .next ((s.advance now).pinFrame p din) := by
  have hstart' : ((s.advance now).tdm p).startAt = none := hstart
  rw [exec, execTdmPinFrame, whenLive_of_live hl]
  simp only [hstart']
  exact congrArg _ (if_pos ⟨hrun, hon⟩)

theorem exec_audPortMaskWrite {p : Fin 8} {tx : Bool} {m : BitVec 32} (hu : s.up = true) (hh : s.halted = false) :
    exec (.audPortMaskWrite p tx m) s = .next (s.maskWrite p tx m.toNat) := by
  rw [exec, execAudPortMaskWrite, whenWr_of_up hu hh]

theorem exec_audStartArm {set : BitVec 8} {pg : BitVec 3} (hu : s.up = true) (hh : s.halted = false) :
    exec (.audStartArm set pg) s = .next (s.audArm set.toNat pg.toNat true) := by
  rw [exec, execAudStartArm, whenWr_of_up hu hh]

theorem advance_sampleAt (s : State) (now b n c : Nat) : (s.advance now).sampleAt b n c = s.sampleAt b n c := by
  rw [sampleAt_eq (s := s) (t := s.advance now) rfl rfl, bytes_of_mem (advance_mem ..), State.sampleAt]

/-! ### The statement -/

/-- Settles O46: a sample has one of four outcomes, a buffer's period hangs on nothing that the periods of the others and the release of units to egress write,
and a frame at the pins, a mask, the common start and the loop each write registers of their own. -/
theorem audioBuffersAndPorts : Obligations.AudioBuffersAndPorts := by
  unfold Obligations.AudioBuffersAndPorts
  refine ⟨fun s b c v n _ hon hc hv hr => ?_, fun r96 now s hl hon hidle => ?_, fun p din now s hl hrun hon hen => ?_, fun p tx m s hu hh => ?_,
    fun set pg s hu hh harm => ⟨fun hfree => ?_, fun o hown => ?_⟩, fun p now s hl hrun hclk hno hlast => ?_,
    fun sub now s hl hen hms hlock hlim _ => ?_⟩
  · exact ⟨fun j _ => writeSample_counts hon hc hr j, writeSample_mem hon hc hr, writeSample_stored hon hc hr hv⟩
  · refine ⟨_, _, by rw [exec, execMediaSamplePeriod, whenLive_of_live hl], ⟨_, _, rfl⟩, fun b hb hsb hrate hlast hr _ => ?_⟩
    obtain ⟨hlastR, hread, hrep, hvalue⟩ := mediaPeriod_hasRead (s := s.advance now) hon hidle hb hsb hrate hlast hr _
    exact ⟨hlastR, hread, hrep, fun c hc => (hvalue c hc).trans (by rw [advance_sampleAt]; rfl)⟩
  · intro x hstart hrx htx hroom f rest hf d inverted
    obtain ⟨pad, htdm, hout, hcount⟩ := pinFrame_passes (s := s.advance now) (din := din) p.isLt hrx htx hroom hf hen
    have hpins : s.SamePins ((s.advance now).frameAtPins p din f rest) :=
      .trans (t := s.advance now) (.of_regs (advance_regs ..)) (samePins_frameAtPins p.isLt)
    have htx' : ((s.advance now).frameAtPins p din f rest).tdm p = (s.advance now).framePassed p din f rest := tdm_setTdm ..
    have hd : s.slotDelay p = d := slotDelay_eq s p
    refine ⟨_, s.frameIn p din, _, exec_tdmPinFrame hl hrun hon hstart, by rw [htdm]; rfl, by rw [htdm]; rfl, frameIn_length, fun i hi => ?_, hout,
      pinWave_length.trans (by rw [hpins.slots]), fun i _ j hj hij => ?_, fun y hy => hpins.wave_launch hy, fun i hi => hpins.wave_fs hi,
      fun j _ => hcount j⟩
    · rw [frameIn_getD hi, ← hd]
      exact slotIn_bits s p din i
    · rw [← hd] at hij ⊢
      exact hpins.wave_dout (by rw [htx']; rfl) (by rw [htx']; rfl) hj hij
  · have hlt : m.toNat % 2 ^ 32 = m.toNat := Nat.mod_eq_of_lt m.isLt
    have hmask (dir : Bool) : ((s.maskWrite p tx m.toNat).tdm p).mask dir = (s.tdm p).mask dir := by rw [maskWrite_tdm, TdmSt.waiting_mask]
    have hpend : ((s.maskWrite p tx m.toNat).tdm p).pend tx = true := by rw [maskWrite_tdm, TdmSt.waiting_pend]
    refine ⟨_, exec_audPortMaskWrite hu hh, (maskWrite_get ..).trans hlt, hpend, hmask true, hmask false, (frameBoundary_mem ..).trans (maskWrite_mem ..),
      fun r hr => ?_, fun hidle => ?_⟩
    · have happlied := frameBoundary_mask ((s.maskWrite p tx m.toNat).atRaw r) p tx
      rw [maskWrite_due hr, if_pos rfl, maskWrite_getBefore hr, hlt] at happlied
      exact happlied
    · have hkept := frameBoundary_mask (s.maskWrite p tx m.toNat) p tx
      rw [maskWrite_fresh hidle, if_neg (by decide), hmask] at hkept
      cases tx <;> exact hkept
  · refine ⟨_, (exec_audStartArm hu hh).trans (congrArg _ (audArm_free harm hfree)), ?_⟩
    simp only [claimed_get, claimed_flag]
    exact ⟨startArmed_arm .., startArmed_state .., (startArmed_get_beside rfl (.inr (by decide)) (.inr (by decide))).trans (startWritten_set ..),
      (startArmed_get_beside rfl (.inr (by decide)) (.inr (by decide))).trans (startWritten_pg ..), startArmed_generator ..⟩
  · refine ⟨_, (exec_audStartArm hu hh).trans (congrArg _ (audArm_owned harm pg.isLt hown)), ?_, ?_⟩
    · rw [flag_set_apart (.inr (by decide)), startWritten_disarmed harm]
    · exact get_set_same _ R.AUD_START_STATE _ (by decide)
  · exact ⟨_, exec_portNoClock hl hrun hclk hno hlast, flag_setFlag_same _ _ _ (show 1 + 1 ≤ 64 by decide) (show 0 < 1 by decide)⟩
  · intro x e acc u
    exact ⟨_, exec_vcxoLoopRun hl hen hms, vcxoRun_steers hlock hlim⟩

end Sys2Proof.Machine
end

section
/-! A datagram that ends a MUX task of a class that R149 does not have: the count of its class falls on the count of the datagrams with a PCR (R456, R468). -/

namespace Sys2Proof.Machine

/-- A task class far beyond those of R149: a task entry's class is any number in the model, and this one's register of completed tasks is the register
that counts the datagrams with a PCR. -/
def strayClass : Nat := ((R.MUX_CNT_COUNT 3).key - (R.DSP_CNT_COMPLETED 0).key) / 8 + 1

/-- A MUX block of one packet that task 0 has handed over and that is due at time 0 (R468). -/
def dueBlock : TsPart := { left := 1, pid := 0x100, task := some 0 }

/-- The reset device with stream 0 as a transport stream whose first datagram is due at raw time 0, and task 0, of that class, with a block for it. -/
def streamWithStrayTask : State :=
  { ((((State.reset.setFlag R.MUX_CTRL_ENABLE true).setFlag (R.MUX_STR_CFG_ENABLE 0) true).set (R.MUX_STR_CFG_FORMAT 0) 1).set
      (R.MUX_STR_RATE_TS_RATE_KBPS 0) 10528) with
    strs := [(0, { ({} : StrSt) with t0 := some 0, mux := [dueBlock] })],
    tasks := [(0, { ({} : TaskEntry) with st := .running, d := { ({} : Desc) with cls := strayClass } })] }

theorem streamWithStrayTask_live : streamWithStrayTask.live = true := by decide +kernel

/-- The stream builds, its next datagram is due, and it has sent no PCR yet. -/
theorem streamWithStrayTask_due : streamWithStrayTask.tsOn 0 = true ∧ (streamWithStrayTask.str 0).t0.isSome = true ∧
    streamWithStrayTask.get (R.MUX_STR_RATE_TS_RATE_KBPS 0) ≠ 0 ∧
    streamWithStrayTask.cadence 0 (streamWithStrayTask.str 0) ≤ max streamWithStrayTask.raw 0 * 2 ^ 32 ∧ (streamWithStrayTask.str 0).pcrAt = none := by
  decide +kernel

/-- What a command leaves in MUX's count of the datagrams with a PCR. -/
def pcrCountAfter : Out → Nat
  | .next t => t.get (R.MUX_CNT_COUNT 3)
  | _ => 0

/-- The datagram, which carries a PCR, and the end of the task are both counted there. -/
theorem tsDatagramRelease_counts_twice : streamWithStrayTask.get (R.MUX_CNT_COUNT 3) = 0 ∧
    pcrCountAfter (Sys2Proof.Machine.exec (.tsDatagramRelease 0 0) streamWithStrayTask) = 2 := by
  decide +kernel

/-- Refutes O47: its clause about TS_DATAGRAM_RELEASE asks one count of PCR in every state, so also in one whose stream holds a block of a MUX task of
class 1531763; the datagram ends that task, and the register in which such a task is counted as completed is MUX_CNT 3 itself. -/
theorem not_egressScheduling : ¬ Obligations.EgressScheduling := by
  unfold Obligations.EgressScheduling
  rintro ⟨-, -, -, -, -, -, -, datagram, -⟩
  obtain ⟨hon, ht0, hrate, hdue, hpcr⟩ := streamWithStrayTask_due
  obtain ⟨t, hnext, hone⟩ := datagram 0 0 streamWithStrayTask streamWithStrayTask_live rfl hon ht0 hrate hdue hpcr
  obtain ⟨hbefore, htwo⟩ := tsDatagramRelease_counts_twice
  rw [hnext, pcrCountAfter, hone, hbefore] at htwo
  exact absurd htwo (by decide)

end Sys2Proof.Machine
end

section
/-! Local time and what it hangs on, signed fields, and what epochs, folds, rates and steps leave (12_timebase.md R491 to R504). -/

namespace Sys2Proof.Machine

variable {s t u : State} {f g : Field} {x d : Int}

/-! ### Writes of registers leave the timebase's other parts -/

@[simp] theorem set_tb (s : State) (f : Field) (n : Nat) : (s.set f n).tb = s.tb := (rfl)
@[simp] theorem setFlag_tb (s : State) (f : Field) (b : Bool) : (s.setFlag f b).tb = s.tb := (rfl)
@[simp] theorem inc_tb (s : State) (f : Field) : (s.inc f).tb = s.tb := (rfl)
@[simp] theorem setSigned_tb (s : State) (f : Field) (x : Int) : (s.setSigned f x).tb = s.tb := (rfl)

@[simp] theorem set_pgs (s : State) (f : Field) (n : Nat) : (s.set f n).pgs = s.pgs := (rfl)

/-! ### Signed fields -/

theorem ofSigned_lt (x : Int) (w : Nat) : ofSigned x w < 2 ^ w := by
  have hpos : (0 : Int) < (2 ^ w : Nat) := by positivity
  have h0 := Int.emod_nonneg x hpos.ne'
  have h1 := Int.emod_lt_of_pos x hpos
  unfold ofSigned
  omega

theorem signedOf_ofSigned (h : Sys2Proof.Spec.fits x) : signedOf (ofSigned x 64) 64 = x := by
  have hword : BitVec.ofNat 64 (ofSigned x 64) = BitVec.ofInt 64 x := BitVec.eq_of_toNat_eq <| by
    rw [BitVec.toNat_ofNat, BitVec.toNat_ofInt, Nat.mod_eq_of_lt (ofSigned_lt x 64), ofSigned]
  rw [signedOf_succ _ 63, hword, BitVec.toInt_ofInt_eq_self (by decide) h.1 h.2]

theorem get_setSigned_same (h : f.lo + f.w ≤ 64) : (s.setSigned f x).get f = ofSigned x f.w :=
  (get_set_same s f _ h).trans (Nat.mod_eq_of_lt (ofSigned_lt x f.w))

theorem getSigned_setSigned_same (hlo : f.lo = 0) (hw : f.w = 64) (h : Sys2Proof.Spec.fits x) : (s.setSigned f x).getSigned f = x := by
  rw [State.getSigned, get_setSigned_same (by omega), hw, signedOf_ofSigned h]

theorem get_setSigned_apart (h : f.Apart g) : (s.setSigned f x).get g = s.get g := get_set_apart h

theorem getSigned_of_get (h : t.get f = s.get f) : t.getSigned f = s.getSigned f := by rw [State.getSigned, h, State.getSigned]

theorem get_of_regs (h : t.regs = s.regs) : t.get f = s.get f := get_of_reg (reg_of_regs h _)

/-! ### Local time (R491) -/

/-- The two states have the same clock: what local time at a raw value hangs on, and the raw value itself. -/
structure State.SameClock (s t : State) : Prop where
  raw : t.raw = s.raw
  offset : t.get R.TB_OFFSET = s.get R.TB_OFFSET
  rate : t.get R.TB_RATE_NOW = s.get R.TB_RATE_NOW
  a : t.tb.a = s.tb.a
  ra : t.tb.ra = s.tb.ra

namespace State.SameClock

theorem refl : s.SameClock s := ⟨rfl, rfl, rfl, rfl, rfl⟩

theorem trans (h : s.SameClock t) (h' : t.SameClock u) : s.SameClock u :=
  ⟨h'.raw.trans h.raw, h'.offset.trans h.offset, h'.rate.trans h.rate, h'.a.trans h.a, h'.ra.trans h.ra⟩

theorem set {n : Nat} (ho : f.Apart R.TB_OFFSET) (hr : f.Apart R.TB_RATE_NOW) : s.SameClock (s.set f n) :=
  ⟨rfl, get_set_apart ho, get_set_apart hr, rfl, rfl⟩

theorem setReg {k : Nat} {v : Word} (ho : 0x60020 ≠ k) (hr : 0x60068 ≠ k) : s.SameClock (s.setReg k v) :=
  ⟨rfl, get_of_reg (reg_setReg_other _ _ _ _ ho), get_of_reg (reg_setReg_other _ _ _ _ hr), rfl, rfl⟩

theorem of_regs (hregs : t.regs = s.regs) (hraw : t.raw = s.raw) (ha : t.tb.a = s.tb.a) (hra : t.tb.ra = s.tb.ra) : s.SameClock t :=
  ⟨hraw, get_of_regs hregs, get_of_regs hregs, ha, hra⟩

theorem localAt (h : s.SameClock t) (r : Nat) : t.localAt r = s.localAt r := by
  rw [State.localAt, State.localAt, getSigned_of_get h.offset, getSigned_of_get h.rate, h.a, h.ra]

theorem now (h : s.SameClock t) : t.now = s.now := by rw [State.now, State.now, h.raw, h.localAt]

end State.SameClock

/-- Another offset moves local time by the difference. -/
theorem now_of_offset (hraw : t.raw = s.raw) (hoff : t.getSigned R.TB_OFFSET = s.getSigned R.TB_OFFSET + d)
    (hrate : t.get R.TB_RATE_NOW = s.get R.TB_RATE_NOW) (ha : t.tb.a = s.tb.a) (hra : t.tb.ra = s.tb.ra) : t.now = s.now + d := by
  rw [State.now, State.now, State.localAt, State.localAt, hraw, hoff, getSigned_of_get hrate, ha, hra]
  ring

/-! ### Folds and rates (R492, R493) -/

/-- The correction that has accumulated since the anchor, in units of 2^-40 ns. -/
def State.accrued (s : State) : Int := (s.tb.a : Int) + s.getSigned R.TB_RATE_NOW * ((s.raw : Int) - s.tb.ra)

theorem fold_regs (s : State) : s.fold.regs = (s.setSigned R.TB_OFFSET (s.getSigned R.TB_OFFSET + s.accrued / 2 ^ 40)).regs := rfl

theorem fold_get (h : R.TB_OFFSET.Apart g) : s.fold.get g = s.get g := (get_of_regs (fold_regs s)).trans (get_setSigned_apart h)

theorem fold_tb (s : State) : s.fold.tb = { s.tb with a := (s.accrued % 2 ^ 40).toNat, ra := s.raw } := by
  simp only [State.fold, State.accrued, setSigned_tb, setSigned_raw]

theorem fold_raw (s : State) : s.fold.raw = s.raw := by simp only [State.fold, setSigned_raw]

theorem fold_remainder (s : State) : (s.fold.tb.a : Int) = s.accrued % 2 ^ 40 := by
  rw [fold_tb]
  exact Int.toNat_of_nonneg (Int.emod_nonneg _ (by norm_num))

theorem fold_remainder_lt (s : State) : s.fold.tb.a < 2 ^ 40 := by
  have h := Int.emod_lt_of_pos s.accrued (show (0 : Int) < 2 ^ 40 by norm_num)
  have hr := fold_remainder s
  omega

/-- With the anchor at the present instant the rate does not matter to local time. -/
theorem now_of_anchor (hra : s.tb.ra = s.raw) : s.now = s.raw + s.getSigned R.TB_OFFSET + (s.tb.a : Int) / 2 ^ 40 := by
  rw [State.now, State.localAt, hra, sub_self, mul_zero, add_zero]

/-- What is below a ns stays in the remainder, and the rest goes into the offset; so a state with the fold's anchor and offset has the old local time. -/
theorem now_of_fold (hfit : Sys2Proof.Spec.fits (s.getSigned R.TB_OFFSET + s.accrued / 2 ^ 40)) (hraw : t.raw = s.raw)
    (hoff : t.get R.TB_OFFSET = s.fold.get R.TB_OFFSET) (htb : t.tb = s.fold.tb) : t.now = s.now := by
  have hfold : s.fold.getSigned R.TB_OFFSET = s.getSigned R.TB_OFFSET + s.accrued / 2 ^ 40 :=
    (getSigned_of_get (get_of_regs (fold_regs s))).trans (getSigned_setSigned_same rfl rfl hfit)
  have hsmall : s.accrued % 2 ^ 40 / 2 ^ 40 = 0 :=
    Int.ediv_eq_zero_of_lt (Int.emod_nonneg _ (by norm_num)) (Int.emod_lt_of_pos _ (by norm_num))
  have hra : t.tb.ra = t.raw := by rw [htb, fold_tb, hraw]
  rw [now_of_anchor hra, getSigned_of_get hoff, hfold, htb, fold_remainder, hsmall, hraw, State.now, State.localAt, ← State.accrued]
  ring

theorem clampRate_of_le (h : x.natAbs ≤ 219902325) : clampRate x = x := by unfold clampRate rateLimit; omega

theorem clampRate_of_lt (h : 219902325 < x.natAbs) : clampRate x = if x < 0 then -219902325 else 219902325 := by
  unfold clampRate rateLimit
  split <;> omega

theorem setRate_of_le (h : x.natAbs ≤ 219902325) : s.setRate x = s.fold.setSigned R.TB_RATE_NOW x := by
  rw [State.setRate, clampRate_of_le h, if_neg (not_not.2 rfl)]

theorem setRate_of_lt (h : 219902325 < x.natAbs) :
    s.setRate x = ((s.fold.setSigned R.TB_RATE_NOW (clampRate x)).inc (R.TB_CNT_COUNT 6)).report 20 0 := by
  have hne : x ≠ clampRate x := by rw [clampRate_of_lt h]; split <;> omega
  rw [State.setRate, if_pos hne]

/-- A rate in force, as the register holds it. -/
theorem rate_fits (h : x.natAbs ≤ 219902325) : Sys2Proof.Spec.fits x := ⟨by omega, by omega⟩

theorem clampRate_le (x : Int) : (clampRate x).natAbs ≤ 219902325 := by unfold clampRate rateLimit; omega

/-! ### Epochs (R497) -/

/-- The epoch counted, and its step given back. -/
def State.epochOpened (s : State) : State := (s.inc R.TB_EPOCH_EPOCH).setFlag R.TB_STATUS_STEP_USED (decide (s.tb.stepRaw = some s.raw))

/-- EPOCH posted to the thread of every channel. -/
def State.epochPosted (s : State) : State := (List.range 256).foldl (fun s c => s.postCh c 14) s

theorem newEpoch_eq (s : State) : s.newEpoch = s.epochOpened.epochPosted.raiseLines 4 := rfl

theorem postCh_eq (s : State) (c e : Nat) : s.postCh c e = { s with hwSeq := (s.postCh c e).hwSeq, readyCtr := (s.postCh c e).readyCtr } := by
  unfold State.postCh
  split <;> rfl

theorem postCh_regs (s : State) (c e : Nat) : (s.postCh c e).regs = s.regs := by rw [postCh_eq]

theorem raiseLine_eq (s : State) (k l : Nat) : s.raiseLine k l = { s with cores := (s.raiseLine k l).cores } := by
  simp only [State.raiseLine]
  split <;> rfl

/-- What no line raised changes, raising a line of every core leaves. -/
theorem raiseLines_keeps {β : Type} (part : State → β) (h : ∀ s k l, part (State.raiseLine s k l) = part s) (s : State) (l : Nat) :
    part (s.raiseLines l) = part s := by rw [State.raiseLines, h, h, h, h]

/-- What neither a post nor a line raised changes, a new epoch leaves as opening it does. -/
theorem newEpoch_keeps {β : Type} (part : State → β) (hpost : ∀ s c, part (State.postCh s c 14) = part s)
    (hline : ∀ s k l, part (State.raiseLine s k l) = part s) (s : State) : part s.newEpoch = part s.epochOpened := by
  rw [newEpoch_eq, raiseLines_keeps part hline, State.epochPosted]
  exact foldl_keeps part _ hpost _ _

theorem newEpoch_regs (s : State) : s.newEpoch.regs = s.epochOpened.regs :=
  newEpoch_keeps State.regs (fun s c => postCh_regs s c 14) (fun s k l => by rw [raiseLine_eq]) s

theorem newEpoch_sameClock (s : State) : s.SameClock s.newEpoch := by
  have hopen : s.SameClock s.epochOpened :=
    .trans (t := s.inc R.TB_EPOCH_EPOCH) (.set (.inl (by decide)) (.inl (by decide))) (.set (.inl (by decide)) (.inl (by decide)))
  have hraw : s.newEpoch.raw = s.epochOpened.raw := newEpoch_keeps State.raw (fun s c => by rw [postCh_eq]) (fun s k l => by rw [raiseLine_eq]) s
  have htb : s.newEpoch.tb = s.epochOpened.tb := newEpoch_keeps State.tb (fun s c => by rw [postCh_eq]) (fun s k l => by rw [raiseLine_eq]) s
  exact hopen.trans (.of_regs (newEpoch_regs s) hraw (congrArg _ htb) (congrArg _ htb))

theorem newEpoch_epoch (s : State) : s.newEpoch.get R.TB_EPOCH_EPOCH = (s.get R.TB_EPOCH_EPOCH + 1) % 2 ^ 32 := by
  rw [get_of_regs (newEpoch_regs s), State.epochOpened, get_setFlag_apart (.inl (by decide))]
  exact get_inc_same (by decide)

theorem newEpoch_stepUsed (s : State) : s.newEpoch.flag R.TB_STATUS_STEP_USED = decide (s.tb.stepRaw = some s.raw) := by
  rw [flag_of_get (get_of_regs (newEpoch_regs s))]
  exact flag_setFlag_same _ R.TB_STATUS_STEP_USED _ (by decide) (by decide)

theorem boundThread_of_reg {c : Nat} (h : t.reg (R.CTX_BIND_VALID c).key = s.reg (R.CTX_BIND_VALID c).key) : t.boundThread c = s.boundThread c := by
  rw [State.boundThread, State.boundThread, flag_of_get (get_of_reg h), get_of_reg (f := R.CTX_BIND_THREAD c) h]

theorem postCh_hwSeq (s : State) (c e : Nat) : s.hwSeq ⊆ (s.postCh c e).hwSeq := by
  unfold State.postCh
  split
  · exact List.subset_append_left ..
  · exact List.Subset.refl _

/-- The thread bound to a channel has EPOCH among its events. -/
theorem epochPosted_posts {c n : Nat} (hc : c < 256) (hb : s.boundThread c = some n) : ∃ q ∈ s.epochPosted.hwSeq, q.thread = n ∧ q.event = 14 := by
  unfold State.epochPosted
  refine foldl_establishes (I := fun t => t.regs = s.regs) (Q := fun t => ∃ q ∈ t.hwSeq, q.thread = n ∧ q.event = 14) (a := c)
    (fun t b _ h => (postCh_regs t b 14).trans h) (fun t h => ?_) (fun t b _ _ _ hq => ?_) (List.mem_range.2 hc) s rfl
  · rw [State.postCh, boundThread_of_reg (reg_of_regs h _), hb]
    exact ⟨_, List.mem_append_right _ (List.mem_singleton_self _), rfl, rfl⟩
  · obtain ⟨q, hq, hn⟩ := hq
    exact ⟨q, postCh_hwSeq t b 14 hq, hn⟩

theorem newEpoch_posts {c n : Nat} (hc : c < 256) (hb : s.boundThread c = some n) : ∃ q ∈ s.newEpoch.hwSeq, q.thread = n ∧ q.event = 14 := by
  have hb' : s.epochOpened.boundThread c = some n := by
    rw [← hb]
    refine boundThread_of_reg ((reg_set_other _ _ _ _ ?_).trans (reg_set_other _ _ _ _ ?_)) <;>
      simp only [R.CTX_BIND_VALID, R.TB_STATUS_STEP_USED, R.TB_EPOCH_EPOCH] <;> omega
  rw [newEpoch_eq, raiseLines_keeps State.hwSeq (fun s k l => by rw [raiseLine_eq])]
  exact epochPosted_posts hc hb'

/-- A line raised is pending; the lines of the other cores are as they were. -/
theorem raiseLine_pending (s : State) (k l j : Nat) :
    ((s.raiseLine k l).core j).linePend.testBit l = (decide (j = k) || (s.core j).linePend.testBit l) := by
  simp only [State.raiseLine]
  split
  · next h =>
    rw [bitAt_eq_testBit] at h
    by_cases e : j = k <;> simp [e, h]
  · next h =>
    rw [bitAt_eq_testBit] at h
    by_cases e : j = k
    · subst e
      rw [core_setCore_same, Nat.add_comm, Nat.testBit_two_pow_add_eq]
      simp [h]
    · rw [core_setCore_other _ _ _ _ e]
      simp [e]

theorem raiseLines_pending {k : Nat} (hk : k < 4) (s : State) (l : Nat) : ((s.raiseLines l).core k).linePend.testBit l = true := by
  simp only [State.raiseLines, raiseLine_pending]
  have hk' : k = 3 ∨ k = 2 ∨ k = 1 ∨ k = 0 := by omega
  simp only [Bool.or_eq_true, decide_eq_true_eq]
  omega

end Sys2Proof.Machine
end

section
/-! What a step of local time does, to the registers and to the pulse generators (12_timebase.md R496, R503, R512 to R514). -/

namespace Sys2Proof.Machine

variable {s t u : State} {f : Field} {d : Int} {g : Nat}

/-! ### The times of pulses (R512) -/

theorem le_ceilDiv_mul {a b : Nat} (hb : 0 < b) : a ≤ ceilDiv a b * b := by
  have hdiv := Nat.div_add_mod (a + b - 1) b
  have hmod := Nat.mod_lt (a + b - 1) hb
  rw [ceilDiv, Nat.mul_comm]
  omega

theorem mul_lt_of_lt_ceilDiv {a b j : Nat} (hb : 0 < b) (hj : j < ceilDiv a b) : j * b < a := by
  have h := (Nat.le_div_iff_mul_le hb).1 hj
  rw [Nat.succ_mul] at h
  omega

/-- The first pulse at or after a local time. -/
theorem pgFirst_spec (hp : 0 < s.pgPeriod g) (l : Int) : l * 2 ^ 32 ≤ Sys2Proof.Spec.pulseTime s g (s.pgFirst g l) ∧
    ∀ j < s.pgFirst g l, Sys2Proof.Spec.pulseTime s g j < l * 2 ^ 32 := by
  have hle := le_ceilDiv_mul (a := (l * 2 ^ 32 - s.pgStart g).toNat) hp
  refine ⟨?_, fun j hj => ?_⟩
  · change _ ≤ ((s.pgStart g + ceilDiv (l * 2 ^ 32 - s.pgStart g).toNat (s.pgPeriod g) * s.pgPeriod g : Nat) : Int)
    omega
  · have hlt := mul_lt_of_lt_ceilDiv hp hj
    change ((s.pgStart g + j * s.pgPeriod g : Nat) : Int) < _
    omega

/-- START, PERIOD and their fractions are all that the times of a generator's pulses hang on. -/
theorem pulseTime_of_reg (h : ∀ k, 0x61008 + g * 0x40 ≤ k → k < 0x61024 + g * 0x40 → t.reg k = s.reg k) :
    t.pgStart g = s.pgStart g ∧ t.pgPeriod g = s.pgPeriod g := by
  have hget (f : Field) (h1 : 0x61008 + g * 0x40 ≤ f.key) (h2 : f.key < 0x61024 + g * 0x40) : t.get f = s.get f := get_of_reg (h _ h1 h2)
  unfold State.pgStart State.pgPeriod
  rw [hget, hget (R.TB_PG_START_FRAC_FRAC g), hget (R.TB_PG_PERIOD_NS g), hget (R.TB_PG_PERIOD_FRAC_FRAC g)]
  · exact ⟨rfl, rfl⟩
  all_goals simp only [R.TB_PG_START_NS, R.TB_PG_START_FRAC_FRAC, R.TB_PG_PERIOD_NS, R.TB_PG_PERIOD_FRAC_FRAC]; omega

/-! ### What the steps of the generators leave (R514) -/

@[simp] theorem pg_setPg_same (s : State) (g : Nat) (p : Pg) : (s.setPg g p).pg g = p := tget_tset_same ..

theorem pg_setPg_other {j : Nat} (h : j ≠ g) (s : State) (p : Pg) : (s.setPg g p).pg j = s.pg j := tget_tset_other _ _ _ _ _ h

theorem setPg_get {p : Pg} : (s.setPg g p).get f = s.get f := rfl

@[simp] theorem pg_inc (s : State) (f : Field) (g : Nat) : (s.inc f).pg g = s.pg g := (rfl)

/-- What the generators keep is changed, and of the registers nothing but TB_PG_RESYNC. -/
structure State.MovesPulses (s t : State) : Prop where
  eq : t = { s with regs := t.regs, pgs := t.pgs }
  reg : ∀ k, k < 0x61000 ∨ k % 0x40 ≠ 0x30 → t.reg k = s.reg k

namespace State.MovesPulses

theorem refl : s.MovesPulses s := ⟨rfl, fun _ _ => rfl⟩

theorem trans (h : s.MovesPulses t) (h' : t.MovesPulses u) : s.MovesPulses u :=
  ⟨by rw [h'.eq, h.eq], fun k hk => (h'.reg k hk).trans (h.reg k hk)⟩

theorem setPg (s : State) (g : Nat) (p : Pg) : s.MovesPulses (s.setPg g p) := ⟨rfl, fun _ _ => rfl⟩

theorem inc_eq (s : State) (f : Field) : s.inc f = { s with regs := (s.inc f).regs, pgs := (s.inc f).pgs } := rfl

theorem inc (s : State) (g : Nat) : s.MovesPulses (s.inc (R.TB_PG_RESYNC_COUNT g)) :=
  ⟨inc_eq .., fun k hk => reg_set_other _ _ _ _ (by simp only [R.TB_PG_RESYNC_COUNT]; omega)⟩

theorem foldl {α : Type} {step : State → α → State} (h : ∀ (s : State) a, s.MovesPulses (step s a)) (l : List α) (s : State) : s.MovesPulses (l.foldl step s) := by
  induction l generalizing s with
  | nil => exact refl
  | cons a l ih => exact (h s a).trans (ih _)

theorem get (h : s.MovesPulses t) (hf : f.key < 0x61000 ∨ f.key % 0x40 ≠ 0x30) : t.get f = s.get f := get_of_reg (h.reg _ hf)

theorem flag (h : s.MovesPulses t) (hf : f.key < 0x61000 ∨ f.key % 0x40 ≠ 0x30) : t.flag f = s.flag f := flag_of_get (h.get hf)

theorem tb (h : s.MovesPulses t) : t.tb = s.tb := by rw [h.eq]

theorem sameClock (h : s.MovesPulses t) : s.SameClock t :=
  ⟨by rw [h.eq], h.get (.inl (by decide)), h.get (.inl (by decide)), by rw [h.tb], by rw [h.tb]⟩

theorem pulseTimes (h : s.MovesPulses t) (g : Nat) : t.pgStart g = s.pgStart g ∧ t.pgPeriod g = s.pgPeriod g :=
  pulseTime_of_reg fun k h1 h2 => h.reg k (by omega)

theorem pgFirst (h : s.MovesPulses t) (g : Nat) (l : Int) : t.pgFirst g l = s.pgFirst g l := by
  rw [State.pgFirst, State.pgFirst, (h.pulseTimes g).1, (h.pulseTimes g).2]

end State.MovesPulses

/-- A generator whose output is high is marked as caught by the step. -/
def State.caught (s : State) (g : Nat) : State := if (s.pg g).rose.isSome then s.setPg g { s.pg g with stepped := true } else s

/-- A generator resynchronised: its next pulse is the first at or after local time. -/
def State.resynced (s : State) (g : Nat) : State := (s.setPg g { s.pg g with k := s.pgFirst g s.now }).inc (R.TB_PG_RESYNC_COUNT g)

theorem pgStep_eq (s : State) (g : Nat) : s.pgStep g =
    if (s.caught g).flag (R.TB_PG_CTRL_ENABLE g) && (s.caught g).flag (R.TB_PG_CTRL_PERIODIC g) then (s.caught g).resynced g else s.caught g := rfl

theorem caught_moves (s : State) (g : Nat) : s.MovesPulses (s.caught g) := by
  unfold State.caught
  split
  · exact .setPg ..
  · exact .refl

theorem resynced_moves (s : State) (g : Nat) : s.MovesPulses (s.resynced g) := .trans (.setPg ..) (.inc ..)

theorem pgStep_moves (s : State) (g : Nat) : s.MovesPulses (s.pgStep g) := by
  rw [pgStep_eq]
  split
  · exact (caught_moves s g).trans (resynced_moves ..)
  · exact caught_moves s g

/-- A generator's next pulse and its count of resynchronisations. -/
def State.pulsePlace (s : State) (g : Nat) : Nat × Nat := ((s.pg g).k, s.get (R.TB_PG_RESYNC_COUNT g))

theorem resync_apart {j : Nat} (h : j ≠ g) : (R.TB_PG_RESYNC_COUNT g).Apart (R.TB_PG_RESYNC_COUNT j) :=
  .inl (by simp only [R.TB_PG_RESYNC_COUNT]; omega)

theorem caught_place (s : State) (g j : Nat) : (s.caught g).pulsePlace j = s.pulsePlace j := by
  unfold State.caught
  split
  · by_cases h : j = g
    · subst h
      rw [State.pulsePlace, pg_setPg_same, setPg_get, State.pulsePlace]
    · rw [State.pulsePlace, pg_setPg_other h, setPg_get, State.pulsePlace]
  · rfl

theorem resynced_place_other {j : Nat} (h : j ≠ g) (s : State) : (s.resynced g).pulsePlace j = s.pulsePlace j := by
  rw [State.pulsePlace, State.resynced, get_inc_apart (resync_apart h), setPg_get, pg_inc, pg_setPg_other h, State.pulsePlace]

theorem resynced_place (s : State) (g : Nat) : (s.resynced g).pulsePlace g = (s.pgFirst g s.now, ((s.pulsePlace g).2 + 1) % 2 ^ 64) := by
  rw [State.pulsePlace, State.resynced, get_inc_same (show 0 + 64 ≤ 64 by decide), setPg_get, pg_inc, pg_setPg_same, State.pulsePlace]
  rfl

theorem pgStep_place_other {j : Nat} (h : j ≠ g) (s : State) : (s.pgStep g).pulsePlace j = s.pulsePlace j := by
  rw [pgStep_eq]
  split
  · rw [← caught_place s g j, resynced_place_other h]
  · exact caught_place s g j

theorem pgStep_place (he : s.flag (R.TB_PG_CTRL_ENABLE g) = true) (hper : s.flag (R.TB_PG_CTRL_PERIODIC g) = true) :
    (s.pgStep g).pulsePlace g = (s.pgFirst g s.now, ((s.pulsePlace g).2 + 1) % 2 ^ 64) := by
  have hm := caught_moves s g
  have hk : (R.TB_PG_CTRL_ENABLE g).key % 0x40 ≠ 0x30 := by simp only [R.TB_PG_CTRL_ENABLE]; omega
  rw [pgStep_eq, hm.flag (.inr hk), hm.flag (f := R.TB_PG_CTRL_PERIODIC g) (.inr hk), he, hper, Bool.and_self, if_pos rfl, ← caught_place s g g,
    ← hm.sameClock.now, ← hm.pgFirst, resynced_place]

/-- In a fold over distinct units, what only the step for one of them changes is changed once. -/
theorem foldl_once {α β : Type} {I : State → Prop} {part : State → β} {F : β → β} {step : State → α → State} {a : α} {l : List α} (hl : l.Nodup) (ha : a ∈ l)
    (inv : ∀ s b, I s → I (step s b)) (own : ∀ s, I s → part (step s a) = F (part s)) (keep : ∀ s b, b ≠ a → part (step s b) = part s) (s : State)
    (hs : I s) : part (l.foldl step s) = F (part s) := by
  induction l generalizing s with
  | nil => simp at ha
  | cons b l ih =>
    obtain ⟨hb, hl⟩ := List.nodup_cons.1 hl
    by_cases e : b = a
    · subst e
      rw [List.foldl_cons, ← own s hs]
      have stays (m : List α) (hm : b ∉ m) (s : State) : part (m.foldl step s) = part s := by
        induction m generalizing s with
        | nil => rfl
        | cons c m ihm =>
          obtain ⟨hc, hm⟩ := List.ne_and_not_mem_of_not_mem_cons hm
          rw [List.foldl_cons, ihm hm, keep s c hc.symm]
      exact stays l hb _
    · rw [List.foldl_cons, ih hl ((List.mem_cons.1 ha).resolve_left (Ne.symm e)) _ (inv s b hs), keep s b e]

/-- Every enabled periodic generator is resynchronised once. -/
theorem pgSteps_place (hg : g < 8) (he : s.flag (R.TB_PG_CTRL_ENABLE g) = true) (hper : s.flag (R.TB_PG_CTRL_PERIODIC g) = true) :
    ((List.range 8).foldl State.pgStep s).pulsePlace g = (s.pgFirst g s.now, ((s.pulsePlace g).2 + 1) % 2 ^ 64) := by
  have hk : (R.TB_PG_CTRL_ENABLE g).key % 0x40 ≠ 0x30 := by simp only [R.TB_PG_CTRL_ENABLE]; omega
  refine foldl_once (I := s.MovesPulses) (part := fun t => t.pulsePlace g) (F := fun x => (s.pgFirst g s.now, (x.2 + 1) % 2 ^ 64)) List.nodup_range (List.mem_range.2 hg)
    (fun t b h => h.trans (pgStep_moves t b)) (fun t h => ?_) (fun t b h => pgStep_place_other (Ne.symm h) t) s .refl
  rw [pgStep_place ((h.flag (.inr hk)).trans he) ((h.flag (f := R.TB_PG_CTRL_PERIODIC g) (.inr hk)).trans hper), h.pgFirst, h.sameClock.now]

/-! ### Steps (R496, R503) -/

/-- Local time stepped, before the generators are. -/
def State.stepMade (s : State) (d : Int) : State :=
  let s := (s.setSigned R.TB_OFFSET (s.getSigned R.TB_OFFSET + d)).setFlag R.TB_STATUS_STEP_USED true
  let s := { s.inc (R.TB_CNT_COUNT 2) with tb := { s.tb with stepRaw := some s.raw } }
  { s with tickFrom := s.now, lastTick := min s.lastTick (s.now - 1) }

theorem applyStep_eq (s : State) (d : Int) : s.applyStep d = (List.range 8).foldl State.pgStep (s.stepMade d) := rfl

theorem stepMade_moves (s : State) (d : Int) : (s.stepMade d).MovesPulses (s.applyStep d) := .foldl pgStep_moves _ _

/-- The registers after a step: OFFSET, STEP_USED and STEPS are written, and TB_PG_RESYNC. -/
theorem stepMade_regs (s : State) (d : Int) : (s.stepMade d).regs =
    (((s.setSigned R.TB_OFFSET (s.getSigned R.TB_OFFSET + d)).setFlag R.TB_STATUS_STEP_USED true).inc (R.TB_CNT_COUNT 2)).regs := by
  simp only [State.stepMade]

theorem stepMade_raw (s : State) (d : Int) : (s.stepMade d).raw = s.raw := by
  simp only [State.stepMade, inc_raw, setFlag_raw, setSigned_raw]

theorem stepMade_tb (s : State) (d : Int) : (s.stepMade d).tb = { s.tb with stepRaw := some s.raw } := by
  simp only [State.stepMade, setFlag_tb, setSigned_tb, setFlag_raw, setSigned_raw]

theorem stepMade_get (ho : R.TB_OFFSET.Apart f) (hu : R.TB_STATUS_STEP_USED.Apart f) (hc : (R.TB_CNT_COUNT 2).Apart f) : (s.stepMade d).get f = s.get f := by
  rw [get_of_regs (stepMade_regs s d), get_inc_apart hc, get_setFlag_apart hu, get_setSigned_apart ho]

theorem stepMade_reg_above {k : Nat} (hk : 0x61000 ≤ k) : (s.stepMade d).reg k = s.reg k := by
  rw [reg_of_regs (stepMade_regs s d)]
  refine (reg_set_other _ _ _ _ ?_).trans ((reg_set_other _ _ _ _ ?_).trans (reg_set_other _ _ _ _ ?_)) <;>
    simp only [R.TB_CNT_COUNT, R.TB_STATUS_STEP_USED, R.TB_OFFSET] <;> omega

theorem applyStep_get (ho : R.TB_OFFSET.Apart f) (hu : R.TB_STATUS_STEP_USED.Apart f) (hc : (R.TB_CNT_COUNT 2).Apart f) (hf : f.key < 0x61000) :
    (s.applyStep d).get f = s.get f := ((stepMade_moves s d).get (.inl hf)).trans (stepMade_get ho hu hc)

theorem applyStep_tb (s : State) (d : Int) : (s.applyStep d).tb = { s.tb with stepRaw := some s.raw } := (stepMade_moves s d).tb.trans (stepMade_tb s d)

theorem applyStep_stepUsed (s : State) (d : Int) : (s.applyStep d).flag R.TB_STATUS_STEP_USED = true := by
  rw [(stepMade_moves s d).flag (.inl (by decide)), flag_of_get ((get_of_regs (stepMade_regs s d)).trans (get_inc_apart (.inl (by decide))))]
  exact flag_setFlag_same _ R.TB_STATUS_STEP_USED _ (by decide) (by decide)

theorem applyStep_steps (s : State) (d : Int) : (s.applyStep d).get (R.TB_CNT_COUNT 2) = (s.get (R.TB_CNT_COUNT 2) + 1) % 2 ^ 64 := by
  rw [(stepMade_moves s d).get (.inl (by decide)), get_of_regs (stepMade_regs s d), get_inc_same (by decide), get_setFlag_apart (.inl (by decide)),
    get_setSigned_apart (.inl (by decide))]
  rfl

theorem applyStep_now (h : Sys2Proof.Spec.fits (s.getSigned R.TB_OFFSET + d)) : (s.applyStep d).now = s.now + d := by
  have hoff : (s.stepMade d).getSigned R.TB_OFFSET = s.getSigned R.TB_OFFSET + d := by
    rw [getSigned_of_get ((get_of_regs (stepMade_regs s d)).trans ((get_inc_apart (.inl (by decide))).trans (get_setFlag_apart (.inl (by decide)))))]
    exact getSigned_setSigned_same rfl rfl h
  rw [(stepMade_moves s d).sameClock.now]
  exact now_of_offset (stepMade_raw s d) hoff (stepMade_get (.inl (by decide)) (.inl (by decide)) (.inl (by decide))) (by rw [stepMade_tb]) (by rw [stepMade_tb])

/-- A step by software ends JUMPED in ACQUIRE. -/
theorem softStep_of_unused (h : s.flag R.TB_STATUS_STEP_USED = false) : s.softStep d =
    if s.get R.TB_STATUS_STATE = 4 then (s.applyStep d).set R.TB_STATUS_STATE 1 else s.applyStep d := by
  have hst : (s.applyStep d).get R.TB_STATUS_STATE = s.get R.TB_STATUS_STATE :=
    applyStep_get (.inl (by decide)) (.inr (by decide)) (.inl (by decide)) (by decide)
  rw [State.softStep, h, if_neg Bool.false_ne_true]
  dsimp only
  rw [hst]
  rfl

theorem softStep_of_used (h : s.flag R.TB_STATUS_STEP_USED = true) : s.softStep d = (s.inc (R.TB_CNT_COUNT 3)).report 21 0 := by
  rw [State.softStep, h, if_pos rfl]

theorem softStep_state (h : s.flag R.TB_STATUS_STEP_USED = false) :
    (s.softStep d).get R.TB_STATUS_STATE = if s.get R.TB_STATUS_STATE = 4 then 1 else s.get R.TB_STATUS_STATE := by
  rw [softStep_of_unused h]
  split
  · exact get_set_same _ R.TB_STATUS_STATE _ (by decide)
  · exact applyStep_get (.inl (by decide)) (.inr (by decide)) (.inl (by decide)) (by decide)

/-- But for STATE, a step by software leaves what the step leaves. -/
theorem softStep_get (h : s.flag R.TB_STATUS_STEP_USED = false) (hf : R.TB_STATUS_STATE.Apart f) : (s.softStep d).get f = (s.applyStep d).get f := by
  rw [softStep_of_unused h]
  split
  · exact get_set_apart hf
  · rfl

theorem softStep_sameClock (h : s.flag R.TB_STATUS_STEP_USED = false) : (s.applyStep d).SameClock (s.softStep d) := by
  rw [softStep_of_unused h]
  split
  · exact .set (.inl (by decide)) (.inl (by decide))
  · exact .refl

theorem softStep_pgs (h : s.flag R.TB_STATUS_STEP_USED = false) : (s.softStep d).pgs = (s.applyStep d).pgs := by
  rw [softStep_of_unused h]
  split
  · exact set_pgs ..
  · rfl

/-! ### The state in which TB_STEP acts -/

/-- TB_STEP written at a time. -/
def State.stepAsked (s : State) (v : Word) (now : Nat) : State := (s.advance now).setReg K.TB_STEP v

theorem stepAsked_get {v : Word} {now : Nat} (hf : f.key ≠ K.TB_STEP) : (s.stepAsked v now).get f = s.get f := get_of_reg (reg_setReg_other _ _ _ _ hf)

theorem stepAsked_sameClock (s : State) (v : Word) (now : Nat) : (s.advance now).SameClock (s.stepAsked v now) := .setReg (by decide) (by decide)

theorem exec_tbStep {v : Word} {now : Nat} (hu : s.up = true) (hh : s.halted = false) :
    exec (.tbStep v now) s = .next ((s.stepAsked v now).softStep v.toInt) := by
  rw [exec, execTbStep, whenWr_of_up hu hh, State.stepAsked]

end Sys2Proof.Machine
end

section
/-! Epochs, steps, folds and rates, as the commands leave them (12_timebase.md R491 to R504). -/

namespace Sys2Proof.Machine

variable {s : State}

theorem rateWrite_of_servo {v : Word} (h : s.flag R.TB_CTRL_SERVO_EN = true) : s.writeRate v = s := by rw [State.writeRate, h, if_pos rfl]

theorem rateWrite_of_free {v : Word} (h : s.flag R.TB_CTRL_SERVO_EN = false) : s.writeRate v = (s.setReg K.TB_RATE v).setRate v.toInt := by
  rw [State.writeRate, h, if_neg Bool.false_ne_true]

/-- A rate put in force does not move local time: the fold brings the anchor to the present instant. -/
theorem rate_now {v : Word} {x : Int} (hfit : Sys2Proof.Spec.fits (s.getSigned R.TB_OFFSET + s.accrued / 2 ^ 40)) :
    ((s.setReg K.TB_RATE v).fold.setSigned R.TB_RATE_NOW x).now = s.now := by
  have hsame : s.SameClock (s.setReg K.TB_RATE v) := .setReg (by decide) (by decide)
  rw [← hsame.now]
  refine now_of_fold ?_ ((setSigned_raw ..).trans (fold_raw _)) (get_setSigned_apart (.inl (by decide))) (setSigned_tb ..)
  rwa [State.accrued, getSigned_of_get hsame.offset, getSigned_of_get hsame.rate]

theorem rate_reg {v : Word} {x : Int} : ((s.setReg K.TB_RATE v).fold.setSigned R.TB_RATE_NOW x).reg K.TB_RATE = v :=
  (reg_set_other _ _ _ _ (by decide)).trans <| (reg_of_regs (fold_regs _) _).trans <| (reg_set_other _ _ _ _ (by decide)).trans (reg_setReg_same ..)

theorem rate_count {v : Word} {x : Int} : ((s.setReg K.TB_RATE v).fold.setSigned R.TB_RATE_NOW x).get (R.TB_CNT_COUNT 6) = s.get (R.TB_CNT_COUNT 6) :=
  (get_setSigned_apart (.inl (by decide))).trans ((fold_get (.inl (by decide))).trans (get_of_reg (reg_setReg_other _ _ _ _ (by decide))))

theorem tbSnap_values (s : State) : s.tbSnap.get R.TB_SNAP_RAW_RAW = s.raw % 2 ^ 64 ∧ (s.tbSnap.get R.TB_SNAP_LOCAL_LOCAL : Int) = s.now % 2 ^ 64 ∧
    s.tbSnap.get R.TB_SNAP_EPOCH_EPOCH = s.get R.TB_EPOCH_EPOCH := by
  have hsame : s.SameClock (s.set R.TB_SNAP_RAW_RAW s.raw) := .set (.inl (by decide)) (.inl (by decide))
  have hepoch : s.get R.TB_EPOCH_EPOCH < 2 ^ 32 := get_lt ..
  refine ⟨?_, ?_, ?_⟩
  · refine (get_set_apart (.inl (by decide))).trans ((get_setSigned_apart (.inl (by decide))).trans (get_set_same _ R.TB_SNAP_RAW_RAW _ (by decide)))
  · refine (congrArg Nat.cast ((get_set_apart (.inl (by decide))).trans (get_setSigned_same (by decide)))).trans ?_
    exact Int.toNat_of_nonneg (Int.emod_nonneg _ (by decide))
  · refine (get_set_same _ R.TB_SNAP_EPOCH_EPOCH _ (by decide)).trans ?_
    change s.get R.TB_EPOCH_EPOCH % 2 ^ 64 = _
    omega

theorem writeGmId_counts (s : State) (v : Word) : (s.writeGmId v).reg K.TB_GM_ID = v ∧
    (s.writeGmId v).get (R.TB_CNT_COUNT 7) = (s.get (R.TB_CNT_COUNT 7) + if s.reg K.TB_GM_ID = v then 0 else 1) % 2 ^ 64 := by
  refine ⟨reg_setReg_same .., (get_of_reg (reg_setReg_other _ _ _ _ (by decide))).trans ?_⟩
  by_cases h : s.reg K.TB_GM_ID = v
  · have hlt : s.get (R.TB_CNT_COUNT 7) < 2 ^ 64 := get_lt ..
    rw [if_neg (not_not.2 h), if_pos h, Nat.add_zero, Nat.mod_eq_of_lt hlt]
  · rw [if_pos h, if_neg h]
    exact get_inc_same (by decide)

section
variable {now : Nat} (hu : s.up = true) (hh : s.halted = false)
include hu hh

theorem exec_newEpoch : exec (.newEpoch now) s = .next (s.advance now).newEpoch := by rw [exec, execNewEpoch, whenWr_of_up hu hh]

theorem exec_tbRateWrite {v : Word} : exec (.tbRateWrite v now) s = .next ((s.advance now).writeRate v) := by
  rw [exec, execTbRateWrite, whenWr_of_up hu hh]

theorem exec_tbSnap : exec (.tbSnap now) s = .next (s.advance now).tbSnap := by rw [exec, execTbSnap, whenWr_of_up hu hh]

theorem exec_tbGmIdWrite {v : Word} : exec (.tbGmIdWrite v) s = .next (s.writeGmId v) := by rw [exec, execTbGmIdWrite, whenWr_of_up hu hh]

end

theorem exec_rateFold {now : Nat} (hu : s.up = true) : exec (.rateFold now) s = .next (s.advance now).fold := by
  rw [exec, execRateFold, whenUp_of_up hu]

/-- Settles O31: local time hangs on the offset, the anchor and the rate; an epoch writes none of them, a fold and a rate change move what has accrued into
the offset, and a step adds to the offset alone. -/
theorem epochsStepsAndRates : Obligations.EpochsStepsAndRates := by
  unfold Obligations.EpochsStepsAndRates
  intro s hu hh now l
  refine ⟨?_, fun d hfit hused => ?_, fun d hused => ?_, fun hfit => ⟨?_, fun v => ⟨fun hen => ?_, fun hen hle => ?_, fun hen hlt => ?_⟩⟩, ?_, fun v => ?_⟩
  · exact ⟨_, exec_newEpoch hu hh, newEpoch_epoch _, newEpoch_stepUsed _, (newEpoch_sameClock (s.advance now)).now, fun c hc n hb => newEpoch_posts hc hb,
      fun k hk => by rw [newEpoch_eq]; exact raiseLines_pending hk _ 4⟩
  · have hused' : (s.stepAsked d now).flag R.TB_STATUS_STEP_USED = false := (flag_of_get (stepAsked_get (by decide))).trans hused
    refine ⟨_, exec_tbStep hu hh, ?_, ?_, ?_, ?_⟩
    · rw [(softStep_sameClock hused').now, applyStep_now, (stepAsked_sameClock s d now).now]
      rwa [getSigned_of_get (stepAsked_get (by decide))]
    · rw [flag_of_get (softStep_get hused' (.inr (by decide)))]
      exact applyStep_stepUsed ..
    · rw [softStep_get hused' (.inl (by decide)), applyStep_steps, stepAsked_get (by decide)]
    · rw [softStep_state hused', stepAsked_get (by decide)]
  · have hused' : (s.stepAsked d now).flag R.TB_STATUS_STEP_USED = true := (flag_of_get (stepAsked_get (by decide))).trans hused
    refine ⟨_, (exec_tbStep hu hh).trans (congrArg _ (softStep_of_used hused')), ?_, ?_⟩
    · exact ((stepAsked_sameClock s d now).trans (.set (.inl (by decide)) (.inl (by decide)))).now
    · rw [get_inc_same (by decide), stepAsked_get (by decide)]
      rfl
  · exact ⟨_, exec_rateFold hu, now_of_fold (s := s.advance now) hfit (fold_raw _) rfl rfl, fold_remainder_lt _, by rw [fold_tb]; rfl⟩
  · exact (exec_tbRateWrite hu hh).trans (congrArg _ (rateWrite_of_servo (s := s.advance now) hen))
  · refine ⟨_, (exec_tbRateWrite hu hh).trans (congrArg _ ((rateWrite_of_free (s := s.advance now) hen).trans (setRate_of_le hle))), rate_now (s := s.advance now) hfit, rate_reg, ?_⟩
    exact getSigned_setSigned_same rfl rfl (rate_fits hle)
  · refine ⟨_, (exec_tbRateWrite hu hh).trans (congrArg _ ((rateWrite_of_free (s := s.advance now) hen).trans (setRate_of_lt hlt))), ?_, ?_, ?_, ?_⟩
    · exact .trans (State.SameClock.now (.set (.inl (by decide)) (.inl (by decide)))) (rate_now (s := s.advance now) hfit)
    · exact (reg_set_other _ _ _ _ (by decide)).trans rate_reg
    · rw [← clampRate_of_lt hlt]
      exact (getSigned_of_get (get_inc_apart (.inl (by decide)))).trans (getSigned_setSigned_same rfl rfl (rate_fits (clampRate_le _)))
    · rw [get_inc_same (by decide), rate_count]
      rfl
  · exact ⟨_, exec_tbSnap hu hh, tbSnap_values _⟩
  · exact ⟨_, exec_tbGmIdWrite hu hh, writeGmId_counts s v⟩

end Sys2Proof.Machine
end

section
/-! Samples of the servo: which are processed, and what a processed one leaves in each case (12_timebase.md R499 to R502, R511). -/

namespace Sys2Proof.Machine

variable {s t u : State} {f : Field} {d m : Int} {r rp src : Nat}

/-! ### Which samples are processed (R499) -/

/-- A sample lies no earlier than the latest step and no later than now. -/
def State.Fresh (s : State) (r : Nat) : Prop := (∀ q, s.tb.stepRaw = some q → q ≤ r) ∧ r ≤ s.raw

/-- A sample is newer than the one last processed. -/
def State.Newer (s : State) (r : Nat) : Prop := ∀ q, s.tb.rLast = some q → q < r

theorem stale_iff : (s.tb.stepRaw.elim false (fun q => decide (r < q)) = true ∨ s.raw < r) ↔ ¬s.Fresh r := by
  unfold State.Fresh
  cases s.tb.stepRaw with
  | none => simp
  | some q => simp; omega

theorem repeated_iff : s.tb.rLast.elim false (fun q => decide (r ≤ q)) = true ↔ ¬s.Newer r := by
  unfold State.Newer
  cases s.tb.rLast with
  | none => simp
  | some q => simp

theorem sample_of_off (h : s.flag R.TB_CTRL_SERVO_EN = false) : s.sample src m r = s := by
  rw [State.sample, h]; rfl

section
variable (hen : s.flag R.TB_CTRL_SERVO_EN = true)
include hen

theorem sample_of_stale (h : ¬s.Fresh r) : s.sample src m r = s.inc (R.TB_CNT_COUNT 1) := by
  rw [State.sample, hen, if_neg (by decide), if_pos (stale_iff.2 h)]

theorem sample_of_source (h : s.Fresh r) (hs : s.get R.TB_CTRL_SOURCE ≠ src) : s.sample src m r = s := by
  rw [State.sample, hen, if_neg (by decide), if_neg (mt stale_iff.1 (not_not.2 h)), if_pos hs]

theorem sample_of_repeat (h : s.Fresh r) (hs : s.get R.TB_CTRL_SOURCE = src) (hn : ¬s.Newer r) : s.sample src m r = s.inc (R.TB_CNT_COUNT 1) := by
  rw [State.sample, hen, if_neg (by decide), if_neg (mt stale_iff.1 (not_not.2 h)), if_neg (not_not.2 hs), if_pos (repeated_iff.2 hn)]

theorem sample_of_new (h : s.Fresh r) (hs : s.get R.TB_CTRL_SOURCE = src) (hn : s.Newer r) : s.sample src m r = s.servoSample m r := by
  rw [State.sample, hen, if_neg (by decide), if_neg (mt stale_iff.1 (not_not.2 h)), if_neg (not_not.2 hs), if_neg (mt repeated_iff.1 (not_not.2 hn))]

end

/-! ### What every processed sample leaves -/

/-- A sample counted, and its offset and times kept. -/
def State.noted (s : State) (r : Nat) (d : Int) : State :=
  (({ s with tb := { s.tb with rLast := some r, procRaw := s.raw, followStep := false } } : State).inc (R.TB_CNT_COUNT 0)).setSigned R.TB_LAST_OFFSET_S d

theorem noted_get (hc : (R.TB_CNT_COUNT 0).Apart f) (hl : R.TB_LAST_OFFSET_S.Apart f) : (s.noted r d).get f = s.get f :=
  (get_setSigned_apart hl).trans (get_inc_apart hc)

theorem noted_tb (s : State) (r : Nat) (d : Int) : (s.noted r d).tb = { s.tb with rLast := some r, procRaw := s.raw, followStep := false } := by
  rw [State.noted, setSigned_tb, inc_tb]

theorem noted_sameClock (s : State) (r : Nat) (d : Int) : s.SameClock (s.noted r d) :=
  ⟨by rw [State.noted, setSigned_raw, inc_raw], noted_get (.inl (by decide)) (.inl (by decide)), noted_get (.inl (by decide)) (.inl (by decide)),
    by rw [noted_tb], by rw [noted_tb]⟩

/-- The sample of offset d at r is marked as processed. -/
def State.Marks (s t : State) (d : Int) (r : Nat) : Prop :=
  t.getSigned R.TB_LAST_OFFSET_S = d ∧ t.tb.rLast = some r ∧ t.get (R.TB_CNT_COUNT 0) = (s.get (R.TB_CNT_COUNT 0) + 1) % 2 ^ 64

theorem noted_marks (h : Sys2Proof.Spec.fits d) : s.Marks (s.noted r d) d r :=
  ⟨getSigned_setSigned_same rfl rfl h, by rw [noted_tb], (get_setSigned_apart (.inl (by decide))).trans (get_inc_same (by decide))⟩

theorem State.Marks.of_get (h : s.Marks t d r) (hl : u.get R.TB_LAST_OFFSET_S = t.get R.TB_LAST_OFFSET_S) (htb : u.tb.rLast = t.tb.rLast)
    (hc : u.get (R.TB_CNT_COUNT 0) = t.get (R.TB_CNT_COUNT 0)) : s.Marks u d r :=
  ⟨(getSigned_of_get hl).trans h.1, htb.trans h.2.1, hc.trans h.2.2⟩

/-! ### The cases of a processed sample (R500, R501) -/

/-- Whether a sample steps local time. -/
abbrev State.StepsBy (s : State) (d : Int) : Prop :=
  s.flag R.TB_STATUS_STEP_USED = false ∧ s.flag R.TB_CTRL_AUTO_STEP = true ∧ s.get R.TB_THRESH_STEP_MIN_NS < d.natAbs

/-- Whether a sample is a jump backwards. -/
abbrev State.JumpsBy (s : State) (d : Int) : Prop := d < -(1000 * s.get R.TB_THRESH_BACK_THRESH_US : Int)

/-- A sample that steps local time. -/
def State.autoStepped (s : State) (d : Int) : State :=
  { s.applyStep d with tb := { (s.applyStep d).tb with rPrev := none, good := 0 } }.set R.TB_STATUS_STATE tbAcquire

/-- JUMPED entered, before its report. -/
def State.jumped (s : State) : State := ((s.set R.TB_STATUS_STATE tbJumped).setFlag R.TB_STATUS_JUMP_SEEN true).inc (R.TB_CNT_COUNT 4)

/-- The first sample after a step. -/
def State.begun (s : State) (r : Nat) : State := { s with tb := { s.tb with rPrev := some r } }.set R.TB_STATUS_STATE tbAcquire

/-- No earlier sample counts for the next one's interval. -/
def State.restarted (s : State) : State := { s with tb := { s.tb with rPrev := none } }

theorem servoSample_eq (h : s.tb.followStep = false) (hd : m - s.localAt r = d) : s.servoSample m r =
    if (s.noted r d).StepsBy d then (s.noted r d).autoStepped d
    else if (s.noted r d).JumpsBy d then
      (if (s.noted r d).get R.TB_STATUS_STATE = tbJumped then s.noted r d else (s.noted r d).jumped.report 18 0).restarted
    else match s.tb.rPrev with
      | none => (s.noted r d).begun r
      | some rp => (s.noted r d).servoRun d r rp := by
  subst hd
  simp only [State.servoSample, h, Bool.false_eq_true, or_false]
  rfl

/-- In the cases of a sample the thresholds and the state are those before it. -/
theorem noted_stepsBy : (s.noted r d).StepsBy d ↔ s.StepsBy d := by
  unfold State.StepsBy
  rw [flag_of_get (noted_get (.inl (by decide)) (.inl (by decide))), flag_of_get (noted_get (.inl (by decide)) (.inl (by decide))),
    noted_get (.inl (by decide)) (.inl (by decide))]

theorem noted_jumpsBy : (s.noted r d).JumpsBy d ↔ s.JumpsBy d := by
  unfold State.JumpsBy
  rw [noted_get (.inl (by decide)) (.inl (by decide))]

theorem noted_state : (s.noted r d).get R.TB_STATUS_STATE = s.get R.TB_STATUS_STATE := noted_get (.inl (by decide)) (.inl (by decide))

section
variable (hfollow : s.tb.followStep = false) (hd : m - s.localAt r = d)
include hfollow hd

theorem servoSample_steps (hs : s.StepsBy d) : s.servoSample m r = (s.noted r d).autoStepped d := by
  rw [servoSample_eq hfollow hd, if_pos (noted_stepsBy.2 hs)]

theorem servoSample_jumps (hs : ¬s.StepsBy d) (hj : s.JumpsBy d) (hst : s.get R.TB_STATUS_STATE ≠ 4) : s.servoSample m r =
    ((s.noted r d).jumped.report 18 0).restarted := by
  rw [servoSample_eq hfollow hd, if_neg (mt noted_stepsBy.1 hs), if_pos (noted_jumpsBy.2 hj), if_neg (noted_state.trans_ne hst : _ ≠ tbJumped)]

theorem servoSample_begins (hs : ¬s.StepsBy d) (hj : ¬s.JumpsBy d) (hp : s.tb.rPrev = none) : s.servoSample m r = (s.noted r d).begun r := by
  rw [servoSample_eq hfollow hd, if_neg (mt noted_stepsBy.1 hs), if_neg (mt noted_jumpsBy.1 hj), hp]

theorem servoSample_runs (hs : ¬s.StepsBy d) (hj : ¬s.JumpsBy d) (hp : s.tb.rPrev = some rp) : s.servoSample m r = (s.noted r d).servoRun d r rp := by
  rw [servoSample_eq hfollow hd, if_neg (mt noted_stepsBy.1 hs), if_neg (mt noted_jumpsBy.1 hj), hp]

end

theorem autoStepped_tb (s : State) (d : Int) : (s.autoStepped d).tb = { s.tb with stepRaw := some s.raw, rPrev := none, good := 0 } := by
  rw [State.autoStepped, set_tb, applyStep_tb]

theorem autoStepped_get (hs : R.TB_STATUS_STATE.Apart f) : (s.autoStepped d).get f = (s.applyStep d).get f := get_set_apart hs

theorem autoStepped_leaves (hfit : Sys2Proof.Spec.fits d) (hoff : Sys2Proof.Spec.fits (s.getSigned R.TB_OFFSET + d)) :
    s.Marks ((s.noted r d).autoStepped d) d r ∧ ((s.noted r d).autoStepped d).now = s.now + d ∧
      ((s.noted r d).autoStepped d).get R.TB_STATUS_STATE = 1 ∧ ((s.noted r d).autoStepped d).flag R.TB_STATUS_STEP_USED = true ∧
      ((s.noted r d).autoStepped d).tb.rPrev = none := by
  have hsame : ((s.noted r d).applyStep d).SameClock ((s.noted r d).autoStepped d) :=
    .trans (.of_regs (t := { (s.noted r d).applyStep d with tb := { ((s.noted r d).applyStep d).tb with rPrev := none, good := 0 } }) rfl rfl rfl rfl)
      (.set (.inl (by decide)) (.inl (by decide)))
  refine ⟨(noted_marks hfit).of_get ?_ (by rw [autoStepped_tb]) ?_, ?_, get_set_same _ R.TB_STATUS_STATE _ (by decide), ?_, by rw [autoStepped_tb]⟩
  · exact (autoStepped_get (.inl (by decide))).trans (applyStep_get (.inl (by decide)) (.inl (by decide)) (.inl (by decide)) (by decide))
  · exact (autoStepped_get (.inl (by decide))).trans (applyStep_get (.inl (by decide)) (.inl (by decide)) (.inl (by decide)) (by decide))
  · rw [hsame.now, applyStep_now, (noted_sameClock s r d).now]
    rwa [getSigned_of_get (noted_sameClock s r d).offset]
  · exact (flag_of_get (autoStepped_get (.inr (by decide)))).trans (applyStep_stepUsed ..)

theorem jumped_get (hs : R.TB_STATUS_STATE.Apart f) (hj : R.TB_STATUS_JUMP_SEEN.Apart f) (hc : (R.TB_CNT_COUNT 4).Apart f) : s.jumped.get f = s.get f :=
  (get_inc_apart hc).trans ((get_setFlag_apart hj).trans (get_set_apart hs))

theorem jumped_tb (s : State) : s.jumped.tb = s.tb := by rw [State.jumped, inc_tb, setFlag_tb, set_tb]

theorem jumped_status (s : State) : s.jumped.get R.TB_STATUS_STATE = 4 ∧ s.jumped.flag R.TB_STATUS_JUMP_SEEN = true ∧
    s.jumped.get (R.TB_CNT_COUNT 4) = (s.get (R.TB_CNT_COUNT 4) + 1) % 2 ^ 64 := by
  unfold State.jumped
  refine ⟨?_, ?_, ?_⟩
  · rw [get_inc_apart (.inl (by decide)), get_setFlag_apart (.inr (by decide))]
    exact get_set_same _ R.TB_STATUS_STATE _ (by decide)
  · rw [flag_of_get (get_inc_apart (.inl (by decide)))]
    exact flag_setFlag_same _ R.TB_STATUS_JUMP_SEEN _ (by decide) (by decide)
  · rw [get_inc_same (by decide), get_setFlag_apart (.inl (by decide)), get_set_apart (.inl (by decide))]
    rfl

theorem jumped_leaves (hfit : Sys2Proof.Spec.fits d) : s.Marks (s.noted r d).jumped d r ∧ (s.noted r d).jumped.get R.TB_STATUS_STATE = 4 ∧
    (s.noted r d).jumped.flag R.TB_STATUS_JUMP_SEEN = true ∧ (s.noted r d).jumped.get (R.TB_CNT_COUNT 4) = (s.get (R.TB_CNT_COUNT 4) + 1) % 2 ^ 64 ∧
    (s.noted r d).jumped.get R.TB_RATE_NOW = s.get R.TB_RATE_NOW := by
  obtain ⟨hst, hseen, hcnt⟩ := jumped_status (s.noted r d)
  refine ⟨(noted_marks hfit).of_get ?_ (by rw [jumped_tb]) ?_, hst, hseen, by rw [hcnt, noted_get (.inl (by decide)) (.inl (by decide))], ?_⟩
  · exact jumped_get (.inl (by decide)) (.inl (by decide)) (.inl (by decide))
  · exact jumped_get (.inl (by decide)) (.inl (by decide)) (.inl (by decide))
  · exact (jumped_get (.inl (by decide)) (.inl (by decide)) (.inl (by decide))).trans (noted_get (.inl (by decide)) (.inl (by decide)))

theorem begun_tb (s : State) (r : Nat) : (s.begun r).tb = { s.tb with rPrev := some r } := by rw [State.begun, set_tb]

theorem begun_get (hs : R.TB_STATUS_STATE.Apart f) : (s.begun r).get f = s.get f := get_set_apart hs

theorem begun_leaves (hfit : Sys2Proof.Spec.fits d) : s.Marks ((s.noted r d).begun r) d r ∧ ((s.noted r d).begun r).tb.rPrev = some r ∧
    ((s.noted r d).begun r).get R.TB_STATUS_STATE = 1 ∧ ((s.noted r d).begun r).get R.TB_RATE_NOW = s.get R.TB_RATE_NOW :=
  ⟨(noted_marks hfit).of_get (begun_get (.inl (by decide))) (by rw [begun_tb]) (begun_get (.inl (by decide))), by rw [begun_tb],
    get_set_same _ R.TB_STATUS_STATE _ (by decide), (begun_get (.inl (by decide))).trans (noted_get (.inl (by decide)) (.inl (by decide)))⟩

/-! ### The servo's arithmetic (R500) -/

/-- The count of good samples in a row after one of offset d. -/
def State.goodAfter (s : State) (d : Int) : Nat := if d.natAbs ≤ s.get R.TB_SERVO_LOCK_NS then s.tb.good + 1 else 0

/-- The servo's integrator and its count of good samples after a sample. -/
def State.servoKept (s : State) (d : Int) (r rp : Nat) : State :=
  { s with tb := { s.tb with i := (Sys2Proof.Spec.servo s d ((r : Int) - rp)).1, good := s.goodAfter d, rPrev := some r } }

theorem servoKept_get : (s.servoKept d r rp).get f = s.get f := rfl

/-- The servo after a sample whose rate is within the limit, before the move of STATE. -/
def State.steered (s : State) (d : Int) (r rp : Nat) : State :=
  (s.servoKept d r rp).fold.setSigned R.TB_RATE_NOW (Sys2Proof.Spec.servo s d ((r : Int) - rp)).2

theorem steered_tb (s : State) (d : Int) (r rp : Nat) : (s.steered d r rp).tb =
    { (s.servoKept d r rp).tb with a := ((s.servoKept d r rp).accrued % 2 ^ 40).toNat, ra := (s.servoKept d r rp).raw } := by
  rw [State.steered, setSigned_tb, fold_tb]

/-- The move between ACQUIRE and LOCKED after a sample. -/
def State.lockSeen (s : State) (d : Int) : State :=
  if s.get R.TB_STATUS_STATE = tbLocked ∧ d.natAbs > 4 * s.get R.TB_SERVO_LOCK_NS then s.set R.TB_STATUS_STATE tbAcquire
  else if s.get R.TB_STATUS_STATE ≠ tbLocked ∧ s.tb.good ≥ 16 then s.set R.TB_STATUS_STATE tbLocked else s

/-- What the servo does with a sample: it keeps its integrator and count, puts the rate in force and then looks at the lock. -/
theorem servoRun_eq (s : State) (d : Int) (r rp : Nat) : s.servoRun d r rp =
    let t := (s.servoKept d r rp).setRate (Sys2Proof.Spec.servo s d ((r : Int) - rp)).2
    if t.get R.TB_STATUS_STATE = tbLocked ∧ d.natAbs > 4 * t.get R.TB_SERVO_LOCK_NS then t.set R.TB_STATUS_STATE tbAcquire
    else if t.get R.TB_STATUS_STATE ≠ tbLocked ∧ s.goodAfter d ≥ 16 then t.set R.TB_STATUS_STATE tbLocked else t := by
  rw [Sys2Proof.Spec.servo, ← servoKept_get (f := R.TB_SERVO_KP_SHIFT) (d := d) (r := r) (rp := rp)]
  rfl

theorem servoRun_of_le (h : (Sys2Proof.Spec.servo s d ((r : Int) - rp)).2.natAbs ≤ 219902325) : s.servoRun d r rp = (s.steered d r rp).lockSeen d := by
  have hgood : s.goodAfter d = (s.steered d r rp).tb.good := by rw [steered_tb, State.servoKept]
  rw [servoRun_eq, setRate_of_le h, State.lockSeen, ← hgood, State.steered]

theorem lockSeen_get (h : R.TB_STATUS_STATE.Apart f) : (s.lockSeen d).get f = s.get f := by
  unfold State.lockSeen
  split
  · exact get_set_apart h
  · split
    · exact get_set_apart h
    · rfl

theorem lockSeen_tb : (s.lockSeen d).tb = s.tb := by
  unfold State.lockSeen
  split
  · exact set_tb ..
  · split
    · exact set_tb ..
    · rfl

theorem lockSeen_state : (s.lockSeen d).get R.TB_STATUS_STATE = if s.get R.TB_STATUS_STATE = 2 then
    (if 4 * s.get R.TB_SERVO_LOCK_NS < d.natAbs then 1 else 2) else if 16 ≤ s.tb.good then 2 else s.get R.TB_STATUS_STATE := by
  have hset (n : Nat) : (s.set R.TB_STATUS_STATE n).get R.TB_STATUS_STATE = n % 2 ^ 3 := get_set_same _ R.TB_STATUS_STATE _ (by decide)
  unfold State.lockSeen tbLocked tbAcquire
  by_cases hst : s.get R.TB_STATUS_STATE = 2
  · by_cases hfar : 4 * s.get R.TB_SERVO_LOCK_NS < d.natAbs
    · rw [if_pos ⟨hst, hfar⟩, if_pos hst, if_pos hfar, hset]
      rfl
    · rw [if_neg (fun h => hfar h.2), if_neg (fun h => h.1 hst), if_pos hst, if_neg hfar, hst]
  · rw [if_neg (fun h => hst h.1), if_neg hst]
    by_cases hgood : 16 ≤ s.tb.good
    · rw [if_pos ⟨hst, hgood⟩, if_pos hgood, hset]
      rfl
    · rw [if_neg (fun h => hgood h.2), if_neg hgood]

theorem steered_get (ho : R.TB_OFFSET.Apart f) (hr : R.TB_RATE_NOW.Apart f) : (s.steered d r rp).get f = s.get f :=
  (get_setSigned_apart hr).trans (fold_get ho)

theorem noted_servo (s : State) (r : Nat) (d e dt : Int) : Sys2Proof.Spec.servo (s.noted r d) e dt = Sys2Proof.Spec.servo s e dt := by
  unfold Sys2Proof.Spec.servo
  rw [noted_get (f := R.TB_SERVO_KI_SHIFT) (.inl (by decide)) (.inl (by decide)), noted_get (f := R.TB_SERVO_KP_SHIFT) (.inl (by decide)) (.inl (by decide)),
    noted_tb]

/-- A sample that the servo works on, whose rate is within the limit. -/
theorem servoRun_leaves (hfit : Sys2Proof.Spec.fits d) (hle : (Sys2Proof.Spec.servo s d ((r : Int) - rp)).2.natAbs ≤ 219902325) :
    let t := (s.noted r d).servoRun d r rp
    s.Marks t d r ∧ t.tb.rPrev = some r ∧ t.tb.i = (Sys2Proof.Spec.servo s d ((r : Int) - rp)).1 ∧
      t.getSigned R.TB_RATE_NOW = (Sys2Proof.Spec.servo s d ((r : Int) - rp)).2 ∧ t.tb.good = s.goodAfter d ∧
      t.get R.TB_STATUS_STATE = if s.get R.TB_STATUS_STATE = 2 then (if 4 * s.get R.TB_SERVO_LOCK_NS < d.natAbs then 1 else 2)
        else if 16 ≤ t.tb.good then 2 else s.get R.TB_STATUS_STATE := by
  have hservo := noted_servo s r d d ((r : Int) - rp)
  have hgood : (s.noted r d).goodAfter d = s.goodAfter d := by
    rw [State.goodAfter, State.goodAfter, noted_get (.inl (by decide)) (.inl (by decide)), noted_tb]
  have htb : ((s.noted r d).steered d r rp).tb.good = s.goodAfter d := by rw [steered_tb, ← hgood, State.servoKept]
  rw [servoRun_of_le (hservo.symm ▸ hle)]
  refine ⟨(noted_marks hfit).of_get ?_ (by rw [lockSeen_tb, steered_tb, State.servoKept]) ?_, by rw [lockSeen_tb, steered_tb, State.servoKept], ?_, ?_, ?_, ?_⟩
  · exact (lockSeen_get (.inl (by decide))).trans (steered_get (.inl (by decide)) (.inl (by decide)))
  · exact (lockSeen_get (.inl (by decide))).trans (steered_get (.inl (by decide)) (.inl (by decide)))
  · rw [lockSeen_tb, steered_tb, State.servoKept, hservo]
  · rw [getSigned_of_get (lockSeen_get (.inl (by decide))), State.steered, hservo]
    exact getSigned_setSigned_same rfl rfl (rate_fits hle)
  · rw [lockSeen_tb, htb]
  · rw [lockSeen_state, lockSeen_tb, htb, steered_get (.inl (by decide)) (.inl (by decide)), noted_state, steered_get (.inl (by decide)) (.inl (by decide)),
      noted_get (.inl (by decide)) (.inl (by decide))]

/-! ### Edges and silences (R502, R511) -/

/-- A PPS edge captured and counted. -/
def State.edgeSeen (s : State) : State := (s.setSigned R.TB_PPS_CAPT_TIME s.now).inc (R.TB_CNT_COUNT 9)

theorem edgeSeen_sameClock (s : State) : s.SameClock s.edgeSeen :=
  .trans (t := s.setSigned R.TB_PPS_CAPT_TIME s.now) (.set (.inl (by decide)) (.inl (by decide))) (.set (.inl (by decide)) (.inl (by decide)))

theorem edgeSeen_get (ht : R.TB_PPS_CAPT_TIME.Apart f) (hc : (R.TB_CNT_COUNT 9).Apart f) : s.edgeSeen.get f = s.get f :=
  (get_inc_apart hc).trans (get_setSigned_apart ht)

theorem exec_ppsEdge {now : Nat} (hu : s.up = true) : exec (.ppsEdge now) s = .next ((s.advance now).edgeSeen.sample 4
    (((s.advance now).now + 500000000) / 1000000000 * 1000000000 + s.getSigned R.TB_PPS_CFG_OFFSET_NS) (max s.raw now)) := by
  have hoff : (s.advance now).edgeSeen.getSigned R.TB_PPS_CFG_OFFSET_NS = s.getSigned R.TB_PPS_CFG_OFFSET_NS :=
    getSigned_of_get (edgeSeen_get (s := s.advance now) (.inl (by decide)) (.inl (by decide)))
  rw [exec, execPpsEdge, whenUp_of_up hu, ← hoff]
  rfl

/-- HOLDOVER entered, before its report. -/
def State.heldOver (s : State) : State :=
  (({ s with tb := { s.tb with rPrev := none } } : State).set R.TB_STATUS_STATE tbHoldover).inc (R.TB_CNT_COUNT 5)

theorem exec_holdoverTimeout {now : Nat} (hu : s.up = true) (hst : s.get R.TB_STATUS_STATE = 1 ∨ s.get R.TB_STATUS_STATE = 2)
    (hdue : s.tb.procRaw + 1000000 * s.get R.TB_THRESH_HOLD_MS ≤ max s.raw now) :
    exec (.holdoverTimeout now) s = .next ((s.advance now).heldOver.report 19 0) := by
  have hdue' : (s.advance now).tb.procRaw + (s.advance now).get R.TB_THRESH_HOLD_MS * 1000000 ≤ (s.advance now).raw := by
    rw [Nat.mul_comm]; exact hdue
  rw [exec, execHoldoverTimeout, whenUp_of_up hu]
  exact congrArg _ (if_pos ⟨hst, hdue'⟩)

theorem heldOver_tb (s : State) : s.heldOver.tb = { s.tb with rPrev := none } := by rw [State.heldOver, inc_tb, set_tb]

theorem edgeSeen_tb (s : State) : s.edgeSeen.tb = s.tb := by rw [State.edgeSeen, inc_tb, setSigned_tb]

/-- Settles O32: a processed sample is noted and then falls under one of four cases, each of which writes the rate, STATE and what the servo keeps. -/
theorem servoSamples : Obligations.ServoSamples := by
  unfold Obligations.ServoSamples
  refine ⟨fun s now hu => ⟨fun hh m r => by rw [exec, execTimebaseSample, whenWr_of_up hu hh], ?_, fun hst hdue => ?_⟩, fun s src r m => sample_of_off, fun s src r m hen => ?_⟩
  · refine ⟨_, exec_ppsEdge hu, ?_, ?_, (edgeSeen_sameClock _).now, edgeSeen_tb _⟩
    · rw [State.edgeSeen, getSigned_of_get (get_inc_apart (.inl (by decide))), State.getSigned, get_setSigned_same (by decide)]
      rfl
    · rw [State.edgeSeen, get_inc_same (by decide), get_setSigned_apart (.inl (by decide))]
      rfl
  · refine ⟨_, exec_holdoverTimeout hu hst hdue, ?_, by rw [heldOver_tb], ?_, ?_⟩
    · exact (get_inc_apart (.inl (by decide))).trans (get_set_same _ R.TB_STATUS_STATE _ (by decide))
    · exact (get_inc_apart (.inl (by decide))).trans (get_set_apart (.inl (by decide)))
    · rw [State.heldOver, get_inc_same (by decide), get_set_apart (.inl (by decide))]
      rfl
  · refine ⟨sample_of_stale hen, sample_of_source hen, sample_of_repeat hen, fun hfresh hsrc hnew hfollow hfit hoff => ?_⟩
    rw [sample_of_new hen hfresh hsrc hnew]
    refine ⟨fun hs => ?_, fun hs hj hst => ?_, fun hs hj hp => ?_, fun hs hj rp hp hle => ?_⟩
    · rw [servoSample_steps hfollow rfl hs]
      exact autoStepped_leaves hfit hoff
    · exact ⟨_, servoSample_jumps hfollow rfl hs hj hst, jumped_leaves hfit⟩
    · rw [servoSample_begins hfollow rfl hs hj hp]
      exact begun_leaves hfit
    · rw [servoSample_runs hfollow rfl hs hj hp]
      exact servoRun_leaves hfit hle

end Sys2Proof.Machine
end

section
/-! Pulse generators: how one is enabled, when its output rises and falls, and where a step leaves it (12_timebase.md R512 to R514). -/

namespace Sys2Proof.Machine

variable {s t : State} {f : Field} {g : Nat}

/-! ### The registers of a generator -/

/-- ENABLE of a generator keeps its value in a write of its status or of its counters. -/
theorem enable_apart (g : Nat) : (R.TB_PG_STATUS_ERR g).Apart (R.TB_PG_CTRL_ENABLE g) ∧ (R.TB_PG_STATUS_MISSED g).Apart (R.TB_PG_CTRL_ENABLE g) ∧
    (R.TB_PG_STATUS_OUTPUT g).Apart (R.TB_PG_CTRL_ENABLE g) ∧ (R.TB_PG_PULSES_COUNT g).Apart (R.TB_PG_CTRL_ENABLE g) := by
  simp only [Field.Apart, R.TB_PG_STATUS_ERR, R.TB_PG_STATUS_MISSED, R.TB_PG_STATUS_OUTPUT, R.TB_PG_PULSES_COUNT, R.TB_PG_CTRL_ENABLE]
  omega

/-- What a write of ENABLE leaves. -/
theorem enable_leaves (g : Nat) : (R.TB_PG_CTRL_ENABLE g).Apart (R.TB_PG_STATUS_ERR g) ∧ (R.TB_PG_CTRL_ENABLE g).Apart (R.TB_PG_STATUS_OUTPUT g) ∧
    (R.TB_PG_CTRL_ENABLE g).Apart (R.TB_PG_PULSES_COUNT g) := by
  simp only [Field.Apart, R.TB_PG_STATUS_ERR, R.TB_PG_STATUS_OUTPUT, R.TB_PG_PULSES_COUNT, R.TB_PG_CTRL_ENABLE]
  omega

/-- A count of pulses, and a rise of the output, leave the rest of the generator's registers and the common start. -/
theorem pulse_apart (g : Nat) : (R.TB_PG_PULSES_COUNT g).Apart (R.TB_PG_STATUS_OUTPUT g) ∧ (R.TB_PG_PULSES_COUNT g).Apart (R.TB_PG_CTRL_PERIODIC g) ∧
    (R.TB_PG_PULSES_COUNT g).Apart (R.TB_PG_WIDTH_NS g) ∧ (R.TB_PG_STATUS_OUTPUT g).Apart (R.TB_PG_PULSES_COUNT g) ∧
    (R.TB_PG_STATUS_OUTPUT g).Apart (R.TB_PG_CTRL_PERIODIC g) := by
  simp only [Field.Apart, R.TB_PG_STATUS_OUTPUT, R.TB_PG_PULSES_COUNT, R.TB_PG_CTRL_PERIODIC, R.TB_PG_WIDTH_NS]
  omega

/-- The common start lies above the registers of the eight generators. -/
theorem pulse_apart_start (g : Fin 8) : (R.TB_PG_PULSES_COUNT g).Apart R.AUD_START_ARM ∧ (R.TB_PG_STATUS_OUTPUT g).Apart R.AUD_START_ARM := by
  simp only [Field.Apart, R.TB_PG_PULSES_COUNT, R.TB_PG_STATUS_OUTPUT, R.AUD_START_ARM]
  omega

theorem flag_setEnable (s : State) (g : Nat) (b : Bool) : (s.setFlag (R.TB_PG_CTRL_ENABLE g) b).flag (R.TB_PG_CTRL_ENABLE g) = b :=
  flag_setFlag_same _ _ _ (show 0 + 1 ≤ 64 by decide) (show 0 < 1 by decide)

theorem flag_setErr (s : State) (g : Nat) (b : Bool) : (s.setFlag (R.TB_PG_STATUS_ERR g) b).flag (R.TB_PG_STATUS_ERR g) = b :=
  flag_setFlag_same _ _ _ (show 3 + 1 ≤ 64 by decide) (show 0 < 1 by decide)

theorem flag_setMissed (s : State) (g : Nat) (b : Bool) : (s.setFlag (R.TB_PG_STATUS_MISSED g) b).flag (R.TB_PG_STATUS_MISSED g) = b :=
  flag_setFlag_same _ _ _ (show 2 + 1 ≤ 64 by decide) (show 0 < 1 by decide)

theorem flag_setOutput (s : State) (g : Nat) (b : Bool) : (s.setFlag (R.TB_PG_STATUS_OUTPUT g) b).flag (R.TB_PG_STATUS_OUTPUT g) = b :=
  flag_setFlag_same _ _ _ (show 4 + 1 ≤ 64 by decide) (show 0 < 1 by decide)

theorem setPg_flag {p : Pg} : (s.setPg g p).flag f = s.flag f := rfl

/-! ### Enabling (R513) -/

/-- Whether R513 accepts a periodic generator. -/
def State.pgGood (s : State) (g : Nat) : Prop := 1000 * 2 ^ 32 ≤ s.pgPeriod g ∧ s.get (R.TB_PG_WIDTH_NS g) * 2 ^ 32 < s.pgPeriod g

/-- A generator enabled for a pulse. -/
def State.pgRuns (s : State) (g k : Nat) : State :=
  ((s.setFlag (R.TB_PG_STATUS_ERR g) false).setFlag (R.TB_PG_CTRL_ENABLE g) true).setPg g { s.pg g with k := k }

theorem pgRuns_leaves (s : State) (g k : Nat) : (s.pgRuns g k).flag (R.TB_PG_CTRL_ENABLE g) = true ∧ (s.pgRuns g k).flag (R.TB_PG_STATUS_ERR g) = false ∧
    ((s.pgRuns g k).pg g).k = k := by
  rw [State.pgRuns, setPg_flag, setPg_flag, flag_setEnable, flag_setFlag_apart (enable_leaves g).1, flag_setErr, pg_setPg_same]
  exact ⟨rfl, rfl, rfl⟩

section
variable (hoff : s.flag (R.TB_PG_CTRL_ENABLE g) = false)
include hoff

theorem pgEnable_good (hper : s.flag (R.TB_PG_CTRL_PERIODIC g) = true) (hg : s.pgGood g) : s.pgEnable g = s.pgRuns g (s.pgFirst g (s.now + 1000)) := by
  have hbad : ¬(s.pgPeriod g < 1000 * 2 ^ 32 ∨ s.pgPeriod g ≤ s.get (R.TB_PG_WIDTH_NS g) * 2 ^ 32) := by
    rw [not_or, Nat.not_lt, Nat.not_le]; exact hg
  rw [State.pgEnable, hoff, hper, if_neg Bool.false_ne_true, if_pos rfl, if_neg hbad]
  rfl

theorem pgEnable_bad (hper : s.flag (R.TB_PG_CTRL_PERIODIC g) = true) (hg : ¬s.pgGood g) : s.pgEnable g = s.setFlag (R.TB_PG_STATUS_ERR g) true := by
  have hbad : s.pgPeriod g < 1000 * 2 ^ 32 ∨ s.pgPeriod g ≤ s.get (R.TB_PG_WIDTH_NS g) * 2 ^ 32 := by
    exact (not_and_or.1 hg).imp Nat.not_le.1 Nat.not_lt.1
  rw [State.pgEnable, hoff, hper, if_neg Bool.false_ne_true, if_pos rfl, if_pos hbad]

theorem pgEnable_once (hper : s.flag (R.TB_PG_CTRL_PERIODIC g) = false) : s.pgEnable g =
    if (s.pgStart g : Int) < (s.now + 1000) * 2 ^ 32 then ((s.setFlag (R.TB_PG_STATUS_ERR g) false).setFlag (R.TB_PG_STATUS_MISSED g) true).report 22 0
    else s.pgRuns g 0 := by
  have hsame : s.SameClock (s.setFlag (R.TB_PG_STATUS_ERR g) false) := by
    refine .set (.inl ?_) (.inl ?_) <;> simp only [R.TB_PG_STATUS_ERR, R.TB_OFFSET, R.TB_RATE_NOW] <;> omega
  have hstart : (s.setFlag (R.TB_PG_STATUS_ERR g) false).pgStart g = s.pgStart g :=
    (pulseTime_of_reg fun k h1 h2 => reg_set_other _ _ _ _ (by simp only [R.TB_PG_STATUS_ERR]; omega)).1
  rw [State.pgEnable, hoff, hper, if_neg Bool.false_ne_true, if_neg Bool.false_ne_true]
  dsimp only
  rw [hsame.now, hstart]
  rfl

end

/-! ### Rises and falls (R512, R513, R514) -/

/-- A pulse counted, and the next one made due. -/
def State.pulseCounted (s : State) (g : Nat) : State := (s.inc (R.TB_PG_PULSES_COUNT g)).setPg g
  { s.pg g with k := (s.pg g).k + 1, rose := if s.get (R.TB_PG_WIDTH_NS g) = 0 then none else some (s.raw, s.now), stepped := false }

/-- A pulse as it begins: of WIDTH 0 it is over at once, and with it a one-shot. -/
def State.pulsed (s : State) (g : Nat) : State :=
  if s.get (R.TB_PG_WIDTH_NS g) = 0 then
    (if s.flag (R.TB_PG_CTRL_PERIODIC g) = false then (s.pulseCounted g).setFlag (R.TB_PG_CTRL_ENABLE g) false else s.pulseCounted g)
  else (s.pulseCounted g).setFlag (R.TB_PG_STATUS_OUTPUT g) true

theorem audPulse_of_disarmed (h : s.flag R.AUD_START_ARM = false) : s.audPulse g = s := by
  rw [State.audPulse, h, if_neg (by simp)]

theorem pulseCounted_get (h : (R.TB_PG_PULSES_COUNT g).Apart f) : (s.pulseCounted g).get f = s.get f := by
  rw [State.pulseCounted, setPg_get, get_inc_apart h]

theorem pulseCounted_flag (h : (R.TB_PG_PULSES_COUNT g).Apart f) : (s.pulseCounted g).flag f = s.flag f := flag_of_get (pulseCounted_get h)

theorem pulseCounted_leaves (s : State) (g : Nat) : (s.pulseCounted g).get (R.TB_PG_PULSES_COUNT g) = (s.get (R.TB_PG_PULSES_COUNT g) + 1) % 2 ^ 64 ∧
    (s.pulseCounted g).pg g = { k := (s.pg g).k + 1, rose := if s.get (R.TB_PG_WIDTH_NS g) = 0 then none else some (s.raw, s.now), stepped := false } :=
  ⟨by rw [State.pulseCounted, setPg_get, get_inc_same (show 0 + 64 ≤ 64 by decide)]; rfl, pg_setPg_same ..⟩

theorem exec_pulseDue {g : Fin 8} {now : Nat} (hu : s.up = true) (hen : s.flag (R.TB_PG_CTRL_ENABLE g) = true) (harm : s.flag R.AUD_START_ARM = false)
    (hk : s.flag (R.TB_PG_CTRL_PERIODIC g) = true ∨ (s.pg g).k = 0)
    (hdue : Sys2Proof.Spec.pulseTime s g (s.pg g).k ≤ (s.advance now).now * 2 ^ 32) : exec (.pulseDue g now) s = .next ((s.advance now).pulsed g) := by
  have hcnt : ((s.advance now).pulseCounted g).flag R.AUD_START_ARM = false := (pulseCounted_flag (pulse_apart_start g).1).trans harm
  have hout : (((s.advance now).pulseCounted g).setFlag (R.TB_PG_STATUS_OUTPUT g) true).flag R.AUD_START_ARM = false :=
    (flag_setFlag_apart (pulse_apart_start g).2).trans hcnt
  have hper := pulseCounted_flag (s := s.advance now) (pulse_apart g).2.1
  have hfinished : (!(!s.flag (R.TB_PG_CTRL_PERIODIC g) && decide (0 < (s.pg g).k))) = true := by
    rcases hk with h | h <;> simp [h]
  have hwidth : ((s.advance now).inc (R.TB_PG_PULSES_COUNT g)).get (R.TB_PG_WIDTH_NS g) = (s.advance now).get (R.TB_PG_WIDTH_NS g) :=
    get_inc_apart (pulse_apart g).2.2.1
  have hnow : ((s.advance now).inc (R.TB_PG_PULSES_COUNT g)).now = (s.advance now).now := by
    refine State.SameClock.now (.set (.inl ?_) (.inl ?_)) <;> simp only [R.TB_PG_PULSES_COUNT, R.TB_OFFSET, R.TB_RATE_NOW] <;> omega
  rw [exec, execPulseDue, whenUp_of_up hu]
  refine congrArg _ ((if_pos ⟨hen, decide_eq_true hdue, hfinished⟩).trans ?_)
  dsimp only
  rw [hwidth, hnow, State.pulsed]
  by_cases hz : (s.advance now).get (R.TB_PG_WIDTH_NS g) = 0
  · have hcounted : ((s.advance now).inc (R.TB_PG_PULSES_COUNT g)).setPg g { k := ((s.advance now).pg g).k + 1, rose := none, stepped := false } =
        (s.advance now).pulseCounted g := by rw [State.pulseCounted, if_pos hz]
    simp only [hz, decide_true, if_true, true_and]
    rw [hcounted, audPulse_of_disarmed hcnt, hper]
  · have hcounted : ((s.advance now).inc (R.TB_PG_PULSES_COUNT g)).setPg g
        { k := ((s.advance now).pg g).k + 1, rose := some ((s.advance now).raw, (s.advance now).now), stepped := false } =
        (s.advance now).pulseCounted g := by rw [State.pulseCounted, if_neg hz]
    simp only [hz, decide_false, Bool.false_eq_true, if_false, false_and, inc_raw]
    rw [hcounted, audPulse_of_disarmed hout]

/-- The output falls, and with it a one-shot ends. -/
def State.pulseOver (s : State) (g : Nat) : State :=
  let t := (s.setFlag (R.TB_PG_STATUS_OUTPUT g) false).setPg g { s.pg g with rose := none, stepped := false }
  if t.flag (R.TB_PG_CTRL_PERIODIC g) then t else t.setFlag (R.TB_PG_CTRL_ENABLE g) false

theorem exec_pulseEnd {g : Fin 8} {now r : Nat} {l : Int} (hu : s.up = true) (hr : (s.pg g).rose = some (r, l))
    (hdue : if (s.pg g).stepped = true then r + s.get (R.TB_PG_WIDTH_NS g) ≤ max s.raw now else l + s.get (R.TB_PG_WIDTH_NS g) ≤ (s.advance now).now) :
    exec (.pulseEnd g now) s = .next ((s.advance now).pulseOver g) := by
  have hr' : ((s.advance now).pg g).rose = some (r, l) := hr
  have hdue' : (((s.advance now).pg g).stepped = true ∧ (r : Int) + ((s.advance now).get (R.TB_PG_WIDTH_NS g) : Nat) ≤ ((s.advance now).raw : Nat)) ∨
      (((s.advance now).pg g).stepped = false ∧ l + ((s.advance now).get (R.TB_PG_WIDTH_NS g) : Nat) ≤ (s.advance now).now) := by
    by_cases hst : (s.pg g).stepped = true
    · rw [if_pos hst] at hdue
      exact .inl ⟨hst, by exact_mod_cast hdue⟩
    · rw [if_neg hst] at hdue
      exact .inr ⟨eq_false_of_ne_true hst, hdue⟩
  rw [exec, execPulseEnd, whenUp_of_up hu]
  simp only [hr']
  exact congrArg _ (if_pos hdue')

theorem pulseOver_eq (s : State) (g : Nat) : s.pulseOver g =
    if s.flag (R.TB_PG_CTRL_PERIODIC g) = true then (s.setFlag (R.TB_PG_STATUS_OUTPUT g) false).setPg g { s.pg g with rose := none, stepped := false }
    else ((s.setFlag (R.TB_PG_STATUS_OUTPUT g) false).setPg g { s.pg g with rose := none, stepped := false }).setFlag (R.TB_PG_CTRL_ENABLE g) false := by
  rw [State.pulseOver]
  dsimp only
  rw [setPg_flag, flag_setFlag_apart (pulse_apart g).2.2.2.2]

@[simp] theorem pg_setFlag (s : State) (f : Field) (b : Bool) (g : Nat) : (s.setFlag f b).pg g = s.pg g := (rfl)

theorem pulseOver_leaves (s : State) (g : Nat) : (s.pulseOver g).flag (R.TB_PG_STATUS_OUTPUT g) = false ∧ ((s.pulseOver g).pg g).rose = none ∧
    (s.pulseOver g).flag (R.TB_PG_CTRL_ENABLE g) = (s.flag (R.TB_PG_CTRL_ENABLE g) && s.flag (R.TB_PG_CTRL_PERIODIC g)) := by
  rw [pulseOver_eq]
  by_cases hper : s.flag (R.TB_PG_CTRL_PERIODIC g) = true
  · rw [if_pos hper, hper, setPg_flag, setPg_flag, flag_setOutput, pg_setPg_same, flag_setFlag_apart (enable_apart g).2.2.1, Bool.and_true]
    exact ⟨rfl, rfl, rfl⟩
  · rw [if_neg hper, eq_false_of_ne_true hper, flag_setFlag_apart (enable_leaves g).2.1, setPg_flag, flag_setOutput, pg_setFlag, pg_setPg_same, flag_setEnable,
      Bool.and_false]
    exact ⟨rfl, rfl, rfl⟩

/-- A pulse that begins, with a WIDTH and without one. -/
theorem pulsed_leaves (hen : s.flag (R.TB_PG_CTRL_ENABLE g) = true) :
    (s.pulsed g).get (R.TB_PG_PULSES_COUNT g) = (s.get (R.TB_PG_PULSES_COUNT g) + 1) % 2 ^ 64 ∧ ((s.pulsed g).pg g).k = (s.pg g).k + 1 ∧
      (0 < s.get (R.TB_PG_WIDTH_NS g) → (s.pulsed g).flag (R.TB_PG_STATUS_OUTPUT g) = true ∧ ((s.pulsed g).pg g).rose = some (s.raw, s.now) ∧
        (s.pulsed g).flag (R.TB_PG_CTRL_ENABLE g) = true) ∧
      (s.get (R.TB_PG_WIDTH_NS g) = 0 → (s.pulsed g).flag (R.TB_PG_STATUS_OUTPUT g) = s.flag (R.TB_PG_STATUS_OUTPUT g) ∧
        (s.pulsed g).flag (R.TB_PG_CTRL_ENABLE g) = s.flag (R.TB_PG_CTRL_PERIODIC g)) := by
  obtain ⟨hcount, hpg⟩ := pulseCounted_leaves s g
  have henable : (s.pulseCounted g).flag (R.TB_PG_CTRL_ENABLE g) = true := (pulseCounted_flag (enable_apart g).2.2.2).trans hen
  have houtput : (s.pulseCounted g).flag (R.TB_PG_STATUS_OUTPUT g) = s.flag (R.TB_PG_STATUS_OUTPUT g) := pulseCounted_flag (pulse_apart g).1
  unfold State.pulsed
  by_cases hz : s.get (R.TB_PG_WIDTH_NS g) = 0
  · refine ⟨?_, ?_, fun h => absurd hz h.ne', fun _ => ?_⟩ <;> rw [if_pos hz] <;> by_cases hper : s.flag (R.TB_PG_CTRL_PERIODIC g) = false
    · rw [if_pos hper, get_setFlag_apart (enable_leaves g).2.2, hcount]
    · rw [if_neg hper, hcount]
    · rw [if_pos hper, pg_setFlag, hpg]
    · rw [if_neg hper, hpg]
    · rw [if_pos hper, flag_setFlag_apart (enable_leaves g).2.1, flag_setEnable]
      exact ⟨houtput, hper.symm⟩
    · rw [if_neg hper, henable]
      exact ⟨houtput, (eq_true_of_ne_false hper).symm⟩
  · rw [if_neg hz]
    refine ⟨?_, ?_, fun _ => ⟨flag_setOutput .., ?_, ?_⟩, fun h => absurd h hz⟩
    · rw [get_setFlag_apart (pulse_apart g).2.2.2.1, hcount]
    · rw [pg_setFlag, hpg]
    · rw [pg_setFlag, hpg, if_neg hz]
    · rw [flag_setFlag_apart (enable_apart g).2.2.1, henable]

theorem exec_pgEnable {g : Fin 8} {now : Nat} (hu : s.up = true) (hh : s.halted = false) : exec (.pgEnable g now) s = .next ((s.advance now).pgEnable g) := by
  rw [exec, execPgEnable, whenWr_of_up hu hh]

/-- A step by software puts every enabled periodic generator at the first pulse at or after the new local time. -/
theorem softStep_place {d : Int} (hg : g < 8) (hused : s.flag R.TB_STATUS_STEP_USED = false) (he : s.flag (R.TB_PG_CTRL_ENABLE g) = true)
    (hper : s.flag (R.TB_PG_CTRL_PERIODIC g) = true) :
    (s.softStep d).get (R.TB_PG_RESYNC_COUNT g) = (s.get (R.TB_PG_RESYNC_COUNT g) + 1) % 2 ^ 64 ∧
      ((s.softStep d).pg g).k = s.pgFirst g (s.softStep d).now := by
  have hmade (f : Field) (hf : 0x61000 ≤ f.key) : (s.stepMade d).get f = s.get f := get_of_reg (stepMade_reg_above hf)
  have hresync : 0x61000 ≤ (R.TB_PG_RESYNC_COUNT g).key := by simp only [R.TB_PG_RESYNC_COUNT]; omega
  have hplace := pgSteps_place (s := s.stepMade d) hg ((flag_of_get (hmade _ (Nat.le_add_right ..))).trans he)
    ((flag_of_get (hmade (R.TB_PG_CTRL_PERIODIC g) (Nat.le_add_right ..))).trans hper)
  rw [← applyStep_eq] at hplace
  obtain ⟨hk, hcount⟩ := Prod.mk.inj hplace
  obtain ⟨hstart, hperiod⟩ := pulseTime_of_reg (s := s) (t := s.stepMade d) (g := g) fun k h1 _ => stepMade_reg_above (by omega)
  refine ⟨?_, ?_⟩
  · rw [softStep_get hused (.inl (by simp only [R.TB_PG_RESYNC_COUNT, R.TB_STATUS_STATE]; omega)), hcount, State.pulsePlace, hmade _ hresync]
  · rw [State.pg, softStep_pgs hused, ← State.pg, hk, (softStep_sameClock hused).now, (stepMade_moves s d).sameClock.now, State.pgFirst, State.pgFirst, hstart,
      hperiod]

/-- Settles O33: the first pulse at or after a time is what pgFirst finds, and each command writes the generator's own registers and nothing that its pulse
times hang on. -/
theorem pulseGenerators : Obligations.PulseGenerators := by
  unfold Obligations.PulseGenerators
  refine ⟨fun g now s hu hh hoff => ?_, fun g now s hu hen harm hk hdue => ⟨_, exec_pulseDue hu hen harm hk hdue, pulsed_leaves hen⟩,
    fun g now r l s hu hr hdue => ⟨_, exec_pulseEnd hu hr hdue, pulseOver_leaves ..⟩, fun s d now g hu hh hused hen hper hpos => ?_⟩
  · have hexec : exec (.pgEnable g now) s = .next ((s.advance now).pgEnable g) := exec_pgEnable hu hh
    refine ⟨fun hper hgood => ?_, fun hper hbad => ?_, fun hper hfar => ?_, fun hper hnear => ?_⟩
    · obtain ⟨hen, herr, hk⟩ := pgRuns_leaves (s.advance now) g ((s.advance now).pgFirst g ((s.advance now).now + 1000))
      have hfirst := pgFirst_spec (s := s.advance now) (g := g) (Nat.lt_of_lt_of_le (by norm_num) hgood.1) ((s.advance now).now + 1000)
      refine ⟨_, hexec.trans (congrArg _ (pgEnable_good (s := s.advance now) hoff hper hgood)), hen, herr, ?_⟩
      rw [hk]
      exact hfirst
    · exact ⟨_, hexec.trans (congrArg _ (pgEnable_bad (s := s.advance now) hoff hper hbad)), (flag_setFlag_apart (enable_apart g).1).trans hoff, flag_setErr ..⟩
    · exact ⟨_, hexec.trans (congrArg _ ((pgEnable_once (s := s.advance now) hoff hper).trans (if_neg (not_lt.2 hfar)))), pgRuns_leaves ..⟩
    · refine ⟨_, hexec.trans (congrArg _ ((pgEnable_once (s := s.advance now) hoff hper).trans (if_pos hnear))), ?_, flag_setMissed ..⟩
      exact (flag_setFlag_apart (enable_apart g).2.1).trans ((flag_setFlag_apart (enable_apart g).1).trans hoff)
  · have hctrl (f : Field) (hf : 0x61000 ≤ f.key) : (s.stepAsked d now).get f = s.get f := stepAsked_get (by simp only [K.TB_STEP]; omega)
    have hused' : (s.stepAsked d now).flag R.TB_STATUS_STEP_USED = false := (flag_of_get (stepAsked_get (by decide))).trans hused
    obtain ⟨hcount, hk⟩ := softStep_place (d := d.toInt) g.isLt hused' ((flag_of_get (hctrl _ (Nat.le_add_right ..))).trans hen)
      ((flag_of_get (hctrl (R.TB_PG_CTRL_PERIODIC g) (Nat.le_add_right ..))).trans hper)
    obtain ⟨hstart, hperiod⟩ := pulseTime_of_reg (s := s) (t := s.stepAsked d now) (g := g) fun k h1 _ =>
      reg_setReg_other _ _ _ _ (by simp only [K.TB_STEP]; omega)
    refine ⟨_, exec_tbStep hu hh, ?_, ?_⟩
    · rw [hcount, hctrl _ (by simp only [R.TB_PG_RESYNC_COUNT]; omega)]
    · rw [hk]
      have hfirst := pgFirst_spec (s := s.stepAsked d now) (g := g) (hperiod.symm ▸ hpos) ((s.stepAsked d now).softStep d.toInt).now
      unfold Sys2Proof.Spec.pulseTime at hfirst ⊢
      rwa [hstart, hperiod] at hfirst

end Sys2Proof.Machine
end

section
/-! Weneiren ports: what is kept of one beside its registers, its counters, and the flits that it sends (15_weneiren.md R570 to R572, R583, R589). -/

namespace Sys2Proof.Machine

variable {s t u : State} {f : Flit} {g : Field} {p i j n : Nat} {seq : Option Nat}

/-! ### What is kept of a port -/

@[simp] theorem wlPort_setWlPort (s : State) (p : Nat) (w : WlSt) : (s.setWlPort p w).wlPort p = w := tget_tset_same ..

@[simp] theorem wlPort_set (s : State) (g : Field) (x p : Nat) : (s.set g x).wlPort p = s.wlPort p := (rfl)
@[simp] theorem wlPort_setFlag (s : State) (g : Field) (b : Bool) (p : Nat) : (s.setFlag g b).wlPort p = s.wlPort p := (rfl)
@[simp] theorem wlPort_add (s : State) (g : Field) (n p : Nat) : (s.add g n).wlPort p = s.wlPort p := (rfl)
@[simp] theorem wlPort_inc (s : State) (g : Field) (p : Nat) : (s.inc g).wlPort p = s.wlPort p := (rfl)
@[simp] theorem wlPort_wlCount (s : State) (q i n p : Nat) : (s.wlCount q i n).wlPort p = s.wlPort p := wlPort_add ..
@[simp] theorem wlPort_emit (s : State) (o : Output) (p : Nat) : (s.emit o).wlPort p = s.wlPort p := (rfl)
@[simp] theorem wlPort_advance (s : State) (now p : Nat) : (s.advance now).wlPort p = s.wlPort p := (rfl)
@[simp] theorem get_setWlPort (s : State) (p : Nat) (w : WlSt) (g : Field) : (s.setWlPort p w).get g = s.get g := (rfl)
@[simp] theorem flag_setWlPort (s : State) (p : Nat) (w : WlSt) (g : Field) : (s.setWlPort p w).flag g = s.flag g := (rfl)
@[simp] theorem get_emit (s : State) (o : Output) (g : Field) : (s.emit o).get g = s.get g := (rfl)
@[simp] theorem set_wl (s : State) (g : Field) (x : Nat) : (s.set g x).wl = s.wl := (rfl)
@[simp] theorem wlCount_wl (s : State) (p i n : Nat) : (s.wlCount p i n).wl = s.wl := set_wl ..

@[simp] theorem wlCount_out (s : State) (p i n : Nat) : (s.wlCount p i n).out = s.out := add_out ..
@[simp] theorem wlCount_mem (s : State) (p i n : Nat) : (s.wlCount p i n).mem = s.mem := add_mem ..
@[simp] theorem emit_out (s : State) (o : Output) : (s.emit o).out = o :: s.out := (rfl)

theorem wlPort_of_wl (h : t.wl = s.wl) (p : Nat) : t.wlPort p = s.wlPort p := by rw [State.wlPort, h, State.wlPort]

/-- Nothing but registers, what is kept of the ports, and what leaves the device changes. -/
def State.WlOnly (s t : State) : Prop := t = { s with regs := t.regs, wl := t.wl, out := t.out }

namespace State.WlOnly

theorem refl : s.WlOnly s := rfl

theorem trans (h : s.WlOnly t) (h' : t.WlOnly u) : s.WlOnly u := by
  unfold State.WlOnly at *
  rw [h', h]

theorem set (s : State) (g : Field) (x : Nat) : s.WlOnly (s.set g x) := rfl
theorem setFlag (s : State) (g : Field) (b : Bool) : s.WlOnly (s.setFlag g b) := set ..
theorem add (s : State) (g : Field) (n : Nat) : s.WlOnly (s.add g n) := set ..
theorem inc (s : State) (g : Field) : s.WlOnly (s.inc g) := set ..
theorem wlCount (s : State) (p i n : Nat) : s.WlOnly (s.wlCount p i n) := set ..
theorem setWlPort (s : State) (p : Nat) (w : WlSt) : s.WlOnly (s.setWlPort p w) := rfl
theorem emit (s : State) (o : Output) : s.WlOnly (s.emit o) := rfl

theorem ite {c : Prop} [Decidable c] (ht : s.WlOnly t) (hu : s.WlOnly u) : s.WlOnly (if c then t else u) := by
  split <;> assumption

theorem foldl {α : Type} {step : State → α → State} (h : ∀ (s : State) a, s.WlOnly (step s a)) (l : List α) (s : State) : s.WlOnly (l.foldl step s) := by
  induction l generalizing s with
  | nil => exact refl
  | cons a l ih => exact (h s a).trans (ih _)

theorem raw (h : s.WlOnly t) : t.raw = s.raw := by rw [h]
theorem mem (h : s.WlOnly t) : t.mem = s.mem := by rw [h]
theorem tb (h : s.WlOnly t) : t.tb = s.tb := by rw [h]
theorem staged (h : s.WlOnly t) : t.staged = s.staged := by rw [h]
theorem groups (h : s.WlOnly t) : t.groups = s.groups := by rw [h]
theorem epochs (h : s.WlOnly t) : t.epochs = s.epochs := by rw [h]

end State.WlOnly

/-! ### Counters of a port (R589) -/

theorem get_wlCount (s : State) (p i j n : Nat) : (s.wlCount p i n).get (R.WL_CNT_COUNT p j) =
    if j = i then (s.get (R.WL_CNT_COUNT p j) + n) % 2 ^ 64 else s.get (R.WL_CNT_COUNT p j) := by
  split
  · next h => exact h ▸ get_set_same s _ _ (show 0 + 64 ≤ 64 by decide)
  · next h => exact get_set_other _ _ _ _ (by simp only [R.WL_CNT_COUNT]; omega)

theorem get_wlCount_same (s : State) (p i n : Nat) : (s.wlCount p i n).get (R.WL_CNT_COUNT p i) = (s.get (R.WL_CNT_COUNT p i) + n) % 2 ^ 64 := by
  rw [get_wlCount, if_pos rfl]

theorem get_wlCount_other (h : j ≠ i) : (s.wlCount p i n).get (R.WL_CNT_COUNT p j) = s.get (R.WL_CNT_COUNT p j) := by
  rw [get_wlCount, if_neg h]

theorem reg_wlCount {k : Nat} (h : k ≠ 0xe00400 + p * 0x40000 + i * 8) : (s.wlCount p i n).reg k = s.reg k := reg_set_other _ _ _ _ h

theorem get_wlCount_apart (h : g.key ≠ 0xe00400 + p * 0x40000 + i * 8) : (s.wlCount p i n).get g = s.get g := get_of_reg (reg_wlCount h)

/-! ### The credits that a header returns (R583) -/

/-- What is kept of a port after a flit of it has left at raw time r. -/
def WlSt.paid (w : WlSt) (r : Nat) : WlSt :=
  { w with owed := if w.owes.1 = 0 then w.owed else tset (fun _ => 0) w.owed w.owes.1 (tget (fun _ => 0) w.owed w.owes.1 - w.owes.2), lastTx := r }

/-- The credits returned by a flit, counted. -/
def State.creditPaid (s : State) (p : Nat) : State :=
  if (s.wlPort p).owes.1 = 0 then s else s.add (R.WL_CREDIT_COUNT p ((s.wlPort p).owes.1 - 1) 3) (s.wlPort p).owes.2

theorem owes_cases (w : WlSt) : w.owes = (0, 0) ∨ w.owes.1 = 1 ∨ w.owes.1 = 2 ∨ w.owes.1 = 3 := by
  unfold WlSt.owes
  split
  · next v h =>
    have hv := List.mem_of_find?_eq_some h
    simp only [List.mem_cons, List.not_mem_nil, or_false] at hv
    exact .inr hv
  · exact .inl rfl

theorem creditPaid_eq (s : State) (p : Nat) : s.creditPaid p = { s with regs := (s.creditPaid p).regs } := by
  unfold State.creditPaid
  split
  · rfl
  · exact add_eq ..

theorem creditPaid_wlOnly (s : State) (p : Nat) : s.WlOnly (s.creditPaid p) := .ite .refl (.add ..)

theorem sendFlit_eq (s : State) (p : Nat) (seq : Option Nat) (f : Flit) : s.sendFlit p seq f =
    (((s.creditPaid p).setWlPort p ((s.wlPort p).paid s.raw)).wlCount p 0 1).emit
      (.flit p seq (((s.wlPort p).rxNext + 4095) % 4096) (s.wlPort p).owes.1 (s.wlPort p).owes.2 f) := by
  rw [← (creditPaid_wlOnly s p).raw]
  rfl

/-- Registers that no flit sent by port p writes: all but its count of flits and its counts of credits returned. -/
def OffSend (p k : Nat) : Prop :=
  k ≠ 0xe00400 + p * 0x40000 ∧ k ≠ 0xe00518 + p * 0x40000 ∧ k ≠ 0xe00538 + p * 0x40000 ∧ k ≠ 0xe00558 + p * 0x40000

theorem creditPaid_reg {k : Nat} (h : OffSend p k) : (s.creditPaid p).reg k = s.reg k := by
  obtain ⟨-, h1, h2, h3⟩ := h
  unfold State.creditPaid
  split
  · rfl
  · next hv =>
    refine reg_set_other _ _ _ _ ?_
    rcases owes_cases (s.wlPort p) with h | h | h | h
    · exact absurd (congrArg Prod.fst h) hv
    all_goals rw [h]; simp only [R.WL_CREDIT_COUNT]; omega

theorem sendFlit_reg {k : Nat} (h : OffSend p k) : (s.sendFlit p seq f).reg k = s.reg k := by
  rw [sendFlit_eq, emit_reg, reg_wlCount h.1]
  exact creditPaid_reg h

theorem sendFlit_get (h : OffSend p g.key) : (s.sendFlit p seq f).get g = s.get g := get_of_reg (sendFlit_reg h)

theorem sendFlit_wlPort (s : State) (p : Nat) (seq : Option Nat) (f : Flit) : (s.sendFlit p seq f).wlPort p = (s.wlPort p).paid s.raw := by
  rw [sendFlit_eq, wlPort_emit, wlPort_wlCount, wlPort_setWlPort]

theorem sendFlit_out (s : State) (p : Nat) (seq : Option Nat) (f : Flit) : (s.sendFlit p seq f).out =
    .flit p seq (((s.wlPort p).rxNext + 4095) % 4096) (s.wlPort p).owes.1 (s.wlPort p).owes.2 f :: s.out := by
  rw [sendFlit_eq, emit_out, wlCount_out, setWlPort_out, creditPaid_eq]

theorem sendFlit_wlOnly (s : State) (p : Nat) (seq : Option Nat) (f : Flit) : s.WlOnly (s.sendFlit p seq f) := by
  rw [sendFlit_eq]
  exact (creditPaid_wlOnly s p).trans (.trans (.setWlPort ..) (.trans (.wlCount ..) (.emit ..)))

theorem sendFlit_sends (s : State) (p : Nat) (seq : Option Nat) (f : Flit) : Sys2Proof.Spec.sends s (s.sendFlit p seq f) p seq f :=
  ⟨_, _, _, sendFlit_out ..⟩

/-! ### Flits sent in a row -/

/-- An output is a flit with its SEQ as it leaves port p. -/
def Carries (p : Nat) (x : Option Nat × Flit) (o : Output) : Prop := ∃ ack v n, o = .flit p x.1 ack v n x.2

/-- The flits of a list, each with its SEQ, leave port p in order, and nothing but the credits that their headers return changes with them. -/
structure State.Sends (p : Nat) (l : List (Option Nat × Flit)) (s t : State) : Prop where
  wlOnly : s.WlOnly t
  reg : ∀ k, OffSend p k → t.reg k = s.reg k
  port : ∃ o r, t.wlPort p = { s.wlPort p with owed := o, lastTx := r }
  out : ∃ o, t.out = o ++ s.out ∧ List.Forall₂ (Carries p) l o.reverse

namespace State.Sends

variable {l l' : List (Option Nat × Flit)}

theorem refl : s.Sends p [] s := ⟨.refl, fun _ _ => rfl, ⟨_, _, rfl⟩, ⟨[], rfl, .nil⟩⟩

theorem trans (h : State.Sends p l s t) (h' : State.Sends p l' t u) : State.Sends p (l ++ l') s u := by
  obtain ⟨o1, r1, hport⟩ := h.port
  obtain ⟨o2, r2, hport'⟩ := h'.port
  obtain ⟨o, hout, hall⟩ := h.out
  obtain ⟨o', hout', hall'⟩ := h'.out
  refine ⟨h.wlOnly.trans h'.wlOnly, fun k hk => (h'.reg k hk).trans (h.reg k hk), ⟨o2, r2, by rw [hport', hport]⟩, ⟨o' ++ o, ?_, ?_⟩⟩
  · rw [hout', hout, List.append_assoc]
  · rw [List.reverse_append]
    exact List.rel_append hall hall'

theorem get (h : State.Sends p l s t) (hg : OffSend p g.key) : t.get g = s.get g := get_of_reg (h.reg _ hg)

theorem length (h : State.Sends p l s t) : ∃ o, t.out = o ++ s.out ∧ o.length = l.length ∧
    ∀ (i : Nat) (x : Option Nat × Flit), l[i]? = some x → ∃ ack v n, o.reverse[i]? = some (Output.flit p x.1 ack v n x.2) := by
  obtain ⟨o, hout, hall⟩ := h.out
  refine ⟨o, hout, (hall.length_eq.trans o.length_reverse).symm, fun i x hx => ?_⟩
  obtain ⟨hi, hx⟩ := List.getElem?_eq_some_iff.1 hx
  obtain ⟨ack, v, n, hc⟩ := hall.get hi (hall.length_eq ▸ hi)
  refine ⟨ack, v, n, List.getElem?_eq_some_iff.2 ⟨hall.length_eq ▸ hi, ?_⟩⟩
  rw [← hx]
  exact hc

end State.Sends

theorem sendFlit_sendsAll (s : State) (p : Nat) (seq : Option Nat) (f : Flit) : s.Sends p [(seq, f)] (s.sendFlit p seq f) := by
  exact ⟨sendFlit_wlOnly .., fun k hk => sendFlit_reg hk, ⟨_, _, sendFlit_wlPort ..⟩, ⟨[_], sendFlit_out .., .cons ⟨_, _, _, rfl⟩ .nil⟩⟩

theorem foldl_sends {α : Type} (seq : α → Option Nat) (f : α → Flit) (l : List α) (s : State) :
    s.Sends p (l.map fun a => (seq a, f a)) (l.foldl (fun s a => s.sendFlit p (seq a) (f a)) s) := by
  induction l generalizing s with
  | nil => exact .refl
  | cons a l ih => exact (sendFlit_sendsAll s p (seq a) (f a)).trans (ih _)

/-! ### Control flits (R572) -/

theorem state_offSend (p : Nat) : OffSend p (R.WL_STATUS_STATE p).key := by simp only [OffSend, R.WL_STATUS_STATE]; omega

theorem wlRuns_of_get (h : t.get (R.WL_STATUS_STATE p) = s.get (R.WL_STATUS_STATE p)) : t.wlRuns p = s.wlRuns p := by
  rw [State.wlRuns, State.wlRuns, State.wlState, State.wlState, h]

theorem wlUp_of_get (h : t.get (R.WL_STATUS_STATE p) = s.get (R.WL_STATUS_STATE p)) : t.wlUp p = s.wlUp p := by
  rw [State.wlUp, State.wlUp, wlRuns_of_get h, State.wlState, State.wlState, h]

theorem sendControl_of_runs (h : s.wlRuns p = true) : s.sendControl p f = s.sendFlit p none f := by rw [State.sendControl, if_pos h]

/-- Echo flits in a row from a port that runs. -/
theorem echoes_send {α : Type} (l : List α) (h : s.wlRuns p = true) :
    s.Sends p (l.map fun _ => (none, .echoReq)) (l.foldl (fun s _ => s.sendControl p .echoReq) s) := by
  induction l generalizing s with
  | nil => exact .refl
  | cons a l ih =>
    rw [List.foldl_cons, sendControl_of_runs h]
    exact (sendFlit_sendsAll s p none .echoReq).trans (ih ((wlRuns_of_get (sendFlit_get (state_offSend p))).trans h))

end Sys2Proof.Machine
end

section
/-! The receipt of flits (15_weneiren.md R570 to R573, R575, R581, R583; 12_timebase.md R508 to R510; 16_redundancy.md R610). -/

namespace Sys2Proof.Machine

variable {s t u x y : State} {h : FlitHdr} {p v now : Nat} {f : State → State}

/-! ### A flit at a port -/

theorem wlUp_advance (s : State) (now p : Nat) : (s.advance now).wlUp p = s.wlUp p := wlUp_of_get advance_get

theorem onFlit_of_up (hu : s.up = true) (hh : s.halted = false) (hp : s.wlUp p = true) : s.onFlit p now f = .next (f (s.advance now)) := by
  rw [State.onFlit, if_pos ⟨hu, by rw [hh, Bool.not_false]⟩]
  exact congrArg _ (if_pos ((wlUp_advance ..).trans hp))

theorem onFlit_of_down (hu : s.up = true) (hh : s.halted = false) (hp : s.wlUp p = false) : s.onFlit p now f = .next (s.advance now) := by
  rw [State.onFlit, if_pos ⟨hu, by rw [hh, Bool.not_false]⟩]
  exact congrArg _ (if_neg (ne_true_of_eq_false ((wlUp_advance ..).trans hp)))

/-- What a HEARTBEAT flit tells of a group that is STANDBY: the SNAP and the epoch of the active unit. -/
def State.heartbeatEpoch (s : State) (g : Nat) (c : BitVec 32) (sn : Word) : State :=
  if s.flag (R.CLB_GRP_CFG_ENABLE g) ∧ s.get (R.CLB_GRP_STATUS_ROLE g) = 2 then
    { s.setGrp g { s.grp g with snap := sn.toNat, snapAt := s.raw } with epochs := tset (fun _ => 0) s.epochs g (c.toNat / 256) }
  else s

/-- A round trip measured by an echo flit, and LAT with the sixteenth. -/
def State.echoTaken (s : State) (p rt : Nat) : State :=
  let l := (s.wlPort p).echoes ++ [rt]
  if l.length < 16 then s.setWlPort p { s.wlPort p with echoes := l }
  else if (s.wlPort p).latOk then s
  else (s.setWlPort p { s.wlPort p with echoes := l, latOk := true }).set (R.TB_WL_LAT_LAT p) (median l / 2)

theorem exec_memWriteFlit {q : WlPort} {a : Word} {d : List (BitVec 8)} (hd : d.length ≤ 236) : exec (.memWriteFlit q h a d now) s =
    s.onFlit q now fun s => s.takeSeq q 1 h fun s => s.applyWrite q a.toNat d := if_pos hd

theorem exec_mediaFlit {q : WlPort} {l : List MediaUnit} : exec (.mediaFlit q h l now) s =
    s.onFlit q now fun s => s.takeSeq q 2 h fun s => l.foldl (fun s m => s.stageUnit q m) s := rfl

theorem exec_msgFlit {q : WlPort} {d : List (BitVec 8)} (hd : d.length ≤ 244) : exec (.msgFlit q h d now) s =
    s.onFlit q now fun s => s.takeSeq q 3 h fun s => s.setWlPort q { s.wlPort q with inbox := (s.wlPort q).inbox ++ [d] } := if_pos hd

theorem exec_idleFlit {q : WlPort} {e : Bool} : exec (.idleFlit q h e now) s =
    s.onFlit q now fun s => (s.takeHeader q h).setWlPort q { (s.takeHeader q h).wlPort q with rxIdle := e } := rfl

theorem exec_heartbeatFlit {q : WlPort} {g : GroupId} {m : BitVec 3} {c : BitVec 32} {sn img : Word} : exec (.heartbeatFlit q h g m c sn img now) s =
    s.onFlit q now fun s => State.heartbeatEpoch ((s.takeHeader q h).heartbeat g) g c sn := rfl

theorem exec_echoReq {q : WlPort} : exec (.echoReq q h now) s = s.onFlit q now fun s => (s.takeHeader q h).sendControl q .echoRsp := rfl

theorem exec_echoRsp {q : WlPort} {rt : Nat} : exec (.echoRsp q h rt now) s = s.onFlit q now fun s => (s.takeHeader q h).echoTaken q rt := rfl

theorem exec_laneMap {q : WlPort} {l : BitVec 4} {n : BitVec 12} : exec (.laneMap q h l n now) s =
    s.onFlit q now fun s => (s.takeHeader q h).setWlPort q { (s.takeHeader q h).wlPort q with txSpare := some (l.toNat, n.toNat) } := rfl

theorem exec_audit {q : WlPort} {r r' o : List Nat} : exec (.audit q h r r' o now) s =
    s.onFlit q now fun s => if (s.takeHeader q h).auditOk q r then s.takeHeader q h else ((s.takeHeader q h).wlReport q 3).wlFall q := rfl

theorem exec_timeFlitReceive {q : WlPort} {m : Word} {e : BitVec 32} {st : BitVec 3} {b : Bool} : exec (.timeFlitReceive q h m e st b now) s =
    s.onFlit q now fun s => if ((s.takeHeader q h).wlPort q).latOk then (s.takeHeader q h).followTime q m.toNat e.toNat st.toNat
      else (s.takeHeader q h).wlCount q 9 1 := rfl

theorem exec_unknownFlitType {q : WlPort} : exec (.unknownFlitType q) s = s.onFlit q s.raw fun s => s.wlCount q 2 1 := rfl

theorem exec_flitCrcFail {q : WlPort} {sequenced : Bool} : exec (.flitCrcFail q sequenced now) s =
    s.onFlit q now fun s => if sequenced then (s.wlCount q 2 1).sendControl q (.idle false true) else s.wlCount q 2 1 := rfl

/-! ### The header (R570, R581, R583) -/

/-- What is kept of a port after a header has dropped what it acknowledges and added its credits. -/
def WlSt.header (w : WlSt) (h : FlitHdr) : WlSt :=
  { w with sent := w.sent.filter (fun x => !seqLe x.1 h.ack.toNat), rxIdle := false,
           credits := if decide (1 ≤ h.cvc.toNat) && decide (h.cvc.toNat ≤ 3) then
             tset (fun _ => 0) w.credits h.cvc.toNat (tget (fun _ => 0) w.credits h.cvc.toNat + h.credits.toNat) else w.credits }

/-- The credits of a header, counted. -/
def State.creditTaken (s : State) (p : Nat) (h : FlitHdr) : State :=
  if decide (1 ≤ h.cvc.toNat) && decide (h.cvc.toNat ≤ 3) then s.add (R.WL_CREDIT_COUNT p (h.cvc.toNat - 1) 1) h.credits.toNat else s

/-- A header before the replay that its NAK asks for. -/
def State.headerRead (s : State) (p : Nat) (h : FlitHdr) : State := ((s.creditTaken p h).setWlPort p ((s.wlPort p).header h)).wlCount p 1 1

/-- The flits that a header has sent again, each with its SEQ. -/
def WlSt.replay (w : WlSt) (h : FlitHdr) : List (Option Nat × Flit) := ((w.header h).sent).map fun x => (some x.1, x.2)

theorem takeHeader_eq (s : State) (p : Nat) (h : FlitHdr) : s.takeHeader p h =
    if h.nak then (((s.wlPort p).header h).sent.foldl (fun s x => s.sendFlit p (some x.1) x.2) (s.headerRead p h)).wlCount p 3 ((s.wlPort p).header h).sent.length
    else s.headerRead p h := rfl

theorem takeHeader_of_ack (hn : h.nak = false) : s.takeHeader p h = s.headerRead p h := by rw [takeHeader_eq, hn]; rfl

theorem takeHeader_of_nak (hn : h.nak = true) : ∃ u, (s.headerRead p h).Sends p ((s.wlPort p).replay h) u ∧
    s.takeHeader p h = u.wlCount p 3 ((s.wlPort p).header h).sent.length := by
  rw [takeHeader_eq, if_pos hn]
  exact ⟨_, foldl_sends (fun x : Nat × Flit => some x.1) (fun x => x.2) _ _, rfl⟩

theorem header_credits (w : WlSt) (h : FlitHdr) (v : Nat) : tget (fun _ => 0) (w.header h).credits v =
    tget (fun _ => 0) w.credits v + if v = h.cvc.toNat ∧ 1 ≤ v ∧ v ≤ 3 then h.credits.toNat else 0 := by
  have key : (decide (1 ≤ h.cvc.toNat) && decide (h.cvc.toNat ≤ 3)) = true ↔ 1 ≤ h.cvc.toNat ∧ h.cvc.toNat ≤ 3 := by
    rw [Bool.and_eq_true, decide_eq_true_iff, decide_eq_true_iff]
  simp only [WlSt.header, key]
  by_cases hv : v = h.cvc.toNat
  · subst hv
    by_cases hc : 1 ≤ h.cvc.toNat ∧ h.cvc.toNat ≤ 3
    · rw [if_pos hc, if_pos ⟨rfl, hc⟩, tget_tset_same]
    · rw [if_neg hc, if_neg (fun e => hc e.2), Nat.add_zero]
  · rw [if_neg (show ¬(v = h.cvc.toNat ∧ 1 ≤ v ∧ v ≤ 3) from fun e => hv e.1), Nat.add_zero]
    split
    · exact tget_tset_other _ _ _ _ _ hv
    · rfl

theorem creditTaken_wlOnly (s : State) (p : Nat) (h : FlitHdr) : s.WlOnly (s.creditTaken p h) := .ite (.add ..) .refl

theorem creditTaken_eq (s : State) (p : Nat) (h : FlitHdr) : s.creditTaken p h = { s with regs := (s.creditTaken p h).regs } := by
  unfold State.creditTaken
  split
  · exact add_eq ..
  · rfl

theorem headerRead_wlOnly (s : State) (p : Nat) (h : FlitHdr) : s.WlOnly (s.headerRead p h) :=
  (creditTaken_wlOnly s p h).trans (.trans (.setWlPort ..) (.wlCount ..))

theorem headerRead_wlPort (s : State) (p : Nat) (h : FlitHdr) : (s.headerRead p h).wlPort p = (s.wlPort p).header h := by
  rw [State.headerRead, wlPort_wlCount, wlPort_setWlPort]

theorem headerRead_out (s : State) (p : Nat) (h : FlitHdr) : (s.headerRead p h).out = s.out := by
  rw [State.headerRead, wlCount_out, setWlPort_out, creditTaken_eq]

/-- Registers outside a port's counters and credits. -/
def OffCounts (p k : Nat) : Prop := k < 0xe00400 + p * 0x40000 ∨ 0xe00560 + p * 0x40000 ≤ k

theorem OffCounts.offSend {k : Nat} (hk : OffCounts p k) : OffSend p k := by
  unfold OffCounts at hk
  unfold OffSend
  omega

theorem reg_wlCount_off {k i n : Nat} (hk : OffCounts p k) (hi : i < 32) : (s.wlCount p i n).reg k = s.reg k :=
  reg_wlCount (by unfold OffCounts at hk; omega)

theorem creditTaken_reg {k : Nat} (hk : ∀ v < 3, k ≠ (R.WL_CREDIT_COUNT p v 1).key) : (s.creditTaken p h).reg k = s.reg k := by
  unfold State.creditTaken
  split
  · next hv =>
    rw [Bool.and_eq_true, decide_eq_true_iff, decide_eq_true_iff] at hv
    exact reg_set_other _ _ _ _ (hk _ (by omega))
  · rfl

theorem headerRead_reg {k : Nat} (hk : OffCounts p k) : (s.headerRead p h).reg k = s.reg k := by
  rw [State.headerRead, reg_wlCount_off hk (by decide)]
  refine creditTaken_reg fun v hv => ?_
  simp only [R.WL_CREDIT_COUNT]
  unfold OffCounts at hk
  omega

theorem headerRead_get_count (i : Nat) (hi : i < 32) : (s.headerRead p h).get (R.WL_CNT_COUNT p i) =
    if i = 1 then (s.get (R.WL_CNT_COUNT p i) + 1) % 2 ^ 64 else s.get (R.WL_CNT_COUNT p i) := by
  have hc : (s.creditTaken p h).get (R.WL_CNT_COUNT p i) = s.get (R.WL_CNT_COUNT p i) :=
    get_of_reg (creditTaken_reg fun v hv => by simp only [R.WL_CREDIT_COUNT, R.WL_CNT_COUNT]; omega)
  rw [State.headerRead, get_wlCount, get_setWlPort, hc]

theorem cnt_offSend {i : Nat} (h0 : i ≠ 0) (hi : i < 32) : OffSend p (R.WL_CNT_COUNT p i).key := by
  simp only [OffSend, R.WL_CNT_COUNT]
  omega

theorem takeHeader_wlOnly (s : State) (p : Nat) (h : FlitHdr) : s.WlOnly (s.takeHeader p h) := by
  cases hn : h.nak with
  | false => exact takeHeader_of_ack hn ▸ headerRead_wlOnly s p h
  | true =>
    obtain ⟨u, hs, he⟩ := takeHeader_of_nak (s := s) (p := p) hn
    rw [he]
    exact (headerRead_wlOnly s p h).trans (hs.wlOnly.trans (.wlCount ..))

theorem takeHeader_reg {k : Nat} (hk : OffCounts p k) : (s.takeHeader p h).reg k = s.reg k := by
  cases hn : h.nak with
  | false => exact takeHeader_of_ack hn ▸ headerRead_reg hk
  | true =>
    obtain ⟨u, hs, he⟩ := takeHeader_of_nak (s := s) (p := p) hn
    rw [he, reg_wlCount_off hk (by decide), hs.reg _ hk.offSend, headerRead_reg hk]

theorem takeHeader_wlPort (s : State) (p : Nat) (h : FlitHdr) :
    ∃ o r, (s.takeHeader p h).wlPort p = { (s.wlPort p).header h with owed := o, lastTx := r } := by
  cases hn : h.nak with
  | false => exact ⟨_, _, takeHeader_of_ack hn ▸ headerRead_wlPort s p h⟩
  | true =>
    obtain ⟨u, hs, he⟩ := takeHeader_of_nak (s := s) (p := p) hn
    obtain ⟨o, r, hport⟩ := hs.port
    exact ⟨o, r, by rw [he, wlPort_wlCount, hport, headerRead_wlPort]⟩

theorem takeHeader_get_received (s : State) (p : Nat) (h : FlitHdr) :
    (s.takeHeader p h).get (R.WL_CNT_COUNT p 1) = (s.get (R.WL_CNT_COUNT p 1) + 1) % 2 ^ 64 := by
  have hr : (s.headerRead p h).get (R.WL_CNT_COUNT p 1) = (s.get (R.WL_CNT_COUNT p 1) + 1) % 2 ^ 64 := by
    rw [headerRead_get_count 1 (by decide), if_pos rfl]
  cases hn : h.nak with
  | false => exact takeHeader_of_ack hn ▸ hr
  | true =>
    obtain ⟨u, hs, he⟩ := takeHeader_of_nak (s := s) (p := p) hn
    rw [he, get_wlCount_other (by decide), hs.get (cnt_offSend (by decide) (by decide)), hr]

/-- NAK replays what the header leaves unacknowledged, oldest first, and counts it. -/
theorem takeHeader_replays (hn : h.nak = true) :
    (s.takeHeader p h).get (R.WL_CNT_COUNT p 3) = (s.get (R.WL_CNT_COUNT p 3) + ((s.wlPort p).header h).sent.length) % 2 ^ 64 ∧
    ∃ l : List Output, (s.takeHeader p h).out = l ++ s.out ∧ l.length = ((s.wlPort p).header h).sent.length ∧
      ∀ (i : Nat) (x : Nat × Flit), ((s.wlPort p).header h).sent[i]? = some x → ∃ ack v n, l.reverse[i]? = some (Output.flit p (some x.1) ack v n x.2) := by
  obtain ⟨u, hs, he⟩ := takeHeader_of_nak (s := s) (p := p) hn
  obtain ⟨l, hout, hlen, hget⟩ := hs.length
  refine ⟨?_, l, ?_, by rw [hlen, WlSt.replay, List.length_map], fun i x hx => hget i (some x.1, x.2) ?_⟩
  · rw [he, get_wlCount_same, hs.get (cnt_offSend (by decide) (by decide)), headerRead_get_count 3 (by decide), if_neg (by decide)]
  · rw [he, wlCount_out, hout, headerRead_out]
  · rw [WlSt.replay, List.getElem?_map, hx]
    rfl

/-! ### Sequenced flits (R573, R581) -/

/-- A port takes the sequenced flit that it expects: the next SEQ is expected, and a credit is owed to the peer. -/
def State.seqTaken (s : State) (p v : Nat) : State :=
  (s.setWlPort p { s.wlPort p with rxNext := ((s.wlPort p).rxNext + 1) % 4096, owed := tset (fun _ => 0) (s.wlPort p).owed v (tget (fun _ => 0) (s.wlPort p).owed v + 1) }).inc
    (R.WL_CREDIT_COUNT p (v - 1) 2)

/-- Port p has taken one more sequenced flit of VC v in t than in s. -/
def State.Accepts (s t : State) (p v : Nat) : Prop :=
  (t.wlPort p).rxNext = ((s.wlPort p).rxNext + 1) % 4096 ∧ tget (fun _ => 0) (t.wlPort p).owed v = tget (fun _ => 0) (s.wlPort p).owed v + 1 ∧
    t.get (R.WL_CREDIT_COUNT p (v - 1) 2) = (s.get (R.WL_CREDIT_COUNT p (v - 1) 2) + 1) % 2 ^ 64

theorem takeSeq_of_other (hne : h.seq.toNat ≠ ((s.takeHeader p h).wlPort p).rxNext) : s.takeSeq p v h f = s.takeHeader p h := if_pos hne

theorem takeSeq_of_next (he : h.seq.toNat = ((s.takeHeader p h).wlPort p).rxNext) : s.takeSeq p v h f = f ((s.takeHeader p h).seqTaken p v) :=
  if_neg (not_not.2 he)

theorem seqTaken_wlPort (s : State) (p v : Nat) : (s.seqTaken p v).wlPort p =
    { s.wlPort p with rxNext := ((s.wlPort p).rxNext + 1) % 4096, owed := tset (fun _ => 0) (s.wlPort p).owed v (tget (fun _ => 0) (s.wlPort p).owed v + 1) } := by
  rw [State.seqTaken, wlPort_inc, wlPort_setWlPort]

theorem seqTaken_wlOnly (s : State) (p v : Nat) : s.WlOnly (s.seqTaken p v) := (State.WlOnly.setWlPort ..).trans (.inc ..)

theorem seqTaken_accepts (s : State) (p v : Nat) : s.Accepts (s.seqTaken p v) p v := by
  refine ⟨by rw [seqTaken_wlPort], by rw [seqTaken_wlPort, tget_tset_same], ?_⟩
  exact get_inc_same (s := s.setWlPort p _) (f := R.WL_CREDIT_COUNT p (v - 1) 2) (show 0 + 64 ≤ 64 by decide)

theorem seqTaken_reg {k : Nat} (hk : k < 0xe00500 + p * 0x40000 ∨ 0x200000000 ≤ k) (hp : p < 3) (hv : v ≤ 3) : (s.seqTaken p v).reg k = s.reg k :=
  reg_set_other (s.setWlPort p _) _ _ _ (by simp only [R.WL_CREDIT_COUNT]; omega)

theorem State.Accepts.of_same (ha : x.Accepts y p v) (hport : t.wlPort p = y.wlPort p)
    (hget : t.get (R.WL_CREDIT_COUNT p (v - 1) 2) = y.get (R.WL_CREDIT_COUNT p (v - 1) 2)) : x.Accepts t p v := by
  obtain ⟨hnext, howed, hcount⟩ := ha
  exact ⟨by rw [hport, hnext], by rw [hport, howed], by rw [hget, hcount]⟩

/-! ### MEM_WRITE (R573, R589) -/

theorem inRxWindow_of_reg (hr : ∀ k < 0xe00400 + p * 0x40000, t.reg k = s.reg k) (a : Nat) : t.inRxWindow p a = s.inRxWindow p a := by
  have hb (j : Nat) (hj : j < 4) : t.get (R.WL_RX_WIN_BASE p j) = s.get (R.WL_RX_WIN_BASE p j) :=
    get_of_reg (hr _ (by simp only [R.WL_RX_WIN_BASE]; omega))
  have hz (j : Nat) (hj : j < 4) : t.get (R.WL_RX_WIN_SIZE p j) = s.get (R.WL_RX_WIN_SIZE p j) :=
    get_of_reg (hr _ (by simp only [R.WL_RX_WIN_SIZE]; omega))
  refine Bool.eq_iff_iff.2 ?_
  simp only [State.inRxWindow, List.any_eq_true, List.mem_range]
  exact exists_congr fun j => and_congr_right fun hj => by rw [hb j hj, hz j hj]

/-- A byte of a receive window above frame memory lies in the shared SRAM. -/
theorem lt_of_inRxWindow {a : Nat} (ha : 0x4000000000 ≤ a) (hw : s.inRxWindow p a = true) : a < 0x4004000000 := by
  simp only [State.inRxWindow, windowOk, inSram, sramBase, List.any_eq_true, Bool.and_eq_true, Bool.or_eq_true, decide_eq_true_iff] at hw
  obtain ⟨j, -, ⟨⟨-, hin⟩, -⟩, hlt⟩ := hw
  rcases hin with hin | ⟨-, hin⟩
  · have := hlt.trans_le hin
    omega
  · exact hlt.trans_le (of_decide_eq_true hin)

theorem rekey_of_sram {b : Nat} (hb : 0x4000000000 ≤ 32 * b) : s.rekey b = s :=
  if_neg fun e => by
    have := of_decide_eq_true e.1
    omega

theorem dStore_go_sram (l : List (BitVec 8)) {a : Nat} (ha : 0x4000000000 ≤ a) (s : State) : State.dStore.go s a l = s.setBytes a l := by
  induction l generalizing s a with
  | nil => rfl
  | cons b l ih =>
    rw [State.dStore.go, ih (by omega), State.dSet, rekey_of_sram (by omega), State.setBytes]

theorem dStore_sram_byte (l : List (BitVec 8)) {a : Nat} (ha : 0x4000000000 ≤ a) (s : State) (b : Nat) :
    (s.dStore a l).byte b = if a ≤ b ∧ b < a + l.length then l.getD (b - a) 0 else s.byte b := by
  rw [← byte_setBytes, ← dStore_go_sram l ha]
  rfl

theorem setBytes_wl (s : State) (a : Nat) (l : List (BitVec 8)) : (s.setBytes a l).wl = s.wl := by
  induction l generalizing s a with
  | nil => rfl
  | cons b l ih => exact ih _ _

theorem dStore_sram_wl (l : List (BitVec 8)) {a : Nat} (ha : 0x4000000000 ≤ a) (s : State) : (s.dStore a l).wl = s.wl := by
  rw [← setBytes_wl s a l, ← dStore_go_sram l ha]
  rfl

theorem dStore_sram_regs (l : List (BitVec 8)) {a : Nat} (ha : 0x4000000000 ≤ a) (s : State) : (s.dStore a l).regs = s.regs := by
  rw [← setBytes_regs s a l, ← dStore_go_sram l ha]
  rfl

theorem applyWrite_sram {a : Nat} {d : List (BitVec 8)} (ha : 0x4000000000 ≤ a) (hw : ∀ i < d.length, s.inRxWindow p (a + i) = true) :
    s.applyWrite p a d = s.dStore a d := by
  have hall : (List.range d.length).all (fun i => s.inRxWindow p (a + i)) = true :=
    List.all_eq_true.2 fun i hi => hw i (List.mem_range.1 hi)
  have hhbm : inHbm a = false := decide_eq_false (by omega)
  have hmap : mappedRange a d.length = true := by
    rcases Nat.eq_zero_or_pos d.length with h0 | h0
    · rw [h0]
      rfl
    · have := lt_of_inRxWindow (by omega) (hw (d.length - 1) (by omega))
      simp only [mappedRange, Bool.or_eq_true, Bool.and_eq_true, decide_eq_true_iff]
      omega
  have hwr : s.writable a d.length = true := by rw [State.writable, hmap, hhbm]; rfl
  rw [State.applyWrite, if_pos hall, hhbm, if_neg Bool.false_ne_true, State.unitStore, hmap, if_neg (by decide), if_pos hwr]

theorem applyWrite_outside {a : Nat} {d : List (BitVec 8)} (hw : ∃ i < d.length, s.inRxWindow p (a + i) = false) :
    s.applyWrite p a d = (s.wlCount p 8 1).wlReport p 4 := by
  obtain ⟨i, hi, hw⟩ := hw
  refine if_neg fun e => ?_
  have := List.all_eq_true.1 e i (List.mem_range.2 hi)
  rw [hw] at this
  exact absurd this (by decide)

/-! ### Media units (R484, R571) -/

theorem stageUnit_of_other {m : MediaUnit} (hm : s.get (R.EGR_FLOW_CTRL_SOURCE m.flow) ≠ p + 1) : s.stageUnit p m = s := if_neg hm

theorem stageUnit_of_source {m : MediaUnit} (hm : s.get (R.EGR_FLOW_CTRL_SOURCE m.flow) = p + 1) :
    s.stageUnit p m = ({ s with staged := s.staged ++ [m] } : State).releaseStaged (fun f => decide (f = m.flow.val)) := if_pos hm

theorem foldl_stageUnit_of_others {l : List MediaUnit} (hl : ∀ m ∈ l, s.get (R.EGR_FLOW_CTRL_SOURCE m.flow) ≠ p + 1) :
    l.foldl (fun s m => s.stageUnit p m) s = s := by
  induction l with
  | nil => rfl
  | cons m l ih =>
    obtain ⟨hm, hl⟩ := List.forall_mem_cons.1 hl
    rw [List.foldl_cons, stageUnit_of_other hm]
    exact ih hl

end Sys2Proof.Machine
end

section
/-! What each flit does at a port that is up, and the obligation about receipt. -/

namespace Sys2Proof.Machine

variable {s t x y : State} {h : FlitHdr} {p : WlPort} {now : Nat}

/-- The state in which the body of a received flit acts. -/
def State.afterHeader (s : State) (now : Nat) (p : WlPort) (h : FlitHdr) : State := (s.advance now).takeHeader p h

theorem afterHeader_raw (s : State) (now : Nat) (p : WlPort) (h : FlitHdr) : (s.afterHeader now p h).raw = max s.raw now :=
  (takeHeader_wlOnly ..).raw

theorem afterHeader_reg {k : Nat} (hk : k < 0xe00400 + p.val * 0x40000 ∨ 0xf00000 ≤ k) : (s.afterHeader now p h).reg k = s.reg k :=
  takeHeader_reg (by unfold OffCounts; omega)

theorem afterHeader_get {g : Field} (hk : g.key < 0xe00400 + p.val * 0x40000 ∨ 0xf00000 ≤ g.key) : (s.afterHeader now p h).get g = s.get g :=
  get_of_reg (afterHeader_reg hk)

theorem afterHeader_flag {g : Field} (hk : g.key < 0xe00400 + p.val * 0x40000 ∨ 0xf00000 ≤ g.key) : (s.afterHeader now p h).flag g = s.flag g :=
  flag_of_get (afterHeader_get hk)

theorem afterHeader_wlRuns : (s.afterHeader now p h).wlRuns p = s.wlRuns p :=
  wlRuns_of_get (afterHeader_get (.inl (by simp only [R.WL_STATUS_STATE]; omega)))

/-- The sequenced flit that a port expects is taken before it acts. -/
theorem takenFlit_reg {v k : Nat} (hv : v ≤ 3) (hk : k < 0xe00400 + p.val * 0x40000 ∨ 0x200000000 ≤ k) :
    ((s.afterHeader now p h).seqTaken p v).reg k = s.reg k := by
  rw [seqTaken_reg (by omega) p.isLt hv, afterHeader_reg (by omega)]

theorem takenFlit_wlOnly (s : State) (now : Nat) (p : WlPort) (h : FlitHdr) (v : Nat) : (s.advance now).WlOnly ((s.afterHeader now p h).seqTaken p v) :=
  (takeHeader_wlOnly ..).trans (seqTaken_wlOnly ..)

theorem takenFlit_mem (s : State) (now : Nat) (p : WlPort) (h : FlitHdr) (v : Nat) : ((s.afterHeader now p h).seqTaken p v).mem = s.mem :=
  (takenFlit_wlOnly s now p h v).mem

theorem takenFlit_staged (s : State) (now : Nat) (p : WlPort) (h : FlitHdr) (v : Nat) : ((s.afterHeader now p h).seqTaken p v).staged = s.staged :=
  (takenFlit_wlOnly s now p h v).staged

theorem seqTaken_cnt (x : State) (p i v : Nat) (hp : p < 3) (hi : i < 16) (hv : v ≤ 3) : (x.seqTaken p v).get (R.WL_CNT_COUNT p i) = x.get (R.WL_CNT_COUNT p i) :=
  get_of_reg (seqTaken_reg (.inl (by simp only [R.WL_CNT_COUNT]; omega)) hp hv)

theorem takenFlit_source (m : MediaUnit) :
    ((s.afterHeader now p h).seqTaken p 2).get (R.EGR_FLOW_CTRL_SOURCE m.flow) = s.get (R.EGR_FLOW_CTRL_SOURCE m.flow) :=
  get_of_reg (takenFlit_reg (by decide) (.inr (by simp only [R.EGR_FLOW_CTRL_SOURCE]; omega)))

/-- A bad flit, counted. -/
theorem badFlit_wlCount (s : State) (now p : Nat) : ((s.advance now).wlCount p 2 1).out = s.out ∧ ((s.advance now).wlCount p 2 1).wl = s.wl ∧
    ((s.advance now).wlCount p 2 1).get (R.WL_CNT_COUNT p 2) = (s.get (R.WL_CNT_COUNT p 2) + 1) % 2 ^ 64 := by
  refine ⟨by rw [wlCount_out, advance_out], by rw [wlCount_wl]; rfl, ?_⟩
  rw [get_wlCount_same, advance_get]

/-! ### Heartbeats of a protection group (R610) -/

/-- Group g is enabled and STANDBY. -/
def State.StandbyOn (s : State) (g : Nat) : Prop := s.flag (R.CLB_GRP_CFG_ENABLE g) = true ∧ s.get (R.CLB_GRP_STATUS_ROLE g) = 2

theorem grp_setGrp (s : State) (g : Nat) (w : GrpSt) : (s.setGrp g w).grp g = w := by rw [State.grp, State.setGrp, tget_tset_same]

theorem grp_set (s : State) (f : Field) (n g : Nat) : (s.set f n).grp g = s.grp g := rfl

theorem grp_inc (s : State) (f : Field) (g : Nat) : (s.inc f).grp g = s.grp g := rfl

theorem heartbeat_of_on {g : Nat} (hg : x.StandbyOn g) : x.heartbeat g =
    ((x.setGrp g { x.grp g with th := x.raw, k := 0 }).set (R.CLB_GRP_STATUS_MISSES g) 0).inc (R.CLB_GRP_CNT_COUNT g 1) := if_pos hg

theorem heartbeat_of_off {g : Nat} (hg : ¬x.StandbyOn g) : x.heartbeat g = x := if_neg hg

theorem heartbeatEpoch_of_off {g : Nat} {c : BitVec 32} {sn : Word} (hg : ¬x.StandbyOn g) : x.heartbeatEpoch g c sn = x := if_neg hg

theorem heartbeatEpoch_of_on {g : Nat} {c : BitVec 32} {sn : Word} (hg : x.StandbyOn g) : x.heartbeatEpoch g c sn =
    { x.setGrp g { x.grp g with snap := sn.toNat, snapAt := x.raw } with epochs := tset (fun _ => 0) x.epochs g (c.toNat / 256) } := if_pos hg

theorem heartbeat_grp {g : Nat} (hg : x.StandbyOn g) : (x.heartbeat g).grp g = { x.grp g with th := x.raw, k := 0 } := by
  rw [heartbeat_of_on hg, grp_inc, grp_set, grp_setGrp]

theorem heartbeat_get_misses {g : Nat} (hg : x.StandbyOn g) : (x.heartbeat g).get (R.CLB_GRP_STATUS_MISSES g) = 0 := by
  rw [heartbeat_of_on hg, get_inc_apart (.inl (by simp only [R.CLB_GRP_STATUS_MISSES, R.CLB_GRP_CNT_COUNT]; omega))]
  exact get_set_same _ (R.CLB_GRP_STATUS_MISSES g) 0 (show 2 + 4 ≤ 64 by decide)

theorem heartbeat_get_count {g : Nat} (hg : x.StandbyOn g) :
    (x.heartbeat g).get (R.CLB_GRP_CNT_COUNT g 1) = (x.get (R.CLB_GRP_CNT_COUNT g 1) + 1) % 2 ^ 64 := by
  rw [heartbeat_of_on hg, get_inc_same (show 0 + 64 ≤ 64 by decide),
    get_set_apart (.inl (by simp only [R.CLB_GRP_STATUS_MISSES, R.CLB_GRP_CNT_COUNT]; omega))]
  rfl

theorem heartbeat_on {g : Nat} (hg : x.StandbyOn g) : (x.heartbeat g).StandbyOn g := by
  obtain ⟨he, hr⟩ := hg
  rw [heartbeat_of_on ⟨he, hr⟩]
  constructor
  · rw [flag_of_get (get_inc_apart (.inl (by simp only [R.CLB_GRP_CFG_ENABLE, R.CLB_GRP_CNT_COUNT]; omega))),
      flag_set_apart (.inl (by simp only [R.CLB_GRP_CFG_ENABLE, R.CLB_GRP_STATUS_MISSES]; omega))]
    exact he
  · rw [get_inc_apart (.inl (by simp only [R.CLB_GRP_STATUS_ROLE, R.CLB_GRP_CNT_COUNT]; omega)),
      get_set_apart (.inr (by simp only [R.CLB_GRP_STATUS_ROLE, R.CLB_GRP_STATUS_MISSES]; omega))]
    exact hr

theorem afterHeader_on {g : Nat} : (s.afterHeader now p h).StandbyOn g ↔ s.StandbyOn g := by
  rw [State.StandbyOn, State.StandbyOn, afterHeader_flag (.inr (by simp only [R.CLB_GRP_CFG_ENABLE]; omega)),
    afterHeader_get (.inr (by simp only [R.CLB_GRP_STATUS_ROLE]; omega))]

/-! ### Echo, audit and time flits (R575, R583, 12_timebase.md R508 to R510) -/

theorem auditOk_iff {q : Nat} {r : List Nat} : x.auditOk q r = true ↔ ∀ v ∈ ([1, 2, 3] : List Nat),
    x.get (R.WL_CREDIT_COUNT q (v - 1) 0) - ((x.wlPort q).sent.filter (fun y => decide (y.2.vc = v))).length = r.getD (v - 1) 0 ∧
      (x.wlPort q).init.getD (v - 1) 0 + x.get (R.WL_CREDIT_COUNT q (v - 1) 1) = tget (fun _ => 0) (x.wlPort q).credits v + x.get (R.WL_CREDIT_COUNT q (v - 1) 0) := by
  rw [State.auditOk, List.all_eq_true]
  exact forall₂_congr fun v _ => by rw [Bool.and_eq_true, decide_eq_true_iff, decide_eq_true_iff]

theorem echoTaken_port {q rt : Nat} (hl : (x.wlPort q).latOk = false) : ((x.echoTaken q rt).wlPort q).echoes = (x.wlPort q).echoes ++ [rt] := by
  unfold State.echoTaken
  dsimp only
  rw [hl, if_neg Bool.false_ne_true]
  split
  · rw [wlPort_setWlPort]
  · rw [wlPort_set, wlPort_setWlPort]

theorem echoTaken_early {q rt : Nat} (hlen : (x.wlPort q).echoes.length < 15) :
    x.echoTaken q rt = x.setWlPort q { x.wlPort q with echoes := (x.wlPort q).echoes ++ [rt] } :=
  if_pos (by rw [List.length_append, List.length_singleton]; omega)

theorem echoTaken_sixteenth {q rt : Nat} (hl : (x.wlPort q).latOk = false) (hlen : (x.wlPort q).echoes.length = 15) : x.echoTaken q rt =
    (x.setWlPort q { x.wlPort q with echoes := (x.wlPort q).echoes ++ [rt], latOk := true }).set (R.TB_WL_LAT_LAT q) (median ((x.wlPort q).echoes ++ [rt]) / 2) := by
  unfold State.echoTaken
  dsimp only
  rw [hl, if_neg Bool.false_ne_true, if_neg (by rw [List.length_append, List.length_singleton, hlen]; decide)]

theorem followTime_of_other {q e st : Nat} {m : Int} (hs : x.get R.TB_CTRL_SOURCE ≠ 1 + q) : x.followTime q m e st = x := if_pos hs

/-- A TIME flit of the epoch in force, in TIME that the follower's measured latency and trim correct. -/
theorem followTime_of_epoch {q e st : Nat} {m : Int} (hs : x.get R.TB_CTRL_SOURCE = 1 + q) (he : e = x.get R.TB_EPOCH_EPOCH) : x.followTime q m e st =
    (x.setFlag R.TB_STATUS_UP_HOLDOVER (st = tbHoldover ∨ st = tbJumped)).sample (1 + q)
      (m + ((x.get (R.TB_WL_LAT_LAT q) : Int) + x.getSigned (R.TB_WL_LAT_TRIM q) + 8) / 16) x.raw := by
  unfold State.followTime
  rw [if_neg (not_not.2 hs)]
  dsimp only
  rw [if_neg (not_not.2 he), setFlag_raw, getSigned_of_get (get_setFlag_apart (.inl (by simp only [R.TB_STATUS_UP_HOLDOVER, R.TB_WL_LAT_TRIM]; omega))),
    get_setFlag_apart (.inl (by simp only [R.TB_STATUS_UP_HOLDOVER, R.TB_WL_LAT_LAT]; omega))]

section
variable (hu : s.up = true) (hh : s.halted = false) (hp : s.wlUp p = true)
include hu hh hp

/-! ### Sequenced flits -/

theorem memWriteFlit_of_other (hne : h.seq.toNat ≠ ((s.afterHeader now p h).wlPort p).rxNext) {a : Word} {d : List (BitVec 8)} (hd : d.length ≤ 236) :
    exec (.memWriteFlit p h a d now) s = .next (s.afterHeader now p h) := by
  rw [exec_memWriteFlit hd, onFlit_of_up hu hh hp]
  exact congrArg _ (takeSeq_of_other hne)

theorem mediaFlit_of_other (hne : h.seq.toNat ≠ ((s.afterHeader now p h).wlPort p).rxNext) (l : List MediaUnit) :
    exec (.mediaFlit p h l now) s = .next (s.afterHeader now p h) := by
  rw [exec_mediaFlit, onFlit_of_up hu hh hp]
  exact congrArg _ (takeSeq_of_other hne)

theorem msgFlit_of_other (hne : h.seq.toNat ≠ ((s.afterHeader now p h).wlPort p).rxNext) {d : List (BitVec 8)} (hd : d.length ≤ 244) :
    exec (.msgFlit p h d now) s = .next (s.afterHeader now p h) := by
  rw [exec_msgFlit hd, onFlit_of_up hu hh hp]
  exact congrArg _ (takeSeq_of_other hne)

theorem memWriteFlit_of_next (he : h.seq.toNat = ((s.afterHeader now p h).wlPort p).rxNext) {a : Word} {d : List (BitVec 8)} (hd : d.length ≤ 236) :
    exec (.memWriteFlit p h a d now) s = .next (((s.afterHeader now p h).seqTaken p 1).applyWrite p a.toNat d) := by
  rw [exec_memWriteFlit hd, onFlit_of_up hu hh hp]
  exact congrArg _ (takeSeq_of_next he)

theorem mediaFlit_of_next (he : h.seq.toNat = ((s.afterHeader now p h).wlPort p).rxNext) (l : List MediaUnit) :
    exec (.mediaFlit p h l now) s = .next (l.foldl (fun s m => s.stageUnit p m) ((s.afterHeader now p h).seqTaken p 2)) := by
  rw [exec_mediaFlit, onFlit_of_up hu hh hp]
  exact congrArg _ (takeSeq_of_next he)

theorem msgFlit_of_next (he : h.seq.toNat = ((s.afterHeader now p h).wlPort p).rxNext) {d : List (BitVec 8)} (hd : d.length ≤ 244) :
    let y := (s.afterHeader now p h).seqTaken p 3
    exec (.msgFlit p h d now) s = .next (y.setWlPort p { y.wlPort p with inbox := (y.wlPort p).inbox ++ [d] }) := by
  dsimp only
  rw [exec_msgFlit hd, onFlit_of_up hu hh hp]
  exact congrArg _ (takeSeq_of_next he)

theorem memWriteFlit_inside (he : h.seq.toNat = ((s.afterHeader now p h).wlPort p).rxNext) {a : Word} {d : List (BitVec 8)} (hd : d.length ≤ 236)
    (ha : 0x4000000000 ≤ a.toNat) (hw : ∀ i < d.length, s.inRxWindow p (a.toNat + i) = true) :
    ∃ t, exec (.memWriteFlit p h a d now) s = .next t ∧ (s.afterHeader now p h).Accepts t p 1 ∧
      (∀ b, t.byte b = if a.toNat ≤ b ∧ b < a.toNat + d.length then d.getD (b - a.toNat) 0 else s.byte b) ∧
      t.get (R.WL_CNT_COUNT p 8) = (s.afterHeader now p h).get (R.WL_CNT_COUNT p 8) := by
  have hreg : ∀ k < 0xe00400 + p.val * 0x40000, ((s.afterHeader now p h).seqTaken p 1).reg k = s.reg k := fun k hk => takenFlit_reg (by decide) (.inl hk)
  refine ⟨_, memWriteFlit_of_next hu hh hp he hd, ?_⟩
  rw [applyWrite_sram ha fun i hi => (inRxWindow_of_reg hreg _).trans (hw i hi)]
  refine ⟨(seqTaken_accepts ..).of_same (wlPort_of_wl (dStore_sram_wl d ha _) _) (get_of_regs (dStore_sram_regs d ha _)), fun b => ?_, ?_⟩
  · rw [dStore_sram_byte d ha, State.byte, takenFlit_mem, State.byte]
  · rw [get_of_regs (dStore_sram_regs d ha _), seqTaken_cnt _ _ _ _ p.isLt (by decide) (by decide)]

theorem memWriteFlit_outside (he : h.seq.toNat = ((s.afterHeader now p h).wlPort p).rxNext) {a : Word} {d : List (BitVec 8)} (hd : d.length ≤ 236)
    (hw : ∃ i < d.length, s.inRxWindow p (a.toNat + i) = false) :
    ∃ u : State, exec (.memWriteFlit p h a d now) s = .next (u.wlReport p 4) ∧ u.mem = s.mem ∧
      u.get (R.WL_CNT_COUNT p 8) = ((s.afterHeader now p h).get (R.WL_CNT_COUNT p 8) + 1) % 2 ^ 64 ∧ (s.afterHeader now p h).Accepts u p 1 := by
  have hreg : ∀ k < 0xe00400 + p.val * 0x40000, ((s.afterHeader now p h).seqTaken p 1).reg k = s.reg k := fun k hk => takenFlit_reg (by decide) (.inl hk)
  obtain ⟨i, hi, hw⟩ := hw
  refine ⟨((s.afterHeader now p h).seqTaken p 1).wlCount p 8 1, ?_, ?_, ?_, ?_⟩
  · rw [memWriteFlit_of_next hu hh hp he hd, applyWrite_outside ⟨i, hi, (inRxWindow_of_reg hreg _).trans hw⟩]
  · rw [wlCount_mem, takenFlit_mem]
  · rw [get_wlCount_same, seqTaken_cnt _ _ _ _ p.isLt (by decide) (by decide)]
  · exact (seqTaken_accepts ..).of_same (wlPort_wlCount ..) (get_wlCount_apart (by simp only [R.WL_CREDIT_COUNT]; omega))

theorem mediaFlit_of_others (he : h.seq.toNat = ((s.afterHeader now p h).wlPort p).rxNext) {l : List MediaUnit}
    (hl : ∀ m ∈ l, s.get (R.EGR_FLOW_CTRL_SOURCE m.flow) ≠ p + 1) :
    ∃ t, exec (.mediaFlit p h l now) s = .next t ∧ t.staged = s.staged ∧ (s.afterHeader now p h).Accepts t p 2 := by
  refine ⟨_, mediaFlit_of_next hu hh hp he l, ?_⟩
  rw [foldl_stageUnit_of_others fun m hm => by rw [takenFlit_source]; exact hl m hm]
  exact ⟨takenFlit_staged .., seqTaken_accepts ..⟩

theorem mediaFlit_of_source (he : h.seq.toNat = ((s.afterHeader now p h).wlPort p).rxNext) {m : MediaUnit} (hm : s.get (R.EGR_FLOW_CTRL_SOURCE m.flow) = p + 1) :
    ∃ y : State, (s.afterHeader now p h).Accepts y p 2 ∧ y.staged = s.staged ++ [m] ∧
      exec (.mediaFlit p h [m] now) s = .next (y.releaseStaged (fun f => decide (f = m.flow.val))) := by
  have hsource := (takenFlit_source (s := s) (now := now) (p := p) (h := h) m).trans hm
  have hexec := mediaFlit_of_next hu hh hp he [m]
  have hstaged := takenFlit_staged s now p h 2
  have haccepts := seqTaken_accepts (s.afterHeader now p h) p 2
  revert hsource hexec hstaged haccepts
  generalize (s.afterHeader now p h).seqTaken p 2 = y
  intro hsource hexec hstaged haccepts
  refine ⟨{ y with staged := y.staged ++ [m] }, haccepts, congrArg (· ++ [m]) hstaged, ?_⟩
  rw [hexec, List.foldl_cons, List.foldl_nil, stageUnit_of_source hsource]

theorem msgFlit_inbox (he : h.seq.toNat = ((s.afterHeader now p h).wlPort p).rxNext) {d : List (BitVec 8)} (hd : d.length ≤ 244) :
    ∃ t, exec (.msgFlit p h d now) s = .next t ∧ (t.wlPort p).inbox = ((s.afterHeader now p h).wlPort p).inbox ++ [d] ∧
      (s.afterHeader now p h).Accepts t p 3 ∧ t.mem = s.mem := by
  have hexec := msgFlit_of_next hu hh hp he hd
  have hmem := takenFlit_mem s now p h 3
  have hport := seqTaken_wlPort (s.afterHeader now p h) p 3
  obtain ⟨hnext, howed, hcount⟩ := seqTaken_accepts (s.afterHeader now p h) p 3
  dsimp only at hexec
  revert hexec hmem hport hnext howed hcount
  generalize (s.afterHeader now p h).seqTaken p 3 = y
  intro hexec hmem hport hnext howed hcount
  refine ⟨_, hexec, by rw [wlPort_setWlPort, hport], ⟨?_, ?_, (get_setWlPort ..).trans hcount⟩, hmem⟩
  · rw [wlPort_setWlPort, hnext]
  · rw [wlPort_setWlPort, howed]

/-! ### Control flits -/

theorem idleFlit_entry (e : Bool) : ∃ t, exec (.idleFlit p h e now) s = .next t ∧ t.wlPort p = { (s.afterHeader now p h).wlPort p with rxIdle := e } ∧
    t.regs = (s.afterHeader now p h).regs ∧ t.out = (s.afterHeader now p h).out :=
  ⟨_, exec_idleFlit.trans (onFlit_of_up hu hh hp), wlPort_setWlPort .., rfl, rfl⟩

theorem laneMap_names (l : BitVec 4) (n : BitVec 12) : ∃ t, exec (.laneMap p h l n now) s = .next t ∧
    t.wlPort p = { (s.afterHeader now p h).wlPort p with txSpare := some (l.toNat, n.toNat) } ∧ t.regs = (s.afterHeader now p h).regs :=
  ⟨_, exec_laneMap.trans (onFlit_of_up hu hh hp), wlPort_setWlPort .., rfl⟩

theorem echoReq_answered (hr : s.wlRuns p = true) : ∃ t, exec (.echoReq p h now) s = .next t ∧ Sys2Proof.Spec.sends (s.afterHeader now p h) t p none .echoRsp := by
  refine ⟨_, exec_echoReq.trans (onFlit_of_up hu hh hp), ?_⟩
  change Sys2Proof.Spec.sends _ ((s.afterHeader now p h).sendControl p .echoRsp) p none .echoRsp
  rw [sendControl_of_runs (afterHeader_wlRuns.trans hr)]
  exact sendFlit_sends ..

theorem flitCrcFail_unsequenced : ∃ t, exec (.flitCrcFail p false now) s = .next t ∧ t.out = s.out ∧ t.wl = s.wl ∧
    t.get (R.WL_CNT_COUNT p 2) = (s.get (R.WL_CNT_COUNT p 2) + 1) % 2 ^ 64 :=
  ⟨_, exec_flitCrcFail.trans (onFlit_of_up hu hh hp), badFlit_wlCount ..⟩

theorem unknownFlitType_counted : ∃ t, exec (.unknownFlitType p) s = .next t ∧ t.out = s.out ∧ t.wl = s.wl ∧
    t.get (R.WL_CNT_COUNT p 2) = (s.get (R.WL_CNT_COUNT p 2) + 1) % 2 ^ 64 :=
  ⟨_, exec_unknownFlitType.trans (onFlit_of_up hu hh hp), badFlit_wlCount ..⟩

theorem flitCrcFail_naked (hr : s.wlRuns p = true) : ∃ t, exec (.flitCrcFail p true now) s = .next t ∧ Sys2Proof.Spec.sends s t p none (.idle false true) ∧
    t.get (R.WL_CNT_COUNT p 2) = (s.get (R.WL_CNT_COUNT p 2) + 1) % 2 ^ 64 := by
  obtain ⟨hout, -, hcount⟩ := badFlit_wlCount s now p
  have hruns : ((s.advance now).wlCount p 2 1).wlRuns p = true :=
    (wlRuns_of_get ((get_wlCount_apart (by simp only [R.WL_STATUS_STATE]; omega)).trans advance_get)).trans hr
  refine ⟨_, exec_flitCrcFail.trans (onFlit_of_up hu hh hp), ?_⟩
  rw [if_pos rfl, sendControl_of_runs hruns]
  refine ⟨⟨_, _, _, (sendFlit_out ..).trans (by rw [hout])⟩, ?_⟩
  rw [sendFlit_get (cnt_offSend (by decide) (by decide)), hcount]

theorem heartbeatFlit_of_on {g : GroupId} (hg : s.StandbyOn g) (u : BitVec 3) (c : BitVec 32) (sn img : Word) :
    ∃ t, exec (.heartbeatFlit p h g u c sn img now) s = .next t ∧ (t.grp g).th = max s.raw now ∧ (t.grp g).k = 0 ∧ (t.grp g).snap = sn.toNat ∧
      t.get (R.CLB_GRP_STATUS_MISSES g) = 0 ∧ t.get (R.CLB_GRP_CNT_COUNT g 1) = (s.get (R.CLB_GRP_CNT_COUNT g 1) + 1) % 2 ^ 64 ∧
      tget (fun _ => 0) t.epochs g = c.toNat / 256 := by
  have hexec : exec (.heartbeatFlit p h g u c sn img now) s = .next (((s.afterHeader now p h).heartbeat g).heartbeatEpoch g c sn) :=
    exec_heartbeatFlit.trans (onFlit_of_up hu hh hp)
  have hx : (s.afterHeader now p h).StandbyOn g := afterHeader_on.2 hg
  have hgrp := heartbeat_grp hx
  have hmisses := heartbeat_get_misses hx
  have hcount := heartbeat_get_count hx
  rw [afterHeader_get (.inr (by simp only [R.CLB_GRP_CNT_COUNT]; omega))] at hcount
  rw [afterHeader_raw] at hgrp
  rw [heartbeatEpoch_of_on (heartbeat_on hx)] at hexec
  revert hexec hgrp hmisses hcount
  generalize (s.afterHeader now p h).heartbeat g = y
  intro hexec hgrp hmisses hcount
  refine ⟨_, hexec, ?_, ?_, ?_, hmisses, hcount, tget_tset_same ..⟩
  · exact (congrArg GrpSt.th (grp_setGrp ..)).trans (congrArg GrpSt.th hgrp)
  · exact (congrArg GrpSt.k (grp_setGrp ..)).trans (congrArg GrpSt.k hgrp)
  · exact congrArg GrpSt.snap (grp_setGrp ..)

theorem heartbeatFlit_of_off {g : GroupId} (hg : ¬s.StandbyOn g) (u : BitVec 3) (c : BitVec 32) (sn img : Word) :
    exec (.heartbeatFlit p h g u c sn img now) s = .next (s.afterHeader now p h) := by
  have hx : ¬(s.afterHeader now p h).StandbyOn g := mt afterHeader_on.1 hg
  rw [exec_heartbeatFlit, onFlit_of_up hu hh hp]
  change Host.Outcome.next (((s.afterHeader now p h).heartbeat g).heartbeatEpoch g c sn) = _
  rw [heartbeat_of_off hx, heartbeatEpoch_of_off hx]

/-- A HEARTBEAT for an enabled STANDBY group restarts its timer; one for another group acts on no group. -/
theorem heartbeatFlit_group (g : GroupId) (u : BitVec 3) (c : BitVec 32) (sn img : Word) : ∃ t, exec (.heartbeatFlit p h g u c sn img now) s = .next t ∧
    (s.StandbyOn g → (t.grp g).th = max s.raw now ∧ (t.grp g).k = 0 ∧ (t.grp g).snap = sn.toNat ∧ t.get (R.CLB_GRP_STATUS_MISSES g) = 0 ∧
      t.get (R.CLB_GRP_CNT_COUNT g 1) = (s.get (R.CLB_GRP_CNT_COUNT g 1) + 1) % 2 ^ 64 ∧ tget (fun _ => 0) t.epochs g = c.toNat / 256) ∧
    (¬s.StandbyOn g → t.groups = s.groups ∧ t.epochs = s.epochs) := by
  by_cases hg : s.StandbyOn g
  · obtain ⟨t, ht, hacts⟩ := heartbeatFlit_of_on hu hh hp hg u c sn img
    exact ⟨t, ht, fun _ => hacts, fun e => absurd hg e⟩
  · exact ⟨_, heartbeatFlit_of_off hu hh hp hg u c sn img, fun e => absurd e hg, fun _ => ⟨(takeHeader_wlOnly ..).groups, (takeHeader_wlOnly ..).epochs⟩⟩

theorem echoRsp_measures (rt : Nat) (hl : ((s.afterHeader now p h).wlPort p).latOk = false) : ∃ t, exec (.echoRsp p h rt now) s = .next t ∧
    (t.wlPort p).echoes = ((s.afterHeader now p h).wlPort p).echoes ++ [rt] ∧
    (((s.afterHeader now p h).wlPort p).echoes.length < 15 → t.get (R.TB_WL_LAT_LAT p) = s.get (R.TB_WL_LAT_LAT p) ∧ (t.wlPort p).latOk = false) ∧
    (((s.afterHeader now p h).wlPort p).echoes.length = 15 →
      t.get (R.TB_WL_LAT_LAT p) = median (((s.afterHeader now p h).wlPort p).echoes ++ [rt]) / 2 % 2 ^ 24 ∧ (t.wlPort p).latOk = true) := by
  have hexec : exec (.echoRsp p h rt now) s = .next ((s.afterHeader now p h).echoTaken p rt) := exec_echoRsp.trans (onFlit_of_up hu hh hp)
  refine ⟨_, hexec, echoTaken_port hl, fun hlen => ?_, fun hlen => ?_⟩
  · rw [echoTaken_early hlen, get_setWlPort, wlPort_setWlPort]
    exact ⟨afterHeader_get (.inl (by simp only [R.TB_WL_LAT_LAT]; omega)), hl⟩
  · rw [echoTaken_sixteenth hl hlen, wlPort_set, wlPort_setWlPort]
    exact ⟨get_set_same _ (R.TB_WL_LAT_LAT p) _ (show 0 + 24 ≤ 64 by decide), rfl⟩

theorem audit_checks (r r' o : List Nat) : exec (.audit p h r r' o now) s =
    .next (if (s.afterHeader now p h).auditOk p r then s.afterHeader now p h else ((s.afterHeader now p h).wlReport p 3).wlFall p) :=
  exec_audit.trans (onFlit_of_up hu hh hp)

theorem timeFlitReceive_of_lat {m : Word} {e : BitVec 32} {st : BitVec 3} {b : Bool} (hl : ((s.afterHeader now p h).wlPort p).latOk = true) :
    exec (.timeFlitReceive p h m e st b now) s = .next ((s.afterHeader now p h).followTime p m.toNat e.toNat st.toNat) := by
  rw [exec_timeFlitReceive, onFlit_of_up hu hh hp]
  exact congrArg _ (if_pos hl)

theorem timeFlitReceive_dropped {m : Word} {e : BitVec 32} {st : BitVec 3} {b : Bool} (hl : ((s.afterHeader now p h).wlPort p).latOk = false) :
    ∃ t, exec (.timeFlitReceive p h m e st b now) s = .next t ∧
      t.get (R.WL_CNT_COUNT p 9) = ((s.afterHeader now p h).get (R.WL_CNT_COUNT p 9) + 1) % 2 ^ 64 ∧ t.tb = s.tb := by
  refine ⟨(s.afterHeader now p h).wlCount p 9 1, ?_, get_wlCount_same .., ?_⟩
  · rw [exec_timeFlitReceive, onFlit_of_up hu hh hp]
    exact congrArg _ (if_neg (ne_true_of_eq_false hl))
  · exact ((takeHeader_wlOnly (s.advance now) p h).trans (.wlCount _ p 9 1)).tb

theorem timeFlitReceive_follows {m : Word} {e : BitVec 32} {st : BitVec 3} {b : Bool} (hl : ((s.afterHeader now p h).wlPort p).latOk = true)
    (hs : s.get R.TB_CTRL_SOURCE = 1 + p) (he : e.toNat = s.get R.TB_EPOCH_EPOCH) : exec (.timeFlitReceive p h m e st b now) s =
      .next (((s.afterHeader now p h).setFlag R.TB_STATUS_UP_HOLDOVER (st.toNat = tbHoldover ∨ st.toNat = tbJumped)).sample (1 + p)
        (m.toNat + ((s.get (R.TB_WL_LAT_LAT p) : Int) + s.getSigned (R.TB_WL_LAT_TRIM p) + 8) / 16) (max s.raw now)) := by
  have hsrc : (s.afterHeader now p h).get R.TB_CTRL_SOURCE = s.get R.TB_CTRL_SOURCE := afterHeader_get (.inl (by simp only [R.TB_CTRL_SOURCE]; omega))
  have hep : (s.afterHeader now p h).get R.TB_EPOCH_EPOCH = s.get R.TB_EPOCH_EPOCH := afterHeader_get (.inl (by simp only [R.TB_EPOCH_EPOCH]; omega))
  have hlat : (s.afterHeader now p h).get (R.TB_WL_LAT_LAT p) = s.get (R.TB_WL_LAT_LAT p) := afterHeader_get (.inl (by simp only [R.TB_WL_LAT_LAT]; omega))
  have htrim : (s.afterHeader now p h).getSigned (R.TB_WL_LAT_TRIM p) = s.getSigned (R.TB_WL_LAT_TRIM p) :=
    getSigned_of_get (afterHeader_get (.inl (by simp only [R.TB_WL_LAT_TRIM]; omega)))
  rw [timeFlitReceive_of_lat hu hh hp hl, followTime_of_epoch (hsrc.trans hs) (he.trans hep.symm), hlat, htrim, afterHeader_raw]

end

/-! ### The obligation -/

/-- A port that is down takes no flit. -/
theorem flit_of_down (hu : s.up = true) (hh : s.halted = false) (hp : s.wlUp p = false) (h : FlitHdr) (now : Nat) (d : List (BitVec 8)) (a : Word) (l : List Nat) :
    ∀ i ∈ ([.memWriteFlit p h a (d.take 236) now, .mediaFlit p h [] now, .msgFlit p h (d.take 244) now, .idleFlit p h false now,
      .heartbeatFlit p h 0 0 0 0 0 now, .echoReq p h now, .echoRsp p h a.toNat now, .laneMap p h 0 0 now, .audit p h l l l now,
      .timeFlitReceive p h a 0 0 false now, .flitCrcFail p true now] : List Instr), exec i s = .next (s.advance now) := by
  simp only [List.forall_mem_cons, List.not_mem_nil, false_implies, implies_true, and_true]
  exact ⟨(exec_memWriteFlit (d.length_take_le 236)).trans (onFlit_of_down hu hh hp), exec_mediaFlit.trans (onFlit_of_down hu hh hp),
    (exec_msgFlit (d.length_take_le 244)).trans (onFlit_of_down hu hh hp), exec_idleFlit.trans (onFlit_of_down hu hh hp),
    exec_heartbeatFlit.trans (onFlit_of_down hu hh hp), exec_echoReq.trans (onFlit_of_down hu hh hp), exec_echoRsp.trans (onFlit_of_down hu hh hp),
    exec_laneMap.trans (onFlit_of_down hu hh hp), exec_audit.trans (onFlit_of_down hu hh hp), exec_timeFlitReceive.trans (onFlit_of_down hu hh hp),
    exec_flitCrcFail.trans (onFlit_of_down hu hh hp)⟩

theorem takeHeader_port (s : State) (q : Nat) (h : FlitHdr) : ((s.takeHeader q h).wlPort q).sent = (s.wlPort q).sent.filter (fun x => !seqLe x.1 h.ack.toNat) ∧
    ((s.takeHeader q h).wlPort q).tx = (s.wlPort q).tx ∧ ((s.takeHeader q h).wlPort q).rxNext = (s.wlPort q).rxNext ∧
    ∀ v, tget (fun _ => 0) ((s.takeHeader q h).wlPort q).credits v =
      tget (fun _ => 0) (s.wlPort q).credits v + if v = h.cvc.toNat ∧ 1 ≤ v ∧ v ≤ 3 then h.credits.toNat else 0 := by
  obtain ⟨o, r, hport⟩ := takeHeader_wlPort s q h
  rw [hport]
  exact ⟨rfl, rfl, rfl, header_credits _ _⟩

theorem takeHeader_out_of_ack {q : Nat} (hn : h.nak = false) : (s.takeHeader q h).out = s.out := by rw [takeHeader_of_ack hn, headerRead_out]

/-- Settles O52: the header is taken first, and the flit then acts through the lemma about its kind. -/
theorem flitReceipt : Obligations.FlitReceipt := by
  unfold Obligations.FlitReceipt
  refine ⟨fun p h now d a l s hu hh hp => flit_of_down hu hh hp h now d a l, fun p h s => ?_, fun p h now s hu hh hp => ?_⟩
  · obtain ⟨hsent, htx, hnext, hcredits⟩ := takeHeader_port s p h
    exact ⟨hsent, htx, hnext, hcredits, takeHeader_get_received .., (takeHeader_wlOnly ..).mem, takeHeader_out_of_ack, takeHeader_replays⟩
  · refine ⟨fun hne => ⟨fun a d hd => memWriteFlit_of_other hu hh hp hne hd, mediaFlit_of_other hu hh hp hne, fun d hd => msgFlit_of_other hu hh hp hne hd⟩,
      fun he => ⟨fun a d hd => ⟨memWriteFlit_inside hu hh hp he hd, memWriteFlit_outside hu hh hp he hd⟩, fun l => mediaFlit_of_others hu hh hp he,
        fun m => mediaFlit_of_source hu hh hp he, fun d => msgFlit_inbox hu hh hp he⟩,
      idleFlit_entry hu hh hp, heartbeatFlit_group hu hh hp, fun hr => ⟨echoReq_answered hu hh hp hr, flitCrcFail_naked hu hh hp hr⟩,
      flitCrcFail_unsequenced hu hh hp, unknownFlitType_counted hu hh hp, echoRsp_measures hu hh hp, laneMap_names hu hh hp, fun r r' o => ⟨?_, ?_⟩,
      fun m e st b => ⟨timeFlitReceive_dropped hu hh hp, fun hl hs => ?_, timeFlitReceive_follows hu hh hp⟩⟩
    · exact fun hok => (audit_checks hu hh hp r r' o).trans (congrArg _ (if_pos (auditOk_iff.2 hok)))
    · exact fun hok => (audit_checks hu hh hp r r' o).trans (congrArg _ (if_neg (mt auditOk_iff.1 hok)))
    · have hsrc : (s.afterHeader now p h).get R.TB_CTRL_SOURCE = s.get R.TB_CTRL_SOURCE := afterHeader_get (.inl (by simp only [R.TB_CTRL_SOURCE]; omega))
      exact (timeFlitReceive_of_lat hu hh hp hl).trans (congrArg _ (followTime_of_other (hsrc ▸ hs)))

end Sys2Proof.Machine
end

section
/-! Sending by credit (15_weneiren.md R571, R572, R583) and forwarded time (12_timebase.md R508, R574). -/

namespace Sys2Proof.Machine

variable {s t : State} {f : Flit} {p : WlPort} {now : Nat} {l r : List Flit}

theorem state_eq_of_runs {q : Nat} (hr : s.wlRuns q = true) : s.wlState q = 2 ∨ s.wlState q = 3 := by
  rw [State.wlRuns, Bool.or_eq_true, decide_eq_true_iff, decide_eq_true_iff] at hr
  exact hr

theorem wlUp_of_runs {q : Nat} (hr : s.wlRuns q = true) : s.wlUp q = true := by rw [State.wlUp, hr, Bool.true_or]

theorem wlRuns_advance (s : State) (now q : Nat) : (s.advance now).wlRuns q = s.wlRuns q := wlRuns_of_get advance_get

/-! ### The queue of a port -/

/-- The flit that the egress or the firmware hands over. -/
def handedFlit (m : TxFlit) : Flit := if m.media then .media m.data else .msg m.data

theorem queueFlit_of_runs {q : Nat} (hr : s.wlRuns q = true) (f : Flit) : s.queueFlit q f = s.setWlPort q { s.wlPort q with tx := (s.wlPort q).tx ++ [f] } := by
  have hidle : ¬s.wlState q = wlIdle := by
    have := state_eq_of_runs hr
    unfold wlIdle
    omega
  rw [State.queueFlit, if_pos (wlUp_of_runs hr), if_neg hidle]

/-- A port with what was handed over at the end of its queue. -/
def State.offered (s : State) (q : Nat) : Option TxFlit → State
  | some m => s.setWlPort q { s.wlPort q with tx := (s.wlPort q).tx ++ [handedFlit m] }
  | none => s

theorem offered_wlPort (s : State) (q : Nat) (m : Option TxFlit) :
    (s.offered q m).wlPort q = { s.wlPort q with tx := (s.wlPort q).tx ++ (m.map handedFlit).toList } := by
  cases m with
  | some m => exact wlPort_setWlPort ..
  | none => rw [Option.map_none, Option.toList_none, List.append_nil]; rfl

theorem offered_out (s : State) (q : Nat) (m : Option TxFlit) : (s.offered q m).out = s.out := by cases m <;> rfl

theorem exec_flitTransmit {m : Option TxFlit} (hl : s.live = true) (hr : s.wlRuns p = true) :
    exec (.flitTransmit p m now) s = .next (((s.advance now).offered p m).transmit p) := by
  have hr' : (s.advance now).wlRuns p = true := (wlRuns_advance s now p).trans hr
  rw [exec, execFlitTransmit, whenLive_of_live hl]
  cases m with
  | some m =>
    dsimp only
    rw [queueFlit_of_runs hr']
    exact congrArg _ (if_pos ((wlRuns_of_get (get_setWlPort ..)).trans hr'))
  | none => exact congrArg _ (if_pos hr')

/-! ### The flit that goes next -/

theorem maySend_iff {w : WlSt} : w.maySend f = true ↔ tget (fun _ => 0) w.credits f.vc ≠ 0 ∧ w.sent.length < 1024 := by
  rw [WlSt.maySend, Bool.and_eq_true, decide_eq_true_iff, decide_eq_true_iff]

theorem find_maySend {w : WlSt} (hq : w.tx = l ++ f :: r) (hb : ∀ g ∈ l, tget (fun _ => 0) w.credits g.vc = 0) (hf : tget (fun _ => 0) w.credits f.vc ≠ 0)
    (hlen : w.sent.length < 1024) : w.tx.find? w.maySend = some f := by
  rw [List.find?_eq_some_iff_append]
  refine ⟨maySend_iff.2 ⟨hf, hlen⟩, l, r, hq, fun g hg => ?_⟩
  rw [Bool.not_eq_true', ← Bool.not_eq_true, maySend_iff]
  exact fun e => e.1 (hb g hg)

/-- What is kept of a port after a sequenced flit of its queue has left. -/
def WlSt.taken (w : WlSt) (f : Flit) : WlSt :=
  { w with tx := w.tx.erase f, sent := w.sent ++ [(w.next, f)], next := (w.next + 1) % 4096,
           credits := tset (fun _ => 0) w.credits f.vc (tget (fun _ => 0) w.credits f.vc - 1) }

theorem transmit_of_some {q : Nat} (hf : (s.wlPort q).tx.find? (s.wlPort q).maySend = some f) : s.transmit q =
    ((s.setWlPort q ((s.wlPort q).taken f)).inc (R.WL_CREDIT_COUNT q (f.vc - 1) 0)).sendFlit q (some (s.wlPort q).next) f := by
  unfold State.transmit
  dsimp only
  rw [hf]
  rfl

theorem transmit_of_none {q : Nat} (hf : (s.wlPort q).tx.find? (s.wlPort q).maySend = none) : s.transmit q = s.sendFlit q none (.idle false false) := by
  unfold State.transmit
  dsimp only
  rw [hf]

/-- The oldest flit whose VC has a credit leaves, and the rest of the queue keeps its order. -/
theorem transmit_oldest {q : Nat} {w : WlSt} (hw : s.wlPort q = w) (hq : w.tx = l ++ f :: r) (hb : ∀ g ∈ l, tget (fun _ => 0) w.credits g.vc = 0)
    (hf : tget (fun _ => 0) w.credits f.vc ≠ 0) (hlen : w.sent.length < 1024) :
    (∃ ack v n, (s.transmit q).out = .flit q (some w.next) ack v n f :: s.out) ∧ ((s.transmit q).wlPort q).tx = l ++ r ∧
      ((s.transmit q).wlPort q).sent = w.sent ++ [(w.next, f)] ∧ ((s.transmit q).wlPort q).next = (w.next + 1) % 4096 ∧
      tget (fun _ => 0) ((s.transmit q).wlPort q).credits f.vc = tget (fun _ => 0) w.credits f.vc - 1 := by
  subst hw
  have hnot : f ∉ l := fun e => hf (hb f e)
  rw [transmit_of_some (find_maySend hq hb hf hlen), sendFlit_wlPort, wlPort_inc, wlPort_setWlPort]
  refine ⟨⟨_, _, _, (sendFlit_out ..).trans (congrArg _ ?_)⟩, ?_, rfl, rfl, tget_tset_same ..⟩
  · rw [inc_out, setWlPort_out]
  · change (s.wlPort q).tx.erase f = l ++ r
    rw [hq, List.erase_append_right _ hnot, List.erase_cons_head]

theorem flitTransmit_oldest {m : Option TxFlit} (hl : s.live = true) (hr : s.wlRuns p = true) (hq : (s.wlPort p).tx ++ (m.map handedFlit).toList = l ++ f :: r)
    (hb : ∀ g ∈ l, tget (fun _ => 0) (s.wlPort p).credits g.vc = 0) (hf : tget (fun _ => 0) (s.wlPort p).credits f.vc ≠ 0)
    (hlen : (s.wlPort p).sent.length < 1024) :
    ∃ t, exec (.flitTransmit p m now) s = .next t ∧ Sys2Proof.Spec.sends s t p (some (s.wlPort p).next) f ∧ (t.wlPort p).tx = l ++ r ∧
      (t.wlPort p).sent = (s.wlPort p).sent ++ [((s.wlPort p).next, f)] ∧ (t.wlPort p).next = ((s.wlPort p).next + 1) % 4096 ∧
      tget (fun _ => 0) (t.wlPort p).credits f.vc = tget (fun _ => 0) (s.wlPort p).credits f.vc - 1 := by
  obtain ⟨⟨ack, v, n, hout⟩, hrest⟩ := transmit_oldest (offered_wlPort (s.advance now) p m) hq hb hf hlen
  exact ⟨_, exec_flitTransmit hl hr, ⟨ack, v, n, by rw [hout, offered_out, advance_out]; rfl⟩, hrest⟩

theorem flitTransmit_idle {m : Option TxFlit} (hl : s.live = true) (hr : s.wlRuns p = true)
    (hn : (∀ f ∈ (s.wlPort p).tx ++ (m.map handedFlit).toList, tget (fun _ => 0) (s.wlPort p).credits f.vc = 0) ∨ 1024 ≤ (s.wlPort p).sent.length) :
    ∃ t, exec (.flitTransmit p m now) s = .next t ∧ Sys2Proof.Spec.sends s t p none (.idle false false) ∧
      (t.wlPort p).tx = (s.wlPort p).tx ++ (m.map handedFlit).toList ∧ (t.wlPort p).sent = (s.wlPort p).sent := by
  have hport := offered_wlPort (s.advance now) p m
  have hnone : (((s.advance now).offered p m).wlPort p).tx.find? (((s.advance now).offered p m).wlPort p).maySend = none := by
    rw [hport, List.find?_eq_none]
    intro f hf e
    obtain ⟨hc, hlen⟩ := maySend_iff.1 e
    exact hn.elim (fun h => hc (h f hf)) (fun h => absurd hlen (not_lt.2 h))
  refine ⟨_, exec_flitTransmit hl hr, ?_⟩
  rw [transmit_of_none hnone, sendFlit_wlPort, hport]
  exact ⟨⟨_, _, _, (sendFlit_out ..).trans (congrArg _ (by rw [offered_out, advance_out]))⟩, rfl, rfl⟩

/-! ### The counts of an AUDIT flit (R583) -/

/-- The credits of VC v that the port's next header returns. -/
def WlSt.returns (w : WlSt) (v : Nat) : Nat := if v = w.owes.1 then w.owes.2 else 0

theorem paid_owed (w : WlSt) (a v : Nat) : tget (fun _ => 0) (w.paid a).owed (v + 1) = tget (fun _ => 0) w.owed (v + 1) - w.returns (v + 1) := by
  unfold WlSt.paid WlSt.returns
  dsimp only
  by_cases hv : v + 1 = w.owes.1
  · rw [if_pos hv, if_neg (by omega), ← hv, tget_tset_same]
  · rw [if_neg hv, Nat.sub_zero]
    split
    · rfl
    · exact tget_tset_other _ _ _ _ _ hv

theorem sendFlit_returned (s : State) (q : Nat) (seq : Option Nat) (f : Flit) {v : Nat} (hv : v < 3) :
    (s.sendFlit q seq f).get (R.WL_CREDIT_COUNT q v 3) = (s.get (R.WL_CREDIT_COUNT q v 3) + (s.wlPort q).returns (v + 1)) % 2 ^ 64 := by
  have hcnt : (s.sendFlit q seq f).get (R.WL_CREDIT_COUNT q v 3) = (s.creditPaid q).get (R.WL_CREDIT_COUNT q v 3) := by
    rw [sendFlit_eq, get_emit, get_wlCount_apart (by simp only [R.WL_CREDIT_COUNT]; omega), get_setWlPort]
  have hlt : s.get (R.WL_CREDIT_COUNT q v 3) < 2 ^ 64 := get_lt ..
  rw [hcnt, WlSt.returns, State.creditPaid]
  by_cases hown : v + 1 = (s.wlPort q).owes.1
  · rw [if_pos hown, if_neg (by omega), ← hown]
    exact get_set_same s (R.WL_CREDIT_COUNT q v 3) _ (show 0 + 64 ≤ 64 by decide)
  · rw [if_neg hown, Nat.add_zero, Nat.mod_eq_of_lt hlt]
    split
    · rfl
    · next h0 => exact get_set_other _ _ _ _ (by simp only [R.WL_CREDIT_COUNT]; omega)

/-- The AUDIT flit that a port sends. -/
def State.auditFlit (s : State) (q : Nat) : Flit :=
  .audit (((s.wlPort q).rxNext + 4095) % 4096) (([1, 2, 3] : List Nat).map fun v => s.get (R.WL_CREDIT_COUNT q (v - 1) 2) + 0)
    (([1, 2, 3] : List Nat).map fun v => s.get (R.WL_CREDIT_COUNT q (v - 1) 3) + (s.wlPort q).returns v)
    (([1, 2, 3] : List Nat).map fun v => tget (fun _ => 0) (s.wlPort q).owed v - (s.wlPort q).returns v)

theorem auditFlit_advance (s : State) (now q : Nat) : (s.advance now).auditFlit q = s.auditFlit q := by
  simp only [State.auditFlit, wlPort_advance, advance_get]

theorem exec_auditSend (hl : s.live = true) (hr : s.wlRuns p = true) :
    exec (.auditSend p now) s = .next ((s.advance now).sendFlit p none (s.auditFlit p)) := by
  have hr' : (s.advance now).wlRuns p = true := (wlRuns_advance s now p).trans hr
  rw [exec, execAuditSend, whenLive_of_live hl]
  dsimp only
  rw [if_pos hr', sendControl_of_runs hr', ← auditFlit_advance s now]
  rfl

theorem getD_map_three (g : Nat → Nat) {v : Nat} (hv : v < 3) : (([1, 2, 3] : List Nat).map g).getD v 0 = g (v + 1) := by
  interval_cases v <;> rfl

theorem auditSend_counts (hl : s.live = true) (hr : s.wlRuns p = true) : ∃ t rec ret occ, exec (.auditSend p now) s = .next t ∧
    Sys2Proof.Spec.sends s t p none (.audit (((s.wlPort p).rxNext + 4095) % 4096) rec ret occ) ∧
    ∀ v < 3, rec.getD v 0 = s.get (R.WL_CREDIT_COUNT p v 2) ∧ ret.getD v 0 % 2 ^ 64 = t.get (R.WL_CREDIT_COUNT p v 3) ∧
      occ.getD v 0 = tget (fun _ => 0) (t.wlPort p).owed (v + 1) := by
  refine ⟨_, _, _, _, exec_auditSend hl hr, ⟨_, _, _, sendFlit_out ..⟩, fun v hv => ⟨?_, ?_, ?_⟩⟩
  · rw [getD_map_three _ hv, Nat.add_zero, Nat.add_sub_cancel]
  · rw [getD_map_three _ hv, Nat.add_sub_cancel, sendFlit_returned _ _ _ _ hv, wlPort_advance, advance_get]
  · rw [getD_map_three _ hv, sendFlit_wlPort, wlPort_advance, paid_owed]

/-! ### Forwarded time (12_timebase.md R508, R574) -/

/-- A TIME flit is due at a port: its transmission is enabled, and 1 ms has passed since the last. -/
def State.timeDue (s : State) (q : Nat) : Prop :=
  (s.get R.TB_FWD_CTRL_TX_EN).testBit q = true ∧ ∀ t, tfind s.tb.flitLast q = some t → t + 1000000 ≤ s.raw

theorem timeDue_iff {q : Nat} : s.timeDue q ↔
    bitAt (s.get R.TB_FWD_CTRL_TX_EN) q = true ∧ (tfind s.tb.flitLast q).elim true (fun t => decide (t + 1000000 ≤ s.raw)) = true := by
  rw [State.timeDue, bitAt_eq_testBit]
  refine and_congr_right fun _ => ?_
  cases tfind s.tb.flitLast q with
  | none => exact ⟨fun _ => rfl, fun _ t ht => absurd ht.symm (Option.some_ne_none t)⟩
  | some t =>
    rw [Option.elim_some, decide_eq_true_iff]
    exact ⟨fun e => e t rfl, fun e _ ht => Option.some.inj ht ▸ e⟩

/-- The port's latest TIME flit is of this raw time. -/
def State.timeSent (s : State) (q : Nat) : State := { s with tb := { s.tb with flitLast := tput s.tb.flitLast q s.raw } }

theorem timeFlitSend_of_due (hl : s.live = true) (hr : s.wlRuns p = true) (hd : (s.advance now).timeDue p) : exec (.timeFlitSend p now) s =
    .next (((s.advance now).timeSent p).sendFlit p none
      (.time (s.advance now).now (s.get R.TB_EPOCH_EPOCH) (s.get R.TB_STATUS_STATE) (s.flag R.TB_STATUS_STEP_USED))) := by
  have hr' : ((s.advance now).timeSent p).wlRuns p = true := (wlRuns_of_get rfl).trans hr
  rw [exec, execTimeFlitSend, whenLive_of_live hl]
  dsimp only
  rw [if_pos (timeDue_iff.1 hd)]
  exact congrArg _ (sendControl_of_runs hr')

theorem timeFlitSend_of_not_due (hl : s.live = true) (hd : ¬(s.advance now).timeDue p) : exec (.timeFlitSend p now) s = .next (s.advance now) := by
  rw [exec, execTimeFlitSend, whenLive_of_live hl]
  exact congrArg _ (if_neg (mt timeDue_iff.2 hd))

theorem timeFlitSend_sends (hl : s.live = true) (hr : s.wlRuns p = true) (hd : (s.advance now).timeDue p) : ∃ t, exec (.timeFlitSend p now) s = .next t ∧
    Sys2Proof.Spec.sends s t p none (.time (s.advance now).now (s.get R.TB_EPOCH_EPOCH) (s.get R.TB_STATUS_STATE) (s.flag R.TB_STATUS_STEP_USED)) ∧
    tfind t.tb.flitLast p = some (max s.raw now) := by
  refine ⟨_, timeFlitSend_of_due hl hr hd, ⟨_, _, _, sendFlit_out ..⟩, ?_⟩
  rw [(sendFlit_wlOnly ..).tb]
  exact tfind_tput_same ..

end Sys2Proof.Machine
end

section
/-! Falls, training and bring-up of a port (15_weneiren.md R575 to R578, R582). -/

namespace Sys2Proof.Machine

variable {s t u : State} {g : Field} {p : WlPort} {now q : Nat}

theorem wlUp_of_training (ht : s.wlState q = 1) : s.wlUp q = false := by
  simp only [State.wlUp, State.wlRuns, ht, wlFull, wlHalf, wlIdle]
  decide

theorem wlState_of_get (h : t.get (R.WL_STATUS_STATE q) = s.get (R.WL_STATUS_STATE q)) : t.wlState q = s.wlState q := h

theorem wlState_advance (s : State) (now q : Nat) : (s.advance now).wlState q = s.wlState q := wlState_of_get advance_get

theorem wlState_setWlPort (s : State) (q : Nat) (w : WlSt) : (s.setWlPort q w).wlState q = s.wlState q := wlState_of_get (get_setWlPort ..)

theorem wlState_set (s : State) (q x : Nat) (hx : x < 8) : (s.set (R.WL_STATUS_STATE q) x).wlState q = x :=
  (get_set_same s (R.WL_STATUS_STATE q) x (show 0 + 3 ≤ 64 by decide)).trans (Nat.mod_eq_of_lt hx)

theorem wlRuns_of_state (h : s.wlState q = 2 ∨ s.wlState q = 3) : s.wlRuns q = true := by
  rw [State.wlRuns, Bool.or_eq_true, decide_eq_true_iff, decide_eq_true_iff]
  exact h

/-! ### Steps that write registers alone -/

namespace State.RegsOnly

theorem trans (h : s.RegsOnly t) (h' : t.RegsOnly u) : s.RegsOnly u := by
  unfold State.RegsOnly at *
  rw [h', h]

theorem set (s : State) (g : Field) (x : Nat) : s.RegsOnly (s.set g x) := set_regs_only ..

theorem setFlag (s : State) (g : Field) (b : Bool) : s.RegsOnly (s.setFlag g b) := set ..

theorem foldl {α : Type} {step : State → α → State} (h : ∀ (s : State) a, s.RegsOnly (step s a)) (l : List α) (s : State) : s.RegsOnly (l.foldl step s) := by
  induction l generalizing s with
  | nil => exact refl s
  | cons a l ih => exact (h s a).trans (ih _)

theorem wlPort (h : s.RegsOnly t) (q : Nat) : t.wlPort q = s.wlPort q := by rw [h]; rfl

theorem out (h : s.RegsOnly t) : t.out = s.out := by rw [h]

end State.RegsOnly

/-! ### Training begins (R575) -/

/-- The lanes of a port that trains. -/
def State.lanesDown (s : State) (q : Nat) : State :=
  (List.range 17).foldl (fun s l => ((s.setFlag (R.WL_LANE_STATUS_LOCK q l) false).setFlag (R.WL_LANE_STATUS_IS_SPARE q l) false).set
    (R.WL_LANE_STATUS_LOGICAL q l) 0) s

/-- WL_STATUS of a port that trains if it is enabled and not held, and is down otherwise. -/
def State.statusDown (s : State) (q : Nat) (held : Bool) : State :=
  ((s.set (R.WL_STATUS_STATE q) (if s.flag (R.WL_CTRL_ENABLE q) ∧ !held then wlTraining else wlDown)).setFlag (R.WL_STATUS_SPARE_IN_USE q) false).set
    (R.WL_STATUS_HALF q) 0

/-- What is kept of a port as its training begins. -/
def State.clearDown (s : State) (q : Nat) (w : WlSt) : State := s.setWlPort q { held := w.held, trainAt := s.raw, inbox := w.inbox }

/-- A port down or training, before the start of training is counted. -/
def State.trained (s : State) (q : Nat) : State := ((s.lanesDown q).statusDown q (s.wlPort q).held).clearDown q (s.wlPort q)

theorem wlTrain_eq (s : State) (q : Nat) : s.wlTrain q = if (s.trained q).wlState q = wlTraining then (s.trained q).wlCount q 6 1 else s.trained q := rfl

theorem lanesDown_get (hk : ∀ l, g.key ≠ 0xe00104 + q * 0x40000 + l * 8) : (s.lanesDown q).get g = s.get g :=
  foldl_keeps (fun s => s.get g) _ (fun s l => by
    rw [get_set_apart (.inl (hk l)), get_setFlag_apart (.inl (hk l)), get_setFlag_apart (.inl (hk l))]) _ _

theorem lanesDown_regsOnly (s : State) (q : Nat) : s.RegsOnly (s.lanesDown q) :=
  .foldl (fun _ _ => (State.RegsOnly.setFlag ..).trans (.trans (.setFlag ..) (.set ..))) _ _

theorem statusDown_regsOnly (s : State) (q : Nat) (held : Bool) : s.RegsOnly (s.statusDown q held) :=
  (State.RegsOnly.set ..).trans (.trans (.setFlag ..) (.set ..))

theorem statusDown_get {held : Bool} (h1 : (R.WL_STATUS_STATE q).Apart g) (h2 : (R.WL_STATUS_SPARE_IN_USE q).Apart g) (h3 : (R.WL_STATUS_HALF q).Apart g) :
    (s.statusDown q held).get g = s.get g := by
  rw [State.statusDown, get_set_apart h3, get_setFlag_apart h2, get_set_apart h1]

theorem statusDown_state (s : State) (q : Nat) (held : Bool) :
    (s.statusDown q held).wlState q = if s.flag (R.WL_CTRL_ENABLE q) = true ∧ held = false then 1 else 0 := by
  have h2 : (R.WL_STATUS_SPARE_IN_USE q).Apart (R.WL_STATUS_STATE q) := by simp only [Field.Apart, R.WL_STATUS_SPARE_IN_USE, R.WL_STATUS_STATE]; omega
  have h3 : (R.WL_STATUS_HALF q).Apart (R.WL_STATUS_STATE q) := by simp only [Field.Apart, R.WL_STATUS_HALF, R.WL_STATUS_STATE]; omega
  have hv (x : Nat) (hx : x < 8) : (((s.set (R.WL_STATUS_STATE q) x).setFlag (R.WL_STATUS_SPARE_IN_USE q) false).set (R.WL_STATUS_HALF q) 0).wlState q = x := by
    rw [State.wlState, get_set_apart h3, get_setFlag_apart h2]
    exact wlState_set s q x hx
  rw [State.statusDown, hv _ (by split <;> decide)]
  simp only [Bool.not_eq_true', wlTraining, wlDown]

theorem trained_get (hk : ∀ l, g.key ≠ 0xe00104 + q * 0x40000 + l * 8) (h1 : (R.WL_STATUS_STATE q).Apart g) (h2 : (R.WL_STATUS_SPARE_IN_USE q).Apart g)
    (h3 : (R.WL_STATUS_HALF q).Apart g) : (s.trained q).get g = s.get g := by
  rw [State.trained, State.clearDown, get_setWlPort, statusDown_get h1 h2 h3, lanesDown_get hk]

theorem trained_state (s : State) (q : Nat) :
    (s.trained q).wlState q = if s.flag (R.WL_CTRL_ENABLE q) = true ∧ (s.wlPort q).held = false then 1 else 0 := by
  have he : (s.lanesDown q).flag (R.WL_CTRL_ENABLE q) = s.flag (R.WL_CTRL_ENABLE q) :=
    flag_of_get (lanesDown_get fun l => by simp only [R.WL_CTRL_ENABLE]; omega)
  rw [State.trained, State.clearDown, wlState_setWlPort, statusDown_state, he]

theorem trained_wlPort (s : State) (q : Nat) :
    (s.trained q).wlPort q = { held := (s.wlPort q).held, trainAt := s.raw, inbox := (s.wlPort q).inbox } := by
  rw [State.trained, State.clearDown, wlPort_setWlPort, (statusDown_regsOnly ..).raw, (lanesDown_regsOnly ..).raw]

theorem wlTrain_wlPort (s : State) (q : Nat) :
    (s.wlTrain q).wlPort q = { held := (s.wlPort q).held, trainAt := s.raw, inbox := (s.wlPort q).inbox } := by
  rw [wlTrain_eq]
  split
  · rw [wlPort_wlCount, trained_wlPort]
  · exact trained_wlPort s q

/-- Nothing of a port but its lanes, STATE, SPARE_IN_USE, HALF and a count of trainings changes as its training begins. -/
theorem wlTrain_get (hk : ∀ l, g.key ≠ 0xe00104 + q * 0x40000 + l * 8) (h1 : (R.WL_STATUS_STATE q).Apart g) (h2 : (R.WL_STATUS_SPARE_IN_USE q).Apart g)
    (h3 : (R.WL_STATUS_HALF q).Apart g) (h4 : g.key ≠ 0xe00400 + q * 0x40000 + 6 * 8) : (s.wlTrain q).get g = s.get g := by
  rw [wlTrain_eq]
  split
  · rw [get_wlCount_apart h4, trained_get hk h1 h2 h3]
  · exact trained_get hk h1 h2 h3

theorem wlTrain_get_count {i : Nat} (hi : i ≠ 6) : (s.wlTrain q).get (R.WL_CNT_COUNT q i) = s.get (R.WL_CNT_COUNT q i) := by
  refine wlTrain_get (fun l => ?_) (.inl ?_) (.inl ?_) (.inl ?_) ?_ <;>
    simp only [R.WL_CNT_COUNT, R.WL_STATUS_STATE, R.WL_STATUS_SPARE_IN_USE, R.WL_STATUS_HALF] <;> omega

theorem wlTrain_state (s : State) (q : Nat) :
    (s.wlTrain q).wlState q = if s.flag (R.WL_CTRL_ENABLE q) = true ∧ (s.wlPort q).held = false then 1 else 0 := by
  rw [wlTrain_eq, ← trained_state]
  split
  · exact wlState_of_get (get_wlCount_apart (by simp only [R.WL_STATUS_STATE]; omega))
  · rfl

theorem wlTrain_counts (he : s.flag (R.WL_CTRL_ENABLE q) = true) (hh : (s.wlPort q).held = false) :
    (s.wlTrain q).get (R.WL_CNT_COUNT q 6) = (s.get (R.WL_CNT_COUNT q 6) + 1) % 2 ^ 64 := by
  have ht : (s.trained q).wlState q = wlTraining := (trained_state s q).trans (if_pos ⟨he, hh⟩)
  rw [wlTrain_eq, if_pos ht, get_wlCount_same, trained_get (fun l => ?_) (.inl ?_) (.inl ?_) (.inl ?_)] <;>
    simp only [R.WL_CNT_COUNT, R.WL_STATUS_STATE, R.WL_STATUS_SPARE_IN_USE, R.WL_STATUS_HALF] <;> omega

/-! ### A fall (R577, R582) -/

theorem wlLose_of_up (hp : s.wlUp q = true) : s.wlLose q =
    (s.wlCount q 4 ((s.wlPort q).tx.length + (s.wlPort q).sent.length)).setFlag (R.WL_STATUS_LINK_DOWN_SEEN q) true := by
  refine if_pos ?_
  by_contra h
  rw [State.wlUp, State.wlRuns, Bool.or_eq_true, Bool.or_eq_true, decide_eq_true_iff, decide_eq_true_iff, decide_eq_true_iff] at hp
  unfold wlTraining at h
  unfold wlFull wlHalf wlIdle at hp
  omega

theorem wlFall_of_up (hp : s.wlUp q = true) : s.wlFall q = ((s.wlLose q).wlTrain q).wlReport q 2 := if_pos hp

/-- A fall loses every flit queued or unacknowledged, counts them and reports; the port trains again if it is enabled and not held. -/
theorem wlFall_loses (hp : s.wlUp q = true) : ∃ u : State, s.wlFall q = u.wlReport q 2 ∧ (u.wlPort q).tx = [] ∧ (u.wlPort q).sent = [] ∧
    u.flag (R.WL_STATUS_LINK_DOWN_SEEN q) = true ∧
    u.get (R.WL_CNT_COUNT q 4) = (s.get (R.WL_CNT_COUNT q 4) + ((s.wlPort q).tx.length + (s.wlPort q).sent.length)) % 2 ^ 64 ∧
    u.wlState q = if s.flag (R.WL_CTRL_ENABLE q) = true ∧ (s.wlPort q).held = false then 1 else 0 := by
  have hport : (s.wlLose q).wlPort q = s.wlPort q := by rw [wlLose_of_up hp, wlPort_setFlag, wlPort_wlCount]
  have henable : (s.wlLose q).flag (R.WL_CTRL_ENABLE q) = s.flag (R.WL_CTRL_ENABLE q) := by
    rw [wlLose_of_up hp, flag_setFlag_apart (.inl (by simp only [R.WL_STATUS_LINK_DOWN_SEEN, R.WL_CTRL_ENABLE]; omega)),
      flag_of_get (get_wlCount_apart (by simp only [R.WL_CTRL_ENABLE]; omega))]
  refine ⟨_, wlFall_of_up hp, ?_, ?_, ?_, ?_, ?_⟩
  · rw [wlTrain_wlPort]
  · rw [wlTrain_wlPort]
  · have hseen : (s.wlLose q).flag (R.WL_STATUS_LINK_DOWN_SEEN q) = true := by
      rw [wlLose_of_up hp]
      exact flag_setFlag_same _ (R.WL_STATUS_LINK_DOWN_SEEN q) true (show 10 + 1 ≤ 64 by decide) (show 0 < 1 by decide)
    rw [flag_of_get (wlTrain_get (fun l => ?_) (.inr ?_) (.inr ?_) (.inr ?_) ?_), hseen] <;>
      simp only [R.WL_STATUS_LINK_DOWN_SEEN, R.WL_STATUS_STATE, R.WL_STATUS_SPARE_IN_USE, R.WL_STATUS_HALF] <;> omega
  · rw [wlTrain_get_count (by decide), wlLose_of_up hp, get_setFlag_apart (.inl (by simp only [R.WL_STATUS_LINK_DOWN_SEEN, R.WL_CNT_COUNT]; omega)),
      get_wlCount_same]
  · rw [wlTrain_state, hport, henable]

theorem exec_wlRetrain (hl : s.live = true) (he : s.flag (R.WL_CTRL_ENABLE p) = true) : exec (.wlRetrain p now) s = .next ((s.advance now).wlFall p) := by
  obtain ⟨hu, hh⟩ := up_of_live hl
  rw [exec, execWlRetrain, whenWr_of_up hu hh]
  exact congrArg _ (if_pos he)

theorem exec_clockLoss (hl : s.live = true) (hp : s.wlUp p = true) : exec (.wlLaneLockLoss p [] true now) s =
    .next (if (s.wlPort p).rxIdle = false then (s.advance now).wlFall p else s.advance now) := by
  rw [exec, execWlLaneLockLoss, whenLive_of_live hl]
  dsimp only
  rw [if_pos rfl, wlUp_advance, wlPort_advance, hp]
  simp only [Bool.not_eq_true', true_and]

/-! ### Bring-up (R575, R578) -/

/-- The credits that the peer's buffers give. -/
def initialCredits (bufs : List Nat) : Table Nat := [1, 2, 3].foldl (fun (t : Table Nat) v => tset (fun _ => 0) t v (bufs.getD (v - 1) 0)) []

/-- What is kept of a port as it comes up at raw time r. -/
def WlSt.risen (w : WlSt) (r : Nat) : WlSt :=
  { w with init := w.peerBuf, credits := initialCredits w.peerBuf, owed := [], next := 0, rxNext := 0, tx := [], sent := [], echoes := [],
           latOk := false, lastTx := r }

/-- The credit counts of a port begin again. -/
def State.creditsCleared (s : State) (q : Nat) : State := (List.range 12).foldl (fun s i => s.set (R.WL_CREDIT_COUNT q (i / 4) (i % 4)) 0) s

/-- A port that has come up, before its echo flits. -/
def State.risen (s : State) (q : Nat) : State := ((s.setWlPort q ((s.wlPort q).risen s.raw)).creditsCleared q).set (R.WL_STATUS_STATE q) wlFull

theorem wlRise_eq (s : State) (q : Nat) : s.wlRise q = (List.range 16).foldl (fun s _ => s.sendControl q .echoReq) (s.risen q) := rfl

theorem initialCredits_get (bufs : List Nat) {v : Nat} (hv : v < 3) : tget (fun _ => 0) (initialCredits bufs) (v + 1) = bufs.getD v 0 := by
  rw [initialCredits, List.foldl_cons, List.foldl_cons, List.foldl_cons, List.foldl_nil, tget_tset, tget_tset, tget_tset]
  interval_cases v <;> rfl

theorem creditsCleared_get (hk : ∀ i j, j < 4 → g.key ≠ (R.WL_CREDIT_COUNT q i j).key) : (s.creditsCleared q).get g = s.get g :=
  foldl_keeps (fun s => s.get g) _ (fun s i => get_set_apart (.inl (hk _ _ (Nat.mod_lt i (by decide))))) _ _

theorem creditsCleared_regsOnly (s : State) (q : Nat) : s.RegsOnly (s.creditsCleared q) := .foldl (fun _ _ => .set ..) _ _

theorem risen_get (hk : g.key < 0xe00400 + q * 0x40000) (ha : (R.WL_STATUS_STATE q).Apart g) : (s.risen q).get g = s.get g := by
  rw [State.risen, get_set_apart ha, creditsCleared_get fun i j _ => by simp only [R.WL_CREDIT_COUNT]; omega, get_setWlPort]

theorem risen_state (s : State) (q : Nat) : (s.risen q).wlState q = 2 := wlState_set _ _ _ (by decide)

theorem risen_wlPort (s : State) (q : Nat) : (s.risen q).wlPort q = (s.wlPort q).risen s.raw := by
  rw [State.risen, wlPort_set, (creditsCleared_regsOnly ..).wlPort, wlPort_setWlPort]

theorem risen_out (s : State) (q : Nat) : (s.risen q).out = s.out := by
  rw [State.risen, set_out, (creditsCleared_regsOnly ..).out, setWlPort_out]

theorem wlRise_sends (s : State) (q : Nat) : (s.risen q).Sends q ((List.range 16).map fun _ => (none, .echoReq)) (s.wlRise q) := by
  rw [wlRise_eq]
  exact echoes_send (List.range 16) (wlRuns_of_state (.inl (risen_state s q)))

theorem wlRise_get (hk : g.key < 0xe00400 + q * 0x40000) (ha : (R.WL_STATUS_STATE q).Apart g) : (s.wlRise q).get g = s.get g := by
  rw [(wlRise_sends s q).get (by unfold OffSend; omega), risen_get hk ha]

theorem wlRise_lane (q : Nat) {l : Nat} (hl : l < 17) :
    (s.wlRise q).reg (0xe00104 + q * 0x40000 + l * 8) = s.reg (0xe00104 + q * 0x40000 + l * 8) := by
  rw [(wlRise_sends s q).reg _ (by unfold OffSend; omega), State.risen, reg_set_other _ _ _ _ (by simp only [R.WL_STATUS_STATE]; omega)]
  exact foldl_keeps (fun s => s.reg (0xe00104 + q * 0x40000 + l * 8)) _
    (fun s i => reg_set_other _ _ _ _ (by simp only [R.WL_CREDIT_COUNT]; omega)) (List.range 12) (s.setWlPort q _)

/-- Port q has come up in t, with 16 echo flits sent since s and the peer's buffers as its credits. -/
def State.Rises (s t : State) (q : Nat) (bufs : List Nat) : Prop :=
  t.wlState q = 2 ∧ (∀ v < 3, tget (fun _ => 0) (t.wlPort q).credits (v + 1) = bufs.getD v 0) ∧ (t.wlPort q).next = 0 ∧ (t.wlPort q).rxNext = 0 ∧
    (t.wlPort q).tx = [] ∧ ∃ l : List Output, t.out = l ++ s.out ∧ l.length = 16 ∧ ∀ o ∈ l, ∃ ack v n, o = .flit q none ack v n .echoReq

/-- Every output of a row of equal flits is that flit. -/
theorem carries_of_mem {α : Type} {l : List α} {x : Option Nat × Flit} {o : List Output} (h : List.Forall₂ (Carries q) (l.map fun _ => x) o) :
    ∀ y ∈ o, Carries q x y := by
  induction l generalizing o with
  | nil =>
    cases h
    exact fun y hy => absurd hy (List.not_mem_nil)
  | cons a l ih =>
    cases h with
    | cons hc hl => exact List.forall_mem_cons.2 ⟨hc, ih hl⟩

theorem wlRise_rises (s : State) (q : Nat) : s.Rises (s.wlRise q) q (s.wlPort q).peerBuf := by
  have hs := wlRise_sends s q
  obtain ⟨o, r, hport⟩ := hs.port
  obtain ⟨l, hout, hall⟩ := hs.out
  rw [risen_wlPort] at hport
  refine ⟨(wlState_of_get (hs.get (state_offSend q))).trans (risen_state s q), fun v hv => ?_, by rw [hport]; rfl, by rw [hport]; rfl, by rw [hport]; rfl,
    l, by rw [hout, risen_out], ?_, fun x hx => carries_of_mem hall x (List.mem_reverse.2 hx)⟩
  · rw [hport]
    exact initialCredits_get _ hv
  · have := hall.length_eq
    rwa [List.length_map, List.length_range, List.length_reverse, eq_comm] at this

theorem wlTryRise_of_ready (ht : s.wlState q = 1) (hr : (s.wlPort q).ready = true) (hp : (s.wlPort q).peerReady = true) : s.wlTryRise q = s.wlRise q :=
  if_pos ⟨ht, hr, hp⟩

theorem wlTryRise_of_waiting (h : ¬((s.wlPort q).ready = true ∧ (s.wlPort q).peerReady = true)) : s.wlTryRise q = s := if_neg fun e => h e.2

end Sys2Proof.Machine
end

section
/-! Training blocks, the receiver's lock and a training that times out (15_weneiren.md R575, R576). -/

namespace Sys2Proof.Machine

variable {s t : State} {g : Field} {p : WlPort} {now q : Nat}

theorem reg_setWlPort (s : State) (q : Nat) (w : WlSt) (k : Nat) : (s.setWlPort q w).reg k = s.reg k := rfl

theorem rises_congr {bufs : List Nat} (ho : t.out = s.out) {u : State} (h : t.Rises u q bufs) : s.Rises u q bufs := by
  unfold State.Rises at h ⊢
  rwa [ho] at h

/-! ### A training block of the peer -/

/-- The peer's name in WL_STATUS. -/
def State.peerNamed (s : State) (q : Nat) (b m : BitVec 2) : State := (s.set (R.WL_STATUS_PEER_ID q) b.toNat).set (R.WL_STATUS_PEER_PORT q) m.toNat

/-- A port that has read a training block. -/
def State.blockRead (s : State) (q : Nat) (b m : BitVec 2) (bufs : List Nat) (ready : Bool) : State :=
  (s.peerNamed q b m).setWlPort q { s.wlPort q with peerBuf := bufs, peerReady := (s.wlPort q).peerReady || ready }

theorem peerNamed_state (s : State) (q : Nat) (b m : BitVec 2) : (s.peerNamed q b m).wlState q = s.wlState q := by
  rw [State.peerNamed, State.wlState, State.wlState, get_set_apart (.inr (by simp only [R.WL_STATUS_PEER_PORT, R.WL_STATUS_STATE]; omega)),
    get_set_apart (.inr (by simp only [R.WL_STATUS_PEER_ID, R.WL_STATUS_STATE]; omega))]

theorem peerNamed_id (s : State) (q : Nat) (b m : BitVec 2) : (s.peerNamed q b m).get (R.WL_STATUS_PEER_ID q) = b.toNat := by
  rw [State.peerNamed, get_set_apart (.inr (by simp only [R.WL_STATUS_PEER_PORT, R.WL_STATUS_PEER_ID]; omega)),
    get_set_same _ _ _ (show 5 + 2 ≤ 64 by decide)]
  exact Nat.mod_eq_of_lt b.isLt

theorem peerNamed_port (s : State) (q : Nat) (b m : BitVec 2) : (s.peerNamed q b m).get (R.WL_STATUS_PEER_PORT q) = m.toNat := by
  rw [State.peerNamed, get_set_same _ _ _ (show 7 + 2 ≤ 64 by decide)]
  exact Nat.mod_eq_of_lt m.isLt

theorem blockRead_state (s : State) (q : Nat) (b m : BitVec 2) (bufs : List Nat) (ready : Bool) : (s.blockRead q b m bufs ready).wlState q = s.wlState q := by
  rw [State.blockRead, wlState_setWlPort, peerNamed_state]

theorem blockRead_wlPort (s : State) (q : Nat) (b m : BitVec 2) (bufs : List Nat) (ready : Bool) :
    (s.blockRead q b m bufs ready).wlPort q = { s.wlPort q with peerBuf := bufs, peerReady := (s.wlPort q).peerReady || ready } := wlPort_setWlPort ..

theorem blockRead_out (s : State) (q : Nat) (b m : BitVec 2) (bufs : List Nat) (ready : Bool) : (s.blockRead q b m bufs ready).out = s.out := by
  rw [State.blockRead, setWlPort_out, State.peerNamed, set_out, set_out]

theorem exec_trainingBlockReceive {b m : BitVec 2} {bufs : List Nat} {ready : Bool} (hl : s.live = true) (ht : s.wlState p = 1) :
    exec (.trainingBlockReceive p b m bufs ready now) s = .next (((s.advance now).blockRead p b m bufs ready).wlTryRise p) := by
  have ht' : (s.advance now).wlState p = wlTraining := (wlState_advance ..).trans ht
  rw [exec, execTrainingBlockReceive, whenLive_of_live hl]
  dsimp only
  rw [if_neg (ne_true_of_eq_false (wlUp_of_training ht'))]
  exact congrArg _ (if_pos ht')

theorem trainingBlock_rises {b m : BitVec 2} {bufs : List Nat} {ready : Bool} (hl : s.live = true) (ht : s.wlState p = 1) (hw : (s.wlPort p).ready = true)
    (hp : ready = true ∨ (s.wlPort p).peerReady = true) : ∃ t, exec (.trainingBlockReceive p b m bufs ready now) s = .next t ∧ s.Rises t p bufs ∧
      t.get (R.WL_STATUS_PEER_ID p) = b.toNat ∧ t.get (R.WL_STATUS_PEER_PORT p) = m.toNat := by
  have hport := blockRead_wlPort (s.advance now) p b m bufs ready
  have hrises := wlRise_rises ((s.advance now).blockRead p b m bufs ready) p
  rw [hport] at hrises
  have hboth : ((s.wlPort p).peerReady || ready) = true := Bool.or_eq_true .. ▸ hp.symm
  have hrise := wlTryRise_of_ready (s := (s.advance now).blockRead p b m bufs ready) ((blockRead_state ..).trans ht) (by rw [hport]; exact hw)
    (by rw [hport]; exact hboth)
  refine ⟨_, exec_trainingBlockReceive hl ht, ?_⟩
  rw [hrise]
  refine ⟨rises_congr ((blockRead_out (s.advance now) p b m bufs ready).trans (advance_out ..)) hrises, ?_, ?_⟩
  · rw [wlRise_get (by simp only [R.WL_STATUS_PEER_ID]; omega) (.inr (by simp only [R.WL_STATUS_PEER_ID, R.WL_STATUS_STATE]; omega)),
      State.blockRead, get_setWlPort, peerNamed_id]
  · rw [wlRise_get (by simp only [R.WL_STATUS_PEER_PORT]; omega) (.inr (by simp only [R.WL_STATUS_PEER_PORT, R.WL_STATUS_STATE]; omega)),
      State.blockRead, get_setWlPort, peerNamed_port]

theorem trainingBlock_waits {b m : BitVec 2} {bufs : List Nat} {ready : Bool} (hl : s.live = true) (ht : s.wlState p = 1)
    (hw : (s.wlPort p).ready = false ∨ (ready = false ∧ (s.wlPort p).peerReady = false)) :
    ∃ t, exec (.trainingBlockReceive p b m bufs ready now) s = .next t ∧ t.wlState p = 1 ∧
      t.wlPort p = { s.wlPort p with peerBuf := bufs, peerReady := (s.wlPort p).peerReady || ready } := by
  have hport := blockRead_wlPort (s.advance now) p b m bufs ready
  refine ⟨_, exec_trainingBlockReceive hl ht, ?_⟩
  rw [wlTryRise_of_waiting]
  · exact ⟨(blockRead_state ..).trans ht, hport⟩
  · rw [hport]
    rintro ⟨hr, hp⟩
    rcases hw with hw | ⟨hready, hpeer⟩
    · exact absurd (hr.symm.trans hw) (by decide)
    · change ((s.wlPort p).peerReady || ready) = true at hp
      rw [hready, hpeer] at hp
      exact absurd hp (by decide)

/-! ### The receiver's lock -/

/-- A lane as the receiver locks it. -/
def State.laneLocked (s : State) (q : Nat) (invd : BitVec 17) (l : Nat) : State :=
  (((s.setFlag (R.WL_LANE_STATUS_LOCK q l) true).setFlag (R.WL_LANE_STATUS_IS_SPARE q l) (l = 16)).set (R.WL_LANE_STATUS_LOGICAL q l) l).setFlag
    (R.WL_LANE_STATUS_INVERTED q l) (bitAt invd.toNat l)

/-- The receiver has locked lane l. -/
def State.Locked (s : State) (q : Nat) (invd : BitVec 17) (l : Nat) : Prop :=
  s.flag (R.WL_LANE_STATUS_LOCK q l) = true ∧ s.get (R.WL_LANE_STATUS_LOGICAL q l) = l ∧ s.flag (R.WL_LANE_STATUS_IS_SPARE q l) = decide (l = 16) ∧
    s.flag (R.WL_LANE_STATUS_INVERTED q l) = invd.getLsbD l

theorem locked_of_reg {invd : BitVec 17} {l : Nat} (hk : t.reg (0xe00104 + q * 0x40000 + l * 8) = s.reg (0xe00104 + q * 0x40000 + l * 8))
    (h : s.Locked q invd l) : t.Locked q invd l := by
  obtain ⟨h1, h2, h3, h4⟩ := h
  exact ⟨(flag_of_get (get_of_reg (f := R.WL_LANE_STATUS_LOCK q l) hk)).trans h1, (get_of_reg (f := R.WL_LANE_STATUS_LOGICAL q l) hk).trans h2,
    (flag_of_get (get_of_reg (f := R.WL_LANE_STATUS_IS_SPARE q l) hk)).trans h3, (flag_of_get (get_of_reg (f := R.WL_LANE_STATUS_INVERTED q l) hk)).trans h4⟩

theorem laneLocked_reg {invd : BitVec 17} {l k : Nat} (hk : k ≠ 0xe00104 + q * 0x40000 + l * 8) : (s.laneLocked q invd l).reg k = s.reg k := by
  rw [State.laneLocked, State.setFlag, reg_set_other _ _ _ _ hk, reg_set_other _ _ _ _ hk, State.setFlag, reg_set_other _ _ _ _ hk, State.setFlag,
    reg_set_other _ _ _ _ hk]

theorem laneLocked_locked (s : State) (q : Nat) (invd : BitVec 17) {l : Nat} (hl : l < 17) : (s.laneLocked q invd l).Locked q invd l := by
  unfold State.laneLocked
  refine ⟨?_, ?_, ?_, ?_⟩
  · rw [flag_setFlag_apart (.inr (by simp only [R.WL_LANE_STATUS_LOCK, R.WL_LANE_STATUS_INVERTED]; omega)),
      flag_set_apart (.inr (by simp only [R.WL_LANE_STATUS_LOCK, R.WL_LANE_STATUS_LOGICAL]; omega)),
      flag_setFlag_apart (.inr (by simp only [R.WL_LANE_STATUS_LOCK, R.WL_LANE_STATUS_IS_SPARE]; omega))]
    exact flag_setFlag_same _ (R.WL_LANE_STATUS_LOCK q l) true (show 0 + 1 ≤ 64 by decide) (show 0 < 1 by decide)
  · rw [get_setFlag_apart (.inr (by simp only [R.WL_LANE_STATUS_LOGICAL, R.WL_LANE_STATUS_INVERTED]; omega)),
      get_set_same _ _ _ (show 4 + 5 ≤ 64 by decide)]
    exact Nat.mod_eq_of_lt (show l < 2 ^ 5 by omega)
  · rw [flag_setFlag_apart (.inr (by simp only [R.WL_LANE_STATUS_IS_SPARE, R.WL_LANE_STATUS_INVERTED]; omega)),
      flag_set_apart (.inr (by simp only [R.WL_LANE_STATUS_IS_SPARE, R.WL_LANE_STATUS_LOGICAL]; omega))]
    exact flag_setFlag_same _ (R.WL_LANE_STATUS_IS_SPARE q l) _ (show 3 + 1 ≤ 64 by decide) (show 0 < 1 by decide)
  · refine (flag_setFlag_same _ (R.WL_LANE_STATUS_INVERTED q l) _ (show 9 + 1 ≤ 64 by decide) (show 0 < 1 by decide)).trans ?_
    rw [bitAt_eq_testBit]
    rfl

/-- All 17 lanes as the receiver locks them. -/
def State.lanesLocked (s : State) (q : Nat) (invd : BitVec 17) : State := (List.range 17).foldl (fun s l => s.laneLocked q invd l) s

theorem lanesLocked_locked (s : State) (q : Nat) (invd : BitVec 17) {l : Nat} (hl : l < 17) : (s.lanesLocked q invd).Locked q invd l :=
  foldl_establishes (I := fun _ => True) (Q := fun s => s.Locked q invd l) (fun _ _ _ _ => trivial) (fun s _ => laneLocked_locked s q invd hl)
    (fun _ b _ hb _ h => locked_of_reg (laneLocked_reg (by omega)) h) (List.mem_range.2 hl) s trivial

theorem lanesLocked_get {invd : BitVec 17} (hk : ∀ l, g.key ≠ 0xe00104 + q * 0x40000 + l * 8) : (s.lanesLocked q invd).get g = s.get g :=
  foldl_keeps (fun s => s.get g) _ (fun _ l => get_of_reg (laneLocked_reg (hk l))) _ _

theorem laneLocked_regsOnly (s : State) (q : Nat) (invd : BitVec 17) (l : Nat) : s.RegsOnly (s.laneLocked q invd l) :=
  (State.RegsOnly.setFlag ..).trans (.trans (.setFlag ..) (.trans (.set ..) (.setFlag ..)))

theorem lanesLocked_regsOnly (s : State) (q : Nat) (invd : BitVec 17) : s.RegsOnly (s.lanesLocked q invd) :=
  State.RegsOnly.foldl (step := fun s l => s.laneLocked q invd l) (fun s l => laneLocked_regsOnly s q invd l) (List.range 17) s

/-- A training port whose receiver has locked. -/
def State.receiverLocked (s : State) (q : Nat) (rev : Bool) (invd : BitVec 17) : State :=
  ((s.lanesLocked q invd).setFlag (R.WL_STATUS_REVERSED q) rev).setWlPort q { s.wlPort q with ready := true }

theorem lockedRev_regsOnly (s : State) (q : Nat) (rev : Bool) (invd : BitVec 17) : s.RegsOnly ((s.lanesLocked q invd).setFlag (R.WL_STATUS_REVERSED q) rev) :=
  (lanesLocked_regsOnly s q invd).trans (.setFlag ..)

theorem receiverLocked_wlPort (s : State) (q : Nat) (rev : Bool) (invd : BitVec 17) :
    (s.receiverLocked q rev invd).wlPort q = { s.wlPort q with ready := true } := wlPort_setWlPort ..

theorem receiverLocked_out (s : State) (q : Nat) (rev : Bool) (invd : BitVec 17) : (s.receiverLocked q rev invd).out = s.out := by
  rw [State.receiverLocked, setWlPort_out, (lockedRev_regsOnly ..).out]

theorem receiverLocked_state (s : State) (q : Nat) (rev : Bool) (invd : BitVec 17) : (s.receiverLocked q rev invd).wlState q = s.wlState q := by
  rw [State.receiverLocked, wlState_setWlPort, State.wlState, get_setFlag_apart (.inr (by simp only [R.WL_STATUS_REVERSED, R.WL_STATUS_STATE]; omega)),
    lanesLocked_get fun l => by simp only [R.WL_STATUS_STATE]; omega]
  rfl

theorem receiverLocked_reversed (s : State) (q : Nat) (rev : Bool) (invd : BitVec 17) : (s.receiverLocked q rev invd).flag (R.WL_STATUS_REVERSED q) = rev := by
  rw [State.receiverLocked, flag_setWlPort]
  exact flag_setFlag_same _ (R.WL_STATUS_REVERSED q) rev (show 9 + 1 ≤ 64 by decide) (show 0 < 1 by decide)

theorem receiverLocked_locked (s : State) (q : Nat) (rev : Bool) (invd : BitVec 17) {l : Nat} (hl : l < 17) : (s.receiverLocked q rev invd).Locked q invd l := by
  refine locked_of_reg (s := s.lanesLocked q invd) ?_ (lanesLocked_locked s q invd hl)
  rw [State.receiverLocked, reg_setWlPort, State.setFlag, reg_set_other _ _ _ _ (by simp only [R.WL_STATUS_REVERSED]; omega)]

theorem exec_receiverReady {rev : Bool} {invd : BitVec 17} (hl : s.live = true) (ht : s.wlState p = 1) :
    exec (.receiverReady p rev invd now) s = .next (((s.advance now).receiverLocked p rev invd).wlTryRise p) := by
  have ht' : (s.advance now).wlState p = wlTraining := (wlState_advance ..).trans ht
  have hport : (((s.advance now).lanesLocked p invd).setFlag (R.WL_STATUS_REVERSED p) rev).wlPort p = (s.advance now).wlPort p := (lockedRev_regsOnly ..).wlPort _
  rw [exec, execReceiverReady, whenLive_of_live hl, State.receiverLocked, ← hport]
  exact congrArg _ (if_pos ht')

/-- A port whose lanes the receiver has locked comes up if the peer is ready, and waits for it otherwise. -/
theorem receiverReady_locks {rev : Bool} {invd : BitVec 17} (hl : s.live = true) (ht : s.wlState p = 1) :
    ∃ t, exec (.receiverReady p rev invd now) s = .next t ∧ t.flag (R.WL_STATUS_REVERSED p) = rev ∧ (∀ l < 17, t.Locked p invd l) ∧
      ((s.wlPort p).peerReady = true → s.Rises t p (s.wlPort p).peerBuf) ∧
      ((s.wlPort p).peerReady = false → t.wlState p = 1 ∧ t.wlPort p = { s.wlPort p with ready := true }) := by
  have hexec := exec_receiverReady (now := now) (rev := rev) (invd := invd) hl ht
  have hport := receiverLocked_wlPort (s.advance now) p rev invd
  have hstate := (receiverLocked_state (s.advance now) p rev invd).trans ht
  have hrev := receiverLocked_reversed (s.advance now) p rev invd
  have hlocked (l : Nat) (h : l < 17) := receiverLocked_locked (s.advance now) p rev invd h
  have hout := (receiverLocked_out (s.advance now) p rev invd).trans (advance_out ..)
  revert hexec hport hstate hrev hlocked hout
  generalize (s.advance now).receiverLocked p rev invd = y
  intro hexec hport hstate hrev hlocked hout
  cases hp : (s.wlPort p).peerReady with
  | false =>
    have hwait : y.wlTryRise p = y := wlTryRise_of_waiting fun e => by
      rw [hport] at e
      exact absurd (hp.symm.trans e.2) (by decide)
    rw [hwait] at hexec
    exact ⟨y, hexec, hrev, hlocked, fun e => absurd e (by decide), fun _ => ⟨hstate, hport⟩⟩
  | true =>
    have hrise : y.wlTryRise p = y.wlRise p := wlTryRise_of_ready hstate (by rw [hport]) (by rw [hport]; exact hp)
    have hrises := wlRise_rises y p
    rw [hport] at hrises
    rw [hrise] at hexec
    refine ⟨_, hexec, ?_, fun l h => ?_, fun _ => rises_congr hout hrises, fun e => absurd e (by decide)⟩
    · rw [flag_of_get (wlRise_get (by simp only [R.WL_STATUS_REVERSED]; omega) (.inr (by simp only [R.WL_STATUS_REVERSED, R.WL_STATUS_STATE]; omega))), hrev]
    · exact locked_of_reg (wlRise_lane p h) (hlocked l h)

/-! ### A training that times out (R576) -/

theorem trainTimeout_of_due (hl : s.live = true) (ht : s.wlState p = 1) (hd : (s.wlPort p).trainAt + 1000 * s.get (R.WL_CTRL_TIMEOUT_US p) ≤ max s.raw now) :
    exec (.trainTimeout p now) s = .next (((s.advance now).wlTrain p).wlCount p 7 1) := by
  rw [exec, execTrainTimeout, whenLive_of_live hl]
  exact congrArg _ (if_pos ⟨ht, hd⟩)

theorem trainTimeout_of_early (hl : s.live = true) (hd : max s.raw now < (s.wlPort p).trainAt + 1000 * s.get (R.WL_CTRL_TIMEOUT_US p)) :
    exec (.trainTimeout p now) s = .next (s.advance now) := by
  rw [exec, execTrainTimeout, whenLive_of_live hl]
  exact congrArg _ (if_neg fun e => absurd e.2 (not_le.2 hd))

theorem trainTimeout_restarts (hl : s.live = true) (ht : s.wlState p = 1) (hd : (s.wlPort p).trainAt + 1000 * s.get (R.WL_CTRL_TIMEOUT_US p) ≤ max s.raw now)
    (he : s.flag (R.WL_CTRL_ENABLE p) = true) (hh : (s.wlPort p).held = false) : ∃ t, exec (.trainTimeout p now) s = .next t ∧ t.wlState p = 1 ∧
      (t.wlPort p).trainAt = max s.raw now ∧ t.get (R.WL_CNT_COUNT p 6) = (s.get (R.WL_CNT_COUNT p 6) + 1) % 2 ^ 64 ∧
      t.get (R.WL_CNT_COUNT p 7) = (s.get (R.WL_CNT_COUNT p 7) + 1) % 2 ^ 64 := by
  have he' : (s.advance now).flag (R.WL_CTRL_ENABLE p) = true := advance_flag.trans he
  have hh' : ((s.advance now).wlPort p).held = false := by rw [wlPort_advance, hh]
  refine ⟨_, trainTimeout_of_due hl ht hd, ?_, ?_, ?_, ?_⟩
  · rw [wlState_of_get (get_wlCount_apart (by simp only [R.WL_STATUS_STATE]; omega)), wlTrain_state, if_pos ⟨he', hh'⟩]
  · rw [wlPort_wlCount, wlTrain_wlPort]
    rfl
  · rw [get_wlCount_other (by decide), wlTrain_counts he' hh', advance_get]
  · rw [get_wlCount_same, wlTrain_get_count (by decide), advance_get]

end Sys2Proof.Machine
end

section
/-! Lanes that fail and come back, half width and electrical idle (15_weneiren.md R581, R582, R584, R585), and the obligation about links. -/

namespace Sys2Proof.Machine

variable {s t : State} {g : Field} {p : WlPort} {now q l sp x y : Nat}

/-! ### A lane that loses lock -/

theorem spareLane_of_flags (h : ∀ l, t.flag (R.WL_LANE_STATUS_IS_SPARE q l) = s.flag (R.WL_LANE_STATUS_IS_SPARE q l)) : t.spareLane q = s.spareLane q := by
  unfold State.spareLane
  simp only [h]

/-- Lane l has lost lock. -/
def State.laneLost (s : State) (q l : Nat) : State := (s.setFlag (R.WL_LANE_STATUS_LOCK q l) false).setFlag (R.WL_LANE_STATUS_LOCK_LOST q l) true

theorem laneLost_wlPort (s : State) (q l : Nat) : (s.laneLost q l).wlPort q = s.wlPort q := by rw [State.laneLost, wlPort_setFlag, wlPort_setFlag]

theorem laneLost_out (s : State) (q l : Nat) : (s.laneLost q l).out = s.out := by rw [State.laneLost, setFlag_out, setFlag_out]

theorem laneLost_get (h1 : (R.WL_LANE_STATUS_LOCK q l).Apart g) (h2 : (R.WL_LANE_STATUS_LOCK_LOST q l).Apart g) : (s.laneLost q l).get g = s.get g := by
  rw [State.laneLost, get_setFlag_apart h2, get_setFlag_apart h1]

theorem laneLost_get_other (hk : g.key ≠ 0xe00104 + q * 0x40000 + l * 8) : (s.laneLost q l).get g = s.get g := laneLost_get (.inl hk) (.inl hk)

/-- Lane l of port q is out of lock and was seen to lose it. -/
def State.OutOfLock (s : State) (q l : Nat) : Prop := s.flag (R.WL_LANE_STATUS_LOCK q l) = false ∧ s.flag (R.WL_LANE_STATUS_LOCK_LOST q l) = true

theorem State.OutOfLock.of_reg (hk : t.reg (0xe00104 + q * 0x40000 + l * 8) = s.reg (0xe00104 + q * 0x40000 + l * 8)) (h : s.OutOfLock q l) : t.OutOfLock q l := by
  obtain ⟨h1, h2⟩ := h
  exact ⟨(flag_of_get (get_of_reg (f := R.WL_LANE_STATUS_LOCK q l) hk)).trans h1, (flag_of_get (get_of_reg (f := R.WL_LANE_STATUS_LOCK_LOST q l) hk)).trans h2⟩

theorem laneLost_outOfLock (s : State) (q l : Nat) : (s.laneLost q l).OutOfLock q l := by
  constructor
  · rw [State.laneLost, flag_setFlag_apart (.inr (by simp only [R.WL_LANE_STATUS_LOCK, R.WL_LANE_STATUS_LOCK_LOST]; omega))]
    exact flag_setFlag_same _ (R.WL_LANE_STATUS_LOCK q l) false (show 0 + 1 ≤ 64 by decide) (show 0 < 1 by decide)
  · exact flag_setFlag_same _ (R.WL_LANE_STATUS_LOCK_LOST q l) true (show 2 + 1 ≤ 64 by decide) (show 0 < 1 by decide)

theorem laneLost_spareLane (s : State) (q l : Nat) : (s.laneLost q l).spareLane q = s.spareLane q :=
  spareLane_of_flags fun i => flag_of_get (laneLost_get (by simp only [Field.Apart, R.WL_LANE_STATUS_LOCK, R.WL_LANE_STATUS_IS_SPARE]; omega)
    (by simp only [Field.Apart, R.WL_LANE_STATUS_LOCK_LOST, R.WL_LANE_STATUS_IS_SPARE]; omega))

theorem laneLost_logical (s : State) (q l : Nat) : (s.laneLost q l).get (R.WL_LANE_STATUS_LOGICAL q l) = s.get (R.WL_LANE_STATUS_LOGICAL q l) :=
  laneLost_get (.inr (by simp only [R.WL_LANE_STATUS_LOCK, R.WL_LANE_STATUS_LOGICAL]; omega))
    (.inr (by simp only [R.WL_LANE_STATUS_LOCK_LOST, R.WL_LANE_STATUS_LOGICAL]; omega))

/-- What is kept of a port when the lane that carries logical lane x has failed. -/
def WlSt.failing (w : WlSt) (x : Nat) (spare : Bool) : WlSt :=
  { w with failed := if w.failed.contains x then w.failed else w.failed ++ [x], spareDead := w.spareDead || spare }

/-- A port whose lane l, out of lock, carried a logical lane. -/
def State.laneFailed (s : State) (q l : Nat) : State :=
  s.setWlPort q ((s.wlPort q).failing (s.get (R.WL_LANE_STATUS_LOGICAL q l)) (decide (s.spareLane q = some l)))

/-- The spare, lane sp, carries logical lane x. -/
def State.laneSpared (s : State) (q sp x : Nat) : State := (s.setFlag (R.WL_STATUS_SPARE_IN_USE q) true).set (R.WL_LANE_STATUS_LOGICAL q sp) x

/-- The spare takes logical lane x, and the peer is told from which SEQ. -/
def State.takeSpare (s : State) (q sp x : Nat) : State :=
  ((s.laneSpared q sp x).sendControl q (.laneMap x ((s.laneSpared q sp x).wlPort q).rxNext)).wlCount q 5 1

theorem laneFails_eq {z : State} (hp : s.wlUp q = true) (hk : s.flag (R.WL_LANE_STATUS_LOCK q l) = true) (hz : s.laneLost q l = z) (hne : z.spareLane q ≠ some l) :
    s.laneFails q l =
      if (!z.flag (R.WL_STATUS_SPARE_IN_USE q)) = true ∧ (!(z.wlPort q).spareDead) = true ∧ (z.wlPort q).failed = [] then
        match (z.laneFailed q l).spareLane q with
        | some sp => ((z.laneFailed q l).takeSpare q sp (z.get (R.WL_LANE_STATUS_LOGICAL q l))).wlReport q 0
        | none => (z.laneFailed q l).goHalf q
      else (z.laneFailed q l).goHalf q := by
  have hup : ¬((!s.wlUp q) = true ∨ (!s.flag (R.WL_LANE_STATUS_LOCK q l)) = true) := by
    rw [hp, hk]
    decide
  rw [State.laneFails, if_neg hup, ← State.laneLost, hz]
  dsimp only
  rw [if_neg fun e => hne e.1]
  rfl

theorem laneFailed_wlPort (z : State) (q l : Nat) :
    (z.laneFailed q l).wlPort q = (z.wlPort q).failing (z.get (R.WL_LANE_STATUS_LOGICAL q l)) (decide (z.spareLane q = some l)) := wlPort_setWlPort ..

theorem laneFailed_spareLane (z : State) (q l : Nat) : (z.laneFailed q l).spareLane q = z.spareLane q := spareLane_of_flags fun _ => flag_setWlPort ..

theorem laneLost_use (s : State) (q l : Nat) : (s.laneLost q l).flag (R.WL_STATUS_SPARE_IN_USE q) = s.flag (R.WL_STATUS_SPARE_IN_USE q) :=
  flag_of_get (laneLost_get_other (by simp only [R.WL_STATUS_SPARE_IN_USE]; omega))

theorem laneLost_state (s : State) (q l : Nat) : (s.laneLost q l).wlState q = s.wlState q :=
  wlState_of_get (laneLost_get_other (by simp only [R.WL_STATUS_STATE]; omega))

/-- The first data lane to fail goes to the spare. -/
theorem laneFails_spared (hp : s.wlUp q = true) (hk : s.flag (R.WL_LANE_STATUS_LOCK q l) = true) (hsp : s.spareLane q = some sp) (hne : sp ≠ l)
    (huse : s.flag (R.WL_STATUS_SPARE_IN_USE q) = false) (hdead : (s.wlPort q).spareDead = false) (hnone : (s.wlPort q).failed = []) : s.laneFails q l =
      (((s.laneLost q l).laneFailed q l).takeSpare q sp (s.get (R.WL_LANE_STATUS_LOGICAL q l))).wlReport q 0 := by
  have hspare : (s.laneLost q l).spareLane q = some sp := (laneLost_spareLane s q l).trans hsp
  have hdoes : (!(s.laneLost q l).flag (R.WL_STATUS_SPARE_IN_USE q)) = true ∧ (!((s.laneLost q l).wlPort q).spareDead) = true ∧ ((s.laneLost q l).wlPort q).failed = [] := by
    rw [laneLost_use, laneLost_wlPort, huse, hdead]
    exact ⟨rfl, rfl, hnone⟩
  rw [laneFails_eq hp hk rfl (fun e => hne (Option.some.inj (hspare.symm.trans e))), if_pos hdoes, laneFailed_spareLane, hspare, laneLost_logical]

/-- A data lane that fails while the spare is in use takes the port to half width. -/
theorem laneFails_halved (hp : s.wlUp q = true) (hk : s.flag (R.WL_LANE_STATUS_LOCK q l) = true) (hsp : s.spareLane q = some sp) (hne : sp ≠ l)
    (huse : s.flag (R.WL_STATUS_SPARE_IN_USE q) = true) : s.laneFails q l = ((s.laneLost q l).laneFailed q l).goHalf q := by
  have hspare : (s.laneLost q l).spareLane q = some sp := (laneLost_spareLane s q l).trans hsp
  have hnot : ¬((!(s.laneLost q l).flag (R.WL_STATUS_SPARE_IN_USE q)) = true ∧ (!((s.laneLost q l).wlPort q).spareDead) = true ∧
      ((s.laneLost q l).wlPort q).failed = []) := by
    rw [laneLost_use, huse]
    exact fun e => absurd e.1 (by decide)
  rw [laneFails_eq hp hk rfl (fun e => hne (Option.some.inj (hspare.symm.trans e))), if_neg hnot]

theorem filter_lane : ∀ l : Fin 17, (List.range 17).filter (fun x => [l.val].contains x) = [l.val] := by decide

theorem exec_laneLoss {l : Fin 17} (hl : s.live = true) : exec (.wlLaneLockLoss p [l.val] false now) s = .next ((s.advance now).laneFails p l) := by
  rw [exec, execWlLaneLockLoss, whenLive_of_live hl]
  dsimp only
  rw [if_neg Bool.false_ne_true, filter_lane l]
  rfl

/-! ### The spare takes a lane (R581) -/

theorem laneSpared_get (h1 : (R.WL_STATUS_SPARE_IN_USE q).Apart g) (h2 : (R.WL_LANE_STATUS_LOGICAL q sp).Apart g) : (s.laneSpared q sp x).get g = s.get g := by
  rw [State.laneSpared, get_set_apart h2, get_setFlag_apart h1]

theorem laneSpared_runs (hr : s.wlRuns q = true) : (s.laneSpared q sp x).wlRuns q = true :=
  (wlRuns_of_get (laneSpared_get (.inr (by simp only [R.WL_STATUS_SPARE_IN_USE, R.WL_STATUS_STATE]; omega))
    (.inl (by simp only [R.WL_LANE_STATUS_LOGICAL, R.WL_STATUS_STATE]; omega)))).trans hr

theorem laneSpared_wlPort (s : State) (q sp x : Nat) : (s.laneSpared q sp x).wlPort q = s.wlPort q := by rw [State.laneSpared, wlPort_set, wlPort_setFlag]

theorem takeSpare_of_runs (hr : s.wlRuns q = true) : s.takeSpare q sp x =
    ((s.laneSpared q sp x).sendFlit q none (.laneMap x (s.wlPort q).rxNext)).wlCount q 5 1 := by
  rw [State.takeSpare, sendControl_of_runs (laneSpared_runs hr), laneSpared_wlPort]

theorem takeSpare_get (hr : s.wlRuns q = true) (hk : OffSend q g.key) (hc : g.key ≠ 0xe00400 + q * 0x40000 + 5 * 8) :
    (s.takeSpare q sp x).get g = (s.laneSpared q sp x).get g := by
  rw [takeSpare_of_runs hr, get_wlCount_apart hc, sendFlit_get hk]

theorem takeSpare_out (hr : s.wlRuns q = true) : Sys2Proof.Spec.sends s (s.takeSpare q sp x) q none (.laneMap x (s.wlPort q).rxNext) := by
  have hout : (s.laneSpared q sp x).out = s.out := by rw [State.laneSpared, set_out, setFlag_out]
  obtain ⟨ack, v, n, hsend⟩ := sendFlit_sends (s.laneSpared q sp x) q none (.laneMap x (s.wlPort q).rxNext)
  exact ⟨ack, v, n, by rw [takeSpare_of_runs hr, wlCount_out, hsend, hout]⟩

theorem lane_reg_ne_status (q j : Nat) : (R.WL_STATUS_SPARE_IN_USE q).key ≠ 0xe00104 + q * 0x40000 + j * 8 := by
  simp only [R.WL_STATUS_SPARE_IN_USE]
  omega

theorem takeSpare_lane (hr : s.wlRuns q = true) (hne : sp ≠ l) :
    (s.takeSpare q sp x).reg (0xe00104 + q * 0x40000 + l * 8) = s.reg (0xe00104 + q * 0x40000 + l * 8) := by
  rw [takeSpare_of_runs hr, reg_wlCount (by omega), sendFlit_reg (by unfold OffSend; omega), State.laneSpared, State.setFlag,
    reg_set_other _ _ _ _ (by simp only [R.WL_LANE_STATUS_LOGICAL]; omega), reg_set_other _ _ _ _ (lane_reg_ne_status q l).symm]

theorem takeSpare_logical (hr : s.wlRuns q = true) (hx : x < 32) : (s.takeSpare q sp x).get (R.WL_LANE_STATUS_LOGICAL q sp) = x := by
  rw [takeSpare_get hr (by simp only [OffSend, R.WL_LANE_STATUS_LOGICAL]; omega) (by simp only [R.WL_LANE_STATUS_LOGICAL]; omega), State.laneSpared,
    get_set_same _ _ _ (show 4 + 5 ≤ 64 by decide)]
  exact Nat.mod_eq_of_lt hx

theorem takeSpare_use (hr : s.wlRuns q = true) : (s.takeSpare q sp x).flag (R.WL_STATUS_SPARE_IN_USE q) = true := by
  rw [flag_of_get (takeSpare_get hr (by simp only [OffSend, R.WL_STATUS_SPARE_IN_USE]; omega) (by simp only [R.WL_STATUS_SPARE_IN_USE]; omega)),
    State.laneSpared, flag_set_apart (.inl (by simp only [R.WL_STATUS_SPARE_IN_USE, R.WL_LANE_STATUS_LOGICAL]; omega))]
  exact flag_setFlag_same _ (R.WL_STATUS_SPARE_IN_USE q) true (show 3 + 1 ≤ 64 by decide) (show 0 < 1 by decide)

theorem takeSpare_lat (hr : s.wlRuns q = true) (hq : q < 3) : (s.takeSpare q sp x).get (R.TB_WL_LAT_LAT q) = s.get (R.TB_WL_LAT_LAT q) := by
  rw [takeSpare_get hr (by simp only [OffSend, R.TB_WL_LAT_LAT]; omega) (by simp only [R.TB_WL_LAT_LAT]; omega)]
  exact laneSpared_get (.inl (by simp only [R.TB_WL_LAT_LAT, R.WL_STATUS_SPARE_IN_USE]; omega))
    (.inl (by simp only [R.TB_WL_LAT_LAT, R.WL_LANE_STATUS_LOGICAL]; omega))

theorem takeSpare_count (hr : s.wlRuns q = true) : (s.takeSpare q sp x).get (R.WL_CNT_COUNT q 5) = (s.get (R.WL_CNT_COUNT q 5) + 1) % 2 ^ 64 := by
  rw [takeSpare_of_runs hr, get_wlCount_same, sendFlit_get (cnt_offSend (by decide) (by decide))]
  refine congrArg (fun n => (n + 1) % 2 ^ 64) (laneSpared_get (.inl ?_) (.inl ?_)) <;>
    simp only [R.WL_CNT_COUNT, R.WL_STATUS_SPARE_IN_USE, R.WL_LANE_STATUS_LOGICAL] <;> omega

/-- The first data lane that fails is carried by the spare, counted and told to the peer. -/
theorem laneLoss_spares {l : Fin 17} (hl : s.live = true) (hs : s.wlState p = 2) (hk : s.flag (R.WL_LANE_STATUS_LOCK p l) = true)
    (hsp : s.spareLane p = some sp) (hne : sp ≠ l) (hdead : (s.wlPort p).spareDead = false) (huse : s.flag (R.WL_STATUS_SPARE_IN_USE p) = false)
    (hnone : (s.wlPort p).failed = []) : ∃ u : State, exec (.wlLaneLockLoss p [l.val] false now) s = .next (u.wlReport p 0) ∧ u.OutOfLock p l ∧
      u.flag (R.WL_STATUS_SPARE_IN_USE p) = true ∧ u.get (R.WL_LANE_STATUS_LOGICAL p sp) = s.get (R.WL_LANE_STATUS_LOGICAL p l) ∧
      u.get (R.TB_WL_LAT_LAT p) = s.get (R.TB_WL_LAT_LAT p) ∧ u.get (R.WL_CNT_COUNT p 5) = (s.get (R.WL_CNT_COUNT p 5) + 1) % 2 ^ 64 ∧
      Sys2Proof.Spec.sends s u p none (.laneMap (s.get (R.WL_LANE_STATUS_LOGICAL p l)) (s.wlPort p).rxNext) := by
  have hup : (s.advance now).wlUp p = true := (wlUp_advance ..).trans (wlUp_of_runs (wlRuns_of_state (.inl hs)))
  have hexec : exec (.wlLaneLockLoss p [l.val] false now) s = _ :=
    (exec_laneLoss hl).trans (congrArg _ (laneFails_spared (sp := sp) hup (advance_flag.trans hk) hsp hne (advance_flag.trans huse) hdead hnone))
  have hruns : (((s.advance now).laneLost p l).laneFailed p l).wlRuns p = true :=
    wlRuns_of_state (.inl ((wlState_setWlPort ..).trans ((laneLost_state ..).trans hs)))
  have hlost : (((s.advance now).laneLost p l).laneFailed p l).OutOfLock p l := State.OutOfLock.of_reg (reg_setWlPort ..) (laneLost_outOfLock ..)
  have hget {g : Field} (hg : g.key ≠ 0xe00104 + p.val * 0x40000 + l.val * 8) : (((s.advance now).laneLost p l).laneFailed p l).get g = s.get g :=
    (get_setWlPort ..).trans (laneLost_get_other hg)
  have hrx : ((((s.advance now).laneLost p l).laneFailed p l).wlPort p).rxNext = (s.wlPort p).rxNext := by
    rw [laneFailed_wlPort, laneLost_wlPort]
    rfl
  have hout : (((s.advance now).laneLost p l).laneFailed p l).out = s.out := (setWlPort_out ..).trans ((laneLost_out ..).trans (advance_out ..))
  have hx : s.get (R.WL_LANE_STATUS_LOGICAL p l) < 32 := get_lt ..
  rw [advance_get] at hexec
  revert hexec hruns hlost hrx hout
  generalize hy : ((s.advance now).laneLost p l).laneFailed p l = y at hget
  intro hexec hruns hlost hrx hout
  refine ⟨_, hexec, hlost.of_reg (takeSpare_lane hruns hne), takeSpare_use hruns, takeSpare_logical hruns hx, ?_, ?_, ?_⟩
  · rw [takeSpare_lat hruns p.isLt, hget (by simp only [R.TB_WL_LAT_LAT]; omega)]
  · rw [takeSpare_count hruns, hget (by simp only [R.WL_CNT_COUNT]; omega)]
  · obtain ⟨ack, v, n, hsend⟩ := takeSpare_out (sp := sp) (x := s.get (R.WL_LANE_STATUS_LOGICAL p l)) hruns
    exact ⟨ack, v, n, by rw [hsend, hrx, hout]⟩

/-! ### Half width (R582) -/

/-- The failed logical lanes of one half of a port. -/
def WlSt.lostIn (w : WlSt) (lo : Nat) : Nat := (w.failed.filter (fun l => decide (lo ≤ l) && decide (l < lo + 8))).length

/-- A port that has gone to half width on half h. -/
def State.halved (s : State) (q h : Nat) : State :=
  ((((s.set (R.WL_STATUS_STATE q) (if s.wlState q = wlIdle then wlIdle else wlHalf)).set (R.WL_STATUS_HALF q) h).setFlag (R.WL_STATUS_SPARE_IN_USE q)
    ((s.wlPort q).lostIn (8 * h) ≠ 0)).setWlPort q { s.wlPort q with half := true, echoes := [], latOk := false }).add (R.TB_WL_LAT_LAT q) 52

theorem lostIn_pair {w : WlSt} (hf : w.failed = [y, x]) (lo : Nat) :
    w.lostIn lo = (if lo ≤ y ∧ y < lo + 8 then 1 else 0) + if lo ≤ x ∧ x < lo + 8 then 1 else 0 := by
  have key (a : Nat) : (decide (lo ≤ a) && decide (a < lo + 8)) = decide (lo ≤ a ∧ a < lo + 8) := (Bool.decide_and ..).symm
  simp only [WlSt.lostIn, hf, key, List.filter_cons, List.filter_nil, decide_eq_true_iff]
  split <;> split <;> rfl

theorem goHalf_of_full (hh : (s.wlPort q).half = false) (hd : (s.wlPort q).spareDead = false) (h1 : (s.wlPort q).lostIn 0 ≤ 1 ∨ (s.wlPort q).lostIn 8 ≤ 1) :
    s.goHalf q = (List.range 16).foldl (fun s _ => s.sendControl q .echoReq) ((s.halved q (if (s.wlPort q).lostIn 0 ≤ 1 then 0 else 1)).wlReport q 1) := by
  have hold (b : Bool) : ¬((s.wlPort q).half && b) = true := by rw [hh, Bool.false_and]; exact Bool.false_ne_true
  have hfixed : (if (s.wlPort q).spareDead = true then 0 else 1) = 1 := if_neg (ne_true_of_eq_false hd)
  unfold State.goHalf
  dsimp only
  rw [hfixed, if_neg (hold _), if_neg (hold _), if_neg (ne_true_of_eq_false hh), if_neg (ne_true_of_eq_false hh)]
  by_cases h0 : (s.wlPort q).lostIn 0 ≤ 1
  · rw [if_pos h0]
    exact if_pos h0
  · rw [if_neg h0]
    exact (if_neg h0).trans (if_pos (h1.resolve_left h0))

theorem halved_wlPort (s : State) (q h : Nat) : (s.halved q h).wlPort q = { s.wlPort q with half := true, echoes := [], latOk := false } := by
  rw [State.halved, wlPort_add, wlPort_setWlPort]

theorem halved_state {h : Nat} (hs : s.wlState q = 2) : (s.halved q h).wlState q = 3 := by
  have hnew : (if s.wlState q = wlIdle then wlIdle else wlHalf) = 3 := if_neg (by rw [hs]; decide)
  rw [State.halved, hnew, State.wlState, State.add, get_set_apart (.inl (by simp only [R.TB_WL_LAT_LAT, R.WL_STATUS_STATE]; omega)), get_setWlPort,
    get_setFlag_apart (.inr (by simp only [R.WL_STATUS_SPARE_IN_USE, R.WL_STATUS_STATE]; omega)),
    get_set_apart (.inr (by simp only [R.WL_STATUS_HALF, R.WL_STATUS_STATE]; omega))]
  exact wlState_set s q 3 (by decide)

theorem halved_half {h : Nat} (hh : h < 2) : (s.halved q h).get (R.WL_STATUS_HALF q) = h := by
  rw [State.halved, State.add, get_set_apart (.inl (by simp only [R.TB_WL_LAT_LAT, R.WL_STATUS_HALF]; omega)), get_setWlPort,
    get_setFlag_apart (.inr (by simp only [R.WL_STATUS_SPARE_IN_USE, R.WL_STATUS_HALF]; omega)), get_set_same _ _ _ (show 4 + 1 ≤ 64 by decide)]
  exact Nat.mod_eq_of_lt hh

theorem halved_lat {h : Nat} : (s.halved q h).get (R.TB_WL_LAT_LAT q) = (s.get (R.TB_WL_LAT_LAT q) + 52) % 2 ^ 24 := by
  rw [State.halved, State.add, get_set_same _ _ _ (show 0 + 24 ≤ 64 by decide), get_setWlPort,
    get_setFlag_apart (.inl (by simp only [R.WL_STATUS_SPARE_IN_USE, R.TB_WL_LAT_LAT]; omega)),
    get_set_apart (.inl (by simp only [R.WL_STATUS_HALF, R.TB_WL_LAT_LAT]; omega)),
    get_set_apart (.inl (by simp only [R.WL_STATUS_STATE, R.TB_WL_LAT_LAT]; omega)), R.TB_WL_LAT_LAT]

theorem halved_lane {h l : Nat} : (s.halved q h).reg (0xe00104 + q * 0x40000 + l * 8) = s.reg (0xe00104 + q * 0x40000 + l * 8) := by
  rw [State.halved, State.add, reg_set_other _ _ _ _ (by simp only [R.TB_WL_LAT_LAT]; omega), reg_setWlPort, State.setFlag,
    reg_set_other _ _ _ _ (by simp only [R.WL_STATUS_SPARE_IN_USE]; omega), reg_set_other _ _ _ _ (by simp only [R.WL_STATUS_HALF]; omega),
    reg_set_other _ _ _ _ (by simp only [R.WL_STATUS_STATE]; omega)]

/-- With y and x lost, the half that one spare can make whole. -/
theorem wholeHalf_of_pair {w : WlSt} (hf : w.failed = [y, x]) :
    (w.lostIn 0 ≤ 1 ∨ w.lostIn 8 ≤ 1) ∧ (if w.lostIn 0 ≤ 1 then 0 else 1) = (if x < 8 ∧ y < 8 then 1 else 0) := by
  rw [lostIn_pair hf, lostIn_pair hf]
  constructor <;> split_ifs <;> omega

/-- A second data lane that fails puts the port at half width. -/
theorem laneLoss_halves {l : Fin 17} (hl : s.live = true) (hs : s.wlState p = 2) (hk : s.flag (R.WL_LANE_STATUS_LOCK p l) = true)
    (hsp : s.spareLane p = some sp) (hne : sp ≠ l) (hdead : (s.wlPort p).spareDead = false) (huse : s.flag (R.WL_STATUS_SPARE_IN_USE p) = true)
    (hone : (s.wlPort p).failed = [y]) (hxy : s.get (R.WL_LANE_STATUS_LOGICAL p l) ≠ y) (hhalf : (s.wlPort p).half = false) :
    ∃ u : State, exec (.wlLaneLockLoss p [l.val] false now) s = .next ((List.range 16).foldl (fun s _ => s.sendControl p .echoReq) (u.wlReport p 1)) ∧
      u.OutOfLock p l ∧ u.wlState p = 3 ∧ u.get (R.WL_STATUS_HALF p) = (if s.get (R.WL_LANE_STATUS_LOGICAL p l) < 8 ∧ y < 8 then 1 else 0) ∧
      (u.wlPort p).latOk = false ∧ u.get (R.TB_WL_LAT_LAT p) = (s.get (R.TB_WL_LAT_LAT p) + 52) % 2 ^ 24 := by
  have hup : (s.advance now).wlUp p = true := (wlUp_advance ..).trans (wlUp_of_runs (wlRuns_of_state (.inl hs)))
  have hexec : exec (.wlLaneLockLoss p [l.val] false now) s = _ :=
    (exec_laneLoss hl).trans (congrArg _ (laneFails_halved (sp := sp) hup (advance_flag.trans hk) hsp hne (advance_flag.trans huse)))
  have hstate : (((s.advance now).laneLost p l).laneFailed p l).wlState p = 2 := (wlState_setWlPort ..).trans ((laneLost_state ..).trans hs)
  have hlost : (((s.advance now).laneLost p l).laneFailed p l).OutOfLock p l := State.OutOfLock.of_reg (reg_setWlPort ..) (laneLost_outOfLock ..)
  have hlat : (((s.advance now).laneLost p l).laneFailed p l).get (R.TB_WL_LAT_LAT p) = s.get (R.TB_WL_LAT_LAT p) :=
    (get_setWlPort ..).trans (laneLost_get_other (by simp only [R.TB_WL_LAT_LAT]; omega))
  have hport : (((s.advance now).laneLost p l).laneFailed p l).wlPort p = (s.wlPort p).failing (s.get (R.WL_LANE_STATUS_LOGICAL p l)) false := by
    have hspare : ((s.advance now).laneLost p l).spareLane p = some sp := (laneLost_spareLane ..).trans hsp
    rw [laneFailed_wlPort, laneLost_wlPort, laneLost_logical, wlPort_advance, advance_get, hspare,
      decide_eq_false fun e => hne (Option.some.inj e)]
  have hnot : [y].contains (s.get (R.WL_LANE_STATUS_LOGICAL p l)) = false := by
    rw [← Bool.not_eq_true, List.contains_iff_mem, List.mem_singleton]
    exact hxy
  have hfailed : ((s.wlPort p).failing (s.get (R.WL_LANE_STATUS_LOGICAL p l)) false).failed = [y, s.get (R.WL_LANE_STATUS_LOGICAL p l)] := by
    rw [WlSt.failing, hone, hnot]
    rfl
  have hdead' : ((s.wlPort p).failing (s.get (R.WL_LANE_STATUS_LOGICAL p l)) false).spareDead = false := by
    rw [WlSt.failing, hdead]
    rfl
  obtain ⟨hwhole, hwhich⟩ := wholeHalf_of_pair hfailed
  revert hexec hstate hlost hlat hport
  generalize ((s.advance now).laneLost p l).laneFailed p l = z
  intro hexec hstate hlost hlat hport
  rw [goHalf_of_full (by rw [hport]; exact hhalf) (by rw [hport, hdead']) (by rw [hport]; exact hwhole), hport, hwhich] at hexec
  refine ⟨_, hexec, hlost.of_reg halved_lane, halved_state hstate, halved_half (by split <;> decide), ?_, ?_⟩
  · rw [halved_wlPort]
  · rw [halved_lat, hlat]

/-! ### A lane that regains lock (R581) -/

/-- Lane i is the spare if it is lane l. -/
def State.spareMarked (s : State) (q l i : Nat) : State := s.setFlag (R.WL_LANE_STATUS_IS_SPARE q i) (i = l)

theorem spareMarked_same (s : State) (q l i : Nat) : (s.spareMarked q l i).flag (R.WL_LANE_STATUS_IS_SPARE q i) = decide (i = l) :=
  flag_setFlag_same _ _ _ (show 3 + 1 ≤ 64 by decide) (show 0 < 1 by decide)

theorem spareMarked_other {i j : Nat} (h : i ≠ j) :
    (s.spareMarked q l j).flag (R.WL_LANE_STATUS_IS_SPARE q i) = s.flag (R.WL_LANE_STATUS_IS_SPARE q i) :=
  flag_setFlag_apart (.inl (by simp only [R.WL_LANE_STATUS_IS_SPARE]; omega))

/-- Lane l is the spare, and no other. -/
def State.spareMoved (s : State) (q l : Nat) : State := (List.range 17).foldl (fun s i => s.spareMarked q l i) s

theorem spareMoved_get (ha : ∀ i, (R.WL_LANE_STATUS_IS_SPARE q i).Apart g) : (s.spareMoved q l).get g = s.get g :=
  foldl_keeps (fun s => s.get g) _ (fun _ i => get_setFlag_apart (ha i)) _ _

theorem spareMoved_spare (s : State) (q l : Nat) {i : Nat} (hi : i < 17) : (s.spareMoved q l).flag (R.WL_LANE_STATUS_IS_SPARE q i) = decide (i = l) :=
  foldl_establishes (I := fun _ => True) (Q := fun s => s.flag (R.WL_LANE_STATUS_IS_SPARE q i) = decide (i = l)) (fun _ _ _ _ => trivial)
    (fun s _ => spareMarked_same s q l i) (fun _ _ _ hb _ h => (spareMarked_other hb.symm).trans h) (List.mem_range.2 hi) s trivial

/-- Lane l, in lock again, becomes the new spare. -/
def State.regained (s : State) (q l : Nat) : State :=
  ((((s.setFlag (R.WL_LANE_STATUS_LOCK q l) true).spareMoved q l).set (R.WL_LANE_STATUS_LOGICAL q l) 16).setFlag (R.WL_STATUS_SPARE_IN_USE q) false).setWlPort q
    { s.wlPort q with failed := [], spareDead := false }

theorem exec_laneRegains {l : Fin 17} (hl : s.live = true) (hp : s.wlUp p = true) (hk : s.flag (R.WL_LANE_STATUS_LOCK p l) = false)
    (hh : (s.wlPort p).half = false) : exec (.wlLaneRegainsLock p l) s = .next (s.regained p l) := by
  have hup : ¬((!s.wlUp p) = true ∨ s.flag (R.WL_LANE_STATUS_LOCK p l) = true) := by
    rw [hp, hk]
    decide
  rw [exec, execWlLaneRegainsLock, whenLive_of_live hl]
  dsimp only
  rw [if_neg hup, if_neg (ne_true_of_eq_false hh)]
  rfl

theorem regained_lock (s : State) (q l : Nat) : (s.regained q l).flag (R.WL_LANE_STATUS_LOCK q l) = true := by
  rw [State.regained, flag_setWlPort, flag_setFlag_apart (.inl (by simp only [R.WL_STATUS_SPARE_IN_USE, R.WL_LANE_STATUS_LOCK]; omega)),
    flag_set_apart (.inr (by simp only [R.WL_LANE_STATUS_LOGICAL, R.WL_LANE_STATUS_LOCK]; omega)),
    flag_of_get (spareMoved_get fun i => by simp only [Field.Apart, R.WL_LANE_STATUS_IS_SPARE, R.WL_LANE_STATUS_LOCK]; omega)]
  exact flag_setFlag_same s (R.WL_LANE_STATUS_LOCK q l) true (show 0 + 1 ≤ 64 by decide) (show 0 < 1 by decide)

theorem regained_logical (s : State) (q l : Nat) : (s.regained q l).get (R.WL_LANE_STATUS_LOGICAL q l) = 16 := by
  rw [State.regained, get_setWlPort, get_setFlag_apart (.inl (by simp only [R.WL_STATUS_SPARE_IN_USE, R.WL_LANE_STATUS_LOGICAL]; omega))]
  exact get_set_same _ (R.WL_LANE_STATUS_LOGICAL q l) 16 (show 4 + 5 ≤ 64 by decide)

theorem regained_use (s : State) (q l : Nat) : (s.regained q l).flag (R.WL_STATUS_SPARE_IN_USE q) = false := by
  rw [State.regained, flag_setWlPort]
  exact flag_setFlag_same _ (R.WL_STATUS_SPARE_IN_USE q) false (show 3 + 1 ≤ 64 by decide) (show 0 < 1 by decide)

theorem regained_spare (s : State) (q l : Nat) {i : Nat} (hi : i < 17) : (s.regained q l).flag (R.WL_LANE_STATUS_IS_SPARE q i) = decide (i = l) := by
  rw [State.regained, flag_setWlPort, flag_setFlag_apart (.inl (by simp only [R.WL_STATUS_SPARE_IN_USE, R.WL_LANE_STATUS_IS_SPARE]; omega)),
    flag_set_apart (by simp only [Field.Apart, R.WL_LANE_STATUS_LOGICAL, R.WL_LANE_STATUS_IS_SPARE]; omega), spareMoved_spare _ _ _ hi]

theorem regained_logical_other {i : Nat} (hi : i ≠ l) : (s.regained q l).get (R.WL_LANE_STATUS_LOGICAL q i) = s.get (R.WL_LANE_STATUS_LOGICAL q i) := by
  rw [State.regained, get_setWlPort, get_setFlag_apart (.inl (by simp only [R.WL_STATUS_SPARE_IN_USE, R.WL_LANE_STATUS_LOGICAL]; omega)),
    get_set_apart (.inl (by simp only [R.WL_LANE_STATUS_LOGICAL]; omega)),
    spareMoved_get fun j => by simp only [Field.Apart, R.WL_LANE_STATUS_IS_SPARE, R.WL_LANE_STATUS_LOGICAL]; omega]
  exact get_setFlag_apart (.inl (by simp only [R.WL_LANE_STATUS_LOCK, R.WL_LANE_STATUS_LOGICAL]; omega))

/-! ### Electrical idle (R584, R585) -/

/-- A port that may idle has sent nothing for ENTER_US. -/
def State.idleDue (s : State) (q : Nat) : Prop :=
  s.flag (R.WL_CTRL_IDLE_EN q) = true ∧ (s.wlPort q).lastTx + 1000 * s.get (R.WL_IDLE_ENTER_US q) ≤ s.raw

theorem notPs2_of_live (hl : s.live = true) : s.get R.HTH_PS_STATUS_STATE ≠ 2 := by
  rw [State.live, Bool.and_eq_true, decide_eq_true_iff] at hl
  exact hl.2

/-- A port sends its announcement and is IDLE. -/
def State.idleEntered (s : State) (q : Nat) : State := ((s.sendFlit q none (.idle true false)).set (R.WL_STATUS_STATE q) wlIdle).wlCount q 10 1

theorem exec_idleEntry (hl : s.live = true) (hr : s.wlRuns p = true) (hd : (s.advance now).idleDue p) : exec (.idleEntry p now) s = .next
    (if (s.wlPort p).tx ≠ [] then (s.advance now).wlCount p 11 1 else (s.advance now).idleEntered p) := by
  obtain ⟨hu, hh⟩ := up_of_live hl
  have hr' : (s.advance now).wlRuns p = true := (wlRuns_advance ..).trans hr
  rw [exec, execIdleEntry, if_pos ⟨hu, by rw [hh, Bool.not_false]⟩]
  exact congrArg _ (if_pos ⟨hr', .inr hd⟩)

theorem idleEntry_of_not_due (hl : s.live = true) (hd : ¬(s.advance now).idleDue p) : exec (.idleEntry p now) s = .next (s.advance now) := by
  obtain ⟨hu, hh⟩ := up_of_live hl
  rw [exec, execIdleEntry, if_pos ⟨hu, by rw [hh, Bool.not_false]⟩]
  exact congrArg _ (if_neg fun e => e.2.elim (notPs2_of_live hl) hd)

theorem idleEntry_enters (hl : s.live = true) (hr : s.wlRuns p = true) (hd : (s.advance now).idleDue p) (htx : (s.wlPort p).tx = []) :
    ∃ t, exec (.idleEntry p now) s = .next t ∧ t.wlState p = 4 ∧ Sys2Proof.Spec.sends s t p none (.idle true false) ∧
      t.get (R.WL_CNT_COUNT p 10) = (s.get (R.WL_CNT_COUNT p 10) + 1) % 2 ^ 64 := by
  refine ⟨(s.advance now).idleEntered p, ?_, ?_, ?_, ?_⟩
  · rw [exec_idleEntry hl hr hd, if_neg (not_not.2 htx)]
  · exact (wlState_of_get (get_wlCount_apart (by simp only [R.WL_STATUS_STATE]; omega))).trans (wlState_set _ _ _ (by decide))
  · obtain ⟨ack, v, n, hsend⟩ := sendFlit_sends (s.advance now) p none (.idle true false)
    exact ⟨ack, v, n, by rw [State.idleEntered, wlCount_out, set_out, hsend, advance_out]⟩
  · rw [State.idleEntered, get_wlCount_same, get_set_apart (.inl (by simp only [R.WL_STATUS_STATE, R.WL_CNT_COUNT]; omega)),
      sendFlit_get (cnt_offSend (by decide) (by decide)), advance_get]

theorem idleEntry_aborts (hl : s.live = true) (hr : s.wlRuns p = true) (hd : (s.advance now).idleDue p) (htx : (s.wlPort p).tx ≠ []) :
    ∃ t, exec (.idleEntry p now) s = .next t ∧ t.wlState p = s.wlState p ∧ t.wl = s.wl ∧ t.out = s.out ∧
      t.get (R.WL_CNT_COUNT p 11) = (s.get (R.WL_CNT_COUNT p 11) + 1) % 2 ^ 64 := by
  refine ⟨(s.advance now).wlCount p 11 1, ?_, wlState_of_get ?_, ?_, ?_, ?_⟩
  · rw [exec_idleEntry hl hr hd, if_pos htx]
  · rw [get_wlCount_apart (by simp only [R.WL_STATUS_STATE]; omega), advance_get]
  · rw [wlCount_wl]
    rfl
  · rw [wlCount_out, advance_out]
  · rw [get_wlCount_same, advance_get]

/-- A port leaves electrical idle with no control flit waiting. -/
def State.idleLeft (s : State) (q : Nat) : State :=
  (s.set (R.WL_STATUS_STATE q) (if (s.wlPort q).half then wlHalf else wlFull)).setWlPort q { s.wlPort q with ctl := [] }

theorem idleExit_leaves (hl : s.live = true) (hs : s.wlState p = 4) (htx : (s.wlPort p).tx ≠ []) (hctl : (s.wlPort p).ctl = []) :
    ∃ t, exec (.idleExit p now) s = .next t ∧ t.wlState p = (if (s.wlPort p).half = true then 3 else 2) ∧ t.wlPort p = s.wlPort p ∧ t.out = s.out := by
  have hs' : (s.advance now).wlState p = wlIdle := (wlState_advance ..).trans hs
  refine ⟨(s.advance now).idleLeft p, ?_, ?_, ?_, ?_⟩
  · rw [exec, execIdleExit, whenLive_of_live hl]
    dsimp only
    rw [if_pos ⟨hs', .inl htx⟩, wlPort_advance, hctl]
    rfl
  · rw [State.idleLeft, wlState_setWlPort, wlState_set _ _ _ (by split <;> decide)]
    rfl
  · rw [State.idleLeft, wlPort_setWlPort, wlPort_advance, ← hctl]
  · rw [State.idleLeft, setWlPort_out, set_out, advance_out]

theorem idleExit_stays (hl : s.live = true) (htx : (s.wlPort p).tx = []) (hctl : (s.wlPort p).ctl = []) :
    exec (.idleExit p now) s = .next (s.advance now) := by
  rw [exec, execIdleExit, whenLive_of_live hl]
  exact congrArg _ (if_neg fun e => e.2.elim (fun h => h htx) (fun h => h hctl))

/-! ### The obligation -/

/-- Settles O53: each family of clauses is the lemma about its command, from a port that runs, trains, loses a lane or idles. -/
theorem linksSendAndTrain : Obligations.LinksSendAndTrain := by
  unfold Obligations.LinksSendAndTrain
  refine ⟨fun p m now s hl hr => ⟨fun l f r => flitTransmit_oldest hl hr, flitTransmit_idle hl hr, auditSend_counts hl hr⟩, fun p now s hl hr => ?_,
    fun p now s hl ht => ?_, fun p l now sp s hl hs hk hsp hne hdead => ⟨fun huse hnone => laneLoss_spares hl hs hk hsp hne hdead huse hnone,
      fun y huse hone _ _ hxy hhalf => laneLoss_halves hl hs hk hsp hne hdead huse hone hxy hhalf⟩,
    fun p l s hl hp hk hh => ⟨_, exec_laneRegains hl hp hk hh, regained_lock .., regained_logical .., regained_use .., fun i hi => regained_spare _ _ _ hi,
      fun i _ hne => regained_logical_other hne⟩,
    fun p now s hl => ⟨idleEntry_enters hl, idleEntry_aborts hl, idleEntry_of_not_due hl, idleExit_leaves hl, fun _ => idleExit_stays hl⟩⟩
  · have hup := wlUp_of_runs hr
    refine ⟨timeFlitSend_sends hl hr, timeFlitSend_of_not_due hl, exec_wlRetrain hl, fun hi => ?_, fun hi => ?_, wlFall_loses hup⟩
    · rw [exec_clockLoss hl hup, if_pos hi]
    · rw [exec_clockLoss hl hup, if_neg (by rw [hi]; decide)]
  · refine ⟨fun b q bufs ready => ⟨trainingBlock_rises hl ht, trainingBlock_waits hl ht⟩, fun rev invd => receiverReady_locks hl ht,
      trainTimeout_restarts hl ht, trainTimeout_of_early hl⟩

end Sys2Proof.Machine
end
